-- ==== Sys2Proof/Word.lean ====
section
/-! DEFINITION. The word of the register map, register fields, register rows, the two lanes and the three variants. -/

namespace Sys2Proof

/-- A register word (00 R21). -/
abbrev Word := BitVec 32

namespace Machine

/-- One of the two lanes (01 R23). -/
inductive LaneId where
  | a
  | b
deriving DecidableEq, Repr, Inhabited

/-- The other lane. -/
def LaneId.other : LaneId → LaneId
  | .a => .b
  | .b => .a

/-- The variants of the module (00, table of variants). -/
inductive Variant where
  | kx960
  | kx944
  | kx922
deriving DecidableEq, Repr, Inhabited

/-- A register field: byte address of its register, lowest bit, width in bits. -/
structure Fld where
  addr : Nat
  lo : Nat
  w : Nat
deriving DecidableEq, Repr

/-- One row of the register table: offset in the page, distance between repetitions, their number, the bits writable as
RW, W1C, WO and RWS (18 R604), and the reset value. -/
structure RegRow where
  off : Nat
  stride : Nat
  count : Nat
  rw : Nat
  w1c : Nat
  wo : Nat
  rws : Nat
  reset : Nat
deriving DecidableEq, Repr

end Machine
end Sys2Proof
end

