-- ==== Sys2Proof/Data/Nav.lean ====
section
/-! DEFINITION. The data of the intake (03_reference_intake) and of the Plotter (04_state_estimation). Times are ns on the
lane's chronometer, lengths m, angles rad in the filters and degrees elsewhere, forces N and moments N·m in the Plotter. -/

namespace Sys2Proof.Machine

/-! ### The Chart's reference section -/

/-- Kinds of slot (R113), coded as SLOT_STAT.KIND. -/
inductive RefKind where
  | position
  | heading
  | motion
  | wind
deriving DecidableEq, Repr, Inhabited

/-- TIME_MODE (R114, R125), coded as SLOT_STAT.TIME_MODE. -/
inductive TimeMode where
  | chron
  | arrival
  | sensor
deriving DecidableEq, Repr, Inhabited

/-- What a position slot measures (R123). -/
inductive PosForm where
  | absolute
  | tautWire
  | laser
  | relGnss
deriving DecidableEq, Repr, Inhabited

/-- A two-point linear scaling of an analogue input: input number, value at code 0 and value per 1 µV or 1 nA. -/
structure AnaMap where
  input : Nat
  zero : Rat := 0
  gain : Rat := 0
deriving DecidableEq, Repr, Inhabited

/-- One slot entry of the Chart (R114): an entry that the Chart leaves out has the default of its kind, and SIGMA none. -/
structure SlotEntry where
  /-- Source code (R116). -/
  source : Nat
  /-- Antenna 0-2 of a Sextant position. -/
  ant : Nat := 0
  form : PosForm := .absolute
  /-- Analogue inputs by quantity code (R118; 0x12 and 0x13 stand for the taut wire's angles, 0x14 for its depth). -/
  inputs : List (Nat × AnaMap) := []
  /-- Wire depth of the Chart, m (R123). -/
  depth : Rat := 0
  group : Option Nat := none
  mode : Option TimeMode := none
  /-- ms. -/
  latency : Rat := 0
  /-- Per axis of the kind: position m; heading, roll, pitch °; wind m/s. And heave of a motion slot, m. -/
  sigma : Option Rat := none
  sigma2 : Option Rat := none
  useQuality : Bool := false
  gate : Option Rat := none
  jump : Option Rat := none
  medianLim : Option Rat := none
  /-- Second limit: heave of a motion slot, direction of a wind slot. -/
  medianLim2 : Option Rat := none
  rejectCnt : Nat := 5
  /-- ms. -/
  timeout : Nat := 2000
  /-- s. -/
  admitTime : Option Nat := none
  lever : Rat × Rat × Rat := (0, 0, 0)
  /-- Surveyed origin: north, east, down. -/
  origin : Option (Rat × Rat × Rat) := none
  /-- Start and end of the shadow sector, °. -/
  shadow : Option (Rat × Rat) := none
  deckGimbal : Bool := true
deriving DecidableEq, Repr, Inhabited

/-- One slot entry with its defaults filled in (R114). -/
structure SlotChart where
  /-- Source code (R116). -/
  source : Nat
  /-- Antenna 0-2 of a Sextant position. -/
  ant : Nat := 0
  form : PosForm := .absolute
  /-- Analogue inputs by quantity code (R118; 0x12 and 0x13 stand for the taut wire's angles, 0x14 for its depth). -/
  inputs : List (Nat × AnaMap) := []
  /-- Wire depth of the Chart, m (R123). -/
  depth : Rat := 0
  group : Nat
  mode : TimeMode
  /-- ms. -/
  latency : Rat := 0
  /-- Per axis of the kind: position m; heading, roll, pitch °; heave m; wind m/s. -/
  sigma : Rat
  /-- Heave of a motion slot, m. -/
  sigma2 : Rat := 1 / 100
  useQuality : Bool := false
  gate : Rat := 69 / 5
  jump : Rat := 10
  medianLim : Rat := 3
  /-- Second limit: heave of a motion slot, direction of a wind slot. -/
  medianLim2 : Rat := 15
  rejectCnt : Nat := 5
  /-- ms. -/
  timeout : Nat := 2000
  /-- s. -/
  admitTime : Nat := 30
  lever : Rat × Rat × Rat := (0, 0, 0)
  /-- Surveyed origin: north, east, down. -/
  origin : Option (Rat × Rat × Rat) := none
  /-- Start and end of the shadow sector, °. -/
  shadow : Option (Rat × Rat) := none
  deckGimbal : Bool := true
deriving DecidableEq, Repr, Inhabited

/-- One sentence table entry (R118). -/
structure SentEntry where
  /-- Six characters; 42 is "*". -/
  pat : List Nat
  ports : Nat
  slot : Nat
  validField : Option Nat
  validRule : Nat
  timeField : Option Nat
  /-- Field index, quantity code, format code. -/
  maps : List (Nat × Nat × Nat)
deriving DecidableEq, Repr, Inhabited

/-- A field map of 8 bytes (R120, R240, R627): byte offset, quantity code, type byte, scale. -/
structure ByteMap where
  ofs : Nat
  qty : Nat
  ty : Nat
  scale : Rat
deriving DecidableEq, Repr, Inhabited

/-- One binary table entry (R120). -/
structure BinEntry where
  key : Nat
  syncLen : Nat := 0
  frameLen : Nat
  check : Nat := 0
  slot : Nat
  /-- 0 serial, 1 UDP, 2 CAN. -/
  transport : Nat
  ports : Nat
  ext : Bool := false
  maps : List ByteMap
deriving DecidableEq, Repr, Inhabited

/-- Reference section of the Chart (R114, R118, R120, R141) with the origin of the earth frame (00 R15): degrees. -/
structure RefChart where
  slots : List (Option SlotEntry) := List.replicate 30 none
  /-- s. -/
  shortDropout : Nat := 5
  shortAdmit : Nat := 5
  tdegFactor : Rat := 4
  deselect : Nat := 0
  /-- Sentence and binary table, as the Chart holds them: entries of 48 and 64 bytes (R118, R120). -/
  sentTable : List (List Nat) := []
  binTable : List (List Nat) := []
  originLat : Rat := 0
  originLon : Rat := 0
deriving DecidableEq, Repr, Inhabited

/-! ### The intake -/

/-- Slot states (R132), coded as SLOT_STAT.STATE. -/
inductive SlotState where
  | unused
  | waiting
  | admitting
  | admitted
  | suspect
  | rejected
  | deselected
deriving DecidableEq, Repr, Inhabited

/-- A parsed measurement on its way to the next input latch (R117): arrival time a, or the time the source carries, and the time
of its input latch, ns. -/
structure RawSample where
  slot : Nat
  arrival : Rat
  latch : Rat := 0
  chron : Option Rat
  /-- Sensor time of day, s. -/
  tod : Option Rat
  valid : Bool
  /-- Values by quantity code (R118): degrees, m, m/s. -/
  q : List (Nat × Rat)
deriving DecidableEq, Repr, Inhabited

/-- A reduced sample: its values by axis of the kind (position n, e; heading °; motion roll, pitch °, heave m; wind speed m/s,
direction °), measurement time, variance per axis before the factors of R139. -/
structure Reduced where
  slot : Nat
  time : Rat
  z : List Rat
  var : List Rat
deriving DecidableEq, Repr, Inhabited

/-- Quality that waits for its sample (R119): sensor time, arrival, values. -/
structure QualityIn where
  tod : Option Rat
  arrival : Rat
  q : List (Nat × Rat)
deriving DecidableEq, Repr, Inhabited

/-- The time model of a SENSOR slot (R126-R128). -/
structure TimeModel where
  learning : Bool := true
  updates : Nat := 0
  /-- The first valid sample has set OFS (R127). -/
  set : Bool := false
  ofs : Rat := 0
  rate : Rat := 0
  su : Rat := 0
  /-- Residuals of the valid samples since the last update, with the tick of each; the last sample's sensor time. -/
  resid : List (Nat × Rat) := []
  lastS : Rat := 0
  degraded : Bool := false
  above : Nat := 0
  within : Nat := 0
deriving DecidableEq, Repr, Inhabited

/-- One slot's state in a lane (R132-R139). -/
structure SlotSt where
  st : SlotState := .unused
  /-- Latch time of the latest valid sample (R133). -/
  lastValid : Option Rat := none
  /-- Measurement time of the latest valid sample (R148). -/
  lastMeas : Option Rat := none
  /-- It waits for an anchor (R124). -/
  noOrigin : Bool := false
  anchor : Option (Rat × Rat × Rat) := none
  /-- Consistency time, ns, and consecutive passing samples (R133, R138). -/
  acc : Rat := 0
  passes : Nat := 0
  fails : Nat := 0
  /-- Ramp factor and ticks since entry into ADMITTED (R139). -/
  ramp : Rat := 1
  rampTicks : Nat := 0
  sensorInvalid : Bool := false
  /-- Takes part in a disagreement under R136; under R137. -/
  dis136 : Bool := false
  dis137 : Bool := false
  /-- Latest valid reduced sample. -/
  last : Option Reduced := none
  /-- t_meas of samples judged in the last 2000 ms (R131). -/
  seen : List Rat := []
  quality : List QualityIn := []
  tm : TimeModel := {}
deriving DecidableEq, Repr, Inhabited

/-- Run of evaluations of the two-group comparison (R137). -/
structure TwoGroup where
  on : Bool := false
  run : Nat := 0
deriving DecidableEq, Repr, Inhabited

/-- What the filter does at a time (R156-R159, R162): the update by a sample, a bias set to 0 on entry into ADMITTED with the slot's
σ, the seeding of the state, the heave velocity's update. -/
inductive FilterAct where
  | update
  | biasReset (sigma : Rat)
  | seed
  | heave
deriving DecidableEq, Repr, Inhabited

/-- One act of the filter at `s.time`: a judged sample that the Plotter uses, or one of the other acts (R157). -/
structure Judged where
  s : Reduced
  /-- Variance with the factors of R139. -/
  var : List Rat
  act : FilterAct := .update
  /-- State elements that it leaves as they are (R159, R164). -/
  fixed : List Nat := []
deriving DecidableEq, Repr, Inhabited

/-- A write of INT_DESELECT or a command of INT_CMD (R141, R146). -/
inductive IntOp where
  | deselect (mask : Nat)
  | cmd (code slot : Nat)
deriving DecidableEq, Repr, Inhabited

/-- The intake of a lane. -/
structure IntakeSt where
  slots : List SlotSt := List.replicate 30 {}
  /-- Parsed since the last input latch, oldest first (R117). -/
  fresh : List RawSample := []
  /-- Latched in this tick. -/
  latched : List RawSample := []
  /-- INT_DESELECT was written since lane start (R141). -/
  desWritten : Bool := false
  pos2 : TwoGroup := {}
  hdg2 : TwoGroup := {}
  /-- No majority under R136 at the last evaluation: position, heading. -/
  pos136 : Bool := false
  hdg136 : Bool := false
  /-- REF_LOSS, HEADING_LOSS at the last position-cycle tick (R140). -/
  refLoss : Bool := true
  hdgLoss : Bool := true
  /-- An own-vessel slot failed R134 or R135 in this tick; the conditions of R163 have held since the position cycle began. -/
  failed : Bool := false
  whole : Bool := false
  /-- Writes of INT_DESELECT and INT_CMD of this tick, which act before its samples are judged (R141). -/
  ops : List IntOp := []
  /-- Samples an own-vessel slot's analogue source took since the last position cycle: fine values, times, ok. -/
  ana : List (Nat × List (Rat × Rat × Bool)) := []
deriving DecidableEq, Repr, Inhabited

/-! ### The Chart's vessel-model and target sections -/

/-- Vessel-model section (R155): SI units, angles in degrees; what has no default is out of its range until it is set. -/
structure VesselChart where
  m : List (List Rat) := []
  d : List (List Rat) := []
  rho : Rat := 49 / 40
  aF : Rat := 0
  aL : Rat := 0
  lOA : Rat := 0
  cx : List Rat := []
  cy : List Rat := []
  cn : List Rat := []
  /-- s. -/
  windTau : Rat := 3
  qUV : Rat := 1 / 50
  /-- °/s², as the other angles of this section are in degrees. -/
  qR : Rat := 1 / 20
  qW : Rat := 1 / 2
  qB : Rat := 500
  qBM : Rat := 20000
  biasTau : Rat := 600
  biasScale : Rat := 1
  p0Pos : Rat := 100
  p0Hdg : Rat := 30
  p0Vel : Rat := 2
  p0R : Rat := 1
  p0B : Rat := 50000
  p0BM : Rat := 2000000
  validPos : Rat := 2
  validHdg : Rat := 1
  lostPos : Rat := 20
  lostHdg : Rat := 10
  envSettle : Rat := 120
deriving DecidableEq, Repr, Inhabited

/-- One track entry (R172), in m, s and degrees. -/
structure TrackChart where
  /-- Bits 0-11: P0-P11; bits 12-19: H0-H7. -/
  feed : Nat
  stationary : Bool := false
  lever : Rat × Rat × Rat := (0, 0, 0)
  qA : Rat := 1 / 20
  qTurn : Rat := 1 / 10
  p0 : Rat := 20
  valid : Rat := 5
  coast : Rat := 5
  lost : Rat := 30
deriving DecidableEq, Repr, Inhabited

/-- Target section (R172). -/
structure TargetChart where
  tracks : List (Option TrackChart) := List.replicate 16 none
deriving DecidableEq, Repr, Inhabited

/-! ### The Plotter -/

/-- Force and moment in body axes, N and N·m. -/
structure Wrench where
  x : Rat := 0
  y : Rat := 0
  n : Rat := 0
deriving DecidableEq, Repr, Inhabited

/-- One tick as the history keeps it (R166). -/
structure HistTick where
  /-- Start of the tick to which it propagates. -/
  time : Rat
  /-- s. -/
  dt : Rat
  tauT : Wrench
  tauW : Wrench
deriving DecidableEq, Repr, Inhabited

/-- A history entry (R166): start of cycle, state and covariance there, ticks and the filter's acts in the order they came. -/
structure HistEntry where
  time : Rat := 0
  x : List Rat := []
  p : List (List Rat) := []
  ticks : List HistTick := []
  samples : List Judged := []
deriving DecidableEq, Repr, Inhabited

/-- A re-run (R167, R168). -/
structure Rerun where
  x : List Rat
  p : List (List Rat)
  /-- Time to which the covariance has been propagated; whether it was repaired (R160). -/
  pT : Rat
  rep : Bool := false
  /-- Start time of the cycle it is to take next. -/
  next : Rat
  /-- It has reached the live tick: ticks and samples of the cycle in progress done so far. -/
  live : Bool := false
  /-- Cycles it covers, and ticks since the first sample was judged. -/
  depth : Nat := 0
  age : Nat := 0
  /-- New start values of the entries it has passed. -/
  redo : List (Rat × List Rat × List (List Rat)) := []
deriving DecidableEq, Repr, Inhabited

/-- A published record (R183), exact. -/
structure PlotRec where
  time : Rat := 0
  st : Nat := 0
  n : Rat := 0
  e : Rat := 0
  psi : Rat := 0
  u : Rat := 0
  v : Rat := 0
  r : Rat := 0
  env : Wrench := {}
  /-- b as the state holds it, in the earth frame. -/
  envNE : Wrench := {}
  wind : Wrench := {}
  thrust : Wrench := {}
  rerun : Bool := false
  revised : Bool := false
  hdgOk : Bool := false
  posOk : Bool := false
  envValid : Bool := false
deriving DecidableEq, Repr, Inhabited

/-- The own-vessel filter (R150-R170). -/
structure PlotSt where
  x : List Rat := List.replicate 42 0
  p : List (List Rat) := []
  st : Nat := 0
  /-- The estimate has entered INIT since lane start (R162). -/
  begun : Bool := false
  seedPos : Option Nat := none
  seedHdg : Option Nat := none
  /-- Consistency time and time in VALID, s. -/
  consist : Rat := 0
  envTime : Rat := 0
  /-- ENV_VALID (R164). -/
  envOk : Bool := false
  /-- Time to which the covariance has been propagated; start of the tick to which the state has been. -/
  pTime : Rat := 0
  xTime : Rat := 0
  windX : Rat := 0
  windY : Rat := 0
  windOk : Bool := false
  roll : Rat := 0
  pitch : Rat := 0
  heave : Rat := 0
  heavePrev : Option Rat := none
  motionOk : Bool := false
  attMissing : Bool := false
  tauT : Wrench := {}
  tauW : Wrench := {}
  thrustCmd : Bool := false
  /-- Oldest first; and the entry of the cycle in progress. -/
  hist : List HistEntry := []
  cur : HistEntry := {}
  rerun : Option Rerun := none
  /-- Samples that wait for a new re-run (R168). -/
  wait : List Judged := []
  waitAge : Nat := 0
  revised : Bool := false
  prec : PlotRec := {}
  prev : PlotRec := {}
  /-- Length of the position cycle just ended, s. -/
  h : Rat := 0
  /-- Latest admitted Sextant attitude: roll, pitch, ° (R122, R156). -/
  sxAtt : Option (Rat × Rat) := none
  /-- Voted roll and pitch of the last 2000 ms, newest first: time, roll, pitch (R122). -/
  attHist : List (Rat × Rat × Rat) := []
deriving DecidableEq, Repr, Inhabited

/-- One target track (R171-R177): state n, e, v_n, v_e, ψ, r in m and rad. -/
structure TrackSt where
  st : Nat := 0
  x : List Rat := List.replicate 6 0
  p : List (List Rat) := []
  seeded : Bool := false
  updates : Nat := 0
  /-- ns since the last position update; `none` before the first. And without a position update since it has been served. -/
  age : Option Rat := none
  idle : Rat := 0
  hdgFromCog : Bool := false
deriving DecidableEq, Repr, Inhabited

/-- Plotter state of a lane. -/
structure PlotterSt where
  own : PlotSt := {}
  tracks : List TrackSt := List.replicate 16 {}
deriving DecidableEq, Repr, Inhabited

end Sys2Proof.Machine
end

