-- ==== Sys2Proof/Data/Ctl.lean ====
section
/-! DEFINITION. The data of position, heading and track control (05) and of thrust allocation and the channel loops (06).
Units here: m, s, degrees, kN, kN·m, kW, A, °C, Hz and each channel's demand units. -/

namespace Sys2Proof.Machine

/-! ### Control -/

/-- A value per axis X, Y, N. -/
structure Axes where
  x : Rat := 0
  y : Rat := 0
  n : Rat := 0
deriving DecidableEq, Repr, Inhabited

/-- Gains of one axis. -/
structure Gains where
  kp : Rat := 0
  kd : Rat := 0
  ki : Rat := 0
deriving DecidableEq, Repr, Inhabited

/-- A value per axis as the Chart gives it: `none` where the entry is left out. -/
structure AxesEntry where
  x : Option Rat := none
  y : Option Rat := none
  n : Option Rat := none
deriving DecidableEq, Repr, Inhabited

/-- Gains of one axis as the Chart gives them. -/
structure GainsEntry where
  kp : Option Rat := none
  kd : Option Rat := none
  ki : Option Rat := none
deriving DecidableEq, Repr, Inhabited

/-- Limits of a ramp: greatest rate, acceleration, jerk. -/
structure RampLim where
  v : Rat
  a : Rat
  j : Rat
deriving DecidableEq, Repr, Inhabited

/-- Entries of the control section that have a default (R214). -/
structure ControlBase where
  satTol : Rat := 2 / 100
  kWind : Rat := 1
  kEnv : Rat := 1
  joyWindFf : Bool := true
  transfer : Rat := 3
  pos : RampLim := ⟨1 / 2, 2 / 100, 5 / 1000⟩
  hdg : RampLim := ⟨2, 2 / 10, 1 / 10⟩
  spd : RampLim := ⟨6, 5 / 100, 1 / 100⟩
  spMaxDist : Rat := 50
  losDist : Rat := 200
  arriveDist : Rat := 20
  trackSway : Bool := true
  ftVmax : Rat := 3 / 2
  drScale : Rat := 1 / 2
  /-- s. -/
  drLimit : Rat := 120
  plausPos : Rat := 1 / 2
  plausHdg : Rat := 1 / 2
  plausVel : Rat := 1 / 5
  plausOk : Nat := 3
  plausHold : Rat := 10
  /-- `none`: CTRL_JOY; else three analogue inputs with their scalings to -1 to +1. -/
  joySrc : Option (AnaMap × AnaMap × AnaMap) := none
  /-- ms. -/
  joyTimeout : Nat := 200
  joyDead : Rat := 5 / 100
deriving DecidableEq, Repr, Inhabited

/-- Control section of the Chart as it is loaded (R214): the gains of sets S and T and the limits have no default; JOY_GAIN's
is AXIS_LIM. -/
structure ControlEntry extends ControlBase where
  sx : GainsEntry := {}
  sy : GainsEntry := {}
  sn : GainsEntry := {}
  tu : GainsEntry := {}
  ty : GainsEntry := {}
  tn : GainsEntry := {}
  intLim : AxesEntry := {}
  axisLim : AxesEntry := {}
  axisRate : AxesEntry := {}
  joyGain : AxesEntry := {}
deriving DecidableEq, Repr, Inhabited

/-- Control section in force (R214). -/
structure ControlChart extends ControlBase where
  sx : Gains := {}
  sy : Gains := {}
  sn : Gains := {}
  tu : Gains := {}
  ty : Gains := {}
  tn : Gains := {}
  intLim : Axes := {}
  axisLim : Axes := {}
  axisRate : Axes := {}
  joyGain : Axes := {}
deriving DecidableEq, Repr, Inhabited

/-- The position ramp (R200, R201): reference, target, line of travel, motion along and across it; `stop`: it brakes to rest, and
the point of rest is its target (R197, R199 STOP_RAMP). -/
structure PosRamp where
  n : Rat := 0
  e : Rat := 0
  tn : Rat := 0
  te : Rat := 0
  un : Rat := 1
  ue : Rat := 0
  v : Rat := 0
  a : Rat := 0
  va : Rat := 0
  aa : Rat := 0
  moving : Bool := false
  passed : Bool := false
  stop : Bool := false
deriving DecidableEq, Repr, Inhabited

/-- A ramp in one dimension (R202): reference, distance to the target along the travel chosen, rate, acceleration. The speed
ramp uses `x` as speed, `v` as its rate and `d` as the target. -/
structure LineRamp where
  x : Rat := 0
  d : Rat := 0
  v : Rat := 0
  a : Rat := 0
  moving : Bool := false
  passed : Bool := false
  stop : Bool := false
deriving DecidableEq, Repr, Inhabited

/-- A pending set-point command (R199). -/
structure SpCmd where
  cmd : Nat
  tag : Nat
  dir : Nat
deriving DecidableEq, Repr, Inhabited

/-- A handover remainder (R207): value, step per cycle, cycles left. -/
structure Remainder where
  h : Rat := 0
  step : Rat := 0
  left : Nat := 0
deriving DecidableEq, Repr, Inhabited

/-- A fused or modelled horizontal state: m, m/s, degrees. -/
structure HState where
  n : Rat := 0
  e : Rat := 0
  psi : Rat := 0
  u : Rat := 0
  v : Rat := 0
  r : Rat := 0
deriving DecidableEq, Repr, Inhabited

/-- A plausibility group (R210-R212): on hold, passing records in a row, s since the trip, trips not acted on. -/
structure PlausGrp where
  hold : Bool := false
  okRun : Nat := 0
  time : Rat := 0
  deaf : Bool := false
deriving DecidableEq, Repr, Inhabited

/-- Saturation sources of an axis (R204). -/
structure SatAx where
  limit : Bool := false
  short : Bool := false
  overlay : Bool := false
deriving DecidableEq, Repr, Inhabited

/-- Control state of a lane (R215). -/
structure CtlSt where
  pend : Option SpCmd := none
  posDef : Bool := false
  hdgDef : Bool := false
  trackDef : Bool := false
  pos : PosRamp := {}
  hdg : LineRamp := {}
  spd : LineRamp := {}
  /-- FOLLOW-TARGET: held offset runs on the position ramp in target axes; heading and whether relative. -/
  ftX : Rat := 0
  ftY : Rat := 0
  ftHdg : Rat := 0
  ftRel : Bool := false
  /-- Accepted set-points. -/
  spN : Rat := 0
  spE : Rat := 0
  spHdg : Rat := 0
  /-- Signed travel left from the reference heading to the accepted heading and to the accepted course: the direction was decided
  when the command was applied (R202). -/
  spLeft : Rat := 0
  courseLeft : Rat := 0
  spSpeed : Rat := 0
  /-- AUTOPILOT form and leg. -/
  apTrack : Bool := false
  legFn : Rat := 0
  legFe : Rat := 0
  legTn : Rat := 0
  legTe : Rat := 0
  course : Rat := 0
  legEnd : Bool := false
  dem : Axes := {}
  int : Axes := {}
  rx : Remainder := {}
  ry : Remainder := {}
  rn : Remainder := {}
  sx : SatAx := {}
  sy : SatAx := {}
  sn : SatAx := {}
  held : Nat := 0
  pp : PlausGrp := {}
  ph : PlausGrp := {}
  /-- The law's own model state (R211). -/
  model : HState := {}
  /-- DEAD RECKONING: timer in s and the mode it came from (R198). -/
  drTime : Rat := 0
  drFrom : Nat := 0
  joyX : Rat := 0
  joyY : Rat := 0
  joyN : Rat := 0
  /-- ns on the chronometer since the last CTRL_JOY write. -/
  joyAge : Rat := 0
  joyGiven : Bool := false
  joyStale : Bool := false
  /-- Reference velocity and acceleration used in the last cycle, for CTRL_REF_VEL: m/s. -/
  refVn : Rat := 0
  refVe : Rat := 0
  refN : Rat := 0
  refE : Rat := 0
  refHdg : Rat := 0
  ex : Rat := 0
  ey : Rat := 0
  eh : Rat := 0
  xte : Rat := 0
  ftSpeed : Bool := false
  /-- Handover at this tick (R206): the mode left. -/
  fromMode : Option Nat := none
deriving DecidableEq, Repr, Inhabited

/-! ### Channels -/

/-- Channel types (R220), coded as CH_CFG.TYPE. -/
inductive ChType where
  | azimuth
  | tunnel
  | mainRudder
  | shaft
deriving DecidableEq, Repr, Inhabited

/-- A forbidden sector (R222, R229): start and end clockwise, degrees; PASS = IDLE. -/
structure Sector where
  lo : Rat
  hi : Rat
  idle : Bool
deriving DecidableEq, Repr, Inhabited

/-- A source of a value: a CAN receive object with its field, or an analogue input (R222, R223). -/
inductive ValSrc where
  | can (port obj : Nat) (m : ByteMap) (zero gain : Rat)
  | ana (m : AnaMap)
deriving DecidableEq, Repr, Inhabited

/-- DEPLOYED signal (R222). -/
inductive DeploySrc where
  | ana (m : AnaMap) (threshold : Rat)
  | can (port obj : Nat) (m : ByteMap)
deriving DecidableEq, Repr, Inhabited

/-- Entries of a channel that have a default, or that list what is configured (R222). -/
structure ChanBase where
  tRev : Rat := 0
  rudEff : Rat := 8 / 10
  sectors : List Sector := []
  idleFrac : Rat := 5 / 100
  so : Option Nat := none
  /-- Analogue command: value and angle to output code, zero and gain. -/
  cmdAna : List (Bool × Rat × Rat) := []
  /-- Analogue feedback: quantity code, scaling. -/
  fbAna : List (Nat × AnaMap) := []
  /-- ms; s. -/
  fbTimeout : Nat := 100
  fbGrace : Rat := 5
  fbKeep : Bool := false
  feAng : Rat := 10
  feTime : Rat := 5
  kiPwr : Rat := 0
  tDerate : Rat := 90
  tTrip : Rat := 110
  kiTh : Rat := 0
  kiBp : Rat := 0
  leverDem : Option ValSrc := none
  leverAng : Option ValSrc := none
  leverNeutral : Rat := 5 / 100
  deployed : Option DeploySrc := none
deriving DecidableEq, Repr, Inhabited

/-- One channel entry as the Chart gives it (R222): `none` where an entry is left out. RATE_DOWN_FAST, FE_DEM and TRACK_MARGIN
default to what other entries give. -/
structure ChanEntry extends ChanBase where
  /-- Field maps of the command frame, 8 bytes each (R240); of the CAN feedback: port, receive object, map (R627). -/
  cmdRaw : List (List Nat) := []
  fbRaw : List (Nat × Nat × List Nat) := []
  ty : Option ChType := none
  pitch : Option Bool := none
  x : Option Rat := none
  y : Option Rat := none
  tFwd : Option Rat := none
  thrust : Option (List (Rat × Rat)) := none
  powF : Option (List (Rat × Rat)) := none
  powR : Option (List (Rat × Rat)) := none
  nMax : Option Rat := none
  nMin : Option Rat := none
  rateUp : Option Rat := none
  rateDown : Option Rat := none
  rateFast : Option Rat := none
  azRate : Option Rat := none
  rudMax : Option Rat := none
  rudRate : Option Rat := none
  rudArc : Option Rat := none
  bus : Option Nat := none
  cmdPath : Option Nat := none
  fbPath : Option Nat := none
  feDem : Option Rat := none
  kpPwr : Option Rat := none
  iLim : Option Rat := none
  kpTh : Option Rat := none
  kpBp : Option Rat := none
  trackMargin : Option Rat := none
deriving DecidableEq, Repr, Inhabited

/-- One channel entry in force (R222). -/
structure ChanChart extends ChanBase where
  cmdMaps : List ByteMap
  /-- CAN feedback: quantity code, port, object, map (R627). -/
  fbCan : List (Nat × Nat × Nat × ByteMap)
  ty : ChType
  pitch : Bool
  x : Rat
  y : Rat
  tFwd : Rat
  /-- (demand, thrust) from the most negative to the most positive, through (0, 0). -/
  thrust : List (Rat × Rat)
  /-- (|thrust|, power) ahead and astern, from (0, 0). -/
  powF : List (Rat × Rat)
  powR : List (Rat × Rat)
  nMax : Rat
  nMin : Rat
  rateUp : Rat
  rateDown : Rat
  rateFast : Rat
  azRate : Rat
  rudMax : Rat
  rudRate : Rat
  rudArc : Rat
  bus : Nat
  /-- 1 CAN, 2 ANALOGUE, 3 BOTH. -/
  cmdPath : Nat
  fbPath : Nat
  feDem : Rat
  kpPwr : Rat
  iLim : Rat
  kpTh : Rat
  kpBp : Rat
  trackMargin : Rat
deriving DecidableEq, Repr, Inhabited

/-- One bus of the power-management interface (R223). -/
structure BusChart where
  pAv : Option ValSrc := none
  freq : Option ValSrc := none
  loadRed : Option ValSrc := none
  rating : Option Rat := none
  reserve : Rat := 10 / 100
  fBp : Option Rat := none
  lrFrac : Rat := 50 / 100
deriving DecidableEq, Repr, Inhabited

/-- Channel and allocation sections of the Chart (R222, R223). -/
structure AllocChart where
  chans : List (Option ChanEntry) := List.replicate 16 none
  minThrusters : Nat := 2
  qx : Rat := 1000
  qy : Rat := 1000
  qn : Rat := 1 / 10
  wPower : Rat := 1
  wWear : Rat := 1 / 100
  wTrack : Rat := 1 / 10
  arcHyst : Rat := 5 / 100
  limitHold : Nat := 500
  buses : List BusChart := List.replicate 4 {}
  /-- ms. -/
  pmTimeout : Nat := 2000
  pmFallback : Rat := 50 / 100
deriving DecidableEq, Repr, Inhabited

/-- Channel states (R224), coded as CH_STATE.STATE. -/
inductive ChState where
  | unused
  | offline
  | notReady
  | online
  | draining
  | stopped
  | fault
  | noEngine
deriving DecidableEq, Repr, Inhabited

/-- One feedback quantity (R241). -/
structure FbQty where
  val : Rat := 0
  /-- ms since the receive object was updated; since the quantity was last fresh on either path. -/
  canAge : Option Rat := none
  age : Option Rat := none
  fresh : Bool := false
deriving DecidableEq, Repr, Inhabited

/-- Loop state of a channel: what a migration restores (R247). -/
structure LoopSt where
  iBp : Rat := 0
  iP : Rat := 0
  iT : Rat := 0
  /-- Final demand and commanded angle. -/
  y : Rat := 0
  ang : Rat := 0
  limited : Bool := false
  limCnt : Nat := 0
  feDem : Nat := 0
  feAng : Nat := 0
  fbAlt : Bool := false
deriving DecidableEq, Repr, Inhabited

/-- A thruster channel in a lane (06). -/
structure ChanSt where
  st : ChState := .unused
  marked : Bool := false
  readyRun : Nat := 0
  badRun : Nat := 0
  /-- Commands waiting for step 2, in order (R251). -/
  cmds : List Nat := []
  loop : LoopSt := {}
  /-- Step 2 of this tick changed the state (R225). -/
  stepped : Bool := false
  /-- Committed demand, angle, enable. -/
  yC : Rat := 0
  angC : Rat := 0
  enC : Bool := false
  /-- Aim force and the tick stage's thrust and angle (R227, R228). -/
  aimX : Rat := 0
  aimY : Rat := 0
  /-- Force direction of the aim, degrees; kept while the aim is 0. -/
  aimAng : Rat := 0
  thrust : Rat := 0
  /-- Tick-stage angle: force direction of an azimuth, rudder angle of a MAIN_RUDDER. -/
  ang : Rat := 0
  /-- Working arc (R229): lowest and highest angle, degrees clockwise; MAIN_RUDDER: astern. -/
  arcLo : Rat := 0
  arcHi : Rat := 360
  astern : Bool := false
  a : Rat := 0
  cBp : Rat := 0
  cP : Rat := 0
  cT : Rat := 0
  sel : Nat := 0
  rateLim : Bool := false
  /-- Load-reduction ceiling standing since the edge (R236). -/
  lrCap : Option Rat := none
  dem : FbQty := {}
  fbAng : FbQty := {}
  power : FbQty := {}
  current : FbQty := {}
  temp : FbQty := {}
  ready : Bool := false
  deployed : Bool := false
  readyAge : Option Rat := none
  deployedAge : Option Rat := none
  fbValid : Bool := false
  /-- Ticks with FB_VALID clear. -/
  fbLost : Nat := 0
  cause : Nat := 0
  lever : Rat := 0
  leverAng : Rat := 0
  /-- LEVER_DEM and LEVER_ANG fresh, or not configured; marked stale (R243, R260). -/
  leverOk : Bool := false
  leverAngOk : Bool := false
  leverAge : Option Rat := none
  leverAngAge : Option Rat := none
  leverStale : Bool := false
  leverAngStale : Bool := false
  inSector : Bool := false
  fx : Rat := 0
  fy : Rat := 0
  thrustCmd : Bool := false
  /-- Migration (R248): ticks since the failure; the channel has been reassigned in this one. -/
  migr : Option Nat := none
  placed : Bool := false
  /-- Restore state: the last mirrored (R247). -/
  restore : LoopSt := {}
deriving DecidableEq, Repr, Inhabited

/-- Power-management values of a bus (R223). -/
structure BusSt where
  pAv : Rat := 0
  freq : Rat := 0
  /-- ms since each was updated. -/
  pAge : Option Rat := none
  fAge : Option Rat := none
  lrAge : Option Rat := none
  /-- LOAD_RED input as latched. -/
  lrRaw : Bool := false
  loadRed : Bool := false
  stale : Bool := false
deriving DecidableEq, Repr, Inhabited

/-- Allocation state of a lane (R252). -/
structure AllocSt where
  chans : List ChanSt := List.replicate 16 {}
  buses : List BusSt := List.replicate 4 {}
  /-- Active set of the aim stage. -/
  active : List Nat := []
  /-- The next aim stage starts from the committed state (R231). -/
  warm : Bool := true
  /-- Sums of τ_c and of the shortfall over the ticks of the position cycle, and their number (R232). -/
  sumC : Axes := {}
  sumS : Axes := {}
  sumN : Nat := 0
  ach : Axes := {}
  short : Axes := {}
  capPos : Axes := {}
  capNeg : Axes := {}
  /-- The arcs of this position cycle have been evaluated; the capacities computed. -/
  arcDone : Bool := false
  capDone : Bool := false
  converged : Bool := true
  /-- A tick not converged waits to be counted; ALLOC_NC_EVT raised in this run (R230). -/
  ncPend : Bool := false
  ncRaised : Bool := false
  /-- τ_c of this tick (R232). -/
  tau : Axes := {}
  thrusters : Bool := false
deriving DecidableEq, Repr, Inhabited

end Sys2Proof.Machine
end

