-- ==== Sys2Proof/Data/Redun.lean ====
section
/-! DEFINITION. The data of twin-lane redundancy (12_twin_lane_redundancy): health word, roles, counters, firmware. -/

namespace Sys2Proof.Machine

/-- Roles (R442), coded as RED_ROLE.ROLE. -/
inductive Role where
  | none
  | boot
  | active
  | standby
  | resync
  | failed
  | lubber
deriving DecidableEq, Repr, Inhabited

/-- Causes of a change of the active lane (R454, R465, R101), coded as RED_LAST.CAUSE. -/
inductive TakeCause where
  | peerFailed
  | peerSupply
  | peerStall
  | peerCoast
  | peerDegraded
  | hostSwitchover
  | peerLubber
  | takeBack
  | cold
  | fromLubber
deriving DecidableEq, Repr, Inhabited

/-- The health word (R444). -/
structure HealthWord where
  role : Role
  mode : Nat
  able : Bool
  armed : Bool
  degraded : Bool
  coasting : Bool
  timeValid : Bool
  tick : Nat
  tickCnt : Nat
  epoch : Nat
  digest : Nat
  fmtMin : Nat
  fmtMax : Nat
  /-- Pending chronometer step: size in ns and the second at which it takes effect. -/
  step : Option (Rat × Nat)
  /-- Planned handover: TICK_CNT of H and cause. -/
  plan : Option (Nat × TakeCause)
  tbReq : Bool
  tbSusp : Nat
  failCause : Nat
  /-- Sentences received per serial port in the last second (R448). -/
  serCounts : List Nat
deriving DecidableEq, Repr, Inhabited

/-- Redundancy section of the Chart (R471). -/
structure RedChart where
  preferred : LaneId := .a
  holdoff : Nat := 60
deriving DecidableEq, Repr, Inhabited

/-- The standby's periodic self-tests (R448): run lengths of failing results. -/
structure SelfTestSt where
  dac : Nat := 0
  gates : Nat := 0
  can : List Nat := List.replicate 8 0
  ser : List Nat := List.replicate 12 0
deriving DecidableEq, Repr, Inhabited

/-- Redundancy state of a lane beyond page 0x60 (12). -/
structure RedSt where
  /-- The other lane's latest health word (R444). -/
  peer : Option HealthWord := none
  /-- This lane's latest health word on the links. -/
  hwOut : Option HealthWord := none
  /-- The Chart digest of that word was the lane's own when it came (R445 CHART). -/
  digestSame : Bool := false
  /-- The other lane's ABLE as last seen (R445). -/
  peerAble : Bool := false
  /-- Ticks since an intact mirror frame was accepted, saturating at 4 (R445 XLINK). -/
  noMirror : Nat := 4
  /-- Consecutive ticks in which the other lane was active and no mirror frame was intact (01 R46), saturating at 3. -/
  missed : Nat := 0
  /-- XLINK_LOST is in force (01 R46). -/
  lost : Bool := false
  disagree : Bool := false
  /-- Consecutive cycles without mismatch (R446). -/
  matchRun : Nat := 0
  skew : Bool := false
  skewOut : Nat := 0
  skewIn : Nat := 0
  self : SelfTestSt := {}
  /-- Re-synchronisation counters: skew ticks of stage 2, frames of stage 3 (R467). -/
  syncCnt : Nat := 0
  /-- Ticks of SETTLE with every condition true. -/
  settle : Nat := 0
  /-- Named handover: TICK_CNT of H and cause (R459). -/
  plan : Option (Nat × TakeCause) := none
  /-- The lane released DRIVE in a planned handover at this TICK_CNT and asserts ARM until the end of the next tick. -/
  outgoing : Option Nat := none
  /-- Hold-off count, ticks (R462), and the request. -/
  tbCount : Nat := 0
  tbReq : Bool := false
  /-- Ticks since the last take-back, with the hold-off then in force in s; ticks since the last takeover away from the
  preferred lane that doubled it (R464). -/
  tbSince : Option (Nat × Nat) := none
  awaySince : Option Nat := none
  /-- Ticks of suspension left (R463). -/
  suspTicks : Nat := 0
  /-- Consecutive input latches without a holder (R465). -/
  noHolder : Nat := 0
  /-- Consecutive latches in which the other lane's health word showed ARMED (02 R101). -/
  armedSeen : Nat := 0
  /-- A lane in LUBBER waits after a contest: ticks so far (02 R100). -/
  lubberWait : Option Nat := none
  /-- The lane makes a cold takeover (R465). -/
  cold : Bool := false
  /-- The control state as the mirror last brought it (05 R209). -/
  ctl : Option CtlSt := none
deriving DecidableEq, Repr, Inhabited

end Sys2Proof.Machine
end

