-- ==== Sys2Proof/Data/Infra.lean ====
section
/-! DEFINITION. The data of the interlock and hold stages (01), the clocks (15), the supplies and temperatures (16), the
field terminals (17). -/

namespace Sys2Proof.Machine

/-- The interlock's grant state (01 R29-R31, R624, R625). -/
inductive Grant where
  /-- No holder and no dead time running. -/
  | free
  /-- No holder; the resolution window of 1 µs runs for the request of this lane (R624). -/
  | window (l : LaneId)
  /-- Break-before-make after this lane's release (R31). -/
  | deadTime (releaser : LaneId)
  | held (l : LaneId)
deriving DecidableEq, Repr, Inhabited

/-- The interlock and what belongs to the shared section (01). -/
structure InterlockSt where
  grant : Grant := .free
  /-- DRIVE lines (R30). -/
  driveA : Bool := false
  driveB : Bool := false
  /-- Requests spent in a contest, until DRIVE is withdrawn (R625). -/
  spentA : Bool := false
  spentB : Bool := false
  /-- ARM lines and the claim inhibit of 50 µs after a lane's own release (12 R452). -/
  armA : Bool := false
  armB : Bool := false
  inhibitA : Bool := false
  inhibitB : Bool := false
  /-- The hold stages hold the outputs of the last driver (R31), and which lane that was. -/
  holding : Bool := false
  lastDriver : Option LaneId := none
  /-- Levels that the hold stages took at the last driver's release (R31): analogue outputs, safety switch gates. -/
  heldAo : List Int := []
  heldGates : List Bool := []
  /-- Why the last holder lost the grant (12 R454); none at the first grant. -/
  relCause : Option TakeCause := none
deriving DecidableEq, Repr, Inhabited

/-- Reference inputs (15 R540). -/
inductive RefIn where
  | refA
  | refB
deriving DecidableEq, Repr, Inhabited

/-- The other reference input. -/
def RefIn.other : RefIn → RefIn
  | .refA => .refB
  | .refB => .refA

/-- Why a reference input trips (15 R542), coded as CLK_REF.CAUSE. -/
inductive TripCause where
  | edge
  | period
  | freq
  | expect
deriving DecidableEq, Repr, Inhabited

/-- Why the PLL's stop window runs (15 R551, R554). -/
structure StopWin where
  input : RefIn
  /-- The input tripped inside the window: the restart is abandoned (R554). -/
  aborted : Bool := false
deriving DecidableEq, Repr, Inhabited

/-- REF_EXPECT of the Chart (R557). -/
inductive RefExpect where
  | any
  | off
  | mhz10
  | mhz25
deriving DecidableEq, Repr, Inhabited

/-- Clock section of the Chart (R557). -/
structure ClockChart where
  expectA : RefExpect := .any
  expectB : RefExpect := .any
  preferred : RefIn := .refA
  /-- s; 0 disables the return. -/
  revert : Nat := 600
deriving DecidableEq, Repr, Inhabited

/-- Clock state beyond page 0x04 (15). -/
structure ClockSt where
  /-- The stop window in progress (R551). -/
  stopWin : Option StopWin := none
  /-- The window in progress belongs to the start (R546), not to a coast. -/
  starting : Bool := false
  /-- A switch waits for 950 µs (R550), towards this input. -/
  switchTo : Option RefIn := none
  /-- The switch in progress, towards this input, and whether the old input has tripped (R549, R554). -/
  switching : Option (RefIn × Bool) := none
  /-- Relative frequency that the chronometer applies at the end of that switch, ppb, if it is known (R549, 09 R358). -/
  switchRel : Option Rat := none
  /-- Time of the last coast's trip and end on this lane's chronometer, ns, with whether it was valid (R466, R633). -/
  coastStart : Option (Rat × Bool) := none
  coastEnd : Option (Rat × Bool) := none
  /-- The input the PLL was locked to when the last coast began. -/
  coastFrom : Option RefIn := none
  /-- STAT.SINGLE_REF as last shown. -/
  single : Bool := false
  /-- This lane's coast overlapped with a coast of the other lane, not yet recorded (R466). -/
  dualCoast : Bool := false
deriving DecidableEq, Repr, Inhabited

/-- Supply inputs of a lane (16 R562), indexed as PWR_IN. -/
inductive Supply where
  | core
  | io
  | ana
deriving DecidableEq, Repr, Inhabited

/-- A threshold whose crossing or clearing is a step (16 R569, R577, R579). -/
inductive ThermThr where
  | req (k : Nat)
  | crit (k : Nat)
  | hot
  | cold
  /-- The window opens after 8 samples inside it since reset. -/
  | inside
  /-- Band boundary 85 °C or, with `upper`, 95 °C of TS3, TS9 or TS7. -/
  | band (k : Nat) (upper : Bool)
  /-- The first 8 samples of a band input. -/
  | bandStart (k : Nat)
deriving DecidableEq, Repr, Inhabited

/-- One temperature sensor (16 R567-R572). Temperatures in 0.1 °C. -/
structure SensorSt where
  /-- Last valid value and its time (ms of sampling time). -/
  last : Option (Int × Nat) := none
  /-- The last plausible value seen while in FAULT. -/
  recent : Int := 0
  implausible : Nat := 0
  plausible : Nat := 0
  /-- Time of entry into FAULT, ms of lane time. -/
  faultAt : Option Nat := none
  /-- Rate estimate, 0.1 °C per s, when two valid samples have been seen (R570). -/
  rate : Option Rat := none
  seen : Nat := 0
  /-- Crossing counters of REQ, CRIT, band 85 °C and band 95 °C (R569, R579). -/
  reqCnt : Nat := 0
  critCnt : Nat := 0
  b85Cnt : Nat := 0
  b95Cnt : Nat := 0
  b85 : Bool := false
  b95 : Bool := false
  /-- Highest value of the first 8 samples of a band input (R579); 9 once the band has been taken from them. -/
  bandMax : Int := 0
  bandSeen : Nat := 0
deriving DecidableEq, Repr, Inhabited

/-- Thermal section of the Chart (R581); temperatures in 0.1 °C, GRACE in 0.1 s. -/
structure ThermChart where
  req : List Int := [1000, 1000, 950, 900, 1050, 1050, 1050, 900, 900, 950, 950, 720]
  crit : List Int := [1150, 1150, 1100, 1000, 1200, 1200, 1200, 1050, 1050, 1100, 1100, 800]
  zoneOfs : List Int := [30, 30, 30, 30, 30]
  grace : Nat := 100
  thrTracks : Nat := 8
  rapRate : Nat := 100
deriving DecidableEq, Repr, Inhabited

/-- Supply and temperature state of a lane beyond page 0x05 (16). -/
structure PowerSt where
  /-- Sampling time since lane start, ms. -/
  clock : Nat := 0
  /-- No valid zone 0 sensor decides the MRAM window (R577). -/
  blind : Bool := false
  /-- The lane's own field rail is on (R564, R565). -/
  fieldRail : Bool := false
  sensors : List SensorSt := List.replicate 12 {}
  /-- Lane time of entry into REQUEST, ms (R573). -/
  reqAt : Option Nat := none
  /-- Counters of the MRAM window's crossings: hot, cold, and inside since reset (R577). -/
  hotCnt : Nat := 0
  coldCnt : Nat := 0
  insideCnt : Nat := 0
  hot : Bool := false
  cold : Bool := false
  opened : Bool := false
  /-- A CORE_IN departure, or an IO_IN departure that restarts the lane, to be reported at the next start (R564, R565). -/
  coreLost : Bool := false
  ioLost : Bool := false
  /-- Running mean of TS11 and powered time, ms, of THERM_LIFE (R580). -/
  lifeMean : Rat := 0
  poweredMs : Nat := 0
  /-- Held writes other than Logbook: newest snapshot, boot record (R578). -/
  heldSnapshot : Bool := false
  heldBootRec : Bool := false
deriving DecidableEq, Repr, Inhabited

/-- A safety output's own stage (17 R593). -/
structure SoStage where
  /-- Turned off by its stage after 10 ms in current limit. -/
  off : Bool := false
deriving DecidableEq, Repr, Inhabited

/-- Terminal monitor of an analogue input in one lane (17 R596). -/
structure TermMon where
  short : Bool := false
  reversed : Bool := false
  openWire : Bool := false
  openFails : Nat := 0
  openPasses : Nat := 0
deriving DecidableEq, Repr, Inhabited

/-- Source-pulse test of a safety or feedback channel (17 R597). -/
structure SrcTest where
  fails : Nat := 0
  passes : Nat := 0
  fault : Bool := false
deriving DecidableEq, Repr, Inhabited

end Sys2Proof.Machine
end

