-- ==== Sys2Proof/Data/Analog.lean ====
section
/-! DEFINITION. The data of the analogue chain (08_analogue_chain). Values are integers in 1 µV or 1 nA, times ns. -/

namespace Sys2Proof.Machine

/-- State of an analogue input, coded as AI_STAT.STATE (R337). -/
inductive AiState where
  | off
  | settling
  | valid
  | fault
deriving DecidableEq, Repr, Inhabited

/-- Chart values of one input (R334); MODE, ORDER and DECIM are coded as in AI_CFG (R337). -/
structure AiChart where
  mode : Nat := 0
  order : Nat := 0
  decim : Nat := 1
  minPhase : Bool := false
  dcbEn : Bool := false
  /-- s. -/
  dcbTau : Nat := 60
  group : Nat := 0
  phase : Nat := 0
  /-- STEP_LIM, XCHECK_LIM in 1 µV or 1 nA. -/
  stepLim : Int := 200000
  xcheckLim : Int := 40000
deriving DecidableEq, Repr, Inhabited

/-- Chart values of one output (R334). -/
structure AoChart where
  mode : Nat := 0
  /-- Source: `none` HOST, else the channel and whether it carries the angle (R328). -/
  channel : Option (Nat × Bool) := none
  hostInit : Option Int := none
deriving DecidableEq, Repr, Inhabited

/-- Analogue section of the Chart (R334). -/
structure AnaChart where
  ins : List AiChart := List.replicate 32 {}
  outs : List AoChart := List.replicate 16 {}
deriving DecidableEq, Repr, Inhabited

/-- A latched analogue sample (R311). -/
structure AiSample where
  value : Rat
  time : Rat
  st : AiState
  /-- Vernier value issued with it. -/
  vern : Rat
  vernTime : Rat
  vernOk : Bool
  step : Bool
deriving DecidableEq, Repr, Inhabited

/-- A condition entered and left by runs of 8 samples (R323): whether it holds, and the samples so far towards the change. -/
structure Run8 where
  on : Bool := false
  cnt : Nat := 0
deriving DecidableEq, Repr, Inhabited

/-- One analogue input of a lane (R308-R325). Values in 1 µV or 1 nA, times in ns. -/
structure AiSt where
  st : AiState := .off
  /-- CIC samples taken in since the restart; coarse samples since the restart (R319, R320). -/
  fill : Nat := 0
  coarse : Nat := 0
  /-- DC-block offset m (R321), and whether the first VALID fine output since the restart has come. -/
  m : Rat := 0
  mSet : Bool := false
  /-- Last fine value before and after DC blocking, its timestamp; last Vernier value. -/
  fineRaw : Rat := 0
  fine : Rat := 0
  fineTime : Rat := 0
  vern : Rat := 0
  vernTime : Rat := 0
  vernOk : Bool := false
  step : Run8 := {}
  /-- The causes of R323; TERMINAL's finding is in `term`, its acceptance as a cause here. -/
  above : Run8 := {}
  under : Run8 := {}
  modulator : Run8 := {}
  terminal : Bool := false
  term : TermMon := {}
  /-- Chain restarted in this tick (R318). -/
  restarted : Bool := false
  /-- Fine values latched in the current position cycle, newest first, and whether all were VALID (R325). -/
  cycle : List Rat := []
  cycleOk : Bool := true
  /-- Mean of the last completed cycle, if its ten samples were VALID (R325). -/
  mean : Option Rat := none
  diffOver : Nat := 0
  diffIn : Nat := 0
  /-- P in force (R316). -/
  p : Nat := 0
  latched : Option AiSample := none
deriving DecidableEq, Repr, Inhabited

/-- One analogue output of a lane (R327-R332). -/
structure AoSt where
  /-- Value in the DAC now: the value committed for the tick in progress. -/
  dac : Int := 0
  /-- Value of the last commit, in the DAC from the next tick (R48). -/
  committed : Int := 0
  out : Nat := 0
  back : Nat := 0
  /-- Readback: value, at compliance or current limit. -/
  read : Int := 0
  limited : Bool := false
deriving DecidableEq, Repr, Inhabited

/-- The analogue chain of a lane beyond pages 0x38 and 0x39. -/
structure AnaSt where
  ins : List AiSt := List.replicate 32 {}
  outs : List AoSt := List.replicate 16 {}
  /-- Inputs whose AI_CFG or AI_FREEZE has been written since the lane started (R326, R621). -/
  written : List Nat := []
  freezeWritten : Bool := false
  /-- The ADC domain runs and does not coast. -/
  run : Bool := false
  /-- AI_RESTART bits written in this tick (R333). -/
  restartBits : Nat := 0
deriving DecidableEq, Repr, Inhabited

end Sys2Proof.Machine
end

