-- ==== Sys2Proof/Data/Can.lean ====
section
/-! DEFINITION. The data of the CAN FD ports and the schedule matrix (10_can_fd). -/

namespace Sys2Proof.Machine

/-- Port role (R378), coded as CAN_CFG.ROLE. -/
inductive CanRole where
  | off
  | normal
  | listen
deriving DecidableEq, Repr, Inhabited

/-- Bit timing of one phase in quanta (R382, R383). -/
structure BitTiming where
  brp : Nat := 0
  seg1 : Nat := 0
  seg2 : Nat := 0
  sjw : Nat := 0
deriving DecidableEq, Repr, Inhabited

/-- Source of a transmit object (R389), coded as CAN_TX_INFO.SOURCE. -/
inductive TxSource where
  | channel (tc : Nat)
  | hostSched
  | hostEvent
deriving DecidableEq, Repr, Inhabited

/-- A transmit object of the Chart (R389). -/
structure TxObj where
  num : Nat
  id : Nat
  ide : Bool
  fdf : Bool := false
  brs : Bool := false
  dlc : Nat
  source : TxSource
deriving DecidableEq, Repr, Inhabited

/-- A receive object of the Chart (R385). -/
structure RxObj where
  num : Nat
  id : Nat
  ide : Bool
  len : Nat
deriving DecidableEq, Repr, Inhabited

/-- Bit timing as the Chart gives it, each value stated or left out (R403). -/
structure TimingEntry where
  brp : Option Nat := none
  seg1 : Option Nat := none
  seg2 : Option Nat := none
  sjw : Option Nat := none
deriving DecidableEq, Repr, Inhabited

/-- The Chart's entry of one port (R403): nominal timing has no default, the data timing is as nominal where it is left out, TDCO
(1 + DTSEG1)·DBRP. -/
structure CanEntry where
  role : CanRole := .off
  fd : Bool := false
  nom : TimingEntry := {}
  dat : TimingEntry := {}
  tdc : Bool := true
  tdco : Option Nat := none
  /-- COL_START by column, µs; columns not listed are unused. -/
  cols : List (Nat × Nat) := []
  /-- The matrix, 16 rows of 32 bytes; left out, all 0xFF (R391; 11 R632). -/
  matrix : List Nat := []
  tx : List TxObj := []
  rx : List RxObj := []
deriving DecidableEq, Repr, Inhabited

/-- The configuration of one port in force, its defaults filled in (R403). -/
structure CanCfg where
  role : CanRole := .off
  fd : Bool := false
  nom : BitTiming := {}
  dat : BitTiming := {}
  tdc : Bool := true
  tdco : Nat := 0
  cols : List (Nat × Nat) := []
  matrix : List Nat := []
  tx : List TxObj := []
  rx : List RxObj := []
deriving DecidableEq, Repr, Inhabited

/-- The entry with its defaults (R403). -/
def CanEntry.resolve (e : CanEntry) : CanCfg :=
  let n : BitTiming := { brp := e.nom.brp.getD 0, seg1 := e.nom.seg1.getD 0, seg2 := e.nom.seg2.getD 0, sjw := e.nom.sjw.getD 0 }
  let d : BitTiming := { brp := e.dat.brp.getD n.brp, seg1 := e.dat.seg1.getD n.seg1, seg2 := e.dat.seg2.getD n.seg2, sjw := e.dat.sjw.getD n.sjw }
  { role := e.role, fd := e.fd, nom := n, dat := d, tdc := e.tdc, tdco := e.tdco.getD ((1 + d.seg1) * d.brp), cols := e.cols,
    matrix := e.matrix, tx := e.tx, rx := e.rx }

/-- A CAN frame as received (R386, R387). -/
structure CanFrame where
  id : Nat
  ide : Bool
  /-- Remote frame (R376). -/
  rtr : Bool := false
  fdf : Bool := false
  /-- The res bit of an FD frame was recessive (R376). -/
  res : Bool := false
  brs : Bool := false
  esi : Bool := false
  dlc : Nat
  data : List Nat
  /-- Chronometer time of the start of frame, ns. -/
  time : Rat
  /-- The frame was sent by this lane (R386, R401). -/
  own : Bool := false
deriving DecidableEq, Repr, Inhabited

/-- A receive object's content (R386, R388): the stored frame, updates (wrapping at 256), updates since the last latch, and
what the last latch took, its update count among it (R404). -/
structure RxState where
  num : Nat
  frame : Option CanFrame := none
  upd : Nat := 0
  since : Nat := 0
  latched : Option CanFrame := none
  latUpd : Nat := 0
  isNew : Bool := false
  lost : Bool := false
deriving DecidableEq, Repr, Inhabited

/-- A transmit object's state (R389, R390, R394, R395). -/
structure TxState where
  num : Nat
  /-- Data for the slots of this tick: for CHANNEL committed at the previous commit point, for HOST_SCHED by COMMIT, for HOST_EVENT
  by SEND; and data committed in this tick, for the next (R390, R393). -/
  data : List Nat := []
  next : Option (List Nat) := none
  /-- A message is pending, with its data; its transmission has begun; a CANCEL came too late. -/
  pending : Option (List Nat) := none
  begun : Bool := false
  cancelLate : Bool := false
  /-- HOST_EVENT: withheld until the next FREE column. -/
  withheld : Bool := true
  /-- The active lane's SEND is pending, as last mirrored (R402). -/
  mirrored : Bool := false
  sent : Nat := 0
  /-- Data of the last frame of the object that was sent. -/
  out : List Nat := []
deriving DecidableEq, Repr, Inhabited

/-- Bus errors (R397), coded as CAN_ERR.LEC. -/
inductive CanErr where
  | stuff
  | form
  | ack
  | bit1
  | bit0
  | crc
deriving DecidableEq, Repr, Inhabited

/-- One CAN port of a lane beyond its page. -/
structure CanPort where
  rx : List RxState := []
  tx : List TxState := []
  /-- The configuration in force in the controller. -/
  cfg : CanCfg := {}
  /-- A new configuration waits for the matrix start (R396); it changes ROLE, FD or bit timing. -/
  newCfg : Option CanCfg := none
  restart : Bool := false
  /-- Waiting to integrate (R379). -/
  integrating : Bool := false
  /-- Slots trigger again from the next matrix start, after a coast or a restart (R381, R396). -/
  waitMatrix : Bool := false
  /-- A FREE column is open (R393). -/
  freeOpen : Bool := false
  /-- A COMMIT or SEND was seen in this tick (R390). -/
  cmdThisTick : Bool := false
  /-- Commands accepted in this tick, oldest first: object, CMD, tag (R402). -/
  reqs : List (Nat × Nat × Nat) := []
  /-- Stopped by a coast or a new bit timing: the controller integrates when it starts again (R381, R396). -/
  stopped : Bool := false
  /-- The receive object that the window shows, as the last latch took it (R404). -/
  rxSel : Nat := 0
  /-- Latched records that carried LOST (R388). -/
  rxLost : Nat := 0
  /-- Frames sent since lane start, as the mirror frame carries them; frames of the active lane seen in this position
  cycle (12 R448). -/
  sentTotal : Nat := 0
  seen : Nat := 0
  /-- The active lane's total at the last comparison (12 R448). -/
  peerSent : Nat := 0
deriving DecidableEq, Repr, Inhabited

/-- The CAN ports of a lane and the cycle count (R392). -/
structure CanSt where
  ports : List CanPort := List.replicate 8 {}
  cyc : Nat := 0
  /-- No tick since step 7 yet: CYC is 0 at the first (R392). -/
  first : Bool := true
  /-- Alive counter of each thruster channel's command frames (06 R240). -/
  alive : List Nat := List.replicate 16 0
deriving DecidableEq, Repr, Inhabited

/-- CAN section of the Chart (R403). -/
structure CanChart where
  ports : List CanEntry := List.replicate 8 {}
deriving DecidableEq, Repr, Inhabited

/-- The configuration of a port. -/
def CanChart.port (c : CanChart) (p : Nat) : CanCfg := (c.ports.getD p {}).resolve

end Sys2Proof.Machine
end

