-- ==== Sys2Proof/Data/Chron.lean ====
section
/-! DEFINITION. The data of the chronometer, the time servo, PTP and PPS (09_chronometer). Times are nanoseconds of the
PTP timescale, frequencies ppb; both exact rationals. -/

namespace Sys2Proof.Machine

/-- What a time source delivered (R348). -/
inductive OffsetIn where
  /-- GNSS: t_L, GPS time at the strobe and its σ, ns. -/
  | gnss (tL gps sigma : Rat)
  /-- A PTP domain (0 primary, 1 secondary): t1, t2 and corrections of a Sync, ns. -/
  | ptp (dom : Nat) (t1 t2 corr : Rat)
  /-- LANE: the two one-way cross-link measurements, ns. -/
  | lane (m1 m2 : Rat)
deriving DecidableEq, Repr, Inhabited

/-- Per-source state (R349, R629). The state code, counts and last offset are in CHR_SRC_STAT, CHR_SRC_OFS, CHR_SRC_SIG. -/
structure ChrSrc where
  /-- Previous valid offset, its chronometer time, the slew integral and the sum of steps then (R629). -/
  prev : Option (Rat × Rat × Rat × Rat) := none
  /-- Consecutive gate failures; consecutive valid offsets within QUAL_TOL of prediction (R349). -/
  gateRun : Nat := 0
  run : Nat := 0
  /-- Chronometer time since which the source is QUALIFIED without interruption (R350). -/
  qualSince : Option Rat := none
  /-- Last offsets, newest first, at most 16 (CHR_SRC_SIG.SPREAD). -/
  last16 : List Rat := []
  /-- Consecutive offsets of 1 ms or more, newest first, at most 4 (R354). -/
  big : List Rat := []
deriving DecidableEq, Repr, Inhabited

/-- A step that waits for a whole second (R354, R361). -/
structure StepPend where
  size : Rat
  src : Nat
deriving DecidableEq, Repr, Inhabited

/-- A holdover in progress (R357, R358). -/
structure HoldSt where
  t0 : Rat
  e0 : Rat
  u : Rat
  /-- Time from which u is REF_TOL instead (R358). -/
  degraded : Option Rat := none
  /-- Clock quality on entry: the source was GNSS (R365). -/
  afterGnss : Bool := false
deriving DecidableEq, Repr, Inhabited

/-- The dataset a PTP Announce carries (R364, R365). -/
structure PtpDs where
  prio1 : Nat
  cls : Nat
  acc : Nat
  variance : Nat
  prio2 : Nat
  gmId : Nat
  steps : Nat
  timeSource : Nat := 0xA0
  /-- currentUtcOffset where currentUtcOffsetValid is set; leap flags. -/
  utc : Option Nat
  leap61 : Bool
  leap59 : Bool
deriving DecidableEq, Repr, Inhabited

/-- A received PTP message (R362, R363). -/
inductive PtpMsg where
  | sync
  | followUp
  | announce (ds : PtpDs)
  /-- A delay measurement completed by this message (Delay_Resp, Pdelay_Resp or Pdelay_Resp_Follow_Up), ns. -/
  | delay (d : Rat)
  | delayReq
  /-- Management or signalling. -/
  | unsupported
  /-- Messages with only optional TLVs, which are ignored. -/
  | ignored
deriving DecidableEq, Repr, Inhabited

/-- A message a PTP instance sends at its interval (R365). -/
inductive PtpTx where
  | sync
  | announce
  | delayReq
deriving DecidableEq, Repr, Inhabited

/-- One PTP instance (R364). Port states, grandmaster identity and quality are in PTP_STAT and PTP_GM_*. -/
structure PtpInst where
  /-- Best foreign master heard on the network-A and network-B port. -/
  portA : Option PtpDs := none
  portB : Option PtpDs := none
  /-- The last delay measurements, newest first, at most 8. -/
  delays : List Rat := []
  seqAnnounce : Nat := 0
  seqSync : Nat := 0
deriving DecidableEq, Repr, Inhabited

/-- The share of a domain in the mirror frame (R370): sequenceIds, grandmaster dataset, port states. -/
structure PtpShare where
  seqAnnounce : Nat := 0
  seqSync : Nat := 0
  gm : Option PtpDs := none
  ports : Nat × Nat := (0, 0)
deriving DecidableEq, Repr, Inhabited

/-- A leap second pending at the end of a UTC day (R343): its sign, the chronometer second at which it is applied, whether the
Sextant announced it. -/
structure LeapPend where
  plus : Bool
  atSec : Nat
  gnss : Bool := false
deriving DecidableEq, Repr, Inhabited

/-- One PPS output (R367, R368). -/
structure PpsSt where
  /-- The output is high until this chronometer time. -/
  highUntil : Option Rat := none
  /-- Mode, width (ms) and delay (ns) in force for the generator; those of PPS_CFG and PPS_DELAY apply from `newAt`. -/
  width : Nat := 0
  delay : Rat := 0
  newAt : Option Rat := none
deriving DecidableEq, Repr, Inhabited

/-- The chronometer of a lane. -/
structure ChronSt where
  /-- Chronometer time, ns. -/
  ns : Rat := 0
  /-- Frequency correction f and slew s, ppb (R345). -/
  f : Rat := 0
  s : Rat := 0
  /-- ∫ s dt up to `slewT`, and the sum of steps applied (R629). -/
  slewInt : Rat := 0
  slewT : Rat := 0
  stepSum : Rat := 0
  /-- Sources 1 GNSS, 2 PTP_PRI, 3 PTP_SEC, 4 LANE. -/
  gnss : ChrSrc := {}
  ptpPri : ChrSrc := {}
  ptpSec : ChrSrc := {}
  laneSrc : ChrSrc := {}
  /-- The source last selected since the lane started; 0 none (R355). -/
  lastSel : Nat := 0
  /-- Consecutive offsets within LOCK_TOL, and beyond twice it (R351). -/
  lockIn : Nat := 0
  lockOut : Nat := 0
  lockedSince : Option Rat := none
  pend : Option StepPend := none
  lastStep : Option Rat := none
  hold : Option HoldSt := none
  /-- f with the times it was set, newest first (R356). -/
  fHist : List (Rat × Rat) := []
  fLearned : Bool := false
  /-- The input in use is not measured against the one that f was learned on (R358). -/
  unmeasured : Bool := false
  /-- A SET_TIME slew: the accumulated slew still to come, ns (R361). -/
  setSlew : Option Rat := none
  /-- SET_TIME step at the next tick start (R361), or the first offset's step (R352): time to add. -/
  stepNext : Option StepPend := none
  srcDisWritten : Bool := false
  /-- currentUtcOffset of the selected PTP source; TAI - UTC from the Sextant (R343). -/
  utcPtp : Option Nat := none
  utcGnss : Option Nat := none
  leap : Option LeapPend := none
  dom0 : PtpInst := {}
  dom1 : PtpInst := {}
  /-- The active lane's domains, as mirrored (R370). -/
  peerPtp : List PtpShare := []
  pps0 : PpsSt := {}
  pps1 : PpsSt := {}
deriving DecidableEq, Repr, Inhabited

/-- Per-domain values of the chronometer section of the Chart (R371). -/
structure PtpChart where
  enable : Bool
  domain : Nat
  masterCapable : Bool := false
  p2p : Bool := false
  udp : Bool := false
  twoStep : Bool := false
  logSync : Int := 0
  logAnnounce : Int := 1
  logMinDelayReq : Int := 0
  announceTimeout : Nat := 3
  prio1 : Nat := 128
  prio2 : Nat := 128
  classMax : Nat := 7
deriving DecidableEq, Repr, Inhabited

/-- Chronometer section of the Chart (R371). -/
structure ChronChart where
  prio : List Nat := [1, 2, 3]
  srcDis : Nat := 0
  /-- TAU in s for GNSS, PTP_PRI, PTP_SEC, LANE. -/
  tauGnss : Rat := 8
  tauPri : Rat := 16
  tauSec : Rat := 16
  tauLane : Rat := 1
  qualN : Nat := 16
  /-- ns. -/
  qualTol : Rat := 1000
  gate : Rat := 10000
  lossTime : Rat := 2000000000
  lockTol : Rat := 1000
  revertHold : Rat := 60000000000
  holdAvg : Rat := 60000000000
  holdLimit : Rat := 10000
  /-- ppb per hour; ppb. -/
  refAging : Rat := 10
  refTol : Rat := 2000
  utcOfs : Nat := 37
  dom0 : PtpChart := { enable := true, domain := 0 }
  dom1 : PtpChart := { enable := false, domain := 1 }
  /-- ASYM of the network-A and network-B port, 0.1 ns. -/
  asymA : Int := 0
  asymB : Int := 0
  ppsMode0 : Nat := 1
  ppsMode1 : Nat := 1
  ppsWidth0 : Nat := 100
  ppsWidth1 : Nat := 100
  /-- 0.25 ns. -/
  ppsDelay0 : Nat := 0
  ppsDelay1 : Nat := 0
deriving DecidableEq, Repr, Inhabited

end Sys2Proof.Machine
end

