-- ==== Sys2Proof/Data/Link.lean ====
section
/-! DEFINITION. The data of the host link and serial ports (11_host_and_serial_links). -/

namespace Sys2Proof.Machine

/-- One RAP operation of a request (R416, R418). -/
inductive RapOp where
  | read (count addr : Nat)
  | write (addr : Nat) (data : List Nat)
  | laneRestart (force : Bool)
  | safetyChallenge
  | safetyOpen (hmac : List Nat)
  | safetyClose
  | chartBegin (sect total : Nat) (digest : List Nat)
  | chartData (ofs : Nat) (bytes : List Nat)
  | chartEnd
  | serSend (port count : Nat) (text : List Nat)
  /-- A listed OP whose COUNT lies outside the range of R418. -/
  | badCount (op : Nat)
  /-- An OP not listed (R420 UNKNOWN_OP). -/
  | unknown (op : Nat)
deriving DecidableEq, Repr, Inhabited

/-- A request whose CRC passed and whose header up to SEQ is readable (R415, R417): LANE, CLIENT, SEQ, EPOCH, operations; whether
its layout fails; the network port it came by (0 network A, 1 network B) and the source IPv4 address. -/
structure RapReq where
  lane : Nat
  client : Nat
  seq : Nat
  epoch : Nat
  ops : List RapOp
  bad : Bool
  net : Nat
  src : Nat
deriving DecidableEq, Repr, Inhabited

/-- The answer to one operation: OSTAT and response data bytes (R418, R420). -/
structure OpAns where
  ostat : Nat
  data : List Nat
deriving DecidableEq, Repr, Inhabited

/-- A response (R415): request it answers, STATUS, epoch and TICK_CNT at execution, lane active, repeated, session bit. -/
structure RapResp where
  lane : Nat
  client : Nat
  seq : Nat
  status : Nat
  epoch : Nat
  tick : Nat
  active : Bool
  repeated : Bool
  session : Bool
  ans : List OpAns
deriving DecidableEq, Repr, Inhabited

/-- An entry of the client table (R419, R430): its number, client, last SEQ, ms since its last request. -/
structure RapClient where
  idx : Nat
  client : Nat
  lastSeq : Nat
  idleMs : Nat
deriving DecidableEq, Repr, Inhabited

/-- A request between its input latch and its response (R422). -/
structure RapExec where
  req : RapReq
  resp : RapResp
  /-- Its writing operations have taken effect at a commit point. -/
  applied : Bool
  /-- It is answered later (CHART_END, R422). -/
  held : Bool
  /-- A copy of a request that is itself still to be answered (R421). -/
  copy : Bool
deriving DecidableEq, Repr, Inhabited

/-- A Chart transfer (R425). -/
structure ChartXfer where
  client : Nat
  sect : Nat
  total : Nat
  digest : List Nat
  /-- Received blocks, newest first: byte offset and bytes. -/
  blocks : List (Nat × List Nat)
  idleMs : Nat
  /-- SEQ of the CHART_END request that waits for its answer, with its operation number. -/
  ended : Option (Nat × Nat)
deriving DecidableEq, Repr, Inhabited

/-- The register access protocol in a lane, beyond page 0x43. -/
structure RapSt where
  clients : List RapClient := []
  /-- Response cache: newest first, at most 32 per client (R421). -/
  cache : List RapResp := []
  /-- Mirrored record: client, SEQ, request status, operation statuses; at most 32 per client (R423). -/
  record : List (Nat × Nat × Nat × List Nat) := []
  /-- Requests executed in this tick with writing operations, for the mirror frame (R423). -/
  executed : List (Nat × Nat × Nat × List Nat) := []
  /-- Requests waiting for the next input latch, oldest first (R422). -/
  queue : List RapReq := []
  /-- Requests executed whose response is still to be sent, in order of arrival; their writes wait for a commit point (R422, 02
  R73). -/
  pending : List RapExec := []
  /-- Responses sent since the start of the tick, newest first: what leaves the lane (R422). -/
  sent : List RapResp := []
  /-- Nonces: client, bytes, ms left (R427). -/
  nonces : List (Nat × List Nat × Nat) := []
  /-- Client of the open session and ms since its last request; the nonce it was opened with (R428; 13 R508). -/
  session : Option (Nat × Nat) := none
  sessNonce : List Nat := []
  /-- Lockout: ms left (R429). -/
  lockMs : Nat := 0
  xfer : Option ChartXfer := none
  /-- Checked content that waits for its position-cycle boundary: the client (R425). -/
  staged : Option Nat := none
  /-- A restart by LANE_RESTART begins at the start of the next tick (R426). -/
  restart : Bool := false
deriving DecidableEq, Repr, Inhabited

/-- What an Ethernet frame carries, as the port classifies it (R408-R412). -/
inductive EthKind where
  | ptpEvent
  | arpRequest (target : Nat)
  | echoRequest (target : Nat)
  | rap
  | l450
  /-- Another UDP datagram, or IGMP: taken in, without effect on the lane. -/
  | otherUdp
  /-- TCP, DHCP, IPv6 and other protocols: discarded without counting. -/
  | unsupported
  /-- Tagged, jumbo, IPv4 fragment, or FCS error. -/
  | bad
deriving DecidableEq, Repr, Inhabited

/-- One Ethernet port of a lane beyond its page. -/
structure EthSt where
  /-- Frames accepted for processing in this tick (R411). -/
  inTick : Nat := 0
deriving DecidableEq, Repr, Inhabited

/-- A source entry of the Chart (R413). SFI and alias are character codes. -/
structure L450Source where
  sfi : List Nat
  alias2 : Option (Nat × Nat)
deriving DecidableEq, Repr, Inhabited

/-- An IEC 61162-450 datagram (R412). -/
structure L450Dgram where
  /-- Header "UdPbC". -/
  sentences : Bool
  /-- Parameter s:, and whether a d: is present and names no SFI of this module. -/
  src : Option (List Nat)
  dstOther : Bool
  /-- Content after the tag block: sentences, as character codes from "$" to CR LF. -/
  body : List (List Nat)
  /-- PHY receive timestamp, ns. -/
  time : Rat
deriving DecidableEq, Repr, Inhabited

/-- IEC 61162-450 reception in a lane. -/
structure L450St where
  /-- Datagrams of the last 100 ms: source, content, time (R414). -/
  recent : List (List Nat × List (List Nat) × Rat) := []
  /-- Sentences passed on to parsing, oldest first: characters, arrival time, alias. -/
  out : List (List Nat × Rat × Option (Nat × Nat)) := []
deriving DecidableEq, Repr, Inhabited

/-- KIND of a serial transmit entry (R432). -/
inductive SerKind where
  | hdt
  | rot
  | gga
  | zda
  | host
deriving DecidableEq, Repr, Inhabited

/-- A transmit entry of the Chart (R432). -/
structure SerEntry where
  kind : SerKind
  talker : Nat × Nat := (73, 73)
  /-- ms, in 10 ms steps. -/
  period : Nat
deriving DecidableEq, Repr, Inhabited

/-- Port configuration (R431, R440). -/
structure SerCfg where
  /-- 0 OFF, 1 TEXT, 2 BINARY. -/
  mode : Nat := 0
  rate : Nat := 0
  entries : List SerEntry := []
deriving DecidableEq, Repr, Inhabited

/-- A sentence to send: entry number (HOST entries: `none`), what it reports, whether its values were valid, the values. -/
structure SerSentence where
  entry : Option Nat
  kind : SerKind
  talker : Nat × Nat := (73, 73)
  valid : Bool
  /-- Values of the sentence in the units of R432, or the host's characters. -/
  vals : List Rat
  text : List Nat
deriving DecidableEq, Repr, Inhabited

/-- One serial port in a lane, beyond page 0x50. -/
structure SerSt where
  /-- Receive buffer of 4 KiB: characters, oldest first (R431). -/
  buf : List Nat := []
  /-- The sentence or frame in progress contains a bad character. -/
  bad : Bool := false
  /-- ms until each entry falls due. -/
  due : List Nat := []
  /-- Sentences formed in this tick, not committed yet (R432, 02 R73). -/
  staged : List SerSentence := []
  /-- Sentences that the last commit point fixed, for the next tick (01 R48). -/
  fixed : List SerSentence := []
  /-- Unsent sentences of the entries, and HOST sentences, in transmit order; how many of the HOST sentences this tick may send. -/
  queue : List SerSentence := []
  host : List SerSentence := []
  hostReady : Nat := 0
  /-- The sentence in transmission. -/
  sending : Option SerSentence := none
  /-- ns until the first sentence after a grant may begin (R434). -/
  wait : Rat := 0
  /-- ms since the last accepted sentence or frame; `none` before the first. -/
  age : Option Nat := none
  /-- Sentences received in the current second, and in the last one (R448). -/
  rxCount : Nat := 0
  rxLast : Nat := 0
deriving DecidableEq, Repr, Inhabited

/-- Network and serial section of the Chart (R410-R413, R431, R432). -/
structure NetChart where
  /-- IPv4 address and mask of ETH0-ETH3, and their gateways (R409). -/
  ip : List (Nat × Nat) := []
  gateways : List (Option Nat) := []
  groups : Nat := 0
  sources : List L450Source := []
  serial : List SerCfg := List.replicate 12 {}
deriving DecidableEq, Repr, Inhabited

end Sys2Proof.Machine
end

