-- ==== Sys2Proof/Data/Log.lean ====
section
/-! DEFINITION. The data of the Logbook (14_logbook): records, store blocks, sick-bay entries, the recorder's state. -/

namespace Sys2Proof.Machine

/-- A Logbook record (R521): severity, lane that made it, cross-record bit, time-valid bit, kind bit (`true`: CODE is a
record kind of R524), code, sequence number, chronometer seconds and nanoseconds, payload bytes. -/
structure LogRec where
  sev : Nat
  lane : LaneId
  cross : Bool
  timeValid : Bool
  kind : Bool
  code : Nat
  seq : Nat
  sec : Nat
  ns : Nat
  payload : List Nat
deriving DecidableEq, Repr, Inhabited

/-- State of a store block (R525). A FREE block is not listed. -/
inductive BlockSt where
  | isOpen
  | closed
  | retired
deriving DecidableEq, Repr, Inhabited

/-- A block of the record store (R525); `recs` oldest first. -/
structure LogBlock where
  num : Nat
  sev : Nat
  gen : Nat
  firstSeq : Nat
  st : BlockSt
  recs : List LogRec
deriving DecidableEq, Repr, Inhabited

/-- A sick-bay entry (R533). -/
structure SickEntry where
  kind : Nat
  delivered : Bool
  timeValid : Bool
  block : Nat
  offset : Nat
  sec : Nat
  ns : Nat
deriving DecidableEq, Repr, Inhabited

/-- Where the record of the read window was found (R531). -/
inductive LogLoc where
  | none
  | queue
  | block (num gen : Nat)
deriving DecidableEq, Repr, Inhabited

/-- The recorder of a lane (R521-R539). Reset values: R620 and the log entry on hidden state. -/
structure LogSt where
  /-- SEQ of the next record accepted (R523). -/
  nextSeq : Nat := 0
  /-- Records accepted and not drained, oldest first: SRAM queue and staging area together (R526). -/
  queue : List LogRec := []
  /-- Store blocks that are not FREE (R525); kept in MRAM. -/
  blocks : List LogBlock := []
  /-- Generation numbers of blocks that have been reclaimed and are listed no more. -/
  gens : List (Nat × Nat) := []
  /-- Sequence numbers of records lost in a block retired for ECC: they read DAMAGED (R532). -/
  damaged : List Nat := []
  /-- Event records made in the current second, by event number (R528 RATE). -/
  rate : List (Nat × Nat) := []
  /-- The second the counts of `rate` belong to. -/
  rateSec : Nat := 0
  /-- Drops since the last DROP_SUMMARY: RATE, THROTTLE, QUEUE, FULL (R528). -/
  dropRate : Nat := 0
  dropThrottle : Nat := 0
  dropQueue : Nat := 0
  dropFull : Nat := 0
  /-- Chronometer time of the previous DROP_SUMMARY, ns (R528). -/
  lastSummary : Option Int := none
  /-- Sick-bay entries, newest first, at most 64 (R533); kept across a restart without loss of power. -/
  sick : List SickEntry := []
  /-- Selection of the read window is in force, where the record was found, whether it was ever found (R531). -/
  sel : Bool := false
  loc : LogLoc := .none
  /-- Record in the window after the last load. -/
  win : Option LogRec := none
  /-- Cross copies sent and not yet received by the other lane; copies held while both links are down (R526). -/
  crossWire : List LogRec := []
  crossHeld : List LogRec := []
  /-- LOG_WRAPPED is armed (R527, R537). -/
  wrapArmed : Bool := true
  /-- A host note was accepted in this tick (R535). -/
  noteThisTick : Bool := false
  /-- Queue and staging have been above 75 % and not yet below 50 % (R539). -/
  high : Bool := false
  /-- LOG_LEVEL has been written since lane start (R621). -/
  levelWritten : Bool := false
  /-- Each copy of the control area holds an uncorrectable error (R525, R532 CONTROL). -/
  ctl0Bad : Bool := false
  ctl1Bad : Bool := false
deriving DecidableEq, Repr, Inhabited

/-- Logbook section of the Chart (R529). -/
structure LogChart where
  /-- SEV(e) where it differs from the default. -/
  sev : List (Nat × Nat) := []
  level : Nat := 1
  crossLevel : Nat := 5
deriving DecidableEq, Repr, Inhabited

end Sys2Proof.Machine
end

