-- ==== Sys2Proof/Data/Safety.lean ====
section
/-! DEFINITION. The data of the safety channel (13_safety_channel): the safety portion of the Chart, the processor side of a
lane, the Binnacle, the change log. -/

namespace Sys2Proof.Machine

/-- MODE of a safety input (R479). -/
inductive SiMode where
  | off
  | equivalent
  | antivalent
  | reset
deriving DecidableEq, Repr, Inhabited

/-- Per-input configuration (R513). -/
structure SiCfg where
  mode : SiMode := .off
  /-- ms. -/
  discTime : Nat := 100
deriving DecidableEq, Repr, Inhabited

/-- Per-output configuration (R513). -/
structure SoCfg where
  configured : Bool := false
  /-- Inputs SI0-SI15. -/
  stopMask : List Nat := []
  manual : Bool := true
  resetSi : Option Nat := none
  fbEn : Bool := false
  /-- FB_POL: `true` MIRROR (HIGH when released), `false` DIRECT. -/
  mirror : Bool := true
  fbPull : Nat := 100
  fbDrop : Nat := 100
deriving DecidableEq, Repr, Inhabited

/-- The image of the Binnacle (R498). -/
structure BinImage where
  ins : List SiCfg := List.replicate 16 {}
  outs : List SoCfg := List.replicate 8 {}
deriving DecidableEq, Repr, Inhabited

/-- The safety portion of the Chart (R513). -/
structure SafetyPortion where
  image : BinImage := {}
  tpEn : Nat := 255
  tpPeriod : Nat := 10
  /-- 10 µs. -/
  tpWidth : Nat := 30
  pwChange : Bool := false
  /-- PW_NEW of a loaded portion; once its check has recovered it, the password that the portion puts in force (R508). -/
  pwNew : List Nat := []
  /-- First 8 bytes of the SHA-256 digest of the portion (R512). -/
  digest : Nat := 0
deriving DecidableEq, Repr, Inhabited

/-- State of an input as one side sees it (R480). -/
inductive SiState where
  | run
  | discrepant
  | safe
deriving DecidableEq, Repr, Inhabited

/-- One safety input on the processor side of a lane. -/
structure SiProc where
  /-- Filtered terminal levels of the lane's stage now. -/
  a : Bool := false
  b : Bool := false
  /-- A departure from the run level since the last latch (R634). -/
  depA : Bool := false
  depB : Bool := false
  /-- State at the last input latch (R480). -/
  st : SiState := .safe
  demand : Bool := false
  /-- Discrepancy timer, ms (R487), exact. -/
  timer : Rat := 0
  disc : Bool := false
  /-- Both channels have been safe together since the latch (R488). -/
  sawSafe : Bool := false
  /-- ms the input has been RUN (R483). -/
  runMs : Rat := 0
  /-- The Binnacle's latch at the last input latch (status lines). -/
  binDisc : Bool := false
  binDemand : Bool := false
  /-- A RESET input: ms it has been RUN, whether it has been RUN since it was last SAFE, and a release not yet judged with
  the ms of its press (R484). -/
  press : Rat := 0
  seenRun : Bool := false
  release : Option Rat := none
  /-- Source-pulse test of channel A and B: consecutive fails, passes, field fault (17 R597). -/
  failA : Nat := 0
  passA : Nat := 0
  faultA : Bool := false
  failB : Nat := 0
  passB : Nat := 0
  faultB : Bool := false
deriving DecidableEq, Repr, Inhabited

/-- Hold causes (R482), coded as SF_SO_HOLD. -/
inductive HoldCause where
  | none
  | config
  | switch
  | binnacle
  | fb
  | disc
  | demand
  | reset
  | restart
  | notConfigured
deriving DecidableEq, Repr, Inhabited

/-- Which switch a test pulse tests (R493). -/
inductive TestSwitch where
  | proc
  | bin
deriving DecidableEq, Repr, Inhabited

/-- A test pulse running or awaiting judgement (R493, R494). -/
structure TestPulse where
  sw : TestSwitch
  /-- TICK_CNT of the pulse. -/
  tick : Nat
  /-- Readback captured 20 µs before the end: 5 V or more; `none` while the pulse runs. -/
  high : Option Bool := none
  /-- Something makes the result void: a hold, a demand, a changeover (R494). -/
  void : Bool := false
deriving DecidableEq, Repr, Inhabited

/-- One safety output on the processor side of a lane. -/
structure SoProc where
  /-- Gate committed closed (R485), and gate at the terminals now (01 R48). -/
  gate : Bool := false
  applied : Bool := false
  /-- Run delay over, feedback shown released for 10 ms (R483). -/
  runDone : Bool := false
  relDone : Bool := false
  interlock : Bool := true
  hold : HoldCause := .notConfigured
  /-- Readback at 5 V or more, and that of the Binnacle switch, at the last latch. -/
  energised : Bool := false
  binSw : Bool := false
  /-- Latched faults (R491, R495). -/
  fbFault : Bool := false
  procSw : Bool := false
  binSwFault : Bool := false
  /-- The Binnacle reports its own switch fault (R495). -/
  binReports : Bool := false
  /-- STOP line asserted (R477). -/
  stop : Bool := false
  /-- Feedback at the terminal (this lane's stage), and released as judged at the latch (R490). -/
  fbHigh : Bool := false
  released : Bool := false
  fbField : Bool := false
  fbFail : Nat := 0
  fbPass : Nat := 0
  /-- ms the feedback has shown released; ms since the readback changed; pulled in was seen (R483, R491). -/
  relMs : Rat := 0
  sinceMs : Rat := 0
  pulled : Bool := false
  /-- A valid reset was given after conditions 1-3 of R483 were met. -/
  resetGiven : Bool := false
  pulse : Option TestPulse := none
  /-- The active lane's last mirrored gate (12 R457). -/
  mirrored : Bool := true
  /-- De-energised by a safety demand (R485). -/
  byDemand : Bool := false
deriving DecidableEq, Repr, Inhabited

/-- A change log entry (R510, R512). -/
structure ChangeEntry where
  number : Nat
  kind : Nat
  timeValid : Bool
  laneB : Bool
  client : Nat
  /-- ns. -/
  time : Rat
  /-- Bytes 24-55, as eight words. -/
  data : List Nat
deriving DecidableEq, Repr, Inhabited

/-- The processor side of a lane and page 0x59. -/
structure SafetySt where
  ins : List SiProc := List.replicate 16 {}
  outs : List SoProc := List.replicate 8 {}
  /-- The safety region's copy of the portion (R35). -/
  portion : Option SafetyPortion := none
  /-- Outputs held with cause CONFIG by a write in progress (R499). -/
  cfgHold : List Nat := []
  /-- Check word comparison: consecutive mismatches and agreements (R500). -/
  misRun : Nat := 0
  okRun : Nat := 0
  /-- Ticks of LANE_DIFF (R502). -/
  diffTicks : Nat := 0
  /-- Rejected writes of the section in hand (R499), and its new portion. -/
  rejects : Nat := 0
  newPortion : Option SafetyPortion := none
  /-- The Binnacle has taken the new image; the section was refused after 3 rejections and the answer is due. -/
  binTaken : Bool := false
  refused : Bool := false
  /-- Password in force (R506) where a Chart has set one; else the unit's initial password is in force (R507). -/
  password : List Nat := []
  initial : Bool := true
  /-- Change log, oldest first; at manufacture its one entry is FACTORY (R510). -/
  log : List ChangeEntry := [⟨1, 1, false, false, 0, 0, []⟩]
deriving DecidableEq, Repr, Inhabited

/-- One safety input in the Binnacle. -/
structure SiBin where
  a : Bool := false
  b : Bool := false
  disc : Bool := false
  sawSafe : Bool := false
deriving DecidableEq, Repr, Inhabited

/-- One safety output in the Binnacle. -/
structure SoBin where
  sw : Bool := false
  interlock : Bool := true
  fbFault : Bool := false
  swFault : Bool := false
  stop : Bool := false
  test : Bool := false
  fbHigh : Bool := false
  /-- The run delay has ended with every STOP_MASK input RUN; feedback has shown released for 10 ms. -/
  runDone : Bool := false
  relDone : Bool := false
  pulled : Bool := false
  resetGiven : Bool := false
  /-- The switch is held open by a write (R499). -/
  writing : Bool := false
deriving DecidableEq, Repr, Inhabited

/-- A write of the Binnacle in progress (R499). -/
structure BinWrite where
  lane : LaneId
  image : BinImage
  check : Nat
deriving DecidableEq, Repr, Inhabited

/-- The Binnacle (R498, R51). -/
structure BinnacleSt where
  /-- The shared section supplies it. -/
  power : Bool := false
  image : Option BinImage := none
  check : Nat := 0
  /-- The check circuit finds image and check word different (R498). -/
  cfgBad : Bool := true
  ins : List SiBin := List.replicate 16 {}
  outs : List SoBin := List.replicate 8 {}
  write : Option BinWrite := none
deriving DecidableEq, Repr, Inhabited

/-- A safety or feedback channel at the terminals. -/
inductive SfChan where
  | siA (n : Nat)
  | siB (n : Nat)
  | fb (k : Nat)
deriving DecidableEq, Repr, Inhabited

/-- Which decider (R476). -/
inductive Side where
  | proc (l : LaneId)
  | bin
deriving DecidableEq, Repr, Inhabited

end Sys2Proof.Machine
end

