-- ==== Sys2Proof/Data/Sextant.lean ====
section
/-! DEFINITION. The data of the Sextant (07_gnss_baseband). Ranges m, phases cycles, frequencies Hz, C/N0 dB-Hz, angles
degrees, times ns. -/

namespace Sys2Proof.Machine

/-- Satellite systems, coded as ANT_CH.SYS. -/
inductive GnssSys where
  | gps
  | gal
  | bds
deriving DecidableEq, Repr, Inhabited

/-- A satellite: system and number. -/
structure Sat where
  sys : GnssSys
  prn : Nat
deriving DecidableEq, Repr, Inhabited

/-- Channel states (R275), coded as ANT_CH.STATE. -/
inductive TrkState where
  | idle
  | pullIn
  | codeLock
  | phaseLock
deriving DecidableEq, Repr, Inhabited

/-- Sextant section of the Chart (R297). -/
structure SextantChart where
  gps : Bool := true
  gal : Bool := true
  bds : Bool := true
  elevMask : Nat := 10
  cn0Use : Nat := 30
  cn0Track : Nat := 25
  tapWide : Option Rat := none
  tapNarrow : Rat := 1 / 10
  pllBw : Rat := 15
  dllBw : Rat := 1 / 2
  smooth : Rat := 100
  pdopMax : Rat := 6
  sigmaUere : Rat := 8 / 10
  /-- Baselines in body axes, m. -/
  b12 : Option (Rat × Rat × Rat) := none
  b13 : Option (Rat × Rat × Rat) := none
  baseTol : Rat := 2 / 100
  ratio : Rat := 3
  /-- In 0.25 ns. -/
  antDelay : List Nat := [0, 0, 0]
  bias : List Bool := [true, true, true]
deriving DecidableEq, Repr, Inhabited

/-- The correlator sums of one loop update of a channel (R273): the prompt tap in phase and in quadrature, the magnitudes of the
other six. -/
structure Taps where
  i : Rat
  q : Rat
  e : Rat
  l : Rat
  ve : Rat
  vl : Rat
  ne : Rat
  nl : Rat
deriving DecidableEq, Repr, Inhabited

/-- The loops of a channel (R274): accumulated carrier phase in cycles, carrier frequency in Hz and its rate in Hz/s; code phase
in chips beyond the replica's nominal run; the last prompt, for the FLL. -/
structure SxLoop where
  phase : Rat := 0
  freq : Rat := 0
  accel : Rat := 0
  code : Rat := 0
  prompt : Option (Rat × Rat) := none
deriving DecidableEq, Repr, Inhabited

/-- A tracking channel (R272-R278). -/
structure SxChan where
  st : TrkState := .idle
  sat : Option Sat := none
  lower : Bool := false
  /-- Values captured at the last strobe. -/
  code : Rat := 0
  carr : Rat := 0
  dop : Rat := 0
  cn0 : Rat := 0
  elev : Rat := 0
  /-- ns in CODE_LOCK or PHASE_LOCK, and in PHASE_LOCK. -/
  lockNs : Rat := 0
  phaseNs : Rat := 0
  slips : Nat := 0
  half : Bool := false
  slip : Bool := false
  usedPos : Bool := false
  usedAtt : Bool := false
  loop : SxLoop := {}
  /-- ns in PULL_IN; placed on a further antenna, within ±3 chips (R269). -/
  pullNs : Rat := 0
  placed : Bool := false
  /-- Code range in m and accumulated carrier phase in cycles of the strobe before (R276). -/
  last : Option (Rat × Rat) := none
  /-- Smoothing running (R283): previous smoothed range, phase, epochs since the last reset. -/
  smooth : Option (Rat × Rat × Nat) := none
deriving DecidableEq, Repr, Inhabited

/-- What the lane holds of a satellite (R268, R269, R275). -/
structure SatData where
  sat : Sat
  almanac : Bool := false
  eph : Bool := false
  /-- Broadcast health is good. -/
  healthy : Bool := false
  /-- Predicted elevation, degrees, where predicted. -/
  elev : Option Rat := none
  singleBand : Bool := false
  /-- ns since it was marked single-band. -/
  singleNs : Rat := 0
  /-- Aided re-search after a loss is running (R275), for so many ns. -/
  research : Bool := false
  researchNs : Rat := 0
deriving DecidableEq, Repr, Inhabited

/-- The strongest bin of a pass of the bank (R266): code bin and Doppler bin, its power, the noise estimate of the pass. -/
structure AcqPeak where
  code : Nat
  dop : Nat
  power : Rat
  noise : Rat
deriving DecidableEq, Repr, Inhabited

/-- What the hardware captures of a channel at a strobe (R278): the sums of its loop updates since the strobe before, the time in s
since the last of them; with GE's data of the satellite for the epoch: the range in m that the code phase is taken from, corrected
under R284 but for the cable delay, the divergence in cycles predicted between carrier phase and code range (R276), C/N0,
elevation, position in the earth frame. -/
structure StrobeCap where
  chan : Nat
  ups : List Taps
  since : Rat
  base : Rat
  diverge : Rat
  cn0 : Rat
  elev : Rat
  pos : Rat × Rat × Rat
deriving DecidableEq, Repr, Inhabited

/-- One channel's measurements, extrapolated to t_L (R278), with the satellite's data of the epoch. -/
structure Capture where
  chan : Nat
  code : Rat
  carr : Rat
  dop : Rat
  cn0 : Rat
  elev : Rat
  /-- Code and carrier diverge by more than 0.5 cycle (R276). -/
  diverged : Bool
  /-- Satellite position in the earth frame, m. -/
  pos : Rat × Rat × Rat
deriving DecidableEq, Repr, Inhabited

/-- What GE decodes from a satellite's message (R276, R268, 09 R343): a preamble, whether it shows the half cycle resolved the
wrong way, ephemeris and almanacs with their predicted elevations, GPS time, UTC parameters. -/
structure NavMsg where
  preamble : Bool
  wrongHalf : Bool
  eph : Bool
  healthy : Bool
  elev : Option Rat
  almanacs : List (Sat × Rat)
  gpsTime : Bool
  /-- ΔtLS; ΔtLSF and the UTC day, counted from 1970-01-01, at whose end it takes effect. -/
  utc : Option Nat
  leap : Option (Nat × Nat) := none
deriving DecidableEq, Repr, Inhabited

/-- A double difference of a satellite's band on a baseline (R290), in cycles: as measured, and as predicted from the attitude. -/
structure DblDiff where
  sat : Sat
  lower : Bool
  meas : Rat
  pred : Rat
deriving DecidableEq, Repr, Inhabited

/-- The integer of a double difference (R290, R291). -/
structure Amb where
  sat : Sat
  lower : Bool
  n : Int
deriving DecidableEq, Repr, Inhabited

/-- GE's work on one baseline in one epoch (R290): the double differences, the best integers and their ratio to the second best,
the measured vector in the earth frame and its weight. -/
structure BaseSearch where
  dds : List DblDiff
  ints : List Amb
  ratio : Rat
  vec : Rat × Rat × Rat
  weight : Rat
deriving DecidableEq, Repr, Inhabited

/-- What GE's work on an epoch gives beyond the captures (R279-R292). -/
structure EpochIn where
  b12 : BaseSearch
  b13 : BaseSearch
  /-- σ of heading and of the larger of roll and pitch, degrees. -/
  sigHdg : Rat
  sigRp : Rat
  /-- GE finished by 900 µs of the tick it finished in. -/
  intime : Bool
deriving DecidableEq, Repr, Inhabited

/-- The Sextant of a lane. -/
structure SextantSt where
  chans : List SxChan := List.replicate 216 {}
  sats : List SatData := []
  /-- A position known to 10 km; the frequency error; a first fix was made (R268). -/
  posKnown : Bool := false
  freqKnown : Bool := false
  fixed : Bool := false
  gpsTime : Bool := false
  /-- An epoch is open: a strobe came and GE has not finished; t_L. -/
  open_ : Bool := false
  tL : Rat := 0
  /-- Strobes since lane start; a strobe is due in this tick; one is withheld (R277). -/
  strobes : Nat := 0
  strobeDue : Bool := false
  withheld : Bool := false
  /-- What the last strobe captured. -/
  caps : List Capture := []
  /-- A clock offset and its σ, ns, on its way to the chronometer (R279, R287). -/
  toChron : Option (Rat × Rat) := none
  /-- The GNSS sampling domain has restarted (R281). -/
  run : Bool := false
  /-- The epoch now in progress is not a full one (R277). -/
  partialEpoch : Bool := true
  /-- Attitude: 0 NONE, 1 FLOAT, 2 FIXED; epochs in a row that meet R290 with the same integers; held integers. -/
  att : Nat := 0
  run12 : Nat := 0
  run13 : Nat := 0
  ints12 : List Amb := []
  ints13 : List Amb := []
  /-- The reference satellite of the double differences (R290, R291). -/
  ref : Option Sat := none
  /-- The baselines in the earth frame of the last FIXED epoch since lane start (R269). -/
  vecs : Option ((Rat × Rat × Rat) × (Rat × Rat × Rat)) := none
  /-- Epochs in a row beyond BASE_TOL while FIXED (R291). -/
  bad12 : Nat := 0
  bad13 : Nat := 0
  /-- Commands accepted that act at the next strobe (R300). -/
  pendCmd : Option Nat := none
  /-- Exclusions and delays in force: those written take effect with a later strobe (R288). -/
  exclNow : List Nat := [0, 0, 0, 0, 0]
  delayNow : List Nat := [0, 0, 0]
  delayNew : List Bool := [false, false, false]
  /-- Last position of each antenna, m, as the solution's start. -/
  pos : List (Rat × Rat × Rat) := [(0, 0, 0), (0, 0, 0), (0, 0, 0)]
  /-- ns without signal per antenna while another tracks (R302). -/
  noSignal : List Rat := [0, 0, 0]
  /-- Gain in 0.1 dB of the chains of each antenna, upper and lower, where known, and ns that each has stood at the end of its range
  it is at (R264). -/
  gain : List (Option Nat) := List.replicate 6 none
  gainNs : List Rat := List.replicate 6 0
  failed : Bool := false
  /-- The bank's work in progress: satellite, passes left, aided; the satellite searched last. -/
  search : Option (Sat × Nat × Bool) := none
  last : Option Sat := none
  /-- ns of the pass in progress. -/
  passNs : Rat := 0
  /-- The strobe of the open epoch came in this tick (R280). -/
  strobeTick : Bool := false
  /-- Ticks since lane start in which start data of the other lane may arrive (R270). -/
  askAge : Nat := 0
deriving DecidableEq, Repr, Inhabited

end Sys2Proof.Machine
end

