-- ==== Sys2Proof/Data/Tick.lean ====
section
/-! DEFINITION. The data of the tick, the modes, start-up and scheduled actions (02_tick_and_modes), and of the lane's
memories and engines (01). -/

namespace Sys2Proof.Machine

/-- Start causes (R102), coded as BOOT_CAUSE.CAUSE. -/
inductive StartCause where
  | powerOn
  | hostRestart
  | failedStartRetry
  | laneFailRestart
  | supplyReset
deriving DecidableEq, Repr, Inhabited

/-- What a lane finds while it starts (R88): the outcomes of the steps' own checks. -/
structure StartFindings where
  /-- Step 3: every engine image of the boot slot passes its SHA-256 digest; those of the other slot pass. -/
  imagesOk : Bool
  otherImagesOk : Bool
  /-- Step 4: LPDDR4 training and SRAM test. -/
  memoryOk : Bool
  /-- Step 5: Chart bank 0 and bank 1 pass their checks. -/
  bank0Ok : Bool
  bank1Ok : Bool
  /-- Step 7: engine self-test. -/
  selfTestOk : Bool
  /-- Steps 1 to 9 in ms of SYS-domain time. -/
  ms : Nat
  /-- The boot record area passes its CRC-32 check (R61, R95). -/
  bootAreaOk : Bool
  /-- IO_IN and ANA_IN are in limits at the release of reset, and IO_IN was before CORE_IN (16 R565). -/
  ioOk : Bool
  anaOk : Bool
  ioBeforeCore : Bool
  /-- A cross-link passes frames at step 6. -/
  linkUp : Bool
deriving DecidableEq, Repr, Inhabited

/-- Where a start has come to (R88). -/
inductive BootPhase where
  /-- Held in reset, or unpowered. -/
  | reset
  /-- Waiting for a reference and the PLL, steps 1 and 2. -/
  | clock
  /-- Steps 3 to 6 done; step 6 waits for the other lane's reply. -/
  | exchange
  /-- The tick runs (steps 7 and 8). -/
  | running
deriving DecidableEq, Repr, Inhabited

/-- A start record (R95): powered time in ms, chronometer time in ns where known. -/
structure StartRec where
  powered : Nat
  chron : Option Rat
deriving DecidableEq, Repr, Inhabited

/-- One engine image slot (R41, R468-R470). -/
structure ImageSlot where
  valid : Bool := true
  /-- First 8 bytes of the SHA-256 over the image. -/
  digest : Nat := 0
  fmtMin : Nat := 1
  fmtMax : Nat := 1
  /-- Words received through RED_FW_DATA, by byte offset, newest first. -/
  words : List (Nat × Word) := []
deriving DecidableEq, Repr, Inhabited

/-- The failed-start history (R42, R95-R98). -/
structure BootMem where
  /-- The previous start's record and this one's. -/
  prevStart : Option StartRec := none
  thisStart : Option StartRec := none
  failCount : Nat := 0
  lastFail : Nat := 0
  /-- Consecutive IMAGE_DIGEST failures (R97). -/
  digestFails : Nat := 0
deriving DecidableEq, Repr, Inhabited

/-- Start-up state and what the snapshot partition and the SRAM boot record area keep (R42, R95-R98). -/
structure BootSt where
  phase : BootPhase := .reset
  /-- Cause of this start, or of the next one while the lane is held in reset. -/
  cause : StartCause := .powerOn
  findings : StartFindings := default
  /-- The history as the lane holds it (SRAM boot record area and working copy), and its copy in MRAM (R95). -/
  mem : BootMem := {}
  mram : BootMem := {}
  bootSlot : Nat := 0
  slot0 : ImageSlot := {}
  slot1 : ImageSlot := { valid := false }
  /-- The boot slot is on trial, and the slot before it (R469). -/
  trial : Option Nat := none
  /-- Starts of the lane, the cycle counter that snapshots keep (R42; log entry 83). -/
  cycles : Nat := 0
  /-- The snapshot partition: servo's last frequency correction, TS11 mean, powered time, cycle counter (R42). -/
  snapF : Rat := 0
  snapMean : Rat := 0
  snapPowered : Nat := 0
  snapCycles : Nat := 0
  /-- The same four values of the newest snapshot, held in SRAM until it is written (16 R578). -/
  newest : Rat × Rat × Nat × Nat := (0, 0, 0, 0)
  /-- Ticks since the last snapshot (R42). -/
  snapAge : Nat := 0
  /-- Ticks since step 7 in which step 8 decides (R88, R91); `none` once the role is decided. -/
  deciding : Option Nat := none
  /-- Ticks waited without an active lane (R91); after a contest; with DRIVE asserted. -/
  roleWait : Option Nat := none
  contestWait : Option Nat := none
  driveWait : Option Nat := none
  /-- A SELECT_CONTEST that the lane has not yet answered (R91, R100). -/
  contest : Bool := false
  /-- The image on trial failed and is marked REJECTED (12 R469). -/
  rejected : Bool := false
  /-- This lane waits for a lane in LUBBER to give up the grant (R101). -/
  waiting : Bool := false
  /-- This start's record has been made, and the powered time at its release of reset, ms (R95, R96). -/
  recorded : Bool := false
  beganMs : Nat := 0
deriving DecidableEq, Repr, Inhabited

/-- A scheduled action (R103-R106). -/
structure SchedAct where
  /-- Scheduled chronometer time, ns. -/
  time : Rat
  /-- `false`: register write; `true`: mode request. -/
  mode : Bool
  addr : Nat
  data : Nat
  tag : Nat
deriving DecidableEq, Repr, Inhabited

/-- One entry of the mode transition table (R78). -/
structure ModeEntry where
  trigger : Nat
  require : Nat
  priority : Nat
  auto : Bool
  host : Bool
deriving DecidableEq, Repr, Inhabited

/-- Mode section of the Chart: the bytes of the mode transition table, 144 entries of 8 bytes (R78-R80). -/
structure ModeChart where
  table : List Nat := []
  /-- SCHED_LIMIT, ms (R111). -/
  schedLimit : Nat := 1000
deriving DecidableEq, Repr, Inhabited

/-- A pending mode request (R81). -/
structure ModeReqPend where
  mode : Nat
  tag : Nat
  /-- The scheduled action it came from, and whether that executed LATE (R105, R106). -/
  sched : Option (SchedAct × Bool) := none
deriving DecidableEq, Repr, Inhabited

/-- Tick, mode and schedule state beyond page 0x02. -/
structure TickSt where
  /-- Delay still to be added to the grid, ns, and its running (R67). -/
  realign : Rat := 0
  realigning : Bool := false
  /-- TICK_CNT of frame faults in the last 1000 ticks, newest first (R74). -/
  faults : List Nat := []
  /-- Ticks since lane start, not wrapping. -/
  count : Nat := 0
  pendMode : Option ModeReqPend := none
  sched : List SchedAct := []
  /-- A mode transition was deferred by a frame fault (R73). -/
  lateMode : Bool := false
  /-- The tick in progress has latched and not committed. -/
  inTick : Bool := false
  /-- The tick in progress began a position cycle, a GNSS epoch, a second. -/
  posTick : Bool := false
  epochTick : Bool := false
  secTick : Bool := false
  /-- Engines stopped at 1000 µs, whose work is discarded (R71). -/
  stopped : List Nat := []
  /-- An uncorrectable error discards the tick's computation as in a frame fault (R44). -/
  discard : Bool := false
  /-- An escalation under R74 has been declared. -/
  escalated : Bool := false
  /-- Sum of the chronometer's steps at the last tick start (R67, 03 R129). -/
  stepSeen : Rat := 0
  /-- Length in ns of the ticks just past that ended in a frame fault (R73). -/
  lost : Rat := 0
  /-- The lane enters LUBBER once the planned handover has completed (12 R461); that transition was made late (R73). -/
  lubberAfter : Bool := false
  lubberLate : Bool := false
  /-- A transition to mode 2 made in this tick, and whether late: the lane enters LUBBER at the commit point, and a frame fault
  defers it (R73). -/
  goLubber : Option Bool := none
  /-- What the scheduled actions of this tick wrote: address, word before and after; the command they left pending (R73). -/
  schedWrote : List (Nat × Word × Word) := []
  schedPend : Bool := false
  /-- Chronometer times of the latest position-cycle boundary and of the one before, as a step moves them (R105). -/
  bound : Option Rat := none
  prevBound : Option Rat := none
deriving DecidableEq, Repr, Inhabited

/-- Lane-wide state of engines, memories and cross-links (01) beyond page 0x01. -/
structure LaneHw where
  /-- Consecutive ticks with no intact mirror (R46). -/
  mirrorMiss : Nat := 0
  /-- The lane declared itself failed (R442): cause code of R454, engine or memory code of R633, tick count then. -/
  failed : Option (Nat × Nat × Nat) := none
  /-- Engines, in the bit layout of R57, that halted or failed a check and are declared failed at the next commit point (R34,
  R37, R44); those that halted on a lockstep mismatch; an error in the safety region is the cause. -/
  halt : Nat := 0
  mismatch : Nat := 0
  haltMem : Bool := false
  /-- The current Chart bank holds an uncorrectable error (R44). -/
  chartDamaged : Bool := false
  /-- The snapshot in MRAM holds an uncorrectable error and is invalid until the next is written (R44). -/
  snapshotBad : Bool := false
  /-- Scrub: words passed in the current pass of SRAM, LPDDR4, MRAM (R43). -/
  scrubSram : Nat := 0
  scrubDram : Nat := 0
  scrubMram : Nat := 0
deriving DecidableEq, Repr, Inhabited

end Sys2Proof.Machine
end

