-- ==== Sys2Proof/Data/Chart.lean ====
section
/-! DEFINITION. The Chart (11 R631): its sections as typed records, its banks. -/

namespace Sys2Proof.Machine

/-- A whole Chart: one record per section of R631. Its default is what holds while no Chart is loaded. -/
structure Chart where
  modes : ModeChart := {}
  red : RedChart := {}
  safety : SafetyPortion := {}
  refs : RefChart := {}
  vessel : VesselChart := {}
  targets : TargetChart := {}
  ctl : ControlEntry := {}
  alloc : AllocChart := {}
  sx : SextantChart := {}
  chron : ChronChart := {}
  ana : AnaChart := {}
  can : CanChart := {}
  net : NetChart := {}
  log : LogChart := {}
  clock : ClockChart := {}
  therm : ThermChart := {}
  /-- First 8 bytes of the bank digest (R632). -/
  digest : Nat := 0
deriving DecidableEq, Repr, Inhabited

/-- The Chart banks of a lane (01 R40). -/
structure ChartSt where
  bank0 : Option Chart := none
  bank1 : Option Chart := none
  /-- The current bank. -/
  cur : Nat := 0
  /-- The Chart in force: the current bank's content once it has passed its check. -/
  now : Chart := {}
  /-- The current bank passed its check and was loaded (CHART_OK, R77). -/
  ok : Bool := false
  /-- Checked content that waits in the other bank for its boundary, with the section loaded (R425). -/
  next : Option (Chart × Nat) := none
deriving DecidableEq, Repr, Inhabited

end Sys2Proof.Machine
end

