-- ==== Sys2Proof/Data/Mirror.lean ====
section
/-! DEFINITION. The mirror frame (12 R450) and what a lane keeps of the end of the last tick for a frame fault (02 R73). -/

namespace Sys2Proof.Machine

/-- What the mirror frame carries of the CAN ports (10 R402): per port WAIT_START and the port state; the host data committed in the
tick, with object number and tag; requests accepted in the tick (object, CMD, tag); SENDs pending; frames sent. -/
structure CanMirror where
  wait : Bool
  state : Nat := 3
  host : Option (Nat × Nat × List Nat) := none
  reqs : List (Nat × Nat × Nat) := []
  sends : List Nat
  sent : Nat
deriving DecidableEq, Repr, Inhabited

/-- A mirror frame (12 R450): header, mode, schedule, intake, Plotter, control, allocation, analogue, chronometer, CAN, RAP,
safety; the register words that the shares carry. -/
structure MirrorFrame where
  tick : Nat
  epoch : Nat
  /-- Marked REPEAT (02 R73). -/
  again : Bool
  /-- Sent on a position-cycle tick. -/
  posTick : Bool
  plan : Option (Nat × TakeCause)
  suspTicks : Nat
  holdoff : Nat
  tbSince : Option (Nat × Nat)
  awaySince : Option Nat
  mode : Nat
  prev : Nat
  late : Bool
  cond : Nat
  pendMode : Option ModeReqPend
  sched : List SchedAct
  ntk : IntakeSt
  plt : PlotterSt
  ctl : CtlSt
  alc : AllocSt
  /-- Position-cycle means of the analogue inputs; committed output values (08 R325, R330). -/
  means : List (Option Rat)
  aoVals : List Int
  restartBits : Nat
  leap : Option LeapPend
  ptp : List PtpShare
  cyc : Nat
  can : List CanMirror
  /-- CAN alive counters (12 R450). -/
  alive : List Nat
  /-- (CLIENT, SEQ, status, statuses) of the requests executed in the tick; clients with their last SEQ (11 R423, R430). -/
  executed : List (Nat × Nat × Nat × List Nat)
  clients : List (Nat × Nat)
  sf : SafetySt
  regs : List (Nat × Word)
deriving DecidableEq, Repr, Inhabited

/-- What a frame fault restores (02 R73). -/
structure WorkSnap where
  plt : PlotterSt
  ctl : CtlSt
  alc : AllocSt
  ntk : IntakeSt
  pendMode : Option ModeReqPend
  sched : List SchedAct
  regs : List (Nat × Word)
  mode : Nat
  /-- The named handover, and whether LUBBER follows it (12 R459, R461). -/
  plan : Option (Nat × TakeCause)
  lubberAfter : Bool
  /-- Events found before the tick's work. -/
  found : Nat
deriving DecidableEq, Repr, Inhabited

end Sys2Proof.Machine
end

