-- ==== Sys2Proof/Data/Operand.lean ====
section
/-! DEFINITION. What commands carry from outside the block. -/

namespace Sys2Proof.Machine

/-- What an input reads when it has left its limits (R563, R584): state code, polarity, mV. -/
structure SupplyLoss where
  state : Nat
  reversed : Bool
  mv : Nat
deriving DecidableEq, Repr

/-- A finding of the terminal monitor of an analogue input (R596). -/
inductive TermFind where
  | short
  | reversed
deriving DecidableEq, Repr, Inhabited

/-- Where a sentence comes from. -/
inductive SentSrc where
  | serial (port : Nat)
  | l450
deriving DecidableEq, Repr, Inhabited

/-- What a lane measures at an output's terminal: value, and whether at compliance or at the current limit (R331). -/
structure AoRead where
  value : Int
  limited : Bool
deriving DecidableEq, Repr, Inhabited

/-- Where a binary frame comes from (R120). -/
inductive BinSrc where
  | serial (port : Nat)
  /-- ETH port 0-3, UDP destination port, payload. -/
  | udp (eth dport : Nat) (bytes : List Nat)
  /-- CAN port and receive object. -/
  | can (port obj : Nat)
deriving DecidableEq, Repr, Inhabited

/-- What a cross-link delivered of a frame or word: an intact copy, one that failed its CRC-32, nothing (01 R46). -/
inductive LinkRx where
  | intact
  | bad
  | none
deriving DecidableEq, Repr, Inhabited

/-- Where an uncorrectable memory error lies (01 R44). -/
inductive EccRegion where
  | dram
  | sram
  /-- The safety region of SRAM. -/
  | safety
  /-- MRAM, where the word's address gives the partition (01 R39). -/
  | mram
deriving DecidableEq, Repr, Inhabited

/-- Partitions of MRAM (01 R39). -/
inductive MramPart where
  | logbook
  | chart (bank : Nat)
  | image (slot : Nat)
  | snapshot
deriving DecidableEq, Repr, Inhabited

/-- The partition of a byte offset within MRAM (01 R39). -/
def mramPart (ofs : Nat) : MramPart :=
  if ofs < 0x2000000 then .logbook
  else if ofs < 0x2400000 then .chart 0
  else if ofs < 0x2800000 then .chart 1
  else if ofs < 0x3000000 then .image 0
  else if ofs < 0x3800000 then .image 1
  else .snapshot

/-- What a tick brings from outside the lane, and what its engines' speed decides. -/
structure TickIn where
  /-- Voltages (mV) and currents (mA) of the three inputs (R563). -/
  mv : List Nat
  ma : List Nat
  /-- Readbacks of the sixteen analogue outputs (R331). -/
  ao : List AoRead
  /-- Per CAN port, the transmit object whose frame is on the bus (R394). -/
  begun : List (Option Nat)
  /-- The DAC readback before the selector, and the gate drive lines, differ (R448). -/
  dacBad : Bool
  gateBad : Bool
  /-- AE: iterations of the active-set method completed by 720 µs and by 600 µs, DONE in 0.1 µs (R230, R254). -/
  iters : Nat
  early : Nat
  aeDone : Nat
  /-- Length in ns of a tick stretched by a coast, as the clock monitor gives it (R182). -/
  coastNs : Rat
deriving DecidableEq, Repr, Inhabited

/-- What the commit logic finds at 850 µs (R69, R72): engines with no heartbeat, engines with a heartbeat and no DONE, in the bits
of R57; offset of the last DONE in 0.1 µs and its engine's bit. -/
structure CommitIn where
  noBeat : Nat
  notDone : Nat
  done : Nat
  engine : Nat
deriving DecidableEq, Repr, Inhabited

/-- A channel's code lock (07 R275, R269): the channel, and the chips from where it was set. -/
structure CodeSeen where
  chan : Nat
  ofs : Rat
deriving DecidableEq, Repr, Inhabited

/-- A channel's lock indicator (07 R275): the channel, the indicator, and the ms it has stood beyond its limit. -/
structure LockSeen where
  chan : Nat
  ind : Rat
  ms : Nat
deriving DecidableEq, Repr, Inhabited

/-- A channel's C/N0 (07 R275): the channel, dB-Hz, and the ms it has stood below CN0_TRACK. -/
structure Cn0Seen where
  chan : Nat
  cn0 : Rat
  ms : Nat
deriving DecidableEq, Repr, Inhabited

/-- The captures of an epoch strobe (07 R277, R278), and the edge they are of, in eighths of a ns after the strobe. -/
structure StrobeSet where
  lag : Nat
  caps : List StrobeCap
deriving DecidableEq, Repr, Inhabited

/-- A Vernier sample (08 R310, R320): the CIC stage's value in 1 µV or 1 nA, and the chronometer time of the modulator edge. -/
structure CoarseVal where
  val : Rat
  time : Rat
deriving DecidableEq, Repr, Inhabited

end Sys2Proof.Machine
end

