-- ==== Sys2Proof/Syntax.lean ====
section
/-! DEFINITION. The commands of the block: one constructor per row of the opcode table, with what each carries from outside. A
lane `l` comes first where the row acts on one; the operands are those of the meanings, whose documents name them. -/

namespace Sys2Proof

open Machine

/-- The commands (spec/opcode_table.json), in the table's order. -/
inductive Instr where
  /-- Power-on or restart: the lane leaves reset and works through the start-up steps to READY or CONFIG (R88). -/
  | laneStart (l : LaneId) (f : StartFindings)
  /-- After 2 s without a reply at step 6, the lane proceeds as sole lane (R88). -/
  | capabilityExchangeTimeout (l : LaneId)
  /-- A non-preferred lane that has seen no active lane for 2000 ticks asserts DRIVE (R91). -/
  | roleWaitExpiry (l : LaneId)
  /-- After a SELECT_CONTEST, the preferred lane asserts DRIVE again 10 ticks after withdrawing it (R91). -/
  | contestReassert (l : LaneId)
  /-- A lane whose DRIVE is still not granted after 10 ticks withdraws it and takes the standby role (R91). -/
  | driveNotGranted (l : LaneId)
  /-- READY or CONFIG is not reached within the 20 s boot window, or no reference has qualified: the start fails (R94). -/
  | bootWindowTimeout (l : LaneId)
  /-- Lane B in LUBBER asserts DRIVE after no health word has come from Lane A for 2000 ticks (R100). -/
  | lubberPeerSilence (l : LaneId)
  /-- A lane in LUBBER releases DRIVE once it has seen ARMED from the waiting lane in 10 consecutive latches (R101). -/
  | lubberRelease (l : LaneId)
  /-- A lane in the FAILED role restarts itself 100 ticks after its declaration (R442). -/
  | laneFailRestart (l : LaneId)
  /-- A tick begins when the chronometer passes a whole millisecond; the tick's work runs to its phases (R63). -/
  | tickStart (l : LaneId) (x : TickIn)
  /-- The aim stage reaches 720 µs before it converges, and the last iterate is used (R230). -/
  | allocNotConverged (l : LaneId)
  /-- The count of consecutive ticks not converged reaches 10 (R230). -/
  | allocNcEvt (l : LaneId)
  /-- After ALLOC has been selected for LIMIT_HOLD consecutive ticks, the channel leaves LIMITED (R238). -/
  | limitHoldExpiry (l : LaneId) (n : Nat)
  /-- Ready, DEPLOYED and FB_VALID hold for 100 consecutive ticks, and the channel goes from NOT_READY to ONLINE (R225). -/
  | channelReady (l : LaneId) (n : Nat)
  /-- Ready or DEPLOYED is false for 10 consecutive ticks, and the channel goes to NOT_READY (R225). -/
  | channelNotReady (l : LaneId) (n : Nat)
  /-- A following-error timer reaches FE_TIME, and the channel enters FAULT (R245). -/
  | followFault (l : LaneId) (n : Nat)
  /-- FB_VALID stays clear for FB_GRACE, and the channel enters FAULT unless FB_KEEP is set (R246). -/
  | fbGraceExpiry (l : LaneId) (n : Nat)
  /-- A lever source goes without an update for 200 ms, or gets a fault, and gives zero demand (R243). -/
  | leverStale (l : LaneId) (n : Nat)
  /-- A power-management value is not updated within PM_TIMEOUT, and the fallback applies (R223). -/
  | pmStale (l : LaneId) (b : Nat)
  /-- A rising edge of a bus LOAD_RED input limits the blackout ceilings of the bus's channels (R236). -/
  | loadReduction (l : LaneId) (b : Nat)
  /-- At 850 µs the lane commits outputs, or declares a frame fault or a failed engine (R69). -/
  | commitPoint (l : LaneId) (x : CommitIn)
  /-- In the tick after a CE failure, its channels are reassigned and their restore states are loaded (R247). -/
  | chanMigrated (l : LaneId)
  /-- The receiving CEs commit the first new commands, and MIGRATING clears (R248). -/
  | migrationComplete (l : LaneId)
  /-- An engine still executing at 1000 µs is stopped and restarts the next tick from its last committed state (R71). -/
  | engineStop (l : LaneId) (n : Nat)
  /-- The standby adopts the mirror frame, or the REPEAT state, or keeps its own state (R449). -/
  | mirrorFrameReceived (l : LaneId) (x0 : LinkRx) (x1 : LinkRx)
  /-- An intact health word from the other lane is taken as its latest state (R444). -/
  | healthWordReceived (l : LaneId) (x0 : LinkRx) (x1 : LinkRx) (skew : Int)
  /-- No health word arrives for 3 ticks, and the other lane's role reads NONE (R442). -/
  | healthWordTimeout (l : LaneId)
  /-- Neither link delivers an intact mirror in 3 consecutive ticks (R46). -/
  | xlinkLost (l : LaneId)
  /-- A lockstep comparator finds a mismatch, and the pair halts within the transaction (R34). -/
  | lockstepMismatch (l : LaneId) (safe : Bool)
  /-- A correctable memory error is corrected and written back (R44). -/
  | eccCorr (l : LaneId) (mem : Nat)
  /-- An uncorrectable memory error is handled according to the region that holds it (R44). -/
  | eccUncorr (l : LaneId) (r : EccRegion) (word : Nat)
  /-- Background scrubbing reads, corrects and writes back memory words in the tick's slack (R43). -/
  | memoryScrub (l : LaneId) (mem : Nat) (words : Nat) (corr : Nat)
  /-- Every 60 s, and at an orderly shutdown, the lane writes its state snapshot to MRAM (R42). -/
  | snapshotWrite (l : LaneId)
  /-- A lane asserts DRIVE into the interlock (R30). -/
  | driveAssert (l : LaneId)
  /-- The holding lane releases DRIVE, and the break-before-make dead time begins (R30). -/
  | driveRelease (l : LaneId)
  /-- At the end of the 1 µs resolution window, the lone requester is granted (R624). -/
  | grantResolve
  /-- At the end of the dead time, the grant passes to the other lane if it asserts DRIVE (R31). -/
  | deadTimeEnd
  /-- The hardware claim circuit asserts DRIVE when ARM is asserted and no lane holds or requests the grant (R452). -/
  | claim (l : LaneId)
  /-- The 50 µs inhibit after a lane's own release ends, and its claim circuit may act again (R452). -/
  | claimInhibitEnd (l : LaneId)
  /-- No commit strobe for 1.6 ms removes the lane's DRIVE and ARM while the other lane is armed (R453). -/
  | commitWatchdogExpiry (l : LaneId)
  /-- A lane first sees the grant held by itself in its input latch and becomes active (R455). -/
  | takeover (l : LaneId) (gap : Nat)
  /-- At 950 µs of the handover tick H, the active lane releases DRIVE if the standby is armed (R459). -/
  | plannedHandover (l : LaneId)
  /-- A standby that sees no holder in 3 consecutive latches asserts DRIVE and becomes active in READY (R465). -/
  | coldTakeover (l : LaneId)
  /-- The preferred standby's hold-off count reaches the hold-off in force, and it requests take-back (R462). -/
  | takeBackRequest (l : LaneId)
  /-- After 24 h without a takeover away from the preferred lane, the hold-off returns to its Chart value (R464). -/
  | holdoffReset (l : LaneId)
  /-- A take-back suspension runs out (R463). -/
  | suspensionEnd (l : LaneId)
  /-- 3 consecutive mismatch cycles set DISAGREE, and 100 without mismatch clear it (R446). -/
  | laneDisagree (l : LaneId)
  /-- The skew exceeds 5 µs for 10 consecutive ticks, or stays within 2.5 µs for 100, and SKEW sets or clears (R447). -/
  | gridSkew (l : LaneId)
  /-- A re-synchronisation stage meets its end condition, and the next stage begins or STANDBY follows (R467). -/
  | resyncStageEnd (l : LaneId)
  /-- A write of MODE_REQ with GO submits a mode request, which replaces a pending one (R81). -/
  | modeReq (l : LaneId) (mode : Nat) (tag : Nat)
  /-- The DEAD RECKONING timer reaches DR_LIMIT (R198). -/
  | drExpired (l : LaneId)
  /-- SCHED_CMD with KIND 0 submits a scheduled register write (R103). -/
  | schedWriteSubmit (l : LaneId) (tag : Nat)
  /-- SCHED_CMD with KIND 1 submits a scheduled mode request (R103). -/
  | schedModeSubmit (l : LaneId) (tag : Nat)
  /-- CTRL.SCHED_FLUSH discards every queued action (R108). -/
  | schedFlush (l : LaneId)
  /-- A scheduled action falls due at a position-cycle boundary and executes, executes LATE, or is rejected STALE (R104). -/
  | schedActionDue (l : LaneId)
  /-- Once the realignment delay D has been added, the tick number is taken again from the chronometer (R67). -/
  | tickRenumber (l : LaneId)
  /-- An IEC 61162-1 sentence completes with CR LF and is checked, matched and parsed (R117). -/
  | sentenceReceived (l : LaneId) (src : SentSrc) (a : Rat)
  /-- A binary frame is received and parsed through its binary table entry (R120). -/
  | binaryFrameReceived (l : LaneId) (src : BinSrc) (a : Rat)
  /-- An IEC 61162-450 datagram is received, filtered by source and split into sentences (R412). -/
  | l450Datagram (l : LaneId) (d : L450Dgram)
  /-- A slot completes its admission time and enters ADMITTED (R133). -/
  | refAdmitted (l : LaneId) (n : Nat)
  /-- REJECT_CNT consecutive failures reject a slot (R133). -/
  | refRejected (l : LaneId) (n : Nat)
  /-- A slot gives no valid sample for TIMEOUT and returns to WAITING (R133). -/
  | slotTimeout (l : LaneId) (n : Nat)
  /-- A quality value finds no matching sample within 1000 ms and is discarded (R119). -/
  | qualityExpiry (l : LaneId) (n : Nat)
  /-- At tick 0 of each second, each SENSOR slot's time model is updated with the smallest residual (R126). -/
  | timeModelUpdate (l : LaneId)
  /-- A time model completes 8 updates and leaves LEARNING (R127). -/
  | learningEnd (l : LaneId) (n : Nat)
  /-- 8 consecutive samples diverging by over 10 ms put the slot in TIME_DEGRADED (R128). -/
  | timeDegraded (l : LaneId) (n : Nat)
  /-- 8 consecutive samples within 5 ms take the slot out of TIME_DEGRADED (R128). -/
  | timeRestored (l : LaneId) (n : Nat)
  /-- With two groups in the vote, 5 consecutive evaluations beyond the limit set disagreement, and 5 within it clear it (R137). -/
  | refDisagree (l : LaneId) (heading : Bool)
  /-- At every 1000th tick after admission, the ramp factor halves (R139). -/
  | weightRampStep (l : LaneId) (n : Nat)
  /-- A write of INT_DESELECT deselects or reselects slots before the tick's samples are judged (R141). -/
  | intDeselectWrite (l : LaneId) (mask : Nat)
  /-- INT_CMD CLEAR_COUNTS clears a slot's counts (R146). -/
  | clearCounts (l : LaneId) (n : Nat)
  /-- INT_CMD RESTART_TIME_MODEL returns a SENSOR slot's time model to LEARNING (R127). -/
  | restartTimeModel (l : LaneId) (n : Nat)
  /-- INT_CMD RE_ANCHOR moves a relative reference's anchor (R124). -/
  | reAnchor (l : LaneId) (n : Nat)
  /-- After ENV_SETTLE of continuous VALID, ENV_VALID is set (R164). -/
  | envValid (l : LaneId)
  /-- At the next position-cycle tick after it reaches the live tick, FE0 adopts the re-run state (R167). -/
  | rerunAdopt (l : LaneId)
  /-- CTRL.REINIT returns the estimate to INIT in modes 3–6 (R165). -/
  | reinit (l : LaneId)
  /-- A write of TGT_SEL selects the track for FOLLOW-TARGET, or is refused (R176). -/
  | tgtSelWrite (l : LaneId) (v : Nat)
  /-- A track goes without a position update for TRK_COAST (R175). -/
  | tgtCoasting (l : LaneId) (k : Nat)
  /-- A track goes without a position update for TRK_LOST (R175). -/
  | tgtLost (l : LaneId) (k : Nat)
  /-- Set-point command SET_POS stages a new position target (R199). -/
  | setPos (l : LaneId) (tag : Nat) (dir : Nat)
  /-- Set-point command SET_HDG stages a new heading target with direction (R199). -/
  | setHdg (l : LaneId) (tag : Nat) (dir : Nat)
  /-- Set-point command SET_POS_HDG sets position and heading together (R199). -/
  | setPosHdg (l : LaneId) (tag : Nat) (dir : Nat)
  /-- Set-point command CAPTURE takes the fused position and heading as set-points (R199). -/
  | capture (l : LaneId) (tag : Nat) (dir : Nat)
  /-- Set-point command SET_SPEED sets the surge speed target (R199). -/
  | setSpeed (l : LaneId) (tag : Nat) (dir : Nat)
  /-- Set-point command SET_LEG sets a track leg and selects the TRACK form (R199). -/
  | setLeg (l : LaneId) (tag : Nat) (dir : Nat)
  /-- Set-point command SET_COURSE sets a course and selects the COURSE form (R199). -/
  | setCourse (l : LaneId) (tag : Nat) (dir : Nat)
  /-- Set-point command SET_FT_OFS sets the FOLLOW-TARGET offset and heading (R199). -/
  | setFtOfs (l : LaneId) (tag : Nat) (dir : Nat)
  /-- Set-point command STOP_RAMP moves each running target to where its ramp can stop (R199). -/
  | stopRamp (l : LaneId) (tag : Nat) (dir : Nat)
  /-- A write of CTRL_JOY gives the joystick value on the active lane (R195). -/
  | ctrlJoyWrite (l : LaneId) (x : Nat) (y : Nat) (n : Nat)
  /-- The joystick value ages beyond JOY_TIMEOUT, or its inputs fault, and it counts as neutral (R195). -/
  | joyStale (l : LaneId)
  /-- The last handover remainder reaches 0 (R207). -/
  | ctrlBlendDone (l : LaneId)
  /-- After PLAUS_OK passing records or PLAUS_HOLD, a plausibility hold ends in a rebase (R212). -/
  | ctrlRebase (l : LaneId) (heading : Bool)
  /-- CH_CMD ONLINE brings an OFFLINE channel to NOT_READY, or unmarks a STOPPED one (R251). -/
  | online (l : LaneId) (n : Nat) (tag : Nat)
  /-- CH_CMD OFFLINE drains a channel, or marks a STOPPED one (R251). -/
  | offline (l : LaneId) (n : Nat) (tag : Nat)
  /-- CH_CMD RESET takes a channel from FAULT to OFFLINE (R251). -/
  | reset (l : LaneId) (n : Nat) (tag : Nat)
  /-- At the start of the tick that closes a full GNSS epoch, every tracking channel is captured (R277). -/
  | epochStrobe (l : LaneId) (e : StrobeSet)
  /-- GE finishes the epoch's measurements, positions, clock offset and attitude (R279). -/
  | epochSolution (l : LaneId) (e : EpochIn)
  /-- An epoch not finished by the next strobe, or withheld, is abandoned (R280). -/
  | epochSkipped (l : LaneId)
  /-- A pass of the acquisition bank ends, and a detected signal is handed to a tracking channel (R266). -/
  | acquisitionPass (l : LaneId) (r : AcqPeak)
  /-- A pull-in that fails within 1 s returns the satellite to the search queue (R266). -/
  | pullInTimeout (l : LaneId) (c : Nat)
  /-- A tracking channel's lock indicator holds beyond its limit for the stated time, and the channel enters or leaves PHASE_LOCK (R275). -/
  | channelLockChange (l : LaneId) (c : LockSeen)
  /-- A channel's C/N0 stays below CN0_TRACK for 2 s, and the channel is lost (R275). -/
  | trackingLost (l : LaneId) (c : Cn0Seen)
  /-- After 10 s of aided re-search, a lost satellite returns to the normal queue (R275). -/
  | reacquisitionExpiry (l : LaneId) (x : Sat)
  /-- Every 60 s a single-band satellite's lower band is tried again (R269). -/
  | lowerBandRetry (l : LaneId) (x : Sat)
  /-- After 20 updates with a very-early or very-late tap above prompt, the code moves half a chip (R273). -/
  | sidePeakCorrection (l : LaneId) (c : Nat) (ups : List Taps)
  /-- Both baselines fix with the same integers in 3 consecutive epochs (R290). -/
  | attFixed (l : LaneId)
  /-- The baseline length is beyond BASE_TOL in 3 consecutive epochs, and the integers are dropped (R291). -/
  | baselineFault (l : LaneId)
  /-- Almanacs, ephemerides, time and position from the other lane's Sextant arrive (R270). -/
  | sextantDataReceived (l : LaneId)
  /-- An antenna's bias state changes, and OPEN or SHORT is reported (R265). -/
  | antBiasFault (l : LaneId) (k : Nat) (cur : Nat) (limited : Bool)
  /-- A chain's gain stays at an end of its range for 1 s (R264). -/
  | agcLimit (l : LaneId) (k : Nat) (upper : Nat) (lower : Nat) (still : Bool × Bool)
  /-- An antenna tracks nothing for 10 s while another tracks at least 4 satellites (R302). -/
  | antNoSignal (l : LaneId) (k : Nat)
  /-- SX_CMD RESTART_ACQ drops all channels and keeps the data (R300). -/
  | restartAcq (l : LaneId) (tag : Nat)
  /-- SX_CMD COLD_RESTART drops all channels and all data (R300). -/
  | coldRestart (l : LaneId) (tag : Nat)
  /-- SX_CMD REFIX_ATT drops the attitude integers at the next strobe (R291). -/
  | refixAtt (l : LaneId) (tag : Nat)
  /-- A write of an exclusion mask excludes satellites from the epochs that follow (R288). -/
  | sxExclWrite (l : LaneId) (g : Nat) (mask : Nat)
  /-- A new ANT_DELAY applies from the next strobe (R288). -/
  | antDelayChanged (l : LaneId) (k : Nat)
  /-- A 16 kHz Vernier sample completes and is tested against the fault and step limits (R310). -/
  | coarseSample (l : LaneId) (n : Nat) (v : CoarseVal) (overload : Bool)
  /-- A fine output completes, is timestamped and DC-blocked, and the decimation is re-phased if needed (R310). -/
  | fineOutput (l : LaneId) (n : Nat) (x : Rat) (tf : Rat) (ofs : Rat) (taken : Nat)
  /-- 8 consecutive coarse samples beyond a limit put an input in FAULT (R323). -/
  | aiFault (l : LaneId) (n : Nat)
  /-- 8 consecutive samples within the exit limit, or a clear terminal report, end the fault and restart the chain (R323). -/
  | aiFaultClear (l : LaneId) (n : Nat)
  /-- 8 coarse samples differing by over STEP_LIM set STEP, and 8 within half of it clear it (R322). -/
  | aiStep (l : LaneId) (n : Nat)
  /-- The standby's position-cycle mean differs from the mirrored mean for 3 cycles (R325). -/
  | aiLaneDiff (l : LaneId) (n : Nat)
  /-- A write of AI_CFG changes an input's configuration and restarts its chain (R326). -/
  | aiCfgWrite (l : LaneId) (n : Nat) (v : Nat)
  /-- A write of AI_FREEZE holds or releases the DC-block offsets (R321). -/
  | aiFreezeWrite (l : LaneId) (v : Nat)
  /-- A write of AI_RESTART restarts the chains of the inputs named (R318). -/
  | aiRestart (l : LaneId) (v : Nat)
  /-- A write of AO_HOST sets a HOST-sourced output value for the next tick (R329). -/
  | aoHostWrite (l : LaneId) (m : Nat) (v : Int)
  /-- The readback differs from the committed value for 20 consecutive ticks, or agrees again for 20 (R331). -/
  | aoFault (l : LaneId) (m : Nat)
  /-- In its tick, 10 µA is injected into a VOLTAGE input and the rise is judged (R596). -/
  | openWireTest (n : Nat) (failA : Bool) (failB : Bool)
  /-- The terminal monitor enters or clears SHORT or REVERSED after 8 measurements (R596). -/
  | aiTerminalFinding (l : LaneId) (n : Nat) (f : TermFind) (on : Bool)
  /-- CTRL.SNAP copies the chronometer into the snapshot registers (R347). -/
  | snap (l : LaneId)
  /-- A source delivers an offset, which is gated, qualified and used for steering (R348). -/
  | offsetReceived (l : LaneId) (o : OffsetIn) (t : Rat)
  /-- A source gives no valid offset for LOSS_TIME, and it returns to NO_DATA (R349). -/
  | sourceLoss (l : LaneId) (k : Nat)
  /-- A higher-priority source has been QUALIFIED for REVERT_HOLD and is selected (R350). -/
  | sourceRevert (l : LaneId) (k : Nat)
  /-- A pending step is applied when the chronometer reads a whole second (R354). -/
  | timeStep (l : LaneId)
  /-- The holdover estimate exceeds HOLD_LIMIT, and HOLD_OK falls (R357). -/
  | holdLimit (l : LaneId)
  /-- At the end of a UTC day with a pending leap, UTC_OFS changes by one (R343). -/
  | leapSecond (l : LaneId)
  /-- CHR_CMD SET_TIME sets the time by step or slew when no source is qualified (R361). -/
  | setTime (l : LaneId) (tag : Nat)
  /-- The slew of a SET_TIME reaches its target, and s returns to 0 (R361). -/
  | setTimeSlewEnd (l : LaneId)
  /-- A write of CHR_SRC_DIS disables or enables time sources (R350). -/
  | chrSrcDisWrite (l : LaneId) (mask : Nat)
  /-- A write of PPS_CFG or PPS_DELAY changes the PPS mode, width or cable delay (R367). -/
  | ppsCfgWrite (l : LaneId) (p : Nat) (delay : Bool) (v : Nat)
  /-- A write of PTP_ASYM sets a port's delay asymmetry (R372). -/
  | ptpAsymWrite (l : LaneId) (q : Nat) (v : Nat)
  /-- A PTP event or general message is received and timestamped (R362). -/
  | ptpMessageReceived (l : LaneId) (d : Nat) (port : Nat) (m : PtpMsg)
  /-- No Announce arrives within announceReceiptTimeout, and the BMCA runs again (R371). -/
  | announceTimeout (l : LaneId) (d : Nat) (port : Nat)
  /-- At its message interval, an instance sends Sync, Announce or a delay message (R365). -/
  | ptpMessageTx (l : LaneId) (d : Nat) (m : PtpTx)
  /-- At the whole second less PPS_DELAY, a PPS output rises for PPS_WIDTH (R367). -/
  | ppsEdge (l : LaneId) (p : Nat)
  /-- A valid CAN frame is stored in its receive object, or discarded (R386). -/
  | canFrameReceived (l : LaneId) (p : Nat) (f : CanFrame)
  /-- At COL_START of a column, the matrix entry triggers its message or opens a FREE window (R393). -/
  | canSlotTrigger (l : LaneId) (p : Nat) (k : Nat)
  /-- A FREE column ends, and unsent HOST_EVENT messages wait for the next FREE column (R393). -/
  | canColumnEnd (l : LaneId) (p : Nat)
  /-- A frame is sent successfully, or its transmission fails and is retried (R394). -/
  | canTxComplete (l : LaneId) (p : Nat) (n : Nat) (ok : Bool) (tdcv : Option Nat)
  /-- A message loses arbitration and stays pending (R394). -/
  | canArbitrationLost (l : LaneId) (p : Nat) (n : Nat)
  /-- The controller detects a bus error and updates its counters (R397). -/
  | canError (l : LaneId) (p : Nat) (e : CanErr) (tx : Bool) (inc : Nat)
  /-- After 128 sequences of 11 recessive bits, the port returns to error-active (R399). -/
  | busOn (l : LaneId) (p : Nat) (ms : Nat)
  /-- A controller entering NORMAL operation has seen 11 consecutive recessive bits (R379). -/
  | canIntegrationDone (l : LaneId) (p : Nat)
  /-- CAN_TX_CMD COMMIT makes the staged data a HOST_SCHED object's data (R390). -/
  | commit (l : LaneId) (p : Nat) (tag : Nat)
  /-- CAN_TX_CMD SEND queues the staged data for one transmission (R390). -/
  | send (l : LaneId) (p : Nat) (tag : Nat)
  /-- CAN_TX_CMD CANCEL withdraws an object's pending message (R395). -/
  | cancel (l : LaneId) (p : Nat) (tag : Nat) (begun : Bool)
  /-- A character is received into a port buffer, with framing and overrun checks (R431). -/
  | serialCharReceived (l : LaneId) (n : Nat) (ch : Nat) (framing : Bool)
  /-- A receive line is held at space for over 100 ms, and the port reports BREAK (R431). -/
  | serLine (l : LaneId) (n : Nat) (brk : Bool)
  /-- A transmit entry's period falls due, and its sentence is formed and queued (R432). -/
  | serialEntryDue (l : LaneId) (n : Nat) (e : Nat)
  /-- A sentence finishes transmission, and the next in order begins (R432). -/
  | serialSentenceSent (l : LaneId) (n : Nat)
  /-- An Ethernet frame is received and passed to its protocol, or dropped (R408). -/
  | ethFrameReceived (l : LaneId) (net : Nat) (k : EthKind)
  /-- A port's link goes up or down (R408). -/
  | ethLinkChange (l : LaneId) (net : Nat) (up : Bool) (speed : Nat)
  /-- A RAP datagram is received and queued for execution, or discarded (R415). -/
  | rapRequest (l : LaneId) (net : Nat) (src : Nat) (b : List Nat)
  /-- RAP operation READ returns up to 64 words taken at the input latch (R418). -/
  | read (l : LaneId) (client : Nat) (seq : Nat) (count : Nat) (addr : Nat)
  /-- RAP operation WRITE writes up to 64 words at the commit point (R418). -/
  | write (l : LaneId) (client : Nat) (seq : Nat) (addr : Nat) (data : List Nat)
  /-- RAP operation LANE_RESTART restarts the lane with boot cause HOST_RESTART (R426). -/
  | laneRestart (l : LaneId) (client : Nat) (seq : Nat) (force : Bool)
  /-- RAP operation SAFETY_CHALLENGE returns a 16-byte nonce (R427). -/
  | safetyChallenge (l : LaneId) (client : Nat) (seq : Nat)
  /-- RAP operation SAFETY_OPEN opens a safety session if the HMAC matches (R427). -/
  | safetyOpen (l : LaneId) (client : Nat) (seq : Nat) (hmac : List Nat)
  /-- The 300 s lockout ends (R429). -/
  | lockoutEnd (l : LaneId)
  /-- RAP operation SAFETY_CLOSE ends the client's safety session (R428). -/
  | safetyClose (l : LaneId) (client : Nat) (seq : Nat)
  /-- 60 s without a request from the session's client end the session (R428). -/
  | sessionIdleEnd (l : LaneId)
  /-- A nonce expires after 10 s (R427). -/
  | nonceExpiry (l : LaneId) (client : Nat)
  /-- A client table entry is freed after 600 s without a request (R419). -/
  | clientEntryExpiry (l : LaneId) (client : Nat)
  /-- RAP operation CHART_BEGIN opens a Chart or section transfer (R425). -/
  | chartBegin (l : LaneId) (client : Nat) (seq : Nat) (sect : Nat) (total : Nat) (digest : List Nat)
  /-- RAP operation CHART_DATA delivers a block of Chart bytes (R425). -/
  | chartData (l : LaneId) (client : Nat) (seq : Nat) (ofs : Nat) (b : List Nat)
  /-- RAP operation CHART_END starts the checks of the transferred content (R425). -/
  | chartEnd (l : LaneId) (client : Nat) (seq : Nat)
  /-- A transfer with no Chart operation for 30 s is abandoned (R425). -/
  | chartTransferAbandon (l : LaneId)
  /-- The checks finish; the content is refused, or is passed to the standby to await its boundary (R425). -/
  | chartCheckDone (l : LaneId) (c : Option Chart)
  /-- At a position-cycle boundary, checked Chart content becomes current, and its fields and reconfigurations take effect (R40). -/
  | chartCurrent (l : LaneId)
  /-- RAP operation SER_SEND queues a host sentence on a TEXT port (R433). -/
  | serSend (l : LaneId) (client : Nat) (seq : Nat) (port : Nat) (text : List Nat)
  /-- RED_CMD SWITCHOVER starts a planned handover to an ABLE standby (R461). -/
  | switchover (l : LaneId) (tag : Nat)
  /-- RED_CMD SUSPEND_TB suspends take-back for the given seconds (R463). -/
  | suspendTb (l : LaneId) (tag : Nat)
  /-- RED_CMD RESUME_TB ends a take-back suspension (R463). -/
  | resumeTb (l : LaneId) (tag : Nat)
  /-- RED_CMD RESYNC starts a re-synchronisation of the lane (R467). -/
  | resync (l : LaneId) (tag : Nat)
  /-- RED_CMD FW_BEGIN marks the non-boot slot invalid and opens it for writing (R468). -/
  | fwBegin (l : LaneId) (tag : Nat)
  /-- A write of the image window stores words in the slot and advances the offset (R468). -/
  | redFwDataWrite (l : LaneId) (w : Nat) (v : Word)
  /-- RED_CMD FW_CHECK verifies the staged image digests (R468). -/
  | fwCheck (l : LaneId) (tag : Nat)
  /-- RED_CMD FW_ACTIVATE makes the staged slot the boot slot and restarts the lane (R468). -/
  | fwActivate (l : LaneId) (tag : Nat)
  /-- A safety or feedback channel changes level at the terminal, and the processor side holds the departure for the next latch (R634). -/
  | safetyInputChange (l : LaneId) (c : SfChan) (high : Bool)
  /-- A Binnacle input filter passes a change, and its switches open or its windows start (R497). -/
  | binnacleInputChange (c : SfChan) (high : Bool)
  /-- A processor discrepancy timer exceeds DISC_TIME and latches a discrepancy (R487). -/
  | discLatched (l : LaneId) (n : Nat)
  /-- An input stays DISCREPANT beyond the Binnacle window W, and the Binnacle latches (R487). -/
  | binnacleDiscLatch (n : Nat)
  /-- Every STOP_MASK input has been RUN for the run delay, and the restart conditions are met (R483). -/
  | runDelayExpiry (d : Side) (k : Nat)
  /-- A configured feedback input has shown released for 10 ms (R483). -/
  | feedbackReleasedExpiry (d : Side) (k : Nat)
  /-- Releasing a RESET input is judged as a valid or void reset for the outputs concerned (R484). -/
  | resetRelease (d : Side) (n : Nat) (inLimits : Bool)
  /-- Contactor feedback does not follow the output within FB_PULL or FB_DROP (R491). -/
  | fbFault (d : Side) (k : Nat)
  /-- At 300 µs of its scheduled tick, a switch under test is opened (R493). -/
  | testPulseStart (l : LaneId) (k : Nat) (w : TestSwitch)
  /-- After SF_TP.WIDTH the readback is captured and the tested switch closes again (R493). -/
  | testPulseEnd (l : LaneId) (k : Nat) (high : Bool)
  /-- 200 µs after the Binnacle opens, a terminal still at 5 V or more latches its switch fault (R495). -/
  | binnacleSwitchCheck (k : Nat) (high : Bool)
  /-- A TEST assertion lasting over 1 ms counts as a STOP (R477). -/
  | testAsStop (k : Nat)
  /-- SC2/SC3 write the unlock word, image and check word to the Binnacle (R499). -/
  | binnacleWrite (l : LaneId)
  /-- The Binnacle takes or rejects the image, and further attempts or refusal follow (R499). -/
  | binnacleWriteEnd (taken : Bool)
  /-- Every 1000 ticks, the Binnacle check word is compared with the lane's image (R500). -/
  | checkWordCompare (l : LaneId)
  /-- A lane difference lasting 1000 ticks makes the standby declare itself degraded (R502). -/
  | safetyDiffExpiry (l : LaneId)
  /-- A write of the RWS register SF_TP in a safety session changes the test-pulse settings (R619). -/
  | sfTpWrite (l : LaneId) (client : Nat) (v : Word)
  /-- A safety output in its current limit for 10 ms is turned off by its stage (R593). -/
  | soOverloadOff (k : Nat)
  /-- 1 s after the turn-off, the output stage turns the output on again (R593). -/
  | soOverloadRetry (k : Nat)
  /-- In its tick, a channel's SRC is turned off for 100 µs and the raw terminal is judged (R597). -/
  | sourcePulseTest (c : SfChan) (high : Bool)
  /-- A record is posted, filtered and accepted into the queue with its SEQ (R526). -/
  | recordPost (l : LaneId) (kind : Bool) (sev : Nat) (code : Nat) (payload : List Nat)
  /-- Queued records are written to MRAM blocks and verified (R526). -/
  | logDrain (l : LaneId) (verifyFail : Bool)
  /-- A cross-record from the other lane is stored (R526). -/
  | crossRecordReceived (l : LaneId)
  /-- When a link returns, held cross copies are sent in SEQ order (R526). -/
  | crossCopyResend (l : LaneId)
  /-- A drain write not completed within 100 ms is a log memory failure (R532). -/
  | drainStuck (l : LaneId)
  /-- The start-up scan finishes rebuilding the index, and INDEXING clears (R534). -/
  | logScanDone (l : LaneId) (controlOk : Bool)
  /-- A write of LOG_RD_SEQ or LOG_RD_OFS looks up the record for the read window (R531). -/
  | logRdSelect (l : LaneId) (seq : Option Nat) (ofs : Option Nat)
  /-- LOG_NOTE_CMD with GO adds a host note record (R535). -/
  | hostNote (l : LaneId) (tag : Nat) (sev : Nat) (words : Nat)
  /-- A write of LOG_LEVEL sets the recording threshold (R528). -/
  | logLevelWrite (l : LaneId) (v : Nat)
  /-- A reference input counts 2048 in-window cycles and becomes QUALIFIED (R541). -/
  | refQualified (l : LaneId) (r : RefIn) (us : Nat)
  /-- A reference input trips on an edge, period, frequency or expectation test (R542). -/
  | refLost (l : LaneId) (r : RefIn) (cause : TripCause) (det : Nat)
  /-- At the end of the stop window, all domains restart at nominal (R551). -/
  | stopWindowEnd (l : LaneId)
  /-- REF_PREFERRED has been QUALIFIED for REF_REVERT, and the PLL switches back to it (R550). -/
  | refRevert (l : LaneId)
  /-- CLK_CMD SWITCH_REF makes a hitless switch to the other input (R550). -/
  | switchRef (l : LaneId) (tag : Nat)
  /-- A domain or gate stop reaches its 64th cycle with an access outstanding (R548). -/
  | clkGateForced (l : LaneId) (block : Nat)
  /-- Both inputs have run together for 10 s, and the relative frequency becomes available (R543). -/
  | refRelAvailable (l : LaneId) (ppb : Int)
  /-- A supply input leaves its limits, with the consequences for its lane (R564). -/
  | supplyFault (l : LaneId) (n : Supply) (x : SupplyLoss)
  /-- A supply input returns in limits after 10 ms continuously within recovery (R563). -/
  | supplyReturn (l : LaneId) (n : Supply)
  /-- All twelve temperature sensors are sampled, and rates and sampling speed are updated (R568). -/
  | thermalSample (l : LaneId) (dt : Nat) (r : List (Int × Bool))
  /-- 8 consecutive samples cross or clear a threshold (R569). -/
  | thresholdCrossing (l : LaneId) (x : ThermThr)
  /-- GRACE elapses in REQUEST, and the throttle level becomes ENFORCE (R573). -/
  | graceExpiry (l : LaneId)
  /-- 3 consecutive implausible samples put a sensor in FAULT with a substitute value (R571). -/
  | sensorFault (l : LaneId) (k : Nat)
  /-- 60 s after the fault, the substitute becomes the zone's highest valid reading plus ZONE_OFS (R571). -/
  | substitutionZone (l : LaneId) (k : Nat)
  /-- 8 consecutive plausible samples return a sensor to use (R571). -/
  | sensorRecovered (l : LaneId) (k : Nat)
  /-- A write of THERM_RETIRE removes a faulty sensor from use (R572). -/
  | thermRetireWrite (l : LaneId) (mask : Nat)
  /-- A write of 1 to a page's CTRL.CNT_CLR clears that page's counts (R54). -/
  | cntClr (l : LaneId) (p : Nat)
  /-- A write to an absent page or absent unit is ignored, counted and reported (R8). -/
  | absentWrite (l : LaneId) (addr : Nat)
  /-- MOD_ABSENT.CLR clears the absent-write count and address (R9). -/
  | absentClear (l : LaneId)
  /-- A write of 1 to an EVT_PEND bit clears the event unless its condition still holds (R615). -/
  | evtPendClear (l : LaneId) (p : Nat) (mask : Nat)
  /-- A write of EVT_EN enables or disables events in the summaries (R615). -/
  | evtEnWrite (l : LaneId) (p : Nat) (v : Nat)
  /-- EVC_CLEAR with GO clears one event number, or all, on every page that carries it (R618). -/
  | evcClear (l : LaneId) (all : Bool) (e : Nat)
  /-- A write to a reserved offset of a present page is ignored and reported READ_ONLY (R603). -/
  | reservedWrite (l : LaneId) (addr : Nat) (v : Word)
  /-- A write to any other writable register sets its fields at the commit point (R604). -/
  | registerWrite (l : LaneId) (client : Nat) (addr : Nat) (v : Word)
  /-- GE decodes a navigation message preamble or subframe (LNAV, I/NAV, B-CNAV1), which clears HALF_CYCLE and delivers ephemeris, almanac and UTC parameters (R276). -/
  | navigationMessageDecoded (l : LaneId) (c : Nat) (m : NavMsg)
  /-- A channel in PULL_IN locks code and carrier frequency and enters CODE_LOCK (R275). -/
  | codeLock (l : LaneId) (c : CodeSeen)
  /-- An ABSENT or TRIPPED reference input shows an in-window cycle and enters QUALIFYING (R542). -/
  | refQualifying (l : LaneId) (r : RefIn) (det : Nat) (count : Nat)
  /-- The Binnacle's continuous check circuit finds its image mismatching its check word, opens every switch and presents CFG_BAD (R498). -/
  | cfgBad
  /-- A lane in LUBBER that withdrew DRIVE on SELECT_CONTEST asserts DRIVE again after waiting 2000 ticks (R100). -/
  | lubberReassert (l : LaneId)
  /-- At most 100 µs after a release with no new holder, the hold stages end and the outputs take their unpowered state (R31). -/
  | holdStageExpiry
deriving DecidableEq, Repr

end Sys2Proof
end

