-- ==== Sys2Proof/Config.lean ====
section
/-! DEFINITION. What the spec fixes in neither words nor tables: opaque constants, so that no proof can rest on a value of
them. Each is a free value (log entries 3 and 4). -/

namespace Sys2Proof.Config

/-- Whether a value that lies between two codes of a register is shown as the upper one: the spec gives no rounding rule
for register values (log entry 3). -/
opaque roundUp : Rat → Bool

/-- What a register field of the given width shows for a value outside its range where no rule says that it saturates or
wraps (log entry 3). -/
opaque outOfRange : Rat → Nat → Nat

/-- A fresh value of a quantity that the spec leaves open, by the counter of the lane (log entry 4). -/
opaque free : Nat → Rat

/-- Trigonometry and roots of the exact rational arithmetic (log entry 2): angles in radians. -/
opaque sin : Rat → Rat
opaque cos : Rat → Rat
opaque atan2 : Rat → Rat → Rat
opaque sqrt : Rat → Rat

/-- The circle's ratio, irrational and so no value of the arithmetic (log entry 2). -/
opaque pi : Rat

/-- North and east in m of a latitude, longitude (degrees) and height (m) about a Chart origin, and back to latitude and
longitude (00 R15, 11 R432): the spec gives no formula of the projection (log entry 2). -/
opaque toLocal : Rat → Rat → Rat → Rat → Rat → Rat × Rat
opaque toGeo : Rat → Rat → Rat → Rat → Rat × Rat

/-- Place of the first stage of the second-order Runge-Kutta step (04 R152): the spec names the order only (log entry 9). -/
opaque rkStage : Rat

/-- Share of its input that a first-order low-pass filter takes in a step of the first argument with the time constant of the
second (04 R154): the spec gives the time constant only (log entry 9). -/
opaque lowPass : Rat → Rat → Rat

/-- Initial variance of a track's velocities, heading and turn rate (04 R175 gives the position's; log entry 12). -/
opaque trackVar : Nat → Rat

/-- Start value of the CRC-16-CCITT of binary frames (03 R120), which the spec does not give (log entry 11). -/
opaque crc16Init : Nat

/-- Orientation in degrees of the inscribed 16-sided polygon of an azimuth's force region (06 R227, log entry 10). -/
opaque polyPhase : Rat

/-- Chi-square threshold of probability 10⁻⁵ by degrees of freedom (07 R285, log entry 2). -/
opaque chi2 : Nat → Rat

/-- Gains of a loop filter by its order, its bandwidth in Hz and its update period in s: the spec gives the order and the bandwidth
only (07 R274, log entry 89). -/
opaque loopGain : Nat → Rat → Rat → Rat × Rat × Rat

/-- Frequency error in Hz that the FLL finds between two prompts a period in s apart (07 R274, log entry 89). -/
opaque freqDisc : Rat × Rat → Rat × Rat → Rat → Rat

/-- What the code discriminator gives where the sum it is normalised by is 0 (07 R273, log entry 89). -/
opaque codeDiscAtZero : Bool → Rat

/-- Power over the noise estimate at which a bin of a pass detects the signal, by the bins and the sums of the pass, for a
false-alarm probability of 10⁻⁶ per pass (07 R266, log entry 89). -/
opaque acqThreshold : Nat → Nat → Rat

/-- Doppler in Hz predicted of a satellite (system, number) at a time in ns (07 R267, log entry 89). -/
opaque predictedDoppler : Nat → Nat → Rat → Rat

/-- BeiDou satellites that broadcast B1C, and those in geostationary orbit, by number: the constellation is no part of the spec
(07 R261, log entry 89). -/
opaque broadcastsB1c : Nat → Bool
opaque geostationary : Nat → Bool

/-- Power of ten (07 R285, log entry 2). -/
opaque pow10 : Rat → Rat

/-- Heading, pitch and roll in degrees of the rotation that best maps two body baselines onto two measured vectors with their
weights (07 R292, log entry 2). -/
opaque wahba : List (Rat × Rat × Rat) → List Rat → Rat × Rat × Rat

/-- The CRC-32 of a Binnacle image, whose byte order within the image the spec does not give (log entry 6). -/
opaque imageCrc : List Nat → Nat

/-- First 8 bytes of a digest over content whose bytes the spec does not give (log entry 6). -/
opaque digest8 : List Nat → Nat

/-- The module's clockIdentity, from its serial number (09 R364). -/
opaque clockId : Nat

/-- The MAC address of a port: lane (0 A, 1 B) and network (11 R436, "per port"; log entry 82). -/
opaque mac : Nat → Nat → Nat

/-- A lane's estimate of its floor frequency, measured at manufacture (15 R545, CLK_FLOOR "per lane"; log entry 82). -/
opaque clkFloor : Nat → Nat

/-- Front-end delay F of a terminal in a lane (0 A, 1 B), ns, calibrated at manufacture (08 R312). -/
opaque frontEndDelay : Nat → Nat → Rat

/-- The unit-specific initial safety password, as character codes (13 R507). -/
opaque initialPassword : List Nat

/-- REC after a successful reception while it stood above 127: ISO 11898-1 allows 119 to 127 (10 R376). -/
opaque recAfterPassive : Nat → Nat

/-- What the check of a received engine image finds: digests pass, mirror format range, first 8 bytes of its digest; the spec
does not give the image's layout (12 R468, log entry 6). -/
opaque fwCheck : List (Nat × Nat) → Bool × Nat × Nat × Nat

end Sys2Proof.Config
end

