-- ==== Sys2Proof/Machine/RegTable.lean ====
section
/-! DEFINITION. The register table: for every register of the map its page, offset, repetition, writable bits by access
code (18 R604) and reset value (18 R620), written from the register tables of spec/. -/

namespace Sys2Proof.Machine

/-- Registers of the pages of kind 0x0 (MOD). -/
def rowsMOD : List RegRow :=
  [⟨0x0, 0, 1, 0x0, 0x0, 0x0, 0x0, 0x0⟩,
   ⟨0x4, 0, 1, 0x0, 0x0, 0x0, 0x0, 0x100⟩,
   ⟨0x8, 0, 1, 0x0, 0x0, 0x0, 0x0, 0x0⟩,
   ⟨0xc, 0, 1, 0x0, 0x0, 0x0, 0x0, 0x0⟩,
   ⟨0x10, 0, 1, 0x0, 0x0, 0x0, 0x0, 0x0⟩,
   ⟨0x14, 0, 1, 0x1, 0x0, 0x0, 0x0, 0x1⟩,
   ⟨0x18, 0, 1, 0x0, 0x1, 0x0, 0x0, 0x0⟩,
   ⟨0x1c, 0, 1, 0x0, 0x0, 0x0, 0x0, 0x0⟩,
   ⟨0x20, 0, 1, 0x0, 0x0, 0x0, 0x0, 0x10000⟩,
   ⟨0x24, 0, 1, 0x0, 0x0, 0x0, 0x0, 0x0⟩,
   ⟨0x28, 0, 1, 0x0, 0x0, 0x80000000, 0x0, 0x0⟩,
   ⟨0x2c, 0, 1, 0x0, 0x0, 0x0, 0x0, 0x0⟩]
/-- Registers of the pages of kind 0x1 (LANE). -/
def rowsLANE : List RegRow :=
  [⟨0x0, 0, 1, 0x0, 0x0, 0x0, 0x0, 0x0⟩,
   ⟨0x4, 0, 1, 0x0, 0x0, 0x0, 0x0, 0x100⟩,
   ⟨0x8, 0, 1, 0x0, 0x0, 0x1, 0x0, 0x0⟩,
   ⟨0xc, 0, 1, 0x0, 0x0, 0x0, 0x0, 0x0⟩,
   ⟨0x10, 0, 1, 0x0, 0x0, 0x0, 0x0, 0x0⟩,
   ⟨0x14, 0, 1, 0xff, 0x0, 0x0, 0x0, 0xff⟩,
   ⟨0x18, 0, 1, 0x0, 0xff, 0x0, 0x0, 0x0⟩,
   ⟨0x1c, 0, 1, 0x0, 0x0, 0x0, 0x0, 0x0⟩,
   ⟨0x20, 0, 1, 0x0, 0x0, 0x0, 0x0, 0x0⟩,
   ⟨0x24, 0, 1, 0x0, 0x0, 0x0, 0x0, 0x0⟩,
   ⟨0x28, 0, 1, 0x0, 0x0, 0x0, 0x0, 0xffffffff⟩,
   ⟨0x2c, 0, 1, 0x0, 0x0, 0x0, 0x0, 0xffffffff⟩] ++
  [⟨0x30, 0, 1, 0x0, 0x0, 0x0, 0x0, 0x0⟩,
   ⟨0x34, 0, 1, 0x0, 0x0, 0x0, 0x0, 0x0⟩,
   ⟨0x38, 0, 1, 0x0, 0x0, 0x0, 0x0, 0x0⟩,
   ⟨0x3c, 0, 1, 0x0, 0x0, 0x0, 0x0, 0x0⟩,
   ⟨0x40, 0, 1, 0x0, 0x0, 0x0, 0x0, 0x0⟩,
   ⟨0x44, 0, 1, 0x0, 0x0, 0x0, 0x0, 0x0⟩,
   ⟨0x48, 0, 1, 0x0, 0x0, 0x0, 0x0, 0x0⟩]
/-- Registers of the pages of kind 0x2 (TICK). -/
def rowsTICK : List RegRow :=
  [⟨0x0, 0, 1, 0x0, 0x0, 0x0, 0x0, 0x0⟩,
   ⟨0x4, 0, 1, 0x0, 0x0, 0x0, 0x0, 0x100⟩,
   ⟨0x8, 0, 1, 0x0, 0x0, 0x3, 0x0, 0x0⟩,
   ⟨0xc, 0, 1, 0x0, 0x0, 0x0, 0x0, 0x0⟩,
   ⟨0x10, 0, 1, 0x0, 0x0, 0x0, 0x0, 0x0⟩,
   ⟨0x14, 0, 1, 0xff, 0x0, 0x0, 0x0, 0xff⟩,
   ⟨0x18, 0, 1, 0x0, 0xff, 0x0, 0x0, 0x0⟩,
   ⟨0x1c, 0, 1, 0x0, 0x0, 0x0, 0x0, 0x0⟩,
   ⟨0x20, 0, 1, 0x0, 0x0, 0x0, 0x0, 0x11⟩,
   ⟨0x24, 0, 1, 0xff0f, 0x0, 0x80000000, 0x0, 0x0⟩,
   ⟨0x28, 0, 1, 0x0, 0x0, 0x0, 0x0, 0x0⟩,
   ⟨0x2c, 0, 1, 0x0, 0x0, 0x0, 0x0, 0x0⟩] ++
  [⟨0x30, 0, 1, 0x0, 0x0, 0x0, 0x0, 0x0⟩,
   ⟨0x34, 0, 1, 0x0, 0x0, 0x0, 0x0, 0x0⟩,
   ⟨0x38, 0, 1, 0x0, 0x0, 0x0, 0x0, 0x0⟩,
   ⟨0x3c, 0, 1, 0x0, 0x0, 0x0, 0x0, 0xf000ffff⟩,
   ⟨0x40, 0, 1, 0x0, 0x0, 0x0, 0x0, 0x1⟩,
   ⟨0x44, 0, 1, 0x0, 0x0, 0x0, 0x0, 0x0⟩,
   ⟨0x48, 0, 1, 0xffffffff, 0x0, 0x0, 0x0, 0x0⟩,
   ⟨0x4c, 0, 1, 0xffff, 0x0, 0x0, 0x0, 0x0⟩,
   ⟨0x50, 0, 1, 0x3fffffff, 0x0, 0x0, 0x0, 0x0⟩,
   ⟨0x54, 0, 1, 0xffffffff, 0x0, 0x0, 0x0, 0x0⟩,
   ⟨0x58, 0, 1, 0xffffffff, 0x0, 0x0, 0x0, 0x0⟩,
   ⟨0x5c, 0, 1, 0xff01, 0x0, 0x80000000, 0x0, 0x0⟩] ++
  [⟨0x60, 0, 1, 0x0, 0x0, 0x0, 0x0, 0x0⟩,
   ⟨0x64, 0, 1, 0xffff, 0x0, 0x0, 0x0, 0x3e8⟩]
/-- Registers of the pages of kind 0x4 (CLK). -/
def rowsCLK : List RegRow :=
  [⟨0x0, 0, 1, 0x0, 0x0, 0x0, 0x0, 0x0⟩,
   ⟨0x4, 0, 1, 0x0, 0x0, 0x0, 0x0, 0x100⟩,
   ⟨0x8, 0, 1, 0x0, 0x0, 0x1, 0x0, 0x0⟩,
   ⟨0xc, 0, 1, 0x0, 0x0, 0x0, 0x0, 0x0⟩,
   ⟨0x10, 0, 1, 0x0, 0x0, 0x0, 0x0, 0x0⟩,
   ⟨0x14, 0, 1, 0xff, 0x0, 0x0, 0x0, 0xff⟩,
   ⟨0x18, 0, 1, 0x0, 0xff, 0x0, 0x0, 0x0⟩,
   ⟨0x1c, 0, 1, 0x0, 0x0, 0x0, 0x0, 0x0⟩,
   ⟨0x20, 4, 2, 0x0, 0x0, 0x0, 0x0, 0x0⟩,
   ⟨0x28, 0, 1, 0x0, 0x0, 0x0, 0x0, 0x80000000⟩,
   ⟨0x2c, 0, 1, 0x0, 0x0, 0x0, 0x0, 0x0⟩,
   ⟨0x30, 0, 1, 0x0, 0x0, 0x0, 0x0, 0x0⟩] ++
  [⟨0x34, 0, 1, 0x0, 0x0, 0x0, 0x0, 0x0⟩,
   ⟨0x38, 0, 1, 0x0, 0x0, 0x0, 0x0, 0x0⟩,
   ⟨0x3c, 0, 1, 0x0, 0x0, 0x0, 0x0, 0xff⟩,
   ⟨0x40, 0, 1, 0x0, 0x0, 0x0, 0x0, 0x0⟩,
   ⟨0x44, 0, 1, 0x0, 0x0, 0x0, 0x0, 0x0⟩,
   ⟨0x48, 0, 1, 0x0, 0x0, 0x0, 0x0, 0x0⟩,
   ⟨0x4c, 0, 1, 0xff0f, 0x0, 0x80000000, 0x0, 0x0⟩]
/-- Registers of the pages of kind 0x5 (PWR). -/
def rowsPWR : List RegRow :=
  [⟨0x0, 0, 1, 0x0, 0x0, 0x0, 0x0, 0x0⟩,
   ⟨0x4, 0, 1, 0x0, 0x0, 0x0, 0x0, 0x100⟩,
   ⟨0x8, 0, 1, 0x0, 0x0, 0x1, 0x0, 0x0⟩,
   ⟨0xc, 0, 1, 0x0, 0x0, 0x0, 0x0, 0x0⟩,
   ⟨0x10, 0, 1, 0x0, 0x0, 0x0, 0x0, 0x0⟩,
   ⟨0x14, 0, 1, 0xff, 0x0, 0x0, 0x0, 0xff⟩,
   ⟨0x18, 0, 1, 0x0, 0xff, 0x0, 0x0, 0x0⟩,
   ⟨0x1c, 0, 1, 0x0, 0x0, 0x0, 0x0, 0x0⟩,
   ⟨0x20, 4, 3, 0x0, 0x0, 0x0, 0x0, 0x0⟩,
   ⟨0x2c, 0, 1, 0x0, 0x0, 0x0, 0x0, 0x0⟩,
   ⟨0x30, 0, 1, 0x0, 0x0, 0x0, 0x0, 0x0⟩,
   ⟨0x34, 0, 1, 0x0, 0x0, 0x0, 0x0, 0x0⟩] ++
  [⟨0x38, 0, 1, 0x0, 0x0, 0x0, 0x0, 0x0⟩,
   ⟨0x3c, 0, 1, 0x0, 0x0, 0x0, 0x0, 0x0⟩,
   ⟨0x40, 0, 1, 0x0, 0x0, 0x0, 0x0, 0x0⟩,
   ⟨0x44, 0, 1, 0xfff, 0x0, 0x0, 0x0, 0x0⟩,
   ⟨0x80, 8, 12, 0x0, 0x0, 0x0, 0x0, 0x0⟩,
   ⟨0x84, 8, 12, 0x0, 0x0, 0x0, 0x0, 0x0⟩]
/-- Registers of the pages of kind 0x8 (INT). -/
def rowsINT : List RegRow :=
  [⟨0x0, 0, 1, 0x0, 0x0, 0x0, 0x0, 0x0⟩,
   ⟨0x4, 0, 1, 0x0, 0x0, 0x0, 0x0, 0x100⟩,
   ⟨0x8, 0, 1, 0x0, 0x0, 0x1, 0x0, 0x0⟩,
   ⟨0xc, 0, 1, 0x0, 0x0, 0x0, 0x0, 0x43⟩,
   ⟨0x10, 0, 1, 0x0, 0x0, 0x0, 0x0, 0x0⟩,
   ⟨0x14, 0, 1, 0xff, 0x0, 0x0, 0x0, 0xff⟩,
   ⟨0x18, 0, 1, 0x0, 0xff, 0x0, 0x0, 0x0⟩,
   ⟨0x1c, 0, 1, 0x0, 0x0, 0x0, 0x0, 0x0⟩,
   ⟨0x20, 0, 1, 0x3fffffff, 0x0, 0x0, 0x0, 0x0⟩,
   ⟨0x24, 0, 1, 0xff1f, 0x0, 0x80000000, 0x0, 0x0⟩,
   ⟨0x28, 0, 1, 0x0, 0x0, 0x0, 0x0, 0x0⟩,
   ⟨0x2c, 0, 1, 0x0, 0x0, 0x0, 0x0, 0x0⟩] ++
  [⟨0x30, 0, 1, 0x0, 0x0, 0x0, 0x0, 0x0⟩,
   ⟨0x34, 0, 1, 0x0, 0x0, 0x0, 0x0, 0x0⟩,
   ⟨0x38, 0, 1, 0x0, 0x0, 0x0, 0x0, 0x0⟩,
   ⟨0x3c, 0, 1, 0x0, 0x0, 0x0, 0x0, 0x0⟩,
   ⟨0x40, 0, 1, 0x0, 0x0, 0x0, 0x0, 0x0⟩,
   ⟨0x100, 8, 30, 0x0, 0x0, 0x0, 0x0, 0x0⟩,
   ⟨0x104, 8, 30, 0x0, 0x0, 0x0, 0x0, 0x0⟩]
/-- Registers of the pages of kind 0x9 (SLOT). -/
def rowsSLOT : List RegRow :=
  [⟨0x0, 0, 1, 0x0, 0x0, 0x0, 0x0, 0x0⟩,
   ⟨0x4, 0, 1, 0x0, 0x0, 0x0, 0x0, 0x100⟩,
   ⟨0x8, 0, 1, 0x0, 0x0, 0x0, 0x0, 0x0⟩,
   ⟨0xc, 0, 1, 0x0, 0x0, 0x0, 0x0, 0x0⟩,
   ⟨0x10, 0, 1, 0x0, 0x0, 0x0, 0x0, 0x0⟩,
   ⟨0x14, 0, 1, 0x0, 0x0, 0x0, 0x0, 0x0⟩,
   ⟨0x18, 0, 1, 0x0, 0x0, 0x0, 0x0, 0x0⟩,
   ⟨0x1c, 0, 1, 0x0, 0x0, 0x0, 0x0, 0x0⟩,
   ⟨0x20, 16, 30, 0x0, 0x0, 0x0, 0x0, 0x0⟩,
   ⟨0x24, 16, 30, 0x0, 0x0, 0x0, 0x0, 0xffffffff⟩,
   ⟨0x28, 16, 30, 0x0, 0x0, 0x0, 0x0, 0x0⟩,
   ⟨0x2c, 16, 30, 0x0, 0x0, 0x0, 0x0, 0xffff0000⟩]
/-- Registers of the pages of kind 0xa (PLOT). -/
def rowsPLOT : List RegRow :=
  [⟨0x0, 0, 1, 0x0, 0x0, 0x0, 0x0, 0x0⟩,
   ⟨0x4, 0, 1, 0x0, 0x0, 0x0, 0x0, 0x100⟩,
   ⟨0x8, 0, 1, 0x0, 0x0, 0x3, 0x0, 0x0⟩,
   ⟨0xc, 0, 1, 0x0, 0x0, 0x0, 0x0, 0x0⟩,
   ⟨0x10, 0, 1, 0x0, 0x0, 0x0, 0x0, 0x0⟩,
   ⟨0x14, 0, 1, 0xff, 0x0, 0x0, 0x0, 0xff⟩,
   ⟨0x18, 0, 1, 0x0, 0xff, 0x0, 0x0, 0x0⟩,
   ⟨0x1c, 0, 1, 0x0, 0x0, 0x0, 0x0, 0x0⟩,
   ⟨0x20, 0, 1, 0x0, 0x0, 0x0, 0x0, 0x0⟩,
   ⟨0x24, 0, 1, 0x0, 0x0, 0x0, 0x0, 0x0⟩,
   ⟨0x28, 0, 1, 0x0, 0x0, 0x0, 0x0, 0x0⟩,
   ⟨0x2c, 0, 1, 0x0, 0x0, 0x0, 0x0, 0x0⟩] ++
  [⟨0x30, 0, 1, 0x0, 0x0, 0x0, 0x0, 0x0⟩,
   ⟨0x34, 0, 1, 0x0, 0x0, 0x0, 0x0, 0x0⟩,
   ⟨0x38, 0, 1, 0x0, 0x0, 0x0, 0x0, 0x0⟩,
   ⟨0x3c, 0, 1, 0x0, 0x0, 0x0, 0x0, 0x0⟩,
   ⟨0x40, 0, 1, 0x0, 0x0, 0x0, 0x0, 0x0⟩,
   ⟨0x44, 0, 1, 0x0, 0x0, 0x0, 0x0, 0x0⟩,
   ⟨0x48, 0, 1, 0x0, 0x0, 0x0, 0x0, 0x0⟩,
   ⟨0x4c, 0, 1, 0x0, 0x0, 0x0, 0x0, 0x0⟩,
   ⟨0x50, 0, 1, 0x0, 0x0, 0x0, 0x0, 0x0⟩,
   ⟨0x54, 0, 1, 0x0, 0x0, 0x0, 0x0, 0x0⟩,
   ⟨0x58, 0, 1, 0x0, 0x0, 0x0, 0x0, 0x0⟩,
   ⟨0x5c, 0, 1, 0x0, 0x0, 0x0, 0x0, 0x0⟩] ++
  [⟨0x60, 0, 1, 0x0, 0x0, 0x0, 0x0, 0x0⟩,
   ⟨0x64, 0, 1, 0x0, 0x0, 0x0, 0x0, 0x0⟩,
   ⟨0x68, 0, 1, 0x0, 0x0, 0x0, 0x0, 0x0⟩,
   ⟨0x6c, 0, 1, 0x0, 0x0, 0x0, 0x0, 0x0⟩,
   ⟨0x70, 0, 1, 0x0, 0x0, 0x0, 0x0, 0x0⟩,
   ⟨0x74, 0, 1, 0x0, 0x0, 0x0, 0x0, 0xffffffff⟩,
   ⟨0x78, 0, 1, 0x0, 0x0, 0x0, 0x0, 0xffff⟩,
   ⟨0x7c, 0, 1, 0x0, 0x0, 0x0, 0x0, 0x0⟩,
   ⟨0x80, 0, 1, 0x0, 0x0, 0x0, 0x0, 0x0⟩,
   ⟨0x84, 0, 1, 0x0, 0x0, 0x0, 0x0, 0x0⟩,
   ⟨0x88, 0, 1, 0x0, 0x0, 0x0, 0x0, 0x0⟩,
   ⟨0x100, 8, 12, 0x0, 0x0, 0x0, 0x0, 0x0⟩] ++
  [⟨0x104, 8, 12, 0x0, 0x0, 0x0, 0x0, 0x0⟩,
   ⟨0x160, 4, 8, 0x0, 0x0, 0x0, 0x0, 0x0⟩]
/-- Registers of the pages of kind 0xb (TGT). -/
def rowsTGT : List RegRow :=
  [⟨0x0, 0, 1, 0x0, 0x0, 0x0, 0x0, 0x0⟩,
   ⟨0x4, 0, 1, 0x0, 0x0, 0x0, 0x0, 0x100⟩,
   ⟨0x8, 0, 1, 0x0, 0x0, 0x0, 0x0, 0x0⟩,
   ⟨0xc, 0, 1, 0x0, 0x0, 0x0, 0x0, 0x0⟩,
   ⟨0x10, 0, 1, 0x0, 0x0, 0x0, 0x0, 0x0⟩,
   ⟨0x14, 0, 1, 0x1f, 0x0, 0x0, 0x0, 0x1f⟩,
   ⟨0x18, 0, 1, 0x0, 0x1f, 0x0, 0x0, 0x0⟩,
   ⟨0x1c, 0, 1, 0x0, 0x0, 0x0, 0x0, 0x0⟩,
   ⟨0x20, 0, 1, 0x1f, 0x0, 0x0, 0x0, 0x1f⟩,
   ⟨0x24, 0, 1, 0x0, 0x0, 0x0, 0x0, 0x0⟩,
   ⟨0x28, 0, 1, 0x0, 0x0, 0x0, 0x0, 0x0⟩,
   ⟨0x40, 32, 16, 0x0, 0x0, 0x0, 0x0, 0xffff0000⟩] ++
  [⟨0x44, 32, 16, 0x0, 0x0, 0x0, 0x0, 0x0⟩,
   ⟨0x48, 32, 16, 0x0, 0x0, 0x0, 0x0, 0x0⟩,
   ⟨0x4c, 32, 16, 0x0, 0x0, 0x0, 0x0, 0x0⟩,
   ⟨0x50, 32, 16, 0x0, 0x0, 0x0, 0x0, 0x0⟩,
   ⟨0x54, 32, 16, 0x0, 0x0, 0x0, 0x0, 0x0⟩,
   ⟨0x58, 32, 16, 0x0, 0x0, 0x0, 0x0, 0xffffffff⟩]
/-- Registers of the pages of kind 0x10 (CTRL). -/
def rowsCTRL : List RegRow :=
  [⟨0x0, 0, 1, 0x0, 0x0, 0x0, 0x0, 0x0⟩,
   ⟨0x4, 0, 1, 0x0, 0x0, 0x0, 0x0, 0x100⟩,
   ⟨0x8, 0, 1, 0x0, 0x0, 0x1, 0x0, 0x0⟩,
   ⟨0xc, 0, 1, 0x0, 0x0, 0x0, 0x0, 0x0⟩,
   ⟨0x10, 0, 1, 0x0, 0x0, 0x0, 0x0, 0x0⟩,
   ⟨0x14, 0, 1, 0xff, 0x0, 0x0, 0x0, 0xff⟩,
   ⟨0x18, 0, 1, 0x0, 0xff, 0x0, 0x0, 0x0⟩,
   ⟨0x1c, 0, 1, 0x0, 0x0, 0x0, 0x0, 0x0⟩,
   ⟨0x20, 0, 1, 0xffffffff, 0x0, 0x0, 0x0, 0x0⟩,
   ⟨0x24, 0, 1, 0xffffffff, 0x0, 0x0, 0x0, 0x0⟩,
   ⟨0x28, 0, 1, 0x3fffff, 0x0, 0x0, 0x0, 0x0⟩,
   ⟨0x2c, 0, 1, 0xffff, 0x0, 0x0, 0x0, 0x0⟩] ++
  [⟨0x30, 0, 1, 0xffffffff, 0x0, 0x0, 0x0, 0x0⟩,
   ⟨0x34, 0, 1, 0xffffffff, 0x0, 0x0, 0x0, 0x0⟩,
   ⟨0x38, 0, 1, 0xffffffff, 0x0, 0x0, 0x0, 0x0⟩,
   ⟨0x3c, 0, 1, 0xffffffff, 0x0, 0x0, 0x0, 0x0⟩,
   ⟨0x40, 0, 1, 0xffffffff, 0x0, 0x0, 0x0, 0x0⟩,
   ⟨0x44, 0, 1, 0x803fffff, 0x0, 0x0, 0x0, 0x0⟩,
   ⟨0x48, 0, 1, 0xffcf, 0x0, 0x80000000, 0x0, 0x0⟩,
   ⟨0x4c, 0, 1, 0x0, 0x0, 0x0, 0x0, 0x0⟩,
   ⟨0x50, 0, 1, 0x3fffffff, 0x0, 0x0, 0x0, 0x0⟩,
   ⟨0x54, 0, 1, 0x0, 0x0, 0x0, 0x0, 0x0⟩,
   ⟨0x58, 0, 1, 0x0, 0x0, 0x0, 0x0, 0x0⟩,
   ⟨0x5c, 0, 1, 0x0, 0x0, 0x0, 0x0, 0x0⟩] ++
  [⟨0x60, 0, 1, 0x0, 0x0, 0x0, 0x0, 0x0⟩,
   ⟨0x64, 0, 1, 0x0, 0x0, 0x0, 0x0, 0x0⟩,
   ⟨0x68, 0, 1, 0x0, 0x0, 0x0, 0x0, 0x0⟩,
   ⟨0x6c, 0, 1, 0x0, 0x0, 0x0, 0x0, 0x0⟩,
   ⟨0x70, 0, 1, 0x0, 0x0, 0x0, 0x0, 0x0⟩,
   ⟨0x74, 0, 1, 0x0, 0x0, 0x0, 0x0, 0x0⟩,
   ⟨0x78, 0, 1, 0x0, 0x0, 0x0, 0x0, 0x0⟩,
   ⟨0x7c, 0, 1, 0x0, 0x0, 0x0, 0x0, 0x0⟩,
   ⟨0x80, 0, 1, 0x0, 0x0, 0x0, 0x0, 0x0⟩,
   ⟨0x84, 0, 1, 0x0, 0x0, 0x0, 0x0, 0x0⟩,
   ⟨0x88, 0, 1, 0x0, 0x0, 0x0, 0x0, 0x0⟩,
   ⟨0x8c, 0, 1, 0x0, 0x0, 0x0, 0x0, 0x0⟩] ++
  [⟨0x90, 0, 1, 0x0, 0x0, 0x0, 0x0, 0x0⟩,
   ⟨0x94, 0, 1, 0x0, 0x0, 0x0, 0x0, 0x0⟩,
   ⟨0x98, 0, 1, 0x0, 0x0, 0x0, 0x0, 0x0⟩,
   ⟨0x9c, 0, 1, 0x0, 0x0, 0x0, 0x0, 0x0⟩]
/-- Registers of the pages of kind 0x11 (ALLOC). -/
def rowsALLOC : List RegRow :=
  [⟨0x0, 0, 1, 0x0, 0x0, 0x0, 0x0, 0x0⟩,
   ⟨0x4, 0, 1, 0x0, 0x0, 0x0, 0x0, 0x100⟩,
   ⟨0x8, 0, 1, 0x0, 0x0, 0x1, 0x0, 0x0⟩,
   ⟨0xc, 0, 1, 0x0, 0x0, 0x0, 0x0, 0x0⟩,
   ⟨0x10, 0, 1, 0x0, 0x0, 0x0, 0x0, 0x0⟩,
   ⟨0x14, 0, 1, 0xff, 0x0, 0x0, 0x0, 0xff⟩,
   ⟨0x18, 0, 1, 0x0, 0xff, 0x0, 0x0, 0x0⟩,
   ⟨0x1c, 0, 1, 0x0, 0x0, 0x0, 0x0, 0x0⟩,
   ⟨0x20, 0, 1, 0x0, 0x0, 0x0, 0x0, 0x0⟩,
   ⟨0x24, 0, 1, 0x0, 0x0, 0x0, 0x0, 0x0⟩,
   ⟨0x28, 0, 1, 0x0, 0x0, 0x0, 0x0, 0x0⟩,
   ⟨0x2c, 0, 1, 0x0, 0x0, 0x0, 0x0, 0x0⟩] ++
  [⟨0x30, 0, 1, 0x0, 0x0, 0x0, 0x0, 0x0⟩,
   ⟨0x34, 0, 1, 0x0, 0x0, 0x0, 0x0, 0x0⟩,
   ⟨0x38, 0, 1, 0x0, 0x0, 0x0, 0x0, 0x0⟩,
   ⟨0x3c, 0, 1, 0x0, 0x0, 0x0, 0x0, 0x0⟩,
   ⟨0x40, 0, 1, 0x0, 0x0, 0x0, 0x0, 0x0⟩,
   ⟨0x44, 0, 1, 0x0, 0x0, 0x0, 0x0, 0x0⟩,
   ⟨0x48, 0, 1, 0x0, 0x0, 0x0, 0x0, 0x0⟩,
   ⟨0x4c, 0, 1, 0x0, 0x0, 0x0, 0x0, 0x0⟩,
   ⟨0x50, 0, 1, 0x0, 0x0, 0x0, 0x0, 0x0⟩,
   ⟨0x60, 8, 4, 0x0, 0x0, 0x0, 0x0, 0x0⟩,
   ⟨0x64, 8, 4, 0x0, 0x0, 0x0, 0x0, 0xffff0000⟩]
/-- Registers of the pages of kind 0x20 (CH). -/
def rowsCH : List RegRow :=
  [⟨0x0, 0, 1, 0x0, 0x0, 0x0, 0x0, 0x0⟩,
   ⟨0x4, 0, 1, 0x0, 0x0, 0x0, 0x0, 0x100⟩,
   ⟨0x8, 0, 1, 0x0, 0x0, 0x1, 0x0, 0x0⟩,
   ⟨0xc, 0, 1, 0x0, 0x0, 0x0, 0x0, 0x0⟩,
   ⟨0x10, 0, 1, 0x0, 0x0, 0x0, 0x0, 0x0⟩,
   ⟨0x14, 0, 1, 0xff, 0x0, 0x0, 0x0, 0xff⟩,
   ⟨0x18, 0, 1, 0x0, 0xff, 0x0, 0x0, 0x0⟩,
   ⟨0x1c, 0, 1, 0x0, 0x0, 0x0, 0x0, 0x0⟩,
   ⟨0x20, 0, 1, 0x0, 0x0, 0x0, 0x0, 0xf0007⟩,
   ⟨0x24, 0, 1, 0xff0f, 0x0, 0x80000000, 0x0, 0x0⟩,
   ⟨0x28, 0, 1, 0x0, 0x0, 0x0, 0x0, 0x0⟩,
   ⟨0x2c, 0, 1, 0x0, 0x0, 0x0, 0x0, 0x0⟩] ++
  [⟨0x30, 0, 1, 0x0, 0x0, 0x0, 0x0, 0x0⟩,
   ⟨0x34, 0, 1, 0x0, 0x0, 0x0, 0x0, 0x0⟩,
   ⟨0x38, 0, 1, 0x0, 0x0, 0x0, 0x0, 0x0⟩,
   ⟨0x3c, 0, 1, 0x0, 0x0, 0x0, 0x0, 0x0⟩,
   ⟨0x40, 0, 1, 0x0, 0x0, 0x0, 0x0, 0x0⟩,
   ⟨0x44, 0, 1, 0x0, 0x0, 0x0, 0x0, 0xffff⟩,
   ⟨0x48, 0, 1, 0x0, 0x0, 0x0, 0x0, 0x0⟩,
   ⟨0x4c, 0, 1, 0x0, 0x0, 0x0, 0x0, 0x0⟩,
   ⟨0x50, 0, 1, 0x0, 0x0, 0x0, 0x0, 0x0⟩,
   ⟨0x54, 0, 1, 0x0, 0x0, 0x0, 0x0, 0x0⟩]
/-- Registers of the pages of kind 0x30 (SX). -/
def rowsSX : List RegRow :=
  [⟨0x0, 0, 1, 0x0, 0x0, 0x0, 0x0, 0x0⟩,
   ⟨0x4, 0, 1, 0x0, 0x0, 0x0, 0x0, 0x100⟩,
   ⟨0x8, 0, 1, 0x0, 0x0, 0x1, 0x0, 0x0⟩,
   ⟨0xc, 0, 1, 0x0, 0x0, 0x0, 0x0, 0x0⟩,
   ⟨0x10, 0, 1, 0x0, 0x0, 0x0, 0x0, 0x0⟩,
   ⟨0x14, 0, 1, 0xff, 0x0, 0x0, 0x0, 0xff⟩,
   ⟨0x18, 0, 1, 0x0, 0xff, 0x0, 0x0, 0x0⟩,
   ⟨0x1c, 0, 1, 0x0, 0x0, 0x0, 0x0, 0x0⟩,
   ⟨0x20, 0, 1, 0x0, 0x0, 0x0, 0x0, 0x0⟩,
   ⟨0x24, 0, 1, 0x0, 0x0, 0x0, 0x0, 0x0⟩,
   ⟨0x28, 0, 1, 0x0, 0x0, 0x0, 0x0, 0x0⟩,
   ⟨0x2c, 0, 1, 0x0, 0x0, 0x0, 0x0, 0x0⟩] ++
  [⟨0x30, 0, 1, 0x0, 0x0, 0x0, 0x0, 0x0⟩,
   ⟨0x34, 0, 1, 0x0, 0x0, 0x0, 0x0, 0x0⟩,
   ⟨0x38, 0, 1, 0x0, 0x0, 0x0, 0x0, 0x0⟩,
   ⟨0x3c, 0, 1, 0x0, 0x0, 0x0, 0x0, 0xffffffff⟩,
   ⟨0x40, 0, 1, 0x0, 0x0, 0x0, 0x0, 0x0⟩,
   ⟨0x44, 0, 1, 0x0, 0x0, 0x0, 0x0, 0x80000000⟩,
   ⟨0x48, 0, 1, 0x0, 0x0, 0x0, 0x0, 0x0⟩,
   ⟨0x4c, 0, 1, 0x0, 0x0, 0x0, 0x0, 0x0⟩,
   ⟨0x50, 0, 1, 0x0, 0x0, 0x0, 0x0, 0x0⟩,
   ⟨0x54, 0, 1, 0xff0f, 0x0, 0x80000000, 0x0, 0x0⟩,
   ⟨0x58, 0, 1, 0xffffffff, 0x0, 0x0, 0x0, 0x0⟩,
   ⟨0x5c, 0, 1, 0xffffffff, 0x0, 0x0, 0x0, 0x0⟩] ++
  [⟨0x60, 0, 1, 0xf, 0x0, 0x0, 0x0, 0x0⟩,
   ⟨0x64, 0, 1, 0xffffffff, 0x0, 0x0, 0x0, 0x0⟩,
   ⟨0x68, 0, 1, 0x7fffffff, 0x0, 0x0, 0x0, 0x0⟩]
/-- Registers of the pages of kind 0x31 (ANT). -/
def rowsANT : List RegRow :=
  [⟨0x0, 0, 1, 0x0, 0x0, 0x0, 0x0, 0x0⟩,
   ⟨0x4, 0, 1, 0x0, 0x0, 0x0, 0x0, 0x100⟩,
   ⟨0x8, 0, 1, 0x0, 0x0, 0x1, 0x0, 0x0⟩,
   ⟨0xc, 0, 1, 0x0, 0x0, 0x0, 0x0, 0x0⟩,
   ⟨0x10, 0, 1, 0x0, 0x0, 0x0, 0x0, 0x0⟩,
   ⟨0x14, 0, 1, 0x1f, 0x0, 0x0, 0x0, 0x1f⟩,
   ⟨0x18, 0, 1, 0x0, 0x1f, 0x0, 0x0, 0x0⟩,
   ⟨0x1c, 0, 1, 0x0, 0x0, 0x0, 0x0, 0x0⟩,
   ⟨0x20, 0, 1, 0x1fff, 0x0, 0x0, 0x0, 0x0⟩,
   ⟨0x24, 0, 1, 0x0, 0x0, 0x0, 0x0, 0x0⟩,
   ⟨0x28, 0, 1, 0x0, 0x0, 0x0, 0x0, 0x0⟩,
   ⟨0x2c, 0, 1, 0x0, 0x0, 0x0, 0x0, 0xff⟩] ++
  [⟨0x30, 0, 1, 0x0, 0x0, 0x0, 0x0, 0x0⟩,
   ⟨0x34, 0, 1, 0x0, 0x0, 0x0, 0x0, 0x0⟩,
   ⟨0x38, 0, 1, 0x0, 0x0, 0x0, 0x0, 0x0⟩,
   ⟨0x3c, 0, 1, 0x0, 0x0, 0x0, 0x0, 0xffffffff⟩,
   ⟨0x40, 0, 1, 0x7f, 0x0, 0x0, 0x0, 0x0⟩,
   ⟨0x44, 0, 1, 0x0, 0x0, 0x0, 0x0, 0x0⟩,
   ⟨0x48, 0, 1, 0x0, 0x0, 0x0, 0x0, 0x0⟩,
   ⟨0x4c, 0, 1, 0x0, 0x0, 0x0, 0x0, 0x0⟩,
   ⟨0x50, 0, 1, 0x0, 0x0, 0x0, 0x0, 0x0⟩,
   ⟨0x54, 0, 1, 0x0, 0x0, 0x0, 0x0, 0x0⟩,
   ⟨0x100, 4, 72, 0x0, 0x0, 0x0, 0x0, 0x0⟩]
/-- Registers of the pages of kind 0x38 (AIN). -/
def rowsAIN : List RegRow :=
  [⟨0x0, 0, 1, 0x0, 0x0, 0x0, 0x0, 0x0⟩,
   ⟨0x4, 0, 1, 0x0, 0x0, 0x0, 0x0, 0x100⟩,
   ⟨0x8, 0, 1, 0x0, 0x0, 0x1, 0x0, 0x0⟩,
   ⟨0xc, 0, 1, 0x0, 0x0, 0x0, 0x0, 0x0⟩,
   ⟨0x10, 0, 1, 0x0, 0x0, 0x0, 0x0, 0x0⟩,
   ⟨0x14, 0, 1, 0x3f, 0x0, 0x0, 0x0, 0x3f⟩,
   ⟨0x18, 0, 1, 0x0, 0x3f, 0x0, 0x0, 0x0⟩,
   ⟨0x1c, 0, 1, 0x0, 0x0, 0x0, 0x0, 0x0⟩,
   ⟨0x20, 0, 1, 0x0, 0x0, 0x0, 0x0, 0x0⟩,
   ⟨0x24, 0, 1, 0x0, 0x0, 0x0, 0x0, 0x0⟩,
   ⟨0x28, 0, 1, 0x0, 0x0, 0x0, 0x0, 0x0⟩,
   ⟨0x2c, 0, 1, 0x0, 0x0, 0x0, 0x0, 0x0⟩] ++
  [⟨0x30, 0, 1, 0x0, 0x0, 0x0, 0x0, 0x0⟩,
   ⟨0x34, 0, 1, 0xffffffff, 0x0, 0x0, 0x0, 0x0⟩,
   ⟨0x38, 0, 1, 0x0, 0x0, 0xffffffff, 0x0, 0x0⟩,
   ⟨0x3c, 0, 1, 0x0, 0x0, 0x0, 0x0, 0x0⟩,
   ⟨0x40, 0, 1, 0x0, 0x0, 0x0, 0x0, 0x0⟩,
   ⟨0x80, 4, 32, 0x0, 0x0, 0x0, 0x0, 0x0⟩,
   ⟨0x100, 16, 32, 0xffc00fc3, 0x0, 0x0, 0x0, 0x0⟩,
   ⟨0x104, 16, 32, 0x0, 0x0, 0x0, 0x0, 0x0⟩,
   ⟨0x108, 16, 32, 0x0, 0x0, 0x0, 0x0, 0x0⟩,
   ⟨0x10c, 16, 32, 0x0, 0x0, 0x0, 0x0, 0x0⟩]
/-- Registers of the pages of kind 0x39 (AO). -/
def rowsAO : List RegRow :=
  [⟨0x0, 0, 1, 0x0, 0x0, 0x0, 0x0, 0x0⟩,
   ⟨0x4, 0, 1, 0x0, 0x0, 0x0, 0x0, 0x100⟩,
   ⟨0x8, 0, 1, 0x0, 0x0, 0x0, 0x0, 0x0⟩,
   ⟨0xc, 0, 1, 0x0, 0x0, 0x0, 0x0, 0x0⟩,
   ⟨0x10, 0, 1, 0x0, 0x0, 0x0, 0x0, 0x0⟩,
   ⟨0x14, 0, 1, 0x3, 0x0, 0x0, 0x0, 0x3⟩,
   ⟨0x18, 0, 1, 0x0, 0x3, 0x0, 0x0, 0x0⟩,
   ⟨0x1c, 0, 1, 0x0, 0x0, 0x0, 0x0, 0x0⟩,
   ⟨0x20, 0, 1, 0x0, 0x0, 0x0, 0x0, 0x0⟩,
   ⟨0x24, 0, 1, 0x0, 0x0, 0x0, 0x0, 0x0⟩,
   ⟨0x100, 16, 16, 0x0, 0x0, 0x0, 0x0, 0x0⟩,
   ⟨0x104, 16, 16, 0xffffffff, 0x0, 0x0, 0x0, 0x0⟩] ++
  [⟨0x108, 16, 16, 0x0, 0x0, 0x0, 0x0, 0x0⟩,
   ⟨0x10c, 16, 16, 0x0, 0x0, 0x0, 0x0, 0x0⟩]
/-- Registers of the pages of kind 0x40 (CHR). -/
def rowsCHR : List RegRow :=
  [⟨0x0, 0, 1, 0x0, 0x0, 0x0, 0x0, 0x0⟩,
   ⟨0x4, 0, 1, 0x0, 0x0, 0x0, 0x0, 0x100⟩,
   ⟨0x8, 0, 1, 0x0, 0x0, 0x3, 0x0, 0x0⟩,
   ⟨0xc, 0, 1, 0x0, 0x0, 0x0, 0x0, 0x0⟩,
   ⟨0x10, 0, 1, 0x0, 0x0, 0x0, 0x0, 0x0⟩,
   ⟨0x14, 0, 1, 0xff, 0x0, 0x0, 0x0, 0xff⟩,
   ⟨0x18, 0, 1, 0x0, 0xff, 0x0, 0x0, 0x0⟩,
   ⟨0x1c, 0, 1, 0x0, 0x0, 0x0, 0x0, 0x0⟩,
   ⟨0x20, 0, 1, 0x0, 0x0, 0x0, 0x0, 0x0⟩,
   ⟨0x24, 0, 1, 0x0, 0x0, 0x0, 0x0, 0x0⟩,
   ⟨0x28, 0, 1, 0x0, 0x0, 0x0, 0x0, 0x0⟩,
   ⟨0x2c, 0, 1, 0x0, 0x0, 0x0, 0x0, 0x0⟩] ++
  [⟨0x30, 0, 1, 0x0, 0x0, 0x0, 0x0, 0x80000000⟩,
   ⟨0x34, 0, 1, 0x0, 0x0, 0x0, 0x0, 0x0⟩,
   ⟨0x38, 0, 1, 0x0, 0x0, 0x0, 0x0, 0x0⟩,
   ⟨0x3c, 0, 1, 0x0, 0x0, 0x0, 0x0, 0x0⟩,
   ⟨0x40, 0, 1, 0xe, 0x0, 0x0, 0x0, 0x0⟩,
   ⟨0x44, 0, 1, 0xff0f, 0x0, 0x80000000, 0x0, 0x0⟩,
   ⟨0x48, 0, 1, 0xffffffff, 0x0, 0x0, 0x0, 0x0⟩,
   ⟨0x4c, 0, 1, 0xffff, 0x0, 0x0, 0x0, 0x0⟩,
   ⟨0x50, 0, 1, 0x3fffffff, 0x0, 0x0, 0x0, 0x0⟩,
   ⟨0x54, 0, 1, 0x0, 0x0, 0x0, 0x0, 0x0⟩,
   ⟨0x58, 0, 1, 0x0, 0x0, 0x0, 0x0, 0x0⟩,
   ⟨0x5c, 0, 1, 0x0, 0x0, 0x0, 0x0, 0x0⟩] ++
  [⟨0x90, 16, 4, 0x0, 0x0, 0x0, 0x0, 0xffff0000⟩,
   ⟨0x94, 16, 4, 0x0, 0x0, 0x0, 0x0, 0x80000000⟩,
   ⟨0x98, 16, 4, 0x0, 0x0, 0x0, 0x0, 0xffff⟩,
   ⟨0xe0, 8, 2, 0x301ff, 0x0, 0x0, 0x0, 0x0⟩,
   ⟨0xe4, 8, 2, 0x1fff, 0x0, 0x0, 0x0, 0x0⟩,
   ⟨0xf0, 4, 2, 0xffffffff, 0x0, 0x0, 0x0, 0x0⟩,
   ⟨0x100, 64, 2, 0x0, 0x0, 0x0, 0x0, 0x0⟩,
   ⟨0x104, 64, 2, 0x0, 0x0, 0x0, 0x0, 0x0⟩,
   ⟨0x108, 64, 2, 0x0, 0x0, 0x0, 0x0, 0x0⟩,
   ⟨0x10c, 64, 2, 0x0, 0x0, 0x0, 0x0, 0x0⟩,
   ⟨0x110, 64, 2, 0x0, 0x0, 0x0, 0x0, 0xfffeff00⟩,
   ⟨0x114, 64, 2, 0x0, 0x0, 0x0, 0x0, 0xffffffff⟩] ++
  [⟨0x118, 64, 2, 0x0, 0x0, 0x0, 0x0, 0x0⟩]
/-- Registers of the pages of kind 0x41 (ETH). -/
def rowsETH : List RegRow :=
  [⟨0x0, 0, 1, 0x0, 0x0, 0x0, 0x0, 0x0⟩,
   ⟨0x4, 0, 1, 0x0, 0x0, 0x0, 0x0, 0x100⟩,
   ⟨0x8, 0, 1, 0x0, 0x0, 0x1, 0x0, 0x0⟩,
   ⟨0xc, 0, 1, 0x0, 0x0, 0x0, 0x0, 0x0⟩,
   ⟨0x10, 0, 1, 0x0, 0x0, 0x0, 0x0, 0x0⟩,
   ⟨0x14, 0, 1, 0x7, 0x0, 0x0, 0x0, 0x7⟩,
   ⟨0x18, 0, 1, 0x0, 0x7, 0x0, 0x0, 0x0⟩,
   ⟨0x1c, 0, 1, 0x0, 0x0, 0x0, 0x0, 0x0⟩,
   ⟨0x20, 0, 1, 0x0, 0x0, 0x0, 0x0, 0x0⟩,
   ⟨0x24, 0, 1, 0x0, 0x0, 0x0, 0x0, 0x0⟩,
   ⟨0x28, 0, 1, 0x0, 0x0, 0x0, 0x0, 0x0⟩,
   ⟨0x2c, 0, 1, 0x0, 0x0, 0x0, 0x0, 0x0⟩] ++
  [⟨0x30, 0, 1, 0x0, 0x0, 0x0, 0x0, 0x0⟩,
   ⟨0x34, 0, 1, 0x0, 0x0, 0x0, 0x0, 0x0⟩,
   ⟨0x38, 0, 1, 0x0, 0x0, 0x0, 0x0, 0x0⟩,
   ⟨0x3c, 0, 1, 0x0, 0x0, 0x0, 0x0, 0x0⟩]
/-- Registers of the pages of kind 0x43 (RAP). -/
def rowsRAP : List RegRow :=
  [⟨0x0, 0, 1, 0x0, 0x0, 0x0, 0x0, 0x0⟩,
   ⟨0x4, 0, 1, 0x0, 0x0, 0x0, 0x0, 0x100⟩,
   ⟨0x8, 0, 1, 0x0, 0x0, 0x1, 0x0, 0x0⟩,
   ⟨0xc, 0, 1, 0x0, 0x0, 0x0, 0x0, 0x0⟩,
   ⟨0x10, 0, 1, 0x0, 0x0, 0x0, 0x0, 0x0⟩,
   ⟨0x14, 0, 1, 0x3f, 0x0, 0x0, 0x0, 0x3f⟩,
   ⟨0x18, 0, 1, 0x0, 0x3f, 0x0, 0x0, 0x0⟩,
   ⟨0x1c, 0, 1, 0x0, 0x0, 0x0, 0x0, 0x0⟩,
   ⟨0x20, 0, 1, 0x0, 0x0, 0x0, 0x0, 0x1⟩,
   ⟨0x24, 0, 1, 0x0, 0x0, 0x0, 0x0, 0x0⟩,
   ⟨0x28, 0, 1, 0x0, 0x0, 0x0, 0x0, 0x0⟩,
   ⟨0x2c, 0, 1, 0x0, 0x0, 0x0, 0x0, 0x0⟩] ++
  [⟨0x30, 0, 1, 0x0, 0x0, 0x0, 0x0, 0x0⟩,
   ⟨0x34, 0, 1, 0x0, 0x0, 0x0, 0x0, 0x0⟩,
   ⟨0x38, 0, 1, 0x0, 0x0, 0x0, 0x0, 0x0⟩]
/-- Registers of the pages of kind 0x44 (L450). -/
def rowsL450 : List RegRow :=
  [⟨0x0, 0, 1, 0x0, 0x0, 0x0, 0x0, 0x0⟩,
   ⟨0x4, 0, 1, 0x0, 0x0, 0x0, 0x0, 0x100⟩,
   ⟨0x8, 0, 1, 0x0, 0x0, 0x1, 0x0, 0x0⟩,
   ⟨0xc, 0, 1, 0x0, 0x0, 0x0, 0x0, 0x0⟩,
   ⟨0x10, 0, 1, 0x0, 0x0, 0x0, 0x0, 0x0⟩,
   ⟨0x14, 0, 1, 0x3, 0x0, 0x0, 0x0, 0x3⟩,
   ⟨0x18, 0, 1, 0x0, 0x3, 0x0, 0x0, 0x0⟩,
   ⟨0x1c, 0, 1, 0x0, 0x0, 0x0, 0x0, 0x0⟩,
   ⟨0x20, 0, 1, 0x0, 0x0, 0x0, 0x0, 0x0⟩,
   ⟨0x24, 0, 1, 0x0, 0x0, 0x0, 0x0, 0x0⟩,
   ⟨0x28, 0, 1, 0x0, 0x0, 0x0, 0x0, 0x0⟩]
/-- Registers of the pages of kind 0x48 (CAN). -/
def rowsCAN : List RegRow :=
  [⟨0x0, 0, 1, 0x0, 0x0, 0x0, 0x0, 0x0⟩,
   ⟨0x4, 0, 1, 0x0, 0x0, 0x0, 0x0, 0x100⟩,
   ⟨0x8, 0, 1, 0x0, 0x0, 0x1, 0x0, 0x0⟩,
   ⟨0xc, 0, 1, 0x0, 0x0, 0x0, 0x0, 0x3⟩,
   ⟨0x10, 0, 1, 0x0, 0x0, 0x0, 0x0, 0x0⟩,
   ⟨0x14, 0, 1, 0xff, 0x0, 0x0, 0x0, 0xff⟩,
   ⟨0x18, 0, 1, 0x0, 0xff, 0x0, 0x0, 0x0⟩,
   ⟨0x1c, 0, 1, 0x0, 0x0, 0x0, 0x0, 0x0⟩,
   ⟨0x20, 0, 1, 0x0, 0x0, 0x0, 0x0, 0x0⟩,
   ⟨0x24, 0, 1, 0x0, 0x0, 0x0, 0x0, 0x0⟩,
   ⟨0x28, 0, 1, 0x0, 0x0, 0x0, 0x0, 0x0⟩,
   ⟨0x2c, 0, 1, 0x0, 0x0, 0x0, 0x0, 0x0⟩] ++
  [⟨0x30, 0, 1, 0x0, 0x0, 0x0, 0x0, 0xc0000000⟩,
   ⟨0x34, 0, 1, 0x0, 0x0, 0x0, 0x0, 0x0⟩,
   ⟨0x38, 0, 1, 0x0, 0x0, 0x0, 0x0, 0x0⟩,
   ⟨0x3c, 0, 1, 0x0, 0x0, 0x0, 0x0, 0x0⟩,
   ⟨0x40, 0, 1, 0x0, 0x0, 0x0, 0x0, 0x0⟩,
   ⟨0x44, 0, 1, 0x0, 0x0, 0x0, 0x0, 0x0⟩,
   ⟨0x48, 0, 1, 0x0, 0x0, 0x0, 0x0, 0x0⟩,
   ⟨0x4c, 0, 1, 0xff, 0x0, 0x0, 0x0, 0x0⟩,
   ⟨0x50, 0, 1, 0x0, 0x0, 0x0, 0x0, 0x0⟩,
   ⟨0x54, 0, 1, 0x0, 0x0, 0x0, 0x0, 0x0⟩,
   ⟨0x58, 0, 1, 0x0, 0x0, 0x0, 0x0, 0x0⟩,
   ⟨0x5c, 0, 1, 0x0, 0x0, 0x0, 0x0, 0x0⟩] ++
  [⟨0x60, 4, 16, 0x0, 0x0, 0x0, 0x0, 0x0⟩,
   ⟨0xa0, 0, 1, 0x3f, 0x0, 0x0, 0x0, 0x0⟩,
   ⟨0xa4, 0, 1, 0x0, 0x0, 0x0, 0x0, 0x0⟩,
   ⟨0xa8, 0, 1, 0x0, 0x0, 0x0, 0x0, 0x0⟩,
   ⟨0xac, 0, 1, 0xff0f, 0x0, 0x80000000, 0x0, 0x0⟩,
   ⟨0xc0, 4, 16, 0xffffffff, 0x0, 0x0, 0x0, 0x0⟩,
   ⟨0x100, 4, 32, 0x0, 0x0, 0x0, 0x0, 0x0⟩]
/-- Registers of the pages of kind 0x50 (SER). -/
def rowsSER : List RegRow :=
  [⟨0x0, 0, 1, 0x0, 0x0, 0x0, 0x0, 0x0⟩,
   ⟨0x4, 0, 1, 0x0, 0x0, 0x0, 0x0, 0x100⟩,
   ⟨0x8, 0, 1, 0x0, 0x0, 0x1, 0x0, 0x0⟩,
   ⟨0xc, 0, 1, 0x0, 0x0, 0x0, 0x0, 0x0⟩,
   ⟨0x10, 0, 1, 0x0, 0x0, 0x0, 0x0, 0x0⟩,
   ⟨0x14, 0, 1, 0xf, 0x0, 0x0, 0x0, 0xf⟩,
   ⟨0x18, 0, 1, 0x0, 0xf, 0x0, 0x0, 0x0⟩,
   ⟨0x1c, 0, 1, 0x0, 0x0, 0x0, 0x0, 0x0⟩,
   ⟨0x100, 16, 12, 0x0, 0x0, 0x0, 0x0, 0x0⟩,
   ⟨0x104, 16, 12, 0x0, 0x0, 0x0, 0x0, 0x0⟩,
   ⟨0x108, 16, 12, 0x0, 0x0, 0x0, 0x0, 0x0⟩,
   ⟨0x10c, 16, 12, 0x0, 0x0, 0x0, 0x0, 0xffff0000⟩]
/-- Registers of the pages of kind 0x58 (SF). -/
def rowsSF : List RegRow :=
  [⟨0x0, 0, 1, 0x0, 0x0, 0x0, 0x0, 0x0⟩,
   ⟨0x4, 0, 1, 0x0, 0x0, 0x0, 0x0, 0x100⟩,
   ⟨0x8, 0, 1, 0x0, 0x0, 0x1, 0x0, 0x0⟩,
   ⟨0xc, 0, 1, 0x0, 0x0, 0x0, 0x0, 0x0⟩,
   ⟨0x10, 0, 1, 0x0, 0x0, 0x0, 0x0, 0x0⟩,
   ⟨0x14, 0, 1, 0xff, 0x0, 0x0, 0x0, 0xff⟩,
   ⟨0x18, 0, 1, 0x0, 0xff, 0x0, 0x0, 0x0⟩,
   ⟨0x1c, 0, 1, 0x0, 0x0, 0x0, 0x0, 0x0⟩,
   ⟨0x20, 0, 1, 0x0, 0x0, 0x0, 0x0, 0x0⟩,
   ⟨0x24, 0, 1, 0x0, 0x0, 0x0, 0x0, 0x0⟩,
   ⟨0x28, 0, 1, 0x0, 0x0, 0x0, 0x0, 0x0⟩,
   ⟨0x2c, 0, 1, 0x0, 0x0, 0x0, 0x0, 0x0⟩] ++
  [⟨0x30, 0, 1, 0x0, 0x0, 0x0, 0x0, 0xffffffff⟩,
   ⟨0x34, 0, 1, 0x0, 0x0, 0x0, 0x0, 0x0⟩,
   ⟨0x38, 0, 1, 0x0, 0x0, 0x0, 0x0, 0x0⟩,
   ⟨0x3c, 0, 1, 0x0, 0x0, 0x0, 0xffff00ff, 0x0⟩,
   ⟨0x40, 0, 1, 0x0, 0x0, 0x0, 0x0, 0x0⟩,
   ⟨0x44, 0, 1, 0x0, 0x0, 0x0, 0x0, 0x0⟩,
   ⟨0x48, 0, 1, 0x0, 0x0, 0x0, 0x0, 0x0⟩,
   ⟨0x4c, 0, 1, 0x0, 0x0, 0x0, 0x0, 0x0⟩,
   ⟨0x50, 0, 1, 0x0, 0x0, 0x0, 0x0, 0x0⟩,
   ⟨0x80, 4, 16, 0x0, 0x0, 0x0, 0x0, 0x0⟩]
/-- Registers of the pages of kind 0x59 (SFL). -/
def rowsSFL : List RegRow :=
  [⟨0x0, 0, 1, 0x0, 0x0, 0x0, 0x0, 0x0⟩,
   ⟨0x4, 0, 1, 0x0, 0x0, 0x0, 0x0, 0x100⟩,
   ⟨0x8, 0, 1, 0x0, 0x0, 0x0, 0x0, 0x0⟩,
   ⟨0xc, 0, 1, 0x0, 0x0, 0x0, 0x0, 0x0⟩,
   ⟨0x10, 0, 1, 0x0, 0x0, 0x0, 0x0, 0x0⟩,
   ⟨0x14, 0, 1, 0x7, 0x0, 0x0, 0x0, 0x7⟩,
   ⟨0x18, 0, 1, 0x0, 0x7, 0x0, 0x0, 0x0⟩,
   ⟨0x1c, 0, 1, 0x0, 0x0, 0x0, 0x0, 0x0⟩,
   ⟨0x20, 0, 1, 0x0, 0x0, 0x0, 0x0, 0x0⟩,
   ⟨0x24, 0, 1, 0x1ff, 0x0, 0x0, 0x0, 0x0⟩,
   ⟨0x28, 0, 1, 0x0, 0x0, 0x0, 0x0, 0x0⟩,
   ⟨0x2c, 0, 1, 0x0, 0x0, 0x0, 0x0, 0x0⟩] ++
  [⟨0x30, 0, 1, 0x0, 0x0, 0x0, 0x0, 0x0⟩,
   ⟨0x34, 0, 1, 0x0, 0x0, 0x0, 0x0, 0x0⟩,
   ⟨0x38, 4, 8, 0x0, 0x0, 0x0, 0x0, 0x0⟩,
   ⟨0x58, 0, 1, 0x0, 0x0, 0x0, 0x0, 0x1⟩]
/-- Registers of the pages of kind 0x5c (LOG). -/
def rowsLOG : List RegRow :=
  [⟨0x0, 0, 1, 0x0, 0x0, 0x0, 0x0, 0x0⟩,
   ⟨0x4, 0, 1, 0x0, 0x0, 0x0, 0x0, 0x100⟩,
   ⟨0x8, 0, 1, 0x0, 0x0, 0x1, 0x0, 0x0⟩,
   ⟨0xc, 0, 1, 0x0, 0x0, 0x0, 0x0, 0x2⟩,
   ⟨0x10, 0, 1, 0x0, 0x0, 0x0, 0x0, 0x0⟩,
   ⟨0x14, 0, 1, 0xff, 0x0, 0x0, 0x0, 0xff⟩,
   ⟨0x18, 0, 1, 0x0, 0xff, 0x0, 0x0, 0x0⟩,
   ⟨0x1c, 0, 1, 0x0, 0x0, 0x0, 0x0, 0x0⟩,
   ⟨0x20, 0, 1, 0x0, 0x0, 0x0, 0x0, 0x0⟩,
   ⟨0x24, 0, 1, 0x0, 0x0, 0x0, 0x0, 0x0⟩,
   ⟨0x28, 0, 1, 0x7, 0x0, 0x0, 0x0, 0x0⟩,
   ⟨0x2c, 0, 1, 0x0, 0x0, 0x0, 0x0, 0x0⟩] ++
  [⟨0x30, 0, 1, 0x0, 0x0, 0x0, 0x0, 0x0⟩,
   ⟨0x34, 0, 1, 0x0, 0x0, 0x0, 0x0, 0x0⟩,
   ⟨0x38, 0, 1, 0x0, 0x0, 0x0, 0x0, 0x0⟩,
   ⟨0x3c, 0, 1, 0x0, 0x0, 0x0, 0x0, 0x0⟩,
   ⟨0x40, 0, 1, 0xffffffff, 0x0, 0x0, 0x0, 0x0⟩,
   ⟨0x44, 0, 1, 0x3, 0x0, 0x0, 0x0, 0x0⟩,
   ⟨0x48, 0, 1, 0x0, 0x0, 0x0, 0x0, 0x4⟩,
   ⟨0x4c, 0, 1, 0x0, 0x0, 0x0, 0x0, 0x0⟩,
   ⟨0x50, 4, 4, 0x0, 0x0, 0x0, 0x0, 0x0⟩,
   ⟨0x60, 0, 1, 0xffff, 0x0, 0x80000000, 0x0, 0x0⟩,
   ⟨0x64, 0, 1, 0x3f, 0x0, 0x0, 0x0, 0x0⟩,
   ⟨0x68, 0, 1, 0x0, 0x0, 0x0, 0x0, 0x0⟩] ++
  [⟨0x6c, 4, 4, 0x0, 0x0, 0x0, 0x0, 0x0⟩,
   ⟨0x80, 4, 16, 0xffffffff, 0x0, 0x0, 0x0, 0x0⟩,
   ⟨0x100, 4, 64, 0x0, 0x0, 0x0, 0x0, 0x0⟩]
/-- Registers of the pages of kind 0x60 (RED). -/
def rowsRED : List RegRow :=
  [⟨0x0, 0, 1, 0x0, 0x0, 0x0, 0x0, 0x0⟩,
   ⟨0x4, 0, 1, 0x0, 0x0, 0x0, 0x0, 0x100⟩,
   ⟨0x8, 0, 1, 0x0, 0x0, 0x1, 0x0, 0x0⟩,
   ⟨0xc, 0, 1, 0x0, 0x0, 0x0, 0x0, 0x0⟩,
   ⟨0x10, 0, 1, 0x0, 0x0, 0x0, 0x0, 0x0⟩,
   ⟨0x14, 0, 1, 0xff, 0x0, 0x0, 0x0, 0xff⟩,
   ⟨0x18, 0, 1, 0x0, 0xff, 0x0, 0x0, 0x0⟩,
   ⟨0x1c, 0, 1, 0x0, 0x0, 0x0, 0x0, 0x0⟩,
   ⟨0x20, 0, 1, 0x0, 0x0, 0x0, 0x0, 0x1⟩,
   ⟨0x24, 0, 1, 0x0, 0x0, 0x0, 0x0, 0x1⟩,
   ⟨0x28, 0, 1, 0x0, 0x0, 0x0, 0x0, 0xffff⟩,
   ⟨0x2c, 0, 1, 0x0, 0x0, 0x0, 0x0, 0x0⟩] ++
  [⟨0x30, 0, 1, 0x0, 0x0, 0x0, 0x0, 0x0⟩,
   ⟨0x34, 0, 1, 0x0, 0x0, 0x0, 0x0, 0xffff0000⟩,
   ⟨0x38, 0, 1, 0xff0f, 0x0, 0x80000000, 0x0, 0x0⟩,
   ⟨0x3c, 0, 1, 0xffff, 0x0, 0x0, 0x0, 0x0⟩,
   ⟨0x40, 0, 1, 0x0, 0x0, 0x0, 0x0, 0x0⟩,
   ⟨0x44, 0, 1, 0x0, 0x0, 0x0, 0x0, 0x0⟩,
   ⟨0x48, 0, 1, 0x0, 0x0, 0x0, 0x0, 0x0⟩,
   ⟨0x4c, 0, 1, 0x0, 0x0, 0x0, 0x0, 0x0⟩,
   ⟨0x50, 0, 1, 0x7ffffc, 0x0, 0x0, 0x0, 0x0⟩,
   ⟨0x54, 0, 1, 0x0, 0x0, 0x0, 0x0, 0x0⟩,
   ⟨0x100, 4, 64, 0x0, 0x0, 0xffffffff, 0x0, 0x0⟩]
/-- Registers of the pages of kind 0x70 (EVC). -/
def rowsEVC : List RegRow :=
  [⟨0x0, 0, 1, 0x0, 0x0, 0x0, 0x0, 0x0⟩,
   ⟨0x4, 0, 1, 0x0, 0x0, 0x0, 0x0, 0x100⟩,
   ⟨0x8, 0, 1, 0x0, 0x0, 0x1, 0x0, 0x0⟩,
   ⟨0xc, 0, 1, 0x0, 0x0, 0x0, 0x0, 0x0⟩,
   ⟨0x10, 0, 1, 0x0, 0x0, 0x0, 0x0, 0x0⟩,
   ⟨0x14, 0, 1, 0x0, 0x0, 0x0, 0x0, 0x0⟩,
   ⟨0x18, 0, 1, 0x0, 0x0, 0x0, 0x0, 0x0⟩,
   ⟨0x1c, 0, 1, 0x0, 0x0, 0x0, 0x0, 0x0⟩,
   ⟨0x20, 4, 8, 0x0, 0x0, 0x0, 0x0, 0x0⟩,
   ⟨0x40, 4, 4, 0x0, 0x0, 0x0, 0x0, 0x0⟩,
   ⟨0x50, 0, 1, 0x0, 0x0, 0x0, 0x0, 0x0⟩,
   ⟨0x54, 0, 1, 0x0, 0x0, 0x0, 0x0, 0x0⟩] ++
  [⟨0x58, 0, 1, 0xff, 0x0, 0x0, 0x0, 0x0⟩,
   ⟨0x5c, 0, 1, 0x0, 0x0, 0x0, 0x0, 0x0⟩,
   ⟨0x60, 0, 1, 0x0, 0x0, 0x0, 0x0, 0x0⟩,
   ⟨0x64, 0, 1, 0x400000ff, 0x0, 0x80000000, 0x0, 0x0⟩]

/-- The rows of the registers of page `p` (18 R609); none for an unassigned page number. -/
def pageRows (p : Nat) : List RegRow :=
  if p = 0x0 then rowsMOD
  else if p = 0x1 then rowsLANE
  else if p = 0x2 then rowsTICK
  else if p = 0x4 then rowsCLK
  else if p = 0x5 then rowsPWR
  else if p = 0x8 then rowsINT
  else if p = 0x9 then rowsSLOT
  else if p = 0xa then rowsPLOT
  else if p = 0xb then rowsTGT
  else if p = 0x10 then rowsCTRL
  else if p = 0x11 then rowsALLOC
  else if 0x20 ≤ p ∧ p ≤ 0x2f then rowsCH
  else if p = 0x30 then rowsSX
  else if 0x31 ≤ p ∧ p ≤ 0x33 then rowsANT
  else if p = 0x38 then rowsAIN
  else if p = 0x39 then rowsAO
  else if p = 0x40 then rowsCHR
  else if 0x41 ≤ p ∧ p ≤ 0x42 then rowsETH
  else if p = 0x43 then rowsRAP
  else if p = 0x44 then rowsL450
  else if 0x48 ≤ p ∧ p ≤ 0x4f then rowsCAN
  else if p = 0x50 then rowsSER
  else if p = 0x58 then rowsSF
  else if p = 0x59 then rowsSFL
  else if p = 0x5c then rowsLOG
  else if p = 0x60 then rowsRED
  else if p = 0x70 then rowsEVC
  else []

end Sys2Proof.Machine
end

