-- ==== Sys2Proof/Machine/RegsCore.lean ====
section
/-! DEFINITION. Names of the register fields of pages 0x0, 0x1, 0x2, 0x4, 0x5, 0x60, 0x70: byte address, lowest bit, width,
written from the register tables of spec/ (each docstring names the rule). -/

namespace Sys2Proof.Machine

/-- The whole word of register STAT, page 0x0. -/
abbrev Reg.MOD_STAT_w : Fld := ⟨0xc, 0, 32⟩
/-- The whole word of register FAULT, page 0x0. -/
abbrev Reg.MOD_FAULT_w : Fld := ⟨0x1c, 0, 32⟩
/-- The whole word of register MOD_MODEL, page 0x0. -/
abbrev Reg.MOD_MODEL_w : Fld := ⟨0x20, 0, 32⟩
/-- The whole word of register MOD_CAP, page 0x0. -/
abbrev Reg.MOD_CAP_w : Fld := ⟨0x24, 0, 32⟩
/-- The whole word of register MOD_ABSENT, page 0x0. -/
abbrev Reg.MOD_ABSENT_w : Fld := ⟨0x28, 0, 32⟩
/-- The whole word of register MOD_ABSENT_ADDR, page 0x0. -/
abbrev Reg.MOD_ABSENT_ADDR_w : Fld := ⟨0x2c, 0, 32⟩
/-- MOD_MODEL.BOARD_ISSUE, [23:16], RO (R4). -/
abbrev Reg.MOD_MODEL_BOARD_ISSUE : Fld := ⟨0x20, 16, 8⟩
/-- MOD_MODEL.MODEL, [15:0], RO (R4). -/
abbrev Reg.MOD_MODEL_MODEL : Fld := ⟨0x20, 0, 16⟩
/-- MOD_CAP.TEMP_BANDS, [11], RO (R5). -/
abbrev Reg.MOD_CAP_TEMP_BANDS : Fld := ⟨0x24, 11, 1⟩
/-- MOD_CAP.GE, [10], RO (R5). -/
abbrev Reg.MOD_CAP_GE : Fld := ⟨0x24, 10, 1⟩
/-- MOD_CAP.FE1, [9], RO (R5). -/
abbrev Reg.MOD_CAP_FE1 : Fld := ⟨0x24, 9, 1⟩
/-- MOD_CAP.ANT3, [8], RO (R5). -/
abbrev Reg.MOD_CAP_ANT3 : Fld := ⟨0x24, 8, 1⟩
/-- MOD_CAP.ANT2, [7], RO (R5). -/
abbrev Reg.MOD_CAP_ANT2 : Fld := ⟨0x24, 7, 1⟩
/-- MOD_CAP.ANT1, [6], RO (R5). -/
abbrev Reg.MOD_CAP_ANT1 : Fld := ⟨0x24, 6, 1⟩
/-- MOD_CAP.SEXTANT, [5], RO (R5). -/
abbrev Reg.MOD_CAP_SEXTANT : Fld := ⟨0x24, 5, 1⟩
/-- MOD_CAP.TC_COUNT, [4:0], RO (R5). -/
abbrev Reg.MOD_CAP_TC_COUNT : Fld := ⟨0x24, 0, 5⟩
/-- MOD_ABSENT.CLR, [31], WO (R9). -/
abbrev Reg.MOD_ABSENT_CLR : Fld := ⟨0x28, 31, 1⟩
/-- MOD_ABSENT.CNT, [15:0], RO (R9). -/
abbrev Reg.MOD_ABSENT_CNT : Fld := ⟨0x28, 0, 16⟩
/-- STAT.ABSENT_SEEN, [0], RO (R610). -/
abbrev Reg.MOD_STAT_ABSENT_SEEN : Fld := ⟨0xc, 0, 1⟩
/-- FAULT.CAP_MISMATCH, [0], RO (R610). -/
abbrev Reg.MOD_FAULT_CAP_MISMATCH : Fld := ⟨0x1c, 0, 1⟩
/-- MOD_ABSENT_ADDR.ADDR, [31:0], RO (R10). -/
abbrev Reg.MOD_ABSENT_ADDR_ADDR : Fld := ⟨0x2c, 0, 32⟩
/-- The whole word of register CTRL, page 0x1. -/
abbrev Reg.LANE_CTRL_w : Fld := ⟨0x408, 0, 32⟩
/-- The whole word of register STAT, page 0x1. -/
abbrev Reg.LANE_STAT_w : Fld := ⟨0x40c, 0, 32⟩
/-- The whole word of register FAULT, page 0x1. -/
abbrev Reg.LANE_FAULT_w : Fld := ⟨0x41c, 0, 32⟩
/-- The whole word of register LANE_ENG_PRESENT, page 0x1. -/
abbrev Reg.LANE_ENG_PRESENT_w : Fld := ⟨0x420, 0, 32⟩
/-- The whole word of register LANE_ENG_HEALTHY, page 0x1. -/
abbrev Reg.LANE_ENG_HEALTHY_w : Fld := ⟨0x424, 0, 32⟩
/-- The whole word of register LANE_CE_MAP0, page 0x1. -/
abbrev Reg.LANE_CE_MAP0_w : Fld := ⟨0x428, 0, 32⟩
/-- The whole word of register LANE_CE_MAP1, page 0x1. -/
abbrev Reg.LANE_CE_MAP1_w : Fld := ⟨0x42c, 0, 32⟩
/-- The whole word of register LANE_ECC_DRAM, page 0x1. -/
abbrev Reg.LANE_ECC_DRAM_w : Fld := ⟨0x430, 0, 32⟩
/-- The whole word of register LANE_ECC_SRAM, page 0x1. -/
abbrev Reg.LANE_ECC_SRAM_w : Fld := ⟨0x434, 0, 32⟩
/-- The whole word of register LANE_ECC_MRAM, page 0x1. -/
abbrev Reg.LANE_ECC_MRAM_w : Fld := ⟨0x438, 0, 32⟩
/-- The whole word of register LANE_ECC_LAST, page 0x1. -/
abbrev Reg.LANE_ECC_LAST_w : Fld := ⟨0x43c, 0, 32⟩
/-- The whole word of register LANE_LOCKSTEP_CNT, page 0x1. -/
abbrev Reg.LANE_LOCKSTEP_CNT_w : Fld := ⟨0x440, 0, 32⟩
/-- The whole word of register LANE_XLINK_ERR, page 0x1. -/
abbrev Reg.LANE_XLINK_ERR_w : Fld := ⟨0x444, 0, 32⟩
/-- The whole word of register LANE_MIRROR_SIZE, page 0x1. -/
abbrev Reg.LANE_MIRROR_SIZE_w : Fld := ⟨0x448, 0, 32⟩
/-- CTRL.CNT_CLR, [0], WO (R54). -/
abbrev Reg.LANE_CTRL_CNT_CLR : Fld := ⟨0x408, 0, 1⟩
/-- STAT.DRIVE_HELD, [6], RO (R55). -/
abbrev Reg.LANE_STAT_DRIVE_HELD : Fld := ⟨0x40c, 6, 1⟩
/-- STAT.XL1_UP, [5], RO (R55). -/
abbrev Reg.LANE_STAT_XL1_UP : Fld := ⟨0x40c, 5, 1⟩
/-- STAT.XL0_UP, [4], RO (R55). -/
abbrev Reg.LANE_STAT_XL0_UP : Fld := ⟨0x40c, 4, 1⟩
/-- STAT.DEGRADED, [3], RO (R55). -/
abbrev Reg.LANE_STAT_DEGRADED : Fld := ⟨0x40c, 3, 1⟩
/-- STAT.REDUCED, [2], RO (R55). -/
abbrev Reg.LANE_STAT_REDUCED : Fld := ⟨0x40c, 2, 1⟩
/-- STAT.ACTIVE, [1], RO (R55). -/
abbrev Reg.LANE_STAT_ACTIVE : Fld := ⟨0x40c, 1, 1⟩
/-- STAT.LANE, [0], RO (R55). -/
abbrev Reg.LANE_STAT_LANE : Fld := ⟨0x40c, 0, 1⟩
/-- FAULT.LOCKSTEP_SAFE, [18], RO (R56). -/
abbrev Reg.LANE_FAULT_LOCKSTEP_SAFE : Fld := ⟨0x41c, 18, 1⟩
/-- FAULT.LOCKSTEP_SUP, [17], RO (R56). -/
abbrev Reg.LANE_FAULT_LOCKSTEP_SUP : Fld := ⟨0x41c, 17, 1⟩
/-- FAULT.ECC_UNCORR_SEEN, [16], RO (R56). -/
abbrev Reg.LANE_FAULT_ECC_UNCORR_SEEN : Fld := ⟨0x41c, 16, 1⟩
/-- FAULT.ENG_FAILED, [15:0], RO (R56). -/
abbrev Reg.LANE_FAULT_ENG_FAILED : Fld := ⟨0x41c, 0, 16⟩
/-- LANE_ENG_PRESENT.GE, [15], RO (R57). -/
abbrev Reg.LANE_ENG_PRESENT_GE : Fld := ⟨0x420, 15, 1⟩
/-- LANE_ENG_PRESENT.FE1, [14], RO (R57). -/
abbrev Reg.LANE_ENG_PRESENT_FE1 : Fld := ⟨0x420, 14, 1⟩
/-- LANE_ENG_PRESENT.FE0, [13], RO (R57). -/
abbrev Reg.LANE_ENG_PRESENT_FE0 : Fld := ⟨0x420, 13, 1⟩
/-- LANE_ENG_PRESENT.CE, [12:5], RO (R57). -/
abbrev Reg.LANE_ENG_PRESENT_CE : Fld := ⟨0x420, 5, 8⟩
/-- LANE_ENG_PRESENT.AE, [4], RO (R57). -/
abbrev Reg.LANE_ENG_PRESENT_AE : Fld := ⟨0x420, 4, 1⟩
/-- LANE_ENG_PRESENT.SC, [3:0], RO (R57). -/
abbrev Reg.LANE_ENG_PRESENT_SC : Fld := ⟨0x420, 0, 4⟩
/-- LANE_ENG_HEALTHY.GE, [15], RO (R57). -/
abbrev Reg.LANE_ENG_HEALTHY_GE : Fld := ⟨0x424, 15, 1⟩
/-- LANE_ENG_HEALTHY.FE1, [14], RO (R57). -/
abbrev Reg.LANE_ENG_HEALTHY_FE1 : Fld := ⟨0x424, 14, 1⟩
/-- LANE_ENG_HEALTHY.FE0, [13], RO (R57). -/
abbrev Reg.LANE_ENG_HEALTHY_FE0 : Fld := ⟨0x424, 13, 1⟩
/-- LANE_ENG_HEALTHY.CE, [12:5], RO (R57). -/
abbrev Reg.LANE_ENG_HEALTHY_CE : Fld := ⟨0x424, 5, 8⟩
/-- LANE_ENG_HEALTHY.AE, [4], RO (R57). -/
abbrev Reg.LANE_ENG_HEALTHY_AE : Fld := ⟨0x424, 4, 1⟩
/-- LANE_ENG_HEALTHY.SC, [3:0], RO (R57). -/
abbrev Reg.LANE_ENG_HEALTHY_SC : Fld := ⟨0x424, 0, 4⟩
/-- LANE_CE_MAP0.TCn_CE, [4n+3:4n], RO (R58). -/
abbrev Reg.LANE_CE_MAP0_CE (k : Nat) : Fld := ⟨0x428, 4 * k, 4⟩
/-- LANE_CE_MAP1.TCn_CE, [4n+3:4n], RO (R58). -/
abbrev Reg.LANE_CE_MAP1_CE (k : Nat) : Fld := ⟨0x42c, 4 * k, 4⟩
/-- LANE_ECC_DRAM.UNCORR, [31:16], RO (R59). -/
abbrev Reg.LANE_ECC_DRAM_UNCORR : Fld := ⟨0x430, 16, 16⟩
/-- LANE_ECC_DRAM.CORR, [15:0], RO (R59). -/
abbrev Reg.LANE_ECC_DRAM_CORR : Fld := ⟨0x430, 0, 16⟩
/-- LANE_ECC_SRAM.UNCORR, [31:16], RO (R59). -/
abbrev Reg.LANE_ECC_SRAM_UNCORR : Fld := ⟨0x434, 16, 16⟩
/-- LANE_ECC_SRAM.CORR, [15:0], RO (R59). -/
abbrev Reg.LANE_ECC_SRAM_CORR : Fld := ⟨0x434, 0, 16⟩
/-- LANE_ECC_MRAM.UNCORR, [31:16], RO (R59). -/
abbrev Reg.LANE_ECC_MRAM_UNCORR : Fld := ⟨0x438, 16, 16⟩
/-- LANE_ECC_MRAM.CORR, [15:0], RO (R59). -/
abbrev Reg.LANE_ECC_MRAM_CORR : Fld := ⟨0x438, 0, 16⟩
/-- LANE_ECC_LAST.MEM, [31:30], RO (R60). -/
abbrev Reg.LANE_ECC_LAST_MEM : Fld := ⟨0x43c, 30, 2⟩
/-- LANE_ECC_LAST.WORD, [27:0], RO (R60). -/
abbrev Reg.LANE_ECC_LAST_WORD : Fld := ⟨0x43c, 0, 28⟩
/-- LANE_LOCKSTEP_CNT.SAFE, [31:16], RO (R61). -/
abbrev Reg.LANE_LOCKSTEP_CNT_SAFE : Fld := ⟨0x440, 16, 16⟩
/-- LANE_LOCKSTEP_CNT.SUP, [15:0], RO (R61). -/
abbrev Reg.LANE_LOCKSTEP_CNT_SUP : Fld := ⟨0x440, 0, 16⟩
/-- LANE_XLINK_ERR.XL1, [31:16], RO (R61). -/
abbrev Reg.LANE_XLINK_ERR_XL1 : Fld := ⟨0x444, 16, 16⟩
/-- LANE_XLINK_ERR.XL0, [15:0], RO (R61). -/
abbrev Reg.LANE_XLINK_ERR_XL0 : Fld := ⟨0x444, 0, 16⟩
/-- LANE_MIRROR_SIZE.PEAK, [31:16], RO (R61). -/
abbrev Reg.LANE_MIRROR_SIZE_PEAK : Fld := ⟨0x448, 16, 16⟩
/-- LANE_MIRROR_SIZE.LAST, [15:0], RO (R61). -/
abbrev Reg.LANE_MIRROR_SIZE_LAST : Fld := ⟨0x448, 0, 16⟩
/-- The whole word of register CTRL, page 0x2. -/
abbrev Reg.TICK_CTRL_w : Fld := ⟨0x808, 0, 32⟩
/-- The whole word of register STAT, page 0x2. -/
abbrev Reg.TICK_STAT_w : Fld := ⟨0x80c, 0, 32⟩
/-- The whole word of register FAULT, page 0x2. -/
abbrev Reg.TICK_FAULT_w : Fld := ⟨0x81c, 0, 32⟩
/-- The whole word of register MODE_CUR, page 0x2. -/
abbrev Reg.MODE_CUR_w : Fld := ⟨0x820, 0, 32⟩
/-- The whole word of register MODE_REQ, page 0x2. -/
abbrev Reg.MODE_REQ_w : Fld := ⟨0x824, 0, 32⟩
/-- The whole word of register MODE_RESULT, page 0x2. -/
abbrev Reg.MODE_RESULT_w : Fld := ⟨0x828, 0, 32⟩
/-- The whole word of register MODE_COND, page 0x2. -/
abbrev Reg.MODE_COND_w : Fld := ⟨0x82c, 0, 32⟩
/-- The whole word of register TICK_CNT, page 0x2. -/
abbrev Reg.TICK_CNT_w : Fld := ⟨0x830, 0, 32⟩
/-- The whole word of register TICK_POS, page 0x2. -/
abbrev Reg.TICK_POS_w : Fld := ⟨0x834, 0, 32⟩
/-- The whole word of register FRAME_CNT, page 0x2. -/
abbrev Reg.FRAME_CNT_w : Fld := ⟨0x838, 0, 32⟩
/-- The whole word of register TICK_MARGIN, page 0x2. -/
abbrev Reg.TICK_MARGIN_w : Fld := ⟨0x83c, 0, 32⟩
/-- The whole word of register BOOT_CAUSE, page 0x2. -/
abbrev Reg.BOOT_CAUSE_w : Fld := ⟨0x840, 0, 32⟩
/-- The whole word of register BOOT_TIME, page 0x2. -/
abbrev Reg.BOOT_TIME_w : Fld := ⟨0x844, 0, 32⟩
/-- The whole word of register SCHED_SEC_LO, page 0x2. -/
abbrev Reg.SCHED_SEC_LO_w : Fld := ⟨0x848, 0, 32⟩
/-- The whole word of register SCHED_SEC_HI, page 0x2. -/
abbrev Reg.SCHED_SEC_HI_w : Fld := ⟨0x84c, 0, 32⟩
/-- The whole word of register SCHED_NS, page 0x2. -/
abbrev Reg.SCHED_NS_w : Fld := ⟨0x850, 0, 32⟩
/-- The whole word of register SCHED_ADDR, page 0x2. -/
abbrev Reg.SCHED_ADDR_w : Fld := ⟨0x854, 0, 32⟩
/-- The whole word of register SCHED_DATA, page 0x2. -/
abbrev Reg.SCHED_DATA_w : Fld := ⟨0x858, 0, 32⟩
/-- The whole word of register SCHED_CMD, page 0x2. -/
abbrev Reg.SCHED_CMD_w : Fld := ⟨0x85c, 0, 32⟩
/-- The whole word of register SCHED_STAT, page 0x2. -/
abbrev Reg.SCHED_STAT_w : Fld := ⟨0x860, 0, 32⟩
/-- The whole word of register SCHED_LIMIT, page 0x2. -/
abbrev Reg.SCHED_LIMIT_w : Fld := ⟨0x864, 0, 32⟩
/-- CTRL.SCHED_FLUSH, [1], WO (R108). -/
abbrev Reg.TICK_CTRL_SCHED_FLUSH : Fld := ⟨0x808, 1, 1⟩
/-- CTRL.CNT_CLR, [0], WO (R108). -/
abbrev Reg.TICK_CTRL_CNT_CLR : Fld := ⟨0x808, 0, 1⟩
/-- STAT.COASTING, [4], RO (R108). -/
abbrev Reg.TICK_STAT_COASTING : Fld := ⟨0x80c, 4, 1⟩
/-- STAT.REALIGN, [3], RO (R108). -/
abbrev Reg.TICK_STAT_REALIGN : Fld := ⟨0x80c, 3, 1⟩
/-- STAT.SCHED_FULL, [2], RO (R108). -/
abbrev Reg.TICK_STAT_SCHED_FULL : Fld := ⟨0x80c, 2, 1⟩
/-- STAT.LUBBER, [1], RO (R108). -/
abbrev Reg.TICK_STAT_LUBBER : Fld := ⟨0x80c, 1, 1⟩
/-- STAT.FUSION_VALID, [0], RO (R108). -/
abbrev Reg.TICK_STAT_FUSION_VALID : Fld := ⟨0x80c, 0, 1⟩
/-- FAULT.START_FAILED, [1], RO (R108). -/
abbrev Reg.TICK_FAULT_START_FAILED : Fld := ⟨0x81c, 1, 1⟩
/-- FAULT.FRAME_ESCALATED, [0], RO (R108). -/
abbrev Reg.TICK_FAULT_FRAME_ESCALATED : Fld := ⟨0x81c, 0, 1⟩
/-- MODE_CUR.ESTOP_ANY, [24], RO (R109). -/
abbrev Reg.MODE_CUR_ESTOP_ANY : Fld := ⟨0x820, 24, 1⟩
/-- MODE_CUR.ESTOP_SO, [23:16], RO (R109). -/
abbrev Reg.MODE_CUR_ESTOP_SO : Fld := ⟨0x820, 16, 8⟩
/-- MODE_CUR.LATE, [9], RO (R109). -/
abbrev Reg.MODE_CUR_LATE : Fld := ⟨0x820, 9, 1⟩
/-- MODE_CUR.BLENDING, [8], RO (R109). -/
abbrev Reg.MODE_CUR_BLENDING : Fld := ⟨0x820, 8, 1⟩
/-- MODE_CUR.PREV, [7:4], RO (R109). -/
abbrev Reg.MODE_CUR_PREV : Fld := ⟨0x820, 4, 4⟩
/-- MODE_CUR.MODE, [3:0], RO (R109). -/
abbrev Reg.MODE_CUR_MODE : Fld := ⟨0x820, 0, 4⟩
/-- MODE_REQ.GO, [31], WO (R109). -/
abbrev Reg.MODE_REQ_GO : Fld := ⟨0x824, 31, 1⟩
/-- MODE_REQ.TAG, [15:8], RW (R109). -/
abbrev Reg.MODE_REQ_TAG : Fld := ⟨0x824, 8, 8⟩
/-- MODE_REQ.MODE, [3:0], RW (R109). -/
abbrev Reg.MODE_REQ_MODE : Fld := ⟨0x824, 0, 4⟩
/-- MODE_RESULT.COND_SNAP, [31:16], RO (R109). -/
abbrev Reg.MODE_RESULT_COND_SNAP : Fld := ⟨0x828, 16, 16⟩
/-- MODE_RESULT.TAG, [15:8], RO (R109). -/
abbrev Reg.MODE_RESULT_TAG : Fld := ⟨0x828, 8, 8⟩
/-- MODE_RESULT.CODE, [7:0], RO (R109). -/
abbrev Reg.MODE_RESULT_CODE : Fld := ⟨0x828, 0, 8⟩
/-- MODE_COND.COND, [15:0], RO (R109). -/
abbrev Reg.MODE_COND_COND : Fld := ⟨0x82c, 0, 16⟩
/-- TICK_CNT.COUNT, [31:0], RO (R110). -/
abbrev Reg.TICK_CNT_COUNT : Fld := ⟨0x830, 0, 32⟩
/-- TICK_POS.STRETCHED, [17], RO (R110). -/
abbrev Reg.TICK_POS_STRETCHED : Fld := ⟨0x834, 17, 1⟩
/-- TICK_POS.REALIGN, [16], RO (R110). -/
abbrev Reg.TICK_POS_REALIGN : Fld := ⟨0x834, 16, 1⟩
/-- TICK_POS.TICK, [9:0], RO (R110). -/
abbrev Reg.TICK_POS_TICK : Fld := ⟨0x834, 0, 10⟩
/-- FRAME_CNT.TOTAL, [31:16], RO (R110). -/
abbrev Reg.FRAME_CNT_TOTAL : Fld := ⟨0x838, 16, 16⟩
/-- FRAME_CNT.WINDOW, [15:8], RO (R110). -/
abbrev Reg.FRAME_CNT_WINDOW : Fld := ⟨0x838, 8, 8⟩
/-- FRAME_CNT.CONSEC, [7:0], RO (R110). -/
abbrev Reg.FRAME_CNT_CONSEC : Fld := ⟨0x838, 0, 8⟩
/-- TICK_MARGIN.ENGINE, [31:28], RO (R110). -/
abbrev Reg.TICK_MARGIN_ENGINE : Fld := ⟨0x83c, 28, 4⟩
/-- TICK_MARGIN.MARGIN, [15:0], RO (R110). -/
abbrev Reg.TICK_MARGIN_MARGIN : Fld := ⟨0x83c, 0, 16⟩
/-- BOOT_CAUSE.COUNT, [27:24], RO (R110). -/
abbrev Reg.BOOT_CAUSE_COUNT : Fld := ⟨0x840, 24, 4⟩
/-- BOOT_CAUSE.LAST_FAIL, [23:16], RO (R110). -/
abbrev Reg.BOOT_CAUSE_LAST_FAIL : Fld := ⟨0x840, 16, 8⟩
/-- BOOT_CAUSE.LUBBER, [15:8], RO (R110). -/
abbrev Reg.BOOT_CAUSE_LUBBER : Fld := ⟨0x840, 8, 8⟩
/-- BOOT_CAUSE.CAUSE, [7:0], RO (R110). -/
abbrev Reg.BOOT_CAUSE_CAUSE : Fld := ⟨0x840, 0, 8⟩
/-- BOOT_TIME.MS, [15:0], RO (R110). -/
abbrev Reg.BOOT_TIME_MS : Fld := ⟨0x844, 0, 16⟩
/-- SCHED_SEC_LO.SEC, [31:0], RW (R111). -/
abbrev Reg.SCHED_SEC_LO_SEC : Fld := ⟨0x848, 0, 32⟩
/-- SCHED_SEC_HI.SEC, [15:0], RW (R111). -/
abbrev Reg.SCHED_SEC_HI_SEC : Fld := ⟨0x84c, 0, 16⟩
/-- SCHED_NS.NS, [29:0], RW (R111). -/
abbrev Reg.SCHED_NS_NS : Fld := ⟨0x850, 0, 30⟩
/-- SCHED_ADDR.ADDR, [31:0], RW (R111). -/
abbrev Reg.SCHED_ADDR_ADDR : Fld := ⟨0x854, 0, 32⟩
/-- SCHED_DATA.DATA, [31:0], RW (R111). -/
abbrev Reg.SCHED_DATA_DATA : Fld := ⟨0x858, 0, 32⟩
/-- SCHED_CMD.GO, [31], WO (R111). -/
abbrev Reg.SCHED_CMD_GO : Fld := ⟨0x85c, 31, 1⟩
/-- SCHED_CMD.TAG, [15:8], RW (R111). -/
abbrev Reg.SCHED_CMD_TAG : Fld := ⟨0x85c, 8, 8⟩
/-- SCHED_CMD.KIND, [0], RW (R111). -/
abbrev Reg.SCHED_CMD_KIND : Fld := ⟨0x85c, 0, 1⟩
/-- SCHED_STAT.QUEUED, [21:16], RO (R111). -/
abbrev Reg.SCHED_STAT_QUEUED : Fld := ⟨0x860, 16, 6⟩
/-- SCHED_STAT.OUTCOME, [15:8], RO (R111). -/
abbrev Reg.SCHED_STAT_OUTCOME : Fld := ⟨0x860, 8, 8⟩
/-- SCHED_STAT.TAG, [7:0], RO (R111). -/
abbrev Reg.SCHED_STAT_TAG : Fld := ⟨0x860, 0, 8⟩
/-- SCHED_LIMIT.MS, [15:0], RW (R111). -/
abbrev Reg.SCHED_LIMIT_MS : Fld := ⟨0x864, 0, 16⟩
/-- The whole word of register CTRL, page 0x4. -/
abbrev Reg.CLK_CTRL_w : Fld := ⟨0x1008, 0, 32⟩
/-- The whole word of register STAT, page 0x4. -/
abbrev Reg.CLK_STAT_w : Fld := ⟨0x100c, 0, 32⟩
/-- The whole word of register FAULT, page 0x4. -/
abbrev Reg.CLK_FAULT_w : Fld := ⟨0x101c, 0, 32⟩
/-- The whole word of register CLK_REF, page 0x4. -/
abbrev Reg.CLK_REF_w (i : Nat) : Fld := ⟨0x1020 + 0x4 * i, 0, 32⟩
/-- The whole word of register CLK_REF_REL, page 0x4. -/
abbrev Reg.CLK_REF_REL_w : Fld := ⟨0x1028, 0, 32⟩
/-- The whole word of register CLK_PLL, page 0x4. -/
abbrev Reg.CLK_PLL_w : Fld := ⟨0x102c, 0, 32⟩
/-- The whole word of register CLK_DOMAIN, page 0x4. -/
abbrev Reg.CLK_DOMAIN_w : Fld := ⟨0x1030, 0, 32⟩
/-- The whole word of register CLK_GATE0, page 0x4. -/
abbrev Reg.CLK_GATE0_w : Fld := ⟨0x1034, 0, 32⟩
/-- The whole word of register CLK_GATE1, page 0x4. -/
abbrev Reg.CLK_GATE1_w : Fld := ⟨0x1038, 0, 32⟩
/-- The whole word of register CLK_FORCED, page 0x4. -/
abbrev Reg.CLK_FORCED_w : Fld := ⟨0x103c, 0, 32⟩
/-- The whole word of register CLK_CNT, page 0x4. -/
abbrev Reg.CLK_CNT_w : Fld := ⟨0x1040, 0, 32⟩
/-- The whole word of register CLK_COAST_LAST, page 0x4. -/
abbrev Reg.CLK_COAST_LAST_w : Fld := ⟨0x1044, 0, 32⟩
/-- The whole word of register CLK_FLOOR, page 0x4. -/
abbrev Reg.CLK_FLOOR_w : Fld := ⟨0x1048, 0, 32⟩
/-- The whole word of register CLK_CMD, page 0x4. -/
abbrev Reg.CLK_CMD_w : Fld := ⟨0x104c, 0, 32⟩
/-- CTRL.CNT_CLR, [0], WO (R559). -/
abbrev Reg.CLK_CTRL_CNT_CLR : Fld := ⟨0x1008, 0, 1⟩
/-- STAT.SINGLE_REF, [2], RO (R559). -/
abbrev Reg.CLK_STAT_SINGLE_REF : Fld := ⟨0x100c, 2, 1⟩
/-- STAT.COAST, [1], RO (R559). -/
abbrev Reg.CLK_STAT_COAST : Fld := ⟨0x100c, 1, 1⟩
/-- STAT.LOCKED, [0], RO (R559). -/
abbrev Reg.CLK_STAT_LOCKED : Fld := ⟨0x100c, 0, 1⟩
/-- FAULT.FORCED, [1], RO (R559). -/
abbrev Reg.CLK_FAULT_FORCED : Fld := ⟨0x101c, 1, 1⟩
/-- FAULT.COASTED, [0], RO (R559). -/
abbrev Reg.CLK_FAULT_COASTED : Fld := ⟨0x101c, 0, 1⟩
/-- CLK_REF.STATE, [31:30], RO (R560). -/
abbrev Reg.CLK_REF_STATE (i : Nat) : Fld := ⟨0x1020 + 0x4 * i, 30, 2⟩
/-- CLK_REF.DET, [29:28], RO (R560). -/
abbrev Reg.CLK_REF_DET (i : Nat) : Fld := ⟨0x1020 + 0x4 * i, 28, 2⟩
/-- CLK_REF.SELECTED, [27], RO (R560). -/
abbrev Reg.CLK_REF_SELECTED (i : Nat) : Fld := ⟨0x1020 + 0x4 * i, 27, 1⟩
/-- CLK_REF.CAUSE, [26:24], RO (R560). -/
abbrev Reg.CLK_REF_CAUSE (i : Nat) : Fld := ⟨0x1020 + 0x4 * i, 24, 3⟩
/-- CLK_REF.QUAL, [11:0], RO (R560). -/
abbrev Reg.CLK_REF_QUAL (i : Nat) : Fld := ⟨0x1020 + 0x4 * i, 0, 12⟩
/-- CLK_REF_REL.PPB, [31:0], RO (R560). -/
abbrev Reg.CLK_REF_REL_PPB : Fld := ⟨0x1028, 0, 32⟩
/-- CLK_PLL.INPUT, [4], RO (R560). -/
abbrev Reg.CLK_PLL_INPUT : Fld := ⟨0x102c, 4, 1⟩
/-- CLK_PLL.STATE, [2:0], RO (R560). -/
abbrev Reg.CLK_PLL_STATE : Fld := ⟨0x102c, 0, 3⟩
/-- CLK_DOMAIN.FLOOR, [15:8], RO (R560). -/
abbrev Reg.CLK_DOMAIN_FLOOR : Fld := ⟨0x1030, 8, 8⟩
/-- CLK_DOMAIN.RUN, [7:0], RO (R560). -/
abbrev Reg.CLK_DOMAIN_RUN : Fld := ⟨0x1030, 0, 8⟩
/-- CLK_GATE0.MASK, [31:0], RO (R560). -/
abbrev Reg.CLK_GATE0_MASK : Fld := ⟨0x1034, 0, 32⟩
/-- CLK_GATE1.MASK, [25:0], RO (R560). -/
abbrev Reg.CLK_GATE1_MASK : Fld := ⟨0x1038, 0, 26⟩
/-- CLK_FORCED.COUNT, [31:16], RO (R560). -/
abbrev Reg.CLK_FORCED_COUNT : Fld := ⟨0x103c, 16, 16⟩
/-- CLK_FORCED.BLOCK, [7:0], RO (R560). -/
abbrev Reg.CLK_FORCED_BLOCK : Fld := ⟨0x103c, 0, 8⟩
/-- CLK_CNT.TRIPS, [31:24], RO (R560). -/
abbrev Reg.CLK_CNT_TRIPS : Fld := ⟨0x1040, 24, 8⟩
/-- CLK_CNT.SWITCHES, [23:16], RO (R560). -/
abbrev Reg.CLK_CNT_SWITCHES : Fld := ⟨0x1040, 16, 8⟩
/-- CLK_CNT.COASTS, [15:8], RO (R560). -/
abbrev Reg.CLK_CNT_COASTS : Fld := ⟨0x1040, 8, 8⟩
/-- CLK_CNT.ABORTS, [7:0], RO (R560). -/
abbrev Reg.CLK_CNT_ABORTS : Fld := ⟨0x1040, 0, 8⟩
/-- CLK_COAST_LAST.US, [31:0], RO (R560). -/
abbrev Reg.CLK_COAST_LAST_US : Fld := ⟨0x1044, 0, 32⟩
/-- CLK_FLOOR.MHZ, [15:0], RO (R560). -/
abbrev Reg.CLK_FLOOR_MHZ : Fld := ⟨0x1048, 0, 16⟩
/-- CLK_CMD.GO, [31], WO (R560). -/
abbrev Reg.CLK_CMD_GO : Fld := ⟨0x104c, 31, 1⟩
/-- CLK_CMD.RESULT, [23:16], RO (R560). -/
abbrev Reg.CLK_CMD_RESULT : Fld := ⟨0x104c, 16, 8⟩
/-- CLK_CMD.TAG, [15:8], RW (R560). -/
abbrev Reg.CLK_CMD_TAG : Fld := ⟨0x104c, 8, 8⟩
/-- CLK_CMD.CMD, [3:0], RW (R560). -/
abbrev Reg.CLK_CMD_CMD : Fld := ⟨0x104c, 0, 4⟩
/-- The whole word of register CTRL, page 0x5. -/
abbrev Reg.PWR_CTRL_w : Fld := ⟨0x1408, 0, 32⟩
/-- The whole word of register STAT, page 0x5. -/
abbrev Reg.PWR_STAT_w : Fld := ⟨0x140c, 0, 32⟩
/-- The whole word of register FAULT, page 0x5. -/
abbrev Reg.PWR_FAULT_w : Fld := ⟨0x141c, 0, 32⟩
/-- The whole word of register PWR_IN, page 0x5. -/
abbrev Reg.PWR_IN_w (i : Nat) : Fld := ⟨0x1420 + 0x4 * i, 0, 32⟩
/-- The whole word of register PWR_LANE, page 0x5. -/
abbrev Reg.PWR_LANE_w : Fld := ⟨0x142c, 0, 32⟩
/-- The whole word of register PWR_ORDER, page 0x5. -/
abbrev Reg.PWR_ORDER_w : Fld := ⟨0x1430, 0, 32⟩
/-- The whole word of register THERM_STATE, page 0x5. -/
abbrev Reg.THERM_STATE_w : Fld := ⟨0x1434, 0, 32⟩
/-- The whole word of register THERM_WINDOW, page 0x5. -/
abbrev Reg.THERM_WINDOW_w : Fld := ⟨0x1438, 0, 32⟩
/-- The whole word of register THERM_BAND, page 0x5. -/
abbrev Reg.THERM_BAND_w : Fld := ⟨0x143c, 0, 32⟩
/-- The whole word of register THERM_LIFE, page 0x5. -/
abbrev Reg.THERM_LIFE_w : Fld := ⟨0x1440, 0, 32⟩
/-- The whole word of register THERM_RETIRE, page 0x5. -/
abbrev Reg.THERM_RETIRE_w : Fld := ⟨0x1444, 0, 32⟩
/-- The whole word of register THERM_T, page 0x5. -/
abbrev Reg.THERM_T_w (i : Nat) : Fld := ⟨0x1480 + 0x8 * i, 0, 32⟩
/-- The whole word of register THERM_RATE, page 0x5. -/
abbrev Reg.THERM_RATE_w (i : Nat) : Fld := ⟨0x1484 + 0x8 * i, 0, 32⟩
/-- CTRL.CNT_CLR, [0], WO (R583). -/
abbrev Reg.PWR_CTRL_CNT_CLR : Fld := ⟨0x1408, 0, 1⟩
/-- STAT.ENFORCE, [4], RO (R583). -/
abbrev Reg.PWR_STAT_ENFORCE : Fld := ⟨0x140c, 4, 1⟩
/-- STAT.REQUEST, [3], RO (R583). -/
abbrev Reg.PWR_STAT_REQUEST : Fld := ⟨0x140c, 3, 1⟩
/-- STAT.WINDOW_OPEN, [2], RO (R583). -/
abbrev Reg.PWR_STAT_WINDOW_OPEN : Fld := ⟨0x140c, 2, 1⟩
/-- STAT.SUPPLY_OK, [1], RO (R583). -/
abbrev Reg.PWR_STAT_SUPPLY_OK : Fld := ⟨0x140c, 1, 1⟩
/-- FAULT.CRIT_SEEN, [3], RO (R583). -/
abbrev Reg.PWR_FAULT_CRIT_SEEN : Fld := ⟨0x141c, 3, 1⟩
/-- FAULT.SENSOR_FAULT, [2], RO (R583). -/
abbrev Reg.PWR_FAULT_SENSOR_FAULT : Fld := ⟨0x141c, 2, 1⟩
/-- FAULT.ORDER, [1], RO (R583). -/
abbrev Reg.PWR_FAULT_ORDER : Fld := ⟨0x141c, 1, 1⟩
/-- FAULT.SUPPLY_LOST, [0], RO (R583). -/
abbrev Reg.PWR_FAULT_SUPPLY_LOST : Fld := ⟨0x141c, 0, 1⟩
/-- PWR_IN.STATE, [31:30], RO (R584). -/
abbrev Reg.PWR_IN_STATE (i : Nat) : Fld := ⟨0x1420 + 0x4 * i, 30, 2⟩
/-- PWR_IN.REVERSED, [29], RO (R584). -/
abbrev Reg.PWR_IN_REVERSED (i : Nat) : Fld := ⟨0x1420 + 0x4 * i, 29, 1⟩
/-- PWR_IN.CURRENT, [28:16], RO (R584). -/
abbrev Reg.PWR_IN_CURRENT (i : Nat) : Fld := ⟨0x1420 + 0x4 * i, 16, 13⟩
/-- PWR_IN.VOLTS, [15:0], RO (R584). -/
abbrev Reg.PWR_IN_VOLTS (i : Nat) : Fld := ⟨0x1420 + 0x4 * i, 0, 16⟩
/-- PWR_LANE.POWER, [15:0], RO (R584). -/
abbrev Reg.PWR_LANE_POWER : Fld := ⟨0x142c, 0, 16⟩
/-- PWR_ORDER.COUNT, [31:16], RO (R584). -/
abbrev Reg.PWR_ORDER_COUNT : Fld := ⟨0x1430, 16, 16⟩
/-- PWR_ORDER.LAST, [7:4], RO (R584). -/
abbrev Reg.PWR_ORDER_LAST : Fld := ⟨0x1430, 4, 4⟩
/-- PWR_ORDER.ANA_HELD, [1], RO (R584). -/
abbrev Reg.PWR_ORDER_ANA_HELD : Fld := ⟨0x1430, 1, 1⟩
/-- PWR_ORDER.FIELD_HELD, [0], RO (R584). -/
abbrev Reg.PWR_ORDER_FIELD_HELD : Fld := ⟨0x1430, 0, 1⟩
/-- THERM_STATE.LEVEL, [31:30], RO (R584). -/
abbrev Reg.THERM_STATE_LEVEL : Fld := ⟨0x1434, 30, 2⟩
/-- THERM_STATE.CRIT, [29], RO (R584). -/
abbrev Reg.THERM_STATE_CRIT : Fld := ⟨0x1434, 29, 1⟩
/-- THERM_STATE.SUBST, [28], RO (R584). -/
abbrev Reg.THERM_STATE_SUBST : Fld := ⟨0x1434, 28, 1⟩
/-- THERM_STATE.FAST, [27], RO (R584). -/
abbrev Reg.THERM_STATE_FAST : Fld := ⟨0x1434, 27, 1⟩
/-- THERM_STATE.HOT, [19:16], RO (R584). -/
abbrev Reg.THERM_STATE_HOT : Fld := ⟨0x1434, 16, 4⟩
/-- THERM_STATE.GRACE_REMAIN, [15:0], RO (R584). -/
abbrev Reg.THERM_STATE_GRACE_REMAIN : Fld := ⟨0x1434, 0, 16⟩
/-- THERM_WINDOW.OPEN, [31], RO (R584). -/
abbrev Reg.THERM_WINDOW_OPEN : Fld := ⟨0x1438, 31, 1⟩
/-- THERM_WINDOW.COLD, [30], RO (R584). -/
abbrev Reg.THERM_WINDOW_COLD : Fld := ⟨0x1438, 30, 1⟩
/-- THERM_WINDOW.HOT, [29], RO (R584). -/
abbrev Reg.THERM_WINDOW_HOT : Fld := ⟨0x1438, 29, 1⟩
/-- THERM_WINDOW.PENDING, [15:8], RO (R584). -/
abbrev Reg.THERM_WINDOW_PENDING : Fld := ⟨0x1438, 8, 8⟩
/-- THERM_WINDOW.CLOSURES, [7:0], RO (R584). -/
abbrev Reg.THERM_WINDOW_CLOSURES : Fld := ⟨0x1438, 0, 8⟩
/-- THERM_BAND.ADC, [5:4], RO (R584). -/
abbrev Reg.THERM_BAND_ADC : Fld := ⟨0x143c, 4, 2⟩
/-- THERM_BAND.SERDES, [3:2], RO (R584). -/
abbrev Reg.THERM_BAND_SERDES : Fld := ⟨0x143c, 2, 2⟩
/-- THERM_BAND.DRAM, [1:0], RO (R584). -/
abbrev Reg.THERM_BAND_DRAM : Fld := ⟨0x143c, 0, 2⟩
/-- THERM_LIFE.HOURS, [31:16], RO (R584). -/
abbrev Reg.THERM_LIFE_HOURS : Fld := ⟨0x1440, 16, 16⟩
/-- THERM_LIFE.MEAN, [15:0], RO (R584). -/
abbrev Reg.THERM_LIFE_MEAN : Fld := ⟨0x1440, 0, 16⟩
/-- THERM_RETIRE.MASK, [11:0], RW (R584). -/
abbrev Reg.THERM_RETIRE_MASK : Fld := ⟨0x1444, 0, 12⟩
/-- THERM_T.STATE, [31:28], RO (R584). -/
abbrev Reg.THERM_T_STATE (i : Nat) : Fld := ⟨0x1480 + 0x8 * i, 28, 4⟩
/-- THERM_T.ZONE, [27:24], RO (R584). -/
abbrev Reg.THERM_T_ZONE (i : Nat) : Fld := ⟨0x1480 + 0x8 * i, 24, 4⟩
/-- THERM_T.CRIT, [19], RO (R584). -/
abbrev Reg.THERM_T_CRIT (i : Nat) : Fld := ⟨0x1480 + 0x8 * i, 19, 1⟩
/-- THERM_T.REQ, [18], RO (R584). -/
abbrev Reg.THERM_T_REQ (i : Nat) : Fld := ⟨0x1480 + 0x8 * i, 18, 1⟩
/-- THERM_T.TEMP, [15:0], RO (R584). -/
abbrev Reg.THERM_T_TEMP (i : Nat) : Fld := ⟨0x1480 + 0x8 * i, 0, 16⟩
/-- THERM_RATE.RATE_OK, [16], RO (R584). -/
abbrev Reg.THERM_RATE_RATE_OK (i : Nat) : Fld := ⟨0x1484 + 0x8 * i, 16, 1⟩
/-- THERM_RATE.RATE, [15:0], RO (R584). -/
abbrev Reg.THERM_RATE_RATE (i : Nat) : Fld := ⟨0x1484 + 0x8 * i, 0, 16⟩
/-- The whole word of register CTRL, page 0x60. -/
abbrev Reg.RED_CTRL_w : Fld := ⟨0x18008, 0, 32⟩
/-- The whole word of register STAT, page 0x60. -/
abbrev Reg.RED_STAT_w : Fld := ⟨0x1800c, 0, 32⟩
/-- The whole word of register FAULT, page 0x60. -/
abbrev Reg.RED_FAULT_w : Fld := ⟨0x1801c, 0, 32⟩
/-- The whole word of register RED_ROLE, page 0x60. -/
abbrev Reg.RED_ROLE_w : Fld := ⟨0x18020, 0, 32⟩
/-- The whole word of register RED_ABLE, page 0x60. -/
abbrev Reg.RED_ABLE_w : Fld := ⟨0x18024, 0, 32⟩
/-- The whole word of register RED_PEER, page 0x60. -/
abbrev Reg.RED_PEER_w : Fld := ⟨0x18028, 0, 32⟩
/-- The whole word of register RED_COUNT, page 0x60. -/
abbrev Reg.RED_COUNT_w : Fld := ⟨0x1802c, 0, 32⟩
/-- The whole word of register RED_LAST, page 0x60. -/
abbrev Reg.RED_LAST_w : Fld := ⟨0x18030, 0, 32⟩
/-- The whole word of register RED_TB, page 0x60. -/
abbrev Reg.RED_TB_w : Fld := ⟨0x18034, 0, 32⟩
/-- The whole word of register RED_CMD, page 0x60. -/
abbrev Reg.RED_CMD_w : Fld := ⟨0x18038, 0, 32⟩
/-- The whole word of register RED_ARG, page 0x60. -/
abbrev Reg.RED_ARG_w : Fld := ⟨0x1803c, 0, 32⟩
/-- The whole word of register RED_SKEW, page 0x60. -/
abbrev Reg.RED_SKEW_w : Fld := ⟨0x18040, 0, 32⟩
/-- The whole word of register RED_MISMATCH, page 0x60. -/
abbrev Reg.RED_MISMATCH_w : Fld := ⟨0x18044, 0, 32⟩
/-- The whole word of register RED_RESYNC, page 0x60. -/
abbrev Reg.RED_RESYNC_w : Fld := ⟨0x18048, 0, 32⟩
/-- The whole word of register RED_FW_STAT, page 0x60. -/
abbrev Reg.RED_FW_STAT_w : Fld := ⟨0x1804c, 0, 32⟩
/-- The whole word of register RED_FW_OFS, page 0x60. -/
abbrev Reg.RED_FW_OFS_w : Fld := ⟨0x18050, 0, 32⟩
/-- The whole word of register RED_TB_SUSP, page 0x60. -/
abbrev Reg.RED_TB_SUSP_w : Fld := ⟨0x18054, 0, 32⟩
/-- The whole word of register RED_FW_DATA, page 0x60. -/
abbrev Reg.RED_FW_DATA_w (i : Nat) : Fld := ⟨0x18100 + 0x4 * i, 0, 32⟩
/-- CTRL.CNT_CLR, [0], WO (R473). -/
abbrev Reg.RED_CTRL_CNT_CLR : Fld := ⟨0x18008, 0, 1⟩
/-- STAT.RESYNC, [4], RO (R473). -/
abbrev Reg.RED_STAT_RESYNC : Fld := ⟨0x1800c, 4, 1⟩
/-- STAT.TB_SUSPENDED, [3], RO (R473). -/
abbrev Reg.RED_STAT_TB_SUSPENDED : Fld := ⟨0x1800c, 3, 1⟩
/-- STAT.ARMED, [2], RO (R473). -/
abbrev Reg.RED_STAT_ARMED : Fld := ⟨0x1800c, 2, 1⟩
/-- STAT.ABLE, [1], RO (R473). -/
abbrev Reg.RED_STAT_ABLE : Fld := ⟨0x1800c, 1, 1⟩
/-- STAT.ACTIVE, [0], RO (R473). -/
abbrev Reg.RED_STAT_ACTIVE : Fld := ⟨0x1800c, 0, 1⟩
/-- FAULT.DUAL_COAST, [2], RO (R473). -/
abbrev Reg.RED_FAULT_DUAL_COAST : Fld := ⟨0x1801c, 2, 1⟩
/-- FAULT.COLD, [1], RO (R473). -/
abbrev Reg.RED_FAULT_COLD : Fld := ⟨0x1801c, 1, 1⟩
/-- FAULT.DISAGREE_SEEN, [0], RO (R473). -/
abbrev Reg.RED_FAULT_DISAGREE_SEEN : Fld := ⟨0x1801c, 0, 1⟩
/-- RED_ROLE.FMT, [31:24], RO (R474). -/
abbrev Reg.RED_ROLE_FMT : Fld := ⟨0x18020, 24, 8⟩
/-- RED_ROLE.HOLDER, [19:18], RO (R474). -/
abbrev Reg.RED_ROLE_HOLDER : Fld := ⟨0x18020, 18, 2⟩
/-- RED_ROLE.PEER_DRIVE, [17], RO (R474). -/
abbrev Reg.RED_ROLE_PEER_DRIVE : Fld := ⟨0x18020, 17, 1⟩
/-- RED_ROLE.PREFERRED, [16], RO (R474). -/
abbrev Reg.RED_ROLE_PREFERRED : Fld := ⟨0x18020, 16, 1⟩
/-- RED_ROLE.PEER_ROLE, [11:8], RO (R474). -/
abbrev Reg.RED_ROLE_PEER_ROLE : Fld := ⟨0x18020, 8, 4⟩
/-- RED_ROLE.ROLE, [3:0], RO (R474). -/
abbrev Reg.RED_ROLE_ROLE : Fld := ⟨0x18020, 0, 4⟩
/-- RED_ABLE.ABLE, [31], RO (R474). -/
abbrev Reg.RED_ABLE_ABLE : Fld := ⟨0x18024, 31, 1⟩
/-- RED_ABLE.ARMED, [30], RO (R474). -/
abbrev Reg.RED_ABLE_ARMED : Fld := ⟨0x18024, 30, 1⟩
/-- RED_ABLE.NOT_ABLE, [11:0], RO (R474). -/
abbrev Reg.RED_ABLE_NOT_ABLE : Fld := ⟨0x18024, 0, 12⟩
/-- RED_PEER.MODE, [31:28], RO (R474). -/
abbrev Reg.RED_PEER_MODE : Fld := ⟨0x18028, 28, 4⟩
/-- RED_PEER.ROLE, [27:24], RO (R474). -/
abbrev Reg.RED_PEER_ROLE : Fld := ⟨0x18028, 24, 4⟩
/-- RED_PEER.ABLE, [23], RO (R474). -/
abbrev Reg.RED_PEER_ABLE : Fld := ⟨0x18028, 23, 1⟩
/-- RED_PEER.ARMED, [22], RO (R474). -/
abbrev Reg.RED_PEER_ARMED : Fld := ⟨0x18028, 22, 1⟩
/-- RED_PEER.DEGRADED, [21], RO (R474). -/
abbrev Reg.RED_PEER_DEGRADED : Fld := ⟨0x18028, 21, 1⟩
/-- RED_PEER.COASTING, [20], RO (R474). -/
abbrev Reg.RED_PEER_COASTING : Fld := ⟨0x18028, 20, 1⟩
/-- RED_PEER.TB_REQ, [19], RO (R474). -/
abbrev Reg.RED_PEER_TB_REQ : Fld := ⟨0x18028, 19, 1⟩
/-- RED_PEER.AGE, [15:0], RO (R474). -/
abbrev Reg.RED_PEER_AGE : Fld := ⟨0x18028, 0, 16⟩
/-- RED_COUNT.TAKEOVER, [31:24], RO (R474). -/
abbrev Reg.RED_COUNT_TAKEOVER : Fld := ⟨0x1802c, 24, 8⟩
/-- RED_COUNT.TAKEBACK, [23:16], RO (R474). -/
abbrev Reg.RED_COUNT_TAKEBACK : Fld := ⟨0x1802c, 16, 8⟩
/-- RED_COUNT.SWITCHOVER, [15:8], RO (R474). -/
abbrev Reg.RED_COUNT_SWITCHOVER : Fld := ⟨0x1802c, 8, 8⟩
/-- RED_COUNT.COLD, [7:0], RO (R474). -/
abbrev Reg.RED_COUNT_COLD : Fld := ⟨0x1802c, 0, 8⟩
/-- RED_LAST.GAP, [31:16], RO (R474). -/
abbrev Reg.RED_LAST_GAP : Fld := ⟨0x18030, 16, 16⟩
/-- RED_LAST.CAUSE, [7:0], RO (R474). -/
abbrev Reg.RED_LAST_CAUSE : Fld := ⟨0x18030, 0, 8⟩
/-- RED_TB.REMAIN, [31:16], RO (R474). -/
abbrev Reg.RED_TB_REMAIN : Fld := ⟨0x18034, 16, 16⟩
/-- RED_TB.HOLDOFF, [15:0], RO (R474). -/
abbrev Reg.RED_TB_HOLDOFF : Fld := ⟨0x18034, 0, 16⟩
/-- RED_CMD.GO, [31], WO (R474). -/
abbrev Reg.RED_CMD_GO : Fld := ⟨0x18038, 31, 1⟩
/-- RED_CMD.RESULT, [23:16], RO (R474). -/
abbrev Reg.RED_CMD_RESULT : Fld := ⟨0x18038, 16, 8⟩
/-- RED_CMD.TAG, [15:8], RW (R474). -/
abbrev Reg.RED_CMD_TAG : Fld := ⟨0x18038, 8, 8⟩
/-- RED_CMD.CMD, [3:0], RW (R474). -/
abbrev Reg.RED_CMD_CMD : Fld := ⟨0x18038, 0, 4⟩
/-- RED_ARG.SECONDS, [15:0], RW (R474). -/
abbrev Reg.RED_ARG_SECONDS : Fld := ⟨0x1803c, 0, 16⟩
/-- RED_SKEW.MAX, [31:16], RO (R474). -/
abbrev Reg.RED_SKEW_MAX : Fld := ⟨0x18040, 16, 16⟩
/-- RED_SKEW.LAST, [15:0], RO (R474). -/
abbrev Reg.RED_SKEW_LAST : Fld := ⟨0x18040, 0, 16⟩
/-- RED_MISMATCH.PLOT, [31:24], RO (R474). -/
abbrev Reg.RED_MISMATCH_PLOT : Fld := ⟨0x18044, 24, 8⟩
/-- RED_MISMATCH.CTRL, [23:16], RO (R474). -/
abbrev Reg.RED_MISMATCH_CTRL : Fld := ⟨0x18044, 16, 8⟩
/-- RED_MISMATCH.ALLOC, [15:8], RO (R474). -/
abbrev Reg.RED_MISMATCH_ALLOC : Fld := ⟨0x18044, 8, 8⟩
/-- RED_MISMATCH.CONSEC, [7:0], RO (R474). -/
abbrev Reg.RED_MISMATCH_CONSEC : Fld := ⟨0x18044, 0, 8⟩
/-- RED_RESYNC.STAGE, [31:28], RO (R474). -/
abbrev Reg.RED_RESYNC_STAGE : Fld := ⟨0x18048, 28, 4⟩
/-- RED_RESYNC.PROGRESS, [15:0], RO (R474). -/
abbrev Reg.RED_RESYNC_PROGRESS : Fld := ⟨0x18048, 0, 16⟩
/-- RED_FW_STAT.STATE, [31:28], RO (R474). -/
abbrev Reg.RED_FW_STAT_STATE : Fld := ⟨0x1804c, 28, 4⟩
/-- RED_FW_STAT.FMT_MIN, [15:8], RO (R474). -/
abbrev Reg.RED_FW_STAT_FMT_MIN : Fld := ⟨0x1804c, 8, 8⟩
/-- RED_FW_STAT.FMT_MAX, [7:0], RO (R474). -/
abbrev Reg.RED_FW_STAT_FMT_MAX : Fld := ⟨0x1804c, 0, 8⟩
/-- RED_FW_OFS.OFS, [22:2], RW (R474). -/
abbrev Reg.RED_FW_OFS_OFS : Fld := ⟨0x18050, 2, 21⟩
/-- RED_TB_SUSP.REMAIN, [15:0], RO (R474). -/
abbrev Reg.RED_TB_SUSP_REMAIN : Fld := ⟨0x18054, 0, 16⟩
/-- RED_FW_DATA.DATA, [31:0], WO (R474). -/
abbrev Reg.RED_FW_DATA_DATA (i : Nat) : Fld := ⟨0x18100 + 0x4 * i, 0, 32⟩
/-- The whole word of register CTRL, page 0x70. -/
abbrev Reg.EVC_CTRL_w : Fld := ⟨0x1c008, 0, 32⟩
/-- The whole word of register STAT, page 0x70. -/
abbrev Reg.EVC_STAT_w : Fld := ⟨0x1c00c, 0, 32⟩
/-- The whole word of register EVC_SUM, page 0x70. -/
abbrev Reg.EVC_SUM_w (i : Nat) : Fld := ⟨0x1c020 + 0x4 * i, 0, 32⟩
/-- The whole word of register EVC_PAGES, page 0x70. -/
abbrev Reg.EVC_PAGES_w (i : Nat) : Fld := ⟨0x1c040 + 0x4 * i, 0, 32⟩
/-- The whole word of register EVC_SEQ, page 0x70. -/
abbrev Reg.EVC_SEQ_w : Fld := ⟨0x1c050, 0, 32⟩
/-- The whole word of register EVC_LAST, page 0x70. -/
abbrev Reg.EVC_LAST_w : Fld := ⟨0x1c054, 0, 32⟩
/-- The whole word of register EVC_SEL, page 0x70. -/
abbrev Reg.EVC_SEL_w : Fld := ⟨0x1c058, 0, 32⟩
/-- The whole word of register EVC_INFO, page 0x70. -/
abbrev Reg.EVC_INFO_w : Fld := ⟨0x1c05c, 0, 32⟩
/-- The whole word of register EVC_TIME, page 0x70. -/
abbrev Reg.EVC_TIME_w : Fld := ⟨0x1c060, 0, 32⟩
/-- The whole word of register EVC_CLEAR, page 0x70. -/
abbrev Reg.EVC_CLEAR_w : Fld := ⟨0x1c064, 0, 32⟩
/-- CTRL.CNT_CLR, [0], WO (R617). -/
abbrev Reg.EVC_CTRL_CNT_CLR : Fld := ⟨0x1c008, 0, 1⟩
/-- STAT.ANY, [0], RO (R617). -/
abbrev Reg.EVC_STAT_ANY : Fld := ⟨0x1c00c, 0, 1⟩
/-- EVC_SUM.PEND, [31:0], RO (R617). -/
abbrev Reg.EVC_SUM_PEND (i : Nat) : Fld := ⟨0x1c020 + 0x4 * i, 0, 32⟩
/-- EVC_PAGES.PAGES, [31:0], RO (R617). -/
abbrev Reg.EVC_PAGES_PAGES (i : Nat) : Fld := ⟨0x1c040 + 0x4 * i, 0, 32⟩
/-- EVC_SEQ.COUNT, [31:0], RO (R617). -/
abbrev Reg.EVC_SEQ_COUNT : Fld := ⟨0x1c050, 0, 32⟩
/-- EVC_LAST.EVENT, [31:24], RO (R617). -/
abbrev Reg.EVC_LAST_EVENT : Fld := ⟨0x1c054, 24, 8⟩
/-- EVC_LAST.PAGE, [23:16], RO (R617). -/
abbrev Reg.EVC_LAST_PAGE : Fld := ⟨0x1c054, 16, 8⟩
/-- EVC_LAST.TICK, [15:0], RO (R617). -/
abbrev Reg.EVC_LAST_TICK : Fld := ⟨0x1c054, 0, 16⟩
/-- EVC_SEL.EVENT, [7:0], RW (R617). -/
abbrev Reg.EVC_SEL_EVENT : Fld := ⟨0x1c058, 0, 8⟩
/-- EVC_INFO.COUNT, [31:16], RO (R617). -/
abbrev Reg.EVC_INFO_COUNT : Fld := ⟨0x1c05c, 16, 16⟩
/-- EVC_INFO.PAGE, [15:8], RO (R617). -/
abbrev Reg.EVC_INFO_PAGE : Fld := ⟨0x1c05c, 8, 8⟩
/-- EVC_INFO.DEFINED, [0], RO (R617). -/
abbrev Reg.EVC_INFO_DEFINED : Fld := ⟨0x1c05c, 0, 1⟩
/-- EVC_TIME.TICK, [31:0], RO (R617). -/
abbrev Reg.EVC_TIME_TICK : Fld := ⟨0x1c060, 0, 32⟩
/-- EVC_CLEAR.GO, [31], WO (R617). -/
abbrev Reg.EVC_CLEAR_GO : Fld := ⟨0x1c064, 31, 1⟩
/-- EVC_CLEAR.ALL, [30], RW (R617). -/
abbrev Reg.EVC_CLEAR_ALL : Fld := ⟨0x1c064, 30, 1⟩
/-- EVC_CLEAR.EVENT, [7:0], RW (R617). -/
abbrev Reg.EVC_CLEAR_EVENT : Fld := ⟨0x1c064, 0, 8⟩

end Sys2Proof.Machine
end

