-- ==== Sys2Proof/Machine/RegsLink.lean ====
section
/-! DEFINITION. Names of the register fields of pages 0x41, 0x43, 0x44, 0x48, 0x50, 0x58, 0x59, 0x5c: byte address, lowest bit, width,
written from the register tables of spec/ (each docstring names the rule). -/

namespace Sys2Proof.Machine

/-- The whole word of register CTRL, page 0x41. -/
abbrev Reg.ETH_CTRL_w (net : Nat) : Fld := ⟨0x10408 + 0x400 * net, 0, 32⟩
/-- The whole word of register STAT, page 0x41. -/
abbrev Reg.ETH_STAT_w (net : Nat) : Fld := ⟨0x1040c + 0x400 * net, 0, 32⟩
/-- The whole word of register FAULT, page 0x41. -/
abbrev Reg.ETH_FAULT_w (net : Nat) : Fld := ⟨0x1041c + 0x400 * net, 0, 32⟩
/-- The whole word of register ETH_LINK, page 0x41. -/
abbrev Reg.ETH_LINK_w (net : Nat) : Fld := ⟨0x10420 + 0x400 * net, 0, 32⟩
/-- The whole word of register ETH_IP, page 0x41. -/
abbrev Reg.ETH_IP_w (net : Nat) : Fld := ⟨0x10424 + 0x400 * net, 0, 32⟩
/-- The whole word of register ETH_MASK, page 0x41. -/
abbrev Reg.ETH_MASK_w (net : Nat) : Fld := ⟨0x10428 + 0x400 * net, 0, 32⟩
/-- The whole word of register ETH_MAC_HI, page 0x41. -/
abbrev Reg.ETH_MAC_HI_w (net : Nat) : Fld := ⟨0x1042c + 0x400 * net, 0, 32⟩
/-- The whole word of register ETH_MAC_LO, page 0x41. -/
abbrev Reg.ETH_MAC_LO_w (net : Nat) : Fld := ⟨0x10430 + 0x400 * net, 0, 32⟩
/-- The whole word of register ETH_RX, page 0x41. -/
abbrev Reg.ETH_RX_w (net : Nat) : Fld := ⟨0x10434 + 0x400 * net, 0, 32⟩
/-- The whole word of register ETH_TX, page 0x41. -/
abbrev Reg.ETH_TX_w (net : Nat) : Fld := ⟨0x10438 + 0x400 * net, 0, 32⟩
/-- The whole word of register ETH_DROP, page 0x41. -/
abbrev Reg.ETH_DROP_w (net : Nat) : Fld := ⟨0x1043c + 0x400 * net, 0, 32⟩
/-- CTRL.CNT_CLR, [0], WO (R436). -/
abbrev Reg.ETH_CTRL_CNT_CLR (net : Nat) : Fld := ⟨0x10408 + 0x400 * net, 0, 1⟩
/-- STAT.UP, [0], RO (R436). -/
abbrev Reg.ETH_STAT_UP (net : Nat) : Fld := ⟨0x1040c + 0x400 * net, 0, 1⟩
/-- FAULT.LINK_LOST, [0], RO (R436). -/
abbrev Reg.ETH_FAULT_LINK_LOST (net : Nat) : Fld := ⟨0x1041c + 0x400 * net, 0, 1⟩
/-- ETH_LINK.DOWNS, [31:16], RO (R436). -/
abbrev Reg.ETH_LINK_DOWNS (net : Nat) : Fld := ⟨0x10420 + 0x400 * net, 16, 16⟩
/-- ETH_LINK.SPEED, [2:1], RO (R436). -/
abbrev Reg.ETH_LINK_SPEED (net : Nat) : Fld := ⟨0x10420 + 0x400 * net, 1, 2⟩
/-- ETH_LINK.UP, [0], RO (R436). -/
abbrev Reg.ETH_LINK_UP (net : Nat) : Fld := ⟨0x10420 + 0x400 * net, 0, 1⟩
/-- ETH_IP.ADDR, [31:0], RO (R436). -/
abbrev Reg.ETH_IP_ADDR (net : Nat) : Fld := ⟨0x10424 + 0x400 * net, 0, 32⟩
/-- ETH_MASK.ADDR, [31:0], RO (R436). -/
abbrev Reg.ETH_MASK_ADDR (net : Nat) : Fld := ⟨0x10428 + 0x400 * net, 0, 32⟩
/-- ETH_MAC_HI.MAC, [15:0], RO (R436). -/
abbrev Reg.ETH_MAC_HI_MAC (net : Nat) : Fld := ⟨0x1042c + 0x400 * net, 0, 16⟩
/-- ETH_MAC_LO.MAC, [31:0], RO (R436). -/
abbrev Reg.ETH_MAC_LO_MAC (net : Nat) : Fld := ⟨0x10430 + 0x400 * net, 0, 32⟩
/-- ETH_RX.COUNT, [31:0], RO (R436). -/
abbrev Reg.ETH_RX_COUNT (net : Nat) : Fld := ⟨0x10434 + 0x400 * net, 0, 32⟩
/-- ETH_TX.COUNT, [31:0], RO (R436). -/
abbrev Reg.ETH_TX_COUNT (net : Nat) : Fld := ⟨0x10438 + 0x400 * net, 0, 32⟩
/-- ETH_DROP.BUDGET, [31:16], RO (R436). -/
abbrev Reg.ETH_DROP_BUDGET (net : Nat) : Fld := ⟨0x1043c + 0x400 * net, 16, 16⟩
/-- ETH_DROP.ERR, [15:0], RO (R436). -/
abbrev Reg.ETH_DROP_ERR (net : Nat) : Fld := ⟨0x1043c + 0x400 * net, 0, 16⟩
/-- The whole word of register CTRL, page 0x43. -/
abbrev Reg.RAP_CTRL_w : Fld := ⟨0x10c08, 0, 32⟩
/-- The whole word of register STAT, page 0x43. -/
abbrev Reg.RAP_STAT_w : Fld := ⟨0x10c0c, 0, 32⟩
/-- The whole word of register FAULT, page 0x43. -/
abbrev Reg.RAP_FAULT_w : Fld := ⟨0x10c1c, 0, 32⟩
/-- The whole word of register RAP_EPOCH, page 0x43. -/
abbrev Reg.RAP_EPOCH_w : Fld := ⟨0x10c20, 0, 32⟩
/-- The whole word of register RAP_CLIENTS, page 0x43. -/
abbrev Reg.RAP_CLIENTS_w : Fld := ⟨0x10c24, 0, 32⟩
/-- The whole word of register RAP_REQ, page 0x43. -/
abbrev Reg.RAP_REQ_w : Fld := ⟨0x10c28, 0, 32⟩
/-- The whole word of register RAP_DISCARD, page 0x43. -/
abbrev Reg.RAP_DISCARD_w : Fld := ⟨0x10c2c, 0, 32⟩
/-- The whole word of register RAP_SESSION, page 0x43. -/
abbrev Reg.RAP_SESSION_w : Fld := ⟨0x10c30, 0, 32⟩
/-- The whole word of register RAP_AUTH, page 0x43. -/
abbrev Reg.RAP_AUTH_w : Fld := ⟨0x10c34, 0, 32⟩
/-- The whole word of register RAP_CHART, page 0x43. -/
abbrev Reg.RAP_CHART_w : Fld := ⟨0x10c38, 0, 32⟩
/-- CTRL.CNT_CLR, [0], WO (R438). -/
abbrev Reg.RAP_CTRL_CNT_CLR : Fld := ⟨0x10c08, 0, 1⟩
/-- STAT.LOCKOUT, [2], RO (R438). -/
abbrev Reg.RAP_STAT_LOCKOUT : Fld := ⟨0x10c0c, 2, 1⟩
/-- STAT.CHART_BUSY, [1], RO (R438). -/
abbrev Reg.RAP_STAT_CHART_BUSY : Fld := ⟨0x10c0c, 1, 1⟩
/-- STAT.SESSION, [0], RO (R438). -/
abbrev Reg.RAP_STAT_SESSION : Fld := ⟨0x10c0c, 0, 1⟩
/-- FAULT.AUTH_FAILED, [0], RO (R438). -/
abbrev Reg.RAP_FAULT_AUTH_FAILED : Fld := ⟨0x10c1c, 0, 1⟩
/-- RAP_EPOCH.EPOCH, [31:0], RO (R438). -/
abbrev Reg.RAP_EPOCH_EPOCH : Fld := ⟨0x10c20, 0, 32⟩
/-- RAP_CLIENTS.USED, [15:8], RO (R438). -/
abbrev Reg.RAP_CLIENTS_USED : Fld := ⟨0x10c24, 8, 8⟩
/-- RAP_CLIENTS.LAST, [7:0], RO (R438). -/
abbrev Reg.RAP_CLIENTS_LAST : Fld := ⟨0x10c24, 0, 8⟩
/-- RAP_REQ.REFUSED, [31:16], RO (R438). -/
abbrev Reg.RAP_REQ_REFUSED : Fld := ⟨0x10c28, 16, 16⟩
/-- RAP_REQ.DONE, [15:0], RO (R438). -/
abbrev Reg.RAP_REQ_DONE : Fld := ⟨0x10c28, 0, 16⟩
/-- RAP_DISCARD.CRC, [31:16], RO (R438). -/
abbrev Reg.RAP_DISCARD_CRC : Fld := ⟨0x10c2c, 16, 16⟩
/-- RAP_DISCARD.MALFORMED, [15:0], RO (R438). -/
abbrev Reg.RAP_DISCARD_MALFORMED : Fld := ⟨0x10c2c, 0, 16⟩
/-- RAP_SESSION.OPEN, [31], RO (R438). -/
abbrev Reg.RAP_SESSION_OPEN : Fld := ⟨0x10c30, 31, 1⟩
/-- RAP_SESSION.CLIENT, [23:16], RO (R438). -/
abbrev Reg.RAP_SESSION_CLIENT : Fld := ⟨0x10c30, 16, 8⟩
/-- RAP_SESSION.IDLE, [15:0], RO (R438). -/
abbrev Reg.RAP_SESSION_IDLE : Fld := ⟨0x10c30, 0, 16⟩
/-- RAP_AUTH.LOCK_S, [31:16], RO (R438). -/
abbrev Reg.RAP_AUTH_LOCK_S : Fld := ⟨0x10c34, 16, 16⟩
/-- RAP_AUTH.TOTAL, [15:8], RO (R438). -/
abbrev Reg.RAP_AUTH_TOTAL : Fld := ⟨0x10c34, 8, 8⟩
/-- RAP_AUTH.CONSEC, [7:0], RO (R438). -/
abbrev Reg.RAP_AUTH_CONSEC : Fld := ⟨0x10c34, 0, 8⟩
/-- RAP_CHART.STATE, [31:28], RO (R438). -/
abbrev Reg.RAP_CHART_STATE : Fld := ⟨0x10c38, 28, 4⟩
/-- RAP_CHART.REASON, [15:8], RO (R438). -/
abbrev Reg.RAP_CHART_REASON : Fld := ⟨0x10c38, 8, 8⟩
/-- RAP_CHART.CLIENT, [7:0], RO (R438). -/
abbrev Reg.RAP_CHART_CLIENT : Fld := ⟨0x10c38, 0, 8⟩
/-- The whole word of register L450_CNT, page 0x44. -/
abbrev Reg.L450_CNT_w : Fld := ⟨0x11020, 0, 32⟩
/-- The whole word of register L450_DISC, page 0x44. -/
abbrev Reg.L450_DISC_w : Fld := ⟨0x11024, 0, 32⟩
/-- The whole word of register L450_GROUPS, page 0x44. -/
abbrev Reg.L450_GROUPS_w : Fld := ⟨0x11028, 0, 32⟩
/-- L450_CNT.DGRAMS, [31:16], RO (R439). -/
abbrev Reg.L450_CNT_DGRAMS : Fld := ⟨0x11020, 16, 16⟩
/-- L450_CNT.SENT, [15:0], RO (R439). -/
abbrev Reg.L450_CNT_SENT : Fld := ⟨0x11020, 0, 16⟩
/-- L450_DISC.SOURCE, [31:24], RO (R439). -/
abbrev Reg.L450_DISC_SOURCE : Fld := ⟨0x11024, 24, 8⟩
/-- L450_DISC.FORMAT, [23:16], RO (R439). -/
abbrev Reg.L450_DISC_FORMAT : Fld := ⟨0x11024, 16, 8⟩
/-- L450_DISC.DUP, [15:8], RO (R439). -/
abbrev Reg.L450_DISC_DUP : Fld := ⟨0x11024, 8, 8⟩
/-- L450_DISC.UNSUPPORTED, [7:0], RO (R439). -/
abbrev Reg.L450_DISC_UNSUPPORTED : Fld := ⟨0x11024, 0, 8⟩
/-- L450_GROUPS.MASK, [15:0], RO (R439). -/
abbrev Reg.L450_GROUPS_MASK : Fld := ⟨0x11028, 0, 16⟩
/-- The whole word of register CTRL, page 0x48. -/
abbrev Reg.CAN_CTRL_w (port : Nat) : Fld := ⟨0x12008 + 0x400 * port, 0, 32⟩
/-- The whole word of register STAT, page 0x48. -/
abbrev Reg.CAN_STAT_w (port : Nat) : Fld := ⟨0x1200c + 0x400 * port, 0, 32⟩
/-- The whole word of register FAULT, page 0x48. -/
abbrev Reg.CAN_FAULT_w (port : Nat) : Fld := ⟨0x1201c + 0x400 * port, 0, 32⟩
/-- The whole word of register CAN_CFG, page 0x48. -/
abbrev Reg.CAN_CFG_w (port : Nat) : Fld := ⟨0x12020 + 0x400 * port, 0, 32⟩
/-- The whole word of register CAN_NBT, page 0x48. -/
abbrev Reg.CAN_NBT_w (port : Nat) : Fld := ⟨0x12024 + 0x400 * port, 0, 32⟩
/-- The whole word of register CAN_DBT, page 0x48. -/
abbrev Reg.CAN_DBT_w (port : Nat) : Fld := ⟨0x12028 + 0x400 * port, 0, 32⟩
/-- The whole word of register CAN_TDC, page 0x48. -/
abbrev Reg.CAN_TDC_w (port : Nat) : Fld := ⟨0x1202c + 0x400 * port, 0, 32⟩
/-- The whole word of register CAN_ERR, page 0x48. -/
abbrev Reg.CAN_ERR_w (port : Nat) : Fld := ⟨0x12030 + 0x400 * port, 0, 32⟩
/-- The whole word of register CAN_ERRCNT, page 0x48. -/
abbrev Reg.CAN_ERRCNT_w (port : Nat) : Fld := ⟨0x12034 + 0x400 * port, 0, 32⟩
/-- The whole word of register CAN_MISC, page 0x48. -/
abbrev Reg.CAN_MISC_w (port : Nat) : Fld := ⟨0x12038 + 0x400 * port, 0, 32⟩
/-- The whole word of register CAN_CNT, page 0x48. -/
abbrev Reg.CAN_CNT_w (port : Nat) : Fld := ⟨0x1203c + 0x400 * port, 0, 32⟩
/-- The whole word of register CAN_SCHED, page 0x48. -/
abbrev Reg.CAN_SCHED_w (port : Nat) : Fld := ⟨0x12040 + 0x400 * port, 0, 32⟩
/-- The whole word of register CAN_BUSOFF, page 0x48. -/
abbrev Reg.CAN_BUSOFF_w (port : Nat) : Fld := ⟨0x12044 + 0x400 * port, 0, 32⟩
/-- The whole word of register CAN_CLASH, page 0x48. -/
abbrev Reg.CAN_CLASH_w (port : Nat) : Fld := ⟨0x12048 + 0x400 * port, 0, 32⟩
/-- The whole word of register CAN_RX_SEL, page 0x48. -/
abbrev Reg.CAN_RX_SEL_w (port : Nat) : Fld := ⟨0x1204c + 0x400 * port, 0, 32⟩
/-- The whole word of register CAN_RX_ID, page 0x48. -/
abbrev Reg.CAN_RX_ID_w (port : Nat) : Fld := ⟨0x12050 + 0x400 * port, 0, 32⟩
/-- The whole word of register CAN_RX_INFO, page 0x48. -/
abbrev Reg.CAN_RX_INFO_w (port : Nat) : Fld := ⟨0x12054 + 0x400 * port, 0, 32⟩
/-- The whole word of register CAN_RX_TS_SEC, page 0x48. -/
abbrev Reg.CAN_RX_TS_SEC_w (port : Nat) : Fld := ⟨0x12058 + 0x400 * port, 0, 32⟩
/-- The whole word of register CAN_RX_TS_NS, page 0x48. -/
abbrev Reg.CAN_RX_TS_NS_w (port : Nat) : Fld := ⟨0x1205c + 0x400 * port, 0, 32⟩
/-- The whole word of register CAN_RX_DATA, page 0x48. -/
abbrev Reg.CAN_RX_DATA_w (port : Nat) (i : Nat) : Fld := ⟨0x12060 + 0x400 * port + 0x4 * i, 0, 32⟩
/-- The whole word of register CAN_TX_SEL, page 0x48. -/
abbrev Reg.CAN_TX_SEL_w (port : Nat) : Fld := ⟨0x120a0 + 0x400 * port, 0, 32⟩
/-- The whole word of register CAN_TX_ID, page 0x48. -/
abbrev Reg.CAN_TX_ID_w (port : Nat) : Fld := ⟨0x120a4 + 0x400 * port, 0, 32⟩
/-- The whole word of register CAN_TX_INFO, page 0x48. -/
abbrev Reg.CAN_TX_INFO_w (port : Nat) : Fld := ⟨0x120a8 + 0x400 * port, 0, 32⟩
/-- The whole word of register CAN_TX_CMD, page 0x48. -/
abbrev Reg.CAN_TX_CMD_w (port : Nat) : Fld := ⟨0x120ac + 0x400 * port, 0, 32⟩
/-- The whole word of register CAN_TX_DATA, page 0x48. -/
abbrev Reg.CAN_TX_DATA_w (port : Nat) (i : Nat) : Fld := ⟨0x120c0 + 0x400 * port + 0x4 * i, 0, 32⟩
/-- The whole word of register CAN_COL, page 0x48. -/
abbrev Reg.CAN_COL_w (port : Nat) (i : Nat) : Fld := ⟨0x12100 + 0x400 * port + 0x4 * i, 0, 32⟩
/-- CTRL.CNT_CLR, [0], WO (R405). -/
abbrev Reg.CAN_CTRL_CNT_CLR (port : Nat) : Fld := ⟨0x12008 + 0x400 * port, 0, 1⟩
/-- STAT.DRIVING, [4], RO (R405). -/
abbrev Reg.CAN_STAT_DRIVING (port : Nat) : Fld := ⟨0x1200c + 0x400 * port, 4, 1⟩
/-- STAT.MONITOR, [3], RO (R405). -/
abbrev Reg.CAN_STAT_MONITOR (port : Nat) : Fld := ⟨0x1200c + 0x400 * port, 3, 1⟩
/-- STAT.INTEGRATING, [2], RO (R405). -/
abbrev Reg.CAN_STAT_INTEGRATING (port : Nat) : Fld := ⟨0x1200c + 0x400 * port, 2, 1⟩
/-- STAT.STATE, [1:0], RO (R405). -/
abbrev Reg.CAN_STAT_STATE (port : Nat) : Fld := ⟨0x1200c + 0x400 * port, 0, 2⟩
/-- FAULT.TDC_RANGE, [2], RO (R405). -/
abbrev Reg.CAN_FAULT_TDC_RANGE (port : Nat) : Fld := ⟨0x1201c + 0x400 * port, 2, 1⟩
/-- FAULT.CLASH_SEEN, [1], RO (R405). -/
abbrev Reg.CAN_FAULT_CLASH_SEEN (port : Nat) : Fld := ⟨0x1201c + 0x400 * port, 1, 1⟩
/-- FAULT.BUS_OFF_SEEN, [0], RO (R405). -/
abbrev Reg.CAN_FAULT_BUS_OFF_SEEN (port : Nat) : Fld := ⟨0x1201c + 0x400 * port, 0, 1⟩
/-- CAN_CFG.RX_OBJ, [24:16], RO (R406). -/
abbrev Reg.CAN_CFG_RX_OBJ (port : Nat) : Fld := ⟨0x12020 + 0x400 * port, 16, 9⟩
/-- CAN_CFG.TX_OBJ, [14:8], RO (R406). -/
abbrev Reg.CAN_CFG_TX_OBJ (port : Nat) : Fld := ⟨0x12020 + 0x400 * port, 8, 7⟩
/-- CAN_CFG.FD, [3], RO (R406). -/
abbrev Reg.CAN_CFG_FD (port : Nat) : Fld := ⟨0x12020 + 0x400 * port, 3, 1⟩
/-- CAN_CFG.ROLE, [1:0], RO (R406). -/
abbrev Reg.CAN_CFG_ROLE (port : Nat) : Fld := ⟨0x12020 + 0x400 * port, 0, 2⟩
/-- CAN_NBT.NTSEG1, [31:24], RO (R406). -/
abbrev Reg.CAN_NBT_NTSEG1 (port : Nat) : Fld := ⟨0x12024 + 0x400 * port, 24, 8⟩
/-- CAN_NBT.NTSEG2, [23:17], RO (R406). -/
abbrev Reg.CAN_NBT_NTSEG2 (port : Nat) : Fld := ⟨0x12024 + 0x400 * port, 17, 7⟩
/-- CAN_NBT.NSJW, [16:10], RO (R406). -/
abbrev Reg.CAN_NBT_NSJW (port : Nat) : Fld := ⟨0x12024 + 0x400 * port, 10, 7⟩
/-- CAN_NBT.NBRP, [4:0], RO (R406). -/
abbrev Reg.CAN_NBT_NBRP (port : Nat) : Fld := ⟨0x12024 + 0x400 * port, 0, 5⟩
/-- CAN_DBT.DTSEG1, [28:24], RO (R406). -/
abbrev Reg.CAN_DBT_DTSEG1 (port : Nat) : Fld := ⟨0x12028 + 0x400 * port, 24, 5⟩
/-- CAN_DBT.DTSEG2, [23:20], RO (R406). -/
abbrev Reg.CAN_DBT_DTSEG2 (port : Nat) : Fld := ⟨0x12028 + 0x400 * port, 20, 4⟩
/-- CAN_DBT.DSJW, [19:16], RO (R406). -/
abbrev Reg.CAN_DBT_DSJW (port : Nat) : Fld := ⟨0x12028 + 0x400 * port, 16, 4⟩
/-- CAN_DBT.DBRP, [4:0], RO (R406). -/
abbrev Reg.CAN_DBT_DBRP (port : Nat) : Fld := ⟨0x12028 + 0x400 * port, 0, 5⟩
/-- CAN_TDC.TDCV, [30:24], RO (R406). -/
abbrev Reg.CAN_TDC_TDCV (port : Nat) : Fld := ⟨0x1202c + 0x400 * port, 24, 7⟩
/-- CAN_TDC.TDCO, [14:8], RO (R406). -/
abbrev Reg.CAN_TDC_TDCO (port : Nat) : Fld := ⟨0x1202c + 0x400 * port, 8, 7⟩
/-- CAN_TDC.EN, [0], RO (R406). -/
abbrev Reg.CAN_TDC_EN (port : Nat) : Fld := ⟨0x1202c + 0x400 * port, 0, 1⟩
/-- CAN_ERR.STATE, [31:30], RO (R406). -/
abbrev Reg.CAN_ERR_STATE (port : Nat) : Fld := ⟨0x12030 + 0x400 * port, 30, 2⟩
/-- CAN_ERR.WARN, [29], RO (R406). -/
abbrev Reg.CAN_ERR_WARN (port : Nat) : Fld := ⟨0x12030 + 0x400 * port, 29, 1⟩
/-- CAN_ERR.TEC, [24:16], RO (R406). -/
abbrev Reg.CAN_ERR_TEC (port : Nat) : Fld := ⟨0x12030 + 0x400 * port, 16, 9⟩
/-- CAN_ERR.REC, [15:8], RO (R406). -/
abbrev Reg.CAN_ERR_REC (port : Nat) : Fld := ⟨0x12030 + 0x400 * port, 8, 8⟩
/-- CAN_ERR.LEC, [2:0], RO (R406). -/
abbrev Reg.CAN_ERR_LEC (port : Nat) : Fld := ⟨0x12030 + 0x400 * port, 0, 3⟩
/-- CAN_ERRCNT.BIT, [31:24], RO (R406). -/
abbrev Reg.CAN_ERRCNT_BIT (port : Nat) : Fld := ⟨0x12034 + 0x400 * port, 24, 8⟩
/-- CAN_ERRCNT.STUFF, [23:16], RO (R406). -/
abbrev Reg.CAN_ERRCNT_STUFF (port : Nat) : Fld := ⟨0x12034 + 0x400 * port, 16, 8⟩
/-- CAN_ERRCNT.FORM, [15:8], RO (R406). -/
abbrev Reg.CAN_ERRCNT_FORM (port : Nat) : Fld := ⟨0x12034 + 0x400 * port, 8, 8⟩
/-- CAN_ERRCNT.CRC, [7:0], RO (R406). -/
abbrev Reg.CAN_ERRCNT_CRC (port : Nat) : Fld := ⟨0x12034 + 0x400 * port, 0, 8⟩
/-- CAN_MISC.ACK, [31:24], RO (R406). -/
abbrev Reg.CAN_MISC_ACK (port : Nat) : Fld := ⟨0x12038 + 0x400 * port, 24, 8⟩
/-- CAN_MISC.PROTO_EXC, [23:16], RO (R406). -/
abbrev Reg.CAN_MISC_PROTO_EXC (port : Nat) : Fld := ⟨0x12038 + 0x400 * port, 16, 8⟩
/-- CAN_MISC.SHORT, [15:8], RO (R406). -/
abbrev Reg.CAN_MISC_SHORT (port : Nat) : Fld := ⟨0x12038 + 0x400 * port, 8, 8⟩
/-- CAN_MISC.UNSTORED, [7:0], RO (R406). -/
abbrev Reg.CAN_MISC_UNSTORED (port : Nat) : Fld := ⟨0x12038 + 0x400 * port, 0, 8⟩
/-- CAN_CNT.TX, [31:16], RO (R406). -/
abbrev Reg.CAN_CNT_TX (port : Nat) : Fld := ⟨0x1203c + 0x400 * port, 16, 16⟩
/-- CAN_CNT.RX, [15:0], RO (R406). -/
abbrev Reg.CAN_CNT_RX (port : Nat) : Fld := ⟨0x1203c + 0x400 * port, 0, 16⟩
/-- CAN_SCHED.CYC, [31:28], RO (R406). -/
abbrev Reg.CAN_SCHED_CYC (port : Nat) : Fld := ⟨0x12040 + 0x400 * port, 28, 4⟩
/-- CAN_SCHED.WAIT_START, [27], RO (R406). -/
abbrev Reg.CAN_SCHED_WAIT_START (port : Nat) : Fld := ⟨0x12040 + 0x400 * port, 27, 1⟩
/-- CAN_SCHED.PENDING, [22:16], RO (R406). -/
abbrev Reg.CAN_SCHED_PENDING (port : Nat) : Fld := ⟨0x12040 + 0x400 * port, 16, 7⟩
/-- CAN_SCHED.MISSED, [15:0], RO (R406). -/
abbrev Reg.CAN_SCHED_MISSED (port : Nat) : Fld := ⟨0x12040 + 0x400 * port, 0, 16⟩
/-- CAN_BUSOFF.COUNT, [31:16], RO (R406). -/
abbrev Reg.CAN_BUSOFF_COUNT (port : Nat) : Fld := ⟨0x12044 + 0x400 * port, 16, 16⟩
/-- CAN_BUSOFF.LAST_MS, [15:0], RO (R406). -/
abbrev Reg.CAN_BUSOFF_LAST_MS (port : Nat) : Fld := ⟨0x12044 + 0x400 * port, 0, 16⟩
/-- CAN_CLASH.COUNT, [31:16], RO (R406). -/
abbrev Reg.CAN_CLASH_COUNT (port : Nat) : Fld := ⟨0x12048 + 0x400 * port, 16, 16⟩
/-- CAN_CLASH.OBJ, [5:0], RO (R406). -/
abbrev Reg.CAN_CLASH_OBJ (port : Nat) : Fld := ⟨0x12048 + 0x400 * port, 0, 6⟩
/-- CAN_RX_SEL.OBJ, [7:0], RW (R406). -/
abbrev Reg.CAN_RX_SEL_OBJ (port : Nat) : Fld := ⟨0x1204c + 0x400 * port, 0, 8⟩
/-- CAN_RX_ID.IDE, [31], RO (R406). -/
abbrev Reg.CAN_RX_ID_IDE (port : Nat) : Fld := ⟨0x12050 + 0x400 * port, 31, 1⟩
/-- CAN_RX_ID.CONFIGURED, [30], RO (R406). -/
abbrev Reg.CAN_RX_ID_CONFIGURED (port : Nat) : Fld := ⟨0x12050 + 0x400 * port, 30, 1⟩
/-- CAN_RX_ID.ID, [28:0], RO (R406). -/
abbrev Reg.CAN_RX_ID_ID (port : Nat) : Fld := ⟨0x12050 + 0x400 * port, 0, 29⟩
/-- CAN_RX_INFO.UPD, [31:24], RO (R406). -/
abbrev Reg.CAN_RX_INFO_UPD (port : Nat) : Fld := ⟨0x12054 + 0x400 * port, 24, 8⟩
/-- CAN_RX_INFO.NEW, [16], RO (R406). -/
abbrev Reg.CAN_RX_INFO_NEW (port : Nat) : Fld := ⟨0x12054 + 0x400 * port, 16, 1⟩
/-- CAN_RX_INFO.LOST, [15], RO (R406). -/
abbrev Reg.CAN_RX_INFO_LOST (port : Nat) : Fld := ⟨0x12054 + 0x400 * port, 15, 1⟩
/-- CAN_RX_INFO.ESI, [14], RO (R406). -/
abbrev Reg.CAN_RX_INFO_ESI (port : Nat) : Fld := ⟨0x12054 + 0x400 * port, 14, 1⟩
/-- CAN_RX_INFO.BRS, [13], RO (R406). -/
abbrev Reg.CAN_RX_INFO_BRS (port : Nat) : Fld := ⟨0x12054 + 0x400 * port, 13, 1⟩
/-- CAN_RX_INFO.FDF, [12], RO (R406). -/
abbrev Reg.CAN_RX_INFO_FDF (port : Nat) : Fld := ⟨0x12054 + 0x400 * port, 12, 1⟩
/-- CAN_RX_INFO.DLC, [11:8], RO (R406). -/
abbrev Reg.CAN_RX_INFO_DLC (port : Nat) : Fld := ⟨0x12054 + 0x400 * port, 8, 4⟩
/-- CAN_RX_INFO.LEN, [6:0], RO (R406). -/
abbrev Reg.CAN_RX_INFO_LEN (port : Nat) : Fld := ⟨0x12054 + 0x400 * port, 0, 7⟩
/-- CAN_RX_TS_SEC.SEC, [31:0], RO (R406). -/
abbrev Reg.CAN_RX_TS_SEC_SEC (port : Nat) : Fld := ⟨0x12058 + 0x400 * port, 0, 32⟩
/-- CAN_RX_TS_NS.NS, [29:0], RO (R406). -/
abbrev Reg.CAN_RX_TS_NS_NS (port : Nat) : Fld := ⟨0x1205c + 0x400 * port, 0, 30⟩
/-- CAN_RX_DATA.DATA, [31:0], RO (R406). -/
abbrev Reg.CAN_RX_DATA_DATA (port : Nat) (i : Nat) : Fld := ⟨0x12060 + 0x400 * port + 0x4 * i, 0, 32⟩
/-- CAN_TX_SEL.OBJ, [5:0], RW (R406). -/
abbrev Reg.CAN_TX_SEL_OBJ (port : Nat) : Fld := ⟨0x120a0 + 0x400 * port, 0, 6⟩
/-- CAN_TX_ID.IDE, [31], RO (R406). -/
abbrev Reg.CAN_TX_ID_IDE (port : Nat) : Fld := ⟨0x120a4 + 0x400 * port, 31, 1⟩
/-- CAN_TX_ID.ID, [28:0], RO (R406). -/
abbrev Reg.CAN_TX_ID_ID (port : Nat) : Fld := ⟨0x120a4 + 0x400 * port, 0, 29⟩
/-- CAN_TX_INFO.SOURCE, [31:30], RO (R406). -/
abbrev Reg.CAN_TX_INFO_SOURCE (port : Nat) : Fld := ⟨0x120a8 + 0x400 * port, 30, 2⟩
/-- CAN_TX_INFO.PENDING, [29], RO (R406). -/
abbrev Reg.CAN_TX_INFO_PENDING (port : Nat) : Fld := ⟨0x120a8 + 0x400 * port, 29, 1⟩
/-- CAN_TX_INFO.FDF, [28], RO (R406). -/
abbrev Reg.CAN_TX_INFO_FDF (port : Nat) : Fld := ⟨0x120a8 + 0x400 * port, 28, 1⟩
/-- CAN_TX_INFO.BRS, [27], RO (R406). -/
abbrev Reg.CAN_TX_INFO_BRS (port : Nat) : Fld := ⟨0x120a8 + 0x400 * port, 27, 1⟩
/-- CAN_TX_INFO.DLC, [26:23], RO (R406). -/
abbrev Reg.CAN_TX_INFO_DLC (port : Nat) : Fld := ⟨0x120a8 + 0x400 * port, 23, 4⟩
/-- CAN_TX_INFO.TC, [19:16], RO (R406). -/
abbrev Reg.CAN_TX_INFO_TC (port : Nat) : Fld := ⟨0x120a8 + 0x400 * port, 16, 4⟩
/-- CAN_TX_INFO.SENT, [15:0], RO (R406). -/
abbrev Reg.CAN_TX_INFO_SENT (port : Nat) : Fld := ⟨0x120a8 + 0x400 * port, 0, 16⟩
/-- CAN_TX_CMD.GO, [31], WO (R406). -/
abbrev Reg.CAN_TX_CMD_GO (port : Nat) : Fld := ⟨0x120ac + 0x400 * port, 31, 1⟩
/-- CAN_TX_CMD.RESULT, [23:16], RO (R406). -/
abbrev Reg.CAN_TX_CMD_RESULT (port : Nat) : Fld := ⟨0x120ac + 0x400 * port, 16, 8⟩
/-- CAN_TX_CMD.TAG, [15:8], RW (R406). -/
abbrev Reg.CAN_TX_CMD_TAG (port : Nat) : Fld := ⟨0x120ac + 0x400 * port, 8, 8⟩
/-- CAN_TX_CMD.CMD, [3:0], RW (R406). -/
abbrev Reg.CAN_TX_CMD_CMD (port : Nat) : Fld := ⟨0x120ac + 0x400 * port, 0, 4⟩
/-- CAN_TX_DATA.DATA, [31:0], RW (R406). -/
abbrev Reg.CAN_TX_DATA_DATA (port : Nat) (i : Nat) : Fld := ⟨0x120c0 + 0x400 * port + 0x4 * i, 0, 32⟩
/-- CAN_COL.USED, [31], RO (R406). -/
abbrev Reg.CAN_COL_USED (port : Nat) (i : Nat) : Fld := ⟨0x12100 + 0x400 * port + 0x4 * i, 31, 1⟩
/-- CAN_COL.START, [9:0], RO (R406). -/
abbrev Reg.CAN_COL_START (port : Nat) (i : Nat) : Fld := ⟨0x12100 + 0x400 * port + 0x4 * i, 0, 10⟩
/-- The whole word of register SER_CFG, page 0x50. -/
abbrev Reg.SER_CFG_w (i : Nat) : Fld := ⟨0x14100 + 0x10 * i, 0, 32⟩
/-- The whole word of register SER_RX, page 0x50. -/
abbrev Reg.SER_RX_w (i : Nat) : Fld := ⟨0x14104 + 0x10 * i, 0, 32⟩
/-- The whole word of register SER_TX, page 0x50. -/
abbrev Reg.SER_TX_w (i : Nat) : Fld := ⟨0x14108 + 0x10 * i, 0, 32⟩
/-- The whole word of register SER_STAT, page 0x50. -/
abbrev Reg.SER_STAT_w (i : Nat) : Fld := ⟨0x1410c + 0x10 * i, 0, 32⟩
/-- SER_CFG.RATE, [10:8], RO (R440). -/
abbrev Reg.SER_CFG_RATE (i : Nat) : Fld := ⟨0x14100 + 0x10 * i, 8, 3⟩
/-- SER_CFG.TX_ENTRIES, [7:4], RO (R440). -/
abbrev Reg.SER_CFG_TX_ENTRIES (i : Nat) : Fld := ⟨0x14100 + 0x10 * i, 4, 4⟩
/-- SER_CFG.MODE, [1:0], RO (R440). -/
abbrev Reg.SER_CFG_MODE (i : Nat) : Fld := ⟨0x14100 + 0x10 * i, 0, 2⟩
/-- SER_RX.CHARS, [31:16], RO (R440). -/
abbrev Reg.SER_RX_CHARS (i : Nat) : Fld := ⟨0x14104 + 0x10 * i, 16, 16⟩
/-- SER_RX.FRAMING, [15:8], RO (R440). -/
abbrev Reg.SER_RX_FRAMING (i : Nat) : Fld := ⟨0x14104 + 0x10 * i, 8, 8⟩
/-- SER_RX.OVERRUN, [7:0], RO (R440). -/
abbrev Reg.SER_RX_OVERRUN (i : Nat) : Fld := ⟨0x14104 + 0x10 * i, 0, 8⟩
/-- SER_TX.SENT, [31:16], RO (R440). -/
abbrev Reg.SER_TX_SENT (i : Nat) : Fld := ⟨0x14108 + 0x10 * i, 16, 16⟩
/-- SER_TX.REPLACED, [15:8], RO (R440). -/
abbrev Reg.SER_TX_REPLACED (i : Nat) : Fld := ⟨0x14108 + 0x10 * i, 8, 8⟩
/-- SER_TX.CUT, [7:0], RO (R440). -/
abbrev Reg.SER_TX_CUT (i : Nat) : Fld := ⟨0x14108 + 0x10 * i, 0, 8⟩
/-- SER_STAT.AGE, [31:16], RO (R440). -/
abbrev Reg.SER_STAT_AGE (i : Nat) : Fld := ⟨0x1410c + 0x10 * i, 16, 16⟩
/-- SER_STAT.DRIVING, [2], RO (R440). -/
abbrev Reg.SER_STAT_DRIVING (i : Nat) : Fld := ⟨0x1410c + 0x10 * i, 2, 1⟩
/-- SER_STAT.LINE, [1:0], RO (R440). -/
abbrev Reg.SER_STAT_LINE (i : Nat) : Fld := ⟨0x1410c + 0x10 * i, 0, 2⟩
/-- The whole word of register CTRL, page 0x58. -/
abbrev Reg.SF_CTRL_w : Fld := ⟨0x16008, 0, 32⟩
/-- The whole word of register STAT, page 0x58. -/
abbrev Reg.SF_STAT_w : Fld := ⟨0x1600c, 0, 32⟩
/-- The whole word of register FAULT, page 0x58. -/
abbrev Reg.SF_FAULT_w : Fld := ⟨0x1601c, 0, 32⟩
/-- The whole word of register SF_SI_LEVEL, page 0x58. -/
abbrev Reg.SF_SI_LEVEL_w : Fld := ⟨0x16020, 0, 32⟩
/-- The whole word of register SF_SI_DEMAND, page 0x58. -/
abbrev Reg.SF_SI_DEMAND_w : Fld := ⟨0x16024, 0, 32⟩
/-- The whole word of register SF_SI_DISC, page 0x58. -/
abbrev Reg.SF_SI_DISC_w : Fld := ⟨0x16028, 0, 32⟩
/-- The whole word of register SF_SO_STATE, page 0x58. -/
abbrev Reg.SF_SO_STATE_w : Fld := ⟨0x1602c, 0, 32⟩
/-- The whole word of register SF_SO_HOLD, page 0x58. -/
abbrev Reg.SF_SO_HOLD_w : Fld := ⟨0x16030, 0, 32⟩
/-- The whole word of register SF_SO_FAULT, page 0x58. -/
abbrev Reg.SF_SO_FAULT_w : Fld := ⟨0x16034, 0, 32⟩
/-- The whole word of register SF_FB, page 0x58. -/
abbrev Reg.SF_FB_w : Fld := ⟨0x16038, 0, 32⟩
/-- The whole word of register SF_TP, page 0x58. -/
abbrev Reg.SF_TP_w : Fld := ⟨0x1603c, 0, 32⟩
/-- The whole word of register SF_TP_CNT, page 0x58. -/
abbrev Reg.SF_TP_CNT_w : Fld := ⟨0x16040, 0, 32⟩
/-- The whole word of register SF_BIN, page 0x58. -/
abbrev Reg.SF_BIN_w : Fld := ⟨0x16044, 0, 32⟩
/-- The whole word of register SF_BIN_CHECK, page 0x58. -/
abbrev Reg.SF_BIN_CHECK_w : Fld := ⟨0x16048, 0, 32⟩
/-- The whole word of register SF_CFG_CHECK, page 0x58. -/
abbrev Reg.SF_CFG_CHECK_w : Fld := ⟨0x1604c, 0, 32⟩
/-- The whole word of register SF_CNT, page 0x58. -/
abbrev Reg.SF_CNT_w : Fld := ⟨0x16050, 0, 32⟩
/-- The whole word of register SF_SI_TIMER, page 0x58. -/
abbrev Reg.SF_SI_TIMER_w (i : Nat) : Fld := ⟨0x16080 + 0x4 * i, 0, 32⟩
/-- CTRL.CNT_CLR, [0], WO (R515). -/
abbrev Reg.SF_CTRL_CNT_CLR : Fld := ⟨0x16008, 0, 1⟩
/-- STAT.SAFETY_OK, [3], RO (R515). -/
abbrev Reg.SF_STAT_SAFETY_OK : Fld := ⟨0x1600c, 3, 1⟩
/-- STAT.LANE_DIFF, [2], RO (R515). -/
abbrev Reg.SF_STAT_LANE_DIFF : Fld := ⟨0x1600c, 2, 1⟩
/-- STAT.PULSING, [1], RO (R515). -/
abbrev Reg.SF_STAT_PULSING : Fld := ⟨0x1600c, 1, 1⟩
/-- STAT.GATES_LIVE, [0], RO (R515). -/
abbrev Reg.SF_STAT_GATES_LIVE : Fld := ⟨0x1600c, 0, 1⟩
/-- FAULT.CHECK_MISMATCH, [4], RO (R515). -/
abbrev Reg.SF_FAULT_CHECK_MISMATCH : Fld := ⟨0x1601c, 4, 1⟩
/-- FAULT.SWITCH, [3], RO (R515). -/
abbrev Reg.SF_FAULT_SWITCH : Fld := ⟨0x1601c, 3, 1⟩
/-- FAULT.FB, [2], RO (R515). -/
abbrev Reg.SF_FAULT_FB : Fld := ⟨0x1601c, 2, 1⟩
/-- FAULT.DISC, [1], RO (R515). -/
abbrev Reg.SF_FAULT_DISC : Fld := ⟨0x1601c, 1, 1⟩
/-- FAULT.SPLIT, [0], RO (R515). -/
abbrev Reg.SF_FAULT_SPLIT : Fld := ⟨0x1601c, 0, 1⟩
/-- SF_SI_LEVEL.B, [31:16], RO (R516). -/
abbrev Reg.SF_SI_LEVEL_B : Fld := ⟨0x16020, 16, 16⟩
/-- SF_SI_LEVEL.A, [15:0], RO (R516). -/
abbrev Reg.SF_SI_LEVEL_A : Fld := ⟨0x16020, 0, 16⟩
/-- SF_SI_DEMAND.BIN, [31:16], RO (R516). -/
abbrev Reg.SF_SI_DEMAND_BIN : Fld := ⟨0x16024, 16, 16⟩
/-- SF_SI_DEMAND.PROC, [15:0], RO (R516). -/
abbrev Reg.SF_SI_DEMAND_PROC : Fld := ⟨0x16024, 0, 16⟩
/-- SF_SI_DISC.BIN, [31:16], RO (R516). -/
abbrev Reg.SF_SI_DISC_BIN : Fld := ⟨0x16028, 16, 16⟩
/-- SF_SI_DISC.PROC, [15:0], RO (R516). -/
abbrev Reg.SF_SI_DISC_PROC : Fld := ⟨0x16028, 0, 16⟩
/-- SF_SO_STATE.STOP, [31:24], RO (R516). -/
abbrev Reg.SF_SO_STATE_STOP : Fld := ⟨0x1602c, 24, 8⟩
/-- SF_SO_STATE.ENERGISED, [23:16], RO (R516). -/
abbrev Reg.SF_SO_STATE_ENERGISED : Fld := ⟨0x1602c, 16, 8⟩
/-- SF_SO_STATE.BIN_SW, [15:8], RO (R516). -/
abbrev Reg.SF_SO_STATE_BIN_SW : Fld := ⟨0x1602c, 8, 8⟩
/-- SF_SO_STATE.GATE, [7:0], RO (R516). -/
abbrev Reg.SF_SO_STATE_GATE : Fld := ⟨0x1602c, 0, 8⟩
/-- SF_SO_HOLD.SOk, [4k+3:4k], RO (R516). -/
abbrev Reg.SF_SO_HOLD_SO (k : Nat) : Fld := ⟨0x16030, 4 * k, 4⟩
/-- SF_SO_FAULT.BIN_SW, [23:16], RO (R516). -/
abbrev Reg.SF_SO_FAULT_BIN_SW : Fld := ⟨0x16034, 16, 8⟩
/-- SF_SO_FAULT.PROC_SW, [15:8], RO (R516). -/
abbrev Reg.SF_SO_FAULT_PROC_SW : Fld := ⟨0x16034, 8, 8⟩
/-- SF_SO_FAULT.FB, [7:0], RO (R516). -/
abbrev Reg.SF_SO_FAULT_FB : Fld := ⟨0x16034, 0, 8⟩
/-- SF_FB.CONFIGURED, [15:8], RO (R516). -/
abbrev Reg.SF_FB_CONFIGURED : Fld := ⟨0x16038, 8, 8⟩
/-- SF_FB.RELEASED, [7:0], RO (R516). -/
abbrev Reg.SF_FB_RELEASED : Fld := ⟨0x16038, 0, 8⟩
/-- SF_TP.PERIOD, [31:22], RWS (R516). -/
abbrev Reg.SF_TP_PERIOD : Fld := ⟨0x1603c, 22, 10⟩
/-- SF_TP.WIDTH, [21:16], RWS (R516). -/
abbrev Reg.SF_TP_WIDTH : Fld := ⟨0x1603c, 16, 6⟩
/-- SF_TP.EN, [7:0], RWS (R516). -/
abbrev Reg.SF_TP_EN : Fld := ⟨0x1603c, 0, 8⟩
/-- SF_TP_CNT.PASSED, [31:16], RO (R516). -/
abbrev Reg.SF_TP_CNT_PASSED : Fld := ⟨0x16040, 16, 16⟩
/-- SF_TP_CNT.DISCARDED, [15:8], RO (R516). -/
abbrev Reg.SF_TP_CNT_DISCARDED : Fld := ⟨0x16040, 8, 8⟩
/-- SF_TP_CNT.FAILED, [7:0], RO (R516). -/
abbrev Reg.SF_TP_CNT_FAILED : Fld := ⟨0x16040, 0, 8⟩
/-- SF_BIN.CFG_BAD, [3], RO (R516). -/
abbrev Reg.SF_BIN_CFG_BAD : Fld := ⟨0x16044, 3, 1⟩
/-- SF_BIN.MISMATCH, [2], RO (R516). -/
abbrev Reg.SF_BIN_MISMATCH : Fld := ⟨0x16044, 2, 1⟩
/-- SF_BIN.WRITING, [1], RO (R516). -/
abbrev Reg.SF_BIN_WRITING : Fld := ⟨0x16044, 1, 1⟩
/-- SF_BIN.POWER_OK, [0], RO (R516). -/
abbrev Reg.SF_BIN_POWER_OK : Fld := ⟨0x16044, 0, 1⟩
/-- SF_BIN_CHECK.CRC, [31:0], RO (R516). -/
abbrev Reg.SF_BIN_CHECK_CRC : Fld := ⟨0x16048, 0, 32⟩
/-- SF_CFG_CHECK.CRC, [31:0], RO (R516). -/
abbrev Reg.SF_CFG_CHECK_CRC : Fld := ⟨0x1604c, 0, 32⟩
/-- SF_CNT.DEMANDS, [31:16], RO (R516). -/
abbrev Reg.SF_CNT_DEMANDS : Fld := ⟨0x16050, 16, 16⟩
/-- SF_CNT.SPLIT, [15:8], RO (R516). -/
abbrev Reg.SF_CNT_SPLIT : Fld := ⟨0x16050, 8, 8⟩
/-- SF_CNT.RESET_IGNORED, [7:0], RO (R516). -/
abbrev Reg.SF_CNT_RESET_IGNORED : Fld := ⟨0x16050, 0, 8⟩
/-- SF_SI_TIMER.DISC_TIME, [31:16], RO (R516). -/
abbrev Reg.SF_SI_TIMER_DISC_TIME (i : Nat) : Fld := ⟨0x16080 + 0x4 * i, 16, 16⟩
/-- SF_SI_TIMER.TIMER, [15:0], RO (R516). -/
abbrev Reg.SF_SI_TIMER_TIMER (i : Nat) : Fld := ⟨0x16080 + 0x4 * i, 0, 16⟩
/-- The whole word of register STAT, page 0x59. -/
abbrev Reg.SFL_STAT_w : Fld := ⟨0x1640c, 0, 32⟩
/-- The whole word of register FAULT, page 0x59. -/
abbrev Reg.SFL_FAULT_w : Fld := ⟨0x1641c, 0, 32⟩
/-- The whole word of register SF_LOG_CNT, page 0x59. -/
abbrev Reg.SF_LOG_CNT_w : Fld := ⟨0x16420, 0, 32⟩
/-- The whole word of register SF_LOG_SEL, page 0x59. -/
abbrev Reg.SF_LOG_SEL_w : Fld := ⟨0x16424, 0, 32⟩
/-- The whole word of register SF_LOG_HDR, page 0x59. -/
abbrev Reg.SF_LOG_HDR_w : Fld := ⟨0x16428, 0, 32⟩
/-- The whole word of register SF_LOG_SEC_LO, page 0x59. -/
abbrev Reg.SF_LOG_SEC_LO_w : Fld := ⟨0x1642c, 0, 32⟩
/-- The whole word of register SF_LOG_SEC_HI, page 0x59. -/
abbrev Reg.SF_LOG_SEC_HI_w : Fld := ⟨0x16430, 0, 32⟩
/-- The whole word of register SF_LOG_NS, page 0x59. -/
abbrev Reg.SF_LOG_NS_w : Fld := ⟨0x16434, 0, 32⟩
/-- The whole word of register SF_LOG_DATA, page 0x59. -/
abbrev Reg.SF_LOG_DATA_w (i : Nat) : Fld := ⟨0x16438 + 0x4 * i, 0, 32⟩
/-- The whole word of register SF_PW, page 0x59. -/
abbrev Reg.SF_PW_w : Fld := ⟨0x16458, 0, 32⟩
/-- STAT.LOG_LOW, [1], RO (R518). -/
abbrev Reg.SFL_STAT_LOG_LOW : Fld := ⟨0x1640c, 1, 1⟩
/-- STAT.LOG_FULL, [0], RO (R518). -/
abbrev Reg.SFL_STAT_LOG_FULL : Fld := ⟨0x1640c, 0, 1⟩
/-- FAULT.LOG_DIFF, [0], RO (R518). -/
abbrev Reg.SFL_FAULT_LOG_DIFF : Fld := ⟨0x1641c, 0, 1⟩
/-- SF_LOG_CNT.USED, [24:16], RO (R518). -/
abbrev Reg.SF_LOG_CNT_USED : Fld := ⟨0x16420, 16, 9⟩
/-- SF_LOG_CNT.FREE, [8:0], RO (R518). -/
abbrev Reg.SF_LOG_CNT_FREE : Fld := ⟨0x16420, 0, 9⟩
/-- SF_LOG_SEL.ENTRY, [8:0], RW (R518). -/
abbrev Reg.SF_LOG_SEL_ENTRY : Fld := ⟨0x16424, 0, 9⟩
/-- SF_LOG_HDR.CLIENT, [31:24], RO (R518). -/
abbrev Reg.SF_LOG_HDR_CLIENT : Fld := ⟨0x16428, 24, 8⟩
/-- SF_LOG_HDR.FLAGS, [23:16], RO (R518). -/
abbrev Reg.SF_LOG_HDR_FLAGS : Fld := ⟨0x16428, 16, 8⟩
/-- SF_LOG_HDR.KIND, [15:8], RO (R518). -/
abbrev Reg.SF_LOG_HDR_KIND : Fld := ⟨0x16428, 8, 8⟩
/-- SF_LOG_HDR.NUMBER, [7:0], RO (R518). -/
abbrev Reg.SF_LOG_HDR_NUMBER : Fld := ⟨0x16428, 0, 8⟩
/-- SF_LOG_SEC_LO.SEC, [31:0], RO (R518). -/
abbrev Reg.SF_LOG_SEC_LO_SEC : Fld := ⟨0x1642c, 0, 32⟩
/-- SF_LOG_SEC_HI.FRAC, [31:16], RO (R518). -/
abbrev Reg.SF_LOG_SEC_HI_FRAC : Fld := ⟨0x16430, 16, 16⟩
/-- SF_LOG_SEC_HI.SEC, [15:0], RO (R518). -/
abbrev Reg.SF_LOG_SEC_HI_SEC : Fld := ⟨0x16430, 0, 16⟩
/-- SF_LOG_NS.NS, [29:0], RO (R518). -/
abbrev Reg.SF_LOG_NS_NS : Fld := ⟨0x16434, 0, 30⟩
/-- SF_LOG_DATA.DATA, [31:0], RO (R518). -/
abbrev Reg.SF_LOG_DATA_DATA (i : Nat) : Fld := ⟨0x16438 + 0x4 * i, 0, 32⟩
/-- SF_PW.CHANGES, [15:8], RO (R518). -/
abbrev Reg.SF_PW_CHANGES : Fld := ⟨0x16458, 8, 8⟩
/-- SF_PW.INITIAL, [0], RO (R518). -/
abbrev Reg.SF_PW_INITIAL : Fld := ⟨0x16458, 0, 1⟩
/-- The whole word of register CTRL, page 0x5c. -/
abbrev Reg.LOG_CTRL_w : Fld := ⟨0x17008, 0, 32⟩
/-- The whole word of register STAT, page 0x5c. -/
abbrev Reg.LOG_STAT_w : Fld := ⟨0x1700c, 0, 32⟩
/-- The whole word of register FAULT, page 0x5c. -/
abbrev Reg.LOG_FAULT_w : Fld := ⟨0x1701c, 0, 32⟩
/-- The whole word of register LOG_FIRST, page 0x5c. -/
abbrev Reg.LOG_FIRST_w : Fld := ⟨0x17020, 0, 32⟩
/-- The whole word of register LOG_LAST, page 0x5c. -/
abbrev Reg.LOG_LAST_w : Fld := ⟨0x17024, 0, 32⟩
/-- The whole word of register LOG_LEVEL, page 0x5c. -/
abbrev Reg.LOG_LEVEL_w : Fld := ⟨0x17028, 0, 32⟩
/-- The whole word of register LOG_FILL, page 0x5c. -/
abbrev Reg.LOG_FILL_w : Fld := ⟨0x1702c, 0, 32⟩
/-- The whole word of register LOG_QUEUE, page 0x5c. -/
abbrev Reg.LOG_QUEUE_w : Fld := ⟨0x17030, 0, 32⟩
/-- The whole word of register LOG_DROP, page 0x5c. -/
abbrev Reg.LOG_DROP_w : Fld := ⟨0x17034, 0, 32⟩
/-- The whole word of register LOG_OVERWRITE, page 0x5c. -/
abbrev Reg.LOG_OVERWRITE_w : Fld := ⟨0x17038, 0, 32⟩
/-- The whole word of register LOG_CNT, page 0x5c. -/
abbrev Reg.LOG_CNT_w : Fld := ⟨0x1703c, 0, 32⟩
/-- The whole word of register LOG_RD_SEQ, page 0x5c. -/
abbrev Reg.LOG_RD_SEQ_w : Fld := ⟨0x17040, 0, 32⟩
/-- The whole word of register LOG_RD_OFS, page 0x5c. -/
abbrev Reg.LOG_RD_OFS_w : Fld := ⟨0x17044, 0, 32⟩
/-- The whole word of register LOG_RD_STAT, page 0x5c. -/
abbrev Reg.LOG_RD_STAT_w : Fld := ⟨0x17048, 0, 32⟩
/-- The whole word of register LOG_RD_NEXT, page 0x5c. -/
abbrev Reg.LOG_RD_NEXT_w : Fld := ⟨0x1704c, 0, 32⟩
/-- The whole word of register LOG_RD_HDR, page 0x5c. -/
abbrev Reg.LOG_RD_HDR_w (i : Nat) : Fld := ⟨0x17050 + 0x4 * i, 0, 32⟩
/-- The whole word of register LOG_NOTE_CMD, page 0x5c. -/
abbrev Reg.LOG_NOTE_CMD_w : Fld := ⟨0x17060, 0, 32⟩
/-- The whole word of register LOG_SICK_SEL, page 0x5c. -/
abbrev Reg.LOG_SICK_SEL_w : Fld := ⟨0x17064, 0, 32⟩
/-- The whole word of register LOG_SICK_CNT, page 0x5c. -/
abbrev Reg.LOG_SICK_CNT_w : Fld := ⟨0x17068, 0, 32⟩
/-- The whole word of register LOG_SICK_ENT, page 0x5c. -/
abbrev Reg.LOG_SICK_ENT_w (i : Nat) : Fld := ⟨0x1706c + 0x4 * i, 0, 32⟩
/-- The whole word of register LOG_NOTE, page 0x5c. -/
abbrev Reg.LOG_NOTE_w (i : Nat) : Fld := ⟨0x17080 + 0x4 * i, 0, 32⟩
/-- The whole word of register LOG_RD_DATA, page 0x5c. -/
abbrev Reg.LOG_RD_DATA_w (i : Nat) : Fld := ⟨0x17100 + 0x4 * i, 0, 32⟩
/-- CTRL.CNT_CLR, [0], WO (R537). -/
abbrev Reg.LOG_CTRL_CNT_CLR : Fld := ⟨0x17008, 0, 1⟩
/-- STAT.THROTTLED, [5], RO (R537). -/
abbrev Reg.LOG_STAT_THROTTLED : Fld := ⟨0x1700c, 5, 1⟩
/-- STAT.WINDOW_HELD, [4], RO (R537). -/
abbrev Reg.LOG_STAT_WINDOW_HELD : Fld := ⟨0x1700c, 4, 1⟩
/-- STAT.SRAM_ONLY, [3], RO (R537). -/
abbrev Reg.LOG_STAT_SRAM_ONLY : Fld := ⟨0x1700c, 3, 1⟩
/-- STAT.FULL, [2], RO (R537). -/
abbrev Reg.LOG_STAT_FULL : Fld := ⟨0x1700c, 2, 1⟩
/-- STAT.INDEXING, [1], RO (R537). -/
abbrev Reg.LOG_STAT_INDEXING : Fld := ⟨0x1700c, 1, 1⟩
/-- STAT.RECORDING, [0], RO (R537). -/
abbrev Reg.LOG_STAT_RECORDING : Fld := ⟨0x1700c, 0, 1⟩
/-- FAULT.LOG_FAIL, [0], RO (R537). -/
abbrev Reg.LOG_FAULT_LOG_FAIL : Fld := ⟨0x1701c, 0, 1⟩
/-- LOG_FIRST.SEQ, [31:0], RO (R538). -/
abbrev Reg.LOG_FIRST_SEQ : Fld := ⟨0x17020, 0, 32⟩
/-- LOG_LAST.SEQ, [31:0], RO (R538). -/
abbrev Reg.LOG_LAST_SEQ : Fld := ⟨0x17024, 0, 32⟩
/-- LOG_RD_NEXT.SEQ, [31:0], RO (R538). -/
abbrev Reg.LOG_RD_NEXT_SEQ : Fld := ⟨0x1704c, 0, 32⟩
/-- LOG_LEVEL.LEVEL, [2:0], RW (R538). -/
abbrev Reg.LOG_LEVEL_LEVEL : Fld := ⟨0x17028, 0, 3⟩
/-- LOG_FILL.FREE, [31:16], RO (R538). -/
abbrev Reg.LOG_FILL_FREE : Fld := ⟨0x1702c, 16, 16⟩
/-- LOG_FILL.RETIRED, [6:0], RO (R538). -/
abbrev Reg.LOG_FILL_RETIRED : Fld := ⟨0x1702c, 0, 7⟩
/-- LOG_QUEUE.PEAK, [31:16], RO (R538). -/
abbrev Reg.LOG_QUEUE_PEAK : Fld := ⟨0x17030, 16, 16⟩
/-- LOG_QUEUE.NOW, [15:0], RO (R538). -/
abbrev Reg.LOG_QUEUE_NOW : Fld := ⟨0x17030, 0, 16⟩
/-- LOG_DROP.FULL, [31:24], RO (R538). -/
abbrev Reg.LOG_DROP_FULL : Fld := ⟨0x17034, 24, 8⟩
/-- LOG_DROP.QUEUE, [23:16], RO (R538). -/
abbrev Reg.LOG_DROP_QUEUE : Fld := ⟨0x17034, 16, 8⟩
/-- LOG_DROP.THROTTLE, [15:8], RO (R538). -/
abbrev Reg.LOG_DROP_THROTTLE : Fld := ⟨0x17034, 8, 8⟩
/-- LOG_DROP.RATE, [7:0], RO (R538). -/
abbrev Reg.LOG_DROP_RATE : Fld := ⟨0x17034, 0, 8⟩
/-- LOG_OVERWRITE.COUNT, [31:0], RO (R538). -/
abbrev Reg.LOG_OVERWRITE_COUNT : Fld := ⟨0x17038, 0, 32⟩
/-- LOG_CNT.CROSS_RX, [31:16], RO (R538). -/
abbrev Reg.LOG_CNT_CROSS_RX : Fld := ⟨0x1703c, 16, 16⟩
/-- LOG_CNT.CROSS_TX, [15:8], RO (R538). -/
abbrev Reg.LOG_CNT_CROSS_TX : Fld := ⟨0x1703c, 8, 8⟩
/-- LOG_CNT.CROSS_LOST, [7:0], RO (R538). -/
abbrev Reg.LOG_CNT_CROSS_LOST : Fld := ⟨0x1703c, 0, 8⟩
/-- LOG_RD_SEQ.SEQ, [31:0], RW (R538). -/
abbrev Reg.LOG_RD_SEQ_SEQ : Fld := ⟨0x17040, 0, 32⟩
/-- LOG_RD_OFS.OFS, [1:0], RW (R538). -/
abbrev Reg.LOG_RD_OFS_OFS : Fld := ⟨0x17044, 0, 2⟩
/-- LOG_RD_STAT.STATUS, [3:0], RO (R538). -/
abbrev Reg.LOG_RD_STAT_STATUS : Fld := ⟨0x17048, 0, 4⟩
/-- LOG_RD_HDR.DATA, [31:0], RO (R538). -/
abbrev Reg.LOG_RD_HDR_DATA (i : Nat) : Fld := ⟨0x17050 + 0x4 * i, 0, 32⟩
/-- LOG_RD_DATA.DATA, [31:0], RO (R538). -/
abbrev Reg.LOG_RD_DATA_DATA (i : Nat) : Fld := ⟨0x17100 + 0x4 * i, 0, 32⟩
/-- LOG_SICK_ENT.DATA, [31:0], RO (R538). -/
abbrev Reg.LOG_SICK_ENT_DATA (i : Nat) : Fld := ⟨0x1706c + 0x4 * i, 0, 32⟩
/-- LOG_NOTE_CMD.GO, [31], WO (R538). -/
abbrev Reg.LOG_NOTE_CMD_GO : Fld := ⟨0x17060, 31, 1⟩
/-- LOG_NOTE_CMD.RESULT, [23:16], RO (R538). -/
abbrev Reg.LOG_NOTE_CMD_RESULT : Fld := ⟨0x17060, 16, 8⟩
/-- LOG_NOTE_CMD.TAG, [15:8], RW (R538). -/
abbrev Reg.LOG_NOTE_CMD_TAG : Fld := ⟨0x17060, 8, 8⟩
/-- LOG_NOTE_CMD.SEVERITY, [7:5], RW (R538). -/
abbrev Reg.LOG_NOTE_CMD_SEVERITY : Fld := ⟨0x17060, 5, 3⟩
/-- LOG_NOTE_CMD.WORDS, [4:0], RW (R538). -/
abbrev Reg.LOG_NOTE_CMD_WORDS : Fld := ⟨0x17060, 0, 5⟩
/-- LOG_NOTE.DATA, [31:0], RW (R538). -/
abbrev Reg.LOG_NOTE_DATA (i : Nat) : Fld := ⟨0x17080 + 0x4 * i, 0, 32⟩
/-- LOG_SICK_SEL.AGE, [5:0], RW (R538). -/
abbrev Reg.LOG_SICK_SEL_AGE : Fld := ⟨0x17064, 0, 6⟩
/-- LOG_SICK_CNT.TOTAL, [31:16], RO (R538). -/
abbrev Reg.LOG_SICK_CNT_TOTAL : Fld := ⟨0x17068, 16, 16⟩
/-- LOG_SICK_CNT.LOST, [15:8], RO (R538). -/
abbrev Reg.LOG_SICK_CNT_LOST : Fld := ⟨0x17068, 8, 8⟩
/-- LOG_SICK_CNT.HELD, [6:0], RO (R538). -/
abbrev Reg.LOG_SICK_CNT_HELD : Fld := ⟨0x17068, 0, 7⟩

end Sys2Proof.Machine
end

