-- ==== Sys2Proof/Machine/RegsNav.lean ====
section
/-! DEFINITION. Names of the register fields of pages 0x8, 0x9, 0xa, 0xb, 0x10, 0x11, 0x20: byte address, lowest bit, width,
written from the register tables of spec/ (each docstring names the rule). -/

namespace Sys2Proof.Machine

/-- The whole word of register CTRL, page 0x8. -/
abbrev Reg.INT_CTRL_w : Fld := ⟨0x2008, 0, 32⟩
/-- The whole word of register STAT, page 0x8. -/
abbrev Reg.INT_STAT_w : Fld := ⟨0x200c, 0, 32⟩
/-- The whole word of register FAULT, page 0x8. -/
abbrev Reg.INT_FAULT_w : Fld := ⟨0x201c, 0, 32⟩
/-- The whole word of register INT_DESELECT, page 0x8. -/
abbrev Reg.INT_DESELECT_w : Fld := ⟨0x2020, 0, 32⟩
/-- The whole word of register INT_CMD, page 0x8. -/
abbrev Reg.INT_CMD_w : Fld := ⟨0x2024, 0, 32⟩
/-- The whole word of register INT_ADMITTED, page 0x8. -/
abbrev Reg.INT_ADMITTED_w : Fld := ⟨0x2028, 0, 32⟩
/-- The whole word of register INT_REJECTED, page 0x8. -/
abbrev Reg.INT_REJECTED_w : Fld := ⟨0x202c, 0, 32⟩
/-- The whole word of register INT_TDEG, page 0x8. -/
abbrev Reg.INT_TDEG_w : Fld := ⟨0x2030, 0, 32⟩
/-- The whole word of register INT_LATE, page 0x8. -/
abbrev Reg.INT_LATE_w : Fld := ⟨0x2034, 0, 32⟩
/-- The whole word of register INT_PARSE, page 0x8. -/
abbrev Reg.INT_PARSE_w : Fld := ⟨0x2038, 0, 32⟩
/-- The whole word of register INT_GROUPS, page 0x8. -/
abbrev Reg.INT_GROUPS_w : Fld := ⟨0x203c, 0, 32⟩
/-- The whole word of register INT_OVERFLOW, page 0x8. -/
abbrev Reg.INT_OVERFLOW_w : Fld := ⟨0x2040, 0, 32⟩
/-- The whole word of register SLOT_TOFS, page 0x8. -/
abbrev Reg.SLOT_TOFS_w (i : Nat) : Fld := ⟨0x2100 + 0x8 * i, 0, 32⟩
/-- The whole word of register SLOT_TRATE, page 0x8. -/
abbrev Reg.SLOT_TRATE_w (i : Nat) : Fld := ⟨0x2104 + 0x8 * i, 0, 32⟩
/-- CTRL.CNT_CLR, [0], WO (R145). -/
abbrev Reg.INT_CTRL_CNT_CLR : Fld := ⟨0x2008, 0, 1⟩
/-- STAT.ATT_MISSING, [7], RO (R145). -/
abbrev Reg.INT_STAT_ATT_MISSING : Fld := ⟨0x200c, 7, 1⟩
/-- STAT.CHRON_INVALID, [6], RO (R145). -/
abbrev Reg.INT_STAT_CHRON_INVALID : Fld := ⟨0x200c, 6, 1⟩
/-- STAT.HDG_DISAGREE, [5], RO (R145). -/
abbrev Reg.INT_STAT_HDG_DISAGREE : Fld := ⟨0x200c, 5, 1⟩
/-- STAT.POS_DISAGREE, [4], RO (R145). -/
abbrev Reg.INT_STAT_POS_DISAGREE : Fld := ⟨0x200c, 4, 1⟩
/-- STAT.HDG_SINGLE, [3], RO (R145). -/
abbrev Reg.INT_STAT_HDG_SINGLE : Fld := ⟨0x200c, 3, 1⟩
/-- STAT.POS_SINGLE, [2], RO (R145). -/
abbrev Reg.INT_STAT_POS_SINGLE : Fld := ⟨0x200c, 2, 1⟩
/-- STAT.HEADING_LOSS, [1], RO (R145). -/
abbrev Reg.INT_STAT_HEADING_LOSS : Fld := ⟨0x200c, 1, 1⟩
/-- STAT.REF_LOSS, [0], RO (R145). -/
abbrev Reg.INT_STAT_REF_LOSS : Fld := ⟨0x200c, 0, 1⟩
/-- FAULT.OVERFLOW, [0], RO (R145). -/
abbrev Reg.INT_FAULT_OVERFLOW : Fld := ⟨0x201c, 0, 1⟩
/-- INT_DESELECT.MASK, [29:0], RW (R146). -/
abbrev Reg.INT_DESELECT_MASK : Fld := ⟨0x2020, 0, 30⟩
/-- INT_CMD.GO, [31], WO (R146). -/
abbrev Reg.INT_CMD_GO : Fld := ⟨0x2024, 31, 1⟩
/-- INT_CMD.RESULT, [23:16], RO (R146). -/
abbrev Reg.INT_CMD_RESULT : Fld := ⟨0x2024, 16, 8⟩
/-- INT_CMD.CMD, [15:8], RW (R146). -/
abbrev Reg.INT_CMD_CMD : Fld := ⟨0x2024, 8, 8⟩
/-- INT_CMD.SLOT, [4:0], RW (R146). -/
abbrev Reg.INT_CMD_SLOT : Fld := ⟨0x2024, 0, 5⟩
/-- INT_ADMITTED.MASK, [29:0], RO (R146). -/
abbrev Reg.INT_ADMITTED_MASK : Fld := ⟨0x2028, 0, 30⟩
/-- INT_REJECTED.MASK, [29:0], RO (R146). -/
abbrev Reg.INT_REJECTED_MASK : Fld := ⟨0x202c, 0, 30⟩
/-- INT_TDEG.MASK, [29:0], RO (R146). -/
abbrev Reg.INT_TDEG_MASK : Fld := ⟨0x2030, 0, 30⟩
/-- INT_LATE.DISCARDED, [31:16], RO (R146). -/
abbrev Reg.INT_LATE_DISCARDED : Fld := ⟨0x2034, 16, 16⟩
/-- INT_LATE.APPLIED, [15:0], RO (R146). -/
abbrev Reg.INT_LATE_APPLIED : Fld := ⟨0x2034, 0, 16⟩
/-- INT_PARSE.CHECKSUM, [31:16], RO (R146). -/
abbrev Reg.INT_PARSE_CHECKSUM : Fld := ⟨0x2038, 16, 16⟩
/-- INT_PARSE.NO_MATCH, [15:0], RO (R146). -/
abbrev Reg.INT_PARSE_NO_MATCH : Fld := ⟨0x2038, 0, 16⟩
/-- INT_GROUPS.POS, [15:12], RO (R146). -/
abbrev Reg.INT_GROUPS_POS : Fld := ⟨0x203c, 12, 4⟩
/-- INT_GROUPS.HDG, [11:8], RO (R146). -/
abbrev Reg.INT_GROUPS_HDG : Fld := ⟨0x203c, 8, 4⟩
/-- INT_GROUPS.MRU, [7:4], RO (R146). -/
abbrev Reg.INT_GROUPS_MRU : Fld := ⟨0x203c, 4, 4⟩
/-- INT_GROUPS.WIND, [3:0], RO (R146). -/
abbrev Reg.INT_GROUPS_WIND : Fld := ⟨0x203c, 0, 4⟩
/-- INT_OVERFLOW.CNT, [15:0], RO (R146). -/
abbrev Reg.INT_OVERFLOW_CNT : Fld := ⟨0x2040, 0, 16⟩
/-- SLOT_TOFS.OFS, [31:0], RO (R146). -/
abbrev Reg.SLOT_TOFS_OFS (i : Nat) : Fld := ⟨0x2100 + 0x8 * i, 0, 32⟩
/-- SLOT_TRATE.RATE, [31:0], RO (R146). -/
abbrev Reg.SLOT_TRATE_RATE (i : Nat) : Fld := ⟨0x2104 + 0x8 * i, 0, 32⟩
/-- The whole word of register SLOT_STAT, page 0x9. -/
abbrev Reg.SLOT_STAT_w (i : Nat) : Fld := ⟨0x2420 + 0x10 * i, 0, 32⟩
/-- The whole word of register SLOT_INNOV, page 0x9. -/
abbrev Reg.SLOT_INNOV_w (i : Nat) : Fld := ⟨0x2424 + 0x10 * i, 0, 32⟩
/-- The whole word of register SLOT_CNT, page 0x9. -/
abbrev Reg.SLOT_CNT_w (i : Nat) : Fld := ⟨0x2428 + 0x10 * i, 0, 32⟩
/-- The whole word of register SLOT_AGE, page 0x9. -/
abbrev Reg.SLOT_AGE_w (i : Nat) : Fld := ⟨0x242c + 0x10 * i, 0, 32⟩
/-- SLOT_STAT.WEIGHT, [31:24], RO (R148). -/
abbrev Reg.SLOT_STAT_WEIGHT (i : Nat) : Fld := ⟨0x2420 + 0x10 * i, 24, 8⟩
/-- SLOT_STAT.LEARNING, [23], RO (R148). -/
abbrev Reg.SLOT_STAT_LEARNING (i : Nat) : Fld := ⟨0x2420 + 0x10 * i, 23, 1⟩
/-- SLOT_STAT.TIME_MODE, [22:21], RO (R148). -/
abbrev Reg.SLOT_STAT_TIME_MODE (i : Nat) : Fld := ⟨0x2420 + 0x10 * i, 21, 2⟩
/-- SLOT_STAT.NO_ORIGIN, [20], RO (R148). -/
abbrev Reg.SLOT_STAT_NO_ORIGIN (i : Nat) : Fld := ⟨0x2420 + 0x10 * i, 20, 1⟩
/-- SLOT_STAT.SENSOR_INVALID, [19], RO (R148). -/
abbrev Reg.SLOT_STAT_SENSOR_INVALID (i : Nat) : Fld := ⟨0x2420 + 0x10 * i, 19, 1⟩
/-- SLOT_STAT.RAMP, [18], RO (R148). -/
abbrev Reg.SLOT_STAT_RAMP (i : Nat) : Fld := ⟨0x2420 + 0x10 * i, 18, 1⟩
/-- SLOT_STAT.DISAGREE, [17], RO (R148). -/
abbrev Reg.SLOT_STAT_DISAGREE (i : Nat) : Fld := ⟨0x2420 + 0x10 * i, 17, 1⟩
/-- SLOT_STAT.TIME_DEGRADED, [16], RO (R148). -/
abbrev Reg.SLOT_STAT_TIME_DEGRADED (i : Nat) : Fld := ⟨0x2420 + 0x10 * i, 16, 1⟩
/-- SLOT_STAT.GROUP, [15:12], RO (R148). -/
abbrev Reg.SLOT_STAT_GROUP (i : Nat) : Fld := ⟨0x2420 + 0x10 * i, 12, 4⟩
/-- SLOT_STAT.SOURCE, [11:8], RO (R148). -/
abbrev Reg.SLOT_STAT_SOURCE (i : Nat) : Fld := ⟨0x2420 + 0x10 * i, 8, 4⟩
/-- SLOT_STAT.KIND, [7:6], RO (R148). -/
abbrev Reg.SLOT_STAT_KIND (i : Nat) : Fld := ⟨0x2420 + 0x10 * i, 6, 2⟩
/-- SLOT_STAT.STATE, [3:0], RO (R148). -/
abbrev Reg.SLOT_STAT_STATE (i : Nat) : Fld := ⟨0x2420 + 0x10 * i, 0, 4⟩
/-- SLOT_INNOV.NIS, [31:16], RO (R148). -/
abbrev Reg.SLOT_INNOV_NIS (i : Nat) : Fld := ⟨0x2424 + 0x10 * i, 16, 16⟩
/-- SLOT_INNOV.DEV, [15:0], RO (R148). -/
abbrev Reg.SLOT_INNOV_DEV (i : Nat) : Fld := ⟨0x2424 + 0x10 * i, 0, 16⟩
/-- SLOT_CNT.MED_FAIL, [31:24], RO (R148). -/
abbrev Reg.SLOT_CNT_MED_FAIL (i : Nat) : Fld := ⟨0x2428 + 0x10 * i, 24, 8⟩
/-- SLOT_CNT.GATE_FAIL, [23:16], RO (R148). -/
abbrev Reg.SLOT_CNT_GATE_FAIL (i : Nat) : Fld := ⟨0x2428 + 0x10 * i, 16, 8⟩
/-- SLOT_CNT.SAMPLES, [15:0], RO (R148). -/
abbrev Reg.SLOT_CNT_SAMPLES (i : Nat) : Fld := ⟨0x2428 + 0x10 * i, 0, 16⟩
/-- SLOT_AGE.AGE, [31:16], RO (R148). -/
abbrev Reg.SLOT_AGE_AGE (i : Nat) : Fld := ⟨0x242c + 0x10 * i, 16, 16⟩
/-- SLOT_AGE.ADMIT, [15:0], RO (R148). -/
abbrev Reg.SLOT_AGE_ADMIT (i : Nat) : Fld := ⟨0x242c + 0x10 * i, 0, 16⟩
/-- The whole word of register CTRL, page 0xa. -/
abbrev Reg.PLOT_CTRL_w : Fld := ⟨0x2808, 0, 32⟩
/-- The whole word of register STAT, page 0xa. -/
abbrev Reg.PLOT_STAT_w : Fld := ⟨0x280c, 0, 32⟩
/-- The whole word of register FAULT, page 0xa. -/
abbrev Reg.PLOT_FAULT_w : Fld := ⟨0x281c, 0, 32⟩
/-- The whole word of register PLOT_SEQ, page 0xa. -/
abbrev Reg.PLOT_SEQ_w : Fld := ⟨0x2820, 0, 32⟩
/-- The whole word of register PLOT_FLAGS, page 0xa. -/
abbrev Reg.PLOT_FLAGS_w : Fld := ⟨0x2824, 0, 32⟩
/-- The whole word of register PLOT_SEC_LO, page 0xa. -/
abbrev Reg.PLOT_SEC_LO_w : Fld := ⟨0x2828, 0, 32⟩
/-- The whole word of register PLOT_SEC_HI, page 0xa. -/
abbrev Reg.PLOT_SEC_HI_w : Fld := ⟨0x282c, 0, 32⟩
/-- The whole word of register PLOT_NS, page 0xa. -/
abbrev Reg.PLOT_NS_w : Fld := ⟨0x2830, 0, 32⟩
/-- The whole word of register PLOT_NORTH, page 0xa. -/
abbrev Reg.PLOT_NORTH_w : Fld := ⟨0x2834, 0, 32⟩
/-- The whole word of register PLOT_EAST, page 0xa. -/
abbrev Reg.PLOT_EAST_w : Fld := ⟨0x2838, 0, 32⟩
/-- The whole word of register PLOT_HDG, page 0xa. -/
abbrev Reg.PLOT_HDG_w : Fld := ⟨0x283c, 0, 32⟩
/-- The whole word of register PLOT_U, page 0xa. -/
abbrev Reg.PLOT_U_w : Fld := ⟨0x2840, 0, 32⟩
/-- The whole word of register PLOT_V, page 0xa. -/
abbrev Reg.PLOT_V_w : Fld := ⟨0x2844, 0, 32⟩
/-- The whole word of register PLOT_W, page 0xa. -/
abbrev Reg.PLOT_W_w : Fld := ⟨0x2848, 0, 32⟩
/-- The whole word of register PLOT_R, page 0xa. -/
abbrev Reg.PLOT_R_w : Fld := ⟨0x284c, 0, 32⟩
/-- The whole word of register PLOT_ENV_X, page 0xa. -/
abbrev Reg.PLOT_ENV_X_w : Fld := ⟨0x2850, 0, 32⟩
/-- The whole word of register PLOT_ENV_Y, page 0xa. -/
abbrev Reg.PLOT_ENV_Y_w : Fld := ⟨0x2854, 0, 32⟩
/-- The whole word of register PLOT_ENV_MZ, page 0xa. -/
abbrev Reg.PLOT_ENV_MZ_w : Fld := ⟨0x2858, 0, 32⟩
/-- The whole word of register PLOT_WIND_X, page 0xa. -/
abbrev Reg.PLOT_WIND_X_w : Fld := ⟨0x285c, 0, 32⟩
/-- The whole word of register PLOT_WIND_Y, page 0xa. -/
abbrev Reg.PLOT_WIND_Y_w : Fld := ⟨0x2860, 0, 32⟩
/-- The whole word of register PLOT_WIND_MZ, page 0xa. -/
abbrev Reg.PLOT_WIND_MZ_w : Fld := ⟨0x2864, 0, 32⟩
/-- The whole word of register PLOT_WIND_REL, page 0xa. -/
abbrev Reg.PLOT_WIND_REL_w : Fld := ⟨0x2868, 0, 32⟩
/-- The whole word of register PLOT_ATT, page 0xa. -/
abbrev Reg.PLOT_ATT_w : Fld := ⟨0x286c, 0, 32⟩
/-- The whole word of register PLOT_HEAVE, page 0xa. -/
abbrev Reg.PLOT_HEAVE_w : Fld := ⟨0x2870, 0, 32⟩
/-- The whole word of register PLOT_SIG_POS, page 0xa. -/
abbrev Reg.PLOT_SIG_POS_w : Fld := ⟨0x2874, 0, 32⟩
/-- The whole word of register PLOT_SIG_HDG, page 0xa. -/
abbrev Reg.PLOT_SIG_HDG_w : Fld := ⟨0x2878, 0, 32⟩
/-- The whole word of register PLOT_SEQ_END, page 0xa. -/
abbrev Reg.PLOT_SEQ_END_w : Fld := ⟨0x287c, 0, 32⟩
/-- The whole word of register PLOT_VALID_TIME, page 0xa. -/
abbrev Reg.PLOT_VALID_TIME_w : Fld := ⟨0x2880, 0, 32⟩
/-- The whole word of register PLOT_HIST, page 0xa. -/
abbrev Reg.PLOT_HIST_w : Fld := ⟨0x2884, 0, 32⟩
/-- The whole word of register PLOT_RERUN, page 0xa. -/
abbrev Reg.PLOT_RERUN_w : Fld := ⟨0x2888, 0, 32⟩
/-- The whole word of register PLOT_BIAS_N, page 0xa. -/
abbrev Reg.PLOT_BIAS_N_w (i : Nat) : Fld := ⟨0x2900 + 0x8 * i, 0, 32⟩
/-- The whole word of register PLOT_BIAS_E, page 0xa. -/
abbrev Reg.PLOT_BIAS_E_w (i : Nat) : Fld := ⟨0x2904 + 0x8 * i, 0, 32⟩
/-- The whole word of register PLOT_BIAS_H, page 0xa. -/
abbrev Reg.PLOT_BIAS_H_w (i : Nat) : Fld := ⟨0x2960 + 0x4 * i, 0, 32⟩
/-- CTRL.REINIT, [1], WO (R184). -/
abbrev Reg.PLOT_CTRL_REINIT : Fld := ⟨0x2808, 1, 1⟩
/-- CTRL.CNT_CLR, [0], WO (R184). -/
abbrev Reg.PLOT_CTRL_CNT_CLR : Fld := ⟨0x2808, 0, 1⟩
/-- STAT.RERUN, [7], RO (R184). -/
abbrev Reg.PLOT_STAT_RERUN : Fld := ⟨0x280c, 7, 1⟩
/-- STAT.SINGLE_FE, [6], RO (R184). -/
abbrev Reg.PLOT_STAT_SINGLE_FE : Fld := ⟨0x280c, 6, 1⟩
/-- STAT.ENV_VALID, [5], RO (R184). -/
abbrev Reg.PLOT_STAT_ENV_VALID : Fld := ⟨0x280c, 5, 1⟩
/-- STAT.HDG_PREDICT, [4], RO (R184). -/
abbrev Reg.PLOT_STAT_HDG_PREDICT : Fld := ⟨0x280c, 4, 1⟩
/-- STAT.POS_PREDICT, [3], RO (R184). -/
abbrev Reg.PLOT_STAT_POS_PREDICT : Fld := ⟨0x280c, 3, 1⟩
/-- STAT.STATE, [1:0], RO (R184). -/
abbrev Reg.PLOT_STAT_STATE : Fld := ⟨0x280c, 0, 2⟩
/-- FAULT.NUMERIC, [1], RO (R184). -/
abbrev Reg.PLOT_FAULT_NUMERIC : Fld := ⟨0x281c, 1, 1⟩
/-- FAULT.FE_LOST, [0], RO (R184). -/
abbrev Reg.PLOT_FAULT_FE_LOST : Fld := ⟨0x281c, 0, 1⟩
/-- PLOT_SEQ.SEQ, [31:0], RO (R185). -/
abbrev Reg.PLOT_SEQ_SEQ : Fld := ⟨0x2820, 0, 32⟩
/-- PLOT_SEQ_END.SEQ, [31:0], RO (R185). -/
abbrev Reg.PLOT_SEQ_END_SEQ : Fld := ⟨0x287c, 0, 32⟩
/-- PLOT_FLAGS.SINGLE_FE, [13], RO (R185). -/
abbrev Reg.PLOT_FLAGS_SINGLE_FE : Fld := ⟨0x2824, 13, 1⟩
/-- PLOT_FLAGS.RERUN, [12], RO (R185). -/
abbrev Reg.PLOT_FLAGS_RERUN : Fld := ⟨0x2824, 12, 1⟩
/-- PLOT_FLAGS.THRUST_CMD, [11], RO (R185). -/
abbrev Reg.PLOT_FLAGS_THRUST_CMD : Fld := ⟨0x2824, 11, 1⟩
/-- PLOT_FLAGS.COAST, [10], RO (R185). -/
abbrev Reg.PLOT_FLAGS_COAST : Fld := ⟨0x2824, 10, 1⟩
/-- PLOT_FLAGS.REVISED, [9], RO (R185). -/
abbrev Reg.PLOT_FLAGS_REVISED : Fld := ⟨0x2824, 9, 1⟩
/-- PLOT_FLAGS.MOTION_OK, [8], RO (R185). -/
abbrev Reg.PLOT_FLAGS_MOTION_OK : Fld := ⟨0x2824, 8, 1⟩
/-- PLOT_FLAGS.WIND_OK, [7], RO (R185). -/
abbrev Reg.PLOT_FLAGS_WIND_OK : Fld := ⟨0x2824, 7, 1⟩
/-- PLOT_FLAGS.ENV_VALID, [6], RO (R185). -/
abbrev Reg.PLOT_FLAGS_ENV_VALID : Fld := ⟨0x2824, 6, 1⟩
/-- PLOT_FLAGS.VEL_OK, [5], RO (R185). -/
abbrev Reg.PLOT_FLAGS_VEL_OK : Fld := ⟨0x2824, 5, 1⟩
/-- PLOT_FLAGS.HDG_OK, [4], RO (R185). -/
abbrev Reg.PLOT_FLAGS_HDG_OK : Fld := ⟨0x2824, 4, 1⟩
/-- PLOT_FLAGS.POS_OK, [3], RO (R185). -/
abbrev Reg.PLOT_FLAGS_POS_OK : Fld := ⟨0x2824, 3, 1⟩
/-- PLOT_FLAGS.STATE, [1:0], RO (R185). -/
abbrev Reg.PLOT_FLAGS_STATE : Fld := ⟨0x2824, 0, 2⟩
/-- PLOT_SEC_LO.SEC, [31:0], RO (R185). -/
abbrev Reg.PLOT_SEC_LO_SEC : Fld := ⟨0x2828, 0, 32⟩
/-- PLOT_SEC_HI.SEC, [15:0], RO (R185). -/
abbrev Reg.PLOT_SEC_HI_SEC : Fld := ⟨0x282c, 0, 16⟩
/-- PLOT_NS.NS, [29:0], RO (R185). -/
abbrev Reg.PLOT_NS_NS : Fld := ⟨0x2830, 0, 30⟩
/-- PLOT_NORTH.POS, [31:0], RO (R185). -/
abbrev Reg.PLOT_NORTH_POS : Fld := ⟨0x2834, 0, 32⟩
/-- PLOT_EAST.POS, [31:0], RO (R185). -/
abbrev Reg.PLOT_EAST_POS : Fld := ⟨0x2838, 0, 32⟩
/-- PLOT_HDG.HDG, [21:0], RO (R185). -/
abbrev Reg.PLOT_HDG_HDG : Fld := ⟨0x283c, 0, 22⟩
/-- PLOT_U.VEL, [31:0], RO (R185). -/
abbrev Reg.PLOT_U_VEL : Fld := ⟨0x2840, 0, 32⟩
/-- PLOT_V.VEL, [31:0], RO (R185). -/
abbrev Reg.PLOT_V_VEL : Fld := ⟨0x2844, 0, 32⟩
/-- PLOT_W.VEL, [31:0], RO (R185). -/
abbrev Reg.PLOT_W_VEL : Fld := ⟨0x2848, 0, 32⟩
/-- PLOT_R.RATE, [31:0], RO (R185). -/
abbrev Reg.PLOT_R_RATE : Fld := ⟨0x284c, 0, 32⟩
/-- PLOT_ENV_X.FORCE, [31:0], RO (R185). -/
abbrev Reg.PLOT_ENV_X_FORCE : Fld := ⟨0x2850, 0, 32⟩
/-- PLOT_ENV_Y.FORCE, [31:0], RO (R185). -/
abbrev Reg.PLOT_ENV_Y_FORCE : Fld := ⟨0x2854, 0, 32⟩
/-- PLOT_WIND_X.FORCE, [31:0], RO (R185). -/
abbrev Reg.PLOT_WIND_X_FORCE : Fld := ⟨0x285c, 0, 32⟩
/-- PLOT_WIND_Y.FORCE, [31:0], RO (R185). -/
abbrev Reg.PLOT_WIND_Y_FORCE : Fld := ⟨0x2860, 0, 32⟩
/-- PLOT_ENV_MZ.MOMENT, [31:0], RO (R185). -/
abbrev Reg.PLOT_ENV_MZ_MOMENT : Fld := ⟨0x2858, 0, 32⟩
/-- PLOT_WIND_MZ.MOMENT, [31:0], RO (R185). -/
abbrev Reg.PLOT_WIND_MZ_MOMENT : Fld := ⟨0x2864, 0, 32⟩
/-- PLOT_WIND_REL.SPEED, [31:16], RO (R185). -/
abbrev Reg.PLOT_WIND_REL_SPEED : Fld := ⟨0x2868, 16, 16⟩
/-- PLOT_WIND_REL.ANGLE, [15:0], RO (R185). -/
abbrev Reg.PLOT_WIND_REL_ANGLE : Fld := ⟨0x2868, 0, 16⟩
/-- PLOT_ATT.ROLL, [31:16], RO (R185). -/
abbrev Reg.PLOT_ATT_ROLL : Fld := ⟨0x286c, 16, 16⟩
/-- PLOT_ATT.PITCH, [15:0], RO (R185). -/
abbrev Reg.PLOT_ATT_PITCH : Fld := ⟨0x286c, 0, 16⟩
/-- PLOT_HEAVE.HEAVE, [15:0], RO (R185). -/
abbrev Reg.PLOT_HEAVE_HEAVE : Fld := ⟨0x2870, 0, 16⟩
/-- PLOT_SIG_POS.MAJ, [31:16], RO (R185). -/
abbrev Reg.PLOT_SIG_POS_MAJ : Fld := ⟨0x2874, 16, 16⟩
/-- PLOT_SIG_POS.MIN, [15:0], RO (R185). -/
abbrev Reg.PLOT_SIG_POS_MIN : Fld := ⟨0x2874, 0, 16⟩
/-- PLOT_SIG_HDG.ORIENT, [31:16], RO (R185). -/
abbrev Reg.PLOT_SIG_HDG_ORIENT : Fld := ⟨0x2878, 16, 16⟩
/-- PLOT_SIG_HDG.HDG, [15:0], RO (R185). -/
abbrev Reg.PLOT_SIG_HDG_HDG : Fld := ⟨0x2878, 0, 16⟩
/-- PLOT_VALID_TIME.TIME, [15:0], RO (R185). -/
abbrev Reg.PLOT_VALID_TIME_TIME : Fld := ⟨0x2880, 0, 16⟩
/-- PLOT_HIST.HIST_MISS, [31:16], RO (R185). -/
abbrev Reg.PLOT_HIST_HIST_MISS : Fld := ⟨0x2884, 16, 16⟩
/-- PLOT_HIST.REVISED, [15:0], RO (R185). -/
abbrev Reg.PLOT_HIST_REVISED : Fld := ⟨0x2884, 0, 16⟩
/-- PLOT_RERUN.LONGEST, [31:16], RO (R185). -/
abbrev Reg.PLOT_RERUN_LONGEST : Fld := ⟨0x2888, 16, 16⟩
/-- PLOT_RERUN.QUEUED, [15:8], RO (R185). -/
abbrev Reg.PLOT_RERUN_QUEUED : Fld := ⟨0x2888, 8, 8⟩
/-- PLOT_RERUN.DEPTH, [7:0], RO (R185). -/
abbrev Reg.PLOT_RERUN_DEPTH : Fld := ⟨0x2888, 0, 8⟩
/-- PLOT_BIAS_N.BIAS, [31:0], RO (R185). -/
abbrev Reg.PLOT_BIAS_N_BIAS (i : Nat) : Fld := ⟨0x2900 + 0x8 * i, 0, 32⟩
/-- PLOT_BIAS_E.BIAS, [31:0], RO (R185). -/
abbrev Reg.PLOT_BIAS_E_BIAS (i : Nat) : Fld := ⟨0x2904 + 0x8 * i, 0, 32⟩
/-- PLOT_BIAS_H.BIAS, [31:0], RO (R185). -/
abbrev Reg.PLOT_BIAS_H_BIAS (i : Nat) : Fld := ⟨0x2960 + 0x4 * i, 0, 32⟩
/-- The whole word of register TGT_SEL, page 0xb. -/
abbrev Reg.TGT_SEL_w : Fld := ⟨0x2c20, 0, 32⟩
/-- The whole word of register TGT_VALID, page 0xb. -/
abbrev Reg.TGT_VALID_w : Fld := ⟨0x2c24, 0, 32⟩
/-- The whole word of register TGT_LIMIT, page 0xb. -/
abbrev Reg.TGT_LIMIT_w : Fld := ⟨0x2c28, 0, 32⟩
/-- The whole word of register TGT_STAT, page 0xb. -/
abbrev Reg.TGT_STAT_w (i : Nat) : Fld := ⟨0x2c40 + 0x20 * i, 0, 32⟩
/-- The whole word of register TGT_NORTH, page 0xb. -/
abbrev Reg.TGT_NORTH_w (i : Nat) : Fld := ⟨0x2c44 + 0x20 * i, 0, 32⟩
/-- The whole word of register TGT_EAST, page 0xb. -/
abbrev Reg.TGT_EAST_w (i : Nat) : Fld := ⟨0x2c48 + 0x20 * i, 0, 32⟩
/-- The whole word of register TGT_VEL, page 0xb. -/
abbrev Reg.TGT_VEL_w (i : Nat) : Fld := ⟨0x2c4c + 0x20 * i, 0, 32⟩
/-- The whole word of register TGT_HDG, page 0xb. -/
abbrev Reg.TGT_HDG_w (i : Nat) : Fld := ⟨0x2c50 + 0x20 * i, 0, 32⟩
/-- The whole word of register TGT_REL, page 0xb. -/
abbrev Reg.TGT_REL_w (i : Nat) : Fld := ⟨0x2c54 + 0x20 * i, 0, 32⟩
/-- The whole word of register TGT_SIG, page 0xb. -/
abbrev Reg.TGT_SIG_w (i : Nat) : Fld := ⟨0x2c58 + 0x20 * i, 0, 32⟩
/-- TGT_SEL.TRACK, [4:0], RW (R187). -/
abbrev Reg.TGT_SEL_TRACK : Fld := ⟨0x2c20, 0, 5⟩
/-- TGT_VALID.MASK, [15:0], RO (R187). -/
abbrev Reg.TGT_VALID_MASK : Fld := ⟨0x2c24, 0, 16⟩
/-- TGT_LIMIT.COUNT, [4:0], RO (R187). -/
abbrev Reg.TGT_LIMIT_COUNT : Fld := ⟨0x2c28, 0, 5⟩
/-- TGT_STAT.AGE, [31:16], RO (R187). -/
abbrev Reg.TGT_STAT_AGE (i : Nat) : Fld := ⟨0x2c40 + 0x20 * i, 16, 16⟩
/-- TGT_STAT.FEEDS, [15:8], RO (R187). -/
abbrev Reg.TGT_STAT_FEEDS (i : Nat) : Fld := ⟨0x2c40 + 0x20 * i, 8, 8⟩
/-- TGT_STAT.STATIONARY, [7], RO (R187). -/
abbrev Reg.TGT_STAT_STATIONARY (i : Nat) : Fld := ⟨0x2c40 + 0x20 * i, 7, 1⟩
/-- TGT_STAT.SELECTED, [6], RO (R187). -/
abbrev Reg.TGT_STAT_SELECTED (i : Nat) : Fld := ⟨0x2c40 + 0x20 * i, 6, 1⟩
/-- TGT_STAT.HDG_FROM_COG, [5], RO (R187). -/
abbrev Reg.TGT_STAT_HDG_FROM_COG (i : Nat) : Fld := ⟨0x2c40 + 0x20 * i, 5, 1⟩
/-- TGT_STAT.STATE, [2:0], RO (R187). -/
abbrev Reg.TGT_STAT_STATE (i : Nat) : Fld := ⟨0x2c40 + 0x20 * i, 0, 3⟩
/-- TGT_NORTH.POS, [31:0], RO (R187). -/
abbrev Reg.TGT_NORTH_POS (i : Nat) : Fld := ⟨0x2c44 + 0x20 * i, 0, 32⟩
/-- TGT_EAST.POS, [31:0], RO (R187). -/
abbrev Reg.TGT_EAST_POS (i : Nat) : Fld := ⟨0x2c48 + 0x20 * i, 0, 32⟩
/-- TGT_VEL.VN, [31:16], RO (R187). -/
abbrev Reg.TGT_VEL_VN (i : Nat) : Fld := ⟨0x2c4c + 0x20 * i, 16, 16⟩
/-- TGT_VEL.VE, [15:0], RO (R187). -/
abbrev Reg.TGT_VEL_VE (i : Nat) : Fld := ⟨0x2c4c + 0x20 * i, 0, 16⟩
/-- TGT_HDG.HDG, [31:16], RO (R187). -/
abbrev Reg.TGT_HDG_HDG (i : Nat) : Fld := ⟨0x2c50 + 0x20 * i, 16, 16⟩
/-- TGT_HDG.RATE, [15:0], RO (R187). -/
abbrev Reg.TGT_HDG_RATE (i : Nat) : Fld := ⟨0x2c50 + 0x20 * i, 0, 16⟩
/-- TGT_REL.RANGE, [31:16], RO (R187). -/
abbrev Reg.TGT_REL_RANGE (i : Nat) : Fld := ⟨0x2c54 + 0x20 * i, 16, 16⟩
/-- TGT_REL.BEARING, [15:0], RO (R187). -/
abbrev Reg.TGT_REL_BEARING (i : Nat) : Fld := ⟨0x2c54 + 0x20 * i, 0, 16⟩
/-- TGT_SIG.POS, [31:16], RO (R187). -/
abbrev Reg.TGT_SIG_POS (i : Nat) : Fld := ⟨0x2c58 + 0x20 * i, 16, 16⟩
/-- TGT_SIG.HDG, [15:0], RO (R187). -/
abbrev Reg.TGT_SIG_HDG (i : Nat) : Fld := ⟨0x2c58 + 0x20 * i, 0, 16⟩
/-- The whole word of register CTRL, page 0x10. -/
abbrev Reg.CTRL_CTRL_w : Fld := ⟨0x4008, 0, 32⟩
/-- The whole word of register STAT, page 0x10. -/
abbrev Reg.CTRL_STAT_w : Fld := ⟨0x400c, 0, 32⟩
/-- The whole word of register FAULT, page 0x10. -/
abbrev Reg.CTRL_FAULT_w : Fld := ⟨0x401c, 0, 32⟩
/-- The whole word of register CTRL_SP_N, page 0x10. -/
abbrev Reg.CTRL_SP_N_w : Fld := ⟨0x4020, 0, 32⟩
/-- The whole word of register CTRL_SP_E, page 0x10. -/
abbrev Reg.CTRL_SP_E_w : Fld := ⟨0x4024, 0, 32⟩
/-- The whole word of register CTRL_SP_HDG, page 0x10. -/
abbrev Reg.CTRL_SP_HDG_w : Fld := ⟨0x4028, 0, 32⟩
/-- The whole word of register CTRL_SP_SPEED, page 0x10. -/
abbrev Reg.CTRL_SP_SPEED_w : Fld := ⟨0x402c, 0, 32⟩
/-- The whole word of register CTRL_LEG_FN, page 0x10. -/
abbrev Reg.CTRL_LEG_FN_w : Fld := ⟨0x4030, 0, 32⟩
/-- The whole word of register CTRL_LEG_FE, page 0x10. -/
abbrev Reg.CTRL_LEG_FE_w : Fld := ⟨0x4034, 0, 32⟩
/-- The whole word of register CTRL_LEG_TN, page 0x10. -/
abbrev Reg.CTRL_LEG_TN_w : Fld := ⟨0x4038, 0, 32⟩
/-- The whole word of register CTRL_LEG_TE, page 0x10. -/
abbrev Reg.CTRL_LEG_TE_w : Fld := ⟨0x403c, 0, 32⟩
/-- The whole word of register CTRL_FT_OFS, page 0x10. -/
abbrev Reg.CTRL_FT_OFS_w : Fld := ⟨0x4040, 0, 32⟩
/-- The whole word of register CTRL_FT_HDG, page 0x10. -/
abbrev Reg.CTRL_FT_HDG_w : Fld := ⟨0x4044, 0, 32⟩
/-- The whole word of register CTRL_SP_CMD, page 0x10. -/
abbrev Reg.CTRL_SP_CMD_w : Fld := ⟨0x4048, 0, 32⟩
/-- The whole word of register CTRL_SP_RESULT, page 0x10. -/
abbrev Reg.CTRL_SP_RESULT_w : Fld := ⟨0x404c, 0, 32⟩
/-- The whole word of register CTRL_JOY, page 0x10. -/
abbrev Reg.CTRL_JOY_w : Fld := ⟨0x4050, 0, 32⟩
/-- The whole word of register CTRL_CYCLE, page 0x10. -/
abbrev Reg.CTRL_CYCLE_w : Fld := ⟨0x4054, 0, 32⟩
/-- The whole word of register CTRL_REF_N, page 0x10. -/
abbrev Reg.CTRL_REF_N_w : Fld := ⟨0x4058, 0, 32⟩
/-- The whole word of register CTRL_REF_E, page 0x10. -/
abbrev Reg.CTRL_REF_E_w : Fld := ⟨0x405c, 0, 32⟩
/-- The whole word of register CTRL_REF_HDG, page 0x10. -/
abbrev Reg.CTRL_REF_HDG_w : Fld := ⟨0x4060, 0, 32⟩
/-- The whole word of register CTRL_REF_VEL, page 0x10. -/
abbrev Reg.CTRL_REF_VEL_w : Fld := ⟨0x4064, 0, 32⟩
/-- The whole word of register CTRL_DEM_X, page 0x10. -/
abbrev Reg.CTRL_DEM_X_w : Fld := ⟨0x4068, 0, 32⟩
/-- The whole word of register CTRL_DEM_Y, page 0x10. -/
abbrev Reg.CTRL_DEM_Y_w : Fld := ⟨0x406c, 0, 32⟩
/-- The whole word of register CTRL_DEM_MZ, page 0x10. -/
abbrev Reg.CTRL_DEM_MZ_w : Fld := ⟨0x4070, 0, 32⟩
/-- The whole word of register CTRL_INT_X, page 0x10. -/
abbrev Reg.CTRL_INT_X_w : Fld := ⟨0x4074, 0, 32⟩
/-- The whole word of register CTRL_INT_Y, page 0x10. -/
abbrev Reg.CTRL_INT_Y_w : Fld := ⟨0x4078, 0, 32⟩
/-- The whole word of register CTRL_INT_MZ, page 0x10. -/
abbrev Reg.CTRL_INT_MZ_w : Fld := ⟨0x407c, 0, 32⟩
/-- The whole word of register CTRL_BLEND_X, page 0x10. -/
abbrev Reg.CTRL_BLEND_X_w : Fld := ⟨0x4080, 0, 32⟩
/-- The whole word of register CTRL_BLEND_Y, page 0x10. -/
abbrev Reg.CTRL_BLEND_Y_w : Fld := ⟨0x4084, 0, 32⟩
/-- The whole word of register CTRL_BLEND_MZ, page 0x10. -/
abbrev Reg.CTRL_BLEND_MZ_w : Fld := ⟨0x4088, 0, 32⟩
/-- The whole word of register CTRL_ERR_XY, page 0x10. -/
abbrev Reg.CTRL_ERR_XY_w : Fld := ⟨0x408c, 0, 32⟩
/-- The whole word of register CTRL_ERR_HX, page 0x10. -/
abbrev Reg.CTRL_ERR_HX_w : Fld := ⟨0x4090, 0, 32⟩
/-- The whole word of register CTRL_SAT, page 0x10. -/
abbrev Reg.CTRL_SAT_w : Fld := ⟨0x4094, 0, 32⟩
/-- The whole word of register CTRL_SUPV, page 0x10. -/
abbrev Reg.CTRL_SUPV_w : Fld := ⟨0x4098, 0, 32⟩
/-- The whole word of register CTRL_PLAUS_CNT, page 0x10. -/
abbrev Reg.CTRL_PLAUS_CNT_w : Fld := ⟨0x409c, 0, 32⟩
/-- CTRL.CNT_CLR, [0], WO (R217). -/
abbrev Reg.CTRL_CTRL_CNT_CLR : Fld := ⟨0x4008, 0, 1⟩
/-- STAT.JOY_STALE, [15], RO (R217). -/
abbrev Reg.CTRL_STAT_JOY_STALE : Fld := ⟨0x400c, 15, 1⟩
/-- STAT.FT_SPEED, [14], RO (R217). -/
abbrev Reg.CTRL_STAT_FT_SPEED : Fld := ⟨0x400c, 14, 1⟩
/-- STAT.PASSED, [13], RO (R217). -/
abbrev Reg.CTRL_STAT_PASSED : Fld := ⟨0x400c, 13, 1⟩
/-- STAT.LEG_END, [12], RO (R217). -/
abbrev Reg.CTRL_STAT_LEG_END : Fld := ⟨0x400c, 12, 1⟩
/-- STAT.AP_TRACK, [11], RO (R217). -/
abbrev Reg.CTRL_STAT_AP_TRACK : Fld := ⟨0x400c, 11, 1⟩
/-- STAT.TRACK_DEF, [10], RO (R217). -/
abbrev Reg.CTRL_STAT_TRACK_DEF : Fld := ⟨0x400c, 10, 1⟩
/-- STAT.SP_DEF, [9], RO (R217). -/
abbrev Reg.CTRL_STAT_SP_DEF : Fld := ⟨0x400c, 9, 1⟩
/-- STAT.DR_ACTIVE, [8], RO (R217). -/
abbrev Reg.CTRL_STAT_DR_ACTIVE : Fld := ⟨0x400c, 8, 1⟩
/-- STAT.PLAUS_HDG, [7], RO (R217). -/
abbrev Reg.CTRL_STAT_PLAUS_HDG : Fld := ⟨0x400c, 7, 1⟩
/-- STAT.PLAUS_POS, [6], RO (R217). -/
abbrev Reg.CTRL_STAT_PLAUS_POS : Fld := ⟨0x400c, 6, 1⟩
/-- STAT.BLENDING, [5], RO (R217). -/
abbrev Reg.CTRL_STAT_BLENDING : Fld := ⟨0x400c, 5, 1⟩
/-- STAT.RAMP_HDG, [4], RO (R217). -/
abbrev Reg.CTRL_STAT_RAMP_HDG : Fld := ⟨0x400c, 4, 1⟩
/-- STAT.RAMP_POS, [3], RO (R217). -/
abbrev Reg.CTRL_STAT_RAMP_POS : Fld := ⟨0x400c, 3, 1⟩
/-- STAT.SAT_N, [2], RO (R217). -/
abbrev Reg.CTRL_STAT_SAT_N : Fld := ⟨0x400c, 2, 1⟩
/-- STAT.SAT_Y, [1], RO (R217). -/
abbrev Reg.CTRL_STAT_SAT_Y : Fld := ⟨0x400c, 1, 1⟩
/-- STAT.SAT_X, [0], RO (R217). -/
abbrev Reg.CTRL_STAT_SAT_X : Fld := ⟨0x400c, 0, 1⟩
/-- FAULT.PLAUS_PERSIST, [0], RO (R217). -/
abbrev Reg.CTRL_FAULT_PLAUS_PERSIST : Fld := ⟨0x401c, 0, 1⟩
/-- CTRL_SP_N.POS, [31:0], RW (R218). -/
abbrev Reg.CTRL_SP_N_POS : Fld := ⟨0x4020, 0, 32⟩
/-- CTRL_SP_E.POS, [31:0], RW (R218). -/
abbrev Reg.CTRL_SP_E_POS : Fld := ⟨0x4024, 0, 32⟩
/-- CTRL_LEG_FN.POS, [31:0], RW (R218). -/
abbrev Reg.CTRL_LEG_FN_POS : Fld := ⟨0x4030, 0, 32⟩
/-- CTRL_LEG_FE.POS, [31:0], RW (R218). -/
abbrev Reg.CTRL_LEG_FE_POS : Fld := ⟨0x4034, 0, 32⟩
/-- CTRL_LEG_TN.POS, [31:0], RW (R218). -/
abbrev Reg.CTRL_LEG_TN_POS : Fld := ⟨0x4038, 0, 32⟩
/-- CTRL_LEG_TE.POS, [31:0], RW (R218). -/
abbrev Reg.CTRL_LEG_TE_POS : Fld := ⟨0x403c, 0, 32⟩
/-- CTRL_SP_HDG.HDG, [21:0], RW (R218). -/
abbrev Reg.CTRL_SP_HDG_HDG : Fld := ⟨0x4028, 0, 22⟩
/-- CTRL_SP_SPEED.SPEED, [15:0], RW (R218). -/
abbrev Reg.CTRL_SP_SPEED_SPEED : Fld := ⟨0x402c, 0, 16⟩
/-- CTRL_FT_OFS.X, [31:16], RW (R218). -/
abbrev Reg.CTRL_FT_OFS_X : Fld := ⟨0x4040, 16, 16⟩
/-- CTRL_FT_OFS.Y, [15:0], RW (R218). -/
abbrev Reg.CTRL_FT_OFS_Y : Fld := ⟨0x4040, 0, 16⟩
/-- CTRL_FT_HDG.REL, [31], RW (R218). -/
abbrev Reg.CTRL_FT_HDG_REL : Fld := ⟨0x4044, 31, 1⟩
/-- CTRL_FT_HDG.HDG, [21:0], RW (R218). -/
abbrev Reg.CTRL_FT_HDG_HDG : Fld := ⟨0x4044, 0, 22⟩
/-- CTRL_SP_CMD.GO, [31], WO (R218). -/
abbrev Reg.CTRL_SP_CMD_GO : Fld := ⟨0x4048, 31, 1⟩
/-- CTRL_SP_CMD.TAG, [15:8], RW (R218). -/
abbrev Reg.CTRL_SP_CMD_TAG : Fld := ⟨0x4048, 8, 8⟩
/-- CTRL_SP_CMD.DIR, [7:6], RW (R218). -/
abbrev Reg.CTRL_SP_CMD_DIR : Fld := ⟨0x4048, 6, 2⟩
/-- CTRL_SP_CMD.CMD, [3:0], RW (R218). -/
abbrev Reg.CTRL_SP_CMD_CMD : Fld := ⟨0x4048, 0, 4⟩
/-- CTRL_SP_RESULT.TAG, [15:8], RO (R218). -/
abbrev Reg.CTRL_SP_RESULT_TAG : Fld := ⟨0x404c, 8, 8⟩
/-- CTRL_SP_RESULT.CODE, [7:0], RO (R218). -/
abbrev Reg.CTRL_SP_RESULT_CODE : Fld := ⟨0x404c, 0, 8⟩
/-- CTRL_JOY.N, [29:20], RW (R218). -/
abbrev Reg.CTRL_JOY_N : Fld := ⟨0x4050, 20, 10⟩
/-- CTRL_JOY.Y, [19:10], RW (R218). -/
abbrev Reg.CTRL_JOY_Y : Fld := ⟨0x4050, 10, 10⟩
/-- CTRL_JOY.X, [9:0], RW (R218). -/
abbrev Reg.CTRL_JOY_X : Fld := ⟨0x4050, 0, 10⟩
/-- CTRL_CYCLE.COUNT, [31:0], RO (R218). -/
abbrev Reg.CTRL_CYCLE_COUNT : Fld := ⟨0x4054, 0, 32⟩
/-- CTRL_REF_N.POS, [31:0], RO (R218). -/
abbrev Reg.CTRL_REF_N_POS : Fld := ⟨0x4058, 0, 32⟩
/-- CTRL_REF_E.POS, [31:0], RO (R218). -/
abbrev Reg.CTRL_REF_E_POS : Fld := ⟨0x405c, 0, 32⟩
/-- CTRL_REF_HDG.HDG, [21:0], RO (R218). -/
abbrev Reg.CTRL_REF_HDG_HDG : Fld := ⟨0x4060, 0, 22⟩
/-- CTRL_REF_VEL.VN, [31:16], RO (R218). -/
abbrev Reg.CTRL_REF_VEL_VN : Fld := ⟨0x4064, 16, 16⟩
/-- CTRL_REF_VEL.VE, [15:0], RO (R218). -/
abbrev Reg.CTRL_REF_VEL_VE : Fld := ⟨0x4064, 0, 16⟩
/-- CTRL_DEM_X.FORCE, [31:0], RO (R218). -/
abbrev Reg.CTRL_DEM_X_FORCE : Fld := ⟨0x4068, 0, 32⟩
/-- CTRL_DEM_Y.FORCE, [31:0], RO (R218). -/
abbrev Reg.CTRL_DEM_Y_FORCE : Fld := ⟨0x406c, 0, 32⟩
/-- CTRL_INT_X.FORCE, [31:0], RO (R218). -/
abbrev Reg.CTRL_INT_X_FORCE : Fld := ⟨0x4074, 0, 32⟩
/-- CTRL_INT_Y.FORCE, [31:0], RO (R218). -/
abbrev Reg.CTRL_INT_Y_FORCE : Fld := ⟨0x4078, 0, 32⟩
/-- CTRL_BLEND_X.FORCE, [31:0], RO (R218). -/
abbrev Reg.CTRL_BLEND_X_FORCE : Fld := ⟨0x4080, 0, 32⟩
/-- CTRL_BLEND_Y.FORCE, [31:0], RO (R218). -/
abbrev Reg.CTRL_BLEND_Y_FORCE : Fld := ⟨0x4084, 0, 32⟩
/-- CTRL_DEM_MZ.MOMENT, [31:0], RO (R218). -/
abbrev Reg.CTRL_DEM_MZ_MOMENT : Fld := ⟨0x4070, 0, 32⟩
/-- CTRL_INT_MZ.MOMENT, [31:0], RO (R218). -/
abbrev Reg.CTRL_INT_MZ_MOMENT : Fld := ⟨0x407c, 0, 32⟩
/-- CTRL_BLEND_MZ.MOMENT, [31:0], RO (R218). -/
abbrev Reg.CTRL_BLEND_MZ_MOMENT : Fld := ⟨0x4088, 0, 32⟩
/-- CTRL_ERR_XY.EX, [31:16], RO (R218). -/
abbrev Reg.CTRL_ERR_XY_EX : Fld := ⟨0x408c, 16, 16⟩
/-- CTRL_ERR_XY.EY, [15:0], RO (R218). -/
abbrev Reg.CTRL_ERR_XY_EY : Fld := ⟨0x408c, 0, 16⟩
/-- CTRL_ERR_HX.EHDG, [31:16], RO (R218). -/
abbrev Reg.CTRL_ERR_HX_EHDG : Fld := ⟨0x4090, 16, 16⟩
/-- CTRL_ERR_HX.XTE, [15:0], RO (R218). -/
abbrev Reg.CTRL_ERR_HX_XTE : Fld := ⟨0x4090, 0, 16⟩
/-- CTRL_SAT.INT_HELD, [18:16], RO (R218). -/
abbrev Reg.CTRL_SAT_INT_HELD : Fld := ⟨0x4094, 16, 3⟩
/-- CTRL_SAT.N, [10:8], RO (R218). -/
abbrev Reg.CTRL_SAT_N : Fld := ⟨0x4094, 8, 3⟩
/-- CTRL_SAT.Y, [6:4], RO (R218). -/
abbrev Reg.CTRL_SAT_Y : Fld := ⟨0x4094, 4, 3⟩
/-- CTRL_SAT.X, [2:0], RO (R218). -/
abbrev Reg.CTRL_SAT_X : Fld := ⟨0x4094, 0, 3⟩
/-- CTRL_SUPV.DR_ELAPSED, [31:16], RO (R218). -/
abbrev Reg.CTRL_SUPV_DR_ELAPSED : Fld := ⟨0x4098, 16, 16⟩
/-- CTRL_SUPV.DR_LIMIT, [15:0], RO (R218). -/
abbrev Reg.CTRL_SUPV_DR_LIMIT : Fld := ⟨0x4098, 0, 16⟩
/-- CTRL_PLAUS_CNT.TRIPS, [31:16], RO (R218). -/
abbrev Reg.CTRL_PLAUS_CNT_TRIPS : Fld := ⟨0x409c, 16, 16⟩
/-- CTRL_PLAUS_CNT.REBASES, [15:0], RO (R218). -/
abbrev Reg.CTRL_PLAUS_CNT_REBASES : Fld := ⟨0x409c, 0, 16⟩
/-- The whole word of register CTRL, page 0x11. -/
abbrev Reg.ALLOC_CTRL_w : Fld := ⟨0x4408, 0, 32⟩
/-- The whole word of register STAT, page 0x11. -/
abbrev Reg.ALLOC_STAT_w : Fld := ⟨0x440c, 0, 32⟩
/-- The whole word of register FAULT, page 0x11. -/
abbrev Reg.ALLOC_FAULT_w : Fld := ⟨0x441c, 0, 32⟩
/-- The whole word of register ALLOC_AVAIL, page 0x11. -/
abbrev Reg.ALLOC_AVAIL_w : Fld := ⟨0x4420, 0, 32⟩
/-- The whole word of register ALLOC_ACH_X, page 0x11. -/
abbrev Reg.ALLOC_ACH_X_w : Fld := ⟨0x4424, 0, 32⟩
/-- The whole word of register ALLOC_ACH_Y, page 0x11. -/
abbrev Reg.ALLOC_ACH_Y_w : Fld := ⟨0x4428, 0, 32⟩
/-- The whole word of register ALLOC_ACH_MZ, page 0x11. -/
abbrev Reg.ALLOC_ACH_MZ_w : Fld := ⟨0x442c, 0, 32⟩
/-- The whole word of register ALLOC_SHORT_X, page 0x11. -/
abbrev Reg.ALLOC_SHORT_X_w : Fld := ⟨0x4430, 0, 32⟩
/-- The whole word of register ALLOC_SHORT_Y, page 0x11. -/
abbrev Reg.ALLOC_SHORT_Y_w : Fld := ⟨0x4434, 0, 32⟩
/-- The whole word of register ALLOC_SHORT_MZ, page 0x11. -/
abbrev Reg.ALLOC_SHORT_MZ_w : Fld := ⟨0x4438, 0, 32⟩
/-- The whole word of register ALLOC_CAP_X, page 0x11. -/
abbrev Reg.ALLOC_CAP_X_w : Fld := ⟨0x443c, 0, 32⟩
/-- The whole word of register ALLOC_CAP_Y, page 0x11. -/
abbrev Reg.ALLOC_CAP_Y_w : Fld := ⟨0x4440, 0, 32⟩
/-- The whole word of register ALLOC_CAP_MZ, page 0x11. -/
abbrev Reg.ALLOC_CAP_MZ_w : Fld := ⟨0x4444, 0, 32⟩
/-- The whole word of register ALLOC_SOLVE, page 0x11. -/
abbrev Reg.ALLOC_SOLVE_w : Fld := ⟨0x4448, 0, 32⟩
/-- The whole word of register ALLOC_NC, page 0x11. -/
abbrev Reg.ALLOC_NC_w : Fld := ⟨0x444c, 0, 32⟩
/-- The whole word of register ALLOC_POWER, page 0x11. -/
abbrev Reg.ALLOC_POWER_w : Fld := ⟨0x4450, 0, 32⟩
/-- The whole word of register ALLOC_BUS_P, page 0x11. -/
abbrev Reg.ALLOC_BUS_P_w (i : Nat) : Fld := ⟨0x4460 + 0x8 * i, 0, 32⟩
/-- The whole word of register ALLOC_BUS_F, page 0x11. -/
abbrev Reg.ALLOC_BUS_F_w (i : Nat) : Fld := ⟨0x4464 + 0x8 * i, 0, 32⟩
/-- CTRL.CNT_CLR, [0], WO (R254). -/
abbrev Reg.ALLOC_CTRL_CNT_CLR : Fld := ⟨0x4408, 0, 1⟩
/-- STAT.LOAD_RED, [11:8], RO (R254). -/
abbrev Reg.ALLOC_STAT_LOAD_RED : Fld := ⟨0x440c, 8, 4⟩
/-- STAT.PM_STALE, [7:4], RO (R254). -/
abbrev Reg.ALLOC_STAT_PM_STALE : Fld := ⟨0x440c, 4, 4⟩
/-- STAT.MIGRATING, [3], RO (R254). -/
abbrev Reg.ALLOC_STAT_MIGRATING : Fld := ⟨0x440c, 3, 1⟩
/-- STAT.NOT_CONVERGED, [2], RO (R254). -/
abbrev Reg.ALLOC_STAT_NOT_CONVERGED : Fld := ⟨0x440c, 2, 1⟩
/-- STAT.ALLOCATING, [1], RO (R254). -/
abbrev Reg.ALLOC_STAT_ALLOCATING : Fld := ⟨0x440c, 1, 1⟩
/-- STAT.THRUSTERS, [0], RO (R254). -/
abbrev Reg.ALLOC_STAT_THRUSTERS : Fld := ⟨0x440c, 0, 1⟩
/-- FAULT.NO_ENGINE, [1], RO (R254). -/
abbrev Reg.ALLOC_FAULT_NO_ENGINE : Fld := ⟨0x441c, 1, 1⟩
/-- FAULT.MIGRATED, [0], RO (R254). -/
abbrev Reg.ALLOC_FAULT_MIGRATED : Fld := ⟨0x441c, 0, 1⟩
/-- ALLOC_AVAIL.LIMITED, [31:16], RO (R255). -/
abbrev Reg.ALLOC_AVAIL_LIMITED : Fld := ⟨0x4420, 16, 16⟩
/-- ALLOC_AVAIL.ONLINE, [15:0], RO (R255). -/
abbrev Reg.ALLOC_AVAIL_ONLINE : Fld := ⟨0x4420, 0, 16⟩
/-- ALLOC_ACH_X.FORCE, [31:0], RO (R255). -/
abbrev Reg.ALLOC_ACH_X_FORCE : Fld := ⟨0x4424, 0, 32⟩
/-- ALLOC_ACH_Y.FORCE, [31:0], RO (R255). -/
abbrev Reg.ALLOC_ACH_Y_FORCE : Fld := ⟨0x4428, 0, 32⟩
/-- ALLOC_SHORT_X.FORCE, [31:0], RO (R255). -/
abbrev Reg.ALLOC_SHORT_X_FORCE : Fld := ⟨0x4430, 0, 32⟩
/-- ALLOC_SHORT_Y.FORCE, [31:0], RO (R255). -/
abbrev Reg.ALLOC_SHORT_Y_FORCE : Fld := ⟨0x4434, 0, 32⟩
/-- ALLOC_ACH_MZ.MOMENT, [31:0], RO (R255). -/
abbrev Reg.ALLOC_ACH_MZ_MOMENT : Fld := ⟨0x442c, 0, 32⟩
/-- ALLOC_SHORT_MZ.MOMENT, [31:0], RO (R255). -/
abbrev Reg.ALLOC_SHORT_MZ_MOMENT : Fld := ⟨0x4438, 0, 32⟩
/-- ALLOC_CAP_X.POS, [31:16], RO (R255). -/
abbrev Reg.ALLOC_CAP_X_POS : Fld := ⟨0x443c, 16, 16⟩
/-- ALLOC_CAP_Y.POS, [31:16], RO (R255). -/
abbrev Reg.ALLOC_CAP_Y_POS : Fld := ⟨0x4440, 16, 16⟩
/-- ALLOC_CAP_X.NEG, [15:0], RO (R255). -/
abbrev Reg.ALLOC_CAP_X_NEG : Fld := ⟨0x443c, 0, 16⟩
/-- ALLOC_CAP_Y.NEG, [15:0], RO (R255). -/
abbrev Reg.ALLOC_CAP_Y_NEG : Fld := ⟨0x4440, 0, 16⟩
/-- ALLOC_CAP_MZ.POS, [31:16], RO (R255). -/
abbrev Reg.ALLOC_CAP_MZ_POS : Fld := ⟨0x4444, 16, 16⟩
/-- ALLOC_CAP_MZ.NEG, [15:0], RO (R255). -/
abbrev Reg.ALLOC_CAP_MZ_NEG : Fld := ⟨0x4444, 0, 16⟩
/-- ALLOC_SOLVE.ITER, [31:24], RO (R255). -/
abbrev Reg.ALLOC_SOLVE_ITER : Fld := ⟨0x4448, 24, 8⟩
/-- ALLOC_SOLVE.ITER_MAX, [23:16], RO (R255). -/
abbrev Reg.ALLOC_SOLVE_ITER_MAX : Fld := ⟨0x4448, 16, 8⟩
/-- ALLOC_SOLVE.END, [15:0], RO (R255). -/
abbrev Reg.ALLOC_SOLVE_END : Fld := ⟨0x4448, 0, 16⟩
/-- ALLOC_NC.TOTAL, [31:16], RO (R255). -/
abbrev Reg.ALLOC_NC_TOTAL : Fld := ⟨0x444c, 16, 16⟩
/-- ALLOC_NC.CONSEC, [15:0], RO (R255). -/
abbrev Reg.ALLOC_NC_CONSEC : Fld := ⟨0x444c, 0, 16⟩
/-- ALLOC_POWER.MEAS, [31:16], RO (R255). -/
abbrev Reg.ALLOC_POWER_MEAS : Fld := ⟨0x4450, 16, 16⟩
/-- ALLOC_POWER.PLAN, [15:0], RO (R255). -/
abbrev Reg.ALLOC_POWER_PLAN : Fld := ⟨0x4450, 0, 16⟩
/-- ALLOC_BUS_P.BUDGET, [31:16], RO (R255). -/
abbrev Reg.ALLOC_BUS_P_BUDGET (i : Nat) : Fld := ⟨0x4460 + 0x8 * i, 16, 16⟩
/-- ALLOC_BUS_P.AVAIL, [15:0], RO (R255). -/
abbrev Reg.ALLOC_BUS_P_AVAIL (i : Nat) : Fld := ⟨0x4460 + 0x8 * i, 0, 16⟩
/-- ALLOC_BUS_F.FREQ, [31:16], RO (R255). -/
abbrev Reg.ALLOC_BUS_F_FREQ (i : Nat) : Fld := ⟨0x4464 + 0x8 * i, 16, 16⟩
/-- ALLOC_BUS_F.LOAD, [15:0], RO (R255). -/
abbrev Reg.ALLOC_BUS_F_LOAD (i : Nat) : Fld := ⟨0x4464 + 0x8 * i, 0, 16⟩
/-- The whole word of register CTRL, page 0x20. -/
abbrev Reg.CH_CTRL_w (tc : Nat) : Fld := ⟨0x8008 + 0x400 * tc, 0, 32⟩
/-- The whole word of register STAT, page 0x20. -/
abbrev Reg.CH_STAT_w (tc : Nat) : Fld := ⟨0x800c + 0x400 * tc, 0, 32⟩
/-- The whole word of register FAULT, page 0x20. -/
abbrev Reg.CH_FAULT_w (tc : Nat) : Fld := ⟨0x801c + 0x400 * tc, 0, 32⟩
/-- The whole word of register CH_CFG, page 0x20. -/
abbrev Reg.CH_CFG_w (tc : Nat) : Fld := ⟨0x8020 + 0x400 * tc, 0, 32⟩
/-- The whole word of register CH_CMD, page 0x20. -/
abbrev Reg.CH_CMD_w (tc : Nat) : Fld := ⟨0x8024 + 0x400 * tc, 0, 32⟩
/-- The whole word of register CH_STATE, page 0x20. -/
abbrev Reg.CH_STATE_w (tc : Nat) : Fld := ⟨0x8028 + 0x400 * tc, 0, 32⟩
/-- The whole word of register CH_ALLOC, page 0x20. -/
abbrev Reg.CH_ALLOC_w (tc : Nat) : Fld := ⟨0x802c + 0x400 * tc, 0, 32⟩
/-- The whole word of register CH_DEMAND, page 0x20. -/
abbrev Reg.CH_DEMAND_w (tc : Nat) : Fld := ⟨0x8030 + 0x400 * tc, 0, 32⟩
/-- The whole word of register CH_ADEM, page 0x20. -/
abbrev Reg.CH_ADEM_w (tc : Nat) : Fld := ⟨0x8034 + 0x400 * tc, 0, 32⟩
/-- The whole word of register CH_CEIL, page 0x20. -/
abbrev Reg.CH_CEIL_w (tc : Nat) : Fld := ⟨0x8038 + 0x400 * tc, 0, 32⟩
/-- The whole word of register CH_FB_DEM, page 0x20. -/
abbrev Reg.CH_FB_DEM_w (tc : Nat) : Fld := ⟨0x803c + 0x400 * tc, 0, 32⟩
/-- The whole word of register CH_FB_PWR, page 0x20. -/
abbrev Reg.CH_FB_PWR_w (tc : Nat) : Fld := ⟨0x8040 + 0x400 * tc, 0, 32⟩
/-- The whole word of register CH_FB_TEMP, page 0x20. -/
abbrev Reg.CH_FB_TEMP_w (tc : Nat) : Fld := ⟨0x8044 + 0x400 * tc, 0, 32⟩
/-- The whole word of register CH_FORCE, page 0x20. -/
abbrev Reg.CH_FORCE_w (tc : Nat) : Fld := ⟨0x8048 + 0x400 * tc, 0, 32⟩
/-- The whole word of register CH_FE, page 0x20. -/
abbrev Reg.CH_FE_w (tc : Nat) : Fld := ⟨0x804c + 0x400 * tc, 0, 32⟩
/-- The whole word of register CH_CNT, page 0x20. -/
abbrev Reg.CH_CNT_w (tc : Nat) : Fld := ⟨0x8050 + 0x400 * tc, 0, 32⟩
/-- The whole word of register CH_LEVER, page 0x20. -/
abbrev Reg.CH_LEVER_w (tc : Nat) : Fld := ⟨0x8054 + 0x400 * tc, 0, 32⟩
/-- CTRL.CNT_CLR, [0], WO (R258). -/
abbrev Reg.CH_CTRL_CNT_CLR (tc : Nat) : Fld := ⟨0x8008 + 0x400 * tc, 0, 1⟩
/-- STAT.ONLINE, [1], RO (R258). -/
abbrev Reg.CH_STAT_ONLINE (tc : Nat) : Fld := ⟨0x800c + 0x400 * tc, 1, 1⟩
/-- STAT.CONFIGURED, [0], RO (R258). -/
abbrev Reg.CH_STAT_CONFIGURED (tc : Nat) : Fld := ⟨0x800c + 0x400 * tc, 0, 1⟩
/-- FAULT.FB_LOST, [1], RO (R258). -/
abbrev Reg.CH_FAULT_FB_LOST (tc : Nat) : Fld := ⟨0x801c + 0x400 * tc, 1, 1⟩
/-- FAULT.FOLLOW, [0], RO (R258). -/
abbrev Reg.CH_FAULT_FOLLOW (tc : Nat) : Fld := ⟨0x801c + 0x400 * tc, 0, 1⟩
/-- CH_CFG.SO, [19:16], RO (R259). -/
abbrev Reg.CH_CFG_SO (tc : Nat) : Fld := ⟨0x8020 + 0x400 * tc, 16, 4⟩
/-- CH_CFG.BUS, [13:12], RO (R259). -/
abbrev Reg.CH_CFG_BUS (tc : Nat) : Fld := ⟨0x8020 + 0x400 * tc, 12, 2⟩
/-- CH_CFG.RETRACT, [11], RO (R259). -/
abbrev Reg.CH_CFG_RETRACT (tc : Nat) : Fld := ⟨0x8020 + 0x400 * tc, 11, 1⟩
/-- CH_CFG.SECTORS, [10:8], RO (R259). -/
abbrev Reg.CH_CFG_SECTORS (tc : Nat) : Fld := ⟨0x8020 + 0x400 * tc, 8, 3⟩
/-- CH_CFG.FB_PATH, [7:6], RO (R259). -/
abbrev Reg.CH_CFG_FB_PATH (tc : Nat) : Fld := ⟨0x8020 + 0x400 * tc, 6, 2⟩
/-- CH_CFG.CMD_PATH, [5:4], RO (R259). -/
abbrev Reg.CH_CFG_CMD_PATH (tc : Nat) : Fld := ⟨0x8020 + 0x400 * tc, 4, 2⟩
/-- CH_CFG.DRIVE, [3], RO (R259). -/
abbrev Reg.CH_CFG_DRIVE (tc : Nat) : Fld := ⟨0x8020 + 0x400 * tc, 3, 1⟩
/-- CH_CFG.TYPE, [2:0], RO (R259). -/
abbrev Reg.CH_CFG_TYPE (tc : Nat) : Fld := ⟨0x8020 + 0x400 * tc, 0, 3⟩
/-- CH_CMD.GO, [31], WO (R259). -/
abbrev Reg.CH_CMD_GO (tc : Nat) : Fld := ⟨0x8024 + 0x400 * tc, 31, 1⟩
/-- CH_CMD.RESULT, [23:16], RO (R259). -/
abbrev Reg.CH_CMD_RESULT (tc : Nat) : Fld := ⟨0x8024 + 0x400 * tc, 16, 8⟩
/-- CH_CMD.TAG, [15:8], RW (R259). -/
abbrev Reg.CH_CMD_TAG (tc : Nat) : Fld := ⟨0x8024 + 0x400 * tc, 8, 8⟩
/-- CH_CMD.CMD, [3:0], RW (R259). -/
abbrev Reg.CH_CMD_CMD (tc : Nat) : Fld := ⟨0x8024 + 0x400 * tc, 0, 4⟩
/-- CH_STATE.CAUSE, [19:16], RO (R259). -/
abbrev Reg.CH_STATE_CAUSE (tc : Nat) : Fld := ⟨0x8028 + 0x400 * tc, 16, 4⟩
/-- CH_STATE.THRUST_CMD, [15], RO (R259). -/
abbrev Reg.CH_STATE_THRUST_CMD (tc : Nat) : Fld := ⟨0x8028 + 0x400 * tc, 15, 1⟩
/-- CH_STATE.MIGRATING, [14], RO (R259). -/
abbrev Reg.CH_STATE_MIGRATING (tc : Nat) : Fld := ⟨0x8028 + 0x400 * tc, 14, 1⟩
/-- CH_STATE.LEVER_STALE, [13], RO (R259). -/
abbrev Reg.CH_STATE_LEVER_STALE (tc : Nat) : Fld := ⟨0x8028 + 0x400 * tc, 13, 1⟩
/-- CH_STATE.IN_SECTOR, [12], RO (R259). -/
abbrev Reg.CH_STATE_IN_SECTOR (tc : Nat) : Fld := ⟨0x8028 + 0x400 * tc, 12, 1⟩
/-- CH_STATE.FB_ALT, [11], RO (R259). -/
abbrev Reg.CH_STATE_FB_ALT (tc : Nat) : Fld := ⟨0x8028 + 0x400 * tc, 11, 1⟩
/-- CH_STATE.FB_VALID, [10], RO (R259). -/
abbrev Reg.CH_STATE_FB_VALID (tc : Nat) : Fld := ⟨0x8028 + 0x400 * tc, 10, 1⟩
/-- CH_STATE.RATE_LIM, [9], RO (R259). -/
abbrev Reg.CH_STATE_RATE_LIM (tc : Nat) : Fld := ⟨0x8028 + 0x400 * tc, 9, 1⟩
/-- CH_STATE.LIMITED, [8], RO (R259). -/
abbrev Reg.CH_STATE_LIMITED (tc : Nat) : Fld := ⟨0x8028 + 0x400 * tc, 8, 1⟩
/-- CH_STATE.SEL, [7:4], RO (R259). -/
abbrev Reg.CH_STATE_SEL (tc : Nat) : Fld := ⟨0x8028 + 0x400 * tc, 4, 4⟩
/-- CH_STATE.STATE, [3:0], RO (R259). -/
abbrev Reg.CH_STATE_STATE (tc : Nat) : Fld := ⟨0x8028 + 0x400 * tc, 0, 4⟩
/-- CH_ALLOC.THRUST, [31:16], RO (R259). -/
abbrev Reg.CH_ALLOC_THRUST (tc : Nat) : Fld := ⟨0x802c + 0x400 * tc, 16, 16⟩
/-- CH_ALLOC.ANGLE, [15:0], RO (R259). -/
abbrev Reg.CH_ALLOC_ANGLE (tc : Nat) : Fld := ⟨0x802c + 0x400 * tc, 0, 16⟩
/-- CH_DEMAND.DEMAND, [31:16], RO (R259). -/
abbrev Reg.CH_DEMAND_DEMAND (tc : Nat) : Fld := ⟨0x8030 + 0x400 * tc, 16, 16⟩
/-- CH_DEMAND.ANGLE, [15:0], RO (R259). -/
abbrev Reg.CH_DEMAND_ANGLE (tc : Nat) : Fld := ⟨0x8030 + 0x400 * tc, 0, 16⟩
/-- CH_ADEM.ALLOC, [31:16], RO (R259). -/
abbrev Reg.CH_ADEM_ALLOC (tc : Nat) : Fld := ⟨0x8034 + 0x400 * tc, 16, 16⟩
/-- CH_ADEM.C_T, [15:0], RO (R259). -/
abbrev Reg.CH_ADEM_C_T (tc : Nat) : Fld := ⟨0x8034 + 0x400 * tc, 0, 16⟩
/-- CH_CEIL.C_P, [31:16], RO (R259). -/
abbrev Reg.CH_CEIL_C_P (tc : Nat) : Fld := ⟨0x8038 + 0x400 * tc, 16, 16⟩
/-- CH_CEIL.C_BP, [15:0], RO (R259). -/
abbrev Reg.CH_CEIL_C_BP (tc : Nat) : Fld := ⟨0x8038 + 0x400 * tc, 0, 16⟩
/-- CH_FB_DEM.DEMAND, [31:16], RO (R259). -/
abbrev Reg.CH_FB_DEM_DEMAND (tc : Nat) : Fld := ⟨0x803c + 0x400 * tc, 16, 16⟩
/-- CH_FB_DEM.ANGLE, [15:0], RO (R259). -/
abbrev Reg.CH_FB_DEM_ANGLE (tc : Nat) : Fld := ⟨0x803c + 0x400 * tc, 0, 16⟩
/-- CH_FB_PWR.POWER, [31:16], RO (R259). -/
abbrev Reg.CH_FB_PWR_POWER (tc : Nat) : Fld := ⟨0x8040 + 0x400 * tc, 16, 16⟩
/-- CH_FB_PWR.CURRENT, [15:0], RO (R259). -/
abbrev Reg.CH_FB_PWR_CURRENT (tc : Nat) : Fld := ⟨0x8040 + 0x400 * tc, 0, 16⟩
/-- CH_FB_TEMP.TEMP, [31:16], RO (R259). -/
abbrev Reg.CH_FB_TEMP_TEMP (tc : Nat) : Fld := ⟨0x8044 + 0x400 * tc, 16, 16⟩
/-- CH_FB_TEMP.AGE, [15:0], RO (R259). -/
abbrev Reg.CH_FB_TEMP_AGE (tc : Nat) : Fld := ⟨0x8044 + 0x400 * tc, 0, 16⟩
/-- CH_FORCE.FX, [31:16], RO (R259). -/
abbrev Reg.CH_FORCE_FX (tc : Nat) : Fld := ⟨0x8048 + 0x400 * tc, 16, 16⟩
/-- CH_FORCE.FY, [15:0], RO (R259). -/
abbrev Reg.CH_FORCE_FY (tc : Nat) : Fld := ⟨0x8048 + 0x400 * tc, 0, 16⟩
/-- CH_FE.DEM, [31:16], RO (R259). -/
abbrev Reg.CH_FE_DEM (tc : Nat) : Fld := ⟨0x804c + 0x400 * tc, 16, 16⟩
/-- CH_FE.ANG, [15:0], RO (R259). -/
abbrev Reg.CH_FE_ANG (tc : Nat) : Fld := ⟨0x804c + 0x400 * tc, 0, 16⟩
/-- CH_CNT.FOLLOW, [31:24], RO (R259). -/
abbrev Reg.CH_CNT_FOLLOW (tc : Nat) : Fld := ⟨0x8050 + 0x400 * tc, 24, 8⟩
/-- CH_CNT.FB_LOSS, [23:16], RO (R259). -/
abbrev Reg.CH_CNT_FB_LOSS (tc : Nat) : Fld := ⟨0x8050 + 0x400 * tc, 16, 8⟩
/-- CH_CNT.LIMITED, [15:0], RO (R259). -/
abbrev Reg.CH_CNT_LIMITED (tc : Nat) : Fld := ⟨0x8050 + 0x400 * tc, 0, 16⟩
/-- CH_LEVER.LEVER, [31:16], RO (R259). -/
abbrev Reg.CH_LEVER_LEVER (tc : Nat) : Fld := ⟨0x8054 + 0x400 * tc, 16, 16⟩
/-- CH_LEVER.ANGLE, [15:0], RO (R259). -/
abbrev Reg.CH_LEVER_ANGLE (tc : Nat) : Fld := ⟨0x8054 + 0x400 * tc, 0, 16⟩

end Sys2Proof.Machine
end

