-- ==== Sys2Proof/Machine/RegsSig.lean ====
section
/-! DEFINITION. Names of the register fields of pages 0x30, 0x31, 0x38, 0x39, 0x40: byte address, lowest bit, width,
written from the register tables of spec/ (each docstring names the rule). -/

namespace Sys2Proof.Machine

/-- The whole word of register CTRL, page 0x30. -/
abbrev Reg.SX_CTRL_w : Fld := ⟨0xc008, 0, 32⟩
/-- The whole word of register STAT, page 0x30. -/
abbrev Reg.SX_STAT_w : Fld := ⟨0xc00c, 0, 32⟩
/-- The whole word of register FAULT, page 0x30. -/
abbrev Reg.SX_FAULT_w : Fld := ⟨0xc01c, 0, 32⟩
/-- The whole word of register SX_CFG, page 0x30. -/
abbrev Reg.SX_CFG_w : Fld := ⟨0xc020, 0, 32⟩
/-- The whole word of register SX_EPOCH, page 0x30. -/
abbrev Reg.SX_EPOCH_w : Fld := ⟨0xc024, 0, 32⟩
/-- The whole word of register SX_LATCH_SEC_LO, page 0x30. -/
abbrev Reg.SX_LATCH_SEC_LO_w : Fld := ⟨0xc028, 0, 32⟩
/-- The whole word of register SX_LATCH_SEC_HI, page 0x30. -/
abbrev Reg.SX_LATCH_SEC_HI_w : Fld := ⟨0xc02c, 0, 32⟩
/-- The whole word of register SX_LATCH_NS, page 0x30. -/
abbrev Reg.SX_LATCH_NS_w : Fld := ⟨0xc030, 0, 32⟩
/-- The whole word of register SX_ATT_HDG, page 0x30. -/
abbrev Reg.SX_ATT_HDG_w : Fld := ⟨0xc034, 0, 32⟩
/-- The whole word of register SX_ATT_RP, page 0x30. -/
abbrev Reg.SX_ATT_RP_w : Fld := ⟨0xc038, 0, 32⟩
/-- The whole word of register SX_ATT_SIG, page 0x30. -/
abbrev Reg.SX_ATT_SIG_w : Fld := ⟨0xc03c, 0, 32⟩
/-- The whole word of register SX_ATT_BASE, page 0x30. -/
abbrev Reg.SX_ATT_BASE_w : Fld := ⟨0xc040, 0, 32⟩
/-- The whole word of register SX_TIME_OFS, page 0x30. -/
abbrev Reg.SX_TIME_OFS_w : Fld := ⟨0xc044, 0, 32⟩
/-- The whole word of register SX_ISB, page 0x30. -/
abbrev Reg.SX_ISB_w : Fld := ⟨0xc048, 0, 32⟩
/-- The whole word of register SX_ACQ, page 0x30. -/
abbrev Reg.SX_ACQ_w : Fld := ⟨0xc04c, 0, 32⟩
/-- The whole word of register SX_CNT, page 0x30. -/
abbrev Reg.SX_CNT_w : Fld := ⟨0xc050, 0, 32⟩
/-- The whole word of register SX_CMD, page 0x30. -/
abbrev Reg.SX_CMD_w : Fld := ⟨0xc054, 0, 32⟩
/-- The whole word of register SX_EXCL_GPS, page 0x30. -/
abbrev Reg.SX_EXCL_GPS_w : Fld := ⟨0xc058, 0, 32⟩
/-- The whole word of register SX_EXCL_GAL0, page 0x30. -/
abbrev Reg.SX_EXCL_GAL0_w : Fld := ⟨0xc05c, 0, 32⟩
/-- The whole word of register SX_EXCL_GAL1, page 0x30. -/
abbrev Reg.SX_EXCL_GAL1_w : Fld := ⟨0xc060, 0, 32⟩
/-- The whole word of register SX_EXCL_BDS0, page 0x30. -/
abbrev Reg.SX_EXCL_BDS0_w : Fld := ⟨0xc064, 0, 32⟩
/-- The whole word of register SX_EXCL_BDS1, page 0x30. -/
abbrev Reg.SX_EXCL_BDS1_w : Fld := ⟨0xc068, 0, 32⟩
/-- CTRL.CNT_CLR, [0], WO (R299). -/
abbrev Reg.SX_CTRL_CNT_CLR : Fld := ⟨0xc008, 0, 1⟩
/-- STAT.LANE_DATA, [7], RO (R299). -/
abbrev Reg.SX_STAT_LANE_DATA : Fld := ⟨0xc00c, 7, 1⟩
/-- STAT.ALMANAC, [6], RO (R299). -/
abbrev Reg.SX_STAT_ALMANAC : Fld := ⟨0xc00c, 6, 1⟩
/-- STAT.GE_FAILED, [5], RO (R299). -/
abbrev Reg.SX_STAT_GE_FAILED : Fld := ⟨0xc00c, 5, 1⟩
/-- STAT.ACQ_PAUSED, [4], RO (R299). -/
abbrev Reg.SX_STAT_ACQ_PAUSED : Fld := ⟨0xc00c, 4, 1⟩
/-- STAT.TIME_ANT, [3:2], RO (R299). -/
abbrev Reg.SX_STAT_TIME_ANT : Fld := ⟨0xc00c, 2, 2⟩
/-- STAT.ATT, [1:0], RO (R299). -/
abbrev Reg.SX_STAT_ATT : Fld := ⟨0xc00c, 0, 2⟩
/-- FAULT.BASELINE, [1], RO (R299). -/
abbrev Reg.SX_FAULT_BASELINE : Fld := ⟨0xc01c, 1, 1⟩
/-- FAULT.GE_LOST, [0], RO (R299). -/
abbrev Reg.SX_FAULT_GE_LOST : Fld := ⟨0xc01c, 0, 1⟩
/-- SX_CFG.SYS, [18:16], RO (R300). -/
abbrev Reg.SX_CFG_SYS : Fld := ⟨0xc020, 16, 3⟩
/-- SX_CFG.CN0_USE, [15:8], RO (R300). -/
abbrev Reg.SX_CFG_CN0_USE : Fld := ⟨0xc020, 8, 8⟩
/-- SX_CFG.ELEV_MASK, [7:0], RO (R300). -/
abbrev Reg.SX_CFG_ELEV_MASK : Fld := ⟨0xc020, 0, 8⟩
/-- SX_EPOCH.COUNT, [31:0], RO (R300). -/
abbrev Reg.SX_EPOCH_COUNT : Fld := ⟨0xc024, 0, 32⟩
/-- SX_LATCH_SEC_LO.SEC, [31:0], RO (R300). -/
abbrev Reg.SX_LATCH_SEC_LO_SEC : Fld := ⟨0xc028, 0, 32⟩
/-- SX_LATCH_SEC_HI.SEC, [15:0], RO (R300). -/
abbrev Reg.SX_LATCH_SEC_HI_SEC : Fld := ⟨0xc02c, 0, 16⟩
/-- SX_LATCH_NS.NS, [29:0], RO (R300). -/
abbrev Reg.SX_LATCH_NS_NS : Fld := ⟨0xc030, 0, 30⟩
/-- SX_ATT_HDG.HDG, [21:0], RO (R300). -/
abbrev Reg.SX_ATT_HDG_HDG : Fld := ⟨0xc034, 0, 22⟩
/-- SX_ATT_RP.ROLL, [31:16], RO (R300). -/
abbrev Reg.SX_ATT_RP_ROLL : Fld := ⟨0xc038, 16, 16⟩
/-- SX_ATT_RP.PITCH, [15:0], RO (R300). -/
abbrev Reg.SX_ATT_RP_PITCH : Fld := ⟨0xc038, 0, 16⟩
/-- SX_ATT_SIG.HDG, [31:16], RO (R300). -/
abbrev Reg.SX_ATT_SIG_HDG : Fld := ⟨0xc03c, 16, 16⟩
/-- SX_ATT_SIG.RP, [15:0], RO (R300). -/
abbrev Reg.SX_ATT_SIG_RP : Fld := ⟨0xc03c, 0, 16⟩
/-- SX_ATT_BASE.B12, [31:16], RO (R300). -/
abbrev Reg.SX_ATT_BASE_B12 : Fld := ⟨0xc040, 16, 16⟩
/-- SX_ATT_BASE.B13, [15:0], RO (R300). -/
abbrev Reg.SX_ATT_BASE_B13 : Fld := ⟨0xc040, 0, 16⟩
/-- SX_TIME_OFS.OFS, [31:0], RO (R300). -/
abbrev Reg.SX_TIME_OFS_OFS : Fld := ⟨0xc044, 0, 32⟩
/-- SX_ISB.GAL, [31:16], RO (R300). -/
abbrev Reg.SX_ISB_GAL : Fld := ⟨0xc048, 16, 16⟩
/-- SX_ISB.BDS, [15:0], RO (R300). -/
abbrev Reg.SX_ISB_BDS : Fld := ⟨0xc048, 0, 16⟩
/-- SX_ACQ.TRACKED, [31:24], RO (R300). -/
abbrev Reg.SX_ACQ_TRACKED : Fld := ⟨0xc04c, 24, 8⟩
/-- SX_ACQ.PRN, [23:18], RO (R300). -/
abbrev Reg.SX_ACQ_PRN : Fld := ⟨0xc04c, 18, 6⟩
/-- SX_ACQ.SYS, [17:16], RO (R300). -/
abbrev Reg.SX_ACQ_SYS : Fld := ⟨0xc04c, 16, 2⟩
/-- SX_ACQ.ANT, [15:14], RO (R300). -/
abbrev Reg.SX_ACQ_ANT : Fld := ⟨0xc04c, 14, 2⟩
/-- SX_ACQ.AIDED, [13], RO (R300). -/
abbrev Reg.SX_ACQ_AIDED : Fld := ⟨0xc04c, 13, 1⟩
/-- SX_ACQ.PAUSED, [12], RO (R300). -/
abbrev Reg.SX_ACQ_PAUSED : Fld := ⟨0xc04c, 12, 1⟩
/-- SX_CNT.SKIPPED, [31:24], RO (R300). -/
abbrev Reg.SX_CNT_SKIPPED : Fld := ⟨0xc050, 24, 8⟩
/-- SX_CNT.LATE_SOL, [23:16], RO (R300). -/
abbrev Reg.SX_CNT_LATE_SOL : Fld := ⟨0xc050, 16, 8⟩
/-- SX_CNT.REFIX, [15:8], RO (R300). -/
abbrev Reg.SX_CNT_REFIX : Fld := ⟨0xc050, 8, 8⟩
/-- SX_CNT.RESTARTS, [7:0], RO (R300). -/
abbrev Reg.SX_CNT_RESTARTS : Fld := ⟨0xc050, 0, 8⟩
/-- SX_CMD.GO, [31], WO (R300). -/
abbrev Reg.SX_CMD_GO : Fld := ⟨0xc054, 31, 1⟩
/-- SX_CMD.RESULT, [23:16], RO (R300). -/
abbrev Reg.SX_CMD_RESULT : Fld := ⟨0xc054, 16, 8⟩
/-- SX_CMD.TAG, [15:8], RW (R300). -/
abbrev Reg.SX_CMD_TAG : Fld := ⟨0xc054, 8, 8⟩
/-- SX_CMD.CMD, [3:0], RW (R300). -/
abbrev Reg.SX_CMD_CMD : Fld := ⟨0xc054, 0, 4⟩
/-- SX_EXCL_GPS.MASK, [31:0], RW (R300). -/
abbrev Reg.SX_EXCL_GPS_MASK : Fld := ⟨0xc058, 0, 32⟩
/-- SX_EXCL_GAL0.MASK, [31:0], RW (R300). -/
abbrev Reg.SX_EXCL_GAL0_MASK : Fld := ⟨0xc05c, 0, 32⟩
/-- SX_EXCL_GAL1.MASK, [3:0], RW (R300). -/
abbrev Reg.SX_EXCL_GAL1_MASK : Fld := ⟨0xc060, 0, 4⟩
/-- SX_EXCL_BDS0.MASK, [31:0], RW (R300). -/
abbrev Reg.SX_EXCL_BDS0_MASK : Fld := ⟨0xc064, 0, 32⟩
/-- SX_EXCL_BDS1.MASK, [30:0], RW (R300). -/
abbrev Reg.SX_EXCL_BDS1_MASK : Fld := ⟨0xc068, 0, 31⟩
/-- The whole word of register CTRL, page 0x31. -/
abbrev Reg.ANT_CTRL_w (ant : Nat) : Fld := ⟨0xc008 + 0x400 * ant, 0, 32⟩
/-- The whole word of register STAT, page 0x31. -/
abbrev Reg.ANT_STAT_w (ant : Nat) : Fld := ⟨0xc00c + 0x400 * ant, 0, 32⟩
/-- The whole word of register FAULT, page 0x31. -/
abbrev Reg.ANT_FAULT_w (ant : Nat) : Fld := ⟨0xc01c + 0x400 * ant, 0, 32⟩
/-- The whole word of register ANT_DELAY, page 0x31. -/
abbrev Reg.ANT_DELAY_w (ant : Nat) : Fld := ⟨0xc020 + 0x400 * ant, 0, 32⟩
/-- The whole word of register ANT_BIAS, page 0x31. -/
abbrev Reg.ANT_BIAS_w (ant : Nat) : Fld := ⟨0xc024 + 0x400 * ant, 0, 32⟩
/-- The whole word of register ANT_AGC, page 0x31. -/
abbrev Reg.ANT_AGC_w (ant : Nat) : Fld := ⟨0xc028 + 0x400 * ant, 0, 32⟩
/-- The whole word of register ANT_SOLN, page 0x31. -/
abbrev Reg.ANT_SOLN_w (ant : Nat) : Fld := ⟨0xc02c + 0x400 * ant, 0, 32⟩
/-- The whole word of register ANT_POS_N, page 0x31. -/
abbrev Reg.ANT_POS_N_w (ant : Nat) : Fld := ⟨0xc030 + 0x400 * ant, 0, 32⟩
/-- The whole word of register ANT_POS_E, page 0x31. -/
abbrev Reg.ANT_POS_E_w (ant : Nat) : Fld := ⟨0xc034 + 0x400 * ant, 0, 32⟩
/-- The whole word of register ANT_POS_D, page 0x31. -/
abbrev Reg.ANT_POS_D_w (ant : Nat) : Fld := ⟨0xc038 + 0x400 * ant, 0, 32⟩
/-- The whole word of register ANT_POS_SIG, page 0x31. -/
abbrev Reg.ANT_POS_SIG_w (ant : Nat) : Fld := ⟨0xc03c + 0x400 * ant, 0, 32⟩
/-- The whole word of register ANT_MEAS_SEL, page 0x31. -/
abbrev Reg.ANT_MEAS_SEL_w (ant : Nat) : Fld := ⟨0xc040 + 0x400 * ant, 0, 32⟩
/-- The whole word of register ANT_MEAS_ID, page 0x31. -/
abbrev Reg.ANT_MEAS_ID_w (ant : Nat) : Fld := ⟨0xc044 + 0x400 * ant, 0, 32⟩
/-- The whole word of register ANT_MEAS_CODE, page 0x31. -/
abbrev Reg.ANT_MEAS_CODE_w (ant : Nat) : Fld := ⟨0xc048 + 0x400 * ant, 0, 32⟩
/-- The whole word of register ANT_MEAS_CARR, page 0x31. -/
abbrev Reg.ANT_MEAS_CARR_w (ant : Nat) : Fld := ⟨0xc04c + 0x400 * ant, 0, 32⟩
/-- The whole word of register ANT_MEAS_DOP, page 0x31. -/
abbrev Reg.ANT_MEAS_DOP_w (ant : Nat) : Fld := ⟨0xc050 + 0x400 * ant, 0, 32⟩
/-- The whole word of register ANT_MEAS_QUAL, page 0x31. -/
abbrev Reg.ANT_MEAS_QUAL_w (ant : Nat) : Fld := ⟨0xc054 + 0x400 * ant, 0, 32⟩
/-- The whole word of register ANT_CH, page 0x31. -/
abbrev Reg.ANT_CH_w (ant : Nat) (i : Nat) : Fld := ⟨0xc100 + 0x400 * ant + 0x4 * i, 0, 32⟩
/-- CTRL.CNT_CLR, [0], WO (R302). -/
abbrev Reg.ANT_CTRL_CNT_CLR (ant : Nat) : Fld := ⟨0xc008 + 0x400 * ant, 0, 1⟩
/-- STAT.AGC_LIMIT, [3], RO (R302). -/
abbrev Reg.ANT_STAT_AGC_LIMIT (ant : Nat) : Fld := ⟨0xc00c + 0x400 * ant, 3, 1⟩
/-- STAT.NO_SIGNAL, [2], RO (R302). -/
abbrev Reg.ANT_STAT_NO_SIGNAL (ant : Nat) : Fld := ⟨0xc00c + 0x400 * ant, 2, 1⟩
/-- STAT.BIAS, [1:0], RO (R302). -/
abbrev Reg.ANT_STAT_BIAS (ant : Nat) : Fld := ⟨0xc00c + 0x400 * ant, 0, 2⟩
/-- FAULT.BIAS_FAULT, [0], RO (R302). -/
abbrev Reg.ANT_FAULT_BIAS_FAULT (ant : Nat) : Fld := ⟨0xc01c + 0x400 * ant, 0, 1⟩
/-- ANT_DELAY.DELAY, [12:0], RW (R303). -/
abbrev Reg.ANT_DELAY_DELAY (ant : Nat) : Fld := ⟨0xc020 + 0x400 * ant, 0, 13⟩
/-- ANT_BIAS.CURRENT, [15:4], RO (R303). -/
abbrev Reg.ANT_BIAS_CURRENT (ant : Nat) : Fld := ⟨0xc024 + 0x400 * ant, 4, 12⟩
/-- ANT_BIAS.STATUS, [1:0], RO (R303). -/
abbrev Reg.ANT_BIAS_STATUS (ant : Nat) : Fld := ⟨0xc024 + 0x400 * ant, 0, 2⟩
/-- ANT_AGC.UPPER, [31:16], RO (R303). -/
abbrev Reg.ANT_AGC_UPPER (ant : Nat) : Fld := ⟨0xc028 + 0x400 * ant, 16, 16⟩
/-- ANT_AGC.LOWER, [15:0], RO (R303). -/
abbrev Reg.ANT_AGC_LOWER (ant : Nat) : Fld := ⟨0xc028 + 0x400 * ant, 0, 16⟩
/-- ANT_SOLN.STATE, [31:30], RO (R303). -/
abbrev Reg.ANT_SOLN_STATE (ant : Nat) : Fld := ⟨0xc02c + 0x400 * ant, 30, 2⟩
/-- ANT_SOLN.N_GPS, [29:24], RO (R303). -/
abbrev Reg.ANT_SOLN_N_GPS (ant : Nat) : Fld := ⟨0xc02c + 0x400 * ant, 24, 6⟩
/-- ANT_SOLN.N_GAL, [23:18], RO (R303). -/
abbrev Reg.ANT_SOLN_N_GAL (ant : Nat) : Fld := ⟨0xc02c + 0x400 * ant, 18, 6⟩
/-- ANT_SOLN.N_BDS, [17:12], RO (R303). -/
abbrev Reg.ANT_SOLN_N_BDS (ant : Nat) : Fld := ⟨0xc02c + 0x400 * ant, 12, 6⟩
/-- ANT_SOLN.PDOP, [7:0], RO (R303). -/
abbrev Reg.ANT_SOLN_PDOP (ant : Nat) : Fld := ⟨0xc02c + 0x400 * ant, 0, 8⟩
/-- ANT_POS_N.POS, [31:0], RO (R303). -/
abbrev Reg.ANT_POS_N_POS (ant : Nat) : Fld := ⟨0xc030 + 0x400 * ant, 0, 32⟩
/-- ANT_POS_E.POS, [31:0], RO (R303). -/
abbrev Reg.ANT_POS_E_POS (ant : Nat) : Fld := ⟨0xc034 + 0x400 * ant, 0, 32⟩
/-- ANT_POS_D.POS, [31:0], RO (R303). -/
abbrev Reg.ANT_POS_D_POS (ant : Nat) : Fld := ⟨0xc038 + 0x400 * ant, 0, 32⟩
/-- ANT_POS_SIG.HOR, [31:16], RO (R303). -/
abbrev Reg.ANT_POS_SIG_HOR (ant : Nat) : Fld := ⟨0xc03c + 0x400 * ant, 16, 16⟩
/-- ANT_POS_SIG.VER, [15:0], RO (R303). -/
abbrev Reg.ANT_POS_SIG_VER (ant : Nat) : Fld := ⟨0xc03c + 0x400 * ant, 0, 16⟩
/-- ANT_MEAS_SEL.CH, [6:0], RW (R303). -/
abbrev Reg.ANT_MEAS_SEL_CH (ant : Nat) : Fld := ⟨0xc040 + 0x400 * ant, 0, 7⟩
/-- ANT_MEAS_ID.EPOCH, [31:16], RO (R303). -/
abbrev Reg.ANT_MEAS_ID_EPOCH (ant : Nat) : Fld := ⟨0xc044 + 0x400 * ant, 16, 16⟩
/-- ANT_MEAS_ID.SYS, [15:14], RO (R303). -/
abbrev Reg.ANT_MEAS_ID_SYS (ant : Nat) : Fld := ⟨0xc044 + 0x400 * ant, 14, 2⟩
/-- ANT_MEAS_ID.PRN, [13:8], RO (R303). -/
abbrev Reg.ANT_MEAS_ID_PRN (ant : Nat) : Fld := ⟨0xc044 + 0x400 * ant, 8, 6⟩
/-- ANT_MEAS_ID.BAND, [7], RO (R303). -/
abbrev Reg.ANT_MEAS_ID_BAND (ant : Nat) : Fld := ⟨0xc044 + 0x400 * ant, 7, 1⟩
/-- ANT_MEAS_ID.STATE, [6:4], RO (R303). -/
abbrev Reg.ANT_MEAS_ID_STATE (ant : Nat) : Fld := ⟨0xc044 + 0x400 * ant, 4, 3⟩
/-- ANT_MEAS_CODE.RANGE, [31:0], RO (R303). -/
abbrev Reg.ANT_MEAS_CODE_RANGE (ant : Nat) : Fld := ⟨0xc048 + 0x400 * ant, 0, 32⟩
/-- ANT_MEAS_CARR.PHASE, [31:0], RO (R303). -/
abbrev Reg.ANT_MEAS_CARR_PHASE (ant : Nat) : Fld := ⟨0xc04c + 0x400 * ant, 0, 32⟩
/-- ANT_MEAS_DOP.DOPPLER, [31:0], RO (R303). -/
abbrev Reg.ANT_MEAS_DOP_DOPPLER (ant : Nat) : Fld := ⟨0xc050 + 0x400 * ant, 0, 32⟩
/-- ANT_MEAS_QUAL.CN0, [31:22], RO (R303). -/
abbrev Reg.ANT_MEAS_QUAL_CN0 (ant : Nat) : Fld := ⟨0xc054 + 0x400 * ant, 22, 10⟩
/-- ANT_MEAS_QUAL.LOCK, [21:12], RO (R303). -/
abbrev Reg.ANT_MEAS_QUAL_LOCK (ant : Nat) : Fld := ⟨0xc054 + 0x400 * ant, 12, 10⟩
/-- ANT_MEAS_QUAL.SLIPS, [11:4], RO (R303). -/
abbrev Reg.ANT_MEAS_QUAL_SLIPS (ant : Nat) : Fld := ⟨0xc054 + 0x400 * ant, 4, 8⟩
/-- ANT_MEAS_QUAL.HALF_CYCLE, [3], RO (R303). -/
abbrev Reg.ANT_MEAS_QUAL_HALF_CYCLE (ant : Nat) : Fld := ⟨0xc054 + 0x400 * ant, 3, 1⟩
/-- ANT_MEAS_QUAL.SLIP, [2], RO (R303). -/
abbrev Reg.ANT_MEAS_QUAL_SLIP (ant : Nat) : Fld := ⟨0xc054 + 0x400 * ant, 2, 1⟩
/-- ANT_MEAS_QUAL.EPH, [1], RO (R303). -/
abbrev Reg.ANT_MEAS_QUAL_EPH (ant : Nat) : Fld := ⟨0xc054 + 0x400 * ant, 1, 1⟩
/-- ANT_MEAS_QUAL.SMOOTHED, [0], RO (R303). -/
abbrev Reg.ANT_MEAS_QUAL_SMOOTHED (ant : Nat) : Fld := ⟨0xc054 + 0x400 * ant, 0, 1⟩
/-- ANT_CH.SYS, [31:30], RO (R303). -/
abbrev Reg.ANT_CH_SYS (ant : Nat) (i : Nat) : Fld := ⟨0xc100 + 0x400 * ant + 0x4 * i, 30, 2⟩
/-- ANT_CH.PRN, [29:24], RO (R303). -/
abbrev Reg.ANT_CH_PRN (ant : Nat) (i : Nat) : Fld := ⟨0xc100 + 0x400 * ant + 0x4 * i, 24, 6⟩
/-- ANT_CH.BAND, [23], RO (R303). -/
abbrev Reg.ANT_CH_BAND (ant : Nat) (i : Nat) : Fld := ⟨0xc100 + 0x400 * ant + 0x4 * i, 23, 1⟩
/-- ANT_CH.STATE, [22:20], RO (R303). -/
abbrev Reg.ANT_CH_STATE (ant : Nat) (i : Nat) : Fld := ⟨0xc100 + 0x400 * ant + 0x4 * i, 20, 3⟩
/-- ANT_CH.USED_POS, [19], RO (R303). -/
abbrev Reg.ANT_CH_USED_POS (ant : Nat) (i : Nat) : Fld := ⟨0xc100 + 0x400 * ant + 0x4 * i, 19, 1⟩
/-- ANT_CH.USED_ATT, [18], RO (R303). -/
abbrev Reg.ANT_CH_USED_ATT (ant : Nat) (i : Nat) : Fld := ⟨0xc100 + 0x400 * ant + 0x4 * i, 18, 1⟩
/-- ANT_CH.SLIP, [17], RO (R303). -/
abbrev Reg.ANT_CH_SLIP (ant : Nat) (i : Nat) : Fld := ⟨0xc100 + 0x400 * ant + 0x4 * i, 17, 1⟩
/-- ANT_CH.ELEV, [16:10], RO (R303). -/
abbrev Reg.ANT_CH_ELEV (ant : Nat) (i : Nat) : Fld := ⟨0xc100 + 0x400 * ant + 0x4 * i, 10, 7⟩
/-- ANT_CH.CN0, [9:0], RO (R303). -/
abbrev Reg.ANT_CH_CN0 (ant : Nat) (i : Nat) : Fld := ⟨0xc100 + 0x400 * ant + 0x4 * i, 0, 10⟩
/-- The whole word of register CTRL, page 0x38. -/
abbrev Reg.AIN_CTRL_w : Fld := ⟨0xe008, 0, 32⟩
/-- The whole word of register STAT, page 0x38. -/
abbrev Reg.AIN_STAT_w : Fld := ⟨0xe00c, 0, 32⟩
/-- The whole word of register FAULT, page 0x38. -/
abbrev Reg.AIN_FAULT_w : Fld := ⟨0xe01c, 0, 32⟩
/-- The whole word of register AI_SETTLING, page 0x38. -/
abbrev Reg.AI_SETTLING_w : Fld := ⟨0xe020, 0, 32⟩
/-- The whole word of register AI_FAULTED, page 0x38. -/
abbrev Reg.AI_FAULTED_w : Fld := ⟨0xe024, 0, 32⟩
/-- The whole word of register AI_STEP, page 0x38. -/
abbrev Reg.AI_STEP_w : Fld := ⟨0xe028, 0, 32⟩
/-- The whole word of register AI_VERN_OK, page 0x38. -/
abbrev Reg.AI_VERN_OK_w : Fld := ⟨0xe02c, 0, 32⟩
/-- The whole word of register AI_DIFF, page 0x38. -/
abbrev Reg.AI_DIFF_w : Fld := ⟨0xe030, 0, 32⟩
/-- The whole word of register AI_FREEZE, page 0x38. -/
abbrev Reg.AI_FREEZE_w : Fld := ⟨0xe034, 0, 32⟩
/-- The whole word of register AI_RESTART, page 0x38. -/
abbrev Reg.AI_RESTART_w : Fld := ⟨0xe038, 0, 32⟩
/-- The whole word of register AI_CFG_RESULT, page 0x38. -/
abbrev Reg.AI_CFG_RESULT_w : Fld := ⟨0xe03c, 0, 32⟩
/-- The whole word of register AI_REPHASE, page 0x38. -/
abbrev Reg.AI_REPHASE_w : Fld := ⟨0xe040, 0, 32⟩
/-- The whole word of register AI_DELAY, page 0x38. -/
abbrev Reg.AI_DELAY_w (i : Nat) : Fld := ⟨0xe080 + 0x4 * i, 0, 32⟩
/-- The whole word of register AI_CFG, page 0x38. -/
abbrev Reg.AI_CFG_w (i : Nat) : Fld := ⟨0xe100 + 0x10 * i, 0, 32⟩
/-- The whole word of register AI_FINE, page 0x38. -/
abbrev Reg.AI_FINE_w (i : Nat) : Fld := ⟨0xe104 + 0x10 * i, 0, 32⟩
/-- The whole word of register AI_VERN, page 0x38. -/
abbrev Reg.AI_VERN_w (i : Nat) : Fld := ⟨0xe108 + 0x10 * i, 0, 32⟩
/-- The whole word of register AI_STAT, page 0x38. -/
abbrev Reg.AI_STAT_w (i : Nat) : Fld := ⟨0xe10c + 0x10 * i, 0, 32⟩
/-- CTRL.CNT_CLR, [0], WO (R336). -/
abbrev Reg.AIN_CTRL_CNT_CLR : Fld := ⟨0xe008, 0, 1⟩
/-- STAT.ANY_SETTLING, [2], RO (R336). -/
abbrev Reg.AIN_STAT_ANY_SETTLING : Fld := ⟨0xe00c, 2, 1⟩
/-- STAT.ANY_FAULT, [1], RO (R336). -/
abbrev Reg.AIN_STAT_ANY_FAULT : Fld := ⟨0xe00c, 1, 1⟩
/-- STAT.CHAIN_RUN, [0], RO (R336). -/
abbrev Reg.AIN_STAT_CHAIN_RUN : Fld := ⟨0xe00c, 0, 1⟩
/-- FAULT.ALIGN_LIMIT, [0], RO (R336). -/
abbrev Reg.AIN_FAULT_ALIGN_LIMIT : Fld := ⟨0xe01c, 0, 1⟩
/-- AI_SETTLING.MASK, [31:0], RO (R337). -/
abbrev Reg.AI_SETTLING_MASK : Fld := ⟨0xe020, 0, 32⟩
/-- AI_FAULTED.MASK, [31:0], RO (R337). -/
abbrev Reg.AI_FAULTED_MASK : Fld := ⟨0xe024, 0, 32⟩
/-- AI_STEP.MASK, [31:0], RO (R337). -/
abbrev Reg.AI_STEP_MASK : Fld := ⟨0xe028, 0, 32⟩
/-- AI_VERN_OK.MASK, [31:0], RO (R337). -/
abbrev Reg.AI_VERN_OK_MASK : Fld := ⟨0xe02c, 0, 32⟩
/-- AI_DIFF.MASK, [31:0], RO (R337). -/
abbrev Reg.AI_DIFF_MASK : Fld := ⟨0xe030, 0, 32⟩
/-- AI_FREEZE.MASK, [31:0], RW (R337). -/
abbrev Reg.AI_FREEZE_MASK : Fld := ⟨0xe034, 0, 32⟩
/-- AI_RESTART.MASK, [31:0], WO (R337). -/
abbrev Reg.AI_RESTART_MASK : Fld := ⟨0xe038, 0, 32⟩
/-- AI_CFG_RESULT.CODE, [15:8], RO (R337). -/
abbrev Reg.AI_CFG_RESULT_CODE : Fld := ⟨0xe03c, 8, 8⟩
/-- AI_CFG_RESULT.CH, [4:0], RO (R337). -/
abbrev Reg.AI_CFG_RESULT_CH : Fld := ⟨0xe03c, 0, 5⟩
/-- AI_REPHASE.CNT, [15:0], RO (R337). -/
abbrev Reg.AI_REPHASE_CNT : Fld := ⟨0xe040, 0, 16⟩
/-- AI_DELAY.MINPHASE, [31], RO (R337). -/
abbrev Reg.AI_DELAY_MINPHASE (i : Nat) : Fld := ⟨0xe080 + 0x4 * i, 31, 1⟩
/-- AI_DELAY.DELAY, [23:0], RO (R337). -/
abbrev Reg.AI_DELAY_DELAY (i : Nat) : Fld := ⟨0xe080 + 0x4 * i, 0, 24⟩
/-- AI_CFG.PHASE, [31:22], RW (R337). -/
abbrev Reg.AI_CFG_PHASE (i : Nat) : Fld := ⟨0xe100 + 0x10 * i, 22, 10⟩
/-- AI_CFG.AUTO, [21], RO (R337). -/
abbrev Reg.AI_CFG_AUTO (i : Nat) : Fld := ⟨0xe100 + 0x10 * i, 21, 1⟩
/-- AI_CFG.GROUP, [19:16], RO (R337). -/
abbrev Reg.AI_CFG_GROUP (i : Nat) : Fld := ⟨0xe100 + 0x10 * i, 16, 4⟩
/-- AI_CFG.DCB_EN, [11], RW (R337). -/
abbrev Reg.AI_CFG_DCB_EN (i : Nat) : Fld := ⟨0xe100 + 0x10 * i, 11, 1⟩
/-- AI_CFG.FINE_TYPE, [10], RW (R337). -/
abbrev Reg.AI_CFG_FINE_TYPE (i : Nat) : Fld := ⟨0xe100 + 0x10 * i, 10, 1⟩
/-- AI_CFG.DECIM, [9:8], RW (R337). -/
abbrev Reg.AI_CFG_DECIM (i : Nat) : Fld := ⟨0xe100 + 0x10 * i, 8, 2⟩
/-- AI_CFG.ORDER, [7:6], RW (R337). -/
abbrev Reg.AI_CFG_ORDER (i : Nat) : Fld := ⟨0xe100 + 0x10 * i, 6, 2⟩
/-- AI_CFG.MODE, [1:0], RW (R337). -/
abbrev Reg.AI_CFG_MODE (i : Nat) : Fld := ⟨0xe100 + 0x10 * i, 0, 2⟩
/-- AI_FINE.VALUE, [31:0], RO (R337). -/
abbrev Reg.AI_FINE_VALUE (i : Nat) : Fld := ⟨0xe104 + 0x10 * i, 0, 32⟩
/-- AI_VERN.VALUE, [31:0], RO (R337). -/
abbrev Reg.AI_VERN_VALUE (i : Nat) : Fld := ⟨0xe108 + 0x10 * i, 0, 32⟩
/-- AI_STAT.SEQ, [31:24], RO (R337). -/
abbrev Reg.AI_STAT_SEQ (i : Nat) : Fld := ⟨0xe10c + 0x10 * i, 24, 8⟩
/-- AI_STAT.CAUSE, [19:16], RO (R337). -/
abbrev Reg.AI_STAT_CAUSE (i : Nat) : Fld := ⟨0xe10c + 0x10 * i, 16, 4⟩
/-- AI_STAT.DIFF, [11], RO (R337). -/
abbrev Reg.AI_STAT_DIFF (i : Nat) : Fld := ⟨0xe10c + 0x10 * i, 11, 1⟩
/-- AI_STAT.FROZEN, [10], RO (R337). -/
abbrev Reg.AI_STAT_FROZEN (i : Nat) : Fld := ⟨0xe10c + 0x10 * i, 10, 1⟩
/-- AI_STAT.STEP, [9], RO (R337). -/
abbrev Reg.AI_STAT_STEP (i : Nat) : Fld := ⟨0xe10c + 0x10 * i, 9, 1⟩
/-- AI_STAT.VERN_OK, [8], RO (R337). -/
abbrev Reg.AI_STAT_VERN_OK (i : Nat) : Fld := ⟨0xe10c + 0x10 * i, 8, 1⟩
/-- AI_STAT.STATE, [1:0], RO (R337). -/
abbrev Reg.AI_STAT_STATE (i : Nat) : Fld := ⟨0xe10c + 0x10 * i, 0, 2⟩
/-- The whole word of register STAT, page 0x39. -/
abbrev Reg.AO_STAT_w : Fld := ⟨0xe40c, 0, 32⟩
/-- The whole word of register FAULT, page 0x39. -/
abbrev Reg.AO_FAULT_w : Fld := ⟨0xe41c, 0, 32⟩
/-- The whole word of register AO_FAULTED, page 0x39. -/
abbrev Reg.AO_FAULTED_w : Fld := ⟨0xe420, 0, 32⟩
/-- The whole word of register AO_CLAMPED, page 0x39. -/
abbrev Reg.AO_CLAMPED_w : Fld := ⟨0xe424, 0, 32⟩
/-- The whole word of register AO_CFG, page 0x39. -/
abbrev Reg.AO_CFG_w (i : Nat) : Fld := ⟨0xe500 + 0x10 * i, 0, 32⟩
/-- The whole word of register AO_HOST, page 0x39. -/
abbrev Reg.AO_HOST_w (i : Nat) : Fld := ⟨0xe504 + 0x10 * i, 0, 32⟩
/-- The whole word of register AO_VAL, page 0x39. -/
abbrev Reg.AO_VAL_w (i : Nat) : Fld := ⟨0xe508 + 0x10 * i, 0, 32⟩
/-- The whole word of register AO_READ, page 0x39. -/
abbrev Reg.AO_READ_w (i : Nat) : Fld := ⟨0xe50c + 0x10 * i, 0, 32⟩
/-- STAT.DRIVING, [0], RO (R339). -/
abbrev Reg.AO_STAT_DRIVING : Fld := ⟨0xe40c, 0, 1⟩
/-- FAULT.AO_FAULT_SEEN, [0], RO (R339). -/
abbrev Reg.AO_FAULT_AO_FAULT_SEEN : Fld := ⟨0xe41c, 0, 1⟩
/-- AO_FAULTED.MASK, [15:0], RO (R339). -/
abbrev Reg.AO_FAULTED_MASK : Fld := ⟨0xe420, 0, 16⟩
/-- AO_CLAMPED.MASK, [15:0], RO (R339). -/
abbrev Reg.AO_CLAMPED_MASK : Fld := ⟨0xe424, 0, 16⟩
/-- AO_CFG.CAUSE, [23:20], RO (R339). -/
abbrev Reg.AO_CFG_CAUSE (i : Nat) : Fld := ⟨0xe500 + 0x10 * i, 20, 4⟩
/-- AO_CFG.FAULT, [19], RO (R339). -/
abbrev Reg.AO_CFG_FAULT (i : Nat) : Fld := ⟨0xe500 + 0x10 * i, 19, 1⟩
/-- AO_CFG.CLAMPED, [18], RO (R339). -/
abbrev Reg.AO_CFG_CLAMPED (i : Nat) : Fld := ⟨0xe500 + 0x10 * i, 18, 1⟩
/-- AO_CFG.DRIVEN, [17], RO (R339). -/
abbrev Reg.AO_CFG_DRIVEN (i : Nat) : Fld := ⟨0xe500 + 0x10 * i, 17, 1⟩
/-- AO_CFG.TC, [11:8], RO (R339). -/
abbrev Reg.AO_CFG_TC (i : Nat) : Fld := ⟨0xe500 + 0x10 * i, 8, 4⟩
/-- AO_CFG.SOURCE, [7:4], RO (R339). -/
abbrev Reg.AO_CFG_SOURCE (i : Nat) : Fld := ⟨0xe500 + 0x10 * i, 4, 4⟩
/-- AO_CFG.MODE, [1:0], RO (R339). -/
abbrev Reg.AO_CFG_MODE (i : Nat) : Fld := ⟨0xe500 + 0x10 * i, 0, 2⟩
/-- AO_HOST.VALUE, [31:0], RW (R339). -/
abbrev Reg.AO_HOST_VALUE (i : Nat) : Fld := ⟨0xe504 + 0x10 * i, 0, 32⟩
/-- AO_VAL.VALUE, [31:0], RO (R339). -/
abbrev Reg.AO_VAL_VALUE (i : Nat) : Fld := ⟨0xe508 + 0x10 * i, 0, 32⟩
/-- AO_READ.VALUE, [31:0], RO (R339). -/
abbrev Reg.AO_READ_VALUE (i : Nat) : Fld := ⟨0xe50c + 0x10 * i, 0, 32⟩
/-- The whole word of register CTRL, page 0x40. -/
abbrev Reg.CHR_CTRL_w : Fld := ⟨0x10008, 0, 32⟩
/-- The whole word of register STAT, page 0x40. -/
abbrev Reg.CHR_STAT_w : Fld := ⟨0x1000c, 0, 32⟩
/-- The whole word of register FAULT, page 0x40. -/
abbrev Reg.CHR_FAULT_w : Fld := ⟨0x1001c, 0, 32⟩
/-- The whole word of register CHR_SNAP_SEC_LO, page 0x40. -/
abbrev Reg.CHR_SNAP_SEC_LO_w : Fld := ⟨0x10020, 0, 32⟩
/-- The whole word of register CHR_SNAP_SEC_HI, page 0x40. -/
abbrev Reg.CHR_SNAP_SEC_HI_w : Fld := ⟨0x10024, 0, 32⟩
/-- The whole word of register CHR_SNAP_NS, page 0x40. -/
abbrev Reg.CHR_SNAP_NS_w : Fld := ⟨0x10028, 0, 32⟩
/-- The whole word of register CHR_SYNC, page 0x40. -/
abbrev Reg.CHR_SYNC_w : Fld := ⟨0x1002c, 0, 32⟩
/-- The whole word of register CHR_OFFSET, page 0x40. -/
abbrev Reg.CHR_OFFSET_w : Fld := ⟨0x10030, 0, 32⟩
/-- The whole word of register CHR_FREQ, page 0x40. -/
abbrev Reg.CHR_FREQ_w : Fld := ⟨0x10034, 0, 32⟩
/-- The whole word of register CHR_HOLD, page 0x40. -/
abbrev Reg.CHR_HOLD_w : Fld := ⟨0x10038, 0, 32⟩
/-- The whole word of register CHR_UTC, page 0x40. -/
abbrev Reg.CHR_UTC_w : Fld := ⟨0x1003c, 0, 32⟩
/-- The whole word of register CHR_SRC_DIS, page 0x40. -/
abbrev Reg.CHR_SRC_DIS_w : Fld := ⟨0x10040, 0, 32⟩
/-- The whole word of register CHR_CMD, page 0x40. -/
abbrev Reg.CHR_CMD_w : Fld := ⟨0x10044, 0, 32⟩
/-- The whole word of register CHR_ARG_SEC_LO, page 0x40. -/
abbrev Reg.CHR_ARG_SEC_LO_w : Fld := ⟨0x10048, 0, 32⟩
/-- The whole word of register CHR_ARG_SEC_HI, page 0x40. -/
abbrev Reg.CHR_ARG_SEC_HI_w : Fld := ⟨0x1004c, 0, 32⟩
/-- The whole word of register CHR_ARG_NS, page 0x40. -/
abbrev Reg.CHR_ARG_NS_w : Fld := ⟨0x10050, 0, 32⟩
/-- The whole word of register CHR_STEP_SEC, page 0x40. -/
abbrev Reg.CHR_STEP_SEC_w : Fld := ⟨0x10054, 0, 32⟩
/-- The whole word of register CHR_STEP_NS, page 0x40. -/
abbrev Reg.CHR_STEP_NS_w : Fld := ⟨0x10058, 0, 32⟩
/-- The whole word of register CHR_CNT, page 0x40. -/
abbrev Reg.CHR_CNT_w : Fld := ⟨0x1005c, 0, 32⟩
/-- The whole word of register CHR_SRC_STAT, page 0x40. -/
abbrev Reg.CHR_SRC_STAT_w (i : Nat) : Fld := ⟨0x10080 + 0x10 * i, 0, 32⟩
/-- The whole word of register CHR_SRC_OFS, page 0x40. -/
abbrev Reg.CHR_SRC_OFS_w (i : Nat) : Fld := ⟨0x10084 + 0x10 * i, 0, 32⟩
/-- The whole word of register CHR_SRC_SIG, page 0x40. -/
abbrev Reg.CHR_SRC_SIG_w (i : Nat) : Fld := ⟨0x10088 + 0x10 * i, 0, 32⟩
/-- The whole word of register PPS_CFG, page 0x40. -/
abbrev Reg.PPS_CFG_w (i : Nat) : Fld := ⟨0x100e0 + 0x8 * i, 0, 32⟩
/-- The whole word of register PPS_DELAY, page 0x40. -/
abbrev Reg.PPS_DELAY_w (i : Nat) : Fld := ⟨0x100e4 + 0x8 * i, 0, 32⟩
/-- The whole word of register PTP_ASYM, page 0x40. -/
abbrev Reg.PTP_ASYM_w (i : Nat) : Fld := ⟨0x100f0 + 0x4 * i, 0, 32⟩
/-- The whole word of register PTP_CFG, page 0x40. -/
abbrev Reg.PTP_CFG_w (i : Nat) : Fld := ⟨0x10100 + 0x40 * i, 0, 32⟩
/-- The whole word of register PTP_STAT, page 0x40. -/
abbrev Reg.PTP_STAT_w (i : Nat) : Fld := ⟨0x10104 + 0x40 * i, 0, 32⟩
/-- The whole word of register PTP_GM_HI, page 0x40. -/
abbrev Reg.PTP_GM_HI_w (i : Nat) : Fld := ⟨0x10108 + 0x40 * i, 0, 32⟩
/-- The whole word of register PTP_GM_LO, page 0x40. -/
abbrev Reg.PTP_GM_LO_w (i : Nat) : Fld := ⟨0x1010c + 0x40 * i, 0, 32⟩
/-- The whole word of register PTP_GM_Q, page 0x40. -/
abbrev Reg.PTP_GM_Q_w (i : Nat) : Fld := ⟨0x10110 + 0x40 * i, 0, 32⟩
/-- The whole word of register PTP_MPD, page 0x40. -/
abbrev Reg.PTP_MPD_w (i : Nat) : Fld := ⟨0x10114 + 0x40 * i, 0, 32⟩
/-- The whole word of register PTP_CNT, page 0x40. -/
abbrev Reg.PTP_CNT_w (i : Nat) : Fld := ⟨0x10118 + 0x40 * i, 0, 32⟩
/-- CTRL.CNT_CLR, [1], WO (R373). -/
abbrev Reg.CHR_CTRL_CNT_CLR : Fld := ⟨0x10008, 1, 1⟩
/-- CTRL.SNAP, [0], WO (R373). -/
abbrev Reg.CHR_CTRL_SNAP : Fld := ⟨0x10008, 0, 1⟩
/-- STAT.STEP_PENDING, [4], RO (R373). -/
abbrev Reg.CHR_STAT_STEP_PENDING : Fld := ⟨0x1000c, 4, 1⟩
/-- STAT.HOLD_OK, [3], RO (R373). -/
abbrev Reg.CHR_STAT_HOLD_OK : Fld := ⟨0x1000c, 3, 1⟩
/-- STAT.HOLDOVER, [2], RO (R373). -/
abbrev Reg.CHR_STAT_HOLDOVER : Fld := ⟨0x1000c, 2, 1⟩
/-- STAT.LOCKED, [1], RO (R373). -/
abbrev Reg.CHR_STAT_LOCKED : Fld := ⟨0x1000c, 1, 1⟩
/-- STAT.TIME_VALID, [0], RO (R373). -/
abbrev Reg.CHR_STAT_TIME_VALID : Fld := ⟨0x1000c, 0, 1⟩
/-- FAULT.HOLD_DEGRADED, [2], RO (R373). -/
abbrev Reg.CHR_FAULT_HOLD_DEGRADED : Fld := ⟨0x1001c, 2, 1⟩
/-- FAULT.HOLD_LIMIT, [1], RO (R373). -/
abbrev Reg.CHR_FAULT_HOLD_LIMIT : Fld := ⟨0x1001c, 1, 1⟩
/-- FAULT.COASTED, [0], RO (R373). -/
abbrev Reg.CHR_FAULT_COASTED : Fld := ⟨0x1001c, 0, 1⟩
/-- CHR_SNAP_SEC_LO.SEC, [31:0], RO (R374). -/
abbrev Reg.CHR_SNAP_SEC_LO_SEC : Fld := ⟨0x10020, 0, 32⟩
/-- CHR_SNAP_SEC_HI.FRAC, [31:16], RO (R374). -/
abbrev Reg.CHR_SNAP_SEC_HI_FRAC : Fld := ⟨0x10024, 16, 16⟩
/-- CHR_SNAP_SEC_HI.SEC, [15:0], RO (R374). -/
abbrev Reg.CHR_SNAP_SEC_HI_SEC : Fld := ⟨0x10024, 0, 16⟩
/-- CHR_SNAP_NS.NS, [29:0], RO (R374). -/
abbrev Reg.CHR_SNAP_NS_NS : Fld := ⟨0x10028, 0, 30⟩
/-- CHR_SYNC.SRC, [7:4], RO (R374). -/
abbrev Reg.CHR_SYNC_SRC : Fld := ⟨0x1002c, 4, 4⟩
/-- CHR_SYNC.STATE, [2:0], RO (R374). -/
abbrev Reg.CHR_SYNC_STATE : Fld := ⟨0x1002c, 0, 3⟩
/-- CHR_OFFSET.X, [31:0], RO (R374). -/
abbrev Reg.CHR_OFFSET_X : Fld := ⟨0x10030, 0, 32⟩
/-- CHR_FREQ.F, [31:0], RO (R374). -/
abbrev Reg.CHR_FREQ_F : Fld := ⟨0x10034, 0, 32⟩
/-- CHR_HOLD.TIME, [31:16], RO (R374). -/
abbrev Reg.CHR_HOLD_TIME : Fld := ⟨0x10038, 16, 16⟩
/-- CHR_HOLD.EST, [15:0], RO (R374). -/
abbrev Reg.CHR_HOLD_EST : Fld := ⟨0x10038, 0, 16⟩
/-- CHR_UTC.LEAP59, [11], RO (R374). -/
abbrev Reg.CHR_UTC_LEAP59 : Fld := ⟨0x1003c, 11, 1⟩
/-- CHR_UTC.LEAP61, [10], RO (R374). -/
abbrev Reg.CHR_UTC_LEAP61 : Fld := ⟨0x1003c, 10, 1⟩
/-- CHR_UTC.ORIGIN, [9:8], RO (R374). -/
abbrev Reg.CHR_UTC_ORIGIN : Fld := ⟨0x1003c, 8, 2⟩
/-- CHR_UTC.OFS, [7:0], RO (R374). -/
abbrev Reg.CHR_UTC_OFS : Fld := ⟨0x1003c, 0, 8⟩
/-- CHR_SRC_DIS.MASK, [3:1], RW (R374). -/
abbrev Reg.CHR_SRC_DIS_MASK : Fld := ⟨0x10040, 1, 3⟩
/-- CHR_CMD.GO, [31], WO (R374). -/
abbrev Reg.CHR_CMD_GO : Fld := ⟨0x10044, 31, 1⟩
/-- CHR_CMD.RESULT, [23:16], RO (R374). -/
abbrev Reg.CHR_CMD_RESULT : Fld := ⟨0x10044, 16, 8⟩
/-- CHR_CMD.TAG, [15:8], RW (R374). -/
abbrev Reg.CHR_CMD_TAG : Fld := ⟨0x10044, 8, 8⟩
/-- CHR_CMD.CMD, [3:0], RW (R374). -/
abbrev Reg.CHR_CMD_CMD : Fld := ⟨0x10044, 0, 4⟩
/-- CHR_ARG_SEC_LO.SEC, [31:0], RW (R374). -/
abbrev Reg.CHR_ARG_SEC_LO_SEC : Fld := ⟨0x10048, 0, 32⟩
/-- CHR_ARG_SEC_HI.SEC, [15:0], RW (R374). -/
abbrev Reg.CHR_ARG_SEC_HI_SEC : Fld := ⟨0x1004c, 0, 16⟩
/-- CHR_ARG_NS.NS, [29:0], RW (R374). -/
abbrev Reg.CHR_ARG_NS_NS : Fld := ⟨0x10050, 0, 30⟩
/-- CHR_STEP_SEC.SEC, [31:0], RO (R374). -/
abbrev Reg.CHR_STEP_SEC_SEC : Fld := ⟨0x10054, 0, 32⟩
/-- CHR_STEP_NS.NS, [31:0], RO (R374). -/
abbrev Reg.CHR_STEP_NS_NS : Fld := ⟨0x10058, 0, 32⟩
/-- CHR_CNT.STEPS, [31:16], RO (R374). -/
abbrev Reg.CHR_CNT_STEPS : Fld := ⟨0x1005c, 16, 16⟩
/-- CHR_CNT.SWITCHES, [15:8], RO (R374). -/
abbrev Reg.CHR_CNT_SWITCHES : Fld := ⟨0x1005c, 8, 8⟩
/-- CHR_CNT.HOLDOVERS, [7:0], RO (R374). -/
abbrev Reg.CHR_CNT_HOLDOVERS : Fld := ⟨0x1005c, 0, 8⟩
/-- CHR_SRC_STAT.AGE, [31:16], RO (R374). -/
abbrev Reg.CHR_SRC_STAT_AGE (i : Nat) : Fld := ⟨0x10080 + 0x10 * i, 16, 16⟩
/-- CHR_SRC_STAT.QUAL, [15:8], RO (R374). -/
abbrev Reg.CHR_SRC_STAT_QUAL (i : Nat) : Fld := ⟨0x10080 + 0x10 * i, 8, 8⟩
/-- CHR_SRC_STAT.SELECTED, [3], RO (R374). -/
abbrev Reg.CHR_SRC_STAT_SELECTED (i : Nat) : Fld := ⟨0x10080 + 0x10 * i, 3, 1⟩
/-- CHR_SRC_STAT.DISABLED, [2], RO (R374). -/
abbrev Reg.CHR_SRC_STAT_DISABLED (i : Nat) : Fld := ⟨0x10080 + 0x10 * i, 2, 1⟩
/-- CHR_SRC_STAT.STATE, [1:0], RO (R374). -/
abbrev Reg.CHR_SRC_STAT_STATE (i : Nat) : Fld := ⟨0x10080 + 0x10 * i, 0, 2⟩
/-- CHR_SRC_OFS.X, [31:0], RO (R374). -/
abbrev Reg.CHR_SRC_OFS_X (i : Nat) : Fld := ⟨0x10084 + 0x10 * i, 0, 32⟩
/-- CHR_SRC_SIG.GATE_FAIL, [31:16], RO (R374). -/
abbrev Reg.CHR_SRC_SIG_GATE_FAIL (i : Nat) : Fld := ⟨0x10088 + 0x10 * i, 16, 16⟩
/-- CHR_SRC_SIG.SPREAD, [15:0], RO (R374). -/
abbrev Reg.CHR_SRC_SIG_SPREAD (i : Nat) : Fld := ⟨0x10088 + 0x10 * i, 0, 16⟩
/-- PPS_CFG.MODE, [17:16], RW (R374). -/
abbrev Reg.PPS_CFG_MODE (i : Nat) : Fld := ⟨0x100e0 + 0x8 * i, 16, 2⟩
/-- PPS_CFG.WIDTH, [8:0], RW (R374). -/
abbrev Reg.PPS_CFG_WIDTH (i : Nat) : Fld := ⟨0x100e0 + 0x8 * i, 0, 9⟩
/-- PPS_DELAY.DELAY, [12:0], RW (R374). -/
abbrev Reg.PPS_DELAY_DELAY (i : Nat) : Fld := ⟨0x100e4 + 0x8 * i, 0, 13⟩
/-- PTP_ASYM.ASYM, [31:0], RW (R374). -/
abbrev Reg.PTP_ASYM_ASYM (i : Nat) : Fld := ⟨0x100f0 + 0x4 * i, 0, 32⟩
/-- PTP_CFG.DOMAIN, [31:24], RO (R374). -/
abbrev Reg.PTP_CFG_DOMAIN (i : Nat) : Fld := ⟨0x10100 + 0x40 * i, 24, 8⟩
/-- PTP_CFG.LOG_SYNC, [23:20], RO (R374). -/
abbrev Reg.PTP_CFG_LOG_SYNC (i : Nat) : Fld := ⟨0x10100 + 0x40 * i, 20, 4⟩
/-- PTP_CFG.TWO_STEP, [17], RO (R374). -/
abbrev Reg.PTP_CFG_TWO_STEP (i : Nat) : Fld := ⟨0x10100 + 0x40 * i, 17, 1⟩
/-- PTP_CFG.TRANSPORT, [16], RO (R374). -/
abbrev Reg.PTP_CFG_TRANSPORT (i : Nat) : Fld := ⟨0x10100 + 0x40 * i, 16, 1⟩
/-- PTP_CFG.DELAY, [15], RO (R374). -/
abbrev Reg.PTP_CFG_DELAY (i : Nat) : Fld := ⟨0x10100 + 0x40 * i, 15, 1⟩
/-- PTP_CFG.ROLE, [14], RO (R374). -/
abbrev Reg.PTP_CFG_ROLE (i : Nat) : Fld := ⟨0x10100 + 0x40 * i, 14, 1⟩
/-- PTP_CFG.ENABLE, [13], RO (R374). -/
abbrev Reg.PTP_CFG_ENABLE (i : Nat) : Fld := ⟨0x10100 + 0x40 * i, 13, 1⟩
/-- PTP_STAT.IS_GM, [8], RO (R374). -/
abbrev Reg.PTP_STAT_IS_GM (i : Nat) : Fld := ⟨0x10104 + 0x40 * i, 8, 1⟩
/-- PTP_STAT.PORT_B, [7:4], RO (R374). -/
abbrev Reg.PTP_STAT_PORT_B (i : Nat) : Fld := ⟨0x10104 + 0x40 * i, 4, 4⟩
/-- PTP_STAT.PORT_A, [3:0], RO (R374). -/
abbrev Reg.PTP_STAT_PORT_A (i : Nat) : Fld := ⟨0x10104 + 0x40 * i, 0, 4⟩
/-- PTP_GM_HI.ID, [31:0], RO (R374). -/
abbrev Reg.PTP_GM_HI_ID (i : Nat) : Fld := ⟨0x10108 + 0x40 * i, 0, 32⟩
/-- PTP_GM_LO.ID, [31:0], RO (R374). -/
abbrev Reg.PTP_GM_LO_ID (i : Nat) : Fld := ⟨0x1010c + 0x40 * i, 0, 32⟩
/-- PTP_GM_Q.CLASS, [31:24], RO (R374). -/
abbrev Reg.PTP_GM_Q_CLASS (i : Nat) : Fld := ⟨0x10110 + 0x40 * i, 24, 8⟩
/-- PTP_GM_Q.ACCURACY, [23:16], RO (R374). -/
abbrev Reg.PTP_GM_Q_ACCURACY (i : Nat) : Fld := ⟨0x10110 + 0x40 * i, 16, 8⟩
/-- PTP_GM_Q.PRIORITY1, [15:8], RO (R374). -/
abbrev Reg.PTP_GM_Q_PRIORITY1 (i : Nat) : Fld := ⟨0x10110 + 0x40 * i, 8, 8⟩
/-- PTP_GM_Q.STEPS, [7:0], RO (R374). -/
abbrev Reg.PTP_GM_Q_STEPS (i : Nat) : Fld := ⟨0x10110 + 0x40 * i, 0, 8⟩
/-- PTP_MPD.DELAY, [31:0], RO (R374). -/
abbrev Reg.PTP_MPD_DELAY (i : Nat) : Fld := ⟨0x10114 + 0x40 * i, 0, 32⟩
/-- PTP_CNT.RX_SYNC, [31:16], RO (R374). -/
abbrev Reg.PTP_CNT_RX_SYNC (i : Nat) : Fld := ⟨0x10118 + 0x40 * i, 16, 16⟩
/-- PTP_CNT.DISCARD, [15:0], RO (R374). -/
abbrev Reg.PTP_CNT_DISCARD (i : Nat) : Fld := ⟨0x10118 + 0x40 * i, 0, 16⟩

end Sys2Proof.Machine
end

