-- ==== Sys2Proof/Machine/Codes.lean ====
section
/-! DEFINITION. The codes that the registers and records use for what the data name, and what is read off a datum directly. -/

namespace Sys2Proof.Machine

/-- AI_STAT.STATE code. -/
def AiState.code : AiState → Nat
  | .off => 0
  | .settling => 1
  | .valid => 2
  | .fault => 3

/-- CAN_CFG.ROLE code. -/
def CanRole.code : CanRole → Nat
  | .off => 0
  | .normal => 1
  | .listen => 2

/-- Entry of the matrix at (CYC, column), 0xFF where the Chart leaves the matrix out (R391). -/
def CanCfg.entry (c : CanCfg) (cyc col : Nat) : Nat := c.matrix.getD (32 * cyc + col) 0xFF

/-- Data bytes of a DLC (R376). -/
def canDlcLen (fdf : Bool) (dlc : Nat) : Nat :=
  if dlc ≤ 8 then dlc
  else if fdf = false then 8
  else if dlc = 9 then 12 else if dlc = 10 then 16 else if dlc = 11 then 20 else if dlc = 12 then 24
  else if dlc = 13 then 32 else if dlc = 14 then 48 else 64

/-- CAN_ERR.LEC code (R406). -/
def CanErr.code : CanErr → Nat
  | .stuff => 1
  | .form => 2
  | .ack => 3
  | .bit1 => 4
  | .bit0 => 5
  | .crc => 6

/-- CH_CFG.TYPE code. -/
def ChType.code : ChType → Nat
  | .azimuth => 0
  | .tunnel => 1
  | .mainRudder => 2
  | .shaft => 3

/-- Larger of N_MAX and |N_MIN| (R220). -/
def ChanChart.nAbs (c : ChanChart) : Rat := max c.nMax (-c.nMin)

/-- CH_STATE.STATE code. -/
def ChState.code : ChState → Nat
  | .unused => 0
  | .offline => 1
  | .notReady => 2
  | .online => 3
  | .draining => 4
  | .stopped => 5
  | .fault => 6
  | .noEngine => 7

/-- Index of a reference input in CLK_REF (R558). -/
def RefIn.idx : RefIn → Nat
  | .refA => 0
  | .refB => 1

/-- CLK_REF.CAUSE code (R560). -/
def TripCause.code : TripCause → Nat
  | .edge => 1
  | .period => 2
  | .freq => 3
  | .expect => 4

/-- Index in PWR_IN (R582). -/
def Supply.idx : Supply → Nat
  | .core => 0
  | .io => 1
  | .ana => 2

/-- Writing operations (R418). -/
def RapOp.writes : RapOp → Bool
  | .read _ _ => false
  | .safetyChallenge => false
  | .badCount op => decide (op ≠ 1) && decide (op ≠ 4)
  | _ => true

/-- Length of a record in bytes, header included (R521). -/
def LogRec.bytes (r : LogRec) : Nat := 16 + 4 * ((r.payload.length + 3) / 4)

/-- Bytes of a block taken by records (R525). -/
def LogBlock.used (b : LogBlock) : Nat := (b.recs.map LogRec.bytes).sum

/-- Severity of an event's records: the Chart's SEV(e), else the default of R529. -/
def LogChart.sevOf (c : LogChart) (e : Nat) : Nat :=
  match c.sev.lookup e with
  | some v => v
  | none =>
    if 0xE0 ≤ e ∧ e ≤ 0xEA then 7
    else if (0x08 ≤ e ∧ e ≤ 0x0F) ∨ (0x60 ≤ e ∧ e ≤ 0x67) then 6
    else 3

/-- SLOT_STAT.KIND code. -/
def RefKind.code : RefKind → Nat
  | .position => 0
  | .heading => 1
  | .motion => 2
  | .wind => 3

/-- Kind of a slot by its global number (R113). -/
def kindOf (s : Nat) : RefKind :=
  if s < 12 then .position else if s < 20 then .heading else if s < 26 then .motion else .wind

/-- SLOT_STAT.TIME_MODE code. -/
def TimeMode.code : TimeMode → Nat
  | .chron => 0
  | .arrival => 1
  | .sensor => 2

/-- Width in bytes of a field map. -/
def ByteMap.width (m : ByteMap) : Nat := if m.ty % 4 = 0 then 1 else if m.ty % 4 = 1 then 2 else 4

/-- SLOT_STAT.STATE code. -/
def SlotState.code : SlotState → Nat
  | .unused => 0
  | .waiting => 1
  | .admitting => 2
  | .admitted => 3
  | .suspect => 4
  | .rejected => 5
  | .deselected => 6

/-- RED_ROLE.ROLE code (R442). -/
def Role.code : Role → Nat
  | .none => 0
  | .boot => 1
  | .active => 2
  | .standby => 3
  | .resync => 4
  | .failed => 5
  | .lubber => 6

/-- RED_LAST.CAUSE code. -/
def TakeCause.code : TakeCause → Nat
  | .peerFailed => 1
  | .peerSupply => 2
  | .peerStall => 3
  | .peerCoast => 4
  | .peerDegraded => 5
  | .hostSwitchover => 6
  | .peerLubber => 7
  | .takeBack => 8
  | .cold => 9
  | .fromLubber => 10

/-- SF_SO_HOLD code (R482, R516). -/
def HoldCause.code : HoldCause → Nat
  | .none => 0
  | .config => 1
  | .switch => 2
  | .binnacle => 3
  | .fb => 4
  | .disc => 5
  | .demand => 6
  | .reset => 7
  | .restart => 8
  | .notConfigured => 15

/-- ANT_CH.SYS code (R303). -/
def GnssSys.code : GnssSys → Nat
  | .gps => 1
  | .gal => 2
  | .bds => 3

/-- ANT_CH.STATE code. -/
def TrkState.code : TrkState → Nat
  | .idle => 0
  | .pullIn => 1
  | .codeLock => 2
  | .phaseLock => 3

/-- BOOT_CAUSE.CAUSE code (R102). -/
def StartCause.code : StartCause → Nat
  | .powerOn => 1
  | .hostRestart => 2
  | .failedStartRetry => 3
  | .laneFailRestart => 4
  | .supplyReset => 5

end Sys2Proof.Machine
end

