-- ==== Sys2Proof/Machine/State.lean ====
section
/-! DEFINITION. The state of the module: two lanes, the shared section, the queue of waiting commands. -/

namespace Sys2Proof.Machine

open Sys2Proof

/-- Faults of a step. The block has no exception: every failure the spec describes is an effect on State. -/
inductive Fault where
  /-- Raised by no command; it stands because the interface asks for a type of faults. Safe. -/
  | none
deriving DecidableEq, Repr

/-- Refusals of a step. -/
inductive Refusal where
  /-- The command has no meaning in this model yet; raised by exec's own arms. Safe. -/
  | notModelled (mnemonic : String)
deriving DecidableEq, Repr

/-- An event found and not yet raised (18 R612): page, bit of the page's event registers, chronometer time found, ns. -/
structure Found where
  page : Nat
  bit : Nat
  time : Rat
deriving DecidableEq, Repr, Inhabited

/-- What the event controller keeps of one event number (18 R617): raises, page and tick of the last raise. -/
structure EvInfo where
  num : Nat
  count : Nat
  page : Nat
  tick : Nat
deriving DecidableEq, Repr, Inhabited

/-- One lane (01 R23). Registers stand in `regs` as pairs of byte address and word, addresses strictly rising and no
word equal to the register's reset value; everything the spec gives the lane beyond its registers stands in the records. -/
structure Lane where
  id : LaneId := .a
  variant : Variant := .kx960
  regs : List (Nat × Word) := []
  found : List Found := []
  evInfo : List EvInfo := []
  tk : TickSt := {}
  boot : BootSt := {}
  hw : LaneHw := {}
  red : RedSt := {}
  chart : ChartSt := {}
  log : LogSt := {}
  chr : ChronSt := {}
  clk : ClockSt := {}
  pwr : PowerSt := {}
  sf : SafetySt := {}
  rap : RapSt := {}
  ethA : EthSt := {}
  ethB : EthSt := {}
  l450 : L450St := {}
  ser : List SerSt := List.replicate 12 {}
  can : CanSt := {}
  ana : AnaSt := {}
  ntk : IntakeSt := {}
  plt : PlotterSt := {}
  ctl : CtlSt := {}
  alc : AllocSt := {}
  sx : SextantSt := {}
  /-- The mirror frame as this lane last sent it (12 R450). -/
  mirror : Option MirrorFrame := none
  /-- The state at the end of the last tick while a tick is in progress (02 R73). -/
  work : Option WorkSnap := none
  /-- Counter of free values used (log entry 4); the model's own, not the spec's. -/
  free : Nat := 0
deriving DecidableEq, Repr

-- updaters: begin
/-- The lane with `regs` changed. -/
def Lane.onRegs (L : Lane) (f : List (Nat × Word) → List (Nat × Word)) : Lane := { L with regs := f L.regs }

/-- The lane with `found` changed. -/
def Lane.onFound (L : Lane) (f : List Found → List Found) : Lane := { L with found := f L.found }

/-- The lane with `evInfo` changed. -/
def Lane.onEvInfo (L : Lane) (f : List EvInfo → List EvInfo) : Lane := { L with evInfo := f L.evInfo }

/-- The lane with `tk` changed. -/
def Lane.onTk (L : Lane) (f : TickSt → TickSt) : Lane := { L with tk := f L.tk }

/-- The lane with `boot` changed. -/
def Lane.onBoot (L : Lane) (f : BootSt → BootSt) : Lane := { L with boot := f L.boot }

/-- The lane with `hw` changed. -/
def Lane.onHw (L : Lane) (f : LaneHw → LaneHw) : Lane := { L with hw := f L.hw }

/-- The lane with `red` changed. -/
def Lane.onRed (L : Lane) (f : RedSt → RedSt) : Lane := { L with red := f L.red }

/-- The lane with `chart` changed. -/
def Lane.onChart (L : Lane) (f : ChartSt → ChartSt) : Lane := { L with chart := f L.chart }

/-- The lane with `log` changed. -/
def Lane.onLog (L : Lane) (f : LogSt → LogSt) : Lane := { L with log := f L.log }

/-- The lane with `chr` changed. -/
def Lane.onChr (L : Lane) (f : ChronSt → ChronSt) : Lane := { L with chr := f L.chr }

/-- The lane with `clk` changed. -/
def Lane.onClk (L : Lane) (f : ClockSt → ClockSt) : Lane := { L with clk := f L.clk }

/-- The lane with `pwr` changed. -/
def Lane.onPwr (L : Lane) (f : PowerSt → PowerSt) : Lane := { L with pwr := f L.pwr }

/-- The lane with `sf` changed. -/
def Lane.onSf (L : Lane) (f : SafetySt → SafetySt) : Lane := { L with sf := f L.sf }

/-- The lane with `rap` changed. -/
def Lane.onRap (L : Lane) (f : RapSt → RapSt) : Lane := { L with rap := f L.rap }

/-- The lane with `ethA` changed. -/
def Lane.onEthA (L : Lane) (f : EthSt → EthSt) : Lane := { L with ethA := f L.ethA }

/-- The lane with `ethB` changed. -/
def Lane.onEthB (L : Lane) (f : EthSt → EthSt) : Lane := { L with ethB := f L.ethB }

/-- The lane with `l450` changed. -/
def Lane.onL450 (L : Lane) (f : L450St → L450St) : Lane := { L with l450 := f L.l450 }

/-- The lane with `ser` changed. -/
def Lane.onSer (L : Lane) (f : List SerSt → List SerSt) : Lane := { L with ser := f L.ser }

/-- The lane with `can` changed. -/
def Lane.onCan (L : Lane) (f : CanSt → CanSt) : Lane := { L with can := f L.can }

/-- The lane with `ana` changed. -/
def Lane.onAna (L : Lane) (f : AnaSt → AnaSt) : Lane := { L with ana := f L.ana }

/-- The lane with `ntk` changed. -/
def Lane.onNtk (L : Lane) (f : IntakeSt → IntakeSt) : Lane := { L with ntk := f L.ntk }

/-- The lane with `plt` changed. -/
def Lane.onPlt (L : Lane) (f : PlotterSt → PlotterSt) : Lane := { L with plt := f L.plt }

/-- The lane with `ctl` changed. -/
def Lane.onCtl (L : Lane) (f : CtlSt → CtlSt) : Lane := { L with ctl := f L.ctl }

/-- The lane with `alc` changed. -/
def Lane.onAlc (L : Lane) (f : AllocSt → AllocSt) : Lane := { L with alc := f L.alc }

/-- The lane with `sx` changed. -/
def Lane.onSx (L : Lane) (f : SextantSt → SextantSt) : Lane := { L with sx := f L.sx }

/-- The lane with `mirror` changed. -/
def Lane.onMirror (L : Lane) (f : Option MirrorFrame → Option MirrorFrame) : Lane := { L with mirror := f L.mirror }

/-- The lane with `work` changed. -/
def Lane.onWork (L : Lane) (f : Option WorkSnap → Option WorkSnap) : Lane := { L with work := f L.work }

/-- The lane with `free` changed. -/
def Lane.onFree (L : Lane) (f : Nat → Nat) : Lane := { L with free := f L.free }
-- updaters: end

/-- The shared section (01 R24): interlock, Binnacle, output stages. -/
structure Shared where
  lock : InterlockSt := {}
  bin : BinnacleSt := {}
  so : List SoStage := List.replicate 8 {}
deriving DecidableEq, Repr

/-- The module. -/
structure State where
  a : Lane
  b : Lane
  sh : Shared
  /-- Commands waiting, first in, first out. -/
  pending : List Instr
deriving DecidableEq, Repr

/-- The module right after power-on: every register at its reset value, both lanes held in reset, no grant, nothing
waiting. -/
def State.reset : State :=
  { a := { id := .a }, b := { id := .b }, sh := {}, pending := [] }

/-- A lane of the module. -/
def State.lane (s : State) : LaneId → Lane
  | .a => s.a
  | .b => s.b

/-- The module with one lane replaced. -/
def State.setLane (s : State) : LaneId → Lane → State
  | .a, L => { s with a := L }
  | .b, L => { s with b := L }

/-- The module with one lane changed by `f`. -/
def State.upd (s : State) (l : LaneId) (f : Lane → Lane) : State := s.setLane l (f (s.lane l))

end Sys2Proof.Machine
end

