-- ==== Sys2Proof/Machine/Ops.lean ====
section
/-! DEFINITION. Named operations over the register store and the lane's lists; events found. -/

namespace Sys2Proof.Machine

open Sys2Proof

/-- A mask over numbers below `n`. -/
def maskOf (n : Nat) (p : Nat → Bool) : Nat := (List.range n).foldl (fun m i => if p i then m + 2 ^ i else m) 0

/-- Word of a sparse list at an address, `d` where none is listed. -/
def sparseGet : List (Nat × Word) → Nat → Word → Word
  | [], _, d => d
  | (k, w) :: r, a, d => if k = a then w else sparseGet r a d

/-- A sparse list with every entry of an address taken out. -/
def sparseDel : List (Nat × Word) → Nat → List (Nat × Word)
  | [], _ => []
  | (k, w) :: r, a => if k = a then sparseDel r a else (k, w) :: sparseDel r a

/-- A sparse list with a word put in its place by address. -/
def sparseIns : List (Nat × Word) → Nat → Word → List (Nat × Word)
  | [], a, v => [(a, v)]
  | (k, w) :: r, a, v =>
    if a < k then (a, v) :: (k, w) :: r
    else if k = a then (a, v) :: r
    else (k, w) :: sparseIns r a v

/-- A write of a sparse list: the reset value `d` is not listed. -/
def sparsePut (m : List (Nat × Word)) (a : Nat) (v d : Word) : List (Nat × Word) :=
  if v = d then sparseDel m a else sparseIns m a v

/-- Whether a row covers an offset of its page. -/
def RegRow.covers (r : RegRow) (off : Nat) : Bool :=
  if r.count = 1 then off = r.off
  else decide (r.off ≤ off) && decide ((off - r.off) % r.stride = 0) && decide ((off - r.off) / r.stride < r.count)

/-- The row of a register by byte address (00 R21), if a chapter assigns the offset. -/
def rowAt (addr : Nat) : Option RegRow := (pageRows (addr / 0x400)).find? fun r => r.covers (addr % 0x400)

/-- The reset value of a register (18 R620). -/
def resetWord (addr : Nat) : Word :=
  match rowAt addr with
  | some r => BitVec.ofNat 32 r.reset
  | none => 0

/-- Mask of a field within its word. -/
def Fld.mask (f : Fld) : Word := BitVec.ofNat 32 ((2 ^ f.w - 1) * 2 ^ f.lo)

/-- Value of a field in a word. -/
def Fld.of (f : Fld) (w : Word) : Nat := w.toNat / 2 ^ f.lo % 2 ^ f.w

/-- A word with a field set to a value, taken modulo the field's width. -/
def Fld.put (f : Fld) (w : Word) (v : Nat) : Word :=
  (w &&& ~~~ f.mask) ||| BitVec.ofNat 32 (v % 2 ^ f.w * 2 ^ f.lo)

/-- A register of the lane as it is stored. -/
def Lane.word (L : Lane) (addr : Nat) : Word := sparseGet L.regs addr (resetWord addr)

/-- The lane with a register stored. -/
def Lane.setWord (L : Lane) (addr : Nat) (v : Word) : Lane :=
  { L with regs := sparsePut L.regs addr v (resetWord addr) }

/-- A field of a register. -/
def Lane.get (L : Lane) (f : Fld) : Nat := f.of (L.word f.addr)

/-- The lane with a field set. -/
def Lane.set (L : Lane) (f : Fld) (v : Nat) : Lane := L.setWord f.addr (f.put (L.word f.addr) v)

/-- A one-bit field. -/
def Lane.flag (L : Lane) (f : Fld) : Bool := L.get f != 0

/-- The lane with a one-bit field set. -/
def Lane.setb (L : Lane) (f : Fld) (b : Bool) : Lane := L.set f (if b then 1 else 0)

/-- A signed field in two's complement. -/
def Lane.geti (L : Lane) (f : Fld) : Int :=
  let v := L.get f
  if v < 2 ^ (f.w - 1) then (v : Int) else (v : Int) - 2 ^ f.w

/-- The lane with a signed field set, in two's complement. -/
def Lane.seti (L : Lane) (f : Fld) (v : Int) : Lane := L.set f (v % (2 ^ f.w : Int)).toNat

/-- The lane with a field set to a value that saturates at the field's greatest. -/
def Lane.setSat (L : Lane) (f : Fld) (v : Nat) : Lane := L.set f (min v (2 ^ f.w - 1))

/-- The lane with a signed field set to a value that saturates. -/
def Lane.setiSat (L : Lane) (f : Fld) (v : Int) : Lane :=
  L.seti f (max (-(2 ^ (f.w - 1) : Int)) (min v ((2 ^ (f.w - 1) : Int) - 1)))

/-- A count that saturates. -/
def Lane.incSat (L : Lane) (f : Fld) (n : Nat := 1) : Lane := L.setSat f (L.get f + n)

/-- A count that wraps. -/
def Lane.incWrap (L : Lane) (f : Fld) (n : Nat := 1) : Lane := L.set f (L.get f + n)

/-- One bit of a mask field. -/
def Lane.bit (L : Lane) (f : Fld) (n : Nat) : Bool := L.get f / 2 ^ n % 2 != 0

/-- A number with one bit set or cleared. -/
def setBit (v n : Nat) (b : Bool) : Nat :=
  let c := v / 2 ^ n % 2
  if b then (if c = 0 then v + 2 ^ n else v) else (if c = 0 then v else v - 2 ^ n)

/-- A bit of a number. -/
def testBit (v n : Nat) : Bool := v / 2 ^ n % 2 != 0

/-- The lane with one bit of a mask field set or cleared. -/
def Lane.setBit (L : Lane) (f : Fld) (n : Nat) (b : Bool) : Lane := L.set f (Machine.setBit (L.get f) n b)

/-- Sets several fields. -/
def Lane.setAll (L : Lane) (l : List (Fld × Nat)) : Lane := l.foldl (fun L p => L.set p.1 p.2) L

/-- An exact value in a register of the given resolution, as an integer code: exact where it is one, else one of the two
neighbours (log entry 3). -/
def codeOf (q lsb : Rat) : Int :=
  let r := q / lsb
  if r.den = 1 then r.num else if Config.roundUp r then r.floor + 1 else r.floor

/-- Sets an unsigned field to a scaled quantity, saturating. -/
def Lane.setScaled (L : Lane) (f : Fld) (q lsb : Rat) : Lane := L.setSat f (codeOf q lsb).toNat

/-- Sets a signed field to a scaled quantity, saturating. -/
def Lane.setiScaled (L : Lane) (f : Fld) (q lsb : Rat) : Lane := L.setiSat f (codeOf q lsb)

/-- The reset value of a field. -/
def Fld.reset (f : Fld) : Nat := f.of (resetWord f.addr)

/-- Sets a field back to its reset value. -/
def Lane.clear (L : Lane) (f : Fld) : Lane := L.set f f.reset

/-- Sets several fields back to their reset values. -/
def Lane.clearAll (L : Lane) (l : List Fld) : Lane := l.foldl Lane.clear L

/-- Chronometer time of the lane, ns (09 R345). -/
def Lane.now (L : Lane) : Rat := L.chr.ns

/-- STAT.TIME_VALID of page 0x40. -/
def Lane.timeValid (L : Lane) : Bool := L.flag Reg.CHR_STAT_TIME_VALID

/-- An event found (18 R612): raised at the next commit point. -/
def Lane.find (L : Lane) (page bit : Nat) : Lane := { L with found := L.found ++ [⟨page, bit, L.now⟩] }

/-- An event found where a condition holds. -/
def Lane.findIf (L : Lane) (c : Bool) (page bit : Nat) : Lane := if c then L.find page bit else L

/-- The lane is the active lane (01 R55). -/
def Lane.active (L : Lane) : Bool := L.flag Reg.LANE_STAT_ACTIVE

/-- The mode of the lane (02 R75). -/
def Lane.mode (L : Lane) : Nat := L.get Reg.MODE_CUR_MODE

/-- The lane's PLL coasts (15 R544). -/
def Lane.coasting (L : Lane) : Bool := L.get Reg.CLK_PLL_STATE = 4

/-- The tick runs in the lane: start-up has reached step 7 and the lane is not held in reset. -/
def Lane.running (L : Lane) : Bool := L.boot.phase = .running

/-- Declares the lane degraded (01 R55, 02 R74). -/
def Lane.degrade (L : Lane) : Lane := L.setb Reg.LANE_STAT_DEGRADED true

/-- The thruster channels of a variant (00 R5). -/
def Variant.tcs : Variant → Nat
  | .kx922 => 8
  | _ => 16

/-- MOD_CAP (00 R5). -/
def Variant.cap : Variant → Nat
  | .kx960 => 0xFF0
  | .kx944 => 0x210
  | .kx922 => 0x008

/-- MOD_MODEL (00 R4). -/
def Variant.model : Variant → Nat
  | .kx960 => 0x000103C0
  | .kx944 => 0x000103B0
  | .kx922 => 0x0001039A

/-- LANE_ENG_PRESENT (01 R57). -/
def Variant.engines : Variant → Nat
  | .kx960 => 0xFFFF
  | .kx944 => 0x7FFF
  | .kx922 => 0x3FFF

/-- Whether a page is present on a variant (18 R609). -/
def pagePresent (v : Variant) (p : Nat) : Bool :=
  if (pageRows p).isEmpty then false
  else if 0x30 ≤ p ∧ p ≤ 0x33 then decide (v = .kx960)
  else if 0x28 ≤ p ∧ p ≤ 0x2F then decide (v ≠ .kx922)
  else true

/-- A write to an absent page or absent unit (00 R8, R11): counted, its address kept, ABSENT_WRITE. -/
def Lane.absentWrite (L : Lane) (addr : Nat) : Lane :=
  ((L.incSat Reg.MOD_ABSENT_CNT).set Reg.MOD_ABSENT_ADDR_w addr).find 0x00 0

/-- A command that writes a register: its effect where the page is present, else a write to an absent page (00 R8). -/
def Lane.atReg (L : Lane) (addr : Nat) (f : Lane → Lane) : Lane :=
  if pagePresent L.variant (addr / 0x400) then f L else L.absentWrite addr

/-- A free value and the lane with its counter advanced (log entry 4). -/
def Lane.fresh (L : Lane) : Rat × Lane := (Config.free L.free, { L with free := L.free + 1 })

/-- Changes element `n` of a list. -/
def modAt {α : Type} : List α → Nat → (α → α) → List α
  | [], _, _ => []
  | x :: r, 0, f => f x :: r
  | x :: r, n + 1, f => x :: modAt r n f

/-- Maps a list with its indices. -/
def mapIdxFrom {α β : Type} : Nat → (Nat → α → β) → List α → List β
  | _, _, [] => []
  | n, f, x :: r => f n x :: mapIdxFrom (n + 1) f r

/-- Folds a lane operation over the numbers below `n`, in rising order. -/
def forUpTo {σ : Type} : Nat → (Nat → σ → σ) → σ → σ
  | 0, _, s => s
  | n + 1, f, s => f n (forUpTo n f s)

/-- Replaces or adds an entry of an association list. -/
def putAssoc {α β : Type} [DecidableEq α] (k : α) (v : β) : List (α × β) → List (α × β)
  | [] => [(k, v)]
  | (a, b) :: r => if a = k then (k, v) :: r else (a, b) :: putAssoc k v r

/-- Little-endian bytes of a number. -/
def leBytes : Nat → Nat → List Nat
  | 0, _ => []
  | n + 1, v => v % 256 :: leBytes n (v / 256)

/-- A number from little-endian bytes. -/
def ofLe : List Nat → Nat
  | [] => 0
  | b :: r => b + 256 * ofLe r

/-- Seconds of a time in ns. -/
def secOf (t : Rat) : Nat := (t / 1000000000).floor.toNat

/-- Nanoseconds within the second of a time in ns. -/
def nsOf (t : Rat) : Nat := (t - 1000000000 * (t / 1000000000).floor).floor.toNat

/-- Fraction of a nanosecond, in 1/65536 ns (09 R342). -/
def fracOf (t : Rat) : Nat := ((t - t.floor) * 65536).floor.toNat

/-- Twelve bytes of a time (14 R633). -/
def timeBytes (t : Rat) : List Nat := leBytes 6 (secOf t) ++ leBytes 4 (nsOf t) ++ leBytes 2 (fracOf t)

/-- The outcome of a command that always answers a next state. -/
abbrev Out := Host.Outcome State Fault Refusal

/-- A command's effect on one lane, as an outcome. -/
def onLane (l : LaneId) (f : Lane → Lane) (s : State) : Out := .next (s.upd l f)

/-- MODE_COND, and the STAT bits that are copies of its bits (02 R77, R108; 03 R145; 05 R217; 06 R254). -/
def Lane.condSet (L : Lane) (c : Nat) : Lane :=
  let b (n : Nat) : Nat := c / 2 ^ n % 2
  L.setAll [(Reg.MODE_COND_COND, c), (Reg.TICK_STAT_FUSION_VALID, b 1), (Reg.INT_STAT_REF_LOSS, b 11), (Reg.INT_STAT_HEADING_LOSS, b 12),
    (Reg.CTRL_STAT_SP_DEF, b 5), (Reg.CTRL_STAT_TRACK_DEF, b 6), (Reg.ALLOC_STAT_THRUSTERS, b 4)]

end Sys2Proof.Machine
end

