-- ==== Sys2Proof/Machine/Interlock.lean ====
section
/-! DEFINITION. The selector interlock, its hold stages and the claim circuits (01 R29-R32, R624, R625; 12 R452). -/

namespace Sys2Proof.Machine

open Sys2Proof

/-- DRIVE line of a lane (R29). -/
def InterlockSt.drive (k : InterlockSt) : LaneId → Bool
  | .a => k.driveA
  | .b => k.driveB

/-- A lane's DRIVE line set. -/
def InterlockSt.setDrive (k : InterlockSt) (l : LaneId) (v : Bool) : InterlockSt :=
  match l with
  | .a => { k with driveA := v }
  | .b => { k with driveB := v }

/-- A lane's request is spent by a contest (R625), or made in the lane's own dead time (R30). -/
def InterlockSt.spent (k : InterlockSt) : LaneId → Bool
  | .a => k.spentA
  | .b => k.spentB

/-- A lane's request marked spent or fresh. -/
def InterlockSt.setSpent (k : InterlockSt) (l : LaneId) (v : Bool) : InterlockSt :=
  match l with
  | .a => { k with spentA := v }
  | .b => { k with spentB := v }

/-- ARM line of a lane (12 R452). -/
def InterlockSt.arm (k : InterlockSt) : LaneId → Bool
  | .a => k.armA
  | .b => k.armB

/-- A lane's ARM line set. -/
def InterlockSt.setArm (k : InterlockSt) (l : LaneId) (v : Bool) : InterlockSt :=
  match l with
  | .a => { k with armA := v }
  | .b => { k with armB := v }

/-- The claim circuit of a lane is inhibited after its own release (12 R452). -/
def InterlockSt.inhibit (k : InterlockSt) : LaneId → Bool
  | .a => k.inhibitA
  | .b => k.inhibitB

/-- A lane's claim inhibit set. -/
def InterlockSt.setInhibit (k : InterlockSt) (l : LaneId) (v : Bool) : InterlockSt :=
  match l with
  | .a => { k with inhibitA := v }
  | .b => { k with inhibitB := v }

/-- Whether a lane holds the grant. -/
def InterlockSt.holds (k : InterlockSt) (l : LaneId) : Bool := decide (k.grant = .held l)

/-- Whether any lane holds the grant. -/
def InterlockSt.held (k : InterlockSt) : Bool :=
  match k.grant with
  | .held _ => true
  | _ => false

/-- A contest (R625): no lane is granted, both requests are spent. -/
def InterlockSt.contest (k : InterlockSt) : InterlockSt :=
  { k with grant := .free, spentA := true, spentB := true, holding := false }

/-- DRIVE asserted by a lane (R30, R624, R625), and whether a contest follows. A line already asserted makes no new
request. -/
def InterlockSt.assertDrive (k : InterlockSt) (l : LaneId) : InterlockSt × Bool :=
  if k.drive l then (k, false)
  else
    let k := (k.setDrive l true).setSpent l false
    match k.grant with
    | .free => ({ k with grant := .window l }, false)
    | .window m => if m = l then (k, false) else (k.contest, true)
    | .deadTime r => if r = l then (k.setSpent l true, false) else (k, false)
    | .held _ => (k, false)

/-- The holder loses the grant: the dead time begins and the hold stages hold (R30, R31). -/
def InterlockSt.dropGrant (k : InterlockSt) (l : LaneId) (cause : Option TakeCause) : InterlockSt :=
  if k.holds l then { k with grant := .deadTime l, holding := true, lastDriver := some l, relCause := cause }
  else if k.grant = .window l then { k with grant := .free }
  else k

/-- A lane releases or withdraws DRIVE itself (R30, R452). -/
def InterlockSt.release (k : InterlockSt) (l : LaneId) (cause : Option TakeCause) : InterlockSt :=
  let held := k.holds l
  let k := (k.dropGrant l cause).setDrive l false
  let k := k.setSpent l false
  if held then k.setInhibit l true else k

/-- DRIVE and ARM of a lane are removed from outside the lane: supply or watchdog (R30, 12 R453). -/
def InterlockSt.cut (k : InterlockSt) (l : LaneId) (cause : Option TakeCause) : InterlockSt :=
  (((k.dropGrant l cause).setDrive l false).setSpent l false).setArm l false

/-- The end of the resolution window (R624): the lone requester is granted. -/
def InterlockSt.resolve (k : InterlockSt) : InterlockSt :=
  match k.grant with
  | .window l => if k.drive l then { k with grant := .held l, holding := false, lastDriver := some l } else { k with grant := .free }
  | _ => k

/-- The end of the dead time (R30): the other lane is granted if it asserts DRIVE at that instant. -/
def InterlockSt.endDeadTime (k : InterlockSt) : InterlockSt :=
  match k.grant with
  | .deadTime r =>
    if k.drive r.other && !k.spent r.other then
      { k with grant := .held r.other, holding := false, lastDriver := some r.other }
    else { k with grant := .free }
  | _ => k

/-- The claim circuit of a lane acts (12 R452): ARM asserted, no holder, the other lane not asserting DRIVE, no inhibit. -/
def InterlockSt.claims (k : InterlockSt) (l : LaneId) : Bool :=
  k.arm l && !k.held && !k.drive l.other && !k.inhibit l && !k.drive l

/-- The module with its interlock changed. -/
def State.onLock (s : State) (f : InterlockSt → InterlockSt) : State :=
  { s with sh := { s.sh with lock := f s.sh.lock } }

/-- A lane changed by an operation of the lane, both lanes in turn. -/
def State.both (s : State) (f : Lane → Lane) : State := { s with a := f s.a, b := f s.b }

/-- DRIVE asserted by a lane; SELECT_CONTEST in both lanes on a contest (R625). -/
def State.driveUp (s : State) (l : LaneId) : State :=
  let r := s.sh.lock.assertDrive l
  let s := s.onLock fun _ => r.1
  if r.2 then s.both fun L => (L.find 0x01 7).onBoot fun b => { b with contest := true } else s

/-- DRIVE released or withdrawn by a lane. -/
def State.driveDown (s : State) (l : LaneId) (cause : Option TakeCause := none) : State :=
  s.onLock fun k => k.release l cause

/-- CLAIM_INHIBIT_END (12 R452). -/
def execClaimInhibitEnd (l : LaneId) (s : State) : Out := .next (s.onLock fun k => k.setInhibit l false)

/-- HOLD_STAGE_EXPIRY (R31): with no new holder the outputs take their unpowered state. -/
def execHoldStageExpiry (s : State) : Out :=
  .next (s.onLock fun k => if k.held then k else { k with holding := false })

end Sys2Proof.Machine
end

