-- ==== Sys2Proof/Machine/Named.lean ====
section
/-! DEFINITION. Which inputs the Chart in force names for a use (08 R326). -/

namespace Sys2Proof.Machine

open Sys2Proof

/-- The analogue input of a value's source. -/
def ValSrc.inputs : ValSrc → List Nat
  | .can .. => []
  | .ana m => [m.input]

/-- The analogue input of a DEPLOYED signal. -/
def DeploySrc.inputs : DeploySrc → List Nat
  | .ana m _ => [m.input]
  | .can .. => []

/-- Inputs of an optional source. -/
def srcInputs (x : Option ValSrc) : List Nat := (x.map ValSrc.inputs).getD []

/-- Analogue inputs of a channel entry: feedback, levers, DEPLOYED. -/
def ChanBase.inputs (c : ChanBase) : List Nat :=
  c.fbAna.map (fun e => e.2.input) ++ srcInputs c.leverDem ++ srcInputs c.leverAng ++ ((c.deployed.map DeploySrc.inputs).getD [])

/-- Analogue inputs of a bus of the power-management interface. -/
def BusChart.inputs (b : BusChart) : List Nat := srcInputs b.pAv ++ srcInputs b.freq ++ srcInputs b.loadRed

/-- Analogue inputs that the Chart names for a use. -/
def Chart.inputs (c : Chart) : List Nat :=
  (c.refs.slots.map fun x => match x with
    | some e => e.inputs.map fun i => i.2.input
    | none => []).flatten
  ++ (c.alloc.chans.map fun x => match x with
    | some e => e.toChanBase.inputs
    | none => []).flatten
  ++ (c.alloc.buses.map BusChart.inputs).flatten
  ++ (match c.ctl.joySrc with
    | some (x, y, n) => [x.input, y.input, n.input]
    | none => [])

/-- AIn is named by a reference slot, a channel's feedback, lever or DEPLOYED entry, the joystick source or the
power-management interface (08 R326). -/
def Lane.aiNamed (L : Lane) (n : Nat) : Bool := L.chart.now.inputs.contains n

end Sys2Proof.Machine
end

