-- ==== Sys2Proof/Machine/Analog.lean ====
section
/-! DEFINITION. Analogue inputs and outputs (08_analogue_chain). -/

namespace Sys2Proof.Machine

open Sys2Proof

/-- One analogue input. -/
def Lane.ai (L : Lane) (n : Nat) : AiSt := L.ana.ins.getD n {}

/-- The lane with one analogue input changed. -/
def Lane.onAi (L : Lane) (n : Nat) (f : AiSt → AiSt) : Lane := L.onAna fun a => { a with ins := modAt a.ins n f }

/-- One analogue output. -/
def Lane.ao (L : Lane) (m : Nat) : AoSt := L.ana.outs.getD m {}

/-- The lane with one analogue output changed. -/
def Lane.onAo (L : Lane) (m : Nat) (f : AoSt → AoSt) : Lane := L.onAna fun a => { a with outs := modAt a.outs m f }

/-- Chart values of an input and an output. -/
def Lane.aiChart (L : Lane) (n : Nat) : AiChart := L.chart.now.ana.ins.getD n {}
def Lane.aoChart (L : Lane) (m : Nat) : AoChart := L.chart.now.ana.outs.getD m {}

/-- CIC order N and decimation M in force (R308, R337). -/
def Lane.aiOrder (L : Lane) (n : Nat) : Nat := 3 + L.get (Reg.AI_CFG_ORDER n)
def Lane.aiDecim (L : Lane) (n : Nat) : Nat := 64 * 2 ^ L.get (Reg.AI_CFG_DECIM n)

/-- FIR length L by decimation (R308). -/
def firLength (m : Nat) : Nat := if m = 64 then 511 else if m = 128 then 255 else 127

/-- One modulator period T_m, ns (R312). -/
def modPeriod : Rat := 15625 / 32

/-- D_chain in ns (R313, R314). -/
def chainDelay (order decim : Nat) (minPhase : Bool) : Rat :=
  let cic : Rat := (order * (decim - 1) : Nat) / 2
  if minPhase then cic * modPeriod + 1250000
  else (cic + ((decim * (firLength decim - 1) : Nat) : Rat) / 2) * modPeriod

/-- F + D_chain of an input, ns (R312). F is a value of the unit, calibrated at manufacture. -/
def Lane.aiBaseDelay (L : Lane) (n : Nat) : Rat :=
  Config.frontEndDelay (if L.id = .a then 0 else 1) n
    + chainDelay (L.aiOrder n) (L.aiDecim n) (L.flag (Reg.AI_CFG_FINE_TYPE n))

/-- Chain delay of the Vernier path (R309), ns. -/
def vernierDelay : Rat := 381 / 2 * modPeriod

/-- The inputs of an alignment group that are not OFF. -/
def Lane.aiGroup (L : Lane) (g : Nat) : List Nat :=
  (List.range 32).filter fun n => decide (L.get (Reg.AI_CFG_GROUP n) = g) && decide (L.get (Reg.AI_CFG_MODE n) ≠ 0)

/-- P in force (R316, R317): by the Chart outside a group; in a group the difference to the largest delay, rounded. -/
def Lane.setPhase (L : Lane) (n : Nat) : Lane :=
  let g := L.get (Reg.AI_CFG_GROUP n)
  if g = 0 then
    let p := L.get (Reg.AI_CFG_PHASE n)
    L.onAi n fun a => { a with p := p }
  else
    let big := (L.aiGroup g).foldl (fun m k => max m (L.aiBaseDelay k)) (L.aiBaseDelay n)
    let q := ((big - L.aiBaseDelay n) / modPeriod + 1 / 2).floor.toNat
    let p := min q 1023
    let was := (L.ai n).p
    let L := (L.onAi n fun a => { a with p := p }).set (Reg.AI_CFG_PHASE n) p
    if 1023 < q ∧ was ≠ 1023 then (L.setb Reg.AIN_FAULT_ALIGN_LIMIT true).find 0x38 5 else L

/-- AI_DELAY (R315); 0 for an input that is OFF. -/
def Lane.showDelay (L : Lane) (n : Nat) : Lane :=
  if L.get (Reg.AI_CFG_MODE n) = 0 then L.clear (Reg.AI_DELAY_w n)
  else
    (L.setb (Reg.AI_DELAY_MINPHASE n) (L.flag (Reg.AI_CFG_FINE_TYPE n))).setScaled (Reg.AI_DELAY_DELAY n)
      (L.aiBaseDelay n + ((L.ai n).p : Rat) * modPeriod) 1

/-- A chain restarts (R318-R321): filters clear; AI_RESTARTED once in a tick. -/
def Lane.aiRestart (L : Lane) (n : Nat) : Lane :=
  if L.get (Reg.AI_CFG_MODE n) = 0 then L
  else
    let again := (L.ai n).restarted
    let L := L.onAi n fun a =>
      { a with st := if a.st = .fault then .fault else .settling, fill := 0, coarse := 0, vernOk := false, mSet := false, step := {}, restarted := true }
    if again then L else L.find 0x38 1

/-- Every input's phase and delay after a change of configuration; a chain whose phase delay changes restarts (R318). -/
def Lane.align (L : Lane) : Lane :=
  let one (n : Nat) (L : Lane) : Lane :=
    let p := (L.ai n).p
    let M := L.setPhase n
    if (M.ai n).p = p then M else M.aiRestart n
  forUpTo 32 (fun n L => L.showDelay n) (forUpTo 32 one L)

/-- An input OFF: nothing of its chain is left but the terminal monitor, and no lane difference stands (R307). -/
def Lane.aiOff (L : Lane) (n : Nat) : Lane := (L.setBit Reg.AI_DIFF_MASK n false).onAi n fun a => { term := a.term }

/-- COARSE_SAMPLE: the Vernier value issued (R320), the third and later as they are, the second divided by 5/6. -/
def verniered (count : Nat) (v : Rat) : Option Rat :=
  if count ≤ 1 then none else if count = 2 then some (v * 6 / 5) else some v

/-- A run of 8 (R323): samples beyond the entry limit while it does not hold, within the exit limit while it holds. -/
def Run8.count (r : Run8) (beyond within : Bool) : Run8 :=
  { r with cnt := if (if r.on then within else beyond) then min 8 (r.cnt + 1) else 0 }

/-- COARSE_SAMPLE (R309, R320, R322, R323): CIC value in 1 µV or 1 nA, chronometer time of the modulator edge, and the modulator's
overload indicator. -/
def Lane.coarseSample (L : Lane) (n : Nat) (v tf : Rat) (overload : Bool) : Lane :=
  let mode := L.get (Reg.AI_CFG_MODE n)
  if mode = 0 || !L.ana.run then L
  else
    let L := L.onAi n fun a => { a with coarse := a.coarse + 1, modulator := a.modulator.count overload (!overload) }
    match verniered (L.ai n).coarse v with
    | none => L
    | some w =>
      let aw := if w < 0 then -w else w
      let lim : Rat := ((L.aiChart n).stepLim : Int)
      let t := tf - (Config.frontEndDelay (if L.id = .a then 0 else 1) n + vernierDelay + ((L.ai n).p : Rat) * modPeriod)
      L.onAi n fun a =>
        let a := { a with vern := w, vernTime := t, vernOk := true }
        let a := if mode = 1 then { a with above := a.above.count (decide (10500000 < aw)) (decide (aw ≤ 10400000)), under := {} }
          else { a with above := a.above.count (decide (21000000 < w)) (decide (w ≤ 20800000)),
                        under := a.under.count (decide (w < 3600000)) (decide (3800000 ≤ w)) }
        let d := w - a.fineRaw
        let d := if d < 0 then -d else d
        if a.st = .valid then { a with step := a.step.count (decide (lim < d)) (decide (d ≤ lim / 2)) } else a

/-- COARSE_SAMPLE (R309, R320). -/
def execCoarseSample (l : LaneId) (n : Nat) (v : CoarseVal) (overload : Bool) (s : State) : Out :=
  onLane l (fun L => L.coarseSample n v.val v.time overload) s

/-- m holds (R321). -/
def Lane.aiFrozen (L : Lane) (n : Nat) : Bool :=
  L.bit Reg.AI_FREEZE_MASK n || decide ((L.ai n).st = .settling) || decide ((L.ai n).st = .fault)

/-- The DC-blocking stage takes in a fine output (R321): the updated m is taken off (log entry 66). -/
def Lane.dcBlock (L : Lane) (n : Nat) (x : Rat) : Lane :=
  let a := L.ai n
  let tau : Rat := 1000 * ((L.aiChart n).dcbTau : Nat)
  let en := L.flag (Reg.AI_CFG_DCB_EN n)
  let m :=
    if a.st = .valid ∧ !a.mSet ∧ !L.bit Reg.AI_FREEZE_MASK n then x
    else if !en ∨ L.aiFrozen n then a.m
    else a.m + (x - a.m) / tau
  L.onAi n fun a => { a with m := m, mSet := a.mSet || decide (a.st = .valid), fineRaw := x, fine := if en then x - m else x }

/-- FINE_OUTPUT (R310, R312, R319): value, chronometer time of the modulator edge, offset of the output from its tick start
in ns, CIC samples taken in since the previous fine output. -/
def Lane.fineOutput (L : Lane) (n : Nat) (x tf ofs : Rat) (taken : Nat) : Lane :=
  if L.get (Reg.AI_CFG_MODE n) = 0 || !L.ana.run then L
  else
    let need := L.aiOrder n + firLength (L.aiDecim n)
    let t := tf - (L.aiBaseDelay n + ((L.ai n).p : Rat) * modPeriod)
    let L := L.onAi n fun a =>
      let a := { a with fill := a.fill + taken, fineTime := t }
      if a.st = .settling ∧ need ≤ a.fill then { a with st := .valid } else a
    let L := L.dcBlock n x
    if ofs < 948750 ∨ 988750 < ofs then L.incSat Reg.AI_REPHASE_CNT else L

/-- FINE_OUTPUT (R310, R319). -/
def execFineOutput (l : LaneId) (n : Nat) (x tf ofs : Rat) (taken : Nat) (s : State) : Out :=
  onLane l (fun L => L.fineOutput n x tf ofs taken) s

/-- The terminal monitor of the input reports short, open or reversal in the mode in force (17 R596). -/
def Lane.termBad (L : Lane) (n : Nat) : Bool :=
  let t := (L.ai n).term
  t.short || (decide (L.get (Reg.AI_CFG_MODE n) = 2) && t.reversed) || (decide (L.get (Reg.AI_CFG_MODE n) = 1) && t.openWire)

/-- A run complete towards entry, or towards the exit. -/
def Run8.enters (r : Run8) : Bool := !r.on && decide (8 ≤ r.cnt)
def Run8.leaves (r : Run8) : Bool := r.on && decide (8 ≤ r.cnt)

/-- The run's change made. -/
def Run8.flip (r : Run8) (b : Bool) : Run8 := if b then { on := !r.on, cnt := 0 } else r

/-- AI_FAULT (R323, 17 R598): the causes whose entry is complete hold. -/
def Lane.aiFault (L : Lane) (n : Nat) : Lane :=
  let a := L.ai n
  let term := L.termBad n && !a.terminal
  if L.get (Reg.AI_CFG_MODE n) ≠ 0 ∧ (a.above.enters ∨ a.under.enters ∨ a.modulator.enters ∨ term) then
    let L := L.findIf (decide (a.st ≠ .fault)) 0x38 0
    L.onAi n fun a =>
      let a := { a with above := a.above.flip a.above.enters, under := a.under.flip a.under.enters, modulator := a.modulator.flip a.modulator.enters }
      { a with terminal := a.terminal || term, st := .fault }
  else L

/-- AI_FAULT (R323). -/
def execAiFault (l : LaneId) (n : Nat) (s : State) : Out := onLane l (fun L => L.aiFault n) s

/-- AI_FAULT_CLEAR (R323, R598): the fault is left, and the chain restarts, when no cause holds any more. -/
def Lane.aiFaultClear (L : Lane) (n : Nat) : Lane :=
  let bad := L.termBad n
  let L := L.onAi n fun a =>
    let a := { a with above := a.above.flip a.above.leaves, under := a.under.flip a.under.leaves, modulator := a.modulator.flip a.modulator.leaves }
    { a with terminal := a.terminal && bad }
  let a := L.ai n
  if a.st = .fault ∧ !a.above.on ∧ !a.under.on ∧ !a.modulator.on ∧ !a.terminal then
    (L.onAi n fun a => { a with st := .settling }).aiRestart n
  else L

/-- AI_FAULT_CLEAR (R323). -/
def execAiFaultClear (l : LaneId) (n : Nat) (s : State) : Out := onLane l (fun L => L.aiFaultClear n) s

/-- AI_STEP (R322): STEP sets, raising AI_STEP, or clears. -/
def Lane.aiStep (L : Lane) (n : Nat) : Lane :=
  let r := (L.ai n).step
  let L := L.findIf r.enters 0x38 2
  L.onAi n fun a => { a with step := a.step.flip (a.step.enters || a.step.leaves) }

/-- AI_STEP (R322). -/
def execAiStep (l : LaneId) (n : Nat) (s : State) : Out := onLane l (fun L => L.aiStep n) s

/-- AI_LANE_DIFF (R325): DIFF sets after 3 cycles beyond the limit, and clears after 3 within half of it. -/
def Lane.aiLaneDiff (L : Lane) (n : Nat) : Lane :=
  let a := L.ai n
  let on := L.bit Reg.AI_DIFF_MASK n
  if !on ∧ 3 ≤ a.diffOver then ((L.setBit Reg.AI_DIFF_MASK n true).setb (Reg.AI_STAT_DIFF n) true).find 0x38 3
  else if on ∧ 3 ≤ a.diffIn then (L.setBit Reg.AI_DIFF_MASK n false).setb (Reg.AI_STAT_DIFF n) false
  else L

/-- AI_LANE_DIFF (R325). -/
def execAiLaneDiff (l : LaneId) (n : Nat) (s : State) : Out := onLane l (fun L => L.aiLaneDiff n) s

/-- The standby compares the mirrored mean of a cycle with its own (R325). -/
def Lane.compareMean (L : Lane) (n : Nat) (other : Option Rat) : Lane :=
  match (L.ai n).mean, other with
  | some x, some y =>
    let d := if x < y then y - x else x - y
    let lim : Rat := ((L.aiChart n).xcheckLim : Int)
    L.onAi n fun a => { a with diffOver := if lim < d then min 3 (a.diffOver + 1) else 0, diffIn := if d ≤ lim / 2 then min 3 (a.diffIn + 1) else 0 }
  | _, _ => L

/-- A refused write of page 0x38 (R326): 1 NOT_ACTIVE, 2 IN_USE, 3 RANGE. -/
def Lane.aiRefuse (L : Lane) (n code : Nat) : Lane :=
  (L.setAll [(Reg.AI_CFG_RESULT_CODE, code), (Reg.AI_CFG_RESULT_CH, n)]).find 0x38 4

/-- The lane's mode makes inputs in use untouchable (R326). -/
def Lane.aiInUse (L : Lane) (n : Nat) : Bool := decide (5 ≤ L.mode) && decide (L.mode ≤ 11) && L.aiNamed n

/-- A new AI_CFG word in force (R318, R326): PHASE is ignored while AUTO = 1; a change restarts the chain. -/
def Lane.aiConfigure (L : Lane) (n : Nat) (w : Word) : Lane :=
  let old := L.word (Reg.AI_CFG_w n).addr
  let keep (f : Fld) (w : Word) : Word := f.put w (f.of old)
  let w := keep (Reg.AI_CFG_AUTO n) (keep (Reg.AI_CFG_GROUP n) w)
  let w := if L.flag (Reg.AI_CFG_AUTO n) then keep (Reg.AI_CFG_PHASE n) w else w
  let differs (f : Fld) : Bool := decide (f.of old ≠ f.of w)
  let restart := differs (Reg.AI_CFG_MODE n) || differs (Reg.AI_CFG_ORDER n) || differs (Reg.AI_CFG_DECIM n)
    || differs (Reg.AI_CFG_FINE_TYPE n) || differs (Reg.AI_CFG_PHASE n)
  let w0 := [Reg.AI_CFG_PHASE n, Reg.AI_CFG_AUTO n, Reg.AI_CFG_GROUP n, Reg.AI_CFG_DCB_EN n, Reg.AI_CFG_FINE_TYPE n,
    Reg.AI_CFG_DECIM n, Reg.AI_CFG_ORDER n, Reg.AI_CFG_MODE n].foldl (fun (v : Word) f => f.put v (f.of w)) 0
  let L := (L.setWord (Reg.AI_CFG_w n).addr w0).align
  if (Reg.AI_CFG_MODE n).of w = 0 then L.aiOff n
  else if restart then
    let L := if (Reg.AI_CFG_MODE n).of w ≠ (Reg.AI_CFG_MODE n).of old then
        L.onAi n fun a => { a with st := .settling, above := {}, under := {}, modulator := {}, terminal := false }
      else L
    L.aiRestart n
  else L

/-- AI_CFG_WRITE (R326). -/
def Lane.aiCfgWrite (L : Lane) (n : Nat) (v : Nat) : Lane :=
  let w : Word := BitVec.ofNat 32 v
  if !L.active then L.aiRefuse n 1
  else if L.aiInUse n then L.aiRefuse n 2
  else if (Reg.AI_CFG_DECIM n).of w = 3 ∨ (Reg.AI_CFG_ORDER n).of w = 3 ∨ (Reg.AI_CFG_MODE n).of w = 3 then L.aiRefuse n 3
  else (L.onAna fun a => { a with written := if a.written.contains n then a.written else n :: a.written }).aiConfigure n w

/-- AI_CFG_WRITE (R326). -/
def execAiCfgWrite (l : LaneId) (n v : Nat) (s : State) : Out := onLane l (fun L => L.aiCfgWrite n v) s

/-- AI_FREEZE_WRITE (R321, R326): exempt from IN_USE. -/
def Lane.aiFreezeWrite (L : Lane) (v : Nat) : Lane :=
  if !L.active then L.aiRefuse 0 1 else (L.set Reg.AI_FREEZE_MASK v).onAna fun a => { a with freezeWritten := true }

/-- AI_FREEZE_WRITE (R321, R326). -/
def execAiFreezeWrite (l : LaneId) (v : Nat) (s : State) : Out := onLane l (fun L => L.aiFreezeWrite v) s

/-- AI_RESTART (R318, R326): only the refused bits are ignored. -/
def Lane.aiRestartWrite (L : Lane) (v : Nat) : Lane :=
  if !L.active then L.aiRefuse 0 1
  else
    let one (n : Nat) (L : Lane) : Lane :=
      if testBit v n then
        if L.aiInUse n then L.aiRefuse n 2
        else (L.aiRestart n).onAna fun a => { a with restartBits := Machine.setBit a.restartBits n true }
      else L
    forUpTo 32 one L

/-- AI_RESTART (R318, R326). -/
def execAiRestart (l : LaneId) (v : Nat) (s : State) : Out := onLane l (fun L => L.aiRestartWrite v) s

/-- Registers of one input at the latch (R311, R335, R337, R598). -/
def Lane.showAi (L : Lane) (n : Nat) : Lane :=
  let a := L.ai n
  let mode := L.get (Reg.AI_CFG_MODE n)
  if mode = 0 then
    L.clearAll [Reg.AI_FINE_w n, Reg.AI_VERN_w n, Reg.AI_STAT_w n]
  else
    let cause := if a.st ≠ .fault then 0 else if a.terminal then 3 else if a.modulator.on then 4 else if a.above.on then 2 else if a.under.on then 1 else 0
    let L := if L.ana.run then (L.setiScaled (Reg.AI_FINE_VALUE n) a.fine 1).setiScaled (Reg.AI_VERN_VALUE n) a.vern 1 else L
    L.setAll [(Reg.AI_STAT_SEQ n, L.get Reg.TICK_CNT_COUNT), (Reg.AI_STAT_CAUSE n, cause), (Reg.AI_STAT_FROZEN n, if L.flag (Reg.AI_CFG_DCB_EN n) && L.aiFrozen n then 1 else 0),
      (Reg.AI_STAT_STEP n, if a.step.on then 1 else 0), (Reg.AI_STAT_VERN_OK n, if a.vernOk then 1 else 0), (Reg.AI_STAT_STATE n, a.st.code)]

/-- A mask over the inputs. -/
def Lane.aiMask (L : Lane) (p : AiSt → Bool) : Nat :=
  (List.range 32).foldl (fun m n => if decide (L.get (Reg.AI_CFG_MODE n) ≠ 0) && p (L.ai n) then m + 2 ^ n else m) 0

/-- The input latch takes the analogue samples (R311), and the mean of a completed cycle (R325). -/
def Lane.aiLatch (L : Lane) (posTick : Bool) : Lane :=
  let one (n : Nat) (L : Lane) : Lane :=
    if L.get (Reg.AI_CFG_MODE n) = 0 then L
    else
      L.onAi n fun a =>
        let s : AiSample := ⟨a.fine, a.fineTime, a.st, a.vern, a.vernTime, a.vernOk, a.step.on⟩
        let cyc := a.fine :: a.cycle
        let ok := a.cycleOk && decide (a.st = .valid)
        let a := { a with latched := some s, restarted := false }
        if posTick then { a with mean := if ok ∧ cyc.length = 10 then some (cyc.sum / 10) else none, cycle := [], cycleOk := true }
        else { a with cycle := cyc.take 10, cycleOk := ok }
  let L := forUpTo 32 one L
  let L := L.onAna fun a => { a with restartBits := 0 }
  let L := forUpTo 32 (fun n L => L.showAi n) L
  let set := L.aiMask fun a => decide (a.st = .settling)
  let flt := L.aiMask fun a => decide (a.st = .fault)
  let L := L.setAll [(Reg.AI_SETTLING_MASK, set), (Reg.AI_FAULTED_MASK, flt), (Reg.AI_STEP_MASK, L.aiMask fun a => a.step.on),
    (Reg.AI_VERN_OK_MASK, L.aiMask AiSt.vernOk)]
  L.setAll [(Reg.AIN_STAT_ANY_SETTLING, if set = 0 then 0 else 1), (Reg.AIN_STAT_ANY_FAULT, if flt = 0 then 0 else 1),
    (Reg.AIN_STAT_CHAIN_RUN, if L.ana.run then 1 else 0)]

/-- The coast stops the ADC domain (R324): every enabled input reads SETTLING with VERN_OK clear. -/
def Lane.anaStop (L : Lane) : Lane :=
  let L := L.onAna fun a => { a with run := false }
  forUpTo 32 (fun n L => if L.get (Reg.AI_CFG_MODE n) = 0 then L else L.onAi n fun a => { a with st := .settling, vernOk := false }) L

/-- The ADC domain restarts (R318, R324). -/
def Lane.anaStart (L : Lane) : Lane :=
  let L := L.onAna fun a => { a with run := true }
  forUpTo 32 (fun n L =>
    (L.onAi n fun a => { a with st := if a.st = .off then .off else .settling, above := {}, under := {}, modulator := {}, terminal := false }).aiRestart n) L

/-- The AI_CFG word that the Chart gives (R334, R337). -/
def AiChart.word (c : AiChart) : Word :=
  let z : Word := 0
  let w := (Reg.AI_CFG_MODE 0).put z c.mode
  let w := (Reg.AI_CFG_ORDER 0).put w c.order
  let w := (Reg.AI_CFG_DECIM 0).put w c.decim
  let w := (Reg.AI_CFG_FINE_TYPE 0).put w (if c.minPhase then 1 else 0)
  let w := (Reg.AI_CFG_DCB_EN 0).put w (if c.dcbEn then 1 else 0)
  let w := (Reg.AI_CFG_GROUP 0).put w c.group
  let w := (Reg.AI_CFG_AUTO 0).put w (if c.group = 0 then 0 else 1)
  (Reg.AI_CFG_PHASE 0).put w c.phase

/-- HOST_INIT of an output (R334): by default 0 V or 4.00 mA. -/
def AoChart.host0 (c : AoChart) : Int := c.hostInit.getD (if c.mode = 2 then 4000000 else 0)

/-- AO_CFG as the Chart gives it (R334, R339). -/
def Lane.aoConfigure (L : Lane) (m : Nat) : Lane :=
  let c := L.aoChart m
  if c.mode = 0 then
    (L.clearAll [Reg.AO_CFG_w m, Reg.AO_HOST_w m, Reg.AO_VAL_w m, Reg.AO_READ_w m]).onAo m fun _ => {}
  else
    let src := match c.channel with
      | none => 3
      | some (_, angle) => if angle then 2 else 1
    let tc := match c.channel with
      | none => 0
      | some (k, _) => k
    L.setAll [(Reg.AO_CFG_MODE m, c.mode), (Reg.AO_CFG_SOURCE m, src), (Reg.AO_CFG_TC m, tc)]

/-- The analogue section of the Chart comes into force (R326, R334): at lane start for every input, later for those whose
configuration no host write holds. -/
def Lane.anaChart (L : Lane) (start : Bool) : Lane :=
  let one (n : Nat) (L : Lane) : Lane :=
    if !start && L.ana.written.contains n then L
    else
      let old := L.word (Reg.AI_CFG_w n).addr
      let w := if L.chart.ok then (L.aiChart n).word else 0
      if old = w then L
      else
        let L := L.setWord (Reg.AI_CFG_w n).addr w
        if (Reg.AI_CFG_MODE n).of w = 0 then L.aiOff n
        else (L.onAi n fun a => { a with st := .settling, above := {}, under := {}, modulator := {}, terminal := false }).aiRestart n
  let L := (forUpTo 32 one L).align
  let out (m : Nat) (L : Lane) : Lane :=
    let L := L.aoConfigure m
    if start ∧ (L.aoChart m).mode ≠ 0 then L.seti (Reg.AO_HOST_VALUE m) (L.aoChart m).host0 else L
  if L.chart.ok then forUpTo 16 out L else L

/-- AO_HOST_WRITE (R329). -/
def Lane.aoHostWrite (L : Lane) (m : Nat) (v : Int) : Lane :=
  if L.active ∧ L.get (Reg.AO_CFG_SOURCE m) = 3 then L.seti (Reg.AO_HOST_VALUE m) v else L.find 0x39 1

/-- AO_HOST_WRITE (R329). -/
def execAoHostWrite (l : LaneId) (m : Nat) (v : Int) (s : State) : Out := onLane l (fun L => L.aoHostWrite m v) s

/-- A value clamped to the commanded range of an output (R327). -/
def aoClamp (mode : Nat) (v : Int) : Int :=
  if mode = 1 then max (-10000000) (min v 10000000) else max 3800000 (min v 20500000)

/-- An output's value committed (R327, R332). -/
def Lane.aoCommit (L : Lane) (m : Nat) (v : Int) : Lane :=
  let mode := L.get (Reg.AO_CFG_MODE m)
  if mode = 0 then L
  else
    let c := aoClamp mode v
    let cl := decide (c ≠ v)
    let L := L.onAo m fun o => { o with committed := c }
    ((L.seti (Reg.AO_VAL_VALUE m) c).setb (Reg.AO_CFG_CLAMPED m) cl).setBit Reg.AO_CLAMPED_MASK m cl

/-- Commits every HOST-sourced output (R329), and every channel-sourced output for which `src` gives a value (R332). -/
def Lane.aoCommitAll (L : Lane) (src : Nat → Option Int) : Lane :=
  let one (m : Nat) (L : Lane) : Lane :=
    if L.get (Reg.AO_CFG_SOURCE m) = 3 then L.aoCommit m (L.geti (Reg.AO_HOST_VALUE m))
    else match src m with
      | some v => L.aoCommit m v
      | none => L
  forUpTo 16 one L

/-- The DACs take the values of the last commit (R48), and the input latch takes the readbacks (R331); `t` gives the level at a
terminal. -/
def Lane.aoLatch (L : Lane) (holds : Bool) (t : Nat → Int) (r : List AoRead) : Lane :=
  let one (m : Nat) (L : Lane) : Lane :=
    let mode := L.get (Reg.AO_CFG_MODE m)
    if mode = 0 then L
    else
      let x := r.getD m ⟨t m, false⟩
      let want := (L.ao m).dac
      let d := (x.value - want).natAbs
      let L := L.seti (Reg.AO_READ_VALUE m) x.value
      let L := if holds && !L.coasting then
          L.onAo m fun o =>
            { o with out := if 200000 < d then min 20 (o.out + 1) else 0, back := if d ≤ 160000 then min 20 (o.back + 1) else 0, limited := x.limited, read := x.value }
        else if L.coasting then L
        else L.onAo m fun o => { o with out := 0, back := 0, read := x.value }
      let L := if L.coasting then L else L.onAo m fun o => { o with dac := o.committed }
      L.setb (Reg.AO_CFG_DRIVEN m) holds
  (forUpTo 16 one L).setb Reg.AO_STAT_DRIVING holds

/-- AO_FAULT (R331): an output enters fault after 20 ticks beyond 1 % of span, and leaves it after 20 within 0.8 %. -/
def Lane.aoFault (L : Lane) (m : Nat) : Lane :=
  let o := L.ao m
  let mode := L.get (Reg.AO_CFG_MODE m)
  let on := L.flag (Reg.AO_CFG_FAULT m)
  if !on ∧ 20 ≤ o.out then
    let cause := if o.limited then (if mode = 2 then 1 else 2) else 3
    let L := (L.setAll [(Reg.AO_CFG_FAULT m, 1), (Reg.AO_CFG_CAUSE m, cause)]).setBit Reg.AO_FAULTED_MASK m true
    (L.setb Reg.AO_FAULT_AO_FAULT_SEEN true).find 0x39 0
  else if on ∧ 20 ≤ o.back then
    (L.setAll [(Reg.AO_CFG_FAULT m, 0), (Reg.AO_CFG_CAUSE m, 0)]).setBit Reg.AO_FAULTED_MASK m false
  else L

/-- AO_FAULT (R331). -/
def execAoFault (l : LaneId) (m : Nat) (s : State) : Out := onLane l (fun L => L.aoFault m) s

end Sys2Proof.Machine
end

