-- ==== Sys2Proof/Machine/Can.lean ====
section
/-! DEFINITION. CAN FD ports and the schedule matrix (10_can_fd). -/

namespace Sys2Proof.Machine

open Sys2Proof

/-- One port. -/
def Lane.port (L : Lane) (p : Nat) : CanPort := L.can.ports.getD p {}

/-- The lane with one port changed. -/
def Lane.onPort (L : Lane) (p : Nat) (f : CanPort → CanPort) : Lane := L.onCan fun c => { c with ports := modAt c.ports p f }

/-- Changes the first element that satisfies a test. -/
def modWhere {α : Type} (t : α → Bool) (f : α → α) : List α → List α
  | [] => []
  | x :: r => if t x then f x :: r else x :: modWhere t f r

/-- Transmit object `n` of a port in force, and its state. -/
def CanPort.obj (c : CanPort) (n : Nat) : Option TxObj := c.cfg.tx.find? fun o => decide (o.num = n)
def CanPort.txs (c : CanPort) (n : Nat) : Option TxState := c.tx.find? fun t => decide (t.num = n)

/-- The lane with one transmit object's state changed. -/
def Lane.onTx (L : Lane) (p n : Nat) (f : TxState → TxState) : Lane :=
  L.onPort p fun c => { c with tx := modWhere (fun t => decide (t.num = n)) f c.tx }

/-- Port state code of CAN_ERR (R406): 3 not in NORMAL operation. -/
def Lane.canState (L : Lane) (p : Nat) : Nat := L.get (Reg.CAN_ERR_STATE p)

/-- Messages pending on a port. -/
def CanPort.pendingCount (c : CanPort) : Nat := (c.tx.filter fun t => t.pending.isSome).length

/-- Every pending message of a port discarded (R380, R381). -/
def CanPort.discard (c : CanPort) : CanPort :=
  { c with tx := c.tx.map fun t => { t with pending := none, begun := false, cancelLate := false, withheld := true }, freeOpen := false }

/-- A HOST_EVENT message waits. -/
def CanPort.sendPending (c : CanPort) : Bool :=
  c.cfg.tx.any fun o => decide (o.source = .hostEvent) && (match c.txs o.num with | some t => t.pending.isSome | none => false)

/-- A port leaves NORMAL operation (R378, R379): bus monitoring mode, TEC and REC 0. -/
def Lane.canLeave (L : Lane) (p : Nat) : Lane :=
  (L.setAll [(Reg.CAN_ERR_STATE p, 3), (Reg.CAN_ERR_TEC p, 0), (Reg.CAN_ERR_REC p, 0), (Reg.CAN_ERR_WARN p, 0)]).onPort p
    fun c => { c with integrating := false, freeOpen := false }

/-- A port enters NORMAL operation and integrates (R379). -/
def Lane.canEnter (L : Lane) (p : Nat) : Lane :=
  (L.setAll [(Reg.CAN_ERR_STATE p, 0), (Reg.CAN_ERR_TEC p, 0), (Reg.CAN_ERR_REC p, 0), (Reg.CAN_ERR_WARN p, 0)]).onPort p
    fun c => { c with integrating := true }

/-- The identifier's place in arbitration (R394): the 11-bit prefix, base format first, the rest of an extended identifier. -/
def TxObj.rank (o : TxObj) : Nat := if o.ide then (o.id / 2 ^ 18) * 2 ^ 19 + 2 ^ 18 + o.id % 2 ^ 18 else o.id * 2 ^ 19

/-- The message that the controller offers when the bus is free (R393, R394): of the pending ones, those withheld apart, the one with
the lowest identifier. -/
def CanPort.offered (c : CanPort) : Option TxObj :=
  let able (o : TxObj) : Bool := match c.txs o.num with
    | some t => t.pending.isSome && !(decide (o.source = .hostEvent) && t.withheld)
    | none => false
  (c.cfg.tx.filter able).foldl (fun b o => match b with
    | some x => if o.rank < x.rank then some o else b
    | none => some o) none

/-- The lane may run NORMAL ports (R378): it holds the grant, does not coast, and is neither in BOOT nor in CONFIG without a
valid Chart. -/
def Lane.canMay (L : Lane) (holds : Bool) : Bool :=
  holds && !L.coasting && decide (L.mode ≠ 1) && (decide (L.mode ≠ 3) || L.chart.ok) && (decide (L.mode ≠ 2) || L.chart.ok)

/-- The ports follow the grant, the coast and the mode (R378, R379); one that was stopped integrates when it runs again (R381,
R396). -/
def Lane.canFollow (L : Lane) (holds : Bool) : Lane :=
  let one (p : Nat) (L : Lane) : Lane :=
    let want := L.canMay holds && decide ((L.port p).cfg.role = .normal)
    let L := if want then (if L.canState p = 3 then L.canEnter p else L)
      else (if L.canState p = 3 then L else L.canLeave p)
    let L := if (L.port p).stopped && !L.coasting then
        L.onPort p fun c => { c with stopped := false, integrating := decide (c.cfg.role ≠ .off) }
      else L
    (L.setb (Reg.CAN_STAT_DRIVING p) (holds && decide ((L.port p).cfg.role = .normal))).setb (Reg.CAN_STAT_MONITOR p)
      (decide ((L.port p).cfg.role ≠ .off) && !want)
  forUpTo 8 one L

/-- The lane releases the grant (R380): its messages are discarded, a waiting SEND is reported DROPPED (R390). -/
def Lane.canGrantLost (L : Lane) : Lane :=
  let one (p : Nat) (L : Lane) : Lane :=
    let L := if (L.port p).sendPending then L.set (Reg.CAN_TX_CMD_RESULT p) 7 else L
    L.onPort p CanPort.discard
  (forUpTo 8 one L).canFollow false

/-- The lane becomes active (R380, R390): the transmit queue starts empty; a SEND of the outgoing lane reports DROPPED. -/
def Lane.canTakeover (L : Lane) : Lane :=
  let one (p : Nat) (L : Lane) : Lane :=
    let L := if (L.port p).tx.any TxState.mirrored then L.set (Reg.CAN_TX_CMD_RESULT p) 7 else L
    L.onPort p fun c => { c.discard with tx := c.discard.tx.map fun t => { t with mirrored := false } }
  forUpTo 8 one L

/-- The coast stops every controller (R381). -/
def Lane.canCoast (L : Lane) : Lane :=
  forUpTo 8 (fun p L => (L.onPort p fun c => { c.discard with waitMatrix := true, stopped := true }).canLeave p) L

/-- A receive object stores a frame (R386, R388). -/
def CanPort.store (c : CanPort) (o : RxObj) (f : CanFrame) : CanPort :=
  let g := { f with data := f.data.take o.len }
  { c with rx := modWhere (fun r => decide (r.num = o.num)) (fun r => { r with frame := some g, upd := (r.upd + 1) % 256, since := r.since + 1 }) c.rx }

/-- REC after a frame received without error (R376, ISO 11898-1). -/
def Lane.recDown (L : Lane) (p : Nat) : Lane :=
  let r := L.get (Reg.CAN_ERR_REC p)
  let v := if r = 0 then 0 else if r ≤ 127 then r - 1 else 119 + Config.recAfterPassive r % 9
  L.set (Reg.CAN_ERR_REC p) v

/-- Error-active, error-passive and WARN by the counters (R397). -/
def Lane.errState (L : Lane) (p : Nat) : Lane :=
  let st := L.canState p
  let t := L.get (Reg.CAN_ERR_TEC p)
  let r := L.get (Reg.CAN_ERR_REC p)
  let L := L.setb (Reg.CAN_ERR_WARN p) (decide (96 ≤ t) || decide (96 ≤ r))
  if st = 0 ∧ (127 < t ∨ 127 < r) then (L.set (Reg.CAN_ERR_STATE p) 1).find (0x48 + p) 2
  else if st = 1 ∧ t ≤ 127 ∧ r ≤ 127 then L.set (Reg.CAN_ERR_STATE p) 0
  else L

/-- A clash (R401): a frame not sent by this lane carries one of its transmit identifiers. -/
def Lane.clash (L : Lane) (p : Nat) (f : CanFrame) : Lane :=
  match (L.port p).cfg.tx.find? fun o => decide (o.id = f.id) && decide (o.ide = f.ide) with
  | some o => (((L.incSat (Reg.CAN_CLASH_COUNT p)).set (Reg.CAN_CLASH_OBJ p) o.num).setb (Reg.CAN_FAULT_CLASH_SEEN p) true).find (0x48 + p) 3
  | none => L

/-- The port takes part in no frame: OFF, stopped with its domain, integrating, or without the field rail that feeds its transceiver
(R378, R379, R381; 16 R562, R564). -/
def Lane.canDeaf (L : Lane) (p : Nat) : Bool :=
  let c := L.port p
  decide (c.cfg.role = .off) || L.coasting || c.stopped || c.integrating || !L.pwr.fieldRail

/-- CAN_FRAME_RECEIVED (R376, R386, R388, R401). -/
def Lane.canReceive (L : Lane) (p : Nat) (holds : Bool) (f : CanFrame) : Lane :=
  let c := L.port p
  if L.canDeaf p || f.own then L
  else if f.fdf && (!c.cfg.fd || f.res) then L.incSat (Reg.CAN_MISC_PROTO_EXC p)
  else
    let L := if L.canState p = 0 ∨ L.canState p = 1 then (L.recDown p).errState p else L
    let L := if holds then L.clash p f else L
    let L := if c.cfg.tx.any fun o => decide (o.id = f.id) && decide (o.ide = f.ide) then L.onPort p fun c => { c with seen := c.seen + 1 } else L
    if f.rtr then L.incSat (Reg.CAN_MISC_UNSTORED p)
    else
      match c.cfg.rx.find? fun o => decide (o.id = f.id) && decide (o.ide = f.ide) with
      | none => L.incSat (Reg.CAN_MISC_UNSTORED p)
      | some o =>
        if canDlcLen f.fdf f.dlc < o.len then L.incSat (Reg.CAN_MISC_SHORT p)
        else (L.onPort p fun c => c.store o f).incWrap (Reg.CAN_CNT_RX p)

/-- CAN_FRAME_RECEIVED (R386). -/
def execCanFrameReceived (l : LaneId) (p : Nat) (f : CanFrame) (s : State) : Out :=
  let holds := s.sh.lock.holds l
  onLane l (fun L => L.canReceive p holds f) s

/-- A slot trigger that queued no new message (R400); the event where the count changes. -/
def Lane.slotMissed (L : Lane) (p : Nat) : Lane :=
  (L.incSat (Reg.CAN_SCHED_MISSED p)).findIf (decide (L.get (Reg.CAN_SCHED_MISSED p) < 65535)) (0x48 + p) 5

/-- A FREE column ends (R391, R393): messages in it that have not won arbitration wait for the next. -/
def CanPort.closeFree (c : CanPort) : CanPort :=
  { c with freeOpen := false, tx := c.tx.map fun t => { t with withheld := true } }

/-- CAN_SLOT_TRIGGER (R393, R399): COL_START(k) of the current row; the column before ends (R391). While the schedule waits for the
matrix start a FREE column does not open (log entry 91). -/
def Lane.slot (L : Lane) (p k : Nat) : Lane :=
  if L.canState p = 3 || ((L.port p).cfg.cols.lookup k).isNone || (L.port p).waitMatrix then L
  else
    let L := L.onPort p CanPort.closeFree
    let c := L.port p
    let e := c.cfg.entry L.can.cyc k
    if e = 0xFE then
      if L.flag (Reg.CAN_SCHED_WAIT_START p) then L
      else L.onPort p fun c => { c with freeOpen := true, tx := c.tx.map fun t => { t with withheld := false } }
    else if e = 0xFF then L
    else
      match c.txs e with
      | none => L
      | some t =>
        if L.flag (Reg.CAN_SCHED_WAIT_START p) || decide (L.canState p = 2) || t.pending.isSome then L.slotMissed p
        else L.onTx p e fun t => { t with pending := some t.data, begun := false, cancelLate := false }

/-- CAN_SLOT_TRIGGER (R393): in the lane that holds the grant since the tick began (R380). -/
def execCanSlotTrigger (l : LaneId) (p k : Nat) (s : State) : Out :=
  if s.sh.lock.holds l && (s.lane l).flag Reg.LANE_STAT_DRIVE_HELD then onLane l (fun L => L.slot p k) s else .next s

/-- CAN_COLUMN_END (R393). -/
def execCanColumnEnd (l : LaneId) (p : Nat) (s : State) : Out := onLane l (fun L => L.onPort p CanPort.closeFree) s

/-- CAN_ARBITRATION_LOST (R394): the message stays pending, and has not begun. -/
def execCanArbitrationLost (l : LaneId) (p n : Nat) (s : State) : Out :=
  onLane l (fun L => L.onTx p n fun t => { t with begun := false }) s

/-- CAN_ERROR (R397, R399): its type, whether as transmitter, and the counter increment that ISO 11898-1 gives it. -/
def Lane.canError (L : Lane) (p : Nat) (e : CanErr) (tx : Bool) (inc : Nat) : Lane :=
  if L.canDeaf p then L
  else
    let L := match e with
      | .stuff => L.incSat (Reg.CAN_ERRCNT_STUFF p)
      | .form => L.incSat (Reg.CAN_ERRCNT_FORM p)
      | .ack => L.incSat (Reg.CAN_MISC_ACK p)
      | .bit1 | .bit0 => L.incSat (Reg.CAN_ERRCNT_BIT p)
      | .crc => L.incSat (Reg.CAN_ERRCNT_CRC p)
    let L := L.set (Reg.CAN_ERR_LEC p) e.code
    if L.canState p = 0 ∨ L.canState p = 1 then
      if tx then
        let t := L.get (Reg.CAN_ERR_TEC p) + inc
        if 255 < t then
          let L := L.setAll [(Reg.CAN_ERR_TEC p, 256), (Reg.CAN_ERR_STATE p, 2), (Reg.CAN_ERR_WARN p, 1), (Reg.CAN_FAULT_BUS_OFF_SEEN p, 1)]
          (L.incSat (Reg.CAN_BUSOFF_COUNT p)).find (0x48 + p) 0
        else (L.set (Reg.CAN_ERR_TEC p) t).errState p
      else (L.setSat (Reg.CAN_ERR_REC p) (L.get (Reg.CAN_ERR_REC p) + inc)).errState p
    else L

/-- CAN_ERROR (R397, R399). -/
def execCanError (l : LaneId) (p : Nat) (e : CanErr) (tx : Bool) (inc : Nat) (s : State) : Out :=
  onLane l (fun L => L.canError p e tx inc) s

/-- BUS_ON (R399, R400): `ms` from entry to recovery. -/
def Lane.busOn (L : Lane) (p ms : Nat) : Lane :=
  if L.canState p = 2 then
    let L := L.setAll [(Reg.CAN_ERR_STATE p, 0), (Reg.CAN_ERR_TEC p, 0), (Reg.CAN_ERR_REC p, 0), (Reg.CAN_ERR_WARN p, 0), (Reg.CAN_SCHED_WAIT_START p, 1)]
    (L.setSat (Reg.CAN_BUSOFF_LAST_MS p) ms).find (0x48 + p) 1
  else L

/-- BUS_ON (R399). -/
def execBusOn (l : LaneId) (p ms : Nat) (s : State) : Out := onLane l (fun L => L.busOn p ms) s

/-- CAN_INTEGRATION_DONE (R379). -/
def execCanIntegrationDone (l : LaneId) (p : Nat) (s : State) : Out :=
  onLane l (fun L => L.onPort p fun c => { c with integrating := false }) s

/-- The first `n` staged bytes (R390, R406). -/
def Lane.stagedBytes (L : Lane) (p n : Nat) : List Nat :=
  (List.range n).map fun j => (L.word (Reg.CAN_TX_DATA_w p (j / 4)).addr).toNat / 2 ^ (8 * (j % 4)) % 256

/-- A CAN_TX_CMD command's tag and code in the register. -/
def Lane.canCmd (L : Lane) (p tag cmd : Nat) : Lane := L.setAll [(Reg.CAN_TX_CMD_TAG p, tag), (Reg.CAN_TX_CMD_CMD p, cmd)]

/-- A refused command (R390). -/
def Lane.canRefuse (L : Lane) (p code : Nat) : Lane := (L.set (Reg.CAN_TX_CMD_RESULT p) code).find (0x48 + p) 7

/-- An unlisted CMD value (R390). -/
def Lane.canUnknown (L : Lane) (p tag cmd : Nat) : Lane :=
  let L := L.canCmd p tag cmd
  if L.active then L.canRefuse p 1 else L.canRefuse p 2

/-- An accepted command joins those of the tick (R402), with result DONE. -/
def Lane.canAccept (L : Lane) (p n cmd tag : Nat) : Lane :=
  (L.onPort p fun c => { c with reqs := c.reqs ++ [(n, cmd, tag)] }).set (Reg.CAN_TX_CMD_RESULT p) 0

/-- A COMMIT or SEND has been seen in this tick (R390). -/
def Lane.canSeen (L : Lane) (p : Nat) : Lane := L.onPort p fun c => { c with cmdThisTick := true }

/-- COMMIT (R390): the addressed object is that of CAN_TX_SEL, its data the staged bytes. -/
def Lane.canCommitCmd (L : Lane) (p tag : Nat) : Lane :=
  let second := (L.port p).cmdThisTick
  let L := (L.canCmd p tag 1).canSeen p
  let n := L.get (Reg.CAN_TX_SEL_OBJ p)
  match L.active, (L.port p).obj n with
  | false, _ => L.canRefuse p 2
  | true, some o =>
    if o.source ≠ .hostSched then L.canRefuse p 3
    else if second then L.canRefuse p 4
    else
      let d := L.stagedBytes p (canDlcLen o.fdf o.dlc)
      (L.onTx p n fun t => { t with next := some d }).canAccept p n 1 tag
  | true, none => L.canRefuse p 3

/-- COMMIT (R390). -/
def execCommit (l : LaneId) (p tag : Nat) (s : State) : Out := onLane l (fun L => L.canCommitCmd p tag) s

/-- SEND (R390). -/
def Lane.canSend (L : Lane) (p tag : Nat) : Lane :=
  let second := (L.port p).cmdThisTick
  let L := (L.canCmd p tag 2).canSeen p
  let n := L.get (Reg.CAN_TX_SEL_OBJ p)
  match L.active, (L.port p).obj n with
  | false, _ => L.canRefuse p 2
  | true, some o =>
    if o.source ≠ .hostEvent then L.canRefuse p 3
    else if second || (match (L.port p).txs n with | some t => t.pending.isSome | none => false) then L.canRefuse p 4
    else
      let d := L.stagedBytes p (canDlcLen o.fdf o.dlc)
      let opn := (L.port p).freeOpen
      (L.onTx p n fun t => { t with data := d, pending := some d, begun := false, cancelLate := false, withheld := !opn }).canAccept p n 2 tag
  | true, none => L.canRefuse p 3

/-- SEND (R390). -/
def execSend (l : LaneId) (p tag : Nat) (s : State) : Out := onLane l (fun L => L.canSend p tag) s

/-- CANCEL (R395): `begun`: the lane has won arbitration with the object's message. -/
def Lane.canCancel (L : Lane) (p tag : Nat) (begun : Bool) : Lane :=
  let L := L.canCmd p tag 3
  let n := L.get (Reg.CAN_TX_SEL_OBJ p)
  match L.active, (L.port p).obj n with
  | false, _ => L.canRefuse p 2
  | true, some o =>
    match o.source with
    | .channel _ => L.canRefuse p 3
    | _ =>
      match (L.port p).txs n with
      | some t =>
        if t.pending.isNone then L.set (Reg.CAN_TX_CMD_RESULT p) 6
        else if begun || t.begun then
          (L.onTx p n fun t => { t with begun := true, cancelLate := true }).set (Reg.CAN_TX_CMD_RESULT p) 5
        else (L.onTx p n fun t => { t with pending := none, withheld := true }).canAccept p n 3 tag
      | none => L.set (Reg.CAN_TX_CMD_RESULT p) 6
  | true, none => L.canRefuse p 3

/-- CANCEL (R390, R395). -/
def execCancel (l : LaneId) (p tag : Nat) (begun : Bool) (s : State) : Out := onLane l (fun L => L.canCancel p tag begun) s

/-- The registers of a port's configuration (R406). -/
def Lane.canShowCfg (L : Lane) (p : Nat) (c : CanCfg) : Lane :=
  let fd (v : Nat) : Nat := if c.fd then v else 0
  let L := L.setAll [(Reg.CAN_CFG_RX_OBJ p, c.rx.length), (Reg.CAN_CFG_TX_OBJ p, c.tx.length), (Reg.CAN_CFG_FD p, if c.fd then 1 else 0),
    (Reg.CAN_CFG_ROLE p, c.role.code), (Reg.CAN_NBT_NTSEG1 p, c.nom.seg1), (Reg.CAN_NBT_NTSEG2 p, c.nom.seg2),
    (Reg.CAN_NBT_NSJW p, c.nom.sjw), (Reg.CAN_NBT_NBRP p, c.nom.brp)]
  let L := L.setAll [(Reg.CAN_DBT_DTSEG1 p, fd c.dat.seg1), (Reg.CAN_DBT_DTSEG2 p, fd c.dat.seg2), (Reg.CAN_DBT_DSJW p, fd c.dat.sjw),
    (Reg.CAN_DBT_DBRP p, fd c.dat.brp), (Reg.CAN_TDC_TDCO p, fd c.tdco), (Reg.CAN_TDC_EN p, fd (if c.tdc then 1 else 0))]
  forUpTo 32 (fun k L => match c.cols.lookup k with
    | some t => L.setAll [(Reg.CAN_COL_USED p k, 1), (Reg.CAN_COL_START p k, t)]
    | none => L.setAll [(Reg.CAN_COL_USED p k, 0), (Reg.CAN_COL_START p k, 0)]) L

/-- The two configurations have the same ROLE, FD and bit timing (R396); a port with FD = no uses no data timing (R384). -/
def CanCfg.sameBus (a b : CanCfg) : Bool :=
  decide (a.role = b.role) && decide (a.fd = b.fd) && decide (a.nom = b.nom)
    && (!a.fd || (decide (a.dat = b.dat) && decide (a.tdc = b.tdc) && decide (a.tdco = b.tdco)))

/-- A configuration comes into force in a port (R396): transmit objects that stay keep their content, but a message of an object
that the new matrix no longer names is discarded (R395); a receive object keeps its data where its identifier and LEN stay. -/
def Lane.canApply (L : Lane) (p : Nat) (c : CanCfg) (restart : Bool) : Lane :=
  let old := L.port p
  let tx := c.tx.map fun o =>
    match old.txs o.num with
    | some t =>
      if o.source ≠ .hostEvent ∧ !c.matrix.contains o.num then { t with pending := none, begun := false, cancelLate := false } else t
    | none => { num := o.num }
  let rx := c.rx.map fun o =>
    match (if old.cfg.rx.contains o then old.rx.find? fun r => decide (r.num = o.num) else none) with
    | some r => r
    | none => { num := o.num }
  let L := L.onPort p fun q => { q with cfg := c, tx := tx, rx := rx, newCfg := none, restart := false }
  let L := if restart then ((L.onPort p fun q => { q.discard with waitMatrix := true, stopped := true }).canLeave p) else L
  L.canShowCfg p c

/-- The CAN section of the Chart comes into force: at lane start at once, later at the next matrix start (R396). -/
def Lane.canChart (L : Lane) (start : Bool) : Lane :=
  let one (p : Nat) (L : Lane) : Lane :=
    let c := if L.chart.ok then L.chart.now.can.port p else {}
    let old := (L.port p).cfg
    if c = old then L.onPort p fun q => { q with newCfg := none }
    else if start then (L.canApply p c false)
    else
      let restart := !c.sameBus old
      if (L.port p).cfg.cols = c.cols ∧ old.matrix = c.matrix ∧ old.tx = c.tx ∧ !restart then L.canApply p c false
      else L.onPort p fun q => { q with newCfg := some c, restart := restart }
  forUpTo 8 one L

/-- The matrix start (R392, R396, R399): waiting changes and the schedule's resumption take effect; after a coast, at the first
matrix start of the running domain (R381). -/
def Lane.matrixStart (L : Lane) (p : Nat) : Lane :=
  let cut := L.coasting
  let L := (L.set (Reg.CAN_SCHED_WAIT_START p) 0).onPort p fun q => { q with waitMatrix := q.waitMatrix && cut }
  match (L.port p).newCfg with
  | some c => L.canApply p c (L.port p).restart
  | none => L

/-- A port at a tick start (R388, R394, R404): the last column of the tick before ends, the latch takes every receive object and the
window's selection, pending messages take the data committed in the
previous tick unless begun; `begun`: the object whose frame is on the bus. -/
def Lane.canPortTick (L : Lane) (p : Nat) (begun : Option Nat) : Lane :=
  let lost := ((L.port p).rx.filter fun r => decide (2 ≤ r.since)).length
  let L := (L.findIf (decide (0 < lost)) (0x48 + p) 4).onPort p fun c => { c with rxLost := c.rxLost + lost }
  let sel := L.get (Reg.CAN_RX_SEL_OBJ p)
  let rx1 (r : RxState) : RxState := { r with latched := r.frame, latUpd := r.upd, isNew := decide (1 ≤ r.since), lost := decide (2 ≤ r.since), since := 0 }
  let tx1 (t : TxState) : TxState :=
    let t := { t with begun := decide (begun = some t.num) && t.pending.isSome, data := t.next.getD t.data, next := none }
    if t.begun then t else { t with pending := t.pending.map fun _ => t.data }
  L.onPort p fun c => { c.closeFree with cmdThisTick := false, reqs := [], rxSel := sel, rx := c.rx.map rx1, tx := c.closeFree.tx.map tx1 }

/-- The CAN ports at a tick start (R392): CYC advances by one modulo 16, and is 0 at the first tick after step 7. -/
def Lane.canTick (L : Lane) (holds : Bool) (begun : List (Option Nat)) : Lane :=
  let L := L.onCan fun c => { c with cyc := if c.first then 0 else (c.cyc + 1) % 16, first := false }
  let L := forUpTo 8 (fun p L => L.canPortTick p (begun.getD p none)) L
  let L := if L.can.cyc = 0 then forUpTo 8 (fun p L => L.matrixStart p) L else L
  let L := forUpTo 8 (fun p L => L.set (Reg.CAN_SCHED_CYC p) L.can.cyc) L
  if L.coasting then L else L.canFollow holds

/-- The latched content of a receive object. -/
def Lane.rxLatched (L : Lane) (p n : Nat) : Option CanFrame :=
  ((L.port p).rx.find? fun r => decide (r.num = n)).bind RxState.latched

/-- The CAN share of the mirror frame (R402). -/
def Lane.canShare (L : Lane) : List CanMirror :=
  (List.range 8).map fun p =>
    let c := L.port p
    let data (n cmd : Nat) : List Nat := match c.txs n with
      | some t => if cmd = 1 then t.next.getD t.data else t.data
      | none => []
    { wait := L.flag (Reg.CAN_SCHED_WAIT_START p), state := L.canState p, reqs := c.reqs,
      host := (c.reqs.find? fun q => decide (q.2.1 ≠ 3)).map fun q => (q.1, q.2.2, data q.1 q.2.1),
      sends := (c.tx.filter fun t => t.pending.isSome && (match c.obj t.num with | some o => decide (o.source = .hostEvent) | none => false)).map TxState.num,
      sent := c.sentTotal }

/-- The standby adopts the CAN share (R392, R402) and the alive counters: host data that the active lane committed, and its pending
SENDs. -/
def Lane.canAdopt (L : Lane) (cyc : Nat) (m : List CanMirror) (alive : List Nat) : Lane :=
  let L := L.onCan fun c => { c with cyc := cyc, first := false, alive := alive }
  let one (p : Nat) (L : Lane) : Lane :=
    match m[p]? with
    | none => L
    | some x =>
      let L := L.setb (Reg.CAN_SCHED_WAIT_START p) x.wait
      let host (n : Nat) : Option (List Nat) := match x.host with
        | some h => if h.1 = n then some h.2.2 else none
        | none => none
      L.onPort p fun c => { c with tx := c.tx.map fun t => { t with next := (host t.num).or t.next, mirrored := x.sends.contains t.num } }
  forUpTo 8 one L

/-- Registers of a CAN page as read (R404-R406): the windows and the pending count. -/
def Lane.canView (L : Lane) (p off : Nat) (w : Word) : Word :=
  let c := L.port p
  let rxn := c.rxSel
  let ro := c.cfg.rx.find? fun o => decide (o.num = rxn)
  let rs := c.rx.find? fun r => decide (r.num = rxn)
  let fr := rs.bind RxState.latched
  let txn := L.get (Reg.CAN_TX_SEL_OBJ p)
  let put (f : Fld) (v : Nat) (w : Word) : Word := f.put w v
  let bit (b : Bool) : Nat := if b then 1 else 0
  if off = 0x0C then put (Reg.CAN_STAT_STATE p) (L.canState p) (put (Reg.CAN_STAT_INTEGRATING p) (bit c.integrating) w)
  else if off = 0x40 then put (Reg.CAN_SCHED_PENDING p) c.pendingCount w
  else if off = 0x50 then
    match ro with
    | some o => BitVec.ofNat 32 (bit o.ide * 2 ^ 31 + 2 ^ 30 + o.id % 2 ^ 29)
    | none => 0
  else if off = 0x54 then
    match rs, fr with
    | some r, some f =>
      put (Reg.CAN_RX_INFO_UPD p) r.latUpd (put (Reg.CAN_RX_INFO_NEW p) (bit r.isNew) (put (Reg.CAN_RX_INFO_LOST p) (bit r.lost)
        (put (Reg.CAN_RX_INFO_ESI p) (bit f.esi) (put (Reg.CAN_RX_INFO_BRS p) (bit f.brs) (put (Reg.CAN_RX_INFO_FDF p) (bit f.fdf)
          (put (Reg.CAN_RX_INFO_DLC p) f.dlc (put (Reg.CAN_RX_INFO_LEN p) f.data.length 0)))))))
    | _, _ => 0
  else if off = 0x58 then (match fr with | some f => BitVec.ofNat 32 (secOf f.time) | none => 0)
  else if off = 0x5C then (match fr with | some f => BitVec.ofNat 32 (nsOf f.time) | none => 0)
  else if 0x60 ≤ off ∧ off < 0xA0 then
    match fr with
    | some f => BitVec.ofNat 32 (ofLe ((List.range 4).map fun j => f.data.getD (off - 0x60 + j) 0))
    | none => 0
  else if off = 0xA4 then
    match c.obj txn with
    | some o => BitVec.ofNat 32 (bit o.ide * 2 ^ 31 + o.id % 2 ^ 29)
    | none => 0
  else if off = 0xA8 then
    match c.obj txn, c.txs txn with
    | some o, some t =>
      let src : Nat × Nat := match o.source with
        | .channel k => (1, k)
        | .hostSched => (2, 0)
        | .hostEvent => (3, 0)
      put (Reg.CAN_TX_INFO_SOURCE p) src.1 (put (Reg.CAN_TX_INFO_PENDING p) (bit t.pending.isSome) (put (Reg.CAN_TX_INFO_FDF p) (bit o.fdf)
        (put (Reg.CAN_TX_INFO_BRS p) (bit o.brs) (put (Reg.CAN_TX_INFO_DLC p) o.dlc (put (Reg.CAN_TX_INFO_TC p) src.2
          (put (Reg.CAN_TX_INFO_SENT p) t.sent 0))))))
    | _, _ => 0
  else w

/-- CTRL.CNT_CLR of a CAN page (R405). -/
def Lane.canCntClr (L : Lane) (p : Nat) : Lane :=
  L.setAll [(Reg.CAN_ERRCNT_w p, 0), (Reg.CAN_MISC_w p, 0), (Reg.CAN_CNT_w p, 0), (Reg.CAN_SCHED_MISSED p, 0), (Reg.CAN_BUSOFF_w p, 0),
    (Reg.CAN_CLASH_COUNT p, 0)]

/-- A bit timing within the limits of R382, or of R383. -/
def BitTiming.nomOk (t : BitTiming) : Bool :=
  decide (1 ≤ t.brp) && decide (t.brp ≤ 31) && decide (2 ≤ t.seg1) && decide (t.seg1 ≤ 255) && decide (1 ≤ t.seg2) && decide (t.seg2 ≤ 127)
    && decide (1 ≤ t.sjw) && decide (t.sjw ≤ 127) && decide (t.sjw ≤ t.seg2)
def BitTiming.datOk (t : BitTiming) : Bool :=
  decide (1 ≤ t.brp) && decide (t.brp ≤ 31) && decide (1 ≤ t.seg1) && decide (t.seg1 ≤ 31) && decide (1 ≤ t.seg2) && decide (t.seg2 ≤ 15)
    && decide (1 ≤ t.sjw) && decide (t.sjw ≤ 15) && decide (t.sjw ≤ t.seg2)

/-- Bit length in mtq of 12.5 ns (R382). -/
def BitTiming.mtq (t : BitTiming) : Nat := t.brp * (1 + t.seg1 + t.seg2)

/-- The rates and the bit timing of a port are within their limits (R376, R382-R384); a port that is OFF needs none. -/
def CanCfg.timingOk (c : CanCfg) : Bool :=
  let n := c.nom.mtq
  let d := c.dat.mtq
  (decide (c.role = .off) && decide (c.nom = {}))
    || (c.nom.nomOk && decide (80 ≤ n) && decide (n ≤ 640)
      && (!c.fd || (c.dat.datOk && decide (d ≤ n) && decide (10 ≤ d) && decide (c.tdco ≤ 127) && (c.tdc || decide (40 ≤ d)))))

/-- A port's configuration is consistent (R376, R384, R385, R389, R391). -/
def CanCfg.ok (c : CanCfg) : Bool :=
    let nodupRx := (c.rx.map fun o => (o.id, o.ide)).Nodup
    let nodupTx := (c.tx.map fun o => (o.id, o.ide)).Nodup
    let cross := c.tx.all fun t => c.rx.all fun r => !(decide (t.id = r.id) && decide (t.ide = r.ide))
    let brs := c.tx.all fun t => !t.brs || c.fd
    let ent := (c.matrix.zip (List.range 512)).all fun q =>
      let e := q.1
      if e = 0xFF then true
      else
        (c.cols.lookup (q.2 % 32)).isSome &&
          (decide (e = 0xFE) || (decide (e ≤ 0x3F) && (match c.tx.find? fun o => decide (o.num = e) with
            | some o => decide (o.source ≠ .hostEvent)
            | none => false)))
    let cols := c.cols.all (fun q => decide (q.2 ≤ 995)) && c.cols.all fun q => c.cols.all fun r => !decide (q.1 < r.1) || decide (q.2 < r.2)
    c.timingOk && decide nodupRx && decide nodupTx && cross && brs && ent && cols

end Sys2Proof.Machine
end

