-- ==== Sys2Proof/Machine/Geo.lean ====
section
/-! DEFINITION. Matrices over exact rationals, angles, rotations, piecewise linear curves: the arithmetic of chapters 03 to 07. -/

namespace Sys2Proof.Machine

open Sys2Proof

/-- A vector and a matrix, row by row. -/
abbrev Vec := List Rat
abbrev Mat := List Vec

/-- An element of a vector, 0 beyond its end. -/
def vAt (v : Vec) (i : Nat) : Rat := v.getD i 0

/-- An element of a matrix. -/
def mAt (m : Mat) (i j : Nat) : Rat := vAt (m.getD i []) j

/-- A vector and a matrix by their elements. -/
def vTab (n : Nat) (f : Nat → Rat) : Vec := (List.range n).map f
def mTab (r c : Nat) (f : Nat → Nat → Rat) : Mat := (List.range r).map fun i => (List.range c).map (f i)

/-- Sums, products, transpose. -/
def vDot (a b : Vec) : Rat := ((a.zip b).map fun p => p.1 * p.2).sum
def vAdd (a b : Vec) : Vec := (a.zip b).map fun p => p.1 + p.2
def vSub (a b : Vec) : Vec := (a.zip b).map fun p => p.1 - p.2
def vScale (k : Rat) (a : Vec) : Vec := a.map (k * ·)
def mAdd (a b : Mat) : Mat := (a.zip b).map fun p => vAdd p.1 p.2
def mScale (k : Rat) (a : Mat) : Mat := a.map (vScale k)
def mCols (m : Mat) : Nat := (m.headD []).length
def mT (m : Mat) : Mat := mTab (mCols m) m.length fun i j => mAt m j i
def mMul (a b : Mat) : Mat :=
  let bt := mT b
  a.map fun r => bt.map (vDot r)
def mVec (a : Mat) (v : Vec) : Vec := a.map fun r => vDot r v
def mId (n : Nat) : Mat := mTab n n fun i j => if i = j then 1 else 0

/-- An element replaced. -/
def vSet (v : Vec) (i : Nat) (x : Rat) : Vec := modAt v i fun _ => x
def mSet (m : Mat) (i j : Nat) (x : Rat) : Mat := modAt m i fun r => vSet r j x

/-- One elimination step of Gauss and Jordan at column `c`: rows done, rows left. -/
def gaussStep (c : Nat) (don rest : Mat) : Option (Mat × Mat) :=
  match rest.find? fun r => vAt r c != 0 with
  | none => none
  | some p =>
    let p := vScale (1 / vAt p c) p
    let rest := (rest.erase (rest.find? (fun r => vAt r c != 0) |>.getD []))
    let red (r : Vec) : Vec := vSub r (vScale (vAt r c) p)
    some (don.map red ++ [p], rest.map red)

/-- Gauss-Jordan elimination over the first `n` columns. -/
def gauss : Nat → Nat → Mat → Mat → Option Mat
  | 0, _, don, _ => some don
  | n + 1, c, don, rest =>
    match gaussStep c don rest with
    | none => none
    | some (d, r) => gauss n (c + 1) d r

/-- The solution of a square linear system, if it has exactly one. -/
def mSolve (a : Mat) (b : Vec) : Option Vec :=
  let n := a.length
  (gauss n 0 [] ((a.zip b).map fun p => p.1 ++ [p.2])).map fun m => m.map fun r => vAt r n

/-- The inverse of a square matrix, if it has one. -/
def mInv (a : Mat) : Option Mat :=
  let n := a.length
  (gauss n 0 [] ((a.zip (mId n)).map fun p => p.1 ++ p.2)).map fun m => m.map fun r => r.drop n

/-- Whether a symmetric matrix has a Cholesky factor (04 R160): every pivot is positive. -/
def cholOk : Nat → Mat → Bool
  | 0, _ => true
  | n + 1, m =>
    match m with
    | [] => true
    | r :: rest =>
      let d := vAt r 0
      if d ≤ 0 then false
      else cholOk n (rest.map fun q => (vSub q (vScale (vAt q 0 / d) r)).drop 1)

/-- The symmetric part. -/
def mSym (m : Mat) : Mat := mTab m.length m.length fun i j => (mAt m i j + mAt m j i) / 2

/-- Angles: degrees and radians, wrapped to one turn about 0 or from 0. -/
def rad (d : Rat) : Rat := d * Config.pi / 180
def deg (r : Rat) : Rat := r * 180 / Config.pi
def wrapBy (turn x : Rat) : Rat := x - turn * ((x / turn) + 1 / 2).floor
def wrapDeg (x : Rat) : Rat := wrapBy 360 x
def wrapRad (x : Rat) : Rat := wrapBy (2 * Config.pi) x
def deg360 (x : Rat) : Rat := x - 360 * (x / 360).floor

/-- A body vector in the earth frame (00 R15; 03 R122): heading, pitch, roll in rad. -/
def bodyToEarth (psi th ph : Rat) (l : Rat × Rat × Rat) : Rat × Rat × Rat :=
  let (x, y, z) := l
  let cs := Config.cos psi
  let ss := Config.sin psi
  let ct := Config.cos th
  let st := Config.sin th
  let cp := Config.cos ph
  let sp := Config.sin ph
  (cs * ct * x + (cs * st * sp - ss * cp) * y + (cs * st * cp + ss * sp) * z,
   ss * ct * x + (ss * st * sp + cs * cp) * y + (ss * st * cp - cs * sp) * z,
   -st * x + ct * sp * y + ct * cp * z)

/-- Horizontal rotation body to earth and back (05 R191). -/
def rotE (psi x y : Rat) : Rat × Rat := (Config.cos psi * x - Config.sin psi * y, Config.sin psi * x + Config.cos psi * y)
def rotB (psi n e : Rat) : Rat × Rat := (Config.cos psi * n + Config.sin psi * e, -Config.sin psi * n + Config.cos psi * e)

/-- Whether the major semi-axis σ of a horizontal covariance is at most a limit, exactly. -/
def majorWithin (a b c lim : Rat) : Bool :=
  let l := lim * lim
  decide (a ≤ l) && decide (c ≤ l) && decide (b * b ≤ (l - a) * (l - c))

/-- Major and minor semi-axis σ and direction (rad) of a horizontal covariance. -/
def ellipse (a b c : Rat) : Rat × Rat × Rat :=
  let m := (a + c) / 2
  let d := (a - c) / 2
  let s := Config.sqrt (d * d + b * b)
  (Config.sqrt (m + s), Config.sqrt (max 0 (m - s)), Config.atan2 b d / 2)

/-- A curve linear between its points and extended beyond the last (06 R628); points by rising abscissa. -/
def lerp : List (Rat × Rat) → Rat → Rat
  | [], _ => 0
  | [p], _ => p.2
  | [p, q], x => if q.1 = p.1 then p.2 else p.2 + (q.2 - p.2) * (x - p.1) / (q.1 - p.1)
  | p :: q :: r :: rest, x =>
    if x ≤ q.1 then (if q.1 = p.1 then p.2 else p.2 + (q.2 - p.2) * (x - p.1) / (q.1 - p.1))
    else lerp (q :: r :: rest) x

/-- Slope of such a curve at an abscissa. -/
def lerpSlope : List (Rat × Rat) → Rat → Rat
  | [], _ => 0
  | [_], _ => 0
  | [p, q], _ => if q.1 = p.1 then 0 else (q.2 - p.2) / (q.1 - p.1)
  | p :: q :: r :: rest, x =>
    if x ≤ q.1 then (if q.1 = p.1 then 0 else (q.2 - p.2) / (q.1 - p.1)) else lerpSlope (q :: r :: rest) x

/-- The curve with abscissa and ordinate exchanged. -/
def swapCurve (l : List (Rat × Rat)) : List (Rat × Rat) := l.map fun p => (p.2, p.1)

/-- A table at 10° steps from 0°, linear between (04 R154). -/
def table10 (l : List Rat) (g : Rat) : Rat :=
  let x := deg360 g / 10
  let k := x.floor.toNat
  let f := x - k
  vAt l (k % 36) * (1 - f) + vAt l ((k + 1) % 36) * f

/-- Component-wise median (03 R135). -/
def insertQ (x : Rat) : List Rat → List Rat
  | [] => [x]
  | y :: r => if x ≤ y then x :: y :: r else y :: insertQ x r
def sortQ : List Rat → List Rat
  | [] => []
  | x :: r => insertQ x (sortQ r)
def medianQ (l : List Rat) : Rat :=
  let s := sortQ l
  let n := s.length
  if n = 0 then 0 else if n % 2 = 1 then vAt s (n / 2) else (vAt s (n / 2 - 1) + vAt s (n / 2)) / 2

/-- Component-wise median of vectors of length `k`. -/
def medianV (k : Nat) (l : List Vec) : Vec := vTab k fun i => medianQ (l.map fun v => vAt v i)

/-- IEEE 754 single of 32 bits as a rational; infinities and no-numbers give none. -/
def ieeeSingle (w : Nat) : Option Rat :=
  let s : Rat := if w / 2 ^ 31 % 2 = 1 then -1 else 1
  let e : Nat := w / 2 ^ 23 % 256
  let m : Nat := w % 2 ^ 23
  let f : Nat := 2 ^ 23 + m
  if e = 255 then none
  else if e = 0 then some (s * (m : Rat) / ((2 ^ 149 : Nat) : Rat))
  else if 150 ≤ e then some (s * (f : Rat) * ((2 ^ (e - 150) : Nat) : Rat))
  else some (s * (f : Rat) / ((2 ^ (150 - e) : Nat) : Rat))

/-- A field map of 8 bytes (R120, R240, R627): none where its width code is 3, a single has not 4 bytes, or its scale is no number. -/
def ByteMap.ofBytes (b : List Nat) : Option ByteMap :=
  let ty := b.getD 2 0
  if ty % 4 = 3 ∨ (ty / 16 % 2 = 1 ∧ ty % 4 ≠ 2) ∨ b.getD 3 0 ≠ 0 then none
  else (ieeeSingle (ofLe ((b.drop 4).take 4))).map fun k => ⟨b.getD 0 0, b.getD 1 0, ty, k⟩

end Sys2Proof.Machine
end

