-- ==== Sys2Proof/Machine/Parse.lean ====
section
/-! DEFINITION. Parsing of text sentences and binary frames into raw samples (03 R116-R120). -/

namespace Sys2Proof.Machine

open Sys2Proof

/-- The references section in force (11 R631). -/
def Lane.rc (L : Lane) : RefChart := L.chart.now.refs

/-! ### The tables of the Chart -/

/-- An index byte of which 0xFF means none (R118). -/
def optByte (b : Nat) : Option Nat := if b = 0xFF then none else some b

/-- The field maps of a table entry's bytes: the first `n` of `w` bytes each. -/
def mapBytes (w : Nat) : Nat → List Nat → List (List Nat)
  | 0, _ => []
  | n + 1, b => b.take w :: mapBytes w n (b.drop w)

/-- The sentence table entry of 48 bytes; none where a field is out of its range (R118). -/
def SentEntry.ofBytes (b : List Nat) : Option SentEntry :=
  let at1 (i : Nat) : Nat := b.getD i 0
  let ports := at1 6 + 256 * at1 7
  let maps := mapBytes 4 (at1 12) (b.drop 16)
  let ok (m : List Nat) : Bool :=
    let q := m.getD 1 0
    let f := m.getD 2 0
    decide (1 ≤ q) && decide (q ≤ 0x0F) && decide (1 ≤ f) && decide (f ≤ 4) && decide (m.getD 3 0 = 0)
  if b.length = 48 ∧ ports < 2 ^ 13 ∧ at1 8 < 30 ∧ at1 10 ≤ 3 ∧ at1 12 ≤ 8 ∧ (b.drop 13).take 3 = [0, 0, 0] ∧ maps.all ok then
    some { pat := b.take 6, ports := ports, slot := at1 8, validField := optByte (at1 9), validRule := at1 10, timeField := optByte (at1 11),
           maps := maps.map fun m => (m.getD 0 0, m.getD 1 0, m.getD 2 0) }
  else none

/-- The binary table entry of 64 bytes; none where a field is out of its range (R120). -/
def BinEntry.ofBytes (b : List Nat) : Option BinEntry :=
  let at1 (i : Nat) : Nat := b.getD i 0
  let maps := (mapBytes 8 (at1 11) (b.drop 16)).map ByteMap.ofBytes
  let okQty (m : Option ByteMap) : Bool := match m with
    | some m => decide (1 ≤ m.qty) && decide (m.qty ≤ 0x11)
    | none => false
  if b.length = 64 ∧ at1 4 ≤ 4 ∧ 1 ≤ at1 5 ∧ at1 6 ≤ 3 ∧ at1 7 < 30 ∧ at1 8 ≤ 2 ∧ at1 11 ≤ 6 ∧ at1 12 ≤ (if at1 8 = 2 then 1 else 0) ∧
      (b.drop 13).take 3 = [0, 0, 0] ∧ maps.all okQty then
    some { key := ofLe (b.take 4), syncLen := at1 4, frameLen := at1 5, check := at1 6, slot := at1 7, transport := at1 8,
           ports := at1 9 + 256 * at1 10, ext := decide (at1 12 = 1), maps := maps.filterMap id }
  else none

/-- The entries of the sentence table and of the binary table, in table order. -/
def RefChart.sentences (c : RefChart) : List SentEntry := c.sentTable.filterMap SentEntry.ofBytes
def RefChart.binary (c : RefChart) : List BinEntry := c.binTable.filterMap BinEntry.ofBytes

/-! ### Slot entries and their defaults (R114) -/

/-- Number of a slot within its kind (R113). -/
def slotInKind (s : Nat) : Nat :=
  match kindOf s with
  | .position => s
  | .heading => s - 12
  | .motion => s - 20
  | .wind => s - 26

/-- Default TIME_MODE (R116): SENSOR for a text slot of which some sentence carries a time field (log entry 86). -/
def RefChart.modeOf (c : RefChart) (s source : Nat) : TimeMode :=
  if source = 3 then
    if c.sentences.any fun e => decide (e.slot = s) && e.timeField.isSome then .sensor else .arrival
  else if source = 4 then .arrival
  else .chron

/-- A slot entry with the defaults of its kind (R114). -/
def SlotEntry.resolve (e : SlotEntry) (c : RefChart) (s : Nat) : SlotChart :=
  let by4 (p h m w : Rat) : Rat := match kindOf s with
    | .position => p
    | .heading => h
    | .motion => m
    | .wind => w
  { source := e.source, ant := e.ant, form := e.form, inputs := e.inputs, depth := e.depth, group := e.group.getD (slotInKind s),
    mode := e.mode.getD (c.modeOf s e.source), latency := e.latency, sigma := e.sigma.getD 0, sigma2 := e.sigma2.getD 0,
    useQuality := e.useQuality, gate := e.gate.getD (by4 (69 / 5) (54 / 5) 0 0), jump := e.jump.getD 10,
    medianLim := e.medianLim.getD (by4 3 2 1 3), medianLim2 := e.medianLim2.getD (by4 0 0 (1 / 2) 15), rejectCnt := e.rejectCnt,
    timeout := e.timeout, admitTime := e.admitTime.getD (if s < 20 then 30 else 10), lever := e.lever, origin := e.origin,
    shadow := e.shadow, deckGimbal := e.deckGimbal }

/-- A slot entry of the Chart, its defaults filled in. -/
def RefChart.slot (c : RefChart) (s : Nat) : Option SlotChart := (c.slots.getD s none).map fun e => e.resolve c s

/-- One slot of the lane. -/
def Lane.slotSt (L : Lane) (s : Nat) : SlotSt := L.ntk.slots.getD s {}
def Lane.onSlot (L : Lane) (s : Nat) (f : SlotSt → SlotSt) : Lane := L.onNtk fun k => { k with slots := modAt k.slots s f }

/-- INT_PARSE counts, and PARSE_ERROR (R149). -/
def Lane.parseBad (L : Lane) : Lane := (L.incSat Reg.INT_PARSE_CHECKSUM).find 0x08 6
def Lane.parseNone (L : Lane) : Lane := (L.incSat Reg.INT_PARSE_NO_MATCH).find 0x08 6

/-! ### Text -/

/-- Value of a hexadecimal digit. -/
def hexVal (c : Nat) : Option Nat :=
  if 48 ≤ c ∧ c ≤ 57 then some (c - 48) else if 65 ≤ c ∧ c ≤ 70 then some (c - 55) else if 97 ≤ c ∧ c ≤ 102 then some (c - 87) else none

/-- XOR of characters. -/
def xorAll (l : List Nat) : Nat := l.foldl (fun a b => (a ^^^ b) % 256) 0

/-- The characters between the leading "$" and "*" of a sentence whose checksum is right (R117). -/
def sentenceBody (t : List Nat) : Option (List Nat) :=
  match t.reverse with
  | 10 :: 13 :: lo :: hi :: 42 :: body =>
    match body.reverse, hexVal hi, hexVal lo with
    | _ :: b, some h, some l => if xorAll b = 16 * h + l then some b else none
    | _, _, _ => none
  | _ => none

/-- Fields of a sentence: split at commas. -/
def splitAt (sep : Nat) : List Nat → List (List Nat)
  | [] => [[]]
  | c :: r =>
    if c = sep then [] :: splitAt sep r
    else match splitAt sep r with
      | [] => [[c]]
      | f :: fs => (c :: f) :: fs

/-- A string of decimal digits. -/
def digitsVal : List Nat → Nat → Option Nat
  | [], v => some v
  | c :: r, v => if 48 ≤ c ∧ c ≤ 57 then digitsVal r (10 * v + (c - 48)) else none

/-- A decimal number with optional sign and fraction. -/
def decimalVal (t : List Nat) : Option Rat :=
  let (neg, t) := match t with
    | 45 :: r => (true, r)
    | 43 :: r => (false, r)
    | r => (false, r)
  let v : Option Rat := match splitAt 46 t with
    | [i] => if i = [] then none else (digitsVal i 0).map fun n => (n : Rat)
    | [i, f] =>
      match digitsVal i 0, digitsVal f 0 with
      | some a, some b => some ((a : Rat) + (b : Rat) / ((10 ^ f.length : Nat) : Rat))
      | _, _ => none
    | _ => none
  v.map fun x => if neg then -x else x

/-- Degrees of ddmm.mmmm with a hemisphere letter: `pos` for the positive half, `neg` for the other. -/
def angleVal (v : Option Rat) (hemi : List Nat) (pos neg : Nat) : Option Rat :=
  v.bind fun x =>
    let d : Rat := (x / 100).floor
    let a := d + (x - 100 * d) / 60
    if hemi = [pos] then some a else if hemi = [neg] then some (-a) else none

/-- A mapped field by its format (R118). -/
def fieldVal (fs : List (List Nat)) (idx fmt : Nat) : Option Rat :=
  let v := decimalVal (fs.getD idx [])
  let nxt := fs.getD (idx + 1) []
  if fmt = 1 then v
  else if fmt = 2 then angleVal v nxt 78 83
  else if fmt = 3 then angleVal v nxt 69 87
  else if fmt = 4 then
    v.bind fun x => if nxt = [78] then some (x * 1852 / 3600) else if nxt = [77] then some x else if nxt = [75] then some (x * 5 / 18) else none
  else none

/-- Seconds of day of hhmmss.ss. -/
def todVal (t : List Nat) : Option Rat :=
  (decimalVal t).map fun x =>
    let h : Rat := (x / 10000).floor
    let m : Rat := ((x - 10000 * h) / 100).floor
    3600 * h + 60 * m + (x - 10000 * h - 100 * m)

/-- VALID_RULE (R118). -/
def fieldRuleOk (rule : Nat) (f : List Nat) : Bool :=
  if rule = 1 then (match f with | [c] => decide (49 ≤ c) && decide (c ≤ 57) | _ => false)
  else if rule = 2 then f = [65]
  else if rule = 3 then f = [65] || f = [68] || f = [80] || f = [82] || f = [70]
  else true

/-- MATCH against an address field, padded with spaces (R118). -/
def addrFits (pat addr : List Nat) : Bool :=
  let a := (addr ++ [32, 32, 32, 32, 32, 32]).take 6
  decide (addr.length ≤ 6) && (pat.zip a).all fun p => decide (p.1 = 42) || decide (p.1 = p.2)

/-- The raw sample of a sentence that an entry takes (R118, R119). -/
def SentEntry.sample (e : SentEntry) (fs : List (List Nat)) (a : Rat) : RawSample :=
  let vals := e.maps.map fun m => (m.2.1, fieldVal fs m.1 m.2.2)
  let full := e.maps.all fun m => decide (fs.getD m.1 [] ≠ [])
  let ok := match e.validField with
    | some i => fieldRuleOk e.validRule (fs.getD i [])
    | none => true
  { slot := e.slot, arrival := a, chron := none, tod := e.timeField.bind fun i => todVal (fs.getD i []),
    valid := ok && full && vals.all fun v => v.2.isSome, q := vals.filterMap fun v => v.2.map fun x => (v.1, x) }

/-- Quantity codes that carry quality only (R119). -/
def isQuality (code : Nat) : Bool := decide (0x0C ≤ code) && decide (code ≤ 0x0F)

/-- An entry whose maps carry these quantities supplies quality only; sensor time and validity word are no measurements. -/
def qualityOnly (codes : List Nat) : Bool :=
  let l := codes.filter fun c => decide (c ≠ 0x10) && decide (c ≠ 0x11)
  decide (l ≠ []) && l.all isQuality

/-- A parsed measurement enters the next input latch; a valid one of an entry that maps quality only waits for its sample (R117,
R119). -/
def Lane.intakePut (L : Lane) (quality : Bool) (r : RawSample) : Lane :=
  if quality && r.valid then L.onSlot r.slot fun s => { s with quality := s.quality ++ [⟨r.tod, r.arrival, r.q⟩] }
  else L.onNtk fun k => { k with fresh := k.fresh ++ [r] }

/-- A text sentence from a port bit of R118 (R117-R119): its characters from "$" or "!" to CR LF, arrival time, and the alias
of the source entry (11 R413). -/
def Lane.sentence (L : Lane) (port : Nat) (t : List Nat) (a : Rat) (alias2 : Option (Nat × Nat)) : Lane :=
  match t with
  | 33 :: _ => L.parseNone
  | _ =>
    if 82 < t.length then L.parseBad
    else match sentenceBody t with
      | none => L.parseBad
      | some b =>
        let fs := splitAt 44 b
        let addr := fs.headD []
        let addr := match alias2 with
          | some x => [x.1, x.2] ++ addr.drop 2
          | none => addr
        match L.rc.sentences.find? fun e => testBit e.ports port && addrFits e.pat addr with
        | none => L.parseNone
        | some e => L.intakePut (qualityOnly (e.maps.map (·.2.1))) (e.sample fs a)

/-! ### Binary frames -/

/-- CRC-16-CCITT over bytes (R120). -/
def crc16Bit (c : Nat) : Nat := if c / 2 ^ 15 % 2 = 1 then (c * 2 % 2 ^ 16) ^^^ 0x1021 else c * 2 % 2 ^ 16
def crc16 (l : List Nat) : Nat :=
  l.foldl (fun c b => (List.range 8).foldl (fun c _ => crc16Bit c) ((c ^^^ (b * 256)) % 2 ^ 16)) (Config.crc16Init % 2 ^ 16)

/-- CHECK of a frame (R120): over all bytes after the sync but those that hold it. -/
def frameCheck (check sync : Nat) (f : List Nat) : Bool :=
  let b := f.drop sync
  let n := b.length
  if check = 1 then decide (2 ≤ n) && decide (crc16 (b.take (n - 2)) = b.getD (n - 2) 0 * 256 + b.getD (n - 1) 0)
  else if check = 2 then decide (1 ≤ n) && decide ((b.take (n - 1)).sum % 256 = b.getD (n - 1) 0)
  else if check = 3 then decide (1 ≤ n) && decide (xorAll (b.take (n - 1)) = b.getD (n - 1) 0)
  else true

/-- The raw field of a byte map, without its scale (R120). -/
def ByteMap.raw (m : ByteMap) (f : List Nat) : Option Rat :=
  let b := (f.drop m.ofs).take m.width
  if b.length < m.width then none
  else
    let v := if m.ty / 8 % 2 = 1 then ofLe b.reverse else ofLe b
    if m.ty / 16 % 2 = 1 then ieeeSingle v
    else if m.ty / 4 % 2 = 1 ∧ 2 ^ (8 * m.width - 1) ≤ v then some ((v : Rat) - ((2 ^ (8 * m.width) : Nat) : Rat))
    else some (v : Rat)

/-- A field's value. -/
def ByteMap.value (m : ByteMap) (f : List Nat) : Option Rat := (m.raw f).map (· * m.scale)

/-- The raw sample of a frame (R120). -/
def BinEntry.sample (e : BinEntry) (f : List Nat) (a : Rat) : RawSample :=
  let vals := e.maps.map fun m => (m.qty, m.value f)
  let word (c : Nat) : Option Rat := (vals.find? fun v => v.1 = c).bind (·.2)
  { slot := e.slot, arrival := a, chron := none, tod := word 0x10,
    valid := vals.all (fun v => v.2.isSome) && (match word 0x11 with | some x => x != 0 | none => true),
    q := vals.filterMap fun v => if v.1 = 0x10 ∨ v.1 = 0x11 then none else v.2.map fun x => (v.1, x) }

/-- A frame that an entry takes: CHECK, then the sample. -/
def Lane.frame (L : Lane) (e : BinEntry) (f : List Nat) (a : Rat) : Lane :=
  if f.length = e.frameLen ∧ frameCheck e.check (if e.transport = 0 then e.syncLen else 0) f then
    L.intakePut (qualityOnly (e.maps.map ByteMap.qty)) (e.sample f a)
  else L.parseBad

/-- Sync bytes of a serial entry: the first SYNC_LEN bytes of KEY in transmission order (log entry 11). -/
def BinEntry.sync (e : BinEntry) : List Nat := ((leBytes 4 e.key).reverse.drop (4 - e.syncLen)).take e.syncLen

/-- The serial entry whose sync pattern stands at the front of a buffer. -/
def RefChart.serialAt (c : RefChart) (port : Nat) (b : List Nat) : Option BinEntry :=
  c.binary.find? fun e => decide (e.transport = 0) && testBit e.ports port && decide (b.take e.syncLen = e.sync)

/-- Takes one frame from a serial buffer (R120): bytes before a sync pattern are passed over; after a CHECK failure the search
restarts one byte after the failed sync. -/
def Lane.serialFrame (L : Lane) (port : Nat) (a : Rat) : List Nat → Lane × List Nat
  | [] => (L, [])
  | b :: r =>
    match L.rc.serialAt port (b :: r) with
    | none => L.serialFrame port a r
    | some e =>
      let f := (b :: r).take e.frameLen
      if f.length < e.frameLen then (L, b :: r)
      else if frameCheck e.check e.syncLen f then (L.frame e f a, (b :: r).drop e.frameLen)
      else (L.parseBad, r)

/-- BINARY_FRAME_RECEIVED (R120): `a` is the arrival time of R116. A CAN payload's first FRAME_LEN bytes are the frame: what
pads it to a length that CAN FD has is no part of it. -/
def Lane.binaryFrame (L : Lane) (src : BinSrc) (a : Rat) : Lane :=
  match src with
  | .serial p =>
    let r := L.serialFrame p a (L.ser.getD p {}).buf
    r.1.onSer fun l => modAt l p fun x => { x with buf := r.2 }
  | .udp e d b =>
    match L.rc.binary.find? fun x => decide (x.transport = 1) && testBit x.ports e && decide (x.key = d) with
    | none => L.parseNone
    | some x => L.frame x b a
  | .can p n =>
    match (L.port p).cfg.rx.find? (fun o => decide (o.num = n)), ((L.port p).rx.find? fun r => decide (r.num = n)).bind RxState.frame with
    | some o, some f =>
      match L.rc.binary.find? fun x => decide (x.transport = 2) && testBit x.ports p && decide (x.key = o.id) && (x.ext == o.ide) with
      | none => L.parseNone
      | some x => L.frame x (f.data.take x.frameLen) f.time
    | _, _ => L

end Sys2Proof.Machine
end

