-- ==== Sys2Proof/Machine/Filter.lean ====
section
/-! DEFINITION. The own-vessel filter (04 R150-R160, R166-R170): model, propagation, updates, history, re-runs. -/

namespace Sys2Proof.Machine

open Sys2Proof

/-- The vessel-model section in force. -/
def Lane.vc (L : Lane) : VesselChart := L.chart.now.vessel

/-- The lane with its own-vessel filter changed. -/
def Lane.onOwn (L : Lane) (f : PlotSt → PlotSt) : Lane := L.onPlt fun p => { p with own := f p.own }

/-- Sum of wrenches. -/
def Wrench.add (a b : Wrench) : Wrench := ⟨a.x + b.x, a.y + b.y, a.n + b.n⟩

/-- A slot feeds a target track (R173). -/
def Lane.feedOf (L : Lane) (s : Nat) : Option Nat :=
  (List.range 16).find? fun k => match L.chart.now.targets.tracks.getD k none with
    | some t => testBit t.feed s
    | none => false

/-- Whether a slot is an own-vessel position or heading slot. -/
def Lane.ownSlot (L : Lane) (s : Nat) : Bool := decide (s < 20) && (L.rc.slot s).isSome && (L.feedOf s).isNone

/-- State index and number of bias states of a slot (R150). -/
def biasIdx (s : Nat) : Nat := if s < 12 then 10 + 2 * s else 34 + (s - 12)
def biasLen (s : Nat) : Nat := if s < 12 then 2 else 1

/-- State indices that take part in the computation (R151). -/
def Lane.activeIdx (L : Lane) : List Nat :=
  List.range 10 ++ ((List.range 20).filter fun s => L.ownSlot s).flatMap fun s => (List.range (biasLen s)).map (biasIdx s + ·)

/-- Inverse mass matrix. -/
def VesselChart.mInv (V : VesselChart) : Mat := (Machine.mInv V.m).getD (mTab 3 3 fun _ _ => 0)

/-- Time derivative of the state (R152). -/
def VesselChart.deriv (V : VesselChart) (tau : Wrench) (x : Vec) : Vec :=
  let psi := vAt x 2
  let nu := [vAt x 3, vAt x 4, vAt x 6]
  let b := rotB psi (vAt x 7) (vAt x 8)
  let dn := mVec V.d nu
  let acc := mVec V.mInv [tau.x + b.1 - vAt dn 0, tau.y + b.2 - vAt dn 1, tau.n + vAt x 9 - vAt dn 2]
  let pe := rotE psi (vAt x 3) (vAt x 4)
  vTab 42 fun i =>
    if i = 0 then pe.1 else if i = 1 then pe.2 else if i = 2 then vAt x 6
    else if i = 3 then vAt acc 0 else if i = 4 then vAt acc 1 else if i = 5 then -vAt x 5 / 5 else if i = 6 then vAt acc 2
    else if i < 10 then 0 else -vAt x i / V.biasTau

/-- Heading wrapped to one turn about 0. -/
def wrapPsi (x : Vec) : Vec := vSet x 2 (wrapRad (vAt x 2))

/-- One second-order Runge-Kutta step of `dt` s (R152); negative steps go back. -/
def VesselChart.step (V : VesselChart) (tau : Wrench) (x : Vec) (dt : Rat) : Vec :=
  let al := Config.rkStage
  let k1 := V.deriv tau x
  let k2 := V.deriv tau (vAdd x (vScale (al * dt) k1))
  let w := 1 / (2 * al)
  wrapPsi (vAdd x (vScale dt (vAdd (vScale (1 - w) k1) (vScale w k2))))

/-- Jacobian of the derivative at a state (R152). -/
def VesselChart.jac (V : VesselChart) (x : Vec) : Mat :=
  let psi := vAt x 2
  let c := Config.cos psi
  let s := Config.sin psi
  let u := vAt x 3
  let v := vAt x 4
  let bN := vAt x 7
  let bE := vAt x 8
  let mi := V.mInv
  let md := mMul mi V.d
  let row (k : Nat) (j : Nat) : Rat :=
    if j = 2 then mAt mi k 0 * (-s * bN + c * bE) + mAt mi k 1 * (-c * bN - s * bE)
    else if j = 3 then -mAt md k 0 else if j = 4 then -mAt md k 1 else if j = 6 then -mAt md k 2
    else if j = 7 then mAt mi k 0 * c - mAt mi k 1 * s
    else if j = 8 then mAt mi k 0 * s + mAt mi k 1 * c
    else if j = 9 then mAt mi k 2 else 0
  mTab 42 42 fun i j =>
    if i = 0 then (if j = 2 then -u * s - v * c else if j = 3 then c else if j = 4 then -s else 0)
    else if i = 1 then (if j = 2 then u * c - v * s else if j = 3 then s else if j = 4 then c else 0)
    else if i = 2 then (if j = 6 then 1 else 0)
    else if i = 3 then row 0 j else if i = 4 then row 1 j
    else if i = 5 then (if j = 5 then -1 / 5 else 0)
    else if i = 6 then row 2 j
    else if i < 10 then 0
    else if i = j then -1 / V.biasTau else 0

/-- Transition matrix over `dt` s, to second order. -/
def VesselChart.trans (V : VesselChart) (x : Vec) (dt : Rat) : Mat :=
  let f := mScale dt (V.jac x)
  mAdd (mId 42) (mAdd f (mScale (1 / 2) (mMul f f)))

/-- Process noise per s (R155). -/
def VesselChart.noise (V : VesselChart) (i : Nat) : Rat :=
  let q : Rat := if i = 3 ∨ i = 4 then V.qUV else if i = 5 then V.qW else if i = 6 then rad V.qR
    else if i = 7 ∨ i = 8 then V.qB else if i = 9 then V.qBM else 0
  q * q

/-- Covariance brought forward over `dt` s (R152). -/
def VesselChart.covStep (V : VesselChart) (x : Vec) (p : Mat) (dt : Rat) : Mat :=
  let f := V.trans x dt
  let m := mMul (mMul f p) (mT f)
  mTab 42 42 fun i j => mAt m i j + (if i = j then V.noise i * dt else 0)

/-- Initial covariance (R155), biases at 0. -/
def VesselChart.p0 (V : VesselChart) : Mat :=
  mTab 42 42 fun i j =>
    if i ≠ j then 0
    else
      let s : Rat := if i < 2 then V.p0Pos else if i = 2 then rad V.p0Hdg else if i < 6 then V.p0Vel else if i = 6 then rad V.p0R
        else if i < 9 then V.p0B else if i = 9 then V.p0BM else 0
      s * s

/-- A slot's bias set to 0 with its prior variance and no cross-covariance (R159). -/
def VesselChart.biasReset (V : VesselChart) (s : Nat) (sigma : Rat) (x : Vec) (p : Mat) : Vec × Mat :=
  let i0 := biasIdx s
  let n := biasLen s
  let inB (i : Nat) : Bool := decide (i0 ≤ i) && decide (i < i0 + n)
  let v := V.biasScale * sigma
  (vTab 42 fun i => if inB i then 0 else vAt x i,
   mTab 42 42 fun i j => if inB i || inB j then (if i = j then v * v else 0) else mAt p i j)

/-- σ of a slot in SI units and rad. -/
def slotSigma (s : Nat) (c : SlotChart) : Rat := if kindOf s = .heading then rad c.sigma else c.sigma

/-- The diagonal floored, and the covariance repaired where it is not positive (R160): whether a repair was made. -/
def Lane.guardCov (L : Lane) (x : Vec) (p : Mat) : Vec × Mat × Bool :=
  let act := L.activeIdx
  let p := mTab 42 42 fun i j => if i = j ∧ act.contains i then max (mAt p i j) (1 / 1000000000000) else mAt p i j
  let n := act.length
  if cholOk n (mTab n n fun i j => mAt p (act.getD i 0) (act.getD j 0)) then (x, p, false)
  else
    let V := L.vc
    let r := ((List.range 20).filter L.ownSlot).foldl (fun (a : Vec × Mat) s => V.biasReset s (slotSigma s ((L.rc.slot s).getD default)) a.1 a.2) (x, V.p0)
    (r.1, r.2, true)

/-- Measurement matrix of an own-vessel slot (R157): position, or heading; biases only while admitted (R159). -/
def measH (s : Nat) (bias : Bool) : Mat :=
  let b := biasIdx s
  if s < 12 then mTab 2 42 fun i j => if j = i then 1 else if bias ∧ j = b + i then 1 else 0
  else mTab 1 42 fun _ j => if j = 2 then 1 else if bias ∧ j = b then 1 else 0

/-- A sample's values and variances in SI units and rad. -/
def Reduced.si (r : Reduced) : Vec := if kindOf r.slot = .heading then r.z.map rad else r.z
def siVar (s : Nat) (v : List Rat) : Vec := if kindOf s = .heading then v.map fun x => x * rad 1 * rad 1 else v

/-- Diagonal matrix of variances. -/
def mDiag (r : Vec) : Mat := mTab r.length r.length fun i j => if i = j then vAt r i else 0

/-- Kalman update in Joseph form (R157): innovation, measurement matrix, its covariance; the elements `fixed` are not changed. -/
def kalman (x : Vec) (p : Mat) (h : Mat) (nu : Vec) (rm : Mat) (fixed : List Nat) : Vec × Mat :=
  let s := mAdd (mMul (mMul h p) (mT h)) rm
  match mInv s with
  | none => (x, p)
  | some si =>
    let g := mapIdxFrom 0 (fun i row => if fixed.contains i then row.map fun _ => 0 else row) (mMul (mMul p (mT h)) si)
    let n := x.length
    let a := mTab n n fun i j => (if i = j then 1 else 0) - vDot (g.getD i []) ((mT h).getD j [])
    (vAdd x (mVec g nu), mSym (mAdd (mMul (mMul a p) (mT a)) (mMul (mMul g rm) (mT g))))

/-- State at a time `back` s before a state, and the measurement matrix seen from that state (R158). -/
def VesselChart.backTo (V : VesselChart) (tau : Wrench) (x : Vec) (back : Rat) : Vec × Mat :=
  if back = 0 then (x, mId 42) else (V.step tau x (-back), V.trans x (-back))

/-- Innovation of a slot's sample against a state at the measurement time. -/
def innov (s : Nat) (bias : Bool) (z x : Vec) : Vec :=
  let pr := mVec (measH s bias) x
  if s < 12 then vSub z pr else [wrapRad (vAt z 0 - vAt pr 0)]

/-- Applies one act of the filter to a state that stands at time `t` ns (R157-R159, R162), and whether the covariance was repaired. -/
def Lane.applyAct (L : Lane) (tau : Wrench) (t : Rat) (j : Judged) (x : Vec) (p : Mat) : Vec × Mat × Bool :=
  let V := L.vc
  match j.act with
  | .update =>
    let b := V.backTo tau x ((t - j.s.time) / 1000000000)
    let h := mMul (measH j.s.slot true) b.2
    let r := kalman x p h (innov j.s.slot true j.s.si b.1) (mDiag (siVar j.s.slot j.var)) j.fixed
    L.guardCov (wrapPsi r.1) r.2
  | .biasReset sg => let r := V.biasReset j.s.slot sg x p; (r.1, r.2, false)
  | .seed => (if j.s.slot < 12 then vSet (vSet x 0 (vAt j.s.z 0)) 1 (vAt j.s.z 1) else wrapPsi (vSet x 2 (rad (vAt j.s.z 0))), p, false)
  | .heave =>
    let r := kalman x p [vTab 42 fun i => if i = 5 then 1 else 0] [vAt j.s.z 0 - vAt x 5] (mDiag j.var) []
    L.guardCov r.1 r.2

/-! ### History -/

/-- Acts of a list due at a tick that begins at `t1`, or at any later time (`none`), after one at `t0`, in the order of R131. -/
def dueAt (l : List Judged) (t0 : Rat) (t1 : Option Rat) : List Judged :=
  let before (j : Judged) : Bool := match t1 with
    | some t => decide (j.s.time < t)
    | none => true
  (l.filter fun j => decide (t0 ≤ j.s.time) && before j).foldl
    (fun acc j => (acc.takeWhile fun k => decide (k.s.time ≤ j.s.time)) ++ j :: (acc.dropWhile fun k => decide (k.s.time ≤ j.s.time))) []

/-- A filter state on its way through the history: state, covariance and the time to which that has been propagated, and whether it was
repaired (R160). -/
structure FilterRun where
  x : Vec
  p : Mat
  pT : Rat
  rep : Bool := false
deriving DecidableEq, Repr

/-- The covariance brought forward to a time (R152, R160). -/
def Lane.runCov (L : Lane) (t : Rat) (r : FilterRun) : FilterRun :=
  if t = r.pT then r
  else
    let g := L.guardCov r.x (L.vc.covStep r.x r.p ((t - r.pT) / 1000000000))
    ⟨g.1, g.2.1, t, r.rep || g.2.2⟩

/-- One act at time `t`; the covariance is brought forward before it (R152). -/
def Lane.runAct (L : Lane) (tau : Wrench) (t : Rat) (r : FilterRun) (j : Judged) : FilterRun :=
  let r := L.runCov t r
  let a := L.applyAct tau t j r.x r.p
  ⟨a.1, a.2.1, t, r.rep || a.2.2⟩

/-- One tick of an entry: propagation, then the acts due. -/
def Lane.runTick (L : Lane) (acts : List Judged) (k : HistTick) (last : Bool) (t0 : Rat) (r : FilterRun) : FilterRun :=
  let tau := k.tauT.add k.tauW
  (dueAt acts t0 (if last then none else some k.time)).foldl (L.runAct tau k.time) { r with x := L.vc.step tau r.x k.dt }

/-- Runs over the ticks of an entry from a state at `t0` (R167 step 2): propagations and acts as stored. -/
def Lane.replay (L : Lane) (acts : List Judged) : List HistTick → Rat → FilterRun → FilterRun
  | [], _, r => r
  | k :: ks, t0, r => L.replay acts ks k.time (L.runTick acts k (decide (ks = [])) t0 r)

/-- Prediction of state and covariance at a past time from an entry (R167). -/
def Lane.replayTo (L : Lane) (acts : List Judged) (t : Rat) : List HistTick → Rat → FilterRun → Vec × Mat
  | [], _, r => (r.x, (L.runCov t r).p)
  | k :: ks, t0, r =>
    if t < k.time then (L.vc.step (k.tauT.add k.tauW) r.x ((t - t0) / 1000000000), (L.runCov t r).p)
    else L.replayTo acts t ks k.time (L.runTick acts k (decide (ks = [])) t0 r)

/-- The history entry of the cycle in which a time lies. -/
def PlotSt.entryAt (q : PlotSt) (t : Rat) : Option HistEntry :=
  ((q.hist ++ [q.cur]).filter fun h => decide (h.time ≤ t)).getLast?

/-- State and covariance predicted at a time (R134, R135): from the live state within the cycle in progress, else from history. -/
def Lane.predict (L : Lane) (t : Rat) : Vec × Mat :=
  let q := L.plt.own
  if q.cur.time ≤ t then
    let V := L.vc
    let b := V.backTo (q.tauT.add q.tauW) q.x ((q.xTime - t) / 1000000000)
    let p := (L.runCov q.xTime ⟨q.x, q.p, q.pTime, false⟩).p
    (b.1, mMul (mMul b.2 p) (mT b.2))
  else match q.entryAt t with
    | some h => L.replayTo h.samples t h.ticks h.time ⟨h.x, h.p, h.time, false⟩
    | none => (q.x, q.p)

/-- A covariance was repaired (R160). -/
def Lane.repaired (L : Lane) (b : Bool) : Lane := if b then (L.setb Reg.PLOT_FAULT_NUMERIC true).find 0x0A 5 else L

/-- The live covariance brought forward to the state's time (R152). In INIT too: R163 knows the estimate enter VALID by it, beside 03
R138's initial covariance (DEDUCED, log entry 86). -/
def Lane.covNow (L : Lane) : Lane :=
  let q := L.plt.own
  if q.xTime = q.pTime then L
  else
    let r := L.runCov q.xTime ⟨q.x, q.p, q.pTime, false⟩
    (L.onOwn fun q => { q with x := r.x, p := r.p, pTime := q.xTime }).repaired r.rep

/-- Puts a late sample into its history entry. -/
def putLate (j : Judged) : List HistEntry → List HistEntry
  | [] => []
  | h :: r =>
    match r with
    | [] => [{ h with samples := h.samples ++ [j] }]
    | g :: _ => if j.s.time < g.time then { h with samples := h.samples ++ [j] } :: r else h :: putLate j r

/-- An act joins the history entry of its time, the oldest where it is older (R166). -/
def PlotSt.note (q : PlotSt) (j : Judged) : PlotSt :=
  if q.cur.time ≤ j.s.time then { q with cur := { q.cur with samples := q.cur.samples ++ [j] } }
  else match q.hist with
    | [] => { q with cur := { q.cur with samples := q.cur.samples ++ [{ j with s := { j.s with time := q.cur.time } }] } }
    | h :: _ => { q with hist := putLate (if j.s.time < h.time then { j with s := { j.s with time := h.time } } else j) q.hist }

/-- An act of the filter on the live state (R158), which the history keeps. -/
def Lane.filterAct (L : Lane) (j : Judged) : Lane :=
  let L := L.covNow
  let q := L.plt.own
  let r := L.applyAct (q.tauT.add q.tauW) q.xTime j q.x q.p
  (L.onOwn fun q => ({ q with x := r.1, p := r.2.1 } : PlotSt).note j).repaired r.2.2

/-- A judged sample of the cycle in progress updates the live state (R158). -/
def Lane.liveUpdate (L : Lane) (j : Judged) : Lane := L.filterAct j

/-- The bias of a slot that is not configured, or that feeds a track, is 0 with no variance, in the history too (R151). -/
def Lane.biasNone (L : Lane) (s : Nat) : Lane :=
  if s < 20 then
    let z (x : Vec) (p : Mat) : Vec × Mat := L.vc.biasReset s 0 x p
    let e (h : HistEntry) : HistEntry := let r := z h.x h.p; { h with x := r.1, p := r.2 }
    L.onOwn fun q =>
      let r := z q.x q.p
      { q with x := r.1, p := r.2, hist := q.hist.map e, cur := e q.cur,
               rerun := q.rerun.map fun k => let a := z k.x k.p; { k with x := a.1, p := a.2, redo := k.redo.map fun d => (d.1, z d.2.1 d.2.2) } }
  else L

/-- Starts a re-run from the cycle that contains a time (R167). -/
def PlotSt.startRerun (q : PlotSt) (t : Rat) (age : Nat) : PlotSt :=
  match (q.hist.filter fun h => decide (h.time ≤ t)).getLast? with
  | some h =>
    { q with rerun := some { x := h.x, p := h.p, pT := h.time, next := h.time, age := age, depth := (q.hist.filter fun g => decide (h.time ≤ g.time)).length + 1 } }
  | none => q

/-- A time precedes the oldest history entry (R169). -/
def PlotSt.beforeHistory (q : PlotSt) (t : Rat) : Bool := decide (t < (q.hist.headD q.cur).time)

/-- A sample that precedes the history is discarded (R169). -/
def Lane.histMiss (L : Lane) : Lane := (L.incSat Reg.PLOT_HIST_HIST_MISS).find 0x0A 4

/-- A late sample (R167, R168): inserted; a re-run is queued. -/
def Lane.lateSample (L : Lane) (j : Judged) : Lane :=
  let L := (L.onOwn fun q => { q with hist := putLate j q.hist }).incWrap Reg.INT_LATE_APPLIED
  match L.plt.own.rerun with
  | none => L.onOwn fun q => q.startRerun j.s.time 0
  | some r =>
    if !r.live ∧ r.next ≤ j.s.time then L
    else L.onOwn fun q => { q with wait := q.wait ++ [j] }

/-- One cycle of a re-run (R167 steps 1, 2): the covariance stands at the cycle's start, and is brought forward to its end. -/
def Lane.rerunCycle (L : Lane) (r : Rerun) : Rerun :=
  let run (h : HistEntry) : FilterRun := L.replay h.samples h.ticks h.time ⟨r.x, r.p, h.time, r.rep⟩
  match (L.plt.own.hist.filter fun h => decide (r.next ≤ h.time)) with
  | h :: rest =>
    let nxt := match rest with
      | g :: _ => g.time
      | [] => L.plt.own.cur.time
    let a := L.runCov nxt (run h)
    { r with x := a.x, p := a.p, pT := nxt, rep := a.rep, next := nxt, redo := r.redo ++ [(h.time, r.x, r.p)] }
  | [] =>
    let a := run L.plt.own.cur
    { r with x := a.x, p := a.p, pT := a.pT, rep := a.rep, live := true, redo := r.redo ++ [(L.plt.own.cur.time, r.x, r.p)] }

/-- A re-run advances by at most `n` cycles (R167 step 3). -/
def Lane.rerunCycles (L : Lane) : Nat → Rerun → Rerun
  | 0, r => r
  | n + 1, r => if r.live then r else L.rerunCycles n (L.rerunCycle r)

/-- A live re-run follows the live filter by the ticks and samples since (R167 step 4): the cycle in progress anew. -/
def Lane.rerunFollow (L : Lane) (r : Rerun) : Rerun :=
  match r.redo.getLast? with
  | some (t, x, p) =>
    let c := L.plt.own.cur
    if c.time = t then
      let a := L.replay c.samples c.ticks c.time ⟨x, p, c.time, r.rep⟩
      { r with x := a.x, p := a.p, pT := a.pT, rep := a.rep }
    else r
  | none => r

/-- A re-run's work in one tick (R167; R178, R179): 8 cycles, or 2 with one FE. -/
def Lane.rerunStep (L : Lane) (single : Bool) : Lane :=
  match L.plt.own.rerun with
  | none => L
  | some r =>
    let r' := if r.live then L.rerunFollow r else L.rerunCycles (if single then 2 else 8) r
    (L.onOwn fun q => { q with rerun := some { r' with age := r'.age + 1 }, waitAge := if q.wait = [] then 0 else q.waitAge + 1 }).repaired
      (r'.rep && !r.rep)

/-- The re-run's state becomes the live one (R167 step 5); samples that waited start the next re-run (R168). -/
def Lane.rerunAdopt (L : Lane) : Lane :=
  match L.plt.own.rerun with
  | none => L
  | some r =>
    if !r.live then L
    else
      let fix (h : HistEntry) : HistEntry :=
        match r.redo.find? fun d => decide (d.1 = h.time) with
        | some d => { h with x := d.2.1, p := d.2.2 }
        | none => h
      let L := L.onOwn fun q =>
        { q with x := r.x, p := r.p, pTime := r.pT, hist := q.hist.map fix, cur := fix q.cur, rerun := none, revised := true }
      let L := L.incWrap Reg.PLOT_HIST_REVISED
      let L := if L.get Reg.PLOT_RERUN_LONGEST < r.age then L.setSat Reg.PLOT_RERUN_LONGEST r.age else L
      match L.plt.own.wait with
      | [] => L
      | w :: ws =>
        let t := ws.foldl (fun m j => min m j.s.time) w.s.time
        L.onOwn fun q => { (q.startRerun t q.waitAge) with wait := [], waitAge := 0 }

/-- RERUN_ADOPT (R167). -/
def execRerunAdopt (l : LaneId) (s : State) : Out := onLane l Lane.rerunAdopt s

/-- The state propagated over a tick of `dt` s that begins at `t` (R152); the history notes the tick (R166). -/
def Lane.propagate (L : Lane) (t dt : Rat) : Lane :=
  let q := L.plt.own
  let x := L.vc.step (q.tauT.add q.tauW) q.x dt
  let k : HistTick := ⟨t, dt, q.tauT, q.tauW⟩
  L.onOwn fun q => { q with x := x, xTime := t, cur := { q.cur with ticks := q.cur.ticks ++ [k] } }

/-- The end of a position cycle: its entry joins the history of 200, and a new one opens at the current state (R166). -/
def Lane.closeCycle (L : Lane) : Lane :=
  let L := L.covNow
  L.onOwn fun q =>
    let h := q.hist ++ [q.cur]
    { q with hist := h.drop (h.length - 200), cur := { time := q.xTime, x := q.x, p := q.p } }

/-- The estimate enters INIT (R162). -/
def Lane.plotInit (L : Lane) (t : Rat) : Lane :=
  let p := L.vc.p0
  let x := List.replicate 42 0
  let L := L.onOwn fun q =>
    { q with x := x, p := p, st := 0, begun := true, seedPos := none, seedHdg := none, consist := 0, envTime := 0, pTime := t, xTime := t,
             hist := [], rerun := none, wait := [], waitAge := 0, envOk := false }
  let L := L.onOwn fun q => { q with cur := { time := t, x := x, p := p }, revised := false, heavePrev := none }
  (L.setb Reg.PLOT_STAT_ENV_VALID false).set Reg.PLOT_STAT_STATE 0

/-- A chronometer step is added to every time the history holds (R170). -/
def Lane.histStep (L : Lane) (d : Rat) : Lane :=
  let js (j : Judged) : Judged := { j with s := { j.s with time := j.s.time + d } }
  let hs (h : HistEntry) : HistEntry :=
    { h with time := h.time + d, ticks := h.ticks.map (fun k => { k with time := k.time + d }), samples := h.samples.map js }
  L.onOwn fun q =>
    let rr := q.rerun.map fun r => { r with next := r.next + d, pT := r.pT + d, redo := r.redo.map fun x => (x.1 + d, x.2) }
    let q := { q with hist := q.hist.map hs, cur := hs q.cur, pTime := q.pTime + d, xTime := q.xTime + d, rerun := rr, wait := q.wait.map js }
    { q with attHist := q.attHist.map fun a => (a.1 + d, a.2) }

end Sys2Proof.Machine
end

