-- ==== Sys2Proof/Machine/Intake.lean ====
section
/-! DEFINITION. The intake: time models, reduction, votes, slot states and weights (03 R121-R142). -/

namespace Sys2Proof.Machine

open Sys2Proof

/-! ### Time alignment -/

/-- A sensor time of day on the chronometer's timescale, the date that puts it nearest to `a` (R125), ns. -/
def Lane.placeTod (L : Lane) (tod a : Rat) : Rat :=
  let b : Rat := tod + (L.geti Reg.CHR_UTC_OFS : Rat)
  let k : Rat := ((a / 1000000000 - b) / 86400 + 1 / 2).floor
  (b + 86400 * k) * 1000000000

/-- m(s) of a time model (R126). -/
def TimeModel.at (m : TimeModel) (s : Rat) : Rat := s + m.ofs + m.rate * (s - m.su)

/-- The first valid sample sets OFS (R127): sensor time, and arrival less latency. -/
def TimeModel.begun (m : TimeModel) (s al : Rat) : TimeModel := if m.set then m else { m with set := true, ofs := al - s, rate := 0, su := s }

/-- Measurement time of a sample by its slot's model (R125). -/
def TimeModel.time (m : TimeModel) (s al : Rat) : Rat :=
  let m := m.begun s al
  if m.learning || m.degraded then al else m.at s

/-- A valid sample of tick `tick` in its slot's model (R126-R128): one from the future (`early`, R130) fails the divergence test. -/
def TimeModel.take (m : TimeModel) (s al : Rat) (tick : Nat) (early : Bool) : TimeModel :=
  let m := m.begun s al
  let e := al - m.at s
  let m := { m with resid := (tick, e) :: m.resid.filter (fun x => decide (tick < x.1 + 1000)), lastS := s }
  let d := if e < 0 then -e else e
  if m.learning then m
  else if m.degraded then { m with within := if d ≤ 5000000 ∧ !early then m.within + 1 else 0 }
  else { m with above := if 10000000 < d ∨ early then m.above + 1 else 0 }

/-- A sample lies more than 1 ms after its latch (R130). -/
def RawSample.early (r : RawSample) (t : Rat) : Bool := decide (r.latch - t < -1000000)

/-- Measurement time of a sample (R125, R129), and the lane with the slot's model advanced. -/
def Lane.measTime (L : Lane) (c : SlotChart) (r : RawSample) : Lane × Rat :=
  let al := r.arrival - c.latency * 1000000
  match c.mode, r.chron, r.tod with
  | .chron, some t, _ => (L, t)
  | .sensor, _, some tod =>
    if L.timeValid then
      let s := L.placeTod tod r.arrival
      let t := (L.slotSt r.slot).tm.time s al
      (L.onSlot r.slot fun x => { x with tm := x.tm.take s al L.tk.count (r.early t) }, t)
    else (L, al)
  | _, _, _ => (L, al)

/-- The update of a model by the smallest residual of the preceding 1000 ticks, if it has any (R126); older ones go. -/
def TimeModel.update (m : TimeModel) (tick : Nat) : TimeModel :=
  match (m.resid.filter fun x => decide (tick ≤ x.1 + 1000)).map Prod.snd with
  | [] => { m with resid := [] }
  | e :: l =>
    let e := l.foldl min e
    { m with ofs := m.ofs + e / 4, rate := m.rate + (2 / 100) * e / 1000000000, su := m.lastS, resid := [], updates := m.updates + 1 }

/-- TIME_MODEL_UPDATE (R126): at tick 0 of a second. -/
def Lane.modelUpdate (L : Lane) : Lane :=
  let one (s : Nat) (L : Lane) : Lane :=
    match L.rc.slot s with
    | some c => if c.mode = .sensor ∧ L.timeValid then L.onSlot s fun x => { x with tm := x.tm.update L.tk.count } else L
    | none => L
  forUpTo 30 one L

/-- TIME_MODEL_UPDATE (R126). -/
def execTimeModelUpdate (l : LaneId) (s : State) : Out := onLane l Lane.modelUpdate s

/-- LEARNING_END (R127): a model completes 8 updates. -/
def execLearningEnd (l : LaneId) (n : Nat) (s : State) : Out :=
  onLane l (fun L => if (L.slotSt n).tm.learning ∧ 8 ≤ (L.slotSt n).tm.updates then
    L.onSlot n fun x => { x with tm := { x.tm with learning := false, above := 0, within := 0 } } else L) s

/-- TIME_DEGRADED (R128). -/
def execTimeDegraded (l : LaneId) (n : Nat) (s : State) : Out :=
  onLane l (fun L =>
    let m := (L.slotSt n).tm
    if !m.learning ∧ !m.degraded ∧ 8 ≤ m.above then
      let L := L.onSlot n fun x => { x with tm := { x.tm with degraded := true, above := 0, within := 0 } }
      ((L.setBit Reg.INT_TDEG_MASK n true).setb (Reg.SLOT_STAT_TIME_DEGRADED n) true).find 0x08 2
    else L) s

/-- TIME_RESTORED (R128). -/
def execTimeRestored (l : LaneId) (n : Nat) (s : State) : Out :=
  onLane l (fun L =>
    let m := (L.slotSt n).tm
    if m.degraded ∧ 8 ≤ m.within then
      let L := L.onSlot n fun x => { x with tm := { x.tm with degraded := false, above := 0, within := 0 } }
      (L.setBit Reg.INT_TDEG_MASK n false).setb (Reg.SLOT_STAT_TIME_DEGRADED n) false
    else L) s

/-- A chronometer step moves every time model, and the times of latched and waiting samples (R129). -/
def Lane.intakeStep (L : Lane) (d : Rat) : Lane :=
  let rs (r : RawSample) : RawSample := { r with arrival := r.arrival + d, latch := r.latch + d, chron := r.chron.map (· + d) }
  let sl (x : SlotSt) : SlotSt :=
    { x with tm := { x.tm with ofs := x.tm.ofs + d }, lastValid := x.lastValid.map (· + d), lastMeas := x.lastMeas.map (· + d),
             seen := x.seen.map (· + d),
             last := x.last.map fun z => { z with time := z.time + d } }
  L.onNtk fun k => { k with slots := k.slots.map sl, fresh := k.fresh.map rs, latched := k.latched.map rs }

/-! ### Reduction to the reference point -/

/-- Some slot of those numbered in a list has a source of a kind and is ADMITTED. -/
def Lane.anyAdmitted (L : Lane) (l : List Nat) (p : SlotChart → Bool) : Bool :=
  l.any fun s => decide ((L.slotSt s).st = .admitted) && ((L.rc.slot s).map p).getD false

/-- The latest Sextant attitude while one of its slots is ADMITTED: roll and pitch, ° (R116, R122; 04 R156). -/
def Lane.sxAttitude (L : Lane) : Option (Rat × Rat) :=
  if L.anyAdmitted ((List.range 20).drop 12) fun c => decide (c.source = 2) then L.plt.own.sxAtt else none

/-- Roll and pitch in rad at a time, and whether they are known (R122): by the motion slots while one is ADMITTED, else by the
Sextant. -/
def Lane.attAt (L : Lane) (t : Rat) : Rat × Rat × Bool :=
  let h := if L.anyAdmitted ((List.range 26).drop 20) fun _ => true then L.plt.own.attHist else []
  let aft := (h.filter fun a => decide (t ≤ a.1)).getLast?
  let bef := (h.filter fun a => decide (a.1 ≤ t)).head?
  match bef, aft with
  | some b, some a =>
    let w : Rat := if a.1 = b.1 then 0 else (t - b.1) / (a.1 - b.1)
    (rad (b.2.1 + w * (a.2.1 - b.2.1)), rad (b.2.2 + w * (a.2.2 - b.2.2)), true)
  | some b, none => (rad b.2.1, rad b.2.2, true)
  | none, some a => (rad a.2.1, rad a.2.2, true)
  | none, none =>
    match L.sxAttitude with
    | some a => (rad a.1, rad a.2, true)
    | none => (0, 0, false)

/-- A quantity of a sample. -/
def RawSample.qty (r : RawSample) (code : Nat) : Rat := (r.q.lookup code).getD 0

/-- The vector subtracted from the origin to give the sensor position (R123). -/
def Lane.relVec (L : Lane) (c : SlotChart) (r : RawSample) (t : Rat) : Rat × Rat × Rat :=
  let psi := vAt (L.predict t).1 2
  let a := L.attAt t
  match c.form with
  | .absolute => (0, 0, 0)
  | .tautWire =>
    let d := (r.q.lookup 0x14).getD c.depth
    let ax := rad (r.qty 0x12) + (if c.deckGimbal then a.2.1 else 0)
    let ay := rad (r.qty 0x13) - (if c.deckGimbal then a.1 else 0)
    let tan (x : Rat) : Rat := Config.sin x / Config.cos x
    bodyToEarth psi a.2.1 a.1 (d * tan ax, d * tan ay, d)
  | .laser =>
    let b := rad (r.qty 0x0B)
    bodyToEarth psi 0 0 (r.qty 0x0A * Config.cos b, r.qty 0x0A * Config.sin b, 0)
  | .relGnss => (r.qty 0x01, r.qty 0x02, 0)

/-- North and east of an absolute position sample: already local (0x15, 0x16; the Sextant, R286) or geographic. -/
def Lane.absPos (L : Lane) (r : RawSample) : Rat × Rat :=
  match r.q.lookup 0x15, r.q.lookup 0x16 with
  | some n, some e => (n, e)
  | _, _ => Config.toLocal L.rc.originLat L.rc.originLon (r.qty 0x01) (r.qty 0x02) (r.qty 0x03)

/-- Lever arm in the earth frame (R122). -/
def Lane.leverAt (L : Lane) (c : SlotChart) (t : Rat) : Rat × Rat × Rat :=
  let psi := vAt (L.predict t).1 2
  let a := L.attAt t
  bodyToEarth psi a.2.1 a.1 c.lever

/-- Reduced position of the reference point for an origin (R122, R123). -/
def Lane.reducePos (L : Lane) (c : SlotChart) (r : RawSample) (t : Rat) (org : Rat × Rat × Rat) : Rat × Rat :=
  let l := L.leverAt c t
  match c.form with
  | .absolute => let p := L.absPos r; (p.1 - l.1, p.2 - l.2.1)
  | _ => let v := L.relVec c r t; (org.1 - v.1 - l.1, org.2.1 - v.2.1 - l.2.1)

/-- The origin of a relative reference: surveyed, or its anchor (R124). -/
def Lane.originOf (L : Lane) (s : Nat) (c : SlotChart) : Option (Rat × Rat × Rat) :=
  match c.form, c.origin with
  | .absolute, _ => some (0, 0, 0)
  | _, some o => some o
  | _, none => (L.slotSt s).anchor

/-- The anchor that makes a sample agree with a position (R124). -/
def Lane.anchorFor (L : Lane) (c : SlotChart) (r : RawSample) (t n e : Rat) : Rat × Rat × Rat :=
  let z := L.reducePos c r t (0, 0, 0)
  (n - z.1, e - z.2, 0)

/-- Some slot of the Chart is an absolute position reference (R124). -/
def Lane.anyAbsolute (L : Lane) : Bool :=
  (List.range 12).any fun s => match L.rc.slot s with
    | some c => decide (c.form = .absolute)
    | none => false

/-- Anchors a relative reference when it enters admission, where it may (R124). -/
def Lane.anchorIf (L : Lane) (s : Nat) (c : SlotChart) (r : RawSample) (t : Rat) : Lane :=
  match L.originOf s c with
  | some _ => L.onSlot s fun x => { x with noOrigin := false }
  | none =>
    if L.plt.own.st = 1 then
      let x := (L.predict t).1
      L.onSlot s fun y => { y with anchor := some (L.anchorFor c r t (vAt x 0) (vAt x 1)), noOrigin := false }
    else if !L.anyAbsolute ∧ (List.range 12).all (fun j => (L.slotSt j).anchor.isNone) then
      L.onSlot s fun y => { y with anchor := some (L.anchorFor c r t 0 0), noOrigin := false }
    else L.onSlot s fun y => { y with noOrigin := true }

/-- The quality that goes with a sample (R119): its own fields, or that of the same sensor time that has arrived. -/
def Lane.qualityOf (L : Lane) (r : RawSample) : List (Nat × Rat) :=
  let own := r.q.filter fun v => isQuality v.1
  match (L.slotSt r.slot).quality.find? fun w => decide (w.tod = r.tod) && w.tod.isSome with
  | some w => own ++ w.q
  | none => own

/-- Variances per axis before the factors of R139 (R114, R119). -/
def Lane.baseVar (L : Lane) (c : SlotChart) (r : RawSample) : List Rat :=
  let q := if c.useQuality then L.qualityOf r else []
  let s := match q.lookup 0x0F with
    | some h => c.sigma * h
    | none => c.sigma
  match kindOf r.slot with
  | .position => let a := (q.lookup 0x0C).getD s; let b := (q.lookup 0x0D).getD s; [a * a, b * b]
  | .heading => let a := (q.lookup 0x0E).getD s; [a * a]
  | .motion => [s * s, s * s, c.sigma2 * c.sigma2]
  | .wind => [s * s, s * s]

/-- A sample reduced (R122, R123). -/
def Lane.reduce (L : Lane) (c : SlotChart) (r : RawSample) (t : Rat) : Reduced :=
  let z := match kindOf r.slot with
    | .position => let p := L.reducePos c r t ((L.originOf r.slot c).getD (0, 0, 0)); [p.1, p.2]
    | .heading => [wrapDeg (r.qty 0x04)]
    | .motion => [r.qty 0x05, r.qty 0x06, r.qty 0x07]
    | .wind => [r.qty 0x09, deg360 (r.qty 0x08)]
  { slot := r.slot, time := t, z := z, var := L.baseVar c r }

/-! ### Votes -/

/-- First and count of a kind's slots (R113). -/
def kindSlots (k : RefKind) : List Nat :=
  match k with
  | .position => List.range 12
  | .heading => (List.range 8).map (12 + ·)
  | .motion => (List.range 6).map (20 + ·)
  | .wind => (List.range 4).map (26 + ·)

/-- A slot is ADMITTED or SUSPECT. -/
def Lane.inUseSlot (L : Lane) (s : Nat) : Bool := decide ((L.slotSt s).st = .admitted) || decide ((L.slotSt s).st = .suspect)

/-- An angle lies in a sector from start clockwise to end. -/
def inSector (lo hi x : Rat) : Bool :=
  let w := deg360 (hi - lo)
  decide (deg360 (x - lo) ≤ w)

/-- Direction from which the voted relative wind comes, degrees (04 R154). -/
def Lane.windDir (L : Lane) : Rat := deg360 (deg (Config.atan2 L.plt.own.windY L.plt.own.windX))

/-- A wind slot is shadowed (R135, R139). -/
def Lane.shadowed (L : Lane) (s : Nat) : Bool :=
  match (L.rc.slot s).bind SlotChart.shadow with
  | some x => inSector x.1 x.2 L.windDir
  | none => false

/-- Slots of a kind in the vote (R135): feed slots are not (04 R173). -/
def Lane.voteMembers (L : Lane) (k : RefKind) : List Nat :=
  (kindSlots k).filter fun s =>
    match L.rc.slot s, (L.slotSt s).lastValid with
    | some c, some t => L.inUseSlot s && (L.feedOf s).isNone && decide (L.now - t < c.timeout * 1000000) && !(k = .wind && L.shadowed s)
    | _, _ => false

/-- Group of a slot. -/
def Lane.groupOf (L : Lane) (s : Nat) : Nat := ((L.rc.slot s).map SlotChart.group).getD 0

/-- Groups of a list of slots. -/
def Lane.groups (L : Lane) (m : List Nat) : List Nat := (m.map L.groupOf).eraseDups

/-- A member's value as seen from the judged sample (R135 step 2): angles as differences from it. -/
def Lane.moved (L : Lane) (j m : Reduced) : Vec :=
  match kindOf j.slot with
  | .position =>
    let a := (L.predict j.time).1
    let b := (L.predict m.time).1
    [vAt m.z 0 + vAt a 0 - vAt b 0, vAt m.z 1 + vAt a 1 - vAt b 1]
  | .heading =>
    let a := (L.predict j.time).1
    let b := (L.predict m.time).1
    [wrapDeg (vAt m.z 0 + deg (wrapRad (vAt a 2 - vAt b 2)) - vAt j.z 0)]
  | .motion => m.z
  | .wind => [vAt m.z 0, wrapDeg (vAt m.z 1 - vAt j.z 1)]

/-- The judged sample's own value in the same terms. -/
def Reduced.selfVal (j : Reduced) : Vec :=
  match kindOf j.slot with
  | .heading => [0]
  | .wind => [vAt j.z 0, 0]
  | _ => j.z

/-- Whether two values lie farther apart than the limits of a slot (R135). -/
def beyond (k : RefKind) (lim lim2 : Rat) (a b : Vec) : Bool :=
  let d (i : Nat) : Rat := vAt a i - vAt b i
  let ab (x : Rat) : Rat := if x < 0 then -x else x
  match k with
  | .position => decide (lim * lim < d 0 * d 0 + d 1 * d 1)
  | .heading => decide (lim < ab (d 0))
  | .motion => decide (lim < ab (d 0)) || decide (lim < ab (d 1)) || decide (lim2 < ab (d 2))
  | .wind => decide (lim < ab (d 0)) || decide (lim2 < ab (wrapDeg (d 1)))

/-- Deviation as SLOT_INNOV.DEV shows it (R148). Of a slot of several quantities the rule does not say which it shows: here the
larger of roll and pitch for motion, speed for wind (DESIGN CHOICE, log entry 86). -/
def deviationOf (k : RefKind) (a b : Vec) : Rat :=
  let d (i : Nat) : Rat := vAt a i - vAt b i
  let ab (x : Rat) : Rat := if x < 0 then -x else x
  match k with
  | .position => Config.sqrt (d 0 * d 0 + d 1 * d 1)
  | .motion => max (ab (d 0)) (ab (d 1))
  | _ => ab (d 0)

/-- Number of axes of a kind. -/
def RefKind.axes : RefKind → Nat
  | .position => 2
  | .heading => 1
  | .motion => 3
  | .wind => 2

/-- The vote as one judged sample sees it: members' values by group, the judged sample standing in for its slot. -/
def Lane.voteVals (L : Lane) (j : Reduced) : List (Nat × Nat × Vec) :=
  (L.voteMembers (kindOf j.slot)).filterMap fun m =>
    if m = j.slot then some (L.groupOf m, m, j.selfVal)
    else (L.slotSt m).last.map fun r => (L.groupOf m, m, L.moved j r)

/-- Value of a group: component-wise median of its members (R135 step 3). -/
def groupVal (k : RefKind) (v : List (Nat × Nat × Vec)) (g : Nat) : Vec :=
  medianV k.axes ((v.filter fun x => decide (x.1 = g)).map fun x => x.2.2)

/-- Largest limits of a group's members. -/
def Lane.groupLim (L : Lane) (v : List (Nat × Nat × Vec)) (g : Nat) : Rat × Rat :=
  (v.filter fun x => decide (x.1 = g)).foldl
    (fun a x => match L.rc.slot x.2.1 with
      | some c => (max a.1 c.medianLim, max a.2 c.medianLim2)
      | none => a) (0, 0)

/-- The outcome of the median test (R135-R137). -/
structure VoteRes where
  fail : Bool := false
  dev : Option Rat := none
  /-- No majority (R136), and the slots involved. -/
  tie : List Nat := []
  /-- With exactly two groups: whether their values differ by more than the limit (R137). -/
  two : Option Bool := none
deriving DecidableEq, Repr

/-- The median test of one judged sample. -/
def Lane.medianTest (L : Lane) (c : SlotChart) (j : Reduced) : VoteRes :=
  let k := kindOf j.slot
  let v := L.voteVals j
  let gs := (v.map (·.1)).eraseDups
  let own := L.groupOf j.slot
  if gs.length = 2 then
    let a := gs.getD 0 0
    let b := gs.getD 1 0
    let la := L.groupLim v a
    let lb := L.groupLim v b
    { two := some (beyond k (max la.1 lb.1) (max la.2 lb.2) (groupVal k v a) (groupVal k v b)) }
  else if gs.length < 3 then {}
  else
    let all := if gs.contains own then gs else gs ++ [own]
    let val (g : Nat) : Vec := if g = own then j.selfVal else groupVal k v g
    let med := medianV k.axes (all.map val)
    let gv (g : Nat) : Vec := groupVal k v g
    let medG := medianV k.axes (gs.map gv)
    let tie := decide (gs.length % 2 = 0) && gs.all fun g => let l := L.groupLim v g; beyond k l.1 l.2 (gv g) medG
    let members := (v.filter fun x => decide (x.1 = own)).length
    let f := beyond k c.medianLim c.medianLim2 j.selfVal med
      || (decide (3 ≤ members) && beyond k c.medianLim c.medianLim2 j.selfVal (gv own))
    { fail := f && !tie, dev := some (deviationOf k j.selfVal med), tie := if tie then v.map (·.2.1) else [] }

/-- The evaluation's disagreement is taken into the lane (R136, R137): of position and heading, the kinds that have flags for it; the
rule does not say whether it and its factor hold for motion and wind (DESIGN CHOICE, log entry 86). -/
def Lane.voteNote (L : Lane) (k : RefKind) (r : VoteRes) : Lane :=
  if k ≠ .position ∧ k ≠ .heading then L
  else
    let isPos := decide (k = .position)
    let was := if isPos then L.ntk.pos136 else L.ntk.hdg136
    let now := decide (r.tie ≠ [])
    let L := (kindSlots k).foldl (fun L s => L.onSlot s fun x => { x with dis136 := r.tie.contains s }) L
    let L := L.onNtk fun n => if isPos then { n with pos136 := now } else { n with hdg136 := now }
    let L := L.findIf (now && !was) 0x08 4
    let upd (t : TwoGroup) : TwoGroup :=
      match r.two with
      | some b => { t with run := if b = t.on then 0 else t.run + 1 }
      | none => {}
    let L := if r.two.isNone then (kindSlots k).foldl (fun L s => L.onSlot s fun x => { x with dis137 := false }) L else L
    L.onNtk fun n => if isPos then { n with pos2 := upd n.pos2 } else { n with hdg2 := upd n.hdg2 }

/-- REF_DISAGREE (R137): 5 consecutive evaluations beyond the limit set the disagreement, 5 within it clear it. -/
def Lane.refDisagree (L : Lane) (heading : Bool) : Lane :=
  let k := if heading then RefKind.heading else RefKind.position
  let t := if heading then L.ntk.hdg2 else L.ntk.pos2
  if t.run < 5 then L
  else
    let on := !t.on
    let mem := L.voteMembers k
    let L := (kindSlots k).foldl (fun L s => L.onSlot s fun x => { x with dis137 := on && mem.contains s }) L
    let L := L.onNtk fun n => if heading then { n with hdg2 := ⟨on, 0⟩ } else { n with pos2 := ⟨on, 0⟩ }
    let L := if heading then L.setb Reg.INT_STAT_HDG_DISAGREE (on || L.ntk.hdg136) else L.setb Reg.INT_STAT_POS_DISAGREE (on || L.ntk.pos136)
    L.findIf on 0x08 4

/-- REF_DISAGREE (R137). -/
def execRefDisagree (l : LaneId) (heading : Bool) (s : State) : Out := onLane l (fun L => L.refDisagree heading) s

/-! ### Weights and states -/

/-- Number of members of a slot's group that are ADMITTED or SUSPECT (R139). -/
def Lane.groupCount (L : Lane) (s : Nat) : Nat :=
  ((kindSlots (kindOf s)).filter fun m => (L.rc.slot m).isSome && (L.feedOf m).isNone && L.inUseSlot m && decide (L.groupOf m = L.groupOf s)).length

/-- Factors f_t and f_d (R139). -/
def Lane.judgeFactor (L : Lane) (s : Nat) : Rat :=
  let x := L.slotSt s
  (if x.tm.degraded then L.rc.tdegFactor else 1) * (if x.dis137 then 4 else 1)

/-- All factors of R139; a feed slot carries no vote and so no group. -/
def Lane.weightFactor (L : Lane) (s : Nat) : Rat :=
  let n : Rat := if (L.feedOf s).isSome then 1 else (max 1 (L.groupCount s) : Nat)
  n * L.judgeFactor s * (L.slotSt s).ramp

/-- 1/v of one axis of an ADMITTED slot (R139; 04 R156 weights heave by its own variance). -/
def Lane.inverseVarOf (L : Lane) (axis s : Nat) : Rat :=
  match (L.slotSt s).last with
  | some r => if (L.slotSt s).st = .admitted ∧ !L.shadowed s ∧ vAt r.var axis ≠ 0 then 1 / (vAt r.var axis * L.weightFactor s) else 0
  | none => 0

/-- Share 1/v of an ADMITTED slot, for SLOT_STAT.WEIGHT (R139). The rule does not say which variance of a sample of several axes it
takes: here the first axis' (DESIGN CHOICE, log entry 86). -/
def Lane.inverseVar (L : Lane) (s : Nat) : Rat := L.inverseVarOf 0 s

/-- SLOT_STAT.WEIGHT: to the nearest 1/255 (R139). -/
def Lane.weightOf (L : Lane) (s : Nat) : Nat :=
  let sum := ((kindSlots (kindOf s)).filter fun m => (L.feedOf m).isNone).map L.inverseVar |>.sum
  if sum = 0 ∨ (L.feedOf s).isSome then 0 else (L.inverseVar s / sum * 255 + 1 / 2).floor.toNat

/-- A slot enters ADMITTED at time `t` (R133): weight ramp, REF_ADMITTED, bias reset (04 R159). -/
def Lane.admitSlot (L : Lane) (s : Nat) (t : Rat) : Lane :=
  let L := L.onSlot s fun x => { x with st := .admitted, ramp := 100, rampTicks := 0, fails := 0, acc := 0, passes := 0 }
  let L := L.find 0x08 1
  if L.ownSlot s then
    let sg := slotSigma s ((L.rc.slot s).getD default)
    L.filterAct { s := { slot := s, time := t, z := [], var := [] }, var := [], act := .biasReset sg }
  else L

/-- Any other slot of the kind is ADMITTED. -/
def Lane.otherAdmitted (L : Lane) (s : Nat) : Bool :=
  (kindSlots (kindOf s)).any fun m => decide (m ≠ s) && (L.feedOf m).isNone && decide ((L.slotSt m).st = .admitted)

/-- The admission time has been reached (R138, 04 R173): in samples, or in ns. -/
def Lane.admissionDone (L : Lane) (s : Nat) : Bool :=
  match L.rc.slot s with
  | none => false
  | some c =>
    let x := L.slotSt s
    let full := decide ((c.admitTime : Rat) * 1000000000 ≤ x.acc) && decide (0 < x.passes)
    match L.feedOf s with
    | some k =>
      let t := L.plt.tracks.getD k {}
      if t.st = 1 ∨ t.st = 4 then decide (3 ≤ x.passes) else full
    | none =>
      let own := decide (s < 20)
      if (own ∧ L.plt.own.st = 0) ∨ (!own ∧ !L.otherAdmitted s) then decide (3 ≤ x.passes)
      else if !L.otherAdmitted s then decide ((L.rc.shortAdmit : Rat) * 1000000000 ≤ x.acc) && decide (0 < x.passes)
      else full

/-- REF_ADMITTED (R133): a slot that has completed its admission time. -/
def Lane.refAdmitted (L : Lane) (s : Nat) (t : Rat) : Lane :=
  let st := (L.slotSt s).st
  if (st = .admitting ∨ st = .rejected) ∧ L.admissionDone s then L.admitSlot s t else L

/-- REF_ADMITTED (R133). -/
def execRefAdmitted (l : LaneId) (n : Nat) (s : State) : Out := onLane l (fun L => L.refAdmitted n L.plt.own.xTime) s

/-- REF_REJECTED (R133): REJECT_CNT consecutive failures. -/
def Lane.refRejected (L : Lane) (s : Nat) : Lane :=
  match L.rc.slot s with
  | some c =>
    if (L.slotSt s).st = .suspect ∧ c.rejectCnt ≤ (L.slotSt s).fails then
      (L.onSlot s fun x => { x with st := .rejected, acc := 0, passes := 0 }).find 0x08 0
    else L
  | none => L

/-- REF_REJECTED (R133). -/
def execRefRejected (l : LaneId) (n : Nat) (s : State) : Out := onLane l (fun L => L.refRejected n) s

/-- SLOT_TIMEOUT (R133): no valid sample for TIMEOUT. -/
def Lane.slotTimeout (L : Lane) (s : Nat) : Lane :=
  match L.rc.slot s with
  | some c =>
    let x := L.slotSt s
    let gone : Bool := match x.lastValid with
      | some t => decide ((c.timeout : Rat) * 1000000 ≤ L.now - t)
      | none => true
    if gone ∧ (x.st = .admitted ∨ x.st = .suspect ∨ x.st = .admitting) then
      L.onSlot s fun x => { x with st := .waiting, acc := 0, passes := 0, fails := 0 }
    else L
  | none => L

/-- SLOT_TIMEOUT (R133). -/
def execSlotTimeout (l : LaneId) (n : Nat) (s : State) : Out := onLane l (fun L => L.slotTimeout n) s

/-- QUALITY_EXPIRY (R119): quality that has waited 1000 ms. -/
def execQualityExpiry (l : LaneId) (n : Nat) (s : State) : Out :=
  onLane l (fun L => L.onSlot n fun x => { x with quality := x.quality.filter fun w => decide (L.now - w.arrival < 1000000000) }) s

/-- WEIGHT_RAMP_STEP (R139): at every 1000th tick after admission. -/
def Lane.rampStep (L : Lane) (s : Nat) : Lane :=
  let x := L.slotSt s
  if 1000 ≤ x.rampTicks ∧ x.ramp ≠ 1 then
    let r := x.ramp / 2
    L.onSlot s fun x => { x with ramp := if r < 3 / 2 then 1 else r, rampTicks := x.rampTicks - 1000 }
  else L

/-- WEIGHT_RAMP_STEP (R139). -/
def execWeightRampStep (l : LaneId) (n : Nat) (s : State) : Out := onLane l (fun L => L.rampStep n) s

/-- A judged sample measured at `t` changes its slot's state (R133): `ok` whether it passed R134 and R135; `short`: it ends a dropout
no longer than the short dropout time. -/
def Lane.slotResult (L : Lane) (s : Nat) (ok short : Bool) (t : Rat) : Lane :=
  match (L.slotSt s).st with
  | .waiting =>
    if short && ok then L.admitSlot s t
    else L.onSlot s fun x => { x with st := .admitting, acc := 0, passes := if ok then 1 else 0, fails := 0 }
  | .admitting | .rejected =>
    if ok then (L.onSlot s fun x => { x with passes := x.passes + 1 }).refAdmitted s t
    else L.onSlot s fun x => { x with passes := 0, acc := 0 }
  | .admitted => if ok then L else L.onSlot s fun x => { x with st := .suspect, fails := 1 }
  | .suspect =>
    if ok then L.admitSlot s t
    else (L.onSlot s fun x => { x with fails := x.fails + 1 }).refRejected s
  | .unused | .deselected => L

/-- The registers of page 0x09 for a judged sample (R148). -/
def Lane.showTest (L : Lane) (s : Nat) (nis : Option Rat) (dev : Option Rat) (gateFail medFail : Bool) : Lane :=
  let L := match nis with
    | some x => L.set (Reg.SLOT_INNOV_NIS s) (min 0xFFFE (codeOf x (1 / 16)).toNat)
    | none => L.set (Reg.SLOT_INNOV_NIS s) 0xFFFF
  let L := match dev with
    | some x => L.set (Reg.SLOT_INNOV_DEV s) (min 0xFFFE (codeOf x (1 / 100)).toNat)
    | none => L.set (Reg.SLOT_INNOV_DEV s) 0xFFFF
  let L := if gateFail then L.incSat (Reg.SLOT_CNT_GATE_FAIL s) else L
  if medFail then L.incSat (Reg.SLOT_CNT_MED_FAIL s) else L

/-- The innovation gate of position and heading (R134): normalised squared innovation, and whether it passes. -/
def Lane.gateTest (L : Lane) (c : SlotChart) (j : Reduced) : Rat × Bool :=
  let s := j.slot
  let x := L.predict j.time
  let bias := L.inUseSlot s
  let h := measH s bias
  let nu := innov s bias j.si x.1
  let f := L.judgeFactor s
  let r := (siVar s j.var).map (f * ·)
  let k := r.length
  let sm := mAdd (mMul (mMul h x.2) (mT h)) (mTab k k fun i j => if i = j then vAt r i else 0)
  match mInv sm with
  | none => (0, false)
  | some si =>
    let nis := vDot nu (mVec si nu)
    let jump := if s < 12 then c.jump else rad c.jump
    (nis, decide (nis ≤ c.gate) && decide (vDot nu nu ≤ jump * jump))

/-- The range tests of motion and wind (R134). -/
def Lane.rangeTest (L : Lane) (j : Reduced) : Bool :=
  let ab (x : Rat) : Rat := if x < 0 then -x else x
  match kindOf j.slot with
  | .motion => decide (ab (vAt j.z 0) ≤ 45) && decide (ab (vAt j.z 1) ≤ 30) && decide (ab (vAt j.z 2) ≤ 20)
  | .wind =>
    let v := vAt j.z 0
    let jump := match (L.slotSt j.slot).last with
      | some p => decide (ab (v - vAt p.z 0) ≤ 15 * (j.time - p.time) / 1000000000)
      | none => true
    decide (0 ≤ v) && decide (v ≤ 75) && jump
  | _ => true

/-- A valid sample arrives at its slot (R132, R133): whether it ends a short dropout. -/
def Lane.arrive (L : Lane) (s : Nat) : Lane × Bool :=
  let short := match (L.slotSt s).lastValid with
    | some t => decide (L.now - t ≤ (L.rc.shortDropout : Rat) * 1000000000)
    | none => false
  (L.onSlot s fun x => { x with lastValid := some L.now }, short)

/-- A sample seeds the state (04 R162). -/
def Lane.seeds (L : Lane) (j : Reduced) : Bool :=
  let q := L.plt.own
  let k := kindOf j.slot
  let adm := (kindSlots k).any fun s => L.ownSlot s && decide ((L.slotSt s).st = .admitted)
  let by_ := if k = .position then q.seedPos else q.seedHdg
  decide (j.slot < 20) && decide (q.st = 0) && q.begun && !adm && (by_.isNone || decide (by_ = some j.slot))

/-- Seeding in INIT (04 R162). -/
def Lane.seed (L : Lane) (j : Reduced) : Lane :=
  let L := L.onOwn fun q => if j.slot < 12 then { q with seedPos := some j.slot } else { q with seedHdg := some j.slot }
  L.filterAct { s := j, var := [], act := .seed }

/-- State elements that no update changes: the environment estimate in PREDICTING and LOST, the biases of slots outside ADMITTED (04
R159, R164). -/
def Lane.fixedIdx (L : Lane) : List Nat :=
  let held := (List.range 20).filter fun s => !(L.ownSlot s && decide ((L.slotSt s).st = .admitted))
  (if 2 ≤ L.plt.own.st then [7, 8, 9] else []) ++ held.flatMap fun s => (List.range (biasLen s)).map (biasIdx s + ·)

/-- Judgement of one own-vessel position or heading sample, or of a motion or wind sample (R133-R139), and its use (04 R157,
R158); `att`: the roll and pitch that a Sextant attitude carries (R116). -/
def Lane.judgeOwn (L : Lane) (c : SlotChart) (j : Reduced) (att : Rat × Rat) (short : Bool) : Lane :=
  let s := j.slot
  let own := decide (s < 20)
  let seeds := L.seeds j
  let L := if seeds then L.seed j else L
  let g := if seeds then (0, true) else if own then L.gateTest c j else (0, L.rangeTest j)
  let v := L.medianTest c j
  let ok := g.2 && !v.fail
  let L := L.voteNote (kindOf s) v
  let L := L.showTest s (if own then some g.1 else none) v.dev (!g.2) v.fail
  let L := if own ∧ !ok then L.onNtk fun k => { k with failed := true } else L
  let L := L.slotResult s ok short j.time
  let L := L.onSlot s fun x => { x with last := some j }
  let L := if ok ∧ (L.slotSt s).st = .admitted ∧ c.source = 2 then L.onOwn fun q => { q with sxAtt := some att } else L
  if own ∧ ok ∧ (L.slotSt s).st = .admitted then
    let f := L.weightFactor s
    let jd : Judged := { s := j, var := j.var.map (f * ·), fixed := L.fixedIdx }
    if L.plt.own.cur.time ≤ j.time then L.liveUpdate jd else L.lateSample jd
  else L

/-- A sample of a DESELECTED slot (R134, R141): it is put to the gate and changes nothing else. -/
def Lane.judgeDeselected (L : Lane) (c : SlotChart) (j : Reduced) : Lane :=
  let s := j.slot
  let own := decide (s < 20)
  let g := if own then L.gateTest c j else (0, L.rangeTest j)
  let L := L.showTest s (if own then some g.1 else none) none (!g.2) false
  let L := if own ∧ !g.2 then L.onNtk fun k => { k with failed := true } else L
  L.onSlot s fun x => { x with last := some j }

/-! ### Commands of page 0x08 -/

/-- A slot's bits of INT_DESELECT take effect (R133, R141). -/
def Lane.applyDeselect (L : Lane) : Lane :=
  let one (s : Nat) (L : Lane) : Lane :=
    if (L.rc.slot s).isNone then L
    else if L.bit Reg.INT_DESELECT_MASK s then
      L.onSlot s fun x => { x with st := .deselected, acc := 0, passes := 0, fails := 0 }
    else if (L.slotSt s).st = .deselected then L.onSlot s fun x => { x with st := .admitting, acc := 0, passes := 0, fails := 0 }
    else L
  forUpTo 30 one L

/-- INT_DESELECT_WRITE (R141, R146): bits of unconfigured slots are ignored. -/
def Lane.deselectWrite (L : Lane) (mask : Nat) : Lane :=
  let m := (List.range 30).foldl (fun m s => if testBit mask s ∧ (L.rc.slot s).isSome then m + 2 ^ s else m) 0
  ((L.set Reg.INT_DESELECT_MASK m).onNtk fun k => { k with desWritten := true }).applyDeselect

/-- INT_DESELECT_WRITE (R141). -/
def execIntDeselectWrite (l : LaneId) (mask : Nat) (s : State) : Out := onLane l (fun L => L.deselectWrite mask) s

/-- INT_CMD notes its fields and its result (R146). -/
def Lane.intCmd (L : Lane) (cmd slot result : Nat) : Lane :=
  L.setAll [(Reg.INT_CMD_CMD, cmd), (Reg.INT_CMD_SLOT, slot), (Reg.INT_CMD_RESULT, result)]

/-- CLEAR_COUNTS (R146). -/
def Lane.clearCounts (L : Lane) (s : Nat) : Lane :=
  if (L.rc.slot s).isNone then L.intCmd 1 s 1 else (L.set (Reg.SLOT_CNT_w s) 0).intCmd 1 s 0

/-- CLEAR_COUNTS (R146). -/
def execClearCounts (l : LaneId) (n : Nat) (s : State) : Out := onLane l (fun L => L.clearCounts n) s

/-- RESTART_TIME_MODEL (R127, R146). -/
def Lane.restartModel (L : Lane) (s : Nat) : Lane :=
  match L.rc.slot s with
  | none => L.intCmd 2 s 1
  | some c =>
    if c.mode = .sensor then
      let L := L.onSlot s fun x => { x with tm := {} }
      ((L.setBit Reg.INT_TDEG_MASK s false).setb (Reg.SLOT_STAT_TIME_DEGRADED s) false).intCmd 2 s 0
    else L.intCmd 2 s 2

/-- RESTART_TIME_MODEL (R127). -/
def execRestartTimeModel (l : LaneId) (n : Nat) (s : State) : Out := onLane l (fun L => L.restartModel n) s

/-- RE_ANCHOR (R124, R146): accepted in WAITING, REJECTED or DESELECTED of a relative reference with UNSURVEYED origin; the
anchor is taken anew when the slot next enters admission. -/
def Lane.reAnchor (L : Lane) (s : Nat) : Lane :=
  match L.rc.slot s with
  | none => L.intCmd 3 s 1
  | some c =>
    let st := (L.slotSt s).st
    if (st = .waiting ∨ st = .rejected ∨ st = .deselected) ∧ c.form ≠ .absolute ∧ c.origin = none ∧ s < 12 then
      (L.onSlot s fun x => { x with anchor := none, acc := 0, passes := 0 }).intCmd 3 s 0
    else L.intCmd 3 s 2

/-- RE_ANCHOR (R124). -/
def execReAnchor (l : LaneId) (n : Nat) (s : State) : Out := onLane l (fun L => L.reAnchor n) s

/-- A write of INT_DESELECT or a command of INT_CMD acts (R141, R146). -/
def Lane.intAct (L : Lane) (op : IntOp) : Lane :=
  match op with
  | .deselect m => L.deselectWrite m
  | .cmd c n => if c = 1 then L.clearCounts n else if c = 2 then L.restartModel n else if c = 3 then L.reAnchor n else L.intCmd c n 3

/-- Such a write at its commit point: it has acted where it acted before the tick's samples (R141). -/
def Lane.intOnce (L : Lane) (op : IntOp) : Lane :=
  if L.ntk.ops.contains op then L.onNtk fun k => { k with ops := k.ops.erase op } else L.intAct op

/-- Such writes of a tick act before its samples are judged (R141). -/
def Lane.intEarly (L : Lane) (l : List IntOp) : Lane := (l.foldl Lane.intAct L).onNtk fun k => { k with ops := l }

/-- INT STAT and the slot masks (R145, R146). -/
def Lane.intShow (L : Lane) : Lane :=
  let mask (p : Nat → Bool) : Nat := (List.range 30).foldl (fun m s => if p s then m + 2 ^ s else m) 0
  let grp (k : RefKind) : Nat := (L.groups (L.voteMembers k)).length
  let gp := grp .position
  let gh := grp .heading
  let deg (s : Nat) : Bool := decide ((L.rc.slot s).map SlotChart.mode = some .sensor) && (L.slotSt s).tm.degraded
  let L := L.setAll [(Reg.INT_ADMITTED_MASK, mask L.inUseSlot), (Reg.INT_REJECTED_MASK, mask fun s => decide ((L.slotSt s).st = .rejected)),
    (Reg.INT_TDEG_MASK, mask deg),
    (Reg.INT_GROUPS_POS, gp), (Reg.INT_GROUPS_HDG, gh), (Reg.INT_GROUPS_MRU, grp .motion), (Reg.INT_GROUPS_WIND, grp .wind)]
  let L := (L.setb Reg.INT_STAT_POS_SINGLE (decide (gp = 1))).setb Reg.INT_STAT_HDG_SINGLE (decide (gh = 1))
  let L := (L.setb Reg.INT_STAT_POS_DISAGREE (L.ntk.pos136 || L.ntk.pos2.on)).setb Reg.INT_STAT_HDG_DISAGREE (L.ntk.hdg136 || L.ntk.hdg2.on)
  let L := (L.setb Reg.INT_STAT_CHRON_INVALID (!L.timeValid)).setb Reg.INT_STAT_ATT_MISSING L.plt.own.attMissing
  let one (s : Nat) (L : Lane) : Lane :=
    match L.rc.slot s with
    | none => (L.set (Reg.SLOT_TOFS_OFS s) 0).set (Reg.SLOT_TRATE_RATE s) 0
    | some c =>
      let x := L.slotSt s
      let L := L.setAll [(Reg.SLOT_STAT_STATE s, x.st.code), (Reg.SLOT_STAT_KIND s, (kindOf s).code), (Reg.SLOT_STAT_SOURCE s, c.source),
        (Reg.SLOT_STAT_GROUP s, c.group), (Reg.SLOT_STAT_TIME_MODE s, c.mode.code), (Reg.SLOT_STAT_WEIGHT s, L.weightOf s)]
      let L := (L.setb (Reg.SLOT_STAT_DISAGREE s) (x.dis136 || x.dis137)).setb (Reg.SLOT_STAT_RAMP s) (decide (x.ramp ≠ 1) && decide (x.st = .admitted))
      let L := (L.setb (Reg.SLOT_STAT_SENSOR_INVALID s) x.sensorInvalid).setb (Reg.SLOT_STAT_NO_ORIGIN s) x.noOrigin
      let L := (L.setb (Reg.SLOT_STAT_LEARNING s) (decide (c.mode = .sensor) && x.tm.learning)).setb (Reg.SLOT_STAT_TIME_DEGRADED s) (deg s)
      let L := if c.mode = .sensor then
          (L.setiScaled (Reg.SLOT_TOFS_OFS s) x.tm.ofs 1000).setiScaled (Reg.SLOT_TRATE_RATE s) x.tm.rate (1 / 1000000000)
        else (L.set (Reg.SLOT_TOFS_OFS s) 0).set (Reg.SLOT_TRATE_RATE s) 0
      let showAcc := decide (x.st = .admitting) || decide (x.st = .rejected)
      L.setScaled (Reg.SLOT_AGE_ADMIT s) (if showAcc then x.acc else 0) 100000000
  forUpTo 30 one L

/-- SLOT_AGE.AGE at a position-cycle tick (R148). -/
def Lane.intAges (L : Lane) : Lane :=
  let one (s : Nat) (L : Lane) : Lane :=
    match (L.slotSt s).lastMeas with
    | some t => L.setScaled (Reg.SLOT_AGE_AGE s) (L.now - t) 1000000
    | none => L.set (Reg.SLOT_AGE_AGE s) 0xFFFF
  forUpTo 30 one L

/-- The conditions of R140 on a position-cycle tick; REFS_LOST on the first tick on which one becomes true. -/
def Lane.refLossEval (L : Lane) : Lane :=
  let use (k : RefKind) : Bool := (kindSlots k).any fun s => (L.rc.slot s).isSome && (L.feedOf s).isNone && L.inUseSlot s
  let rl := !use .position
  let hl := !use .heading
  let new := (rl && !L.ntk.refLoss) || (hl && !L.ntk.hdgLoss)
  let L := L.onNtk fun k => { k with refLoss := rl, hdgLoss := hl }
  L.findIf new 0x08 5

/-- The slots at a lane start, and when a reference section becomes current (R114, R132, R141): changed entries start anew;
an override of the deselect mask stands. -/
def Lane.intakeChart (L : Lane) (old : RefChart) (start : Bool) : Lane :=
  let L := if L.ntk.desWritten ∧ !start then L else L.set Reg.INT_DESELECT_MASK L.rc.deselect
  let one (s : Nat) (L : Lane) : Lane :=
    match L.rc.slot s with
    | none => ([Reg.SLOT_STAT_w s, Reg.SLOT_INNOV_w s, Reg.SLOT_CNT_w s, Reg.SLOT_AGE_w s].foldl (fun L f => L.setWord f.addr (resetWord f.addr))
        (L.onSlot s fun _ => {})).biasNone s
    | some _ =>
      let L := if (L.feedOf s).isSome then L.biasNone s else L
      if start ∨ L.rc.slot s ≠ old.slot s then L.onSlot s fun _ => { st := .waiting } else L
  ((forUpTo 30 one L).applyDeselect).intShow

end Sys2Proof.Machine
end

