-- ==== Sys2Proof/Machine/Logbook.lean ====
section
/-! DEFINITION. The Logbook (14_logbook): acceptance, drain, cross copies, the read window, log memory failures, notes. -/

namespace Sys2Proof.Machine

open Sys2Proof

/-- Capacity of the queue in bytes: 256 KiB of SRAM, and 16 MiB of staging outside SRAM-only recording (R526, R534). -/
def Lane.logCap (L : Lane) : Nat :=
  if L.flag Reg.LOG_STAT_SRAM_ONLY then 262144 else 262144 + 16777216

/-- Bytes queued. -/
def LogSt.queued (g : LogSt) : Nat := (g.queue.map LogRec.bytes).sum

/-- Header bytes of a record (R521). -/
def LogRec.header (r : LogRec) : List Nat :=
  leBytes 2 (r.bytes / 4 + r.sev * 2 ^ 9 + (if r.lane = .b then 2 ^ 12 else 0) + (if r.cross then 2 ^ 13 else 0)
    + (if r.timeValid then 2 ^ 14 else 0) + (if r.kind then 2 ^ 15 else 0))
  ++ [r.code % 256] ++ leBytes 4 r.seq ++ leBytes 5 r.sec ++ leBytes 4 r.ns

/-- All bytes of a record, padded to a multiple of 4 (R521). -/
def LogRec.allBytes (r : LogRec) : List Nat :=
  let b := r.header ++ r.payload
  b ++ List.replicate (r.bytes - b.length) 0

/-- Level below which records are not recorded (R528, R529): the register once a Chart is loaded or a write was made,
else the default. -/
def Lane.logLevel (L : Lane) : Nat :=
  if L.chart.ok || L.log.levelWritten then L.get Reg.LOG_LEVEL_LEVEL else 1

/-- The Logbook section in force (R529). -/
def Lane.logChart (L : Lane) : LogChart := if L.chart.ok then L.chart.now.log else {}

/-- Records of an event number made in the current second (R528). -/
def LogSt.rateOf (g : LogSt) (sec code : Nat) : Nat :=
  if g.rateSec = sec then (g.rate.lookup code).getD 0 else 0

/-- The filters on a lane's own records (R528): `none` accepts, else the drop's cause. -/
inductive DropCause where
  | level
  | rate
  | throttle
  | queue
  | full
deriving DecidableEq, Repr

/-- Applies LEVEL, RATE and THROTTLE to an own record (R528). -/
def Lane.logFilter (L : Lane) (r : LogRec) : Option DropCause :=
  if 6 ≤ r.sev then none
  else if r.sev < L.logLevel then some .level
  else if r.kind = false ∧ 16 ≤ L.log.rateOf (secOf L.now) r.code then some .rate
  else if r.sev = 0 ∧ L.get Reg.THERM_STATE_LEVEL = 2 then some .throttle
  else none

/-- Counts a drop and raises LOG_DROPPED, unless the record dropped is LOG_DROPPED's own (R528). -/
def Lane.logDrop (L : Lane) (c : DropCause) (r : LogRec) : Lane :=
  let L := match c with
    | .level => L
    | .rate => (L.onLog fun g => { g with dropRate := g.dropRate + 1 }).incSat Reg.LOG_DROP_RATE
    | .throttle => (L.onLog fun g => { g with dropThrottle := g.dropThrottle + 1 }).incSat Reg.LOG_DROP_THROTTLE
    | .queue => (L.onLog fun g => { g with dropQueue := g.dropQueue + 1 }).incSat Reg.LOG_DROP_QUEUE
    | .full => (L.onLog fun g => { g with dropFull := g.dropFull + 1 }).incSat Reg.LOG_DROP_FULL
  L.findIf (decide (c ≠ .level) && !(decide (r.kind = false) && decide (r.code = 0xF4))) 0x5C 4

/-- Drops the oldest queued record of a severity at most `sev`; answers what is left and the record given up. -/
def giveUp (sev : Nat) : List LogRec → Option (LogRec × List LogRec)
  | [] => none
  | q :: r =>
    if q.sev ≤ sev then some (q, r)
    else match giveUp sev r with
      | some (d, r') => some (d, q :: r')
      | none => none

/-- Makes room for `need` bytes in the queue by giving up records of severity at most `sev` (R528 QUEUE, R534): `fuel` bounds the
records given up. -/
def Lane.logRoom (L : Lane) (sev need : Nat) : Nat → Option Lane
  | 0 => if L.log.queued + need ≤ L.logCap then some L else none
  | fuel + 1 =>
    if L.log.queued + need ≤ L.logCap then some L
    else match giveUp sev L.log.queue with
      | none => none
      | some (d, q) =>
        let L := (L.onLog fun g => { g with queue := q })
        let L := if L.flag Reg.LOG_STAT_SRAM_ONLY then L.incSat Reg.LOG_OVERWRITE_COUNT else L.logDrop .queue d
        L.logRoom sev need fuel

/-- A cross-link passes frames (01 R55). -/
def Lane.linkUp (L : Lane) : Bool := L.flag Reg.LANE_STAT_XL0_UP || L.flag Reg.LANE_STAT_XL1_UP

/-- Sends a cross copy, or holds it while both links are down, at most 64 (R526). -/
def Lane.crossCopy (L : Lane) (r : LogRec) : Lane :=
  if L.linkUp then (L.onLog fun g => { g with crossWire := g.crossWire ++ [r] }).incWrap Reg.LOG_CNT_CROSS_TX
  else
    let h := L.log.crossHeld ++ [r]
    if 64 < h.length then (L.onLog fun g => { g with crossHeld := h.tail }).incSat Reg.LOG_CNT_CROSS_LOST
    else (L.onLog fun g => { g with crossHeld := h })

/-- Counts an event record of an event number in a second (R528). -/
def LogSt.countRate (g : LogSt) (sec code : Nat) : LogSt :=
  let base := if g.rateSec = sec then g.rate else []
  { g with rate := putAssoc code ((base.lookup code).getD 0 + 1) base, rateSec := sec }

/-- Puts a record in the queue with its SEQ, counts it, sends its cross copy (R523, R526). -/
def Lane.enqueue (L : Lane) (r : LogRec) (own : Bool) : Lane :=
  let g := L.log
  let r := { r with seq := g.nextSeq }
  let g := { g with nextSeq := (g.nextSeq + 1) % 2 ^ 32, queue := g.queue ++ [r] }
  let L := L.onLog fun _ => if r.kind || !own then g else g.countRate (secOf L.now) r.code
  let now := (L.log.queued + 1023) / 1024
  let L := if L.get Reg.LOG_QUEUE_PEAK < now then L.setSat Reg.LOG_QUEUE_PEAK now else L
  let hi := decide (3 * L.logCap < 4 * L.log.queued)
  let L := (L.findIf (hi && !L.log.high) 0x5C 5)
  let L := if hi then (L.onLog fun g => { g with high := true }) else L
  let c := L.logChart
  if own && (decide (c.crossLevel ≤ r.sev) || (r.kind && decide (r.code = 0x0B))) then L.crossCopy r else L

/-- A DROP_SUMMARY is due before the next record accepted (R528). -/
def Lane.summaryDue (L : Lane) : Bool :=
  let g := L.log
  decide (0 < g.dropRate + g.dropThrottle + g.dropQueue + g.dropFull) &&
  match g.lastSummary with
  | none => true
  | some t => decide ((t : Rat) + 1000000000 < L.now)

/-- A record of this lane made now (R521). -/
def Lane.mkRec (L : Lane) (sev : Nat) (kind : Bool) (code : Nat) (payload : List Nat) : LogRec :=
  ⟨sev, L.id, false, L.timeValid, kind, code, 0, secOf L.now, nsOf L.now, payload⟩

/-- Writes a DROP_SUMMARY (R528, R633). -/
def Lane.dropSummary (L : Lane) : Lane :=
  let g := L.log
  let r := L.mkRec 3 true 0x0D
    (leBytes 4 g.dropRate ++ leBytes 4 g.dropThrottle ++ leBytes 4 g.dropQueue ++ leBytes 4 g.dropFull)
  let g := { g with dropRate := 0, dropThrottle := 0, dropQueue := 0, dropFull := 0 }
  let t := L.now.floor
  let L := L.onLog fun _ => { g with lastSummary := some t }
  L.enqueue r true

/-- The DROP_SUMMARY that precedes an accepted record (R528): a record of severity 3, which LOG_LEVEL filters like any other and which
needs 32 bytes of room beside the record's. -/
def Lane.summaryFirst (L : Lane) (r : LogRec) : Lane :=
  if L.summaryDue && decide (L.logLevel ≤ 3) then
    match L.logRoom (min 3 r.sev) (r.bytes + 32) L.log.queue.length with
    | some L => L.dropSummary
    | none => L
  else L

/-- A record is posted, filtered and accepted into the queue with its SEQ (R526, R528). -/
def Lane.accept (L : Lane) (r : LogRec) (own : Bool) : Lane :=
  match (if own then L.logFilter r else none) with
  | some c => L.logDrop c r
  | none =>
    match L.logRoom r.sev r.bytes L.log.queue.length with
    | none => L.logDrop (if L.flag Reg.LOG_STAT_SRAM_ONLY then .full else .queue) r
    | some L => (L.summaryFirst r).enqueue r own

/-- Posts a record of kind CODE of R524, stamped now. -/
def Lane.post (L : Lane) (sev code : Nat) (payload : List Nat) : Lane := L.accept (L.mkRec sev true code payload) true

/-! ### The store -/

/-- Blocks of the record store (R525). -/
def logBlocks : Nat := 8184

/-- The lowest block number not listed, if any (R525: a FREE block). -/
def LogSt.freeBlock (g : LogSt) : Option Nat :=
  if logBlocks ≤ g.blocks.length then none
  else (List.range (g.blocks.length + 1)).find? fun n => !(g.blocks.any fun b => b.num = n)

/-- Generation number of a block. -/
def LogSt.genOf (g : LogSt) (n : Nat) : Nat := (g.gens.lookup n).getD 0

/-- Age of a sequence number: how far it lies before the next one (R523). -/
def LogSt.age (g : LogSt) (seq : Nat) : Nat := (g.nextSeq + 2 ^ 32 - seq) % 2 ^ 32

/-- The block to reclaim for a record of this severity (R527): OPEN or CLOSED, of equal or lower severity, oldest first SEQ. -/
def LogSt.victim (g : LogSt) (sev : Nat) : Option LogBlock :=
  (g.blocks.filter fun b => decide (b.st ≠ .retired) && decide (b.sev ≤ sev)).foldl
    (fun best b => match best with
      | none => some b
      | some c => if g.age c.firstSeq < g.age b.firstSeq then some b else some c) none

/-- Replaces a block in the list. -/
def putBlock (b : LogBlock) : List LogBlock → List LogBlock
  | [] => [b]
  | c :: r => if c.num = b.num then b :: r else c :: putBlock b r

/-- The drain's outcome for one record: the lane with the record placed, overwriting, or dropped as FULL (R527). -/
def Lane.place (L : Lane) (r : LogRec) : Lane :=
  let g := L.log
  match g.blocks.find? fun b => decide (b.st = .isOpen) && decide (b.sev = r.sev) && decide (b.used + r.bytes ≤ 4080) with
  | some b => (L.onLog fun g => { g with blocks := putBlock { b with recs := b.recs ++ [r] } g.blocks })
  | none =>
    let bs := g.blocks.map fun b => if b.st = .isOpen ∧ b.sev = r.sev then { b with st := .closed } else b
    let g := { g with blocks := bs }
    match g.freeBlock with
    | some n =>
      let b := { num := n, sev := r.sev, gen := g.genOf n, firstSeq := r.seq, st := BlockSt.isOpen, recs := [r] }
      L.onLog fun _ => { g with blocks := g.blocks ++ [b] }
    | none =>
      match g.victim r.sev with
      | none => (L.onLog fun _ => g).logDrop .full r
      | some v =>
        let b := { num := v.num, sev := r.sev, gen := v.gen + 1, firstSeq := r.seq, st := BlockSt.isOpen, recs := [r] }
        let wrap := g.wrapArmed
        let g := { g with blocks := putBlock b g.blocks, gens := putAssoc v.num (v.gen + 1) g.gens }
        let L := L.onLog fun _ => { g with wrapArmed := false }
        (L.incSat Reg.LOG_OVERWRITE_COUNT v.recs.length).findIf wrap 0x5C 3

/-- The 16 bytes of a sick-bay entry (R533). -/
def SickEntry.bytes (e : SickEntry) : List Nat :=
  [e.kind, (if e.delivered then 1 else 0) + (if e.timeValid then 2 else 0)] ++ leBytes 2 e.block ++ leBytes 4 e.offset
  ++ leBytes 4 e.sec ++ leBytes 4 e.ns

/-- A log memory failure (R532): sick-bay entry, LOG_MEMORY record, FAULT.LOG_FAIL, events; kinds 3 to 5 go SRAM-only. -/
def Lane.logFail (L : Lane) (kind block offset : Nat) : Lane :=
  let e : SickEntry := ⟨kind, L.linkUp, L.timeValid, block, offset, secOf L.now % 2 ^ 32, nsOf L.now⟩
  let L := L.incSat Reg.LOG_SICK_CNT_TOTAL
  let L := if 64 ≤ L.log.sick.length then L.incSat Reg.LOG_SICK_CNT_LOST else L
  let L := (L.onLog fun g => { g with sick := (e :: g.sick).take 64 })
  let L := if 3 ≤ kind then L.setb Reg.LOG_STAT_SRAM_ONLY true else L
  let L := (L.setb Reg.LOG_FAULT_LOG_FAIL true).find 0x5C 0
  let L := if kind ≤ 2 then L.find 0x5C 1 else L.find 0x5C 2
  L.post 6 0x0B e.bytes

/-- RETIRED blocks. -/
def LogSt.retired (g : LogSt) : Nat := (g.blocks.filter fun b => decide (b.st = .retired)).length

/-- Retires a block (R532): its records read DAMAGED, but for those still queued; the 64th block retired makes the recorder
SRAM-only. -/
def Lane.retire (L : Lane) (kind n offset : Nat) : Lane :=
  let g := L.log
  let lost := match g.blocks.find? fun b => b.num = n with
    | some b => (b.recs.map (·.seq)).filter fun q => !(g.queue.any fun r => r.seq = q)
    | none => []
  let b : LogBlock := { num := n, sev := 0, gen := g.genOf n, firstSeq := 0, st := .retired, recs := [] }
  let L := (L.onLog fun g => { g with blocks := putBlock b g.blocks, damaged := g.damaged ++ lost })
  let more := decide (g.retired < L.log.retired)
  let L := L.logFail kind n offset
  if more && decide (64 ≤ L.log.retired) then L.logFail 5 0xFFFF offset else L

/-- The block the next record would be placed in. -/
def LogSt.target (g : LogSt) (r : LogRec) : Option Nat :=
  match g.blocks.find? fun b => decide (b.st = .isOpen) && decide (b.sev = r.sev) && decide (b.used + r.bytes ≤ 4080) with
  | some b => some b.num
  | none => match g.freeBlock with
    | some n => some n
    | none => (g.victim r.sev).map (·.num)

/-- Drains records in SEQ order while the budget of 8 KiB of one tick lasts (R526). -/
def Lane.drain (L : Lane) : List LogRec → Nat → Lane
  | [], _ => (L.onLog fun g => { g with queue := [] })
  | r :: q, budget =>
    if budget < r.bytes then (L.onLog fun g => { g with queue := r :: q })
    else (L.place r).drain q (budget - r.bytes)

/-- LOG_QUEUE_HIGH has cleared: queue and staging below 50 % (R539). -/
def Lane.queueLow (L : Lane) : Lane :=
  if 2 * L.log.queued < L.logCap then (L.onLog fun g => { g with high := false }) else L

/-- The drain may write (R530, R534): the window is open, the store is not being scanned, the recorder is not SRAM-only. -/
def Lane.mayDrain (L : Lane) : Bool :=
  !(L.flag Reg.LOG_STAT_SRAM_ONLY) && !(L.flag Reg.LOG_STAT_INDEXING) && L.flag Reg.THERM_WINDOW_OPEN

/-- The block that the oldest queued record goes to is written, a block reclaimed for it included, and fails its verification: it is
RETIRED and the record stays queued (R532 VERIFY). -/
def Lane.verifyFails (L : Lane) : Lane :=
  match L.log.queue with
  | [] => L
  | r :: _ =>
    match L.log.target r with
    | some n => (L.place r).retire 2 n (0x8000 + 4096 * n)
    | none => L

/-- LOG_DRAIN: writes queued records to the store where it may (R526, R530, R534); `verifyFail`: the first block written still
miscompares after two retries (R532 VERIFY). -/
def Lane.logDrain (L : Lane) (verifyFail : Bool) : Lane :=
  if !L.mayDrain then L
  else
    let L := if verifyFail then L.verifyFails else L
    if L.flag Reg.LOG_STAT_SRAM_ONLY then L
    else
      let L := L.drain L.log.queue 8192
      L.queueLow

/-! ### The read window -/

/-- Finds a record by SEQ in the queue or the store (R531). -/
def LogSt.locate (g : LogSt) (seq : Nat) : LogLoc :=
  if g.queue.any fun r => r.seq = seq then .queue
  else match g.blocks.find? fun b => b.recs.any fun r => r.seq = seq with
    | some b => .block b.num b.gen
    | none => .none

/-- The record at a noted location. -/
def LogSt.recAt (g : LogSt) (loc : LogLoc) (seq : Nat) : Option LogRec :=
  match loc with
  | .none => none
  | .queue => g.queue.find? fun r => r.seq = seq
  | .block n gen =>
    match g.blocks.find? fun b => decide (b.num = n) && decide (b.gen = gen) with
    | some b => b.recs.find? fun r => r.seq = seq
    | none => none

/-- Writes header and quarter of a record into the window, or zeros (R531). -/
def Lane.fillWindow (L : Lane) (r : Option LogRec) (ofs : Nat) : Lane :=
  let bytes := match r with
    | some r => r.allBytes
    | none => []
  let word (k : Nat) : Nat := ofLe ((bytes.drop (4 * k)).take 4)
  let L := forUpTo 4 (fun i L => L.set (Reg.LOG_RD_HDR_w i) (word i)) L
  forUpTo 64 (fun w L => L.set (Reg.LOG_RD_DATA_w w) (word (64 * ofs + w))) L

/-- Loads the window with the selected quarter, or a status (R531). -/
def Lane.windowLoad (L : Lane) : Lane :=
  if L.log.sel = false then L
  else
    let seq := L.get Reg.LOG_RD_SEQ_w
    let ofs := L.get Reg.LOG_RD_OFS_OFS
    let fail (st : Nat) (L : Lane) : Lane := (L.set Reg.LOG_RD_STAT_STATUS st).fillWindow none 0
    if L.flag Reg.LOG_STAT_INDEXING then fail 4 L
    else if L.log.damaged.contains seq then fail 3 L
    else match L.log.loc with
      | .none => fail 1 L
      | loc =>
        let loc := match loc, L.log.recAt loc seq with
          | .queue, none => L.log.locate seq
          | l, _ => l
        match L.log.recAt loc seq with
        | none => fail 2 L
        | some r =>
          let L := (L.onLog fun g => { g with loc := loc })
          if r.bytes ≤ 256 * ofs then fail 5 L
          else (L.set Reg.LOG_RD_STAT_STATUS 0).fillWindow (some r) ofs

/-- A write of LOG_RD_SEQ or LOG_RD_OFS: lookup and load (R531). -/
def Lane.readSelect (L : Lane) (seq ofs : Option Nat) : Lane :=
  let L := match ofs with
    | some o => L.set Reg.LOG_RD_OFS_OFS o
    | none => L
  let L := match seq with
    | some q =>
      let L := L.set Reg.LOG_RD_SEQ_w q
      (L.onLog fun g => { g with sel := true, loc := g.locate (q % 2 ^ 32) })
    | none => (L.onLog fun g => { g with sel := true })
  L.windowLoad

/-- Sequence numbers present, in the queue and the store. -/
def LogSt.present (g : LogSt) : List Nat :=
  (g.blocks.flatMap fun b => b.recs.map (·.seq)) ++ g.queue.map (·.seq)

/-- LOG_RD_NEXT: the lowest SEQ present later than the selected one (R531). -/
def Lane.nextSeq (L : Lane) : Nat :=
  let a := L.get Reg.LOG_RD_SEQ_w
  let later := L.log.present.filter fun q =>
    let d := (q + 2 ^ 32 - a) % 2 ^ 32
    decide (1 ≤ d) && decide (d ≤ 0x7FFFFFFF)
  match later with
  | [] => a
  | q :: r => r.foldl (fun m x => if (x + 2 ^ 32 - a) % 2 ^ 32 < (m + 2 ^ 32 - a) % 2 ^ 32 then x else m) q

/-- The oldest SEQ present (R536). -/
def Lane.firstSeq (L : Lane) : Nat :=
  match L.log.present with
  | [] => 0
  | q :: r => r.foldl (fun m x => if L.log.age m < L.log.age x then x else m) q

/-- A host note (R535). -/
def Lane.hostNote (L : Lane) (tag sev words : Nat) : Lane :=
  let L := L.setAll [(Reg.LOG_NOTE_CMD_TAG, tag), (Reg.LOG_NOTE_CMD_SEVERITY, sev), (Reg.LOG_NOTE_CMD_WORDS, words)]
  let refuse (code : Nat) (L : Lane) : Lane := (L.set Reg.LOG_NOTE_CMD_RESULT code).find 0x5C 7
  if 5 < sev ∨ words < 1 ∨ 16 < words then refuse 1 L
  else if L.log.noteThisTick then refuse 2 L
  else
    let bytes := (List.range words).flatMap fun w => leBytes 4 (L.get (Reg.LOG_NOTE_w w))
    let L := (L.onLog fun g => { g with noteThisTick := true })
    (L.set Reg.LOG_NOTE_CMD_RESULT 0).post sev 0x0C ([tag % 256, 0, 0, 0] ++ bytes)

/-- A write of LOG_LEVEL (R529, R538). -/
def Lane.writeLogLevel (L : Lane) (v : Nat) : Lane :=
  if 5 < v then L
  else (L.set Reg.LOG_LEVEL_LEVEL v).onLog fun g => { g with levelWritten := true }

/-- The scan of a lane start ends (R534): the recorder goes on with the store, or SRAM-only where both copies of the control area are
unreadable, its records then numbered from 0 (R523). The selection in force is looked up, so that LOG_RD_STAT no longer reports
INDEXING. -/
def Lane.scanEnd (L : Lane) (controlOk : Bool) : Lane :=
  if L.flag Reg.LOG_STAT_INDEXING then
    let L := L.setb Reg.LOG_STAT_INDEXING false
    let L := if controlOk && !(L.log.ctl0Bad && L.log.ctl1Bad) then L.setb Reg.LOG_STAT_SRAM_ONLY false
      else (L.onLog fun g => { g with queue := g.queue.zipIdx.map fun q => { q.1 with seq := q.2 }, nextSeq := g.queue.length }).logFail 4 0xFFFF 0
    L.readSelect (some (L.get Reg.LOG_RD_SEQ_w)) none
  else L

/-- A cross-record as the lane that stores it makes it (R526): original header data, original SEQ before the payload. -/
def crossRec (r : LogRec) : LogRec :=
  { r with cross := true, seq := 0, payload := (leBytes 4 r.seq ++ r.payload).take 1008 }

/-- Computed registers of page 0x5C (R536, R538). STAT of a lane out of reset: FULL with no block FREE, WINDOW_HELD while the MRAM
write window is closed (R530), THROTTLED while the throttling is enforced (R528, 16 R573). -/
def Lane.logView (L : Lane) (off : Nat) (w : Word) : Word :=
  let a := 0x5C * 0x400 + off
  if a = 0x1700C then
    if L.boot.phase = .reset then w
    else
      let w := (Reg.LOG_STAT_FULL).put w (if L.log.freeBlock = none then 1 else 0)
      let w := (Reg.LOG_STAT_WINDOW_HELD).put w (if L.flag Reg.THERM_WINDOW_OPEN then 0 else 1)
      (Reg.LOG_STAT_THROTTLED).put w (if L.get Reg.THERM_STATE_LEVEL = 2 then 1 else 0)
  else if a = Reg.LOG_FIRST_w.addr then BitVec.ofNat 32 L.firstSeq
  else if a = Reg.LOG_LAST_w.addr then 
    BitVec.ofNat 32 (if L.log.nextSeq = 0 ∧ L.log.present = [] then 0 else (L.log.nextSeq + 2 ^ 32 - 1) % 2 ^ 32)
  else if a = Reg.LOG_FILL_w.addr then
    BitVec.ofNat 32 ((logBlocks - L.log.blocks.length) * 2 ^ 16 + min 64 L.log.retired)
  else if a = Reg.LOG_QUEUE_w.addr then (Reg.LOG_QUEUE_NOW).put w (min 65535 ((L.log.queued + 1023) / 1024))
  else if a = Reg.LOG_RD_NEXT_w.addr then BitVec.ofNat 32 L.nextSeq
  else if a = Reg.LOG_SICK_CNT_w.addr then (Reg.LOG_SICK_CNT_HELD).put w L.log.sick.length
  else if (Reg.LOG_SICK_ENT_w 0).addr ≤ a then
    if a ≤ (Reg.LOG_SICK_ENT_w 3).addr then
      match L.log.sick[L.get Reg.LOG_SICK_SEL_AGE]? with
      | some e => BitVec.ofNat 32 (ofLe ((e.bytes.drop (a - (Reg.LOG_SICK_ENT_w 0).addr)).take 4))
      | none => 0
    else w
  else w

/-! ### The commands -/

/-- RECORD_POST (R526): an engine posts a record of a kind of R524 or of an event. -/
def execRecordPost (l : LaneId) (kind : Bool) (sev code : Nat) (payload : List Nat) (s : State) : Out :=
  onLane l (fun L => if L.boot.phase = .reset then L else L.accept (L.mkRec sev kind code payload) true) s

/-- LOG_DRAIN (R526). -/
def execLogDrain (l : LaneId) (verifyFail : Bool) (s : State) : Out := onLane l (fun L => L.logDrain verifyFail) s

/-- A cross copy is taken (R526): CROSS_RX counts those stored. -/
def Lane.crossTake (L : Lane) (r : LogRec) : Lane :=
  if L.boot.phase = .reset then L
  else
    let K := L.accept (crossRec r) false
    if K.log.nextSeq = L.log.nextSeq then K else K.incWrap Reg.LOG_CNT_CROSS_RX

/-- CROSS_RECORD_RECEIVED (R526): the oldest cross copy on its way from the other lane is stored. -/
def execCrossRecordReceived (l : LaneId) (s : State) : Out :=
  match (s.lane l.other).log.crossWire with
  | [] => .next s
  | r :: rest =>
    let s := s.upd l.other fun L => (L.onLog fun g => { g with crossWire := rest })
    onLane l (fun L => L.crossTake r) s

/-- Sick-bay entries whose LOG_MEMORY record is among those sent show it delivered (R533). -/
def LogSt.delivered (g : LogSt) (sent : List LogRec) : LogSt :=
  { g with sick := g.sick.map fun e =>
      if sent.any fun r => r.kind && decide (r.code = 0x0B) && decide (r.payload = e.bytes) then { e with delivered := true } else e }

/-- Held cross copies are sent in order of SEQ once a link is up (R526). -/
def Lane.crossResend (L : Lane) : Lane :=
  if L.linkUp then
    let h := L.log.crossHeld
    (L.onLog fun g => { g.delivered h with crossWire := g.crossWire ++ h, crossHeld := [] }).incWrap Reg.LOG_CNT_CROSS_TX h.length
  else L

/-- CROSS_COPY_RESEND (R526): with a link up again, held copies are sent in order of SEQ. -/
def execCrossCopyResend (l : LaneId) (s : State) : Out := onLane l Lane.crossResend s

/-- A drain write does not complete (R532 STUCK); with the window closed nothing is written and nothing fails (R530). -/
def Lane.drainStuck (L : Lane) : Lane :=
  match L.log.queue with
  | [] => L
  | r :: _ =>
    if !L.mayDrain then L
    else match L.log.target r with
      | some n => L.logFail 3 n (0x8000 + 4096 * n)
      | none => L.logFail 3 0xFFFF 0

/-- DRAIN_STUCK (R532 STUCK): a drain write not completed within 100 ms. -/
def execDrainStuck (l : LaneId) (s : State) : Out :=
  onLane l Lane.drainStuck s

/-- LOG_SCAN_DONE (R534): the start-up scan ends; `controlOk`: a copy of the control area is readable. -/
def execLogScanDone (l : LaneId) (controlOk : Bool) (s : State) : Out :=
  onLane l (fun L => L.scanEnd controlOk) s

/-- LOG_RD_SELECT (R531): a write of LOG_RD_SEQ, of LOG_RD_OFS, or of both. -/
def execLogRdSelect (l : LaneId) (seq ofs : Option Nat) (s : State) : Out := onLane l (fun L => L.readSelect seq ofs) s

/-- HOST_NOTE (R535). -/
def execHostNote (l : LaneId) (tag sev words : Nat) (s : State) : Out := onLane l (fun L => L.hostNote tag sev words) s

/-- LOG_LEVEL_WRITE (R529). -/
def execLogLevelWrite (l : LaneId) (v : Nat) (s : State) : Out := onLane l (fun L => L.writeLogLevel v) s

end Sys2Proof.Machine
end

