-- ==== Sys2Proof/Machine/Plotter.lean ====
section
/-! DEFINITION. The Plotter's tick: forces, motion, tracks, estimate states, publication (04 R153-R182, R154-R156, R171-R177). -/

namespace Sys2Proof.Machine

open Sys2Proof

/-- An engine is present and healthy (01 R57): bit of LANE_ENG_HEALTHY. -/
def Lane.engOk (L : Lane) (n : Nat) : Bool := testBit (L.get Reg.LANE_ENG_HEALTHY_w) n

/-- The Plotter runs on one FE (R179). -/
def Lane.singleFe (L : Lane) : Bool := !(L.engOk 13 && L.engOk 14)

/-- A thruster channel of the lane, and its Chart entry. -/
def Lane.ch (L : Lane) (n : Nat) : ChanSt := L.alc.chans.getD n {}

/-- A channel entry with its defaults (R222). N_ABS is the larger of N_MAX and |N_MIN| (R220). -/
def ChanEntry.resolve (e : ChanEntry) : ChanChart :=
  let up := e.nMax.getD 0
  let lo := e.nMin.getD 0
  let nAbs := max up (-lo)
  let dn := e.rateDown.getD 0
  { e.toChanBase with
    cmdMaps := e.cmdRaw.filterMap ByteMap.ofBytes, fbCan := e.fbRaw.filterMap fun f => (ByteMap.ofBytes f.2.2).map fun m => (m.qty, f.1, f.2.1, m),
    ty := e.ty.getD .shaft, pitch := e.pitch.getD false, x := e.x.getD 0, y := e.y.getD 0, tFwd := e.tFwd.getD 0, thrust := e.thrust.getD [],
    powF := e.powF.getD [], powR := e.powR.getD [], nMax := up, nMin := lo, rateUp := e.rateUp.getD 0, rateDown := dn,
    rateFast := e.rateFast.getD (10 * dn), azRate := e.azRate.getD 0, rudMax := e.rudMax.getD 0, rudRate := e.rudRate.getD 0,
    rudArc := e.rudArc.getD 0, bus := e.bus.getD 0, cmdPath := e.cmdPath.getD 0, fbPath := e.fbPath.getD 0, feDem := e.feDem.getD (nAbs / 10),
    kpPwr := e.kpPwr.getD 0, iLim := e.iLim.getD 0, kpTh := e.kpTh.getD 0, kpBp := e.kpBp.getD 0, trackMargin := e.trackMargin.getD (nAbs / 50) }

/-- A channel of the Chart. -/
def AllocChart.chan (c : AllocChart) (n : Nat) : Option ChanChart := (c.chans.getD n none).map ChanEntry.resolve
def Lane.chCfg (L : Lane) (n : Nat) : Option ChanChart := L.chart.now.alloc.chan n
def Lane.onCh (L : Lane) (n : Nat) (f : ChanSt → ChanSt) : Lane := L.onAlc fun a => { a with chans := modAt a.chans n f }

/-- τ_T of R153, in N and N·m: the delivered forces that the channel loops computed in the tick before, and whether one is a
committed demand. -/
def Lane.thrustSum (L : Lane) : Wrench × Bool :=
  (List.range 16).foldl (fun (a : Wrench × Bool) n =>
    match L.chCfg n with
    | some c =>
      let x := L.ch n
      if x.st = .online ∨ x.st = .draining then
        (a.1.add ⟨1000 * x.fx, 1000 * x.fy, 1000 * (c.x * x.fy - c.y * x.fx)⟩, a.2 || x.thrustCmd)
      else a
    | none => a) ({}, false)

/-- The wind force in a tick of `dt` s (R154). -/
def Lane.windTick (L : Lane) (dt : Rat) : Lane :=
  let V := L.vc
  let use := (kindSlots .wind).filter fun s =>
    (L.rc.slot s).isSome && decide ((L.slotSt s).st = .admitted) && !L.shadowed s && (L.slotSt s).last.isSome
  if use = [] then L.onOwn fun q => { q with windOk := false, windX := 0, windY := 0, tauW := {} }
  else
    let w := use.map fun s => L.inverseVar s
    let vec (s : Nat) : Rat × Rat :=
      match (L.slotSt s).last with
      | some r => (vAt r.z 0 * Config.cos (rad (vAt r.z 1)), vAt r.z 0 * Config.sin (rad (vAt r.z 1)))
      | none => (0, 0)
    let tot := w.sum
    let mx := ((use.zip w).map fun p => p.2 * (vec p.1).1).sum
    let my := ((use.zip w).map fun p => p.2 * (vec p.1).2).sum
    let mean (m : Rat) : Rat := if tot = 0 then 0 else m / tot
    let g := Config.lowPass dt V.windTau
    let q := L.plt.own
    let wx := q.windX + g * (mean mx - q.windX)
    let wy := q.windY + g * (mean my - q.windY)
    let v2 := wx * wx + wy * wy
    let gam := deg360 (deg (Config.atan2 wy wx))
    let p := V.rho * v2 / 2
    L.onOwn fun q => { q with windOk := true, windX := wx, windY := wy,
                              tauW := ⟨p * V.aF * table10 V.cx gam, p * V.aL * table10 V.cy gam, p * V.aL * V.lOA * table10 V.cn gam⟩ }

/-- Roll, pitch and heave on every tick (R156). -/
def Lane.motionTick (L : Lane) : Lane :=
  let use := (kindSlots .motion).filter fun s =>
    (L.rc.slot s).isSome && decide ((L.slotSt s).st = .admitted) && match (L.slotSt s).last with
      | some r => decide (L.now - r.time ≤ 20000000)
      | none => false
  if use = [] then
    let a := L.sxAttitude.getD (0, 0)
    L.onOwn fun q => { q with roll := a.1, pitch := a.2, heave := 0, motionOk := false }
  else
    let mean (i : Nat) : Rat :=
      let w := use.map (L.inverseVarOf i)
      let tot := w.sum
      let v := ((use.zip w).map fun p => p.2 * (match (L.slotSt p.1).last with | some r => vAt r.z i | none => 0)).sum
      if tot = 0 then 0 else v / tot
    let t := L.now
    L.onOwn fun q =>
      let h := (t, mean 0, mean 1) :: q.attHist
      { q with roll := mean 0, pitch := mean 1, heave := mean 2, motionOk := true, attHist := h.filter fun a => decide (t - a.1 ≤ 2000000000) }

/-- The heave velocity takes the change of the voted heave over the cycle (R156). -/
def Lane.heaveUpdate (L : Lane) : Lane :=
  let q := L.plt.own
  let L :=
    match q.heavePrev with
    | some h0 =>
      if q.motionOk ∧ q.h ≠ 0 then
        L.filterAct { s := { slot := 20, time := q.xTime, z := [(q.heave - h0) / q.h], var := [] }, var := [1 / 100], act := .heave }
      else L
    | none => L
  L.onOwn fun q => { q with heavePrev := if q.motionOk then some q.heave else none }

/-! ### Tracks -/

/-- A track's Chart entry and its state. -/
def Lane.trkCfg (L : Lane) (k : Nat) : Option TrackChart := L.chart.now.targets.tracks.getD k none
def Lane.trk (L : Lane) (k : Nat) : TrackSt := L.plt.tracks.getD k {}
def Lane.onTrk (L : Lane) (k : Nat) (f : TrackSt → TrackSt) : Lane := L.onPlt fun p => { p with tracks := modAt p.tracks k f }

/-- A track propagated over `dt` s (R171). -/
def TrackSt.propagate (t : TrackSt) (c : TrackChart) (dt : Rat) : TrackSt :=
  let f := mTab 6 6 fun i j => if i = j then 1 else if (i = 0 ∧ j = 2) ∨ (i = 1 ∧ j = 3) ∨ (i = 4 ∧ j = 5) then dt else 0
  let q (i : Nat) : Rat := if c.stationary then 0 else if i = 2 ∨ i = 3 then c.qA * c.qA * dt else if i = 5 then rad c.qTurn * rad c.qTurn * dt else 0
  let p := mMul (mMul f t.p) (mT f)
  let x := mVec f t.x
  { t with x := vSet x 4 (wrapRad (vAt x 4)), p := mTab 6 6 fun i j => mAt p i j + (if i = j then q i else 0), age := t.age.map (· + dt * 1000000000),
           idle := t.idle + dt * 1000000000 }

/-- Seeding of a track (R175): the covariance beyond the position is not given (log entry 12). Whether the seeding sample counts among
the 3 updates since INIT is not said: it counts as the first (DESIGN CHOICE, log entry 86). -/
def TrackSt.seed (t : TrackSt) (c : TrackChart) (n e : Rat) : TrackSt :=
  let st (i : Nat) : Bool := c.stationary && (decide (i = 2) || decide (i = 3) || decide (i = 5))
  { t with st := 1, seeded := true, updates := 1, age := some 0, idle := 0,
           x := vTab 6 fun i => if i = 0 then n else if i = 1 then e else if st i then 0 else if i = 4 then vAt t.x 4 else 0,
           p := mTab 6 6 fun i j => if i ≠ j then 0 else if i < 2 then c.p0 * c.p0 else if st i then 0 else Config.trackVar i }

/-- Whether a track has a heading feed (R174). -/
def TrackChart.hdgFeed (c : TrackChart) : Bool := (List.range 8).any fun k => testBit c.feed (12 + k)

/-- Heading from the course over ground (R174). -/
def TrackSt.cog (t : TrackSt) (c : TrackChart) : TrackSt :=
  if c.hdgFeed then { t with hdgFromCog := false }
  else
    let vn := vAt t.x 2
    let ve := vAt t.x 3
    if 1 / 4 < vn * vn + ve * ve then { t with x := vSet t.x 4 (Config.atan2 ve vn), hdgFromCog := true }
    else { t with hdgFromCog := true }

/-- Covariance that the own position and heading add to a measurement which lies by `n`, `e` from the reference point (R174). -/
def Lane.ownCov (L : Lane) (n e : Rat) : Mat :=
  let p := L.plt.own.p
  let h : Mat := [[1, 0, -e], [0, 1, n]]
  mMul (mMul h (mTab 3 3 (mAt p))) (mT h)

/-- A feed sample as a measurement of the target (R174): value and added covariance. -/
def Lane.feedMeas (L : Lane) (c : SlotChart) (t : TrackChart) (psiT : Rat) (r : RawSample) (tm : Rat) : Rat × Rat × Mat :=
  let lt := bodyToEarth psiT 0 0 t.lever
  let q := L.plt.own
  match c.form with
  | .absolute =>
    let p := L.absPos r
    (p.1 - lt.1, p.2 - lt.2.1, mTab 2 2 fun _ _ => 0)
  | .laser =>
    let lv := L.leverAt c tm
    let b := rad (r.qty 0x0B)
    let d := bodyToEarth (vAt q.x 2) 0 0 (r.qty 0x0A * Config.cos b, r.qty 0x0A * Config.sin b, 0)
    (vAt q.x 0 + lv.1 + d.1 - lt.1, vAt q.x 1 + lv.2.1 + d.2.1 - lt.2.1, L.ownCov (lv.1 + d.1) (lv.2.1 + d.2.1))
  | _ =>
    let lv := L.leverAt c tm
    (vAt q.x 0 + lv.1 + r.qty 0x01 - lt.1, vAt q.x 1 + lv.2.1 + r.qty 0x02 - lt.2.1, L.ownCov lv.1 lv.2.1)

/-- A position update of a track has been made (R175). -/
def Lane.trkUpdated (L : Lane) (k : Nat) (c : TrackChart) : Lane :=
  let L := L.onTrk k fun t => { t with updates := t.updates + 1, age := some 0, idle := 0 }
  let t := L.trk k
  let good := majorWithin (mAt t.p 0 0) (mAt t.p 0 1) (mAt t.p 1 1) c.valid
  if (t.st = 1 ∧ 3 ≤ t.updates ∧ good) ∨ t.st = 3 then (L.onTrk k fun t => { t with st := 2 }).find 0x0B 0 else L

/-- Judgement of a feed sample against its track (R173, R174), its slot's state, and the track's update. A sample that has no track to be
judged by (the track is shed; or a relative one before the track is seeded, while the own-vessel estimate is not VALID) only brings its
slot from WAITING to ADMITTING (DESIGN CHOICE, log entry 86); a relative one gives no update while the estimate is not VALID. -/
def Lane.judgeFeed (L : Lane) (k : Nat) (c : SlotChart) (t : TrackChart) (r : RawSample) (tm : Rat) (short : Bool) : Lane :=
  let s := r.slot
  let tr := L.trk k
  let isPos := decide (s < 12)
  let des := decide ((L.slotSt s).st = .deselected)
  let mayUse := !des && (decide (c.form = .absolute) || !isPos || decide (L.plt.own.st = 1))
  let seedNow := isPos && mayUse && (!tr.seeded || decide (tr.st = 4)) && decide (tr.st ≠ 5)
  if tr.st = 5 ∨ (!tr.seeded && !seedNow) then
    L.onSlot s fun x => if x.st = .waiting then { x with st := .admitting, acc := 0, passes := 0, fails := 0 } else x
  else
    let m := (L.covNow).feedMeas c t (vAt tr.x 4) r tm
    let L := if seedNow then L.onTrk k fun x => x.seed t m.1 m.2.1 else L
    let tr := L.trk k
    let back := (L.now - tm) / 1000000000
    let var := siVar s (L.baseVar c r)
    let cov (f : Rat) : Mat := let d := mDiag (var.map (f * ·)); if isPos then mAdd d m.2.2 else d
    let h : Mat := if isPos then mTab 2 6 fun i j => if j = i then 1 else if j = i + 2 then -back else 0
      else mTab 1 6 fun _ j => if j = 4 then 1 else if j = 5 then -back else 0
    let z : Vec := if isPos then [m.1, m.2.1] else [rad (r.qty 0x04)]
    let pr := mVec h tr.x
    let nu := if isPos then vSub z pr else [wrapRad (vAt z 0 - vAt pr 0)]
    let sm := mAdd (mMul (mMul h tr.p) (mT h)) (cov (L.judgeFactor s))
    let jump := if isPos then c.jump else rad c.jump
    let g : Rat × Bool := if seedNow then (0, true) else match mInv sm with
      | some si => let x := vDot nu (mVec si nu); (x, decide (x ≤ c.gate) && decide (vDot nu nu ≤ jump * jump))
      | none => (0, false)
    let L := L.showTest s (some g.1) none (!g.2) false
    let L := L.slotResult s g.2 short tm
    let L := L.onSlot s fun x => { x with last := some { slot := s, time := tm, z := if isPos then z else z.map deg, var := L.baseVar c r } }
    if g.2 ∧ mayUse ∧ (L.slotSt s).st = .admitted ∧ !seedNow then
      let u := kalman tr.x tr.p h nu (cov (L.weightFactor s)) (if t.stationary then [2, 3, 5] else [])
      let L := L.onTrk k fun x => { x with x := vSet u.1 4 (wrapRad (vAt u.1 4)), p := u.2 }
      if isPos then L.trkUpdated k t else L
    else L

/-- TGT_COASTING (R175). -/
def Lane.tgtCoasting (L : Lane) (k : Nat) : Lane :=
  match L.trkCfg k with
  | some c => if (L.trk k).st = 2 ∧ c.coast * 1000000000 ≤ (L.trk k).idle then (L.onTrk k fun t => { t with st := 3 }).find 0x0B 1 else L
  | none => L

/-- TGT_COASTING (R175). -/
def execTgtCoasting (l : LaneId) (k : Nat) (s : State) : Out := onLane l (fun L => L.tgtCoasting k) s

/-- TGT_LOST (R175). -/
def Lane.tgtLost (L : Lane) (k : Nat) : Lane :=
  match L.trkCfg k with
  | some c =>
    let st := (L.trk k).st
    if (st = 1 ∨ st = 2 ∨ st = 3) ∧ c.lost * 1000000000 ≤ (L.trk k).idle then (L.onTrk k fun t => { t with st := 4 }).find 0x0B 2 else L
  | none => L

/-- TGT_LOST (R175). -/
def execTgtLost (l : LaneId) (k : Nat) (s : State) : Out := onLane l (fun L => L.tgtLost k) s

/-- TGT_SEL_WRITE (R176, R187). TR8 to TR15 are absent units on KX922 (R179): naming one counts as an absent write too (00
R11). -/
def Lane.tgtSelWrite (L : Lane) (v : Nat) : Lane :=
  let L := if L.variant = .kx922 ∧ 8 ≤ v ∧ v < 16 then L.absentWrite Reg.TGT_SEL_TRACK.addr else L
  if L.mode = 10 ∨ (v ≠ 0x1F ∧ (L.trkCfg v).isNone) then L.find 0x0B 4 else L.set Reg.TGT_SEL_TRACK v

/-- TGT_SEL_WRITE (R176). -/
def execTgtSelWrite (l : LaneId) (v : Nat) (s : State) : Out := onLane l (fun L => L.tgtSelWrite v) s

/-- TGT_LIMIT (R177): the Plotter's capacity, the throttle's limit in the active lane (16 R576), 16. -/
def Lane.tgtLimit (L : Lane) : Nat :=
  let cap := if L.singleFe then 8 else 16
  if L.get Reg.THERM_STATE_LEVEL = 2 ∧ L.active then min cap L.chart.now.therm.thrTracks else cap

/-- The tracks that are not served: TR8 to TR15 on one FE (R179), and those beyond the limit, highest number first, but never the
selected one (R177). -/
def Lane.tgtOver (L : Lane) : List Nat :=
  let conf := (List.range 16).filter fun k => (L.trkCfg k).isSome
  let may := conf.filter fun k => decide (k ≠ L.get Reg.TGT_SEL_TRACK)
  let high := may.filter fun k => L.singleFe && decide (8 ≤ k)
  high ++ ((may.filter fun k => !high.contains k).reverse).take (conf.length - high.length - L.tgtLimit)

/-- Tracks are shed, others are served again (R177). -/
def Lane.tgtShed (L : Lane) : Lane :=
  let shed := L.tgtOver
  let one (L : Lane) (k : Nat) : Lane :=
    let t := L.trk k
    if shed.contains k then (if t.st = 5 then L else (L.onTrk k fun t => { t with st := 5 }).find 0x0B 3)
    else if t.st = 5 then (L.onTrk k fun t => { t with st := 1, seeded := false, updates := 0, age := none, idle := 0 }).find 0x0B 3
    else L
  ((List.range 16).filter fun k => (L.trkCfg k).isSome).foldl one L

/-- Registers of page 0x0B at a publication (R187). A shed track keeps its last published values (R177). -/
def Lane.showTracks (L : Lane) : Lane :=
  let q := L.plt.own
  let one (k : Nat) (L : Lane) : Lane :=
    match L.trkCfg k with
    | none => forUpTo 8 (fun i L => L.setWord (0x0B * 0x400 + 0x40 + 0x20 * k + 4 * i) 0) L
    | some c =>
      let t := L.trk k
      let L := L.set (Reg.TGT_STAT_STATE k) t.st
      let L := L.setb (Reg.TGT_STAT_SELECTED k) (decide (L.get Reg.TGT_SEL_TRACK = k))
      if t.st = 5 then L
      else
        let feeds := ((List.range 20).filter fun s => testBit c.feed s && decide ((L.slotSt s).st = .admitted)).length
        let L := L.setAll [(Reg.TGT_STAT_FEEDS k, feeds), (Reg.TGT_STAT_STATIONARY k, if c.stationary then 1 else 0),
          (Reg.TGT_STAT_HDG_FROM_COG k, if t.hdgFromCog then 1 else 0)]
        let L := match t.age with
          | some a => L.setScaled (Reg.TGT_STAT_AGE k) a 1000000
          | none => L.set (Reg.TGT_STAT_AGE k) 0xFFFF
        let dn := vAt t.x 0 - vAt q.x 0
        let de := vAt t.x 1 - vAt q.x 1
        let L := ((L.setiScaled (Reg.TGT_NORTH_POS k) (vAt t.x 0) (1 / 1000)).setiScaled (Reg.TGT_EAST_POS k) (vAt t.x 1) (1 / 1000))
        let L := (L.setiScaled (Reg.TGT_VEL_VN k) (vAt t.x 2) (1 / 100)).setiScaled (Reg.TGT_VEL_VE k) (vAt t.x 3) (1 / 100)
        let L := (L.set (Reg.TGT_HDG_HDG k) ((codeOf (deg360 (deg (vAt t.x 4))) (1 / 100)).toNat % 36000)).setiScaled (Reg.TGT_HDG_RATE k) (deg (vAt t.x 5)) (1 / 100)
        let L := (L.setScaled (Reg.TGT_REL_RANGE k) (Config.sqrt (dn * dn + de * de)) (1 / 10)).set (Reg.TGT_REL_BEARING k)
          ((codeOf (deg360 (deg (Config.atan2 de dn - vAt q.x 2))) (1 / 100)).toNat % 36000)
        let e := ellipse (mAt t.p 0 0) (mAt t.p 0 1) (mAt t.p 1 1)
        if !t.seeded then L.set (Reg.TGT_SIG_w k) 0xFFFFFFFF
        else (L.set (Reg.TGT_SIG_POS k) (min 0xFFFE (codeOf e.1 (1 / 100)).toNat)).set (Reg.TGT_SIG_HDG k)
          (min 0xFFFE (codeOf (deg (Config.sqrt (mAt t.p 4 4))) (1 / 100)).toNat)
  let L := (forUpTo 16 one L).set Reg.TGT_LIMIT_COUNT L.tgtLimit
  L.set Reg.TGT_VALID_MASK ((List.range 16).foldl (fun m k => if (L.trkCfg k).isSome ∧ (L.trk k).st = 2 then m + 2 ^ k else m) 0)

/-! ### The estimate's life and publication -/

/-- Position σ and heading σ within bounds. -/
def PlotSt.posWithin (q : PlotSt) (lim : Rat) : Bool := majorWithin (mAt q.p 0 0) (mAt q.p 0 1) (mAt q.p 1 1) lim
def PlotSt.hdgWithin (q : PlotSt) (lim : Rat) : Bool := decide (mAt q.p 2 2 ≤ rad lim * rad lim)

/-- An own-vessel position slot and a heading slot are ADMITTED (R163). -/
def Lane.bothAdmitted (L : Lane) : Bool :=
  let adm (k : RefKind) : Bool := (kindSlots k).any fun s => L.ownSlot s && decide ((L.slotSt s).st = .admitted)
  adm .position && adm .heading

/-- The conditions of the consistency time hold now (R163). -/
def Lane.consistent (L : Lane) : Bool :=
  L.bothAdmitted && !L.ntk.pos136 && !L.ntk.hdg136 && !L.ntk.pos2.on && !L.ntk.hdg2.on

/-- A position cycle ends (R163): one over which the conditions held whole adds to the consistency time, another ends it. -/
def Lane.consistEnd (L : Lane) : Lane :=
  let w := L.ntk.whole
  (L.onOwn fun q => { q with consist := if q.st = 0 ∧ w then q.consist + q.h else 0 }).onNtk fun k => { k with whole := L.consistent }

/-- The conditions after a tick's samples (R163). -/
def Lane.consistTick (L : Lane) : Lane := L.onNtk fun k => { k with whole := k.whole && !k.failed && L.consistent, failed := false }

/-- Changes of estimate state on a position-cycle tick (R163). -/
def Lane.plotState (L : Lane) : Lane :=
  let V := L.vc
  let both := L.bothAdmitted
  let q := L.plt.own
  let cons := q.consist
  let inB := q.posWithin V.validPos && q.hdgWithin V.validHdg
  let lost := L.ntk.refLoss || L.ntk.hdgLoss
  let nxt : Nat :=
    match q.st with
    | 0 => if both && (decide (30 ≤ cons) || inB) then 1 else 0
    | 1 => if lost then 2 else 1
    | 2 => if !lost && inB then 1 else if !(q.posWithin V.lostPos && q.hdgWithin V.lostHdg) then 3 else 2
    | _ => if !lost && inB then 1 else 3
  let env := if nxt = 1 then (if q.st = 1 then q.envTime + q.h else 0) else 0
  let L := L.onOwn fun q => { q with st := nxt, consist := if nxt = 0 then cons else 0, envTime := env }
  let L := L.findIf (decide (nxt = 1) && decide (q.st ≠ 1)) 0x0A 0
  let L := L.findIf (decide (nxt = 2) && decide (q.st ≠ 2)) 0x0A 1
  let L := L.findIf (decide (nxt = 3) && decide (q.st ≠ 3)) 0x0A 2
  let pr := decide (2 ≤ nxt)
  ((L.set Reg.PLOT_STAT_STATE nxt).setb Reg.PLOT_STAT_POS_PREDICT (pr && L.ntk.refLoss)).setb Reg.PLOT_STAT_HDG_PREDICT (pr && L.ntk.hdgLoss)

/-- ENV_VALID (R164). -/
def Lane.envValid (L : Lane) : Lane :=
  if L.plt.own.st = 1 ∧ L.vc.envSettle ≤ L.plt.own.envTime then (L.onOwn fun q => { q with envOk := true }).setb Reg.PLOT_STAT_ENV_VALID true
  else L

/-- ENV_VALID (R164). -/
def execEnvValid (l : LaneId) (s : State) : Out := onLane l Lane.envValid s

/-- REINIT (R165): in modes 3 to 6; elsewhere ignored, with a Logbook record of the refusal. -/
def Lane.reinit (L : Lane) : Lane :=
  if 3 ≤ L.mode ∧ L.mode ≤ 6 then L.plotInit L.now else L.post 3 0x05 [L.mode]

/-- REINIT (R165). -/
def execReinit (l : LaneId) (s : State) : Out := onLane l Lane.reinit s

/-- The record published on a position-cycle tick (R183-R185). -/
def Lane.publish (L : Lane) : Lane :=
  let V := L.vc
  let L := L.covNow
  let q := L.plt.own
  let x := q.x
  let psi := vAt x 2
  let b := rotB psi (vAt x 7) (vAt x 8)
  let posOk := decide (q.st ≠ 0) && q.posWithin V.lostPos
  let hdgOk := decide (q.st ≠ 0) && q.hdgWithin V.lostHdg
  let rec0 : PlotRec :=
    { time := q.xTime, st := q.st, n := vAt x 0, e := vAt x 1, psi := psi, u := vAt x 3, v := vAt x 4, r := vAt x 6,
      env := ⟨b.1, b.2, vAt x 9⟩, envNE := ⟨vAt x 7, vAt x 8, vAt x 9⟩, wind := q.tauW, thrust := q.tauT, rerun := q.rerun.isSome, revised := q.revised, hdgOk := hdgOk, posOk := posOk,
      envValid := q.envOk }
  let L := L.onOwn fun q => { q with prev := q.prec, prec := rec0, revised := false }
  let bit (b : Bool) : Nat := if b then 1 else 0
  let L := L.incWrap Reg.PLOT_SEQ_SEQ
  let L := L.setAll [(Reg.PLOT_FLAGS_SINGLE_FE, bit L.singleFe), (Reg.PLOT_FLAGS_RERUN, bit q.rerun.isSome), (Reg.PLOT_FLAGS_THRUST_CMD, bit q.thrustCmd),
    (Reg.PLOT_FLAGS_COAST, bit L.coasting), (Reg.PLOT_FLAGS_REVISED, bit q.revised), (Reg.PLOT_FLAGS_MOTION_OK, bit q.motionOk),
    (Reg.PLOT_FLAGS_WIND_OK, bit q.windOk), (Reg.PLOT_FLAGS_ENV_VALID, bit q.envOk)]
  let L := L.setAll [(Reg.PLOT_FLAGS_VEL_OK, bit (decide (q.st = 1) || decide (q.st = 2))), (Reg.PLOT_FLAGS_HDG_OK, bit hdgOk),
    (Reg.PLOT_FLAGS_POS_OK, bit posOk), (Reg.PLOT_FLAGS_STATE, q.st), (Reg.PLOT_SEC_LO_SEC, secOf q.xTime), (Reg.PLOT_SEC_HI_SEC, secOf q.xTime / 2 ^ 32),
    (Reg.PLOT_NS_NS, nsOf q.xTime), (Reg.PLOT_HDG_HDG, (codeOf (deg360 (deg psi)) (1 / 10000)).toNat % 3600000)]
  let L := (L.setiScaled Reg.PLOT_NORTH_POS (vAt x 0) (1 / 1000)).setiScaled Reg.PLOT_EAST_POS (vAt x 1) (1 / 1000)
  let L := ((L.setiScaled Reg.PLOT_U_VEL (vAt x 3) (1 / 1000)).setiScaled Reg.PLOT_V_VEL (vAt x 4) (1 / 1000)).setiScaled Reg.PLOT_W_VEL (vAt x 5) (1 / 1000)
  let L := L.setiScaled Reg.PLOT_R_RATE (deg (vAt x 6)) (1 / 1000)
  let L := ((L.setiScaled Reg.PLOT_ENV_X_FORCE b.1 10).setiScaled Reg.PLOT_ENV_Y_FORCE b.2 10).setiScaled Reg.PLOT_ENV_MZ_MOMENT (vAt x 9) 10
  let L := ((L.setiScaled Reg.PLOT_WIND_X_FORCE q.tauW.x 10).setiScaled Reg.PLOT_WIND_Y_FORCE q.tauW.y 10).setiScaled Reg.PLOT_WIND_MZ_MOMENT q.tauW.n 10
  let L := (L.setScaled Reg.PLOT_WIND_REL_SPEED (Config.sqrt (q.windX * q.windX + q.windY * q.windY)) (1 / 100)).set Reg.PLOT_WIND_REL_ANGLE
    ((codeOf L.windDir (1 / 100)).toNat % 36000)
  let L := ((L.setiScaled Reg.PLOT_ATT_ROLL q.roll (1 / 100)).setiScaled Reg.PLOT_ATT_PITCH q.pitch (1 / 100)).setiScaled Reg.PLOT_HEAVE_HEAVE q.heave (1 / 1000)
  let el := ellipse (mAt q.p 0 0) (mAt q.p 0 1) (mAt q.p 1 1)
  let unseeded := decide (q.st = 0) && q.seedPos.isNone
  let sig (v lsb : Rat) : Nat := min 0xFFFE (codeOf v lsb).toNat
  let L := L.setAll [(Reg.PLOT_SIG_POS_MAJ, if unseeded then 0xFFFF else sig el.1 (1 / 100)), (Reg.PLOT_SIG_POS_MIN, if unseeded then 0xFFFF else sig el.2.1 (1 / 100)),
    (Reg.PLOT_SIG_HDG_ORIENT, (codeOf (deg360 (deg el.2.2)) (1 / 100)).toNat % 18000), (Reg.PLOT_SIG_HDG_HDG, sig (deg (Config.sqrt (mAt q.p 2 2))) (1 / 1000))]
  let L := (L.setScaled Reg.PLOT_VALID_TIME_TIME q.consist (1 / 10)).set Reg.PLOT_SEQ_END_SEQ (L.get Reg.PLOT_SEQ_SEQ)
  let L := forUpTo 12 (fun k L => (L.setiScaled (Reg.PLOT_BIAS_N_BIAS k) (vAt x (10 + 2 * k)) (1 / 1000)).setiScaled (Reg.PLOT_BIAS_E_BIAS k) (vAt x (11 + 2 * k)) (1 / 1000)) L
  let L := forUpTo 8 (fun k L => L.setiScaled (Reg.PLOT_BIAS_H_BIAS k) (deg (vAt x (34 + k))) (1 / 1000)) L
  (L.findIf q.revised 0x0A 3).showTracks

/-- STAT.RERUN and PLOT_RERUN (R184, R185). -/
def Lane.showRerun (L : Lane) : Lane :=
  let q := L.plt.own
  let d := match q.rerun with
    | some r => r.depth
    | none => 0
  ((L.setb Reg.PLOT_STAT_RERUN q.rerun.isSome).setSat Reg.PLOT_RERUN_QUEUED q.wait.length).setSat Reg.PLOT_RERUN_DEPTH d

/-! ### The Plotter's tick -/

/-- One raw sample's age, its place in time and its judgement (R125-R135). -/
structure Timed where
  r : RawSample
  t : Rat
deriving DecidableEq, Repr

/-- Inserts by measurement time, after equal ones (R131). -/
def insTimed (x : Timed) : List Timed → List Timed
  | [] => [x]
  | y :: r => if x.t < y.t then x :: y :: r else y :: insTimed x r

/-- Times one latched sample: counts it, sets SENSOR_INVALID, discards by age (R119, R130). -/
def Lane.timeSample (p : Lane × List Timed) (r : RawSample) : Lane × List Timed :=
  let L := p.1
  match L.rc.slot r.slot with
  | none => p
  | some c =>
    let L := L.incWrap (Reg.SLOT_CNT_SAMPLES r.slot)
    let L := L.onSlot r.slot fun x => { x with sensorInvalid := !r.valid }
    if !r.valid then (L, p.2)
    else
      let m := L.measTime c r
      let L := m.1
      if r.early m.2 then (L, p.2)
      else if 2000000000 < r.latch - m.2 then ((L.incSat Reg.INT_LATE_DISCARDED).find 0x08 3, p.2)
      else (L, insTimed ⟨r, m.2⟩ p.2)

/-- Judges one timed sample (R131-R135). -/
def Lane.judge (L : Lane) (x : Timed) : Lane :=
  let s := x.r.slot
  match L.rc.slot s with
  | none => L
  | some c =>
    let dup := (L.slotSt s).seen.any fun t => let d := t - x.t; decide ((if d < 0 then -d else d) ≤ 1000)
    if dup then L
    else
      let now := L.now
      let L := L.onSlot s fun y => { y with seen := x.t :: (y.seen.filter fun t => decide (now - t ≤ 2000000000)), lastMeas := some x.t }
      match L.feedOf s with
      | some k =>
        let a := L.arrive s
        match L.trkCfg k with
        | some t => a.1.judgeFeed k c t x.r x.t a.2
        | none => a.1
      | none =>
        if s < 20 ∧ L.plt.own.beforeHistory x.t then L.histMiss
        else
          let st := (L.slotSt s).st
          let L := if s < 12 ∧ (st = .waiting ∨ st = .admitting ∨ st = .rejected) then L.anchorIf s c x.r x.t else L
          if (L.slotSt s).noOrigin ∧ s < 12 ∧ st ≠ .deselected then L.onSlot s fun y => { y with st := .waiting }
          else
            let a := L.arrive s
            let L := if s < 12 ∧ !(a.1.attAt x.t).2.2 then a.1.onOwn fun q => { q with attMissing := true } else a.1
            let j := L.reduce c x.r x.t
            let L :=
              if st = .deselected then (if (L.originOf s c).isNone ∧ s < 12 then L else L.judgeDeselected c j)
              else L.judgeOwn c j (x.r.qty 0x05, x.r.qty 0x06) a.2
            L.onSlot s fun y => { y with quality := y.quality.filter fun w => !(decide (w.tod = x.r.tod) && w.tod.isSome) }

/-- The samples of a tick (R131): at most 256, dropped newest first; then judged in order of t_meas. ATT_MISSING holds for the samples
judged in a tick: the rules do not say when it clears (DESIGN CHOICE, log entry 86). -/
def Lane.judgeAll (L : Lane) : Lane :=
  let l := L.ntk.latched
  let above := l.length - 256
  let L := if above = 0 then L else ((L.setSat Reg.INT_OVERFLOW_CNT (L.get Reg.INT_OVERFLOW_CNT + above)).setb Reg.INT_FAULT_OVERFLOW true).find 0x08 7
  let r := (l.take 256).foldl Lane.timeSample (L, [])
  let L := r.1.onNtk fun k => { k with latched := [] }
  let L := L.onOwn fun q => { q with attMissing := false }
  r.2.foldl Lane.judge L

/-- Time spent by the slots in a tick of `dt` ns (R133, R138, R139). -/
def Lane.slotTick (L : Lane) (dt : Rat) : Lane :=
  let one (s : Nat) (L : Lane) : Lane :=
    match L.rc.slot s with
    | none => L
    | some c =>
      let x := L.slotSt s
      let gap : Bool := match x.lastValid with
        | some t => decide ((c.timeout : Rat) * 1000000 < L.now - t)
        | none => true
      match x.st with
      | .admitting => L.onSlot s fun x => { x with acc := if x.passes = 0 then 0 else x.acc + dt }
      | .rejected => L.onSlot s fun x => if gap ∨ x.passes = 0 then { x with acc := 0, passes := 0 } else { x with acc := x.acc + dt }
      | .admitted => L.onSlot s fun x => { x with rampTicks := x.rampTicks + 1 }
      | _ => L
  forUpTo 30 one L

/-- An analogue input's latched fine value joins the cycle (R121). -/
def Lane.anaCollect (L : Lane) : Lane :=
  let ins := (List.range 30).flatMap fun s => match L.rc.slot s with
    | some c => if c.source = 5 ∨ c.source = 6 then c.inputs.map fun m => m.2.input else []
    | none => []
  (ins.eraseDups).foldl (fun L n =>
    let x : Rat × Rat × Bool := match (L.ana.ins.getD n {}).latched with
      | some v => (v.value, v.time, decide (v.st = .valid))
      | none => (0, 0, false)
    L.onNtk fun k => { k with ana := putAssoc n (((k.ana.lookup n).getD []) ++ [x]) k.ana }) L

/-- The samples of the analogue slots at the end of a position cycle: means of the ten latched values and times (R121). Of a slot on
several inputs the first input's times count: the rule does not say whose (DESIGN CHOICE, log entry 86). -/
def Lane.anaSamples (L : Lane) : Lane :=
  let one (s : Nat) (L : Lane) : Lane :=
    match L.rc.slot s with
    | none => L
    | some c =>
      if c.source ≠ 5 ∧ c.source ≠ 6 ∨ c.inputs = [] then L
      else
        let get (m : AnaMap) : List (Rat × Rat × Bool) := (L.ntk.ana.lookup m.input).getD []
        let full := c.inputs.all fun m => decide ((get m.2).length = 10)
        let ok := full && c.inputs.all fun m => (get m.2).all fun v => v.2.2
        let mean (l : List Rat) : Rat := if l = [] then 0 else l.sum / (l.length : Rat)
        let q := c.inputs.map fun m => (m.1, m.2.zero + m.2.gain * mean ((get m.2).map (·.1)))
        let t := mean (match c.inputs with | m :: _ => (get m.2).map (·.2.1) | [] => [])
        if full then L.onNtk fun k => { k with latched := k.latched ++ [{ slot := s, arrival := t, latch := L.now, chron := some t, tod := none, valid := ok, q := q }] }
        else L
  (forUpTo 30 one L).onNtk fun k => { k with ana := [] }

/-- Intake and Plotter in one tick (R178, R47): tick start `t`, length `dt` ns, position-cycle tick or not. The estimate enters INIT
at the first position-cycle tick (R162), once a Chart gives the model. -/
def Lane.plotterTick (L : Lane) (t dt : Rat) (pos : Bool) : Lane :=
  if !L.plt.own.begun then (if pos && L.chart.ok then L.plotInit t else L)
  else
    let dts := dt / 1000000000
    let L := if pos then L.rerunAdopt else L
    let th := L.thrustSum
    let L := L.onOwn fun q => { q with tauT := th.1, thrustCmd := th.2 }
    let L := L.propagate t dts
    let L := forUpTo 16 (fun k L => match L.trkCfg k with
      | some c => if (L.trk k).st = 5 ∨ !(L.trk k).seeded then L.onTrk k fun x => { x with age := x.age.map (· + dt), idle := x.idle + dt }
        else L.onTrk k fun x => (x.propagate c dts).cog c
      | none => L) L
    let L := if pos then
        let h := (t - L.plt.own.cur.time) / 1000000000
        (L.onOwn fun q => { q with h := h }).closeCycle.consistEnd
      else L
    let L := (L.slotTick dt).tgtShed
    let L := if L.coasting then L.onNtk fun k => { k with latched := [] } else L.judgeAll
    let L := (L.consistTick.windTick dts).motionTick
    let L := if pos then
        let L := L.heaveUpdate.refLossEval
        L.plotState.publish.intAges
      else L
    ((L.rerunStep L.singleFe).showRerun).intShow

/-- An engine FE has failed (R179): the survivor goes on, a re-run starts over; from the next tick tracks above its capacity are shed. -/
def Lane.plotterFeLost (L : Lane) : Lane :=
  let L := ((L.setb Reg.PLOT_FAULT_FE_LOST true).setb Reg.PLOT_STAT_SINGLE_FE true).find 0x0A 6
  L.onOwn fun q => match q.rerun with
    | some r => match r.redo with
      | d :: _ => q.startRerun d.1 r.age
      | [] => q.startRerun r.next r.age
    | none => q

/-- The tracks at a lane start, and when a target section becomes current (R175); their registers follow at the next publication
(R183). -/
def Lane.targetChart (L : Lane) (old : TargetChart) (start : Bool) : Lane :=
  let one (k : Nat) (L : Lane) : Lane :=
    match L.trkCfg k with
    | none => L.onTrk k fun _ => {}
    | some _ => if start ∨ L.trkCfg k ≠ old.tracks.getD k none then L.onTrk k fun _ => { st := 1 } else L
  forUpTo 20 (fun s L => if (L.feedOf s).isSome then L.biasNone s else L) (forUpTo 16 one L)

end Sys2Proof.Machine
end

