-- ==== Sys2Proof/Machine/Control.lean ====
section
/-! DEFINITION. Position, heading and track control (05): set-points, ramps, the law, handover, plausibility. Angles here are
degrees, forces kN. -/

namespace Sys2Proof.Machine

open Sys2Proof

/-- Gains and values per axis in force: 0 where no configured mode uses the entry left out. -/
def GainsEntry.resolve (g : GainsEntry) : Gains := ⟨g.kp.getD 0, g.kd.getD 0, g.ki.getD 0⟩
def AxesEntry.resolve (a : AxesEntry) : Axes := ⟨a.x.getD 0, a.y.getD 0, a.n.getD 0⟩

/-- The control section in force, with its defaults (R214). -/
def ControlEntry.resolve (c : ControlEntry) : ControlChart :=
  let lim := c.axisLim.resolve
  { c.toControlBase with
    sx := c.sx.resolve, sy := c.sy.resolve, sn := c.sn.resolve, tu := c.tu.resolve, ty := c.ty.resolve, tn := c.tn.resolve,
    intLim := c.intLim.resolve, axisLim := lim, axisRate := c.axisRate.resolve,
    joyGain := ⟨c.joyGain.x.getD lim.x, c.joyGain.y.getD lim.y, c.joyGain.n.getD lim.n⟩ }

/-- The control section in force. -/
def Lane.kc (L : Lane) : ControlChart := L.chart.now.ctl.resolve

/-- Absolute value, sign, clamp. -/
def qAbs (x : Rat) : Rat := if x < 0 then -x else x
def qSign (x : Rat) : Rat := if x < 0 then -1 else if 0 < x then 1 else 0
def qClamp (x lo hi : Rat) : Rat := max lo (min hi x)

/-- The fused state of the published record (R191). -/
def PlotRec.fused (r : PlotRec) : HState := ⟨r.n, r.e, deg360 (deg r.psi), r.u, r.v, deg r.r⟩

/-- FUSION_VALID (02 R77; 04 R161). -/
def Lane.fusionValid (L : Lane) : Bool := decide (L.plt.own.st = 1)

/-! ### Ramps -/

/-- Distance to bring a speed to zero within the limits, jerk phases counted (R203). -/
def stopDist (l : RampLim) (v a : Rat) : Rat :=
  let a := if v < 0 then -a else a
  let v := qAbs v
  if a < 0 ∧ 2 * l.j * v < a * a then
    let t := (-a - Config.sqrt (a * a - 2 * l.j * v)) / l.j
    v * t + a * t * t / 2 + l.j * t * t * t / 6
  else
    let ap := min l.a (Config.sqrt (l.j * v + a * a / 2))
    let t1 := (a + ap) / l.j
    let v1 := v + a * t1 - l.j * t1 * t1 / 2
    let d1 := v * t1 + a * t1 * t1 / 2 - l.j * t1 * t1 * t1 / 6
    let t3 := ap / l.j
    let t2 := if ap = 0 then 0 else max 0 ((v1 - ap * ap / (2 * l.j)) / ap)
    let d2 := v1 * t2 - ap * t2 * t2 / 2
    let v2 := v1 - ap * t2
    d1 + d2 + v2 * t3 - ap * t3 * t3 / 2 + l.j * t3 * t3 * t3 / 6

/-- What one cycle of the profile of R203 gives: displacement, speed, acceleration, arrival. -/
structure ProfOut where
  dp : Rat
  v : Rat
  a : Rat
  done : Bool
deriving DecidableEq, Repr

/-- One step of the along-track profile (R203): signed distance, speed, acceleration, limits with the acceleration left. -/
def profile (l : RampLim) (aLim h d v a : Rat) : ProfOut :=
  let s := if v = 0 then qSign d else qSign v
  let aim := if s ≠ qSign d ∨ qAbs d ≤ stopDist { l with a := aLim } v a then -s * aLim else if qAbs v < l.v then s * aLim else 0
  let a := a + qClamp (aim - a) (-l.j * h) (l.j * h)
  let v := qClamp (v + a * h) (-l.v) l.v
  if qAbs d < 1 / 1000 ∧ qAbs v < 1 / 1000 then ⟨d, 0, 0, true⟩ else ⟨v * h, v, a, false⟩

/-- The component across the line is brought to zero (R200). -/
def brake (l : RampLim) (h v a : Rat) : Rat × Rat :=
  if qAbs v < 1 / 1000 ∧ qAbs a ≤ l.j * h then (0, 0)
  else
    let aim := if qSign a ≠ qSign v ∧ v * v * 4 * l.j * l.j ≤ a * a * a * a then 0 else -qSign v * l.a
    let a := a + qClamp (aim - a) (-l.j * h) (l.j * h)
    (v + a * h, a)

/-- Earth-frame velocity and acceleration of a ramp. -/
def PosRamp.vel (r : PosRamp) : Rat × Rat := (r.v * r.un - r.va * r.ue, r.v * r.ue + r.va * r.un)
def PosRamp.acc (r : PosRamp) : Rat × Rat := (r.a * r.un - r.aa * r.ue, r.a * r.ue + r.aa * r.un)

/-- The motion split along and across a line of unit vector (`un`, `ue`); the line stays where the vector is none. -/
def PosRamp.split (r : PosRamp) (dn de : Rat) : PosRamp :=
  let d := Config.sqrt (dn * dn + de * de)
  if d = 0 then { r with moving := true }
  else
    let un := dn / d
    let ue := de / d
    let v := r.vel
    let a := r.acc
    { r with un := un, ue := ue, v := v.1 * un + v.2 * ue, va := -v.1 * ue + v.2 * un, a := a.1 * un + a.2 * ue,
             aa := -a.1 * ue + a.2 * un, moving := true }

/-- The line of travel is taken from the reference to the target (R200). -/
def PosRamp.reline (r : PosRamp) : PosRamp := r.split (r.tn - r.n) (r.te - r.e)

/-- The ramp brakes to rest along its motion, within its limits (R197, R199 STOP_RAMP). -/
def PosRamp.halt (r : PosRamp) : PosRamp := { r.split r.vel.1 r.vel.2 with stop := true }

/-- A ramp started at a state with acceleration zero (R203), towards a target. -/
def PosRamp.start (n e vn ve tn te : Rat) : PosRamp :=
  ({ n := n, e := e, tn := tn, te := te, un := 1, ue := 0, v := vn, va := ve } : PosRamp).reline

/-- A new target (R200). -/
def PosRamp.target (r : PosRamp) (tn te : Rat) : PosRamp := ({ r with tn := tn, te := te, stop := false }).reline

/-- Acceleration left along the line beside one across it (R200). -/
def RampLim.along (l : RampLim) (across : Rat) : Rat := Config.sqrt (max 0 (l.a * l.a - across * across))

/-- One cycle of a ramp that brakes: both components go to zero, and the point of rest is the target. -/
def PosRamp.brakeStep (r : PosRamp) (l : RampLim) (h : Rat) : PosRamp :=
  let b := brake l h r.va r.aa
  let c := brake { l with a := l.along b.2 } h r.v r.a
  let n := r.n + (c.1 * r.un - b.1 * r.ue) * h
  let e := r.e + (c.1 * r.ue + b.1 * r.un) * h
  if b.1 = 0 ∧ b.2 = 0 ∧ c.1 = 0 ∧ c.2 = 0 then { n := n, e := e, tn := n, te := e, un := r.un, ue := r.ue }
  else { r with n := n, e := e, v := c.1, a := c.2, va := b.1, aa := b.2 }

/-- The motion came to rest in a cycle: its speed reached zero or changed its sign (R201). -/
def turned (v w : Rat) : Bool := decide (w = 0) || (decide (v ≠ 0) && decide (qSign v ≠ qSign w))

/-- One cycle of the position ramp (R200, R201). -/
def PosRamp.step (r : PosRamp) (l : RampLim) (h : Rat) : PosRamp :=
  if !r.moving then r
  else if r.stop then r.brakeStep l h
  else
    let b := brake l h r.va r.aa
    let r := if r.va = 0 ∧ r.aa = 0 then r else if b.1 = 0 ∧ b.2 = 0 then ({ r with va := 0, aa := 0 }).reline else { r with va := b.1, aa := b.2 }
    let d := (r.tn - r.n) * r.un + (r.te - r.e) * r.ue
    let p := profile l (l.along r.aa) h d r.v r.a
    if p.done ∧ r.va = 0 then { r with n := r.tn, e := r.te, v := 0, a := 0, va := 0, aa := 0, moving := false, passed := false }
    else
      let pass := decide (qSign (d - p.dp) ≠ qSign d) && decide (d ≠ 0) && decide (p.v ≠ 0)
      let n := r.n + p.dp * r.un - r.va * h * r.ue
      let e := r.e + p.dp * r.ue + r.va * h * r.un
      { r with n := n, e := e, v := p.v, a := p.a, passed := (r.passed || pass) && !(turned r.v p.v && decide (r.va = 0)) }

/-- Signed travel from one heading to another: 0 the shorter way, 1 clockwise, 2 anticlockwise (R202). -/
def travel (dir : Nat) (frm dest : Rat) : Rat :=
  if dir = 1 then deg360 (dest - frm) else if dir = 2 then -(deg360 (frm - dest)) else wrapDeg (dest - frm)

/-- One cycle of the heading ramp (R202). -/
def LineRamp.step (r : LineRamp) (l : RampLim) (h : Rat) : LineRamp :=
  if !r.moving then r
  else if r.stop then
    let b := brake l h r.v r.a
    let x := deg360 (r.x + b.1 * h)
    if b.1 = 0 ∧ b.2 = 0 then { x := x } else { r with x := x, d := r.d - b.1 * h, v := b.1, a := b.2 }
  else
    let p := profile l l.a h r.d r.v r.a
    if p.done then { r with x := deg360 (r.x + r.d), d := 0, v := 0, a := 0, moving := false, passed := false }
    else
      let pass := decide (qSign (r.d - p.dp) ≠ qSign r.d) && decide (r.d ≠ 0)
      { r with x := deg360 (r.x + p.dp), d := r.d - p.dp, v := p.v, a := p.a, passed := (r.passed || pass) && !turned r.v p.v }

/-- One cycle of the speed ramp (R202): `x` speed, `v` its rate, `d` the target speed. -/
def LineRamp.speedStep (r : LineRamp) (l : RampLim) (h : Rat) : LineRamp :=
  let rem := r.d - r.x
  if qAbs rem < 1 / 1000 ∧ qAbs r.v ≤ l.j * h then { r with x := r.d, v := 0, moving := false }
  else
    let aim := if qSign r.v = qSign rem ∧ 2 * l.j * qAbs rem ≤ r.v * r.v then 0 else qSign rem * l.a
    let v := r.v + qClamp (aim - r.v) (-l.j * h) (l.j * h)
    { r with x := qClamp (r.x + v * h) (-l.v) l.v, v := v, moving := true }

/-! ### Set-point commands -/

/-- The outcome of a set-point command (R218); SP_REFUSED for refusals. -/
def Lane.spResult (L : Lane) (tag code : Nat) : Lane :=
  (L.setAll [(Reg.CTRL_SP_RESULT_TAG, tag), (Reg.CTRL_SP_RESULT_CODE, code)]).findIf (decide (1 ≤ code) && decide (code ≤ 5)) 0x10 2

/-- CTRL_SP_CMD with GO (R199): the command is held for the next position-cycle tick; it replaces an unapplied one. -/
def Lane.spSubmit (L : Lane) (cmd tag dir : Nat) : Lane :=
  let L := L.setAll [(Reg.CTRL_SP_CMD_CMD, cmd), (Reg.CTRL_SP_CMD_TAG, tag), (Reg.CTRL_SP_CMD_DIR, dir)]
  let tag := tag % 256
  if !L.active then L.spResult tag 5
  else if cmd < 1 ∨ 9 < cmd then L.spResult tag 1
  else
    let L := match L.ctl.pend with
      | some p => L.spResult p.tag 6
      | none => L
    L.onCtl fun c => { c with pend := some ⟨cmd, tag, dir % 4⟩ }

/-- A staged position and heading. -/
def Lane.stagedN (L : Lane) : Rat := (L.geti Reg.CTRL_SP_N_POS : Rat) / 1000
def Lane.stagedE (L : Lane) : Rat := (L.geti Reg.CTRL_SP_E_POS : Rat) / 1000
def Lane.stagedHdg (L : Lane) : Rat := (L.get Reg.CTRL_SP_HDG_HDG : Rat) / 10000

/-- A mode in which ramps run (R203). -/
def rampMode (m : Nat) : Bool := decide (7 ≤ m) && decide (m ≤ 11)

/-- The mode whose references are in force: in DEAD RECKONING, the one it came from (R198). -/
def CtlSt.refOf (c : CtlSt) (m : Nat) : Nat := if m = 11 then c.drFrom else m

/-- Ramps that a mode of `CtlSt.refOf` uses: position, heading, speed (R194). -/
def usesPos (m : Nat) : Bool := decide (m = 9) || decide (m = 10)
def usesHdg (m : Nat) : Bool := decide (7 ≤ m) && decide (m ≤ 10)
def usesSpd (m : Nat) : Bool := decide (m = 8)

/-- The mode whose references are in force. -/
def Lane.refMode (L : Lane) (m : Nat) : Nat := L.ctl.refOf m

/-- Accepts a position set-point (R199, R200). -/
def Lane.acceptPos (L : Lane) (n e : Rat) : Lane :=
  let L := L.onCtl fun c => { c with spN := n, spE := e, posDef := true }
  if L.refMode L.mode = 9 then L.onCtl fun c => { c with pos := c.pos.target n e } else L

/-- The heading ramp gets a signed travel to make. -/
def LineRamp.go (r : LineRamp) (d : Rat) : LineRamp := { r with d := d, moving := true, stop := false }

/-- The heading ramp takes a target the shorter way (R196, R197). -/
def Lane.hdgTarget (L : Lane) (h : Rat) : Lane := L.onCtl fun c => { c with hdg := c.hdg.go (travel 0 c.hdg.x h) }

/-- The reference heading stands elsewhere: the travels left to the accepted headings change with it (R202). -/
def CtlSt.hdgAt (c : CtlSt) (r : LineRamp) : CtlSt :=
  let m := wrapDeg (r.x - c.hdg.x)
  { c with hdg := r, spLeft := c.spLeft - m, courseLeft := c.courseLeft - m }

/-- Ramps that a mode does not use rest on the fused state (log entry 87). -/
def CtlSt.rest (c : CtlSt) (m : Nat) (f : HState) : CtlSt :=
  let c := if usesPos m then c else { c with pos := { n := f.n, e := f.e, tn := f.n, te := f.e } }
  let c := if usesSpd m then c else { c with spd := { x := f.u, d := c.spSpeed } }
  if usesHdg m then c else c.hdgAt { x := f.psi }

/-- The reference heading from which a direction of travel is decided (R202): the fused heading while no heading ramp runs (log
entry 87). -/
def Lane.hdgNow (L : Lane) : Lane :=
  if usesHdg (L.refMode L.mode) then L else L.onCtl fun c => c.hdgAt { x := L.plt.own.prec.fused.psi }

/-- Modes whose heading axis follows the heading set-point. -/
def Lane.hdgMode (L : Lane) : Bool :=
  let m := L.refMode L.mode
  decide (m = 7) || decide (m = 9)

/-- Accepts a heading set-point: the direction of travel is decided here (R199, R202). -/
def Lane.acceptHdg (L : Lane) (h : Rat) (dir : Nat) : Lane :=
  let L := L.hdgNow.onCtl fun c => { c with spHdg := h, spLeft := travel dir c.hdg.x h, hdgDef := true }
  if L.hdgMode then L.onCtl fun c => { c with hdg := c.hdg.go c.spLeft } else L

/-- Accepts a course (R196, R202). -/
def Lane.acceptCourse (L : Lane) (h : Rat) (dir : Nat) : Lane :=
  let L := L.hdgNow.onCtl fun c =>
    { c with apTrack := false, course := h, courseLeft := travel dir c.hdg.x h, legEnd := false, trackDef := true }
  if L.refMode L.mode = 8 then L.onCtl fun c => { c with hdg := c.hdg.go c.courseLeft } else L

/-- Distance of a point from the fused position, squared. -/
def Lane.fusedDist2 (L : Lane) (n e : Rat) : Rat :=
  let r := L.plt.own.prec
  (n - r.n) * (n - r.n) + (e - r.e) * (e - r.e)

/-- Applies the held command at step 1 of R190 (R199). -/
def Lane.spApply (L : Lane) : Lane :=
  match L.ctl.pend with
  | none => L
  | some p =>
    let L := L.onCtl fun c => { c with pend := none }
    let C := L.kc
    let n := L.stagedN
    let e := L.stagedE
    let ok (L : Lane) : Lane := L.spResult p.tag 0
    let posBad : Option Nat := if !L.fusionValid then some 3 else if C.spMaxDist * C.spMaxDist < L.fusedDist2 n e then some 2 else none
    match p.cmd with
    | 1 => match posBad with
      | some c => L.spResult p.tag c
      | none => ok (L.acceptPos n e)
    | 2 => if p.dir = 3 then L.spResult p.tag 4 else ok (L.acceptHdg L.stagedHdg p.dir)
    | 3 => match posBad with
      | some c => L.spResult p.tag c
      | none => if p.dir = 3 then L.spResult p.tag 4 else ok ((L.acceptPos n e).acceptHdg L.stagedHdg p.dir)
    | 4 =>
      if !L.fusionValid then L.spResult p.tag 3
      else
        let f := L.plt.own.prec.fused
        ok ((L.acceptPos f.n f.e).acceptHdg f.psi 0)
    | 5 =>
      let v : Rat := (L.geti Reg.CTRL_SP_SPEED_SPEED : Rat) / 1000
      if C.spd.v < qAbs v then L.spResult p.tag 4
      else ok (L.onCtl fun c => { c with spSpeed := v, spd := { c.spd with d := v } })
    | 6 =>
      let g (f : Fld) : Rat := (L.geti f : Rat) / 1000
      let fn := g Reg.CTRL_LEG_FN_POS
      let fe := g Reg.CTRL_LEG_FE_POS
      let tn := g Reg.CTRL_LEG_TN_POS
      let te := g Reg.CTRL_LEG_TE_POS
      if (tn - fn) * (tn - fn) + (te - fe) * (te - fe) < 1 then L.spResult p.tag 4
      else ok (L.onCtl fun c => { c with apTrack := true, legFn := fn, legFe := fe, legTn := tn, legTe := te, legEnd := false, trackDef := true })
    | 7 =>
      if p.dir = 3 then L.spResult p.tag 4
      else ok (L.acceptCourse L.stagedHdg p.dir)
    | 8 =>
      let x : Rat := (L.geti Reg.CTRL_FT_OFS_X : Rat) / 10
      let y : Rat := (L.geti Reg.CTRL_FT_OFS_Y : Rat) / 10
      let L := L.onCtl fun c => { c with ftX := x, ftY := y, ftHdg := (L.get Reg.CTRL_FT_HDG_HDG : Rat) / 10000, ftRel := L.flag Reg.CTRL_FT_HDG_REL }
      ok (if L.mode = 10 then L.onCtl fun c => { c with pos := c.pos.target x y } else L)
    | _ =>
      ok (L.onCtl fun c =>
        let c := if c.pos.moving then { c with pos := c.pos.halt } else c
        let c := if c.hdg.moving then { c with hdg := { c.hdg with stop := true } } else c
        if c.spd.moving then { c with spd := { c.spd with d := c.spd.x + c.spd.v * qAbs c.spd.v / (2 * C.spd.j) } } else c)

/-- SET_POS (R199): held for the next position-cycle tick. -/
def execSetPos (l : LaneId) (tag dir : Nat) (s : State) : Out := onLane l (fun L => L.spSubmit 1 tag dir) s
/-- SET_HDG (R199). -/
def execSetHdg (l : LaneId) (tag dir : Nat) (s : State) : Out := onLane l (fun L => L.spSubmit 2 tag dir) s
/-- SET_POS_HDG (R199). -/
def execSetPosHdg (l : LaneId) (tag dir : Nat) (s : State) : Out := onLane l (fun L => L.spSubmit 3 tag dir) s
/-- CAPTURE (R199). -/
def execCapture (l : LaneId) (tag dir : Nat) (s : State) : Out := onLane l (fun L => L.spSubmit 4 tag dir) s
/-- SET_SPEED (R199). -/
def execSetSpeed (l : LaneId) (tag dir : Nat) (s : State) : Out := onLane l (fun L => L.spSubmit 5 tag dir) s
/-- SET_LEG (R199). -/
def execSetLeg (l : LaneId) (tag dir : Nat) (s : State) : Out := onLane l (fun L => L.spSubmit 6 tag dir) s
/-- SET_COURSE (R199). -/
def execSetCourse (l : LaneId) (tag dir : Nat) (s : State) : Out := onLane l (fun L => L.spSubmit 7 tag dir) s
/-- SET_FT_OFS (R199). -/
def execSetFtOfs (l : LaneId) (tag dir : Nat) (s : State) : Out := onLane l (fun L => L.spSubmit 8 tag dir) s
/-- STOP_RAMP (R199). -/
def execStopRamp (l : LaneId) (tag dir : Nat) (s : State) : Out := onLane l (fun L => L.spSubmit 9 tag dir) s

/-! ### Joystick -/

/-- A field of CTRL_JOY as stored: -512 reads as -511 (R218). -/
def joyField (v : Nat) : Nat := if v % 1024 = 512 then 513 else v % 1024

/-- CTRL_JOY_WRITE (R195): on the active lane only. -/
def Lane.joyWrite (L : Lane) (x y n : Nat) : Lane :=
  if !L.active then L
  else
    let L := L.setAll [(Reg.CTRL_JOY_X, joyField x), (Reg.CTRL_JOY_Y, joyField y), (Reg.CTRL_JOY_N, joyField n)]
    let v (f : Fld) : Rat := (L.geti f : Rat) / 511
    let L := L.onCtl fun c => { c with joyX := v Reg.CTRL_JOY_X, joyY := v Reg.CTRL_JOY_Y, joyN := v Reg.CTRL_JOY_N, joyAge := 0, joyGiven := true }
    if L.kc.joySrc = none then (L.onCtl fun c => { c with joyStale := false }).setb Reg.CTRL_STAT_JOY_STALE false else L

/-- CTRL_JOY_WRITE (R195). -/
def execCtrlJoyWrite (l : LaneId) (x y n : Nat) (s : State) : Out := onLane l (fun L => L.joyWrite x y n) s

/-- An analogue value through its scaling, if its sample of the tick is VALID. -/
def Lane.anaValue (L : Lane) (m : AnaMap) : Option Rat :=
  match (L.ana.ins.getD m.input {}).latched with
  | some v => if v.st = .valid then some (m.zero + m.gain * v.value) else none
  | none => none

/-- The joystick in force: values -1 to +1, neutral where stale (R195), and whether it is stale. -/
def Lane.joy (L : Lane) : Rat × Rat × Rat × Bool :=
  match L.kc.joySrc with
  | none =>
    let c := L.ctl
    if !c.joyGiven ∨ (L.kc.joyTimeout : Rat) * 1000000 < c.joyAge then (0, 0, 0, true) else (c.joyX, c.joyY, c.joyN, false)
  | some s =>
    let a := L.anaValue s.1
    let b := L.anaValue s.2.1
    let c := L.anaValue s.2.2
    let v (x : Option Rat) : Rat := qClamp (x.getD 0) (-1) 1
    (v a, v b, v c, a.isNone || b.isNone || c.isNone)

/-- JOY_STALE (R195). -/
def Lane.joyStaleCmd (L : Lane) : Lane :=
  if L.joy.2.2.2 ∧ !L.ctl.joyStale then ((L.onCtl fun c => { c with joyStale := true }).setb Reg.CTRL_STAT_JOY_STALE true).find 0x10 6 else L

/-- JOY_STALE (R195). -/
def execJoyStale (l : LaneId) (s : State) : Out := onLane l Lane.joyStaleCmd s

/-- A shaped joystick value (R195). -/
def Lane.joyShape (L : Lane) (j : Rat) : Rat :=
  let d := L.kc.joyDead
  if d < qAbs j then qSign j * (qAbs j - d) / (1 - d) else 0

/-- JOYSTICK_NEUTRAL (R195; 02 R77). -/
def Lane.joyNeutral (L : Lane) : Bool :=
  let j := L.joy
  let d := L.kc.joyDead
  decide (qAbs j.1 ≤ d) && decide (qAbs j.2.1 ≤ d) && decide (qAbs j.2.2.1 ≤ d)

/-! ### References -/

/-- The selected track, if it is VALID or COASTING (04 R176). -/
def Lane.selTrack (L : Lane) : Option TrackSt :=
  let k := L.get Reg.TGT_SEL_TRACK
  if k < 16 ∧ (L.trkCfg k).isSome ∧ ((L.trk k).st = 2 ∨ (L.trk k).st = 3) then some (L.trk k) else none

/-- A track's velocity, clipped to FT_VMAX, and whether it was clipped (R197). -/
def Lane.trackVel (L : Lane) (t : TrackSt) : Rat × Rat × Bool :=
  let vn := vAt t.x 2
  let ve := vAt t.x 3
  let m := L.kc.ftVmax
  if m * m < vn * vn + ve * ve then
    let s := Config.sqrt (vn * vn + ve * ve)
    (vn * m / s, ve * m / s, true)
  else (vn, ve, false)

/-- The reference of the position axes in a mode: position, velocity, acceleration in the earth frame (R191, R197). -/
structure RefVec where
  n : Rat := 0
  e : Rat := 0
  vn : Rat := 0
  ve : Rat := 0
  an : Rat := 0
  ae : Rat := 0
deriving DecidableEq, Repr

/-- The position reference (R197): in FOLLOW-TARGET the ramp holds the offset in the target's axes. -/
def Lane.refVec (L : Lane) (m : Nat) : RefVec :=
  let r := L.ctl.pos
  let v := r.vel
  let a := r.acc
  if m = 10 then
    match L.selTrack with
    | some t =>
      let p := rotE (vAt t.x 4) r.n r.e
      let vr := rotE (vAt t.x 4) v.1 v.2
      let ar := rotE (vAt t.x 4) a.1 a.2
      let tv := L.trackVel t
      ⟨vAt t.x 0 + p.1, vAt t.x 1 + p.2, tv.1 + vr.1, tv.2.1 + vr.2, ar.1, ar.2⟩
    | none => ⟨L.ctl.refN, L.ctl.refE, L.ctl.refVn, L.ctl.refVe, 0, 0⟩
  else ⟨r.n, r.e, v.1, v.2, a.1, a.2⟩

/-- Direction of the leg and cross-track distance (R196), and the along-track distance left to TO. -/
def CtlSt.leg (c : CtlSt) (n e : Rat) : Rat × Rat × Rat :=
  let dn := c.legTn - c.legFn
  let de := c.legTe - c.legFe
  let len := Config.sqrt (dn * dn + de * de)
  let chi := deg (Config.atan2 de dn)
  let u := if len = 0 then (1, 0) else (dn / len, de / len)
  let s := (n - c.legFn) * u.1 + (e - c.legFe) * u.2
  (chi, -(n - c.legFn) * u.2 + (e - c.legFe) * u.1, len - s)

/-- The state the law uses: fused, or the law's own model state for a group on hold (R211). -/
def Lane.lawState (L : Lane) : HState :=
  let f := L.plt.own.prec.fused
  let m := L.ctl.model
  let f := if L.ctl.pp.hold then { f with n := m.n, e := m.e, u := m.u, v := m.v } else f
  if L.ctl.ph.hold then { f with psi := m.psi, r := m.r } else f

/-- The reference out of FOLLOW-TARGET made fixed (R197, R198): position and heading ramp brake to rest. -/
def Lane.fixRef (L : Lane) : Lane :=
  let r := L.refVec 10
  L.onCtl fun c => { c with pos := (PosRamp.start r.n r.e r.vn r.ve r.n r.e).halt, hdg := { c.hdg with stop := true, moving := true } }

/-- The position ramp in the axes of the selected track, towards the offset held (R197). -/
def Lane.ftRamp (L : Lane) (n e vn ve : Rat) : Lane :=
  match L.selTrack with
  | some t =>
    let tv := L.trackVel t
    let o := rotB (vAt t.x 4) (n - vAt t.x 0) (e - vAt t.x 1)
    let w := rotB (vAt t.x 4) (vn - tv.1) (ve - tv.2.1)
    L.onCtl fun c => { c with pos := PosRamp.start o.1 o.2 w.1 w.2 c.ftX c.ftY }
  | none => L

/-- The position ramp at a transition between reference modes (R197, R198, R203): it starts at the fused state where it did not run,
and goes on where it did. Out of FOLLOW-TARGET into AUTO-POSITION the reference becomes the set-point. -/
def Lane.posEntry (L : Lane) (f : HState) (fm dm dest : Nat) : Lane :=
  let v := rotE (rad f.psi) f.u f.v
  if !usesPos dm then L
  else if fm = 10 ∧ dest ≠ 10 then
    let r := L.refVec 10
    let L := L.fixRef
    if dest = 9 then L.onCtl fun c => { c with spN := r.n, spE := r.e, spHdg := c.hdg.x, spLeft := 0 } else L
  else if dm = 10 then
    if usesPos fm then
      let p := L.ctl.pos
      L.ftRamp p.n p.e p.vel.1 p.vel.2
    else L.ftRamp f.n f.e v.1 v.2
  else if usesPos fm then (if dest = 9 ∧ L.ctl.drFrom = 10 then L.onCtl fun c => { c with pos := c.pos.target c.spN c.spE } else L)
  else L.onCtl fun c => { c with pos := PosRamp.start f.n f.e v.1 v.2 c.spN c.spE }

/-- The heading ramp's aim at a transition between reference modes (R196, R202, R203): where another thing is aimed at, the travel left
to the accepted set-point or course; without a set-point the reference heading stays (log entry 87). -/
def CtlSt.hdgEntry (c : CtlSt) (fm dm : Nat) : CtlSt :=
  let sp (m : Nat) : Bool := decide (m = 7) || decide (m = 9)
  if sp dm then (if sp fm then c else { c with hdg := c.hdg.go (if c.hdgDef then c.spLeft else 0) })
  else if dm = 8 ∧ fm ≠ 8 ∧ !c.apTrack then { c with hdg := c.hdg.go c.courseLeft }
  else c

/-- The ramps at a transition (R197, R198, R203). -/
def Lane.rampEntry (L : Lane) (frm dest : Nat) : Lane :=
  let f := L.plt.own.prec.fused
  let fm := L.refMode frm
  let dm := if dest = 11 then frm else dest
  let fixes := decide (fm = 10) && decide (dest ≠ 10)
  let L := L.onCtl fun c =>
    let c := if usesHdg dm ∧ !usesHdg fm then c.hdgAt { x := f.psi, v := f.r } else c
    if usesSpd dm ∧ !usesSpd fm then { c with spd := { x := f.u, d := c.spSpeed, moving := true } } else c
  let L := L.posEntry f (if frm = 11 then (if fm = 10 then 9 else fm) else fm) dm dest
  L.onCtl fun c =>
    let c := { c with drFrom := if dest = 11 then frm else c.drFrom, drTime := 0 }
    let c := if fixes && decide (frm = 10) && (decide (dest = 9) || decide (dest = 11)) then c
      else if dest = 11 ∧ usesHdg fm then c
      else c.hdgEntry fm dm
    c.rest dm f

/-- Heading aim of the mode in force, retargeted every cycle where it moves (R196, R197), from the state the law uses (R211). -/
def Lane.hdgRetarget (L : Lane) : Lane :=
  let m := L.refMode L.mode
  let S := L.lawState
  if m = 8 ∧ L.ctl.apTrack then
    let g := L.ctl.leg S.n S.e
    L.hdgTarget (g.1 - deg (Config.atan2 g.2.1 L.kc.losDist))
  else if m = 10 ∧ L.mode = 10 then
    match L.selTrack with
    | some t => L.hdgTarget (if L.ctl.ftRel then deg (vAt t.x 4) + L.ctl.ftHdg else L.ctl.ftHdg)
    | none => L
  else L

/-- The ramps advance by one position cycle of `h` s (R190 step 5); one that starts in this tick stands at the fused state (R203), and
one not in use rests there. -/
def Lane.rampTick (L : Lane) (h : Rat) : Lane :=
  let C := L.kc
  let f := L.plt.own.prec.fused
  let m := L.refMode L.mode
  let goes (uses : Nat → Bool) : Bool := match L.ctl.fromMode with
    | some k => uses (L.refMode k)
    | none => true
  let L := L.hdgRetarget
  L.onCtl fun c =>
    let c := if usesPos m && goes usesPos then { c with pos := c.pos.step C.pos h } else c
    let c := if usesHdg m && goes usesHdg then c.hdgAt (c.hdg.step C.hdg h) else c
    let c := if usesSpd m && goes usesSpd then { c with spd := c.spd.speedStep C.spd h } else c
    c.rest m f

/-! ### The law -/

/-- One axis evaluated: output without integrator and remainder, whether it has an integrator, the integrator's rate. -/
structure AxTerm where
  base : Rat := 0
  hasInt : Bool := false
  rate : Rat := 0
deriving DecidableEq, Repr

/-- Errors as CTRL_ERR shows them, with the terms of the three axes (R191-R198). -/
structure LawOut where
  x : AxTerm := {}
  y : AxTerm := {}
  n : AxTerm := {}
  ex : Rat := 0
  ey : Rat := 0
  eh : Rat := 0
  xte : Rat := 0
deriving DecidableEq, Repr

/-- Feed-forward in kN and kN·m (R192): reference acceleration in body axes, m/s² and °/s². b is turned into the body axes of the
heading `psi`, in degrees, that the law uses (R211). -/
def Lane.ff (L : Lane) (psi ax ay ar : Rat) : Axes :=
  let C := L.kc
  let r := L.plt.own.prec
  let b := rotB (rad psi) r.envNE.x r.envNE.y
  let m := mVec L.vc.m [ax, ay, rad ar]
  let one (w b i : Rat) : Rat := (-C.kWind * w - C.kEnv * b + i) / 1000
  ⟨one r.wind.x b.1 (vAt m 0), one r.wind.y b.2 (vAt m 1), one r.wind.n r.envNE.n (vAt m 2)⟩

/-- Feed-forward of a joystick axis (R192). -/
def Lane.ffJoy (L : Lane) : Axes :=
  let C := L.kc
  let r := L.plt.own.prec
  if C.joyWindFf then ⟨-C.kWind * r.wind.x / 1000, -C.kWind * r.wind.y / 1000, -C.kWind * r.wind.n / 1000⟩ else {}

/-- A feedback axis (R191). -/
def fbAxis (g : Gains) (scale e ed ff : Rat) : AxTerm := ⟨scale * (g.kp * e + g.kd * ed) + ff, true, g.ki * e⟩

/-- The law of a mode on a state (R191-R198): `sp`, `sh`: the position or heading group's gains are scaled (R211). -/
def Lane.law (L : Lane) (mode : Nat) (S : HState) (sp sh : Bool) : LawOut :=
  let C := L.kc
  let m := L.refMode mode
  let dr : Rat := if mode = 11 then C.drScale else 1
  let kp : Rat := if sp then dr * C.drScale else dr
  let kh : Rat := if sh then dr * C.drScale else dr
  let psi := rad S.psi
  let hd := L.ctl.hdg
  let eh := wrapDeg (hd.x - S.psi)
  let ed := hd.v - S.r
  let j := L.joy
  let fj := L.ffJoy
  if m = 6 then
    { x := ⟨C.joyGain.x * L.joyShape j.1 + fj.x, false, 0⟩, y := ⟨C.joyGain.y * L.joyShape j.2.1 + fj.y, false, 0⟩,
      n := ⟨C.joyGain.n * L.joyShape j.2.2.1 + fj.n, false, 0⟩ }
  else if m = 7 then
    let f := L.ff S.psi 0 0 hd.a
    { x := ⟨C.joyGain.x * L.joyShape j.1 + fj.x, false, 0⟩, y := ⟨C.joyGain.y * L.joyShape j.2.1 + fj.y, false, 0⟩,
      n := fbAxis C.sn kh eh ed f.n, eh := eh }
  else if m = 8 then
    let sr := L.ctl.spd
    let f := L.ff S.psi sr.v 0 hd.a
    let eu := sr.x - S.u
    let x : AxTerm := ⟨kp * C.tu.kp * eu + f.x, true, C.tu.ki * eu⟩
    let n := fbAxis C.tn kh eh ed f.n
    if L.ctl.apTrack then
      let g := L.ctl.leg S.n S.e
      let chi := rad g.1
      let b := rotB psi (g.2.1 * Config.sin chi) (-g.2.1 * Config.cos chi)
      let v := rotE psi S.u S.v
      let vx := -v.1 * Config.sin chi + v.2 * Config.cos chi
      let d := rotB psi (vx * Config.sin chi) (-vx * Config.cos chi)
      let y : AxTerm := if C.trackSway then fbAxis C.ty kp b.2 d.2 f.y else ⟨f.y, false, 0⟩
      { x := x, y := y, n := n, ex := b.1, ey := b.2, eh := eh, xte := g.2.1 }
    else { x := x, y := ⟨f.y, false, 0⟩, n := n, eh := eh }
  else if m = 9 ∨ m = 10 then
    let r := L.refVec (if mode = 11 then 9 else m)
    let b := rotB psi (r.n - S.n) (r.e - S.e)
    let v := rotB psi r.vn r.ve
    let a := rotB psi r.an r.ae
    let f := L.ff S.psi a.1 a.2 hd.a
    { x := fbAxis C.sx kp b.1 (v.1 - S.u) f.x, y := fbAxis C.sy kp b.2 (v.2 - S.v) f.y, n := fbAxis C.sn kh eh ed f.n,
      ex := b.1, ey := b.2, eh := eh }
  else {}

/-- A remainder set (R207): blend time the larger of TRANSFER and |H| / AXIS_RATE, in whole position cycles. -/
def Lane.remainder (L : Lane) (h rate : Rat) : Remainder :=
  let t := max L.kc.transfer (qAbs h / rate)
  let c := (t * 100).ceil.toNat
  if h = 0 then {} else { h := h, step := h / (c : Rat), left := c }

/-- A remainder advanced by one executed cycle. -/
def Remainder.tick (r : Remainder) : Remainder := if r.left ≤ 1 then {} else { r with h := r.h - r.step, left := r.left - 1 }

/-- Integrator and remainder at a handover (R206); an axis without integrator keeps the value held in it (R205). -/
def Lane.handoverAxis (L : Lane) (t : AxTerm) (held out lim rate : Rat) : Rat × Remainder :=
  if t.hasInt then
    let i := qClamp (out - t.base) (-lim) lim
    (i, L.remainder (out - t.base - i) rate)
  else (held, L.remainder (out - t.base) rate)

/-- Whether the emergency-stop overlay has removed every channel that acts in an axis (R204; 02 R86): 0 X, 1 Y, 2 N. Some channel
able to act in it is STOPPED, and none that remains is ONLINE. -/
def Lane.overlayed (L : Lane) (axis : Nat) : Bool :=
  let able := (List.range 16).filter fun n => match L.chCfg n with
    | some c =>
      let ax := decide (c.ty ≠ .tunnel)
      let ay := decide (c.ty ≠ .shaft)
      if axis = 0 then ax else if axis = 1 then ay else (ay && decide (c.x ≠ 0)) || (ax && decide (c.y ≠ 0))
    | none => false
  (able.any fun n => decide ((L.ch n).st = .stopped)) && able.all fun n => decide ((L.ch n).st ≠ .online)

/-- Saturation sources before the clip (R204). -/
def Lane.satOf (L : Lane) (axis : Nat) (short lim : Rat) (clip : Bool) : SatAx :=
  ⟨clip, decide (L.kc.satTol * lim < qAbs short), L.overlayed axis⟩

/-- Any source of saturation. -/
def SatAx.any (s : SatAx) : Bool := s.limit || s.short || s.overlay

/-- CTRL_SAT code of an axis. -/
def SatAx.code (s : SatAx) : Nat := (if s.limit then 1 else 0) + (if s.short then 2 else 0) + (if s.overlay then 4 else 0)

/-- STAT bits of the mode, of the autopilot and of the ramps in use (R217). -/
def Lane.ctlStat (L : Lane) : Lane :=
  let c := L.ctl
  let b (v : Bool) : Nat := if v then 1 else 0
  L.setAll [(Reg.CTRL_STAT_PASSED, b (c.pos.passed || c.hdg.passed)), (Reg.CTRL_STAT_LEG_END, b c.legEnd), (Reg.CTRL_STAT_AP_TRACK, b c.apTrack),
    (Reg.CTRL_STAT_DR_ACTIVE, b (decide (L.mode = 11))), (Reg.CTRL_STAT_RAMP_HDG, b (c.hdg.moving || c.spd.moving)),
    (Reg.CTRL_STAT_RAMP_POS, b c.pos.moving)]

/-- Registers 0x58 to 0x98 (R216, R218). -/
def Lane.ctlShow (L : Lane) : Lane :=
  let c := L.ctl
  let L := (L.setiScaled Reg.CTRL_REF_N_POS c.refN (1 / 1000)).setiScaled Reg.CTRL_REF_E_POS c.refE (1 / 1000)
  let L := L.set Reg.CTRL_REF_HDG_HDG ((codeOf (deg360 c.refHdg) (1 / 10000)).toNat % 3600000)
  let L := (L.setiScaled Reg.CTRL_REF_VEL_VN c.refVn (1 / 1000)).setiScaled Reg.CTRL_REF_VEL_VE c.refVe (1 / 1000)
  let f (L : Lane) (g : Fld) (v : Rat) : Lane := L.setiScaled g v (1 / 100)
  let L := f (f (f L Reg.CTRL_DEM_X_FORCE c.dem.x) Reg.CTRL_DEM_Y_FORCE c.dem.y) Reg.CTRL_DEM_MZ_MOMENT c.dem.n
  let L := f (f (f L Reg.CTRL_INT_X_FORCE c.int.x) Reg.CTRL_INT_Y_FORCE c.int.y) Reg.CTRL_INT_MZ_MOMENT c.int.n
  let L := f (f (f L Reg.CTRL_BLEND_X_FORCE c.rx.h) Reg.CTRL_BLEND_Y_FORCE c.ry.h) Reg.CTRL_BLEND_MZ_MOMENT c.rn.h
  let e (L : Lane) (g : Fld) (v : Rat) : Lane := f L g (qClamp v (-32767 / 100) (32767 / 100))
  let L := e (e (e (e L Reg.CTRL_ERR_XY_EX c.ex) Reg.CTRL_ERR_XY_EY c.ey) Reg.CTRL_ERR_HX_EHDG c.eh) Reg.CTRL_ERR_HX_XTE c.xte
  let b (v : Bool) : Nat := if v then 1 else 0
  let L := L.setAll [(Reg.CTRL_SAT_X, c.sx.code), (Reg.CTRL_SAT_Y, c.sy.code), (Reg.CTRL_SAT_N, c.sn.code), (Reg.CTRL_SAT_INT_HELD, c.held),
    (Reg.CTRL_STAT_SAT_X, b c.sx.any), (Reg.CTRL_STAT_SAT_Y, b c.sy.any), (Reg.CTRL_STAT_SAT_N, b c.sn.any),
    (Reg.CTRL_STAT_FT_SPEED, b c.ftSpeed)]
  let L := (L.ctlStat).setAll [(Reg.CTRL_STAT_PLAUS_POS, b c.pp.hold), (Reg.CTRL_STAT_PLAUS_HDG, b c.ph.hold)]
  L.setScaled Reg.CTRL_SUPV_DR_ELAPSED (if L.mode = 11 then c.drTime else 0) (1 / 10)

/-- BLENDING is set while a remainder runs (R207); CTRL_BLEND_DONE clears it. -/
def Lane.blendShow (L : Lane) : Lane :=
  if L.ctl.rx.left = 0 ∧ L.ctl.ry.left = 0 ∧ L.ctl.rn.left = 0 then L
  else (L.setb Reg.CTRL_STAT_BLENDING true).setb Reg.MODE_CUR_BLENDING true

/-- CTRL_BLEND_DONE (R207): the last remainder has reached 0. -/
def Lane.blendDone (L : Lane) : Lane :=
  if L.flag Reg.CTRL_STAT_BLENDING ∧ L.ctl.rx.left = 0 ∧ L.ctl.ry.left = 0 ∧ L.ctl.rn.left = 0 then
    ((L.setb Reg.CTRL_STAT_BLENDING false).setb Reg.MODE_CUR_BLENDING false).find 0x10 1
  else L

/-- CTRL_BLEND_DONE (R207). -/
def execCtrlBlendDone (l : LaneId) (s : State) : Out := onLane l Lane.blendDone s

/-- Leg end and target speed, evaluated with the law (R196, R197). -/
def Lane.lawFlags (L : Lane) : Lane :=
  let m := L.refMode L.mode
  let L := if m = 8 ∧ L.ctl.apTrack then
      let s := L.lawState
      let left := (L.ctl.leg s.n s.e).2.2
      if left < L.kc.arriveDist ∧ !L.ctl.legEnd then (L.onCtl fun c => { c with legEnd := true }).find 0x10 5 else L
    else L
  let clip := decide (L.mode = 10) && (match L.selTrack with | some t => (L.trackVel t).2.2 | none => false)
  L.onCtl fun c => { c with ftSpeed := clip }

/-- Step 7 of R190: the law, with the handover of a transition made in this tick (R193, R204-R209); `h` s. -/
def Lane.lawStep (L : Lane) (h : Rat) : Lane :=
  let C := L.kc
  let mode := L.mode
  let L := L.lawFlags
  let c := L.ctl
  let S := L.lawState
  if mode < 6 then
    let L := if mode = 5 then L else L.onCtl fun c => { c with dem := {} }
    let L := L.onCtl fun c => { c with held := 7, fromMode := none, rx := {}, ry := {}, rn := {}, sx := {}, sy := {}, sn := {}, xte := 0 }
    ((L.incWrap Reg.CTRL_CYCLE_COUNT).setAll [(Reg.CTRL_STAT_BLENDING, 0), (Reg.MODE_CUR_BLENDING, 0)]).ctlShow
  else
    let o := L.law mode S c.pp.hold c.ph.hold
    let out : Axes := match c.fromMode with
      | some f => if f = 3 ∨ f = 4 then {} else if f = 5 then let t := L.plt.own.prec.thrust; ⟨t.x / 1000, t.y / 1000, t.n / 1000⟩ else c.dem
      | none => c.dem
    let hand := c.fromMode.isSome
    let hx := L.handoverAxis o.x c.int.x out.x C.intLim.x C.axisRate.x
    let hy := L.handoverAxis o.y c.int.y out.y C.intLim.y C.axisRate.y
    let hn := L.handoverAxis o.n c.int.n out.n C.intLim.n C.axisRate.n
    let int : Axes := if hand then ⟨hx.1, hy.1, hn.1⟩ else c.int
    let rx := if hand then hx.2 else c.rx.tick
    let ry := if hand then hy.2 else c.ry.tick
    let rn := if hand then hn.2 else c.rn.tick
    let raw : Axes := ⟨o.x.base + (if o.x.hasInt then int.x else 0) + rx.h, o.y.base + (if o.y.hasInt then int.y else 0) + ry.h,
      o.n.base + (if o.n.hasInt then int.n else 0) + rn.h⟩
    let dem : Axes := ⟨qClamp raw.x (-C.axisLim.x) C.axisLim.x, qClamp raw.y (-C.axisLim.y) C.axisLim.y, qClamp raw.n (-C.axisLim.n) C.axisLim.n⟩
    let sh := L.alc.short
    let sx := L.satOf 0 sh.x C.axisLim.x (decide (dem.x ≠ raw.x))
    let sy := L.satOf 1 sh.y C.axisLim.y (decide (dem.y ≠ raw.y))
    let sn := L.satOf 2 sh.n C.axisLim.n (decide (dem.n ≠ raw.n))
    let dr := decide (mode = 11)
    let heldX := sx.any || dr || c.pp.hold || !o.x.hasInt
    let heldY := sy.any || dr || c.pp.hold || !o.y.hasInt
    let heldN := sn.any || dr || c.ph.hold || !o.n.hasInt
    let adv (i r lim : Rat) (held : Bool) : Rat := if held then i else qClamp (i + r * h) (-lim) lim
    let int : Axes := ⟨adv int.x o.x.rate C.intLim.x heldX, adv int.y o.y.rate C.intLim.y heldY, adv int.n o.n.rate C.intLim.n heldN⟩
    let newSat := (sx.any && !c.sx.any) || (sy.any && !c.sy.any) || (sn.any && !c.sn.any)
    let b (v : Bool) (k : Nat) : Nat := if v then k else 0
    let rv := L.refVec (if mode = 11 then 9 else mode)
    let L := L.onCtl fun c => { c with dem := dem, int := int, rx := rx, ry := ry, rn := rn, sx := sx, sy := sy, sn := sn,
                                       held := b heldX 1 + b heldY 2 + b heldN 4, fromMode := none }
    let L := L.onCtl fun c => { c with ex := o.ex, ey := o.ey, eh := o.eh, xte := o.xte, refN := rv.n, refE := rv.e, refVn := rv.vn, refVe := rv.ve,
                                       refHdg := c.hdg.x }
    let L := L.onCtl fun c => { c with drTime := if dr then c.drTime + h else 0 }
    ((L.findIf newSat 0x10 0).incWrap Reg.CTRL_CYCLE_COUNT).ctlShow.blendShow

/-! ### Plausibility -/

/-- One cycle of the horizontal equations from a state (R210), with the forces of this cycle's record and b held from the record
before it. -/
def Lane.modelStep (L : Lane) (s : HState) (h : Rat) : HState :=
  let r := L.plt.own.prec
  let b := L.plt.own.prev.envNE
  let x := vTab 42 fun i =>
    if i = 0 then s.n else if i = 1 then s.e else if i = 2 then rad s.psi else if i = 3 then s.u else if i = 4 then s.v
    else if i = 6 then rad s.r else if i = 7 then b.x else if i = 8 then b.y else if i = 9 then b.n else 0
  let y := L.vc.step (r.thrust.add r.wind) x h
  ⟨vAt y 0, vAt y 1, deg360 (deg (vAt y 2)), vAt y 3, vAt y 4, deg (vAt y 6)⟩

/-- Whether the published record fails the test: position group, heading group (R210). -/
def Lane.plausFails (L : Lane) (h : Rat) : Bool × Bool :=
  let C := L.kc
  let q := L.plt.own
  let r := q.prec
  if r.st = 2 ∨ r.st = 3 then (false, false)
  else
    let k : Rat := if r.revised then 4 else 1
    let p := L.modelStep q.prev.fused h
    let f := r.fused
    let dn := f.n - p.n
    let de := f.e - p.e
    let du := f.u - p.u
    let dv := f.v - p.v
    let lp := k * C.plausPos
    let lv := k * C.plausVel
    (decide (lp * lp < dn * dn + de * de) || decide (lv * lv < du * du + dv * dv), decide (k * C.plausHdg < qAbs (wrapDeg (f.psi - p.psi))))

/-- A group's bookkeeping for one record (R211, R212): whether it trips now. -/
def PlausGrp.take (g : PlausGrp) (fail : Bool) (ok : Nat) (h : Rat) : PlausGrp × Bool :=
  let run := if fail then 0 else g.okRun + 1
  if g.hold then ({ g with okRun := run, time := g.time + h }, false)
  else if g.deaf then ({ g with okRun := run, deaf := decide (run < ok) }, false)
  else if fail then ({ hold := true }, true)
  else ({ g with okRun := run }, false)

/-- Step 6 of R190 (R210, R211). -/
def Lane.plausStep (L : Lane) (h : Rat) : Lane :=
  let C := L.kc
  if !rampMode L.mode then L.onCtl fun c => { c with pp := {}, ph := {} }
  else
    let q := L.plt.own
    let f := L.plausFails h
    let c := L.ctl
    let a := c.pp.take f.1 C.plausOk h
    let b := c.ph.take f.2 C.plausOk h
    let good := q.prev.fused
    let base : HState :=
      { n := if c.pp.hold then c.model.n else good.n, e := if c.pp.hold then c.model.e else good.e, u := if c.pp.hold then c.model.u else good.u,
        v := if c.pp.hold then c.model.v else good.v, psi := if c.ph.hold then c.model.psi else good.psi, r := if c.ph.hold then c.model.r else good.r }
    let m := L.modelStep base h
    let trips := (if a.2 then 1 else 0) + (if b.2 then 1 else 0)
    let L := L.onCtl fun c => { c with pp := a.1, ph := b.1, model := m }
    if trips = 0 then L else (L.incSat Reg.CTRL_PLAUS_CNT_TRIPS trips).find 0x10 3

/-- CTRL_REBASE (R212): the hold of a group ends; the axes it governs blend from the held to the fused state. -/
def Lane.rebase (L : Lane) (heading : Bool) : Lane :=
  let C := L.kc
  let g := if heading then L.ctl.ph else L.ctl.pp
  let byOk := decide (C.plausOk ≤ g.okRun)
  if !g.hold ∨ !(byOk || decide (C.plausHold ≤ g.time)) then L
  else
    let mode := L.mode
    let a := L.law mode L.lawState L.ctl.pp.hold L.ctl.ph.hold
    let ng : PlausGrp := { deaf := !byOk, okRun := g.okRun }
    let L := L.onCtl fun c => if heading then { c with ph := ng } else { c with pp := ng }
    let b := L.law mode L.lawState L.ctl.pp.hold L.ctl.ph.hold
    let L := L.onCtl fun c =>
      if heading then { c with rn := L.remainder (a.n.base - b.n.base + c.rn.h) C.axisRate.n }
      else { c with rx := L.remainder (a.x.base - b.x.base + c.rx.h) C.axisRate.x, ry := L.remainder (a.y.base - b.y.base + c.ry.h) C.axisRate.y }
    let L := ((L.incSat Reg.CTRL_PLAUS_CNT_REBASES).find 0x10 4).setb (if heading then Reg.CTRL_STAT_PLAUS_HDG else Reg.CTRL_STAT_PLAUS_POS) false
    let L := if byOk then L else L.setb Reg.CTRL_FAULT_PLAUS_PERSIST true
    L.blendShow

/-- CTRL_REBASE (R212). -/
def execCtrlRebase (l : LaneId) (heading : Bool) (s : State) : Out := onLane l (fun L => L.rebase heading) s

/-- Ages of the joystick in a tick of `dt` ns (R195). -/
def Lane.joyTick (L : Lane) (dt : Rat) : Lane :=
  let L := L.onCtl fun c => { c with joyAge := c.joyAge + dt }
  if L.ctl.joyStale ∧ !L.joy.2.2.2 then (L.onCtl fun c => { c with joyStale := false }).setb Reg.CTRL_STAT_JOY_STALE false else L

/-- The control section at a lane start or when it becomes current (R214, R218). -/
def Lane.controlChart (L : Lane) : Lane := L.setScaled Reg.CTRL_SUPV_DR_LIMIT L.kc.drLimit (1 / 10)

end Sys2Proof.Machine
end

