-- ==== Sys2Proof/Machine/Channel.lean ====
section
/-! DEFINITION. The thruster channels: feedback, states, limit loops, rate limits, supervision, outputs, migration (06 R220-R225,
R234-R251, R257-R260). -/

namespace Sys2Proof.Machine

open Sys2Proof

/-- The allocation sections of the Chart. -/
def Lane.ac (L : Lane) : AllocChart := L.chart.now.alloc

/-- A bus of the power-management interface. -/
def Lane.bus (L : Lane) (b : Nat) : BusSt := L.alc.buses.getD b {}
def Lane.busCfg (L : Lane) (b : Nat) : BusChart := L.ac.buses.getD b {}
def Lane.onBus (L : Lane) (b : Nat) (f : BusSt → BusSt) : Lane := L.onAlc fun a => { a with buses := modAt a.buses b f }

/-- Channels with an entry in the Chart. -/
def Lane.chList (L : Lane) : List Nat := (List.range 16).filter fun n => (L.chCfg n).isSome

/-- A channel turns its force: AZIMUTH or MAIN_RUDDER. -/
def ChanChart.turns (c : ChanChart) : Bool := decide (c.ty = .azimuth) || decide (c.ty = .mainRudder)

/-- Thrust of a demand, demand of a thrust (R235, R628). -/
def ChanChart.thrustOf (c : ChanChart) (d : Rat) : Rat := lerp c.thrust d
def ChanChart.demandOf (c : ChanChart) (t : Rat) : Rat := qClamp (lerp (swapCurve c.thrust) t) c.nMin c.nMax

/-- Shaft power of a thrust and its slope, by the sense of the thrust (R222, R628). -/
def ChanChart.powerOf (c : ChanChart) (t : Rat) : Rat := lerp (if t < 0 then c.powR else c.powF) (qAbs t)
def ChanChart.powerSlope (c : ChanChart) (t : Rat) : Rat := lerpSlope (if t < 0 then c.powR else c.powF) (qAbs t)

/-- Direction from body +x of the force of a MAIN_RUDDER running ahead, and its inverse (R221). -/
def ChanChart.rudderDir (c : ChanChart) (d : Rat) : Rat := if c.rudMax = 0 then 0 else c.rudArc * d / c.rudMax
def ChanChart.rudderFor (c : ChanChart) (dir : Rat) : Rat := if c.rudArc = 0 then 0 else qClamp (dir * c.rudMax / c.rudArc) (-c.rudMax) c.rudMax

/-- Limit of the ahead thrust at a rudder angle (R221). -/
def ChanChart.rudderLim (c : ChanChart) (d : Rat) : Rat :=
  if c.rudMax = 0 then c.tFwd else c.tFwd * (1 - (1 - c.rudEff) * qAbs d / c.rudMax)

/-- Unit force in body axes of a channel at an angle: where the thrust is positive, and where it is negative (R220, R221). -/
def ChanChart.unit (c : ChanChart) (ang : Rat) (astern : Bool) : Rat × Rat :=
  match c.ty with
  | .azimuth => (Config.cos (rad ang), Config.sin (rad ang))
  | .tunnel => (0, 1)
  | .shaft => (1, 0)
  | .mainRudder => if astern then (1, 0) else (Config.cos (rad (c.rudderDir ang)), Config.sin (rad (c.rudderDir ang)))

/-- Force of a thrust at an angle, kN. -/
def ChanChart.force (c : ChanChart) (t ang : Rat) : Rat × Rat :=
  let u := c.unit ang (decide (t < 0))
  (t * u.1, t * u.2)

/-! ### Sources of values -/

/-- The latched content of a receive object is new in this tick. -/
def Lane.rxNew (L : Lane) (p n : Nat) : Bool := (L.port p).rx.any fun r => decide (r.num = n) && r.isNew

/-- A byte map's value in the latched content of a receive object. -/
def Lane.rxValue (L : Lane) (p n : Nat) (m : ByteMap) : Option Rat := (L.rxLatched p n).bind fun f => m.value f.data

/-- Age in ms of an update after a tick of `dt` ms. -/
def ageTick (age : Option Rat) (new : Bool) (dt : Rat) : Option Rat := if new then some 0 else age.map (· + dt)

/-- An age within a limit. -/
def ageOk (age : Option Rat) (lim : Rat) : Bool := match age with
  | some a => decide (a ≤ lim)
  | none => false

/-- A source's value in this tick, and whether it has been updated (R222, R223). -/
def Lane.valSrc (L : Lane) : ValSrc → Option Rat × Bool
  | .can p n m z g => ((L.rxValue p n m).map (fun v => z + g * v), L.rxNew p n)
  | .ana m => (L.anaValue m, (L.anaValue m).isSome)

/-- Whether a source is a CAN receive object. -/
def ValSrc.isCan : ValSrc → Bool
  | .can .. => true
  | .ana _ => false

/-! ### Power management (R223, R236) -/

/-- The ages of a bus's values are beyond PM_TIMEOUT; a source that is not configured has none. -/
def Lane.pmLate (L : Lane) (b : Nat) : Bool :=
  let c := L.busCfg b
  let x := L.bus b
  let late (s : Option ValSrc) (a : Option Rat) : Bool := s.isSome && !ageOk a L.ac.pmTimeout
  (L.chList.any fun n => match L.chCfg n with | some k => decide (k.bus = b) | none => false) &&
    (late c.pAv x.pAge || late c.freq x.fAge || late c.loadRed x.lrAge)

/-- Available power of a bus in use, and B_b (R223, R227). -/
def Lane.pAvail (L : Lane) (b : Nat) : Rat :=
  let c := L.busCfg b
  if c.pAv.isNone || L.pmLate b then L.ac.pmFallback * c.rating.getD 0 else (L.bus b).pAv
def Lane.budget (L : Lane) (b : Nat) : Rat := L.pAvail b * (1 - (L.busCfg b).reserve)

/-- Frequency of a bus, where valid. -/
def Lane.busFreq (L : Lane) (b : Nat) : Option Rat :=
  if (L.busCfg b).freq.isNone || L.pmLate b then none else some (L.bus b).freq

/-- Power-management values latched in a tick of `dt` ms. -/
def Lane.pmTick (L : Lane) (dt : Rat) : Lane :=
  let one (b : Nat) (L : Lane) : Lane :=
    let c := L.busCfg b
    let get (s : Option ValSrc) : Option Rat × Bool := match s with | some s => L.valSrc s | none => (none, false)
    let p := get c.pAv
    let f := get c.freq
    let r := get c.loadRed
    let L := L.onBus b fun x =>
      { x with pAv := p.1.getD x.pAv, pAge := ageTick x.pAge (p.2 && p.1.isSome) dt, freq := f.1.getD x.freq,
               fAge := ageTick x.fAge (f.2 && f.1.isSome) dt, lrRaw := (match r.1 with | some v => v != 0 | none => x.lrRaw),
               lrAge := ageTick x.lrAge (r.2 && r.1.isSome) dt }
    let x := L.bus b
    let L := if x.loadRed && !x.lrRaw then
        let L := L.onBus b fun x => { x with loadRed := false }
        L.chList.foldl (fun L n => if (L.chCfg n).any (fun k => decide (k.bus = b)) then L.onCh n fun k => { k with lrCap := none } else L) L
      else L
    if x.stale && !L.pmLate b then L.onBus b fun x => { x with stale := false } else L
  forUpTo 4 one L

/-- PM_STALE (R223): a bus's data has become stale. -/
def Lane.pmStale (L : Lane) (b : Nat) : Lane :=
  if b < 4 ∧ L.pmLate b ∧ !(L.bus b).stale then ((L.onBus b fun x => { x with stale := true }).setBit Reg.ALLOC_STAT_PM_STALE b true).find 0x11 3 else L

/-- PM_STALE (R223). -/
def execPmStale (l : LaneId) (b : Nat) (s : State) : Out := onLane l (fun L => L.pmStale b) s

/-- LOAD_REDUCTION (R236): the rising edge of a bus's LOAD_RED input. -/
def Lane.loadReduction (L : Lane) (b : Nat) : Lane :=
  let x := L.bus b
  if b < 4 ∧ x.lrRaw ∧ !x.loadRed then
    let L := L.onBus b fun x => { x with loadRed := true }
    let L := L.chList.foldl (fun L n =>
      if (L.chCfg n).any (fun k => decide (k.bus = b)) then L.onCh n fun k => { k with lrCap := some ((L.busCfg b).lrFrac * qAbs k.loop.y) } else L) L
    (L.setBit Reg.ALLOC_STAT_LOAD_RED b true).find 0x11 4
  else L

/-- LOAD_REDUCTION (R236). -/
def execLoadReduction (l : LaneId) (b : Nat) (s : State) : Out := onLane l (fun L => L.loadReduction b) s

/-! ### Feedback (R241, R627) -/

/-- A quantity after a tick of `dt` ms, and whether the analogue value stands in for the CAN value. -/
def FbQty.take (x : FbQty) (path : Nat) (timeout dt : Rat) (can : Option Rat × Bool) (ana : Option Rat) : FbQty × Bool :=
  let ca := ageTick x.canAge (can.2 && can.1.isSome) dt
  let canOk := decide (path % 2 = 1) && ageOk ca timeout
  let anaOk := decide (2 ≤ path) && ana.isSome
  let fresh := canOk || anaOk
  ({ val := if canOk then can.1.getD x.val else if anaOk then ana.getD x.val else x.val, canAge := ca,
     age := if canOk then ca else if anaOk then some 0 else x.age.map (· + dt), fresh := fresh },
   decide (path = 3) && !canOk && anaOk)

/-- The CAN and the analogue value of a quantity code of a channel entry. -/
def Lane.fbCanIn (L : Lane) (c : ChanChart) (q : Nat) : Option Rat × Bool :=
  match c.fbCan.find? fun e => decide (e.1 = q) with
  | some e => (L.rxValue e.2.1 e.2.2.1 e.2.2.2, L.rxNew e.2.1 e.2.2.1)
  | none => (none, false)
def Lane.fbAnaIn (L : Lane) (c : ChanChart) (q : Nat) : Option Rat :=
  match c.fbAna.find? fun e => decide (e.1 = q) with
  | some e => L.anaValue e.2
  | none => none

/-- DEPLOYED is configured by its own field or by a feedback map of 0x2A (R222, R627). -/
def ChanChart.retracts (c : ChanChart) : Bool := c.deployed.isSome || c.fbCan.any fun e => decide (e.1 = 0x2A)

/-- The DEPLOYED signal as seen now; what is not fresh keeps its last value. -/
def Lane.deployedNow (L : Lane) (c : ChanChart) (last : Bool) : Bool :=
  match c.deployed with
  | some (.ana m t) => (match L.anaValue m with | some v => decide (t ≤ v) | none => last)
  | some (.can p n m) => (match L.rxValue p n m with | some v => v != 0 | none => last)
  | none => match (L.fbCanIn c 0x2A).1 with
    | some v => v != 0
    | none => last

/-- Step 1 of the loop: the feedback latched in this tick of `dt` ms. -/
def Lane.chFeedback (L : Lane) (n : Nat) (c : ChanChart) (dt : Rat) : Lane :=
  let x := L.ch n
  let q (k : Nat) (old : FbQty) : FbQty × Bool := old.take c.fbPath c.fbTimeout dt (L.fbCanIn c k) (L.fbAnaIn c k)
  let d := q 0x24 x.dem
  let a := q 0x25 x.fbAng
  let p := q 0x26 x.power
  let i := q 0x27 x.current
  let t := q 0x28 x.temp
  let ra := ageTick x.readyAge (L.fbCanIn c 0x29).2 dt
  let canReady := if c.fbPath % 2 = 1 ∧ ageOk ra c.fbTimeout then (L.fbCanIn c 0x29).1 else none
  let anaReady := if 2 ≤ c.fbPath then L.fbAnaIn c 0x29 else none
  let ready := match canReady with
    | some v => v != 0
    | none => match anaReady with
      | some v => v != 0
      | none => x.ready
  let valid := d.1.fresh && (!c.turns || a.1.fresh)
  let lost := x.fbValid && !valid
  let L := L.onCh n fun x =>
    { x with dem := d.1, fbAng := a.1, power := p.1, current := i.1, temp := t.1, readyAge := ra, ready := ready, fbValid := valid,
             deployed := L.deployedNow c x.deployed, fbLost := if valid then 0 else x.fbLost + 1,
             loop := { x.loop with fbAlt := d.2 || a.2 || p.2 || i.2 || t.2 || (decide (c.fbPath = 3) && canReady.isNone && anaReady.isSome) } }
  if lost then (L.incSat (Reg.CH_CNT_FB_LOSS n)).find (0x20 + n) 2 else L

/-- The lever sources of a channel in a tick of `dt` ms (R243). -/
def Lane.chLever (L : Lane) (n : Nat) (c : ChanChart) (dt : Rat) : Lane :=
  let x := L.ch n
  let one (s : Option ValSrc) (age : Option Rat) : Option Rat × Option Rat × Bool :=
    match s with
    | none => (none, none, true)
    | some s =>
      let v := L.valSrc s
      let a := ageTick age (v.2 && v.1.isSome) dt
      let ok := if s.isCan then ageOk a 200 && v.1.isSome else v.1.isSome
      (if ok then v.1 else none, a, ok)
  let d := one c.leverDem x.leverAge
  let a := one c.leverAng x.leverAngAge
  L.onCh n fun x =>
    { x with lever := match d.1 with | some v => qClamp v (-1) 1 | none => x.lever, leverAng := a.1.getD x.leverAng,
             leverAge := d.2.1, leverAngAge := a.2.1, leverOk := d.2.2, leverAngOk := a.2.2,
             leverStale := x.leverStale && !d.2.2, leverAngStale := x.leverAngStale && !a.2.2 }

/-- No lever source of a channel is stale; one is marked so (R243). -/
def ChanSt.leversOk (x : ChanSt) : Bool := x.leverOk && x.leverAngOk
def ChanSt.leverMarked (x : ChanSt) : Bool := x.leverStale || x.leverAngStale

/-- LEVER_STALE (R243): a lever source has become stale. -/
def Lane.leverStaleCmd (L : Lane) (n : Nat) : Lane :=
  let x := L.ch n
  if (L.chCfg n).isSome ∧ ((!x.leverOk && !x.leverStale) || (!x.leverAngOk && !x.leverAngStale)) then
    ((L.onCh n fun x => { x with leverStale := !x.leverOk, leverAngStale := !x.leverAngOk }).setb (Reg.CH_STATE_LEVER_STALE n) true).find (0x20 + n) 4
  else L

/-- LEVER_STALE (R243). -/
def execLeverStale (l : LaneId) (n : Nat) (s : State) : Out := onLane l (fun L => L.leverStaleCmd n) s

/-- LEVERS_NEUTRAL (R243; 02 R77). -/
def Lane.leversNeutral (L : Lane) : Bool :=
  L.chList.all fun n => match L.chCfg n with
    | some c => c.leverDem.isNone || ((L.ch n).leverOk && decide (qAbs (L.ch n).lever ≤ c.leverNeutral))
    | none => true

/-! ### States (R224, R225, R251) -/

/-- The drive enable of a state (R224). -/
def ChState.enable : ChState → Bool
  | .notReady => true
  | .online => true
  | .draining => true
  | _ => false

/-- Available to allocation, or draining. -/
def ChState.delivers : ChState → Bool
  | .online => true
  | .draining => true
  | _ => false

/-- THRUSTERS (R225): evaluated anew, THRUSTERS_LOW where it becomes false; not in LUBBER (R233). A lane that takes the mirrored
conditions shows those (12 R449). -/
def Lane.thrustersEval (L : Lane) : Lane :=
  if L.mode = 2 then L
  else
    let t := decide (L.ac.minThrusters ≤ (L.chList.filter fun n => decide ((L.ch n).st = .online)).length)
    let low := L.alc.thrusters && !t
    let r := L.get Reg.RED_ROLE_ROLE
    let L := L.onAlc fun a => { a with thrusters := t }
    let L := if r = 3 ∨ r = 4 then L else (L.setBit Reg.MODE_COND_COND 4 t).setb Reg.ALLOC_STAT_THRUSTERS t
    L.findIf low 0x11 5

/-- ALLOC_AVAIL follows the channels (R255). -/
def Lane.availShow (L : Lane) : Lane :=
  let m (p : ChanSt → Bool) : Nat := maskOf 16 fun n => (L.chCfg n).isSome && p (L.ch n)
  L.setAll [(Reg.ALLOC_AVAIL_ONLINE, m fun x => decide (x.st = .online)), (Reg.ALLOC_AVAIL_LIMITED, m fun x => x.loop.limited)]

/-- A channel takes a state (R224, R225). -/
def Lane.chGoto (L : Lane) (n : Nat) (st : ChState) : Lane :=
  let was := (L.ch n).st
  if was = st then L
  else
    let drop := was.delivers && !st.delivers && decide (st ≠ .offline)
    let L := L.onCh n fun x => { x with st := st }
    let L := if drop then
        (L.onCh n fun x => { x with loop := { x.loop with y := 0 }, aimX := 0, aimY := 0, thrust := 0 }).setAll
          [(Reg.CH_DEMAND_DEMAND n, 0), (Reg.CH_ALLOC_THRUST n, 0)]
      else L
    let L := if st = .stopped then L.onCh n fun x => { x with marked := decide (was = .draining), loop := { x.loop with feDem := 0, feAng := 0 } } else L
    let L := if st = .fault then L else L.onCh n fun x => { x with cause := 0 }
    let L := if st = .noEngine then (L.onCh n fun x => { x with sel := 5 }).set (Reg.CH_STATE_SEL n) 5 else L
    let L := L.setAll [(Reg.CH_STATE_STATE n, st.code), (Reg.CH_STATE_CAUSE n, (L.ch n).cause),
      (Reg.CH_STAT_ONLINE n, if st = .online then 1 else 0)]
    (L.setBit Reg.ALLOC_AVAIL_ONLINE n (decide (st = .online))).find (0x20 + n) 0

/-- The bit of the channel's SAFETY_SO is set in MODE_CUR.ESTOP_SO. -/
def Lane.chStopped (L : Lane) (c : ChanChart) : Bool := match c.so with
  | some k => L.bit Reg.MODE_CUR_ESTOP_SO k
  | none => false

/-- A refused CH_CMD (R251). -/
def Lane.chRefuse (L : Lane) (n code : Nat) : Lane := (L.set (Reg.CH_CMD_RESULT n) code).find (0x20 + n) 7

/-- A CH_CMD as step 2 applies it (R251): 1 ONLINE, 2 OFFLINE, 3 RESET; the state it asks for. -/
def Lane.chCommand (L : Lane) (n cmd : Nat) : Lane × Option ChState :=
  let x := L.ch n
  let ok (L : Lane) : Lane := L.set (Reg.CH_CMD_RESULT n) 0
  match cmd, x.st with
  | 1, .offline => (ok L, some .notReady)
  | 1, .stopped => if x.marked then (ok (L.onCh n fun x => { x with marked := false }), none) else (L.chRefuse n 1, none)
  | 2, .online => (ok L, some .draining)
  | 2, .notReady => (ok L, some .draining)
  | 2, .stopped => (ok (L.onCh n fun x => { x with marked := true }), none)
  | 3, .fault =>
    (ok (L.setAll [(Reg.CH_FAULT_FB_LOST n, 0), (Reg.CH_FAULT_FOLLOW n, 0)]), some .offline)
  | _, _ => (L.chRefuse n 1, none)

/-- Of two asked states, the one of higher precedence (R225). -/
def ChState.rank : ChState → Nat
  | .noEngine => 0
  | .stopped => 1
  | .fault => 2
  | .offline => 3
  | .draining => 4
  | .notReady => 5
  | .online => 6
  | .unused => 7

/-- The asked state of highest precedence. -/
def topState : List ChState → Option ChState
  | [] => none
  | a :: r => match topState r with
    | some b => some (if b.rank < a.rank then b else a)
    | none => some a

/-- Step 2 of the loop: commands, the overlay, the end of draining (R225); the runs of ready ticks are counted here, and the
transitions that they or the supervision make are commands of their own. -/
def Lane.chStates (L : Lane) (n : Nat) (c : ChanChart) (lubber : Bool) : Lane :=
  let step (p : Lane × List ChState) (cmd : Nat) : Lane × List ChState :=
    let r := p.1.chCommand n cmd
    (r.1, p.2 ++ r.2.toList)
  let r := if lubber then (L, []) else (L.ch n).cmds.foldl step (L, [])
  let L := r.1.onCh n fun x => { x with cmds := [] }
  let x := L.ch n
  let was := x.st
  let stop := L.chStopped c
  let asks := r.2
    ++ (if stop ∧ (x.st = .online ∨ x.st = .notReady ∨ x.st = .draining) then [ChState.stopped] else [])
    ++ (if !stop ∧ x.st = .stopped then [if x.marked then ChState.offline else .notReady] else [])
    ++ (if !lubber ∧ x.st = .draining ∧ x.thrust = 0 ∧ x.loop.y = 0 then [ChState.offline] else [])
  let off := r.2.contains .draining
  let L := match topState asks with
    | some st =>
      let L := L.chGoto n st
      if st = ChState.stopped ∧ off then L.onCh n fun x => { x with marked := true } else L
    | none => L
  let L := L.onCh n fun x => { x with stepped := decide (x.st ≠ was) }
  if lubber then L
  else
    let dep (x : ChanSt) : Bool := !c.retracts || x.deployed
    L.onCh n fun x => { x with readyRun := if x.ready && dep x && x.fbValid then min 100 (x.readyRun + 1) else 0,
                               badRun := if x.ready && dep x then 0 else min 10 (x.badRun + 1) }

/-- A following-error timer of a channel in service has reached FE_TIME: its cause (R245). -/
def Lane.followDue (L : Lane) (n : Nat) : Option Nat :=
  match L.chCfg n with
  | none => none
  | some c =>
    let x := L.ch n
    let due (t : Nat) : Bool := decide (c.feTime * 1000 ≤ (t : Rat))
    if !x.st.delivers ∨ L.chStopped c then none
    else if due x.loop.feDem then some 1
    else if due x.loop.feAng then some 2
    else none

/-- FB_VALID of a channel in service has stayed clear for FB_GRACE, and FB_KEEP is not set (R246). -/
def Lane.graceDue (L : Lane) (n : Nat) : Bool :=
  match L.chCfg n with
  | none => false
  | some c =>
    let x := L.ch n
    x.st.delivers && !L.chStopped c && !x.fbValid && decide (c.fbGrace * 1000 ≤ (x.fbLost : Rat)) && !c.fbKeep

/-- CHANNEL_READY (R225): 100 ready ticks bring NOT_READY to ONLINE, where step 2 took no state of higher precedence. -/
def Lane.channelReady (L : Lane) (n : Nat) : Lane :=
  if (L.ch n).st = .notReady ∧ !(L.ch n).stepped ∧ 100 ≤ (L.ch n).readyRun ∧ L.mode ≠ 2 then (L.chGoto n .online).thrustersEval else L

/-- CHANNEL_READY (R225). -/
def execChannelReady (l : LaneId) (n : Nat) (s : State) : Out := onLane l (fun L => L.channelReady n) s

/-- CHANNEL_NOT_READY (R225): 10 ticks without ready or DEPLOYED bring ONLINE or DRAINING to NOT_READY, where the tick holds no
state of higher precedence: none taken by step 2, no FAULT due. -/
def Lane.channelNotReady (L : Lane) (n : Nat) : Lane :=
  if (L.ch n).st.delivers ∧ !(L.ch n).stepped ∧ (L.followDue n).isNone ∧ !L.graceDue n ∧ 10 ≤ (L.ch n).badRun ∧ L.mode ≠ 2 then
    (L.chGoto n .notReady).thrustersEval
  else L

/-- CHANNEL_NOT_READY (R225). -/
def execChannelNotReady (l : LaneId) (n : Nat) (s : State) : Out := onLane l (fun L => L.channelNotReady n) s

/-- A channel enters FAULT with a cause (R245, R246). -/
def Lane.chFault (L : Lane) (n cause : Nat) : Lane :=
  let L := (L.onCh n fun x => { x with cause := cause }).chGoto n .fault
  let L := L.set (Reg.CH_STATE_CAUSE n) cause
  (if cause = 3 then L.setb (Reg.CH_FAULT_FB_LOST n) true
   else ((L.setb (Reg.CH_FAULT_FOLLOW n) true).incSat (Reg.CH_CNT_FOLLOW n)).find (0x20 + n) 1).thrustersEval

/-- FOLLOW_FAULT (R245): a following-error timer has reached FE_TIME. -/
def Lane.followFault (L : Lane) (n : Nat) : Lane :=
  match L.followDue n with
  | some k => L.chFault n k
  | none => L

/-- FOLLOW_FAULT (R245). -/
def execFollowFault (l : LaneId) (n : Nat) (s : State) : Out := onLane l (fun L => L.followFault n) s

/-- FB_GRACE_EXPIRY (R246): FB_VALID has stayed clear for FB_GRACE, and FB_KEEP is not set. -/
def Lane.fbGraceExpiry (L : Lane) (n : Nat) : Lane := if L.graceDue n then L.chFault n 3 else L

/-- FB_GRACE_EXPIRY (R246). -/
def execFbGraceExpiry (l : LaneId) (n : Nat) (s : State) : Out := onLane l (fun L => L.fbGraceExpiry n) s

/-- A CH_CMD write with GO (R251): refused at once by an unused channel and by a lane that is not active, else left to step 2. -/
def Lane.chCmd (L : Lane) (n tag cmd : Nat) : Lane :=
  let L := L.setAll [(Reg.CH_CMD_TAG n, tag), (Reg.CH_CMD_CMD n, cmd)]
  if cmd = 0 ∨ 3 < cmd then L.chRefuse n 2
  else if !L.active then L.chRefuse n 3
  else if (L.chCfg n).isNone then L.chRefuse n 4
  else L.onCh n fun x => { x with cmds := x.cmds ++ [cmd] }

/-- ONLINE (R251). -/
def execOnline (l : LaneId) (n tag : Nat) (s : State) : Out := onLane l (fun L => L.atReg (Reg.CH_CMD_CMD n).addr fun L => L.chCmd n tag 1) s
/-- OFFLINE (R251). -/
def execOffline (l : LaneId) (n tag : Nat) (s : State) : Out := onLane l (fun L => L.atReg (Reg.CH_CMD_CMD n).addr fun L => L.chCmd n tag 2) s
/-- RESET (R251). -/
def execReset (l : LaneId) (n tag : Nat) (s : State) : Out := onLane l (fun L => L.atReg (Reg.CH_CMD_CMD n).addr fun L => L.chCmd n tag 3) s

/-! ### Sectors and turning (R229) -/

/-- Width of a sector, clockwise. -/
def Sector.width (s : Sector) : Rat := deg360 (s.hi - s.lo)

/-- A direction lies inside a sector; its edges do not. -/
def Sector.inside (s : Sector) (a : Rat) : Bool := decide (0 < deg360 (a - s.lo)) && decide (deg360 (a - s.lo) < s.width)

/-- Turning from `a` by `d` degrees, clockwise or not, crosses a sector. -/
def Sector.crossed (s : Sector) (a d : Rat) (cw : Bool) : Bool :=
  if cw then decide (deg360 (s.lo - a) < d) else decide (deg360 (a - s.hi) < d)

/-- A way crosses a sector that may not be passed. -/
def ChanChart.barred (c : ChanChart) (a d : Rat) (cw : Bool) : Bool := c.sectors.any fun s => !s.idle && s.crossed a d cw

/-- The way that an azimuth turns to a direction: degrees, and whether clockwise. -/
def ChanChart.way (c : ChanChart) (a dest : Rat) : Rat × Bool :=
  let r := deg360 (dest - a)
  let short := decide (r ≤ 180)
  let dist (cw : Bool) : Rat := if cw then r else if r = 0 then 0 else 360 - r
  let cw := if r ≠ 0 && c.barred a (dist short) short then !short else short
  (dist cw, cw)

/-- An azimuth after turning by at most `step` degrees. -/
def ChanChart.turn (c : ChanChart) (a dest step : Rat) : Rat :=
  let w := c.way a dest
  let d := min w.1 step
  deg360 (if w.2 then a + d else a - d)

/-- Inside an IDLE sector. -/
def ChanChart.idleAt (c : ChanChart) (a : Rat) : Bool := decide (c.ty = .azimuth) && c.sectors.any fun s => s.idle && s.inside a

/-- IN_SECTOR and SECTOR_PASS for the angle taken (R229). -/
def Lane.sectorMark (L : Lane) (n : Nat) (c : ChanChart) (a : Rat) : Lane :=
  let now := c.idleAt a
  let entered := now && !(L.ch n).inSector
  (L.onCh n fun x => { x with inSector := now }).findIf entered (0x20 + n) 5

/-! ### The loop -/

/-- The final demand on its way to a target, with its limits in a tick (R239): rise, and fall where limited. -/
def slew (y ys up : Rat) (dn : Option Rat) : Rat :=
  let m := qAbs y
  let fall (dest : Rat) : Rat := match dn with
    | none => dest
    | some d => max dest (m - d)
  if y * ys < 0 then qSign y * fall 0
  else if m ≤ qAbs ys then qSign (if ys = 0 then y else ys) * min (qAbs ys) (m + up)
  else qSign y * fall (qAbs ys)

/-- The thrust that stands for the plan of power: allocated, or of the lever's demand (R236, R243). -/
def Lane.planThrust (L : Lane) (n : Nat) (c : ChanChart) : Rat :=
  if L.mode = 5 then c.thrustOf (L.ch n).a else (L.ch n).thrust
def Lane.plan (L : Lane) (n : Nat) : Rat := match L.chCfg n with
  | some c => c.powerOf (L.planThrust n c)
  | none => 0

/-- The allowance of a channel (R236). -/
def Lane.allowance (L : Lane) (n : Nat) (c : ChanChart) : Rat :=
  let on := L.chList.filter fun k => (L.chCfg k).any fun d => decide (d.bus = c.bus)
  let sum := (on.map L.plan).sum
  let B := L.budget c.bus
  if sum ≠ 0 then B * L.plan n / sum
  else
    let cnt := (on.filter fun k => decide ((L.ch k).st ≠ .unused) && decide ((L.ch k).st ≠ .offline)).length
    if cnt = 0 then B else B / cnt

/-- Errors of the three loops, where their measurements are valid: BLACKOUT, POWER, THERMAL (R236). -/
def Lane.limitErrors (L : Lane) (n : Nat) (c : ChanChart) : Option Rat × Option Rat × Option Rat :=
  let x := L.ch n
  let der := if x.temp.val ≤ c.tDerate then 1 else if c.tTrip ≤ x.temp.val then 0 else (c.tTrip - x.temp.val) / (c.tTrip - c.tDerate)
  ((L.busFreq c.bus).map fun f => f - (L.busCfg c.bus).fBp.getD 0,
   if x.power.fresh then some (L.allowance n c - x.power.val) else none,
   if x.current.fresh then some (c.iLim * der - x.current.val) else none)

/-- A loop's ceiling, and whether it was clamped (R236). -/
def ceiling (e : Option Rat) (kp i nAbs : Rat) : Rat × Bool :=
  match e with
  | none => (nAbs, false)
  | some e =>
    let v := kp * e + i
    if v < 0 then (0, true) else if nAbs < v then (nAbs, true) else (v, decide (v = 0) || decide (v = nAbs))

/-- A loop's integrator after step 5 (R237). -/
def nextInt (sel : Bool) (e : Option Rat) (kp ki i y margin nAbs dt : Rat) (hold : Bool) : Rat :=
  let err := e.getD 0
  if sel then (if hold then i else qClamp (i + ki * err * dt) 0 nAbs) else qClamp (qAbs y + margin - kp * err) 0 nAbs

/-- Demand and angle that step 3 forms: of allocation, or of the levers (R235, R243); `h` s. -/
def Lane.chDemand (L : Lane) (n : Nat) (c : ChanChart) (lever : Bool) (h : Rat) : Rat × Rat :=
  let x := L.ch n
  if lever then
    let a := if !x.leversOk then 0 else if x.lever < 0 then x.lever * (-c.nMin) else x.lever * c.nMax
    let a := if x.inSector ∧ L.mode = 5 then qClamp a (c.demandOf (-(c.idleFrac * c.tFwd))) (c.demandOf (c.idleFrac * c.tFwd)) else a
    let ang := if !x.leversOk ∨ c.leverAng = none then x.loop.ang
      else if c.ty = .azimuth then
        let r := deg360 (x.leverAng - x.loop.ang)
        let s := min (c.azRate * h) (if r ≤ 180 then r else 360 - r)
        deg360 (if r ≤ 180 then x.loop.ang + s else x.loop.ang - s)
      else if c.ty = .mainRudder then
        let d := qClamp x.leverAng (-c.rudMax) c.rudMax - x.loop.ang
        x.loop.ang + qClamp d (-(c.rudRate * h)) (c.rudRate * h)
      else x.loop.ang
    (a, ang)
  else (c.demandOf x.thrust, if c.turns then x.ang else 0)

/-- The following-error timers of one comparison (R244). -/
def feTimer (t : Nat) (err lim : Rat) : Nat := if lim < qAbs err then t + 1 else if qAbs err ≤ 8 / 10 * lim then 0 else t

/-- The channel is held in a migration: its loop does not run (R248). -/
def ChanSt.heldNow (x : ChanSt) : Bool := match x.migr with
  | some k => decide (k < 2)
  | none => false

/-- Steps 3 to 7 of the loop in a tick of `h` s (R235-R245). -/
def Lane.chLoop (L : Lane) (n : Nat) (c : ChanChart) (h : Rat) : Lane :=
  let lub := decide (L.mode = 2)
  let lever := lub || decide (L.mode = 5)
  let x := L.ch n
  if x.heldNow ∨ x.st = .noEngine then L.onCh n fun x => { x with sel := 5, a := 0, rateLim := false, fx := if x.heldNow then x.fx else 0, fy := if x.heldNow then x.fy else 0 }
  else
    let off := if lub then decide (x.st = .stopped) else !x.st.delivers
    let d := L.chDemand n c lever h
    let a := if off ∨ (L.mode = 5 ∧ x.st = .draining) then 0 else d.1
    let ang := if off then x.loop.ang else d.2
    let L := L.onCh n fun x => { x with a := a }
    let nAbs := c.nAbs
    let e := if lub then (none, none, none) else L.limitErrors n c
    let b := ceiling e.1 c.kpBp x.loop.iBp nAbs
    let p := ceiling e.2.1 c.kpPwr x.loop.iP nAbs
    let t := ceiling e.2.2 c.kpTh x.loop.iT nAbs
    let cBp := match x.lrCap with | some k => if lub then b.1 else min b.1 k | none => b.1
    let m := min (qAbs a) (min cBp (min p.1 t.1))
    let sel := if qAbs a ≤ m then 0 else if cBp ≤ m then 1 else if p.1 ≤ m then 2 else 3
    let ys := qSign a * m
    let dn := if sel = 1 then none else some ((if sel = 2 then c.rateFast else c.rateDown) * h)
    let y := if off then 0 else slew x.loop.y ys (c.rateUp * h) dn
    let lim := !off && decide (y ≠ ys)
    let restricted (now was : Rat) : Bool := (decide (was < now) && decide (qAbs y < qAbs ys)) || (decide (now < was) && decide (qAbs ys < qAbs y))
    let iBp := nextInt (decide (sel = 1)) e.1 c.kpBp c.kiBp x.loop.iBp y c.trackMargin nAbs h (b.2 || (lim && restricted b.1 x.cBp))
    let iP := nextInt (decide (sel = 2)) e.2.1 c.kpPwr c.kiPwr x.loop.iP y c.trackMargin nAbs h (p.2 || (lim && restricted p.1 x.cP))
    let iT := nextInt (decide (sel = 3)) e.2.2 c.kpTh c.kiTh x.loop.iT y c.trackMargin nAbs h (t.2 || (lim && restricted t.1 x.cT))
    let enters := decide (0 < sel) && !x.loop.limited
    let run := x.st.delivers && x.fbValid && !lub && !L.coasting && x.migr.isNone
    let feD := if run then feTimer x.loop.feDem (x.yC - x.dem.val) c.feDem else x.loop.feDem
    let feA := if run ∧ c.turns then feTimer x.loop.feAng (wrapDeg (x.angC - x.fbAng.val)) c.feAng else x.loop.feAng
    let src := if lever ∧ sel = 0 then 4 else sel
    let nl : LoopSt := { iBp := if lub then x.loop.iBp else iBp, iP := if lub then x.loop.iP else iP, iT := if lub then x.loop.iT else iT, y := y, ang := ang,
                         limited := x.loop.limited || decide (0 < sel), limCnt := if sel = 0 ∧ x.loop.limited then x.loop.limCnt + 1 else 0,
                         feDem := feD, feAng := feA, fbAlt := x.loop.fbAlt }
    let L := L.onCh n fun x => { x with loop := nl, cBp := cBp, cP := p.1, cT := t.1, sel := src, rateLim := lim }
    let L := if enters then ((L.incWrap (Reg.CH_CNT_LIMITED n)).setBit Reg.ALLOC_AVAIL_LIMITED n true).find (0x20 + n) 3 else L
    let L := if lever ∧ !lub then L.sectorMark n c ang else L
    let cmd := !x.fbValid
    let dv := if cmd then (y, ang) else (x.dem.val, x.fbAng.val)
    let f := if x.st.delivers then c.force (c.thrustOf dv.1) dv.2 else (0, 0)
    L.onCh n fun x => { x with fx := f.1, fy := f.2, thrustCmd := x.st.delivers && cmd }

/-- LIMIT_HOLD_EXPIRY (R238): ALLOC has been selected for LIMIT_HOLD ticks. -/
def Lane.limitHoldExpiry (L : Lane) (n : Nat) : Lane :=
  let x := L.ch n
  if x.loop.limited ∧ L.ac.limitHold ≤ x.loop.limCnt then
    ((L.onCh n fun x => { x with loop := { x.loop with limited := false, limCnt := 0 } }).setb (Reg.CH_STATE_LIMITED n) false).setBit Reg.ALLOC_AVAIL_LIMITED n false
  else L

/-- LIMIT_HOLD_EXPIRY (R238). -/
def execLimitHoldExpiry (l : LaneId) (n : Nat) (s : State) : Out := onLane l (fun L => L.limitHoldExpiry n) s

/-! ### Outputs (R240) -/

/-- The nearest integer; a tie goes to either neighbour (log entry 3). -/
def nearest (q : Rat) : Int :=
  let f := q.floor
  let d := q - f
  if d < 1 / 2 then f else if 1 / 2 < d then f + 1 else if Config.roundUp q then f + 1 else f

/-- Writes the bytes of a field map's value into a frame (R120, R240). -/
def ByteMap.put (m : ByteMap) (f : List Nat) (v : Rat) : List Nat :=
  let w := m.width
  let k := nearest (if m.scale = 0 then 0 else v / m.scale)
  let raw := (k % (2 ^ (8 * w) : Int)).toNat
  let b := leBytes w raw
  let b := if m.ty / 8 % 2 = 1 then b.reverse else b
  mapIdxFrom 0 (fun i x => if m.ofs ≤ i ∧ i < m.ofs + w then b.getD (i - m.ofs) 0 else x) f

/-- The data of a frame as it goes out: its object's length, with the alive counter of the frame itself in a command frame (06
R240). -/
def Lane.wire (L : Lane) (o : TxObj) (d : List Nat) : List Nat :=
  let d := (List.range (canDlcLen o.fdf o.dlc)).map fun j => d.getD j 0
  match o.source with
  | .channel n =>
    match L.chart.now.alloc.chan n with
    | some c => c.cmdMaps.foldl (fun f m => if m.qty = 0x23 then m.put f ((L.can.alive.getD n 0 % 256 : Nat) : Rat) else f) d
    | none => d
  | _ => d

/-- The command frame of a channel (R240), with the alive counter as it stands; the frame that goes out carries its own
(`Lane.wire`). -/
def Lane.chFrame (L : Lane) (n : Nat) (c : ChanChart) (len : Nat) : List Nat :=
  let x := L.ch n
  let alive := L.can.alive.getD n 0
  let v (q : Nat) : Rat := if q = 0x20 then x.yC else if q = 0x21 then x.angC else if q = 0x22 then (if x.enC then 1 else 0) else ((alive % 256 : Nat) : Rat)
  c.cmdMaps.foldl (fun f m => m.put f (v m.qty)) (List.replicate len 0)

/-- An angle field (R259): 0-35 999, signed for a rudder, 0 where the channel has none. -/
def ChanChart.angCode (c : ChanChart) (a : Rat) : Int :=
  match c.ty with
  | .azimuth => (codeOf (deg360 a) (1 / 100)) % 36000
  | .mainRudder => codeOf a (1 / 100)
  | _ => 0

/-- The CHANNEL objects of every port take the frames of their channels' commands for the next tick (10 R389, R393); those of the
channels in `keep` stay. -/
def Lane.chFrames (L : Lane) (keep : Nat → Bool) : Lane :=
  let one (q : CanPort) (t : TxState) : TxState :=
    match q.obj t.num with
    | some o => (match o.source with
      | .channel n => (match L.chCfg n with
        | some c => if keep n then t else { t with next := some (L.chFrame n c (canDlcLen o.fdf o.dlc)) }
        | none => t)
      | _ => t)
    | none => t
  L.onCan fun c => { c with ports := c.ports.map fun q => { q with tx := q.tx.map (one q) } }

/-- A frame of an object has been sent: its data, and the next value of its channel's alive counter (06 R240). -/
def Lane.frameOut (L : Lane) (p : Nat) (o : TxObj) (d : List Nat) : Lane :=
  let w := L.wire o d
  let L := L.onTx p o.num fun t => { t with out := w }
  match o.source with
  | .channel c => L.onCan fun x => { x with alive := modAt x.alive c fun a => (a + 1) % 256 }
  | _ => L

/-- CAN_TX_COMPLETE (R383, R394, R395): sent, with the loop delay measured in an FD frame; or failed, and retried unless a
CANCEL came too late for it. Only a port that takes part in frames sends (R378, R379, R399). -/
def Lane.txComplete (L : Lane) (p n : Nat) (ok : Bool) (tdcv : Option Nat) : Lane :=
  match (L.port p).txs n, (L.port p).obj n with
  | some t, some o =>
    if t.pending.isNone || L.canDeaf p || (ok && !(decide (L.canState p = 0) || decide (L.canState p = 1))) then L
    else
      let L := match (if o.fdf && (L.port p).cfg.fd then tdcv else none) with
        | some d =>
          let L := L.set (Reg.CAN_TDC_TDCV p) (min d 127)
          if 127 ≤ d then (L.setb (Reg.CAN_FAULT_TDC_RANGE p) true).find (0x48 + p) 6 else L
        | none => L
      if ok then
        let L := L.frameOut p o (t.pending.getD [])
        let L := L.onTx p n fun t => { t with pending := none, begun := false, cancelLate := false, withheld := true, sent := (t.sent + 1) % 65536 }
        let L := (L.incWrap (Reg.CAN_CNT_TX p)).onPort p fun c => { c with sentTotal := c.sentTotal + 1 }
        let tec := L.get (Reg.CAN_ERR_TEC p)
        (L.set (Reg.CAN_ERR_TEC p) (tec - 1)).errState p
      else
        L.onTx p n fun t => if t.cancelLate then { t with pending := none, begun := false, cancelLate := false } else { t with begun := false }
  | _, _ => L

/-- CAN_TX_COMPLETE (R394). -/
def execCanTxComplete (l : LaneId) (p n : Nat) (ok : Bool) (tdcv : Option Nat) (s : State) : Out :=
  onLane l (fun L => L.txComplete p n ok tdcv) s

/-- Step 7 at the commit point: the channel's demand, angle and enable become its committed command; a channel held in a
migration, or named in `failed`, keeps the one committed before (R224, R240, R248). -/
def Lane.chCommit (L : Lane) (failed : List Nat) : Lane :=
  let one (n : Nat) (L : Lane) : Lane :=
    let x := L.ch n
    if (L.chCfg n).isNone || x.heldNow || failed.contains n then L
    else
      let L := L.onCh n fun x => { x with yC := if x.st.enable then x.loop.y else 0, angC := x.loop.ang, enC := x.st.enable, restore := x.loop,
                                          migr := match x.migr with | some 2 => some 3 | m => m }
      match L.chCfg n with
      | some c => L.seti (Reg.CH_DEMAND_ANGLE n) (c.angCode (L.ch n).angC)
      | none => L
  let L := forUpTo 16 one L
  L.chFrames fun n => (L.ch n).heldNow || failed.contains n

/-- The value of a channel-sourced analogue output (R240; 08 R332). -/
def Lane.chAo (L : Lane) (failed : List Nat) (m : Nat) : Option Int :=
  match (L.aoChart m).channel with
  | none => none
  | some (n, isAng) =>
    match L.chCfg n with
    | none => none
    | some c =>
      if (L.ch n).heldNow || failed.contains n || decide (c.cmdPath < 2) then none
      else (c.cmdAna.find? fun e => decide (e.1 = isAng)).map fun e => codeOf (e.2.1 + e.2.2 * (if isAng then (L.ch n).angC else (L.ch n).yC)) 1

/-! ### Registers (R257-R259) -/

/-- A register of a channel page that reads its reset value while the channel is unconfigured: STAT, FAULT and those from 0x20 on
(R257). -/
def chPageReg (n a : Nat) : Bool :=
  decide (a / 0x400 = 0x20 + n) && (decide (0x20 ≤ a % 0x400) || decide (a % 0x400 = 0x0C) || decide (a % 0x400 = 0x1C))

/-- CH_CFG of a channel entry (R259); the page of a channel that is not configured (R257). -/
def Lane.chShowCfg (L : Lane) (n : Nat) : Lane :=
  match L.chCfg n with
  | none => L.onRegs fun m => m.filter fun e => !chPageReg n e.1
  | some c =>
    L.setAll [(Reg.CH_CFG_SO n, c.so.getD 0xF), (Reg.CH_CFG_BUS n, c.bus), (Reg.CH_CFG_RETRACT n, if c.retracts then 1 else 0),
      (Reg.CH_CFG_SECTORS n, c.sectors.length), (Reg.CH_CFG_FB_PATH n, c.fbPath), (Reg.CH_CFG_CMD_PATH n, c.cmdPath),
      (Reg.CH_CFG_DRIVE n, if c.pitch then 1 else 0), (Reg.CH_CFG_TYPE n, c.ty.code), (Reg.CH_STAT_CONFIGURED n, 1)]

/-- Resolution of the demand fields (R259). -/
def ChanChart.demLsb (c : ChanChart) : Rat := if c.pitch then 1 / 100 else 1 / 10

/-- The registers of a channel after its loop. -/
def Lane.chShow (L : Lane) (n : Nat) : Lane :=
  match L.chCfg n with
  | none => L
  | some c =>
    let x := L.ch n
    let b (v : Bool) : Nat := if v then 1 else 0
    let L := L.setAll [(Reg.CH_STATE_CAUSE n, x.cause), (Reg.CH_STATE_THRUST_CMD n, b x.thrustCmd), (Reg.CH_STATE_MIGRATING n, b x.migr.isSome),
      (Reg.CH_STATE_LEVER_STALE n, b x.leverMarked), (Reg.CH_STATE_IN_SECTOR n, b x.inSector), (Reg.CH_STATE_FB_ALT n, b x.loop.fbAlt),
      (Reg.CH_STATE_FB_VALID n, b x.fbValid), (Reg.CH_STATE_RATE_LIM n, b x.rateLim), (Reg.CH_STATE_LIMITED n, b x.loop.limited),
      (Reg.CH_STATE_SEL n, x.sel), (Reg.CH_STATE_STATE n, x.st.code), (Reg.CH_STAT_ONLINE n, b (decide (x.st = .online)))]
    let d (L : Lane) (f : Fld) (v : Rat) : Lane := L.setiScaled f v c.demLsb
    let a (L : Lane) (f : Fld) (v : Rat) : Lane := L.seti f (c.angCode v)
    let L := a (L.setiScaled (Reg.CH_ALLOC_THRUST n) x.thrust (1 / 10)) (Reg.CH_ALLOC_ANGLE n) x.ang
    let L := a (d L (Reg.CH_DEMAND_DEMAND n) x.loop.y) (Reg.CH_DEMAND_ANGLE n) x.angC
    let L := (d L (Reg.CH_ADEM_ALLOC n) x.a).setScaled (Reg.CH_ADEM_C_T n) x.cT c.demLsb
    let L := (L.setScaled (Reg.CH_CEIL_C_P n) x.cP c.demLsb).setScaled (Reg.CH_CEIL_C_BP n) x.cBp c.demLsb
    let L := a (d L (Reg.CH_FB_DEM_DEMAND n) x.dem.val) (Reg.CH_FB_DEM_ANGLE n) x.fbAng.val
    let L := (L.setScaled (Reg.CH_FB_PWR_POWER n) x.power.val 1).setScaled (Reg.CH_FB_PWR_CURRENT n) x.current.val 1
    let L := (L.setiScaled (Reg.CH_FB_TEMP_TEMP n) x.temp.val (1 / 10)).set (Reg.CH_FB_TEMP_AGE n)
      (match x.dem.age with | some g => min 0xFFFF g.floor.toNat | none => 0xFFFF)
    let L := (L.setiScaled (Reg.CH_FORCE_FX n) x.fx (1 / 10)).setiScaled (Reg.CH_FORCE_FY n) x.fy (1 / 10)
    let L := (L.setSat (Reg.CH_FE_DEM n) x.loop.feDem).setSat (Reg.CH_FE_ANG n) x.loop.feAng
    a (L.setiScaled (Reg.CH_LEVER_LEVER n) (x.lever * 32767) 1) (Reg.CH_LEVER_ANGLE n) x.leverAng

/-- The bits of page 0x11 that follow the buses and the migration (R254, R255). -/
def Lane.allocShow (L : Lane) : Lane :=
  let one (b : Nat) (L : Lane) : Lane :=
    let on := L.chList.filter fun k => (L.chCfg k).any fun d => decide (d.bus = b)
    let L := (L.setScaled (Reg.ALLOC_BUS_P_BUDGET b) (L.budget b) 1).setScaled (Reg.ALLOC_BUS_P_AVAIL b) (L.pAvail b) 1
    let L := match L.busFreq b with
      | some f => L.set (Reg.ALLOC_BUS_F_FREQ b) (min 0xFFFE (codeOf f (1 / 100)).toNat)
      | none => L.set (Reg.ALLOC_BUS_F_FREQ b) 0xFFFF
    let L := L.setScaled (Reg.ALLOC_BUS_F_LOAD b) ((on.map fun k => (L.ch k).power.val).sum) 1
    (L.setBit Reg.ALLOC_STAT_LOAD_RED b (L.bus b).lrRaw).setBit Reg.ALLOC_STAT_PM_STALE b (L.bus b).stale
  let L := (forUpTo 4 one L).availShow
  let L := L.setb Reg.ALLOC_STAT_MIGRATING (L.chList.any fun n => (L.ch n).migr.isSome)
  (L.setScaled Reg.ALLOC_POWER_MEAS ((L.chList.map fun k => (L.ch k).power.val).sum) 1).setScaled Reg.ALLOC_POWER_PLAN ((L.chList.map L.plan).sum) 1

/-! ### Assignment to the CEs and migration (R247-R250; 01 R36, R58) -/

/-- The CE that carries a channel, 0-7; 15 for none. -/
def Lane.ceOf (L : Lane) (n : Nat) : Nat := if n < 8 then L.get (Reg.LANE_CE_MAP0_CE n) else L.get (Reg.LANE_CE_MAP1_CE (n - 8))
def Lane.setCe (L : Lane) (n k : Nat) : Lane := if n < 8 then L.set (Reg.LANE_CE_MAP0_CE n) k else L.set (Reg.LANE_CE_MAP1_CE (n - 8)) k

/-- A CE is healthy (01 R57). -/
def Lane.ceOk (L : Lane) (k : Nat) : Bool := L.engOk (5 + k)

/-- Channels that a CE carries. -/
def Lane.ceLoad (L : Lane) (k : Nat) : Nat := ((List.range 16).filter fun n => decide (L.ceOf n = k)).length

/-- The healthy CE with the fewest channels and room for one more (R247). -/
def Lane.pickCe (L : Lane) : Option Nat :=
  let cand := (List.range 8).filter fun k => L.ceOk k && decide (L.ceLoad k < 3)
  cand.foldl (fun (b : Option Nat) k => match b with
    | none => some k
    | some j => if L.ceLoad k < L.ceLoad j then some k else some j) none

/-- The CE of the default assignment (01 R36). -/
def Lane.ceDefault (L : Lane) (n : Nat) : Nat := if L.variant = .kx922 then n else n / 2

/-- A channel finds a CE, or enters NO_ENGINE (R247, R249). -/
def Lane.placeChannel (L : Lane) (n : Nat) : Lane :=
  match L.pickCe with
  | some k => L.setCe n k
  | none => (((L.setCe n 0xF).chGoto n .noEngine).setb Reg.ALLOC_FAULT_NO_ENGINE true).find 0x11 2

/-- Channels to be reassigned in this tick (R248): in the tick after the failure, and again where a frame fault discarded that. -/
def Lane.orphans (L : Lane) : List Nat :=
  L.chList.filter fun n => decide ((L.ch n).st ≠ .noEngine) && decide ((L.ch n).migr = some 1) && !(L.ch n).placed

/-- CHAN_MIGRATED (R247, R248): in the tick after the failure the channels are reassigned in ascending order, and their restore
states are loaded. -/
def Lane.chanMigrated (L : Lane) : Lane :=
  let due := L.orphans
  if due = [] then L
  else
    let L := due.foldl (fun L n => L.setCe n 0xF) L
    let L := due.foldl (fun L n => (L.placeChannel n).onCh n fun x => { x with loop := x.restore, placed := true }) L
    let L := due.foldl (fun L n => if (L.ch n).st = .noEngine then L.onCh n fun x => { x with migr := none, loop := { x.loop with y := 0 } } else L) L
    ((L.setb Reg.ALLOC_FAULT_MIGRATED true).find 0x11 1).thrustersEval.allocShow

/-- CHAN_MIGRATED (R247). -/
def execChanMigrated (l : LaneId) (s : State) : Out := onLane l Lane.chanMigrated s

/-- MIGRATION_COMPLETE (R248): the receiving CEs have committed their first new commands. -/
def Lane.migrationComplete (L : Lane) : Lane :=
  let done := L.chList.filter fun n => decide ((L.ch n).migr = some 3)
  let L := done.foldl (fun L n => (L.onCh n fun x => { x with migr := none }).setb (Reg.CH_STATE_MIGRATING n) false) L
  if done = [] then L else L.setb Reg.ALLOC_STAT_MIGRATING (L.chList.any fun n => (L.ch n).migr.isSome)

/-- MIGRATION_COMPLETE (R248). -/
def execMigrationComplete (l : LaneId) (s : State) : Out := onLane l Lane.migrationComplete s

/-- Channels of a CE declared failed at the commit point begin their migration: the mirror frame carries their state of the commit
before (R248). -/
def Lane.ceLost (L : Lane) (k : Nat) : Lane :=
  let l := L.chList.filter fun n => decide (L.ceOf n = k)
  l.foldl (fun L n => (L.onCh n fun x => { x with migr := some 0, placed := false, sel := 5, loop := x.restore }).setb (Reg.CH_STATE_MIGRATING n) true) (L.setb Reg.ALLOC_STAT_MIGRATING true)

/-- The steps of a migration at a tick start (R248). -/
def Lane.migrTick (L : Lane) : Lane :=
  forUpTo 16 (fun n L => match (L.ch n).migr with
    | some 0 => L.onCh n fun x => { x with migr := some 1 }
    | some 1 => if (L.ch n).placed then L.onCh n fun x => { x with migr := some 2 } else L
    | _ => L) L

/-- A section that changes a channel in service, or has a channel that finds no CE, is refused (R250). -/
def Lane.chanRefused (L : Lane) (new : AllocChart) : Bool :=
  let old := L.ac.chans
  let changed := (List.range 16).filter fun n => decide (old.getD n none ≠ new.chans.getD n none)
  let added := changed.filter fun n => (old.getD n none).isNone && (new.chans.getD n none).isSome
  let room := ((List.range 8).map fun k => if L.ceOk k then 3 - L.ceLoad k else 0).sum
  (changed.any fun n => decide ((L.ch n).st ≠ .offline) && decide ((L.ch n).st ≠ .unused)) || decide (room < added.length)

/-- The channel and allocation sections at a lane start, or when they become current over the section `old` (R250). -/
def Lane.allocChart (L : Lane) (old : AllocChart) (start : Bool) : Lane :=
  let one (L : Lane) (n : Nat) : Lane :=
    let was := old.chan n
    let now := L.chCfg n
    if start then
      match now with
      | some _ =>
        let L := (L.onCh n fun _ => { st := .notReady, arcLo := 0 }).setCe n (L.ceDefault n)
        (L.chShowCfg n).set (Reg.CH_STATE_STATE n) ChState.notReady.code
      | none => ((L.onCh n fun _ => {}).setCe n 0xF).chShowCfg n
    else if was = now then L
    else
      let L := match now with
        | some _ =>
          let L := L.onCh n fun x => { st := .offline, yC := 0, angC := x.angC, loop := { ang := x.loop.ang }, ang := x.ang }
          let L := if was.isNone then L.placeChannel n else L
          (L.chShowCfg n).set (Reg.CH_STATE_STATE n) (L.ch n).st.code
        | none => ((L.onCh n fun _ => {}).setCe n 0xF).chShowCfg n
      L.find (0x20 + n) 6
  let L := (List.range L.variant.tcs).foldl one L
  let L := if start then L.onAlc fun a => { a with warm := true, buses := List.replicate 4 {} } else L
  L.thrustersEval

end Sys2Proof.Machine
end

