-- ==== Sys2Proof/Machine/Qp.lean ====
section
/-! DEFINITION. Quadratic programmes with linear inequalities by a primal active-set method (06 R227, R228). -/

namespace Sys2Proof.Machine

open Sys2Proof

/-- A constraint: a·x at most b. -/
structure QpCon where
  a : Vec
  b : Rat
deriving DecidableEq, Repr, Inhabited

/-- A programme: minimise xᵀHx/2 + q·x under the constraints, to within `tol` of the cost (R230). -/
structure Qp where
  h : Mat
  q : Vec
  cons : List QpCon
  tol : Rat := 0
deriving DecidableEq, Repr, Inhabited

/-- An iterate: the point, the working set by constraint number, whether the optimality conditions hold, iterations made. -/
structure QpIter where
  x : Vec
  work : List Nat
  done : Bool := false
  iters : Nat := 0
deriving DecidableEq, Repr, Inhabited

/-- A constraint by number. -/
def Qp.con (p : Qp) (i : Nat) : QpCon := p.cons.getD i ⟨[], 0⟩

/-- The matrix of the optimality conditions on a working set, with `e` added to the diagonal of H. -/
def Qp.kkt (p : Qp) (w : List Nat) (e : Rat) : Mat :=
  let n := p.q.length
  let k := w.length
  mTab (n + k) (n + k) fun i j =>
    if i < n ∧ j < n then mAt p.h i j + (if i = j then e else 0)
    else if i < n then vAt (p.con (w.getD (j - n) 0)).a i
    else if j < n then vAt (p.con (w.getD (i - n) 0)).a j
    else 0

/-- Step and multipliers on a working set; where the conditions have no single solution, with the least weight on the step
(log entry 10). -/
def Qp.direction (p : Qp) (x : Vec) (w : List Nat) : Option (Vec × Vec) :=
  let n := p.q.length
  let rhs := vScale (-1) (vAdd (mVec p.h x) p.q) ++ w.map fun _ => (0 : Rat)
  let sol := match mSolve (p.kkt w 0) rhs with
    | some s => some s
    | none => mSolve (p.kkt w (1 / 1000000000)) rhs
  sol.map fun s => (s.take n, s.drop n)

/-- The index of the least element of a list, with its value. -/
def minIdx : List Rat → Option (Nat × Rat)
  | [] => none
  | x :: r => match minIdx r with
    | none => some (0, x)
    | some (i, y) => if y < x then some (i + 1, y) else some (0, x)

/-- The longest part of a step that keeps every constraint outside the working set, and the constraint that ends it. -/
def Qp.block (p : Qp) (x d : Vec) (w : List Nat) : Rat × Option Nat :=
  (List.range p.cons.length).foldl (fun (best : Rat × Option Nat) i =>
    if w.contains i then best
    else
      let c := p.con i
      let s := vDot c.a d
      if 0 < s ∧ (c.b - vDot c.a x) / s < best.1 then ((c.b - vDot c.a x) / s, some i) else best) (1, none)

/-- The optimality conditions hold on a working set: the step it gives lowers the cost by no more than the tolerance. -/
def Qp.still (p : Qp) (x d : Vec) : Bool := d.all (· = 0) || decide (-(vDot (vAdd (mVec p.h x) p.q) d) ≤ 2 * p.tol)

/-- One iteration (R230; log entry 88). -/
def Qp.step (p : Qp) (s : QpIter) : QpIter :=
  match p.direction s.x s.work with
  | none => if s.work = [] then { s with done := true } else { s with work := [], iters := s.iters + 1 }
  | some (d, m) =>
    if p.still s.x d then
      match minIdx m with
      | some (i, v) => if v < -p.tol then { s with work := s.work.eraseIdx i, iters := s.iters + 1 } else { s with done := true }
      | none => { s with done := true }
    else
      let b := p.block s.x d s.work
      { s with x := vAdd s.x (vScale b.1 d), work := (match b.2 with | some i => s.work ++ [i] | none => s.work), iters := s.iters + 1 }

/-- At most `n` iterations. -/
def Qp.run (p : Qp) : Nat → QpIter → QpIter
  | 0, s => s
  | n + 1, s => if s.done then s else Qp.run p n (p.step s)

/-- The largest part of a point that satisfies every constraint; 0 satisfies them all (R227). -/
def Qp.feasible (p : Qp) (x : Vec) : Vec :=
  let t := p.cons.foldl (fun (t : Rat) c =>
    let s := vDot c.a x
    if c.b < s then (if 0 < s then min t (max 0 (c.b / s)) else 0) else t) 1
  if t = 1 then x else vScale t x

/-- The working set to start from: the constraints of the last one that hold with equality. -/
def Qp.warm (p : Qp) (x : Vec) (w : List Nat) : List Nat :=
  w.filter fun i => decide (i < p.cons.length) && decide (vDot (p.con i).a x = (p.con i).b)

/-- The cost of a point, less what does not depend on it. -/
def Qp.cost (p : Qp) (x : Vec) : Rat := vDot x (mVec p.h x) / 2 + vDot p.q x

end Sys2Proof.Machine
end

