-- ==== Sys2Proof/Machine/Alloc.lean ====
section
/-! DEFINITION. The allocation engine: aim stage, working arcs, tick stage, capacities, achieved force and shortfall (06
R226-R233, R252-R256). -/

namespace Sys2Proof.Machine

open Sys2Proof

/-! ### Regions (R220, R221, R227, R229) -/

/-- The unit vector of a direction in degrees. -/
def dirVec (a : Rat) : Rat × Rat := (Config.cos (rad a), Config.sin (rad a))

/-- A half plane of the force plane: a·Fx + b·Fy at most c. -/
structure HalfPlane where
  a : Rat
  b : Rat
  c : Rat
deriving DecidableEq, Repr, Inhabited

/-- The part of a working arc from its lowest to its highest direction, at most 180° wide. -/
def arcPlanes (lo hi : Rat) : List HalfPlane :=
  let l := dirVec lo
  let h := dirVec hi
  let m := dirVec ((lo + hi) / 2)
  [⟨l.2, -l.1, 0⟩, ⟨-h.2, h.1, 0⟩, ⟨-m.1, -m.2, 0⟩]

/-- The inscribed polygon of 16 sides (R227); where its vertices stand is log entry 10. -/
def polygon16 (t : Rat) : List HalfPlane :=
  (List.range 16).map fun (k : Nat) =>
    let u := dirVec (Config.polyPhase + 45 / 4 + 45 / 2 * (k : Rat))
    ⟨u.1, u.2, t * Config.cos (rad (45 / 4))⟩

/-- The polygon of a MAIN_RUDDER ahead (R221). -/
def ChanChart.rudderPlanes (c : ChanChart) : List HalfPlane :=
  let pt (d : Rat) : Rat × Rat := let u := dirVec (c.rudderDir d); let m := c.rudderLim d; (m * u.1, m * u.2)
  let ps := [(0, 0), pt (-c.rudMax), pt (-(c.rudMax / 2)), pt 0, pt (c.rudMax / 2), pt c.rudMax]
  let edge (p q : Rat × Rat) : HalfPlane :=
    let ex := q.1 - p.1
    let ey := q.2 - p.2
    ⟨ey, -ex, ey * p.1 - ex * p.2⟩
  ((ps.zip (ps.drop 1 ++ ps.take 1)).map fun e => edge e.1 e.2) ++ [⟨1, 0, c.tFwd⟩, ⟨-1, 0, 0⟩]

/-- Distances from a direction to the ends of its allowed arc, clockwise and back, none above 90 (R229). -/
def ChanChart.arcAt (c : ChanChart) (a : Rat) : Rat × Rat :=
  let up := c.sectors.foldl (fun d s => if s.width = 0 then d else min d (deg360 (s.lo - a))) 90
  let dn := c.sectors.foldl (fun d s => if s.width = 0 then d else min d (deg360 (a - s.hi))) 90
  (dn, up)

/-- A direction lies in no forbidden sector. -/
def ChanChart.allowed (c : ChanChart) (a : Rat) : Bool := !(c.sectors.any fun s => s.inside a)

/-- The nearest direction in no forbidden sector: an end of the sectors around it (log entry 13). -/
def ChanChart.nearestAllowed (c : ChanChart) (a : Rat) : Rat :=
  if c.allowed a then a
  else
    let ends := ((c.sectors.map Sector.lo) ++ (c.sectors.map Sector.hi)).filter fun e => c.allowed e
    let dist (e : Rat) : Rat := min (deg360 (e - a)) (deg360 (a - e))
    match ends with
    | [] => a
    | e :: r => r.foldl (fun b x => if dist x < dist b then x else b) e

/-- Allowed arcs: start, and width clockwise. -/
def ChanChart.arcs (c : ChanChart) : List (Rat × Rat) :=
  let starts := (c.sectors.filter fun s => decide (0 < s.width)).map Sector.hi
  let w (a : Rat) : Rat := c.sectors.foldl (fun d s => if s.width = 0 then d else min d (deg360 (s.lo - a))) 360
  (starts.filter fun a => c.allowed a && decide (0 < w a)).map fun a => (a, w a)

/-- The region of a channel as half planes of the force plane, with the aim at a direction. -/
def ChanChart.region (c : ChanChart) (aim : Rat) (astern : Bool) : List HalfPlane :=
  match c.ty with
  | .azimuth =>
    let d := c.arcAt aim
    polygon16 c.tFwd ++ arcPlanes (aim - d.1) (aim + d.2)
  | .tunnel => [⟨0, 1, c.tFwd⟩, ⟨0, -1, c.tRev⟩]
  | .shaft => [⟨1, 0, c.tFwd⟩, ⟨-1, 0, c.tRev⟩]
  | .mainRudder => if astern then [⟨1, 0, 0⟩, ⟨-1, 0, c.tRev⟩] else c.rudderPlanes ++ arcPlanes (aim - 90) (aim + 90)

/-- The axes along which a channel's force may vary. -/
def ChanChart.axes (c : ChanChart) (astern : Bool) : List (Rat × Rat) :=
  match c.ty with
  | .azimuth => [(1, 0), (0, 1)]
  | .tunnel => [(0, 1)]
  | .shaft => [(1, 0)]
  | .mainRudder => if astern then [(1, 0)] else [(1, 0), (0, 1)]

/-! ### The aim stage (R227, R229, R230) -/

/-- A channel as the aim stage takes it. -/
structure AimChan where
  n : Nat
  c : ChanChart
  /-- f̂. -/
  fx : Rat
  fy : Rat
  aim : Rat
  astern : Bool
deriving DecidableEq, Repr, Inhabited

/-- A channel of the lane as the aim stage takes it. -/
def Lane.aimChan (L : Lane) (n : Nat) : Option AimChan :=
  (L.chCfg n).map fun c => let x := L.ch n; ⟨n, c, x.aimX, x.aimY, x.aimAng, x.astern⟩

/-- Magnitude of f̂, T_L and the unit vector u (R227). -/
def AimChan.mag (k : AimChan) : Rat := Config.sqrt (k.fx * k.fx + k.fy * k.fy)
def AimChan.tl (k : AimChan) : Rat := max k.mag (k.c.tFwd / 10)
def AimChan.sense (k : AimChan) : Bool :=
  match k.c.ty with
  | .azimuth => false
  | .tunnel => decide (k.fy < 0)
  | .shaft => decide (k.fx < 0)
  | .mainRudder => k.astern
def AimChan.u (k : AimChan) : Rat × Rat :=
  let s : Rat := if k.sense then -1 else 1
  match k.c.ty with
  | .azimuth => dirVec k.aim
  | .tunnel => (0, s)
  | .shaft => (s, 0)
  | .mainRudder => if k.astern then (-1, 0) else dirVec k.aim

/-- Power at T_L and its slope there; c_i (R227). -/
def AimChan.pl (k : AimChan) : Rat := k.c.powerOf (if k.sense then -k.tl else k.tl)
def AimChan.ps (k : AimChan) : Rat := k.c.powerSlope (if k.sense then -k.tl else k.tl)
def AimChan.cost (k : AimChan) : Rat := if k.tl = 0 then 0 else k.ps / (2 * k.tl)

/-- A variable of the aim stage: its channel and axis. -/
structure AimVar where
  k : AimChan
  ux : Rat
  uy : Rat
deriving DecidableEq, Repr, Inhabited

/-- The variables of a list of channels. -/
def aimVars (l : List AimChan) : List AimVar := (l.map fun k => (k.c.axes k.astern).map fun u => (⟨k, u.1, u.2⟩ : AimVar)).flatten

/-- The column of a force axis at a channel's position (R226). -/
def column (c : ChanChart) (ux uy : Rat) : Axes := ⟨ux, uy, c.x * uy - c.y * ux⟩

/-- Weighted product of two columns. -/
def Lane.qDot (L : Lane) (a b : Axes) : Rat := L.ac.qx * a.x * b.x + L.ac.qy * a.y * b.y + L.ac.qn * a.n * b.n

/-- Sums and differences of forces and moments. -/
def Axes.add (a b : Axes) : Axes := ⟨a.x + b.x, a.y + b.y, a.n + b.n⟩
def Axes.sub (a b : Axes) : Axes := ⟨a.x - b.x, a.y - b.y, a.n - b.n⟩
def Axes.scale (k : Rat) (a : Axes) : Axes := ⟨k * a.x, k * a.y, k * a.n⟩

/-- The wrench of a channel's force. -/
def wrenchOf (c : ChanChart) (f : Rat × Rat) : Axes := column c f.1 f.2

/-- A channel's term of the sum of bus power at a force (R227). -/
def AimChan.busTerm (k : AimChan) (f : Rat × Rat) : Rat := k.pl + k.ps * (k.u.1 * f.1 + k.u.2 * f.2 - k.tl)

/-- The aim-stage programme over the channels `l` for the demand `d`, with `used` of each bus's budget taken by others. -/
def Lane.aimQp (L : Lane) (l : List AimChan) (d : Axes) (used : Nat → Rat) : Qp :=
  let vs := aimVars l
  let n := vs.length
  let v (i : Nat) : AimVar := vs.getD i default
  let col (i : Nat) : Axes := column (v i).k.c (v i).ux (v i).uy
  let A := L.ac
  let hat (i : Nat) : Rat := (v i).ux * (v i).k.fx + (v i).uy * (v i).k.fy
  let diag (i : Nat) : Rat := A.wPower * (v i).k.cost + A.wWear
  let h := mTab n n fun i j => 2 * ((if i = j then diag i else 0) + L.qDot (col i) (col j))
  let q := vTab n fun i => -2 * (A.wWear * hat i + L.qDot (col i) d)
  let regions := (l.map fun k => (k.c.region k.aim k.astern).map fun p =>
    (⟨vTab n fun i => if (v i).k.n = k.n then p.a * (v i).ux + p.b * (v i).uy else 0, p.c⟩ : QpCon)).flatten
  let bus (b : Nat) : List QpCon :=
    let on := l.filter fun k => decide (k.c.bus = b)
    if on = [] then []
    else
      let const := (on.map fun k => k.pl - k.ps * k.tl).sum
      [⟨vTab n fun i => if (v i).k.c.bus = b then (v i).k.ps * ((v i).k.u.1 * (v i).ux + (v i).k.u.2 * (v i).uy) else 0, max 0 (L.budget b - used b - const)⟩]
  { h := h, q := q, cons := regions ++ ((List.range 4).map bus).flatten }

/-- The point of the programme that a list of channels' aims is. -/
def aimPoint (l : List AimChan) : Vec := (aimVars l).map fun v => v.ux * v.k.fx + v.uy * v.k.fy

/-- Force of a channel in a point. -/
def aimForce (l : List AimChan) (x : Vec) (n : Nat) : Rat × Rat :=
  ((aimVars l).zip x).foldl (fun (f : Rat × Rat) p => if p.1.k.n = n then (f.1 + p.1.ux * p.2, f.2 + p.1.uy * p.2) else f) (0, 0)

/-- J of R227 at a point. -/
def Lane.aimCost (L : Lane) (l : List AimChan) (d : Axes) (x : Vec) : Rat :=
  (L.aimQp l d fun _ => 0).cost x + L.qDot d d + L.ac.wWear * (l.map fun k => k.fx * k.fx + k.fy * k.fy).sum

/-- Channels of the aim stage: ONLINE and not held in a migration. -/
def Lane.aimList (L : Lane) : List AimChan :=
  L.chList.filterMap fun n => if (L.ch n).st = .online ∧ !(L.ch n).heldNow then L.aimChan n else none

/-- The terms of a bus's power of its channels outside the aim stage: at their held force, or at 0 (R227, R248). -/
def Lane.busOthers (L : Lane) (l : List AimChan) (b : Nat) : Rat :=
  (L.chList.map fun n =>
    if l.any fun k => decide (k.n = n) then 0
    else match L.aimChan n with
      | some k =>
        let x := L.ch n
        if k.c.bus ≠ b then 0 else k.busTerm (if x.st.delivers ∧ x.heldNow then k.c.force (k.c.thrustOf x.yC) x.angC else (0, 0))
      | none => 0).sum

/-- The wrench of a channel's committed demand and angle. -/
def ChanChart.heldForce (c : ChanChart) (x : ChanSt) : Axes := wrenchOf c (c.force (c.thrustOf x.yC) x.angC)

/-- The wrench of the channels held in a migration, at their held demand and angle (R248). -/
def Lane.heldWrench (L : Lane) : Axes :=
  L.chList.foldl (fun (a : Axes) n => match L.chCfg n with
    | some c => if (L.ch n).st.delivers ∧ (L.ch n).heldNow then a.add (c.heldForce (L.ch n)) else a
    | none => a) {}

/-- Stores an aim: its force, and its direction where the force is not 0. -/
def Lane.putAim (L : Lane) (n : Nat) (f : Rat × Rat) : Lane :=
  match L.chCfg n with
  | none => L
  | some c =>
    L.onCh n fun x => { x with aimX := f.1, aimY := f.2,
                               aimAng := if f.1 = 0 ∧ f.2 = 0 then x.aimAng else if c.turns then deg360 (deg (Config.atan2 f.2 f.1)) else x.aimAng }

/-- The working arc follows the aim (R229). -/
def Lane.centreArc (L : Lane) (n : Nat) : Lane :=
  match L.chCfg n with
  | none => L
  | some c =>
    match c.ty with
    | .azimuth =>
      let a := c.nearestAllowed (L.ch n).aimAng
      let d := c.arcAt a
      L.onCh n fun x => { x with aimAng := a, arcLo := deg360 (a - d.1), arcHi := deg360 (a + d.2) }
    | _ => L

/-- An alternative to a channel's working arc: the channel aimed at the middle of another reachable allowed arc, or a MAIN_RUDDER
turned between ahead and astern (R229). -/
def Lane.alternatives (L : Lane) (k : AimChan) : List AimChan :=
  match k.c.ty with
  | .azimuth =>
    let cur := (L.ch k.n).ang
    let free (m : Rat) : Bool :=
      let r := deg360 (m - cur)
      !(k.c.barred cur r true) || !(k.c.barred cur (360 - r) false)
    ((k.c.arcs.filter fun a => !(decide (deg360 (k.aim - a.1) ≤ a.2))).map fun a => deg360 (a.1 + a.2 / 2)).filterMap fun m =>
      if free m then some { k with aim := m } else none
  | .mainRudder => [{ k with astern := !k.astern, aim := 0 }]
  | _ => []

/-- The best force of one channel with all others held at the forces `f`, and J with it (R229). -/
def Lane.alternative (L : Lane) (l : List AimChan) (f : Nat → Rat × Rat) (d : Axes) (k : AimChan) : Rat × (Rat × Rat) :=
  let others := l.filter fun j => decide (j.n ≠ k.n)
  let w := others.foldl (fun (a : Axes) j => a.add (wrenchOf j.c (f j.n))) {}
  let used (b : Nat) : Rat := L.busOthers l b + ((others.filter fun j => decide (j.c.bus = b)).map fun j => j.busTerm (f j.n)).sum
  let p := { L.aimQp [k] (d.sub w) used with tol := L.qDot d d / 1000000 }
  let r := p.run 200 ⟨p.q.map fun _ => 0, [], false, 0⟩
  let g := aimForce [k] r.x k.n
  let l2 := l.map fun j => if j.n = k.n then k else j
  let at_ (n : Nat) : Rat × Rat := if n = k.n then g else f n
  (L.aimCost l2 d ((aimVars l2).map fun v => v.ux * (at_ v.k.n).1 + v.uy * (at_ v.k.n).2), g)

/-- The arcs evaluated once in a position cycle (R229): the single change that lowers J most is taken; `l` with the aims of the
tick before, `x` the solution. -/
def Lane.arcChange (L : Lane) (l : List AimChan) (x : Vec) (d : Axes) : Lane :=
  let J := L.aimCost l d x
  let cands := (l.map fun k => (L.alternatives k).map fun a => (a, L.alternative l (aimForce l x) d a)).flatten
  let best := cands.foldl (fun (b : Option (AimChan × Rat × (Rat × Rat))) c =>
    match b with
    | none => some c
    | some e => if c.2.1 < e.2.1 then some c else b) none
  let L := L.onAlc fun a => { a with arcDone := true }
  match best with
  | some (k, j, f) =>
    if j < J * (1 - L.ac.arcHyst) then
      let L := (L.onCh k.n fun x => { x with astern := k.astern, aimAng := k.aim }).putAim k.n f
      (L.centreArc k.n).find 0x11 7
    else L
  | none => L

/-- The aim stage of a tick: at most `iters` iterations by 720 µs, `early` of them by 600 µs (R227, R230). -/
def Lane.aimStage (L : Lane) (d : Axes) (iters early : Nat) : Lane :=
  let L := L.chList.foldl Lane.centreArc L
  let l := L.aimList
  let p := { L.aimQp l d (L.busOthers l) with tol := L.qDot d d / 1000000 }
  let x0 := p.feasible (aimPoint l)
  let r := p.run iters ⟨x0, p.warm x0 L.alc.active, false, 0⟩
  let r := if !r.done ∧ r.iters < iters then p.step r else r
  let L := l.foldl (fun L k => L.putAim k.n (aimForce l r.x k.n)) L
  let L := L.chList.foldl (fun L n => if l.any (fun k => decide (k.n = n)) then L else if (L.ch n).heldNow then L else L.onCh n fun x => { x with aimX := 0, aimY := 0 }) L
  let L := L.onAlc fun a => { a with active := r.work, converged := r.done, ncPend := a.ncPend || !r.done, ncRaised := a.ncRaised && !r.done }
  let L := L.setSat Reg.ALLOC_SOLVE_ITER r.iters
  let L := if L.get Reg.ALLOC_SOLVE_ITER_MAX < min 255 r.iters then L.setSat Reg.ALLOC_SOLVE_ITER_MAX r.iters else L
  let L := if r.done then (L.setb Reg.ALLOC_STAT_NOT_CONVERGED false).set Reg.ALLOC_NC_CONSEC 0 else L
  if !L.alc.arcDone && r.done && decide (r.iters ≤ early) then L.arcChange l r.x d else L

/-- ALLOC_NOT_CONVERGED (R230): the last tick's aim stage stopped at 720 µs. -/
def Lane.allocNotConverged (L : Lane) : Lane :=
  if L.alc.ncPend then
    ((((L.onAlc fun a => { a with ncPend := false }).incSat Reg.ALLOC_NC_TOTAL).incSat Reg.ALLOC_NC_CONSEC)).setb Reg.ALLOC_STAT_NOT_CONVERGED true
  else L

/-- ALLOC_NOT_CONVERGED (R230). -/
def execAllocNotConverged (l : LaneId) (s : State) : Out := onLane l Lane.allocNotConverged s

/-- ALLOC_NC_EVT (R230): ten ticks in a row have not converged. -/
def Lane.allocNcEvt (L : Lane) : Lane :=
  if 10 ≤ L.get Reg.ALLOC_NC_CONSEC ∧ !L.alc.ncRaised then (L.onAlc fun a => { a with ncRaised := true }).find 0x11 0 else L

/-- ALLOC_NC_EVT (R230). -/
def execAllocNcEvt (l : LaneId) (s : State) : Out := onLane l Lane.allocNcEvt s

/-! ### The tick stage (R228) -/

/-- The angle of a channel moves towards its aim for `h` s (R228, R229). -/
def Lane.moveAngle (L : Lane) (n : Nat) (h : Rat) : Lane :=
  match L.chCfg n with
  | none => L
  | some c =>
    let x := L.ch n
    if x.heldNow || !decide (x.st = .online) || (decide (x.aimX = 0) && decide (x.aimY = 0)) then L
    else
      match c.ty with
      | .azimuth =>
        let a := c.turn x.ang x.aimAng (c.azRate * h)
        (L.onCh n fun x => { x with ang := a }).sectorMark n c a
      | .mainRudder =>
        if x.astern then L
        else
          let d := c.rudderFor (wrapDeg x.aimAng) - x.ang
          L.onCh n fun x => { x with ang := x.ang + qClamp d (-(c.rudRate * h)) (c.rudRate * h) }
      | _ => L

/-- A range of thrust within LIMITED and a sector (R229, R238). -/
def Lane.capRange (L : Lane) (n : Nat) (c : ChanChart) (h : Rat) (r : Rat × Rat) : Rat × Rat :=
  let x := L.ch n
  let r := if x.loop.limited then
      let y := qAbs x.loop.y + c.rateUp * h
      (max r.1 (min 0 (c.thrustOf (-y))), min r.2 (max 0 (c.thrustOf y)))
    else r
  if x.inSector then (r.1, min r.2 (c.idleFrac * c.tFwd)) else r

/-- Limits of a channel's thrust without its rates: its type, LIMITED, a sector (R228, R229, R238). -/
def Lane.thrustRange (L : Lane) (n : Nat) (c : ChanChart) (h : Rat) : Rat × Rat :=
  let x := L.ch n
  L.capRange n c h (match c.ty with
    | .azimuth => (0, c.tFwd)
    | .mainRudder =>
      if 0 < x.thrust then (0, c.rudderLim x.ang) else if x.thrust < 0 then (-c.tRev, 0) else if x.astern then (-c.tRev, 0) else (0, c.rudderLim x.ang)
    | _ => (-c.tRev, c.tFwd))

/-- L_i and U_i of a tick of `h` s (R228). -/
def Lane.thrustBounds (L : Lane) (n : Nat) (c : ChanChart) (h : Rat) : Rat × Rat :=
  let x := L.ch n
  let base := L.thrustRange n c h
  let r := if x.st = .draining then (min 0 x.thrust, max 0 x.thrust) else base
  let s := lerpSlope c.thrust x.loop.y
  let lo := max r.1 (x.thrust - c.rateDown * s * h)
  let hi := min r.2 (x.thrust + c.rateUp * s * h)
  (lo, max lo (if x.st = .draining then min hi base.2 else hi))

/-- The aim thrust, signed along the channel's axis. -/
def Lane.aimThrust (L : Lane) (n : Nat) (c : ChanChart) : Rat :=
  let x := L.ch n
  match c.ty with
  | .tunnel => x.aimY
  | .shaft => x.aimX
  | .azimuth => Config.sqrt (x.aimX * x.aimX + x.aimY * x.aimY)
  | .mainRudder => if x.astern then x.aimX else Config.sqrt (x.aimX * x.aimX + x.aimY * x.aimY)

/-- The tick stage (R228): thrusts for the demand `d`, at the angles as they stand. -/
def Lane.tickStage (L : Lane) (d : Axes) (h : Rat) : Lane :=
  let l : List (Nat × ChanChart) := L.chList.filterMap fun n => match L.chCfg n with
    | some c => if (L.ch n).st.delivers ∧ !(L.ch n).heldNow then some (n, c) else none
    | none => none
  let n := l.length
  let at_ (i : Nat) : Nat := (l[i]?.map Prod.fst).getD 0
  let bnd := l.map fun p => L.thrustBounds p.1 p.2 h
  let cols := l.map fun p =>
    let x := L.ch p.1
    let u := p.2.unit x.ang (decide (x.thrust < 0) || (decide (x.thrust = 0) && x.astern))
    column p.2 u.1 u.2
  let col (i : Nat) : Axes := cols.getD i {}
  let A := L.ac
  let hm := mTab n n fun i j => 2 * ((if i = j then A.wTrack else 0) + L.qDot (col i) (col j))
  let aims := l.map fun p => L.aimThrust p.1 p.2
  let rest := d.sub L.heldWrench
  let q := vTab n fun i => -2 * (A.wTrack * vAt aims i + L.qDot (col i) rest)
  let e (i : Nat) (s : Rat) : Vec := vTab n fun j => if i = j then s else 0
  let cons := ((List.range n).map fun i => [(⟨e i 1, (bnd.getD i (0, 0)).2⟩ : QpCon), ⟨e i (-1), -(bnd.getD i (0, 0)).1⟩]).flatten
  let x0 := vTab n fun i => qClamp (L.ch (at_ i)).thrust (bnd.getD i (0, 0)).1 (bnd.getD i (0, 0)).2
  let r := Qp.run { h := hm, q := q, cons := cons } 400 ⟨x0, [], false, 0⟩
  (List.range n).foldl (fun L i => L.onCh (at_ i) fun x => { x with thrust := vAt r.x i }) L

/-! ### What is reported to control (R232) -/

/-- τ_c: the wrench of the final demands at the commanded angles. -/
def Lane.tauC (L : Lane) : Axes :=
  L.chList.foldl (fun (a : Axes) n => match L.chCfg n with
    | some c => let x := (L.ch n).loop; a.add (wrenchOf c (c.force (c.thrustOf x.y) x.ang))
    | none => a) {}

/-- The largest and least value of a·Fx + b·Fy that a channel can give within its current bounds (R232). -/
def Lane.support (L : Lane) (n : Nat) (c : ChanChart) (h a b : Rat) : Rat :=
  let r := L.capRange n c h (if c.ty = .azimuth then (0, c.tFwd) else (-c.tRev, c.tFwd))
  match c.ty with
  | .tunnel => max (b * r.1) (b * r.2)
  | .shaft => max (a * r.1) (a * r.2)
  | .mainRudder =>
    if (L.ch n).astern then max 0 (a * r.1)
    else
      let v (d : Rat) : Rat := let u := dirVec (c.rudderDir d); min (c.rudderLim d) r.2 * (a * u.1 + b * u.2)
      max 0 (max (max (v (-c.rudMax)) (v (-(c.rudMax / 2)))) (max (v 0) (max (v (c.rudMax / 2)) (v c.rudMax))))
  | .azimuth =>
    let x := L.ch n
    let d := c.arcAt x.aimAng
    let want := deg (Config.atan2 b a)
    let ofs := deg360 (want - (x.aimAng - d.1))
    let at_ (g : Rat) : Rat := let u := dirVec g; a * u.1 + b * u.2
    if a = 0 ∧ b = 0 then 0
    else if ofs ≤ d.1 + d.2 then r.2 * at_ want
    else r.2 * max 0 (max (at_ (x.aimAng - d.1)) (at_ (x.aimAng + d.2)))

/-- The capacities of the ONLINE channels (R232). -/
def Lane.capacities (L : Lane) (h : Rat) : Lane :=
  let sum (f : ChanChart → Rat × Rat) : Rat := L.chList.foldl (fun s n => match L.chCfg n with
    | some c => if (L.ch n).st = .online then s + L.support n c h (f c).1 (f c).2 else s
    | none => s) 0
  let pos : Axes := ⟨sum fun _ => (1, 0), sum fun _ => (0, 1), sum fun c => (-c.y, c.x)⟩
  let neg : Axes := ⟨sum fun _ => (-1, 0), sum fun _ => (0, -1), sum fun c => (c.y, -c.x)⟩
  let L := L.onAlc fun a => { a with capPos := pos, capNeg := neg, capDone := true }
  let L := (L.setScaled Reg.ALLOC_CAP_X_POS pos.x 1).setScaled Reg.ALLOC_CAP_X_NEG neg.x 1
  let L := (L.setScaled Reg.ALLOC_CAP_Y_POS pos.y 1).setScaled Reg.ALLOC_CAP_Y_NEG neg.y 1
  (L.setScaled Reg.ALLOC_CAP_MZ_POS pos.n 10).setScaled Reg.ALLOC_CAP_MZ_NEG neg.n 10

/-- The means of the position cycle that ends at this boundary (R232). -/
def Lane.allocMeans (L : Lane) : Lane :=
  let a := L.alc
  let k : Rat := 1 / ((max 1 a.sumN : Nat) : Rat)
  let ach := a.sumC.scale k
  let sh := a.sumS.scale k
  let L := L.onAlc fun a => { a with ach := ach, short := sh, sumC := {}, sumS := {}, sumN := 0, arcDone := false, capDone := false }
  let f (L : Lane) (g : Fld) (v : Rat) : Lane := L.setiScaled g v (1 / 100)
  let L := f (f (f L Reg.ALLOC_ACH_X_FORCE ach.x) Reg.ALLOC_ACH_Y_FORCE ach.y) Reg.ALLOC_ACH_MZ_MOMENT ach.n
  f (f (f L Reg.ALLOC_SHORT_X_FORCE sh.x) Reg.ALLOC_SHORT_Y_FORCE sh.y) Reg.ALLOC_SHORT_MZ_MOMENT sh.n

/-- The warm start from the committed state (R231). -/
def Lane.warmStart (L : Lane) : Lane :=
  let one (L : Lane) (n : Nat) : Lane := match L.chCfg n with
    | none => L
    | some c =>
      let x := L.ch n
      let t := if x.st.delivers then c.thrustOf x.yC else 0
      let f := c.force t x.angC
      let dir := match c.ty with
        | .azimuth => deg360 x.angC
        | .mainRudder => c.rudderDir x.angC
        | _ => x.aimAng
      L.onCh n fun x => { x with thrust := t, ang := x.angC, aimX := f.1, aimY := f.2, aimAng := dir, astern := decide (t < 0) }
  (L.chList.foldl one L).onAlc fun a => { a with warm := false, active := [] }

/-- AE's work in a tick of `h` s (R226-R233): iterations completed by 720 µs and by 600 µs, the offset of DONE in 0.1 µs. -/
def Lane.aeTick (L : Lane) (h : Rat) (pos : Bool) (iters early done : Nat) : Lane :=
  let m := L.mode
  if m < 3 ∨ 11 < m then L.setb Reg.ALLOC_STAT_ALLOCATING false
  else
    let L := if pos then L.capacities h else L
    let D : Axes := if m < 6 then {} else L.ctl.dem
    let t := L.tauC
    let L := L.onAlc fun a => { a with tau := t, sumC := a.sumC.add t, sumS := a.sumS.add (D.sub t), sumN := a.sumN + 1 }
    let L := (L.setSat Reg.ALLOC_SOLVE_END done).setb Reg.ALLOC_STAT_ALLOCATING (decide (m ≠ 5))
    if m = 5 then L.chList.foldl (fun L n => L.onCh n fun x => { x with thrust := 0, ang := x.loop.ang }) L
    else
      let L := if L.alc.warm then L.warmStart else L
      let drop (L : Lane) (n : Nat) : Lane :=
        if (L.ch n).st.delivers then (if (L.ch n).st = .draining then L.onCh n fun x => { x with aimX := 0, aimY := 0 } else L)
        else L.onCh n fun x => { x with aimX := 0, aimY := 0, thrust := 0 }
      let L := L.chList.foldl drop L
      if m < 6 then
        let L := L.chList.foldl (fun L n => L.onCh n fun x => { x with aimX := 0, aimY := 0 }) L
        L.tickStage D h
      else
        let L := L.aimStage (D.sub L.heldWrench) iters early
        let L := L.chList.foldl (fun L n => L.moveAngle n h) L
        L.tickStage D h

/-- The channel loops in a tick of `h` s (R234). -/
def Lane.channelLoops (L : Lane) (h : Rat) : Lane :=
  let dt := 1000 * h
  let lub := decide (L.mode = 2)
  let L := if lub then L else L.pmTick dt
  let L := L.migrTick
  let one (L : Lane) (n : Nat) : Lane := match L.chCfg n with
    | none => L
    | some c =>
      let L := L.chLever n c dt
      let L := if lub then L else L.chFeedback n c dt
      L.chStates n c lub
  let L := L.chList.foldl one L
  let L := L.thrustersEval
  let L := L.chList.foldl (fun L n => match L.chCfg n with | some c => L.chLoop n c h | none => L) L
  L

/-- In a coast the loops are not evaluated: CH_STATE.SEL reads HELD (R259; 15 R553). -/
def Lane.loopsHeld (L : Lane) : Lane := L.chList.foldl (fun L n => (L.onCh n fun x => { x with sel := 5 }).set (Reg.CH_STATE_SEL n) 5) L

/-- The registers of the channels and of allocation after a tick; in LUBBER page 0x11 keeps its reset values (R233). -/
def Lane.thrustShow (L : Lane) : Lane :=
  let L := L.chList.foldl Lane.chShow L
  if L.mode = 2 then L else L.allocShow

/-- CNT_CLR of page 0x11 and of a channel page (R254, R258). -/
def Lane.allocCntClr (L : Lane) : Lane := (L.set Reg.ALLOC_NC_w 0).set Reg.ALLOC_SOLVE_ITER_MAX 0
def Lane.chCntClr (L : Lane) (n : Nat) : Lane := L.set (Reg.CH_CNT_w n) 0

end Sys2Proof.Machine
end

