-- ==== Sys2Proof/Machine/Field.lean ====
section
/-! DEFINITION. Field terminals: output stages, terminal monitors, open-wire tests (17_connectors_and_field_io). -/

namespace Sys2Proof.Machine

open Sys2Proof

/-- The module with a safety output's stage changed (R593). -/
def State.onStage (s : State) (k : Nat) (f : SoStage → SoStage) : State :=
  { s with sh := { s.sh with so := modAt s.sh.so k f } }

/-- SO_OVERLOAD_OFF (R593): the stage turns its output off; gate and Binnacle switch keep their states. -/
def execSoOverloadOff (k : Nat) (s : State) : Out := .next (s.onStage k fun _ => ⟨true⟩)

/-- SO_OVERLOAD_RETRY (R593). -/
def execSoOverloadRetry (k : Nat) (s : State) : Out := .next (s.onStage k fun _ => ⟨false⟩)

/-- The lane that holds the grant. -/
def State.driver (s : State) : Option LaneId :=
  match s.sh.lock.grant with
  | .held l => some l
  | _ => none

/-- A lane's monitor judges an open-wire test (R596): two consecutive failed tests set OPEN, two passed clear it. -/
def Lane.openWire (L : Lane) (n : Nat) (fail : Bool) : Lane :=
  if L.get (Reg.AI_CFG_MODE n) ≠ 1 then L
  else
    L.onAi n fun a =>
      let t := a.term
      let t : TermMon := if fail then { t with openFails := min 2 (t.openFails + 1), openPasses := 0 }
        else { t with openPasses := min 2 (t.openPasses + 1), openFails := 0 }
      { a with term := { t with openWire := if 2 ≤ t.openFails then true else if 2 ≤ t.openPasses then false else t.openWire } }

/-- OPEN_WIRE_TEST (R596): the lane that holds the grant drives the test in its tick, while it does not coast; `failA` and
`failB` say whether the lanes' monitors saw a rise of more than 50 mV. -/
def execOpenWireTest (n : Nat) (failA failB : Bool) (s : State) : Out :=
  match s.driver with
  | none => .next s
  | some l =>
    let D := s.lane l
    if D.coasting ∨ D.get Reg.TICK_CNT_COUNT % 1000 ≠ 30 * n + 7 ∨ D.get (Reg.AI_CFG_MODE n) ≠ 1 then .next s
    else .next { s with a := s.a.openWire n failA, b := s.b.openWire n failB }

/-- AI_TERMINAL_FINDING (R596): after 8 consecutive measurements a finding is entered or cleared. -/
def Lane.termFinding (L : Lane) (n : Nat) (f : TermFind) (on : Bool) : Lane :=
  L.onAi n fun a =>
    { a with term := match f with
      | .short => { a.term with short := on }
      | .reversed => { a.term with reversed := on } }

/-- AI_TERMINAL_FINDING (R596). REVERSED exists in CURRENT mode only. -/
def execAiTerminalFinding (l : LaneId) (n : Nat) (f : TermFind) (on : Bool) (s : State) : Out :=
  onLane l (fun L =>
    if L.get (Reg.AI_CFG_MODE n) = 0 || (decide (f = .reversed) && decide (L.get (Reg.AI_CFG_MODE n) ≠ 2)) then L
    else L.termFinding n f on) s

end Sys2Proof.Machine
end

