-- ==== Sys2Proof/Machine/Chron.lean ====
section
/-! DEFINITION. The chronometer: sources, servo, steps, holdover, SET_TIME, PTP, PPS (09_chronometer). -/

namespace Sys2Proof.Machine

open Sys2Proof

/-- The chronometer section in force (R371). -/
def Lane.cc (L : Lane) : ChronChart := L.chart.now.chron

/-- Source k of R348. -/
def ChronSt.src (c : ChronSt) (k : Nat) : ChrSrc :=
  if k = 1 then c.gnss else if k = 2 then c.ptpPri else if k = 3 then c.ptpSec else c.laneSrc

/-- Source k changed. -/
def ChronSt.setSrc (c : ChronSt) (k : Nat) (x : ChrSrc) : ChronSt :=
  if k = 1 then { c with gnss := x } else if k = 2 then { c with ptpPri := x }
  else if k = 3 then { c with ptpSec := x } else { c with laneSrc := x }

/-- TAU of a source, s (R371). -/
def ChronChart.tau (c : ChronChart) (k : Nat) : Rat :=
  if k = 1 then c.tauGnss else if k = 2 then c.tauPri else if k = 3 then c.tauSec else c.tauLane

/-- LOSS_TIME of a source, ns (R349). -/
def ChronChart.loss (c : ChronChart) (k : Nat) : Rat := if k = 4 then 20000000 else c.lossTime

/-- The PTP instance of a domain and its Chart values. -/
def ChronSt.dom (c : ChronSt) (d : Nat) : PtpInst := if d = 0 then c.dom0 else c.dom1
def ChronSt.setDom (c : ChronSt) (d : Nat) (p : PtpInst) : ChronSt :=
  if d = 0 then { c with dom0 := p } else { c with dom1 := p }
def ChronChart.dom (c : ChronChart) (d : Nat) : PtpChart := if d = 0 then c.dom0 else c.dom1

/-- State of a source (R349): 0 ABSENT, 1 NO_DATA, 2 QUALIFYING, 3 QUALIFIED. -/
def Lane.srcState (L : Lane) (k : Nat) : Nat := L.get (Reg.CHR_SRC_STAT_STATE k)

/-- The selected source, 0 none (R355). -/
def Lane.selected (L : Lane) : Nat := L.get Reg.CHR_SYNC_SRC

/-- Servo state (R351). -/
def Lane.servo (L : Lane) : Nat := L.get Reg.CHR_SYNC_STATE

/-- A source is disabled by the Chart or CHR_SRC_DIS (R350). -/
def Lane.srcDisabled (L : Lane) (k : Nat) : Bool := decide (k ≤ 3) && L.bit Reg.CHR_SRC_DIS_MASK (k - 1)

/-- A source is ABSENT (R349). -/
def Lane.srcAbsent (L : Lane) (k : Nat) : Bool :=
  L.srcDisabled k
  || (decide (k = 1) && decide (L.variant ≠ .kx960))
  || (decide (k = 2) && !L.cc.dom0.enable)
  || (decide (k = 3) && !L.cc.dom1.enable)
  || (decide (k = 4) && L.active)

/-- The slew accumulated up to a chronometer time, ns (R629). -/
def ChronSt.slewAt (c : ChronSt) (t : Rat) : Rat := c.slewInt + c.s * (t - c.slewT) / 1000000000

/-- Sets the slew at a time. -/
def ChronSt.setSlewRate (c : ChronSt) (t s : Rat) : ChronSt := { c with slewInt := c.slewAt t, slewT := t, s := s }

/-- Bounds a value. -/
def clampQ (x lo hi : Rat) : Rat := max lo (min hi x)

/-- Start of GPS time in the chronometer's timescale, ns; GPS, BeiDou and UTC times of a chronometer time (R342). -/
def gpsEpoch : Rat := 315964819 * 1000000000
def gpsTimeOf (t : Rat) : Rat := t - gpsEpoch
def bdsTimeOf (t : Rat) : Rat := gpsTimeOf t - 14000000000
def utcTimeOf (ofs : Nat) (t : Rat) : Rat := t - (ofs : Rat) * 1000000000

/-- A frequency at the resolution of f and s, 0.001 ppb (R345). -/
def ppbQ (x : Rat) : Rat := (codeOf x (1 / 1000) : Rat) / 1000

/-- |x|. -/
def absQ (x : Rat) : Rat := if x < 0 then -x else x

/-- Mean of a list; 0 of none. -/
def meanQ (l : List Rat) : Rat := if l = [] then 0 else l.sum / l.length

/-- STAT.TIME_VALID of the servo state, and of the active lane while LANE is selected in a standby (R351, R630). -/
def Lane.validNow (L : Lane) : Bool :=
  if !L.active ∧ L.selected = 4 then
    match L.red.peer with
    | some h => h.timeValid
    | none => false
  else
    let st := L.servo
    decide (st = 1) || decide (st = 2) || decide (st = 3) || decide (st = 4)

/-- Brings STAT of page 0x40 into line with the servo state; TIME_INVALID when validity falls (R351, R373, R375). -/
def Lane.chrStat (L : Lane) : Lane :=
  let was := L.timeValid
  let v := L.validNow
  let L := L.setb Reg.CHR_STAT_TIME_VALID v
  let L := L.setb Reg.CHR_STAT_LOCKED (L.servo = 3)
  let L := L.setb Reg.CHR_STAT_HOLDOVER (L.servo = 4)
  let L := L.setb Reg.CHR_STAT_STEP_PENDING L.chr.pend.isSome
  L.findIf (was && !v) 0x40 4

/-- HOLD_EST, ns (R357, R358). -/
def Lane.holdEst (L : Lane) (h : HoldSt) : Rat :=
  let t := (L.now - h.t0) / 1000000000
  let drift := match h.degraded with
    | none => h.u * t
    | some t1 => h.u * ((t1 - h.t0) / 1000000000) + L.cc.refTol * ((L.now - t1) / 1000000000)
  h.e0 + drift + L.cc.refAging / 3600 * t * t / 2

/-- Mean of f over the last HOLD_AVG, or since the last step if that is shorter (R356): time-weighted over the times f was
set. -/
def Lane.meanF (L : Lane) : Rat :=
  let from0 := match L.chr.lastStep with
    | some t => max t (L.now - L.cc.holdAvg)
    | none => L.now - L.cc.holdAvg
  let r := L.chr.fHist.foldl
    (fun (acc : Rat × Rat × Rat) p =>
      let lo := max p.1 from0
      if acc.1 ≤ lo then acc else (lo, acc.2.1 + p.2 * (acc.1 - lo), acc.2.2 + (acc.1 - lo)))
    (L.now, 0, 0)
  if r.2.2 = 0 then L.chr.f else r.2.1 / r.2.2

/-- Sets f and CHR_FREQ, 0.001 ppb (R353, R374). -/
def Lane.setF (L : Lane) (f : Rat) : Lane :=
  let t := L.now
  let f := ppbQ f
  (L.onChr fun c => { c with f := f, fHist := (t, f) :: recentF (t - L.cc.holdAvg) c.fHist }).seti Reg.CHR_FREQ_F (codeOf f (1 / 1000))
where
  /-- The times f was set since a time, with the last before it. -/
  recentF (from0 : Rat) : List (Rat × Rat) → List (Rat × Rat)
    | [] => []
    | p :: r => if p.1 ≤ from0 then [p] else p :: recentF from0 r

/-- Sets s (R353). -/
def Lane.setS (L : Lane) (t s : Rat) : Lane := L.onChr fun c => c.setSlewRate t (ppbQ s)

/-- The pending step of a source is cancelled; one of SET_TIME stands (R354, R361). -/
def Lane.dropStep (L : Lane) : Lane :=
  L.onChr fun c => { c with pend := match c.pend with | some p => (if p.src = 0 then some p else none) | none => none }

/-- The state becomes HOLDOVER (R356, R361): s to 0; the error estimate runs from `e0`. -/
def Lane.enterHoldover (L : Lane) (e0 u : Rat) : Lane :=
  let gnss := decide (L.chr.lastSel = 1)
  let t := L.now
  let L := L.setS t 0
  let L := L.onChr fun c => { c with hold := some { t0 := t, e0 := e0, u := u, afterGnss := gnss }, setSlew := none }
  let L := (L.setAll [(Reg.CHR_SYNC_STATE, 4), (Reg.CHR_SYNC_SRC, 0)]).setb Reg.CHR_STAT_HOLD_OK (decide (e0 ≤ L.cc.holdLimit))
  ((L.incSat Reg.CHR_CNT_HOLDOVERS).find 0x40 2).chrStat

/-- HOLDOVER with no qualified source left (R356, R357). -/
def Lane.loseTime (L : Lane) (lastX : Rat) : Lane :=
  let locked := decide (L.servo = 3)
  let long := match L.chr.lockedSince with
    | some t => locked && decide (t + 900000000000 ≤ L.now)
    | none => false
  let L := L.dropStep
  (L.setF L.meanF).enterHoldover (if locked then 100 else absQ lastX) (if long then 5 else 50)

/-- Brings CHR_UTC into line with the first source of R343 that the lane holds. -/
def Lane.utcUpdate (L : Lane) : Lane :=
  let (o, v) := match L.chr.utcPtp, L.chr.utcGnss with
    | some v, _ => (1, v)
    | none, some v => (2, v)
    | none, none => (0, L.cc.utcOfs)
  let ch := decide (L.get Reg.CHR_UTC_OFS ≠ v % 256)
  (L.setAll [(Reg.CHR_UTC_OFS, v), (Reg.CHR_UTC_ORIGIN, o)]).findIf ch 0x40 7

/-- Order of the default best master clock algorithm (R362; the order of comparison is IEEE 1588's, PRESUMED, log entry 8). -/
def PtpDs.key (d : PtpDs) : List Nat := [d.prio1, d.cls, d.acc, d.variance, d.prio2, d.gmId, d.steps]

/-- Lexicographic order. -/
def lexLt : List Nat → List Nat → Bool
  | [], [] => false
  | [], _ => true
  | _, [] => false
  | a :: r, b :: q => if a < b then true else if b < a then false else lexLt r q

/-- Whether one dataset, if any, is better than another. -/
def PtpDs.better (x y : Option PtpDs) : Bool :=
  match x, y with
  | some a, some b => lexLt a.key b.key
  | some _, none => true
  | none, _ => false

/-- The best master announced on the ports of a domain. -/
def PtpInst.best (p : PtpInst) : Option PtpDs := if PtpDs.better p.portB p.portA then p.portB else p.portA

/-- The source selected decides which PTP source's currentUtcOffset counts (R343). -/
def Lane.ptpSelected (L : Lane) (k : Nat) : Lane :=
  (L.onChr fun c => { c with utcPtp := if k = 2 ∨ k = 3 then (c.dom (k - 2)).best.bind PtpDs.utc else none }).utcUpdate

/-- Takes a source as the selected one (R350, R355). -/
def Lane.takeSource (L : Lane) (k : Nat) : Lane :=
  if L.selected = k then L
  else
    let sw := decide (L.chr.lastSel ≠ 0) && decide (L.chr.lastSel ≠ k)
    let L := L.dropStep.onChr fun c => { c with lastSel := k, hold := none, setSlew := none, lockIn := 0, lockOut := 0 }
    let L := ((L.set Reg.CHR_SYNC_SRC k).setb Reg.CHR_STAT_HOLD_OK false).ptpSelected k
    if sw then (L.incSat Reg.CHR_CNT_SWITCHES).find 0x40 3 else L

/-- The qualified source to select (R350): LANE in a standby, else the highest in PRIO. -/
def Lane.bestSource (L : Lane) : Option Nat :=
  if !L.active ∧ L.srcState 4 = 3 then some 4
  else
    match L.cc.prio.find? fun k => L.srcState k = 3 with
    | some k => some k
    | none => if L.srcState 4 = 3 then some 4 else none

/-- The selected source has left QUALIFIED or is gone: the best other one at once, else HOLDOVER (R350, R356). -/
def Lane.reselect (L : Lane) (lastX : Rat) : Lane :=
  match L.bestSource with
  | some k => (L.takeSource k).chrStat
  | none =>
    if L.servo = 2 ∨ L.servo = 3 then L.loseTime lastX
    else (L.set Reg.CHR_SYNC_SRC 0).chrStat

/-- Last offset of a source, 0 where none. -/
def Lane.lastX (L : Lane) (k : Nat) : Rat :=
  match (L.chr.src k).prev with
  | some p => p.1
  | none => 0

/-- Takes a source to ABSENT or NO_DATA (R349): its history is dropped. -/
def Lane.dropSource (L : Lane) (k st : Nat) : Lane :=
  let x := L.lastX k
  let sel := decide (L.selected = k) && decide (k ≠ 0)
  let L := L.onChr fun c => c.setSrc k {}
  let L := L.setAll [(Reg.CHR_SRC_STAT_STATE k, st), (Reg.CHR_SRC_STAT_QUAL k, 0)]
  if sel then L.reselect x else L

/-- The delay D that puts the start of a later tick of the grid on a multiple of 10 ms (02 R67), 0 ≤ D < 10 ms; the tick in progress
began at the chronometer's time. -/
def Lane.gridDelay (L : Lane) : Rat :=
  let d := 1000000 * ((L.get Reg.TICK_POS_TICK % 10 : Nat) : Rat) - L.now
  d - 10000000 * (d / 10000000).floor

/-- Position-cycle boundaries already past, on the chronometer after a step (02 R105): a forward step passes those between; a
backward one leaves none in the future. -/
def Lane.boundStep (L : Lane) (before after : Rat) : Lane :=
  let grid : Rat := 10000000 * (after / 10000000).floor
  let move (b : Option Rat) : Option Rat :=
    if after < before then b.map (min after) else if before < grid then some (match b with | some t => max t grid | none => grid) else b
  L.onTk fun k =>
    if k.inTick && k.posTick then { k with prevBound := move k.prevBound, bound := some after } else { k with bound := move k.bound }

/-- Steps the chronometer (R354): registers, counts, record, grid realignment (02 R67). -/
def Lane.stepTime (L : Lane) (size : Rat) (src : Nat) : Lane :=
  let before := L.now
  let after := before + size
  let a := absQ size
  let sg : Int := if size < 0 then -1 else 1
  let L := L.onChr fun c => { c with slewInt := c.slewAt before, slewT := after, ns := after }
  let L := L.onChr fun c => { c with stepSum := c.stepSum + size, lastStep := some after, pend := none }
  let L := L.onChr fun c => { c with fHist := [(after, c.f)], stepNext := none }
  let L := (L.setiSat Reg.CHR_STEP_SEC_SEC (sg * (a / 1000000000).floor)).seti Reg.CHR_STEP_NS_NS (sg * nsOf a)
  let L := (L.incSat Reg.CHR_CNT_STEPS).find 0x40 0
  let L := L.post 4 0x06 (leBytes 8 ((size.floor % (2 ^ 64 : Int)).toNat) ++ [if src = 0 then 0x0F else src, 0, 0, 0]
    ++ timeBytes before ++ timeBytes after)
  let L := (L.boundStep before after).onTk fun k => { k with realign := L.gridDelay, realigning := true }
  let L := ((L.setb Reg.TICK_POS_REALIGN true).setb Reg.TICK_STAT_REALIGN true).find 0x02 7
  if L.servo = 6 then (L.set Reg.CHR_SYNC_STATE 2).chrStat else L.chrStat

/-- Validity of an offset by its source (R349), and its source and value (R348). -/
def Lane.readOffset (L : Lane) (o : OffsetIn) : Nat × Rat × Bool :=
  match o with
  | .gnss tL gps sigma => (1, gpsTimeOf tL - gps, decide (sigma ≤ 100))
  | .ptp d t1 t2 corr =>
    let p := L.chr.dom d
    let slave := L.get (Reg.PTP_STAT_PORT_A d) = 9 || L.get (Reg.PTP_STAT_PORT_B d) = 9
    let asym : Int := L.geti (Reg.PTP_ASYM_ASYM (if L.get (Reg.PTP_STAT_PORT_A d) = 9 then 0 else 1))
    (2 + d, t2 - (asym : Rat) / 10 - t1 - meanQ p.delays - corr,
      slave && decide (p.delays ≠ []) && decide (L.get (Reg.PTP_GM_Q_CLASS d) ≤ (L.cc.dom d).classMax)
      && !(L.flag (Reg.PTP_STAT_IS_GM d)))
  | .lane m1 m2 =>
    (4, (m1 - m2) / 2, match L.red.peer with
      | some h => decide (h.role = .active) && !h.coasting
      | none => false)

/-- The offset's deviation from prediction (R629); `none` at a source's first offset. -/
def Lane.deviation (L : Lane) (k : Nat) (x t : Rat) : Option Rat :=
  match (L.chr.src k).prev with
  | none => none
  | some (x0, _, sl, st) => some (absQ (x - (x0 + (L.chr.slewAt t - sl) + (L.chr.stepSum - st))))

/-- Steering by an offset below 1 ms (R353, R351). -/
def Lane.steer (L : Lane) (k : Nat) (x t : Rat) : Lane :=
  let tau := L.cc.tau k
  let dt := match (L.chr.src k).prev with
    | some p => min (t - p.2.1) (L.cc.loss k) / 1000000000
    | none => 0
  let f := clampQ (L.chr.f - x * dt / (4 * tau * tau)) (-200000) 200000
  let s := clampQ (-x / tau) (-1000) 1000
  let L := ((L.setF f).setS t s).dropStep.onChr fun c => { c with fLearned := true, unmeasured := false }
  let tol := L.cc.lockTol
  let inn := if absQ x ≤ tol then L.chr.lockIn + 1 else 0
  let out := if 2 * tol < absQ x then L.chr.lockOut + 1 else 0
  let L := L.onChr fun c => { c with lockIn := inn, lockOut := out }
  if L.servo = 2 ∧ 16 ≤ inn then
    let L := L.onChr fun c => { c with lockedSince := some t }
    (L.set Reg.CHR_SYNC_STATE 3).find 0x40 1
  else if L.servo = 3 ∧ 16 ≤ out then
    (L.set Reg.CHR_SYNC_STATE 2).onChr fun c => { c with lockedSince := none }
  else L

/-- Four agreeing offsets of 1 ms or more make a step pending (R354). -/
def Lane.pendStep (L : Lane) (k : Nat) : Lane :=
  let big := (L.chr.src k).big
  if big.length = 4 ∧ (big.all fun x => big.all fun y => decide (absQ (x - y) ≤ 10000)) ∧ L.chr.pend = none then
    L.onChr fun c => { c with pend := some ⟨-(meanQ big), k⟩ }
  else L

/-- Offsets of 1 ms or more in a row, the last four (R354). -/
def bigRun (l : List Rat) (x : Rat) : List Rat := if absQ x < 1000000 then [] else x :: l.take 3

/-- The first offset in UNSET or SEEDED (R352): a step at the next tick start, selection, LOCKING. -/
def Lane.firstOffset (L : Lane) (k : Nat) (x : Rat) : Lane :=
  let L := (L.takeSource k).set Reg.CHR_SYNC_STATE 2
  (L.onChr fun c => { c with stepNext := some ⟨-x, k⟩ }).chrStat

/-- Place in PRIO; LANE comes last (R350, R352). -/
def ChronChart.rank (c : ChronChart) (k : Nat) : Nat := c.prio.findIdx (fun j => j = k)

/-- A source has become QUALIFIED: what is selected changes where R350, R359 or R360 say so. -/
def Lane.onQualified (L : Lane) (k : Nat) (x : Rat) : Lane :=
  let sel := L.selected
  if L.servo = 4 then
    let L := L.takeSource k
    ((L.set Reg.CHR_SYNC_STATE 2)).chrStat
  else if L.servo = 6 then
    let L := L.takeSource k
    (if absQ x < 1000000 then L.set Reg.CHR_SYNC_STATE 2 else L).chrStat
  else if !L.active ∧ k = 4 then (L.takeSource 4).chrStat
  else if sel ≠ 0 ∧ L.srcState sel ≠ 3 then (L.takeSource k).chrStat
  else L

/-- An offset of a source (R348, R349, R352-R354). -/
def Lane.offset (L : Lane) (o : OffsetIn) (t : Rat) : Lane :=
  let (k, x, ok) := L.readOffset o
  if L.servo = 5 ∨ L.srcAbsent k then L
  else
    let L := L.setiSat (Reg.CHR_SRC_OFS_X k) (codeOf x 1)
    if ok = false then (L.set (Reg.CHR_SRC_STAT_QUAL k) 0).onChr fun c => c.setSrc k { c.src k with run := 0 }
    else
      let dev := L.deviation k x t
      let gateFail := match dev with
        | some d => decide (L.cc.gate < d)
        | none => false
      let within := match dev with
        | some d => decide (d ≤ L.cc.qualTol)
        | none => true
      let p := L.chr.src k
      let was := L.srcState k
      let left := decide (was = 3) && gateFail && decide (8 ≤ p.gateRun + 1)
      let p' := { p with gateRun := if gateFail then p.gateRun + 1 else 0, run := if within && !left then min 256 (p.run + 1) else 0, big := bigRun p.big x }
      let p' := { p' with last16 := (x :: p.last16).take 16 }
      let L0 := L
      let L := L.onChr fun c => c.setSrc k p'
      let L := L.set (Reg.CHR_SRC_STAT_AGE k) 0
      let L := if p'.last16.length = 16 then
          let m := meanQ p'.last16
          L.setScaled (Reg.CHR_SRC_SIG_SPREAD k) (Config.sqrt (meanQ (p'.last16.map fun y => (y - m) * (y - m)))) 1
        else L
      let L := if gateFail then L.incSat (Reg.CHR_SRC_SIG_GATE_FAIL k) else L
      let L := L.incSat (Reg.CHR_SRC_STAT_QUAL k)
      let gained := decide (was ≠ 3) && decide (L.cc.qualN ≤ p'.run)
      let st := if left then 2 else if gained then 3 else if was = 3 then 3 else 2
      let L := L.set (Reg.CHR_SRC_STAT_STATE k) st
      let L := L.onChr fun c => c.setSrc k { c.src k with qualSince := if gained then some t else if left then none else p.qualSince }
      -- selection
      let first := decide (L.servo = 0) || decide (L.servo = 1)
      let rival := match L.chr.stepNext with
        | some s => decide (p.prev = none) && decide (s.src ≠ k) && decide (s.src ≠ 0) && decide (L.cc.rank k < L.cc.rank s.src)
        | none => false
      let L := if first || rival then L.firstOffset k x
        else if left && decide (L.selected = k) then L.reselect x
        else if gained then L.onQualified k x
        else L
      -- steering
      let L := if first || rival || gateFail || decide (L.selected ≠ k) then L
        else if absQ x < 1000000 then
          ((if L.servo = 6 then L.set Reg.CHR_SYNC_STATE 2 else L).onChr fun c => c.setSrc k { c.src k with prev := p.prev }).steer k x t
        else L.pendStep k
      let sl := L0.chr.slewAt t
      let stp := L0.chr.stepSum
      (L.onChr fun c => c.setSrc k { c.src k with prev := some (x, t, sl, stp) }).chrStat

/-- SOURCE_LOSS (R349): no valid offset for LOSS_TIME. -/
def Lane.sourceLoss (L : Lane) (k : Nat) : Lane :=
  if (L.srcState k = 2 ∨ L.srcState k = 3) ∧ L.cc.loss k ≤ 1000000 * (L.get (Reg.CHR_SRC_STAT_AGE k) : Rat) then
    L.dropSource k 1
  else L

/-- SOURCE_REVERT (R350). -/
def Lane.sourceRevert (L : Lane) (k : Nat) : Lane :=
  let sel := L.selected
  match (L.chr.src k).qualSince with
  | some t =>
    if L.srcState k = 3 ∧ sel ≠ 0 ∧ (L.active ∨ L.srcState 4 ≠ 3) ∧ L.cc.rank k < L.cc.rank sel
      ∧ t + L.cc.revertHold ≤ L.now then (L.takeSource k).chrStat
    else L
  | none => L

/-- The step to apply at the next whole second: the lane's own, or in a standby the one the active lane has pending
(R354, 12 R447). -/
def Lane.stepDue (L : Lane) : Option (Rat × Nat) :=
  match L.chr.pend with
  | some p => some (p.size, p.src)
  | none =>
    if L.active then none
    else match L.red.peer with
      | some h => h.step.map fun q => (q.1, 4)
      | none => none

/-- TIME_STEP (R354): the chronometer reads a whole second, and the pending step is applied; at most one step per second. -/
def Lane.timeStep (L : Lane) : Lane :=
  let recent : Bool := match L.chr.lastStep with
    | some t => decide (L.now < t + 1000000000)
    | none => false
  match L.stepDue with
  | some (size, src) =>
    if recent || L.coasting then L
    else
      let whole := 1000000000 * ((-((-(L.now / 1000000000)).floor) : Int) : Rat)
      (L.onChr fun c => { c with ns := whole }).stepTime size src
  | none => L

/-- HOLD_LIMIT (R357). -/
def Lane.holdLimit (L : Lane) : Lane :=
  match L.chr.hold with
  | some h =>
    if L.servo = 4 ∧ L.cc.holdLimit < L.holdEst h ∧ L.flag Reg.CHR_STAT_HOLD_OK then
      (L.setb Reg.CHR_STAT_HOLD_OK false).setb Reg.CHR_FAULT_HOLD_LIMIT true
    else L
  | none => L

/-- The chronometer second that ends the UTC day in progress (R343). -/
def Lane.utcDayEnd (L : Lane) : Nat :=
  let ofs := L.get Reg.CHR_UTC_OFS
  let utc := secOf L.now - ofs
  (utc / 86400 + 1) * 86400 + ofs

/-- A leap second becomes pending, or is withdrawn (R343). -/
def Lane.setLeap (L : Lane) (p : Option LeapPend) : Lane :=
  let new := decide (L.chr.leap = none) && p.isSome
  let L := L.onChr fun c => { c with leap := p }
  let L := L.setb Reg.CHR_UTC_LEAP61 (match p with | some q => q.plus | none => false)
  let L := L.setb Reg.CHR_UTC_LEAP59 (match p with | some q => !q.plus | none => false)
  L.findIf new 0x40 7

/-- The leap second that the Sextant's ΔtLSF announces for the end of a UTC day, if that day is not over (R343). -/
def Lane.gnssLeap (L : Lane) (ls lsf day : Nat) : Lane :=
  let at_ := (day + 1) * 86400 + L.get Reg.CHR_UTC_OFS
  if secOf L.now < at_ ∧ ls ≠ lsf then (if L.chr.leap.isSome then L else L.setLeap (some ⟨decide (ls < lsf), at_, true⟩))
  else if L.chr.leap.any LeapPend.gnss then L.setLeap none
  else L

/-- LEAP_SECOND (R343): at the end of the UTC day UTC_OFS changes by one. -/
def Lane.leapSecond (L : Lane) : Lane :=
  match L.chr.leap with
  | some p =>
    if p.atSec ≤ secOf L.now then
      let step (v : Nat) : Nat := if p.plus then v + 1 else v - 1
      let L := L.onChr fun c => { c with utcPtp := c.utcPtp.map step, utcGnss := c.utcGnss.map step }
      let v := step (L.get Reg.CHR_UTC_OFS)
      ((L.setLeap none).set Reg.CHR_UTC_OFS v).find 0x40 7
    else L
  | none => L

/-- SET_TIME (R361): the staged time names the start of the tick in whose latch the command is seen. -/
def Lane.setTime (L : Lane) (tag : Nat) : Lane :=
  let L := L.setAll [(Reg.CHR_CMD_TAG, tag), (Reg.CHR_CMD_CMD, 1)]
  let st := L.servo
  if !L.active then L.set Reg.CHR_CMD_RESULT 3
  else if !(decide (st = 0) || decide (st = 1) || decide (st = 4) || decide (st = 6))
      || decide (L.srcState 1 = 3) || decide (L.srcState 2 = 3) || decide (L.srcState 3 = 3) || decide (L.srcState 4 = 3) then
    L.set Reg.CHR_CMD_RESULT 2
  else
    let sec : Nat := L.get Reg.CHR_ARG_SEC_LO_SEC + 2 ^ 32 * L.get Reg.CHR_ARG_SEC_HI_SEC
    let nsArg : Nat := L.get Reg.CHR_ARG_NS_NS
    let staged : Rat := 1000000000 * (sec : Rat) + (nsArg : Rat)
    let x := L.now - staged
    let u := if L.chr.fLearned && !L.chr.unmeasured then (match L.chr.hold with | some h => h.u | none => 50) else L.cc.refTol
    let L := L.set Reg.CHR_CMD_RESULT 0
    if st = 4 then
      let t := L.now
      let L := L.onChr fun c => { c with hold := some { (c.hold.getD default) with t0 := t, e0 := 1000000, u := u, degraded := none } }
      let ok := decide (1000000 ≤ L.cc.holdLimit)
      let L := if L.flag Reg.CHR_STAT_HOLD_OK && !ok then L.setb Reg.CHR_FAULT_HOLD_LIMIT true else L
      let L := L.setb Reg.CHR_STAT_HOLD_OK ok
      if 1000000 ≤ absQ x then
        ((L.setS t 0).onChr fun c => { c with pend := some ⟨-x, 0⟩, setSlew := none }).chrStat
      else
        let L := L.setS t (if x < 0 then 1000 else if 0 < x then -1000 else 0)
        (L.onChr fun c => { c with pend := none, setSlew := some (c.slewAt t - x) }).chrStat
    else
      let L := L.enterHoldover 1000000 u
      L.onChr fun c => { c with stepNext := some ⟨-x, 0⟩ }

/-- SET_TIME_SLEW_END (R361): the accumulated slew has reached its target. -/
def Lane.setTimeSlewEnd (L : Lane) : Lane :=
  match L.chr.setSlew with
  | some target =>
    let at' := L.chr.slewAt L.now
    if (0 ≤ L.chr.s ∧ target ≤ at') ∨ (L.chr.s ≤ 0 ∧ at' ≤ target) then
      let t := L.now
      L.onChr fun c => { c with slewInt := target, slewT := t, s := 0, setSlew := none }
    else L
  | none => L

/-- Sets which sources are disabled (R350). -/
def Lane.applySrcDis (L : Lane) (mask : Nat) : Lane :=
  let L := L.set Reg.CHR_SRC_DIS_MASK mask
  let one (k : Nat) (L : Lane) : Lane :=
    if L.srcAbsent k then (if L.srcState k = 0 then L else L.dropSource k 0)
    else if L.srcState k = 0 then L.set (Reg.CHR_SRC_STAT_STATE k) 1 else L
  one 4 (one 3 (one 2 (one 1 L)))

/-- CHR_SRC_DIS_WRITE (R350, R372): accepted only by the active lane. -/
def Lane.writeSrcDis (L : Lane) (mask : Nat) : Lane :=
  if L.active then (L.applySrcDis mask).onChr fun c => { c with srcDisWritten := true } else L

/-- New values of a PPS output apply from the first edge more than 1 ms after now (R367). -/
def Lane.ppsNew (L : Lane) (p : Nat) : Lane :=
  let t := L.now + 1000000
  L.onChr fun c => if p = 0 then { c with pps0 := { c.pps0 with newAt := some t } } else { c with pps1 := { c.pps1 with newAt := some t } }

/-- PPS_CFG_WRITE (R367, R372, R374): fields with values not allowed are ignored. -/
def Lane.writePps (L : Lane) (p : Nat) (delay : Bool) (v : Nat) : Lane :=
  if !L.active then L
  else
    let L := if delay then (if v % 2 ^ 13 ≤ 8000 then L.set (Reg.PPS_DELAY_DELAY p) v else L)
      else
        let w := v % 512
        let m := v / 2 ^ 16 % 4
        let L := if 1 ≤ w ∧ w ≤ 500 then L.set (Reg.PPS_CFG_WIDTH p) w else L
        if m ≤ 2 then L.set (Reg.PPS_CFG_MODE p) m else L
    L.ppsNew p

/-- A PPS output may rise (R367, R368). -/
def Lane.ppsMay (L : Lane) (p : Nat) : Bool :=
  let m := L.get (Reg.PPS_CFG_MODE p)
  let since := match L.chr.lastStep with
    | some t => decide (L.now = t) || decide (t + 500000000 ≤ L.now)
    | none => true
  !L.coasting && since &&
  ((decide (m = 1) && L.timeValid)
   || (decide (m = 2) && (decide (L.servo = 3) || (decide (L.servo = 4) && L.flag Reg.CHR_STAT_HOLD_OK))))

/-- PPS_EDGE (R367). -/
def Lane.ppsEdge (L : Lane) (p : Nat) : Lane :=
  if L.ppsMay p then
    let t := L.now
    let w := L.get (Reg.PPS_CFG_WIDTH p)
    let d : Rat := (L.get (Reg.PPS_DELAY_DELAY p) : Rat) / 4
    let go (x : PpsSt) : PpsSt :=
      let x := match x.newAt with
        | some n => if n < t then { x with width := w, delay := d, newAt := none } else x
        | none => { x with width := w, delay := d }
      { x with highUntil := some (t - x.delay + 1000000 * (x.width : Rat)) }
    L.onChr fun c => if p = 0 then { c with pps0 := go c.pps0 } else { c with pps1 := go c.pps1 }
  else L

/-- A PPS output of the lane is high (R369). -/
def Lane.ppsHigh (L : Lane) : Bool :=
  let hi (x : PpsSt) : Bool := match x.highUntil with
    | some t => decide (L.now < t)
    | none => false
  hi L.chr.pps0 || hi L.chr.pps1

/-- The quality a MASTER_CAPABLE instance announces (R365): clockClass, clockAccuracy, offsetScaledLogVariance, timeSource. -/
def Lane.ownQuality (L : Lane) : Nat × Nat × Nat × Nat :=
  let k : Bool := decide (L.variant = .kx960)
  let after : Bool := match L.chr.hold with
    | some h => h.afterGnss
    | none => false
  if k && decide (L.servo = 3) && decide (L.selected = 1) then (6, 0x21, 0x4E5D, 0x20)
  else if k && decide (L.servo = 4) && after then
    (if L.flag Reg.CHR_STAT_HOLD_OK then 7 else 187, 0xFE, 0xFFFF, 0xA0)
  else (248, 0xFE, 0xFFFF, if (L.servo = 2 ∨ L.servo = 3) ∧ (L.selected = 2 ∨ L.selected = 3) then 0x40 else 0xA0)

/-- The dataset of this lane's own clock in a domain (R365). -/
def Lane.ownDs (L : Lane) (d : Nat) : PtpDs :=
  let q := L.ownQuality
  { prio1 := (L.cc.dom d).prio1, cls := q.1, acc := q.2.1, variance := q.2.2.1, timeSource := q.2.2.2, prio2 := (L.cc.dom d).prio2,
    gmId := Config.clockId, steps := 0, utc := none, leap61 := false, leap59 := false }

/-- State code of a port that is not the slave: PASSIVE with an announced master, else LISTENING (R365). -/
def PtpDs.otherPort (x : Option PtpDs) : Nat := if x.isSome then 7 else 4

/-- States of the two ports of a domain after the BMCA (R365): grandmaster, slave on A, slave on B, or none. -/
def PtpDs.portStates (a b : Option PtpDs) (ownBest : Bool) : Nat × Nat :=
  if ownBest then (6, 6)
  else if a.isSome && !PtpDs.better b a then (9, PtpDs.otherPort b)
  else if b.isSome then (PtpDs.otherPort a, 9)
  else (4, 4)

/-- Shows a grandmaster in the registers of a domain (R364). -/
def Lane.showGm (L : Lane) (d : Nat) (best : Option PtpDs) (ownBest : Bool) (st : Nat × Nat) : Lane :=
  let id := (best.map PtpDs.gmId).getD 0
  let hi := id / 4294967296
  let change : Bool := decide (L.get (Reg.PTP_GM_HI_ID d) ≠ hi) || decide (L.get (Reg.PTP_GM_LO_ID d) ≠ id % 4294967296)
    || L.flag (Reg.PTP_STAT_IS_GM d) != ownBest
  let L := L.setAll [(Reg.PTP_STAT_PORT_A d, st.1), (Reg.PTP_STAT_PORT_B d, st.2)]
  let L := L.setb (Reg.PTP_STAT_IS_GM d) ownBest
  let L := L.setAll [(Reg.PTP_GM_HI_ID d, hi), (Reg.PTP_GM_LO_ID d, id)]
  let L := match best with
    | some b =>
      (L.setAll [(Reg.PTP_GM_Q_CLASS d, b.cls), (Reg.PTP_GM_Q_ACCURACY d, b.acc),
        (Reg.PTP_GM_Q_PRIORITY1 d, b.prio1)]).setSat (Reg.PTP_GM_Q_STEPS d) b.steps
    | none => L.clear (Reg.PTP_GM_Q_w d)
  L.findIf change 0x40 5

/-- UTC offset and leap flags of the selected PTP source (R343). -/
def Lane.ptpUtc (L : Lane) (d : Nat) (best : Option PtpDs) : Lane :=
  if L.selected = 2 + d then
    match best with
    | some b =>
      let L := (L.onChr fun c => { c with utcPtp := b.utc }).utcUpdate
      let pend : Option LeapPend :=
        if b.leap61 then some ⟨true, L.utcDayEnd, false⟩ else if b.leap59 then some ⟨false, L.utcDayEnd, false⟩ else none
      if (L.chr.leap.map LeapPend.plus) = (pend.map LeapPend.plus) ∨ (pend = none ∧ L.chr.leap.any LeapPend.gnss) then L else L.setLeap pend
    | none => L
  else L

/-- Runs the BMCA of a domain over both ports (R364, R365). -/
def Lane.bmca (L : Lane) (d : Nat) : Lane :=
  if !(L.cc.dom d).enable then L
  else
    let p := L.chr.dom d
    let own := if L.active && L.red.outgoing.isNone && (L.cc.dom d).masterCapable then some (L.ownDs d) else none
    let bestPort := p.best
    let ownBest := PtpDs.better own bestPort
    let L := L.showGm d (if ownBest then own else bestPort) ownBest (PtpDs.portStates p.portA p.portB ownBest)
    L.ptpUtc d bestPort

/-- A domain's share of the mirror frame (R370). -/
def Lane.ptpShare (L : Lane) (d : Nat) : PtpShare :=
  let p := L.chr.dom d
  { seqAnnounce := p.seqAnnounce, seqSync := p.seqSync, gm := if L.flag (Reg.PTP_STAT_IS_GM d) then some (L.ownDs d) else p.best,
    ports := (L.get (Reg.PTP_STAT_PORT_A d), L.get (Reg.PTP_STAT_PORT_B d)) }

/-- PTP_MESSAGE_RECEIVED (R362, R363): on network port 0 (A) or 1 (B) of a domain. A coast discards timestamps (R360). -/
def Lane.ptpReceive (L : Lane) (d port : Nat) (m : PtpMsg) : Lane :=
  if !(L.cc.dom d).enable then L
  else match m with
    | .unsupported => L.incSat (Reg.PTP_CNT_DISCARD d)
    | .sync => L.incWrap (Reg.PTP_CNT_RX_SYNC d)
    | .announce ds =>
      let L := L.onChr fun c =>
        let p := c.dom d
        c.setDom d (if port = 0 then { p with portA := some ds } else { p with portB := some ds })
      L.bmca d
    | .delay x =>
      if L.coasting then L
      else
        let L := L.onChr fun c =>
          let p := c.dom d
          c.setDom d { p with delays := (x :: p.delays).take 8 }
        L.setScaled (Reg.PTP_MPD_DELAY d) (meanQ (L.chr.dom d).delays) 1
    | .followUp | .delayReq | .ignored => L

/-- ANNOUNCE_TIMEOUT (R371): a port's master is gone, and the BMCA runs again. -/
def Lane.announceTimeout (L : Lane) (d port : Nat) : Lane :=
  let L := L.onChr fun c =>
    let p := c.dom d
    c.setDom d (if port = 0 then { p with portA := none } else { p with portB := none })
  L.bmca d

/-- PTP_MESSAGE_TX (R365): Sync and Announce only of a grandmaster in the active lane; no event message during a coast (R360). -/
def Lane.ptpTransmit (L : Lane) (d : Nat) (m : PtpTx) : Lane :=
  if !(L.cc.dom d).enable ∨ (L.coasting ∧ m ≠ .announce) then L
  else
    let L := L.bmca d
    let gm := L.active && L.flag (Reg.PTP_STAT_IS_GM d)
    match m with
    | .sync => if gm then L.onChr fun c => c.setDom d { c.dom d with seqSync := ((c.dom d).seqSync + 1) % 65536 } else L
    | .announce => if gm then L.onChr fun c => c.setDom d { c.dom d with seqAnnounce := ((c.dom d).seqAnnounce + 1) % 65536 } else L
    | .delayReq => L

/-- A coast begins (R360). -/
def Lane.chrCoast (L : Lane) : Lane :=
  let L := L.onChr fun c => { c with pend := none, stepNext := none, setSlew := none }
  let L := (L.setAll [(Reg.CHR_SYNC_STATE, 5), (Reg.CHR_SYNC_SRC, 0)]).setb Reg.CHR_FAULT_COASTED true
  let one (k : Nat) (L : Lane) : Lane :=
    let L := L.onChr fun c => c.setSrc k {}
    let L := L.set (Reg.CHR_SRC_STAT_QUAL k) 0
    if L.srcState k = 0 then L else L.set (Reg.CHR_SRC_STAT_STATE k) 1
  (one 4 (one 3 (one 2 (one 1 L)))).chrStat

/-- f and the holdover estimate at a change of the PLL's input (R358): `rel` is CLK_REF_REL's frequency of the new input
relative to the old, ppb, where the window was complete. -/
def Lane.chrInputChange (L : Lane) (rel : Option Rat) : Lane :=
  match rel with
  | some r => L.setF (clampQ (L.chr.f - r) (-200000) 200000)
  | none =>
    let t := L.now
    (L.onChr fun c => { c with unmeasured := true, hold := c.hold.map fun h => { h with degraded := some t } }).setb Reg.CHR_FAULT_HOLD_DEGRADED true

/-- The TIME domain restarts after a stop window (R345, R360): the lost 1 000 000 cycles are added; `nominal`: the domains run
at nominal again and the state becomes RECOVERING. -/
def Lane.chrRestart (L : Lane) (nominal : Bool) : Lane :=
  let L := L.onChr fun c => { c with ns := c.ns + 2000000, slewInt := c.slewAt (c.ns + 2000000), slewT := c.ns + 2000000 }
  let L := if L.tk.realigning then L.onTk fun k => { k with realign := L.gridDelay } else L
  if nominal then (L.set Reg.CHR_SYNC_STATE 6).chrStat else L

/-- Every tick: source ages. -/
def Lane.chrTick (L : Lane) : Lane :=
  let one (k : Nat) (L : Lane) : Lane := L.incSat (Reg.CHR_SRC_STAT_AGE k)
  (one 4 (one 3 (one 2 (one 1 L)))).chrStat

/-- A step waiting for the next tick start is applied (R352, R361). -/
def Lane.chrTickStep (L : Lane) : Lane :=
  match L.chr.stepNext with
  | some p => (L.stepTime p.size p.src)
  | none => L

/-- The lane becomes active: LANE is ABSENT from now on (R349, R366). -/
def Lane.chrTakeover (L : Lane) : Lane :=
  let L := L.dropSource 4 0
  (L.bmca 0).bmca 1

/-- The lane is no longer active: LANE returns as a source, and every instance is slave-only (R365, R366). -/
def Lane.chrStandby (L : Lane) : Lane :=
  let L := if L.srcState 4 = 0 then L.set (Reg.CHR_SRC_STAT_STATE 4) 1 else L
  (L.bmca 0).bmca 1

/-- Computed registers of page 0x40: SELECTED and DISABLED of the sources, the holdover's time and estimate (R374). -/
def Lane.chrView (L : Lane) (addr : Nat) (w : Word) : Word :=
  if addr = Reg.CHR_HOLD_TIME.addr then
    match L.chr.hold with
    | some h =>
      if L.servo = 4 then
        let t := ((L.now - h.t0) / 10000000000).floor.toNat
        BitVec.ofNat 32 (min 65535 t * 65536 + min 65535 (codeOf (L.holdEst h) 100).toNat)
      else 0
    | none => 0
  else if addr = Reg.CHR_OFFSET_X.addr then
    (if L.selected = 0 then BitVec.ofNat 32 0x80000000 else L.word (Reg.CHR_SRC_OFS_X L.selected).addr)
  else
    match [1, 2, 3, 4].find? fun k => (Reg.CHR_SRC_STAT_STATE k).addr = addr with
    | some k =>
      let w := (Reg.CHR_SRC_STAT_SELECTED k).put w (if L.selected = k then 1 else 0)
      (Reg.CHR_SRC_STAT_DISABLED k).put w (if L.srcDisabled k then 1 else 0)
    | none => w

/-! ### The commands -/

/-- SNAP (R347). -/
def Lane.snap (L : Lane) : Lane :=
  let t := L.now
  L.setAll [(Reg.CHR_SNAP_SEC_LO_SEC, secOf t), (Reg.CHR_SNAP_SEC_HI_SEC, secOf t / 2 ^ 32),
    (Reg.CHR_SNAP_SEC_HI_FRAC, fracOf t), (Reg.CHR_SNAP_NS_NS, nsOf t)]

/-- SNAP (R347). -/
def execSnap (l : LaneId) (s : State) : Out := onLane l Lane.snap s

/-- OFFSET_RECEIVED (R348): what the source delivered, at chronometer time `t` (ns). -/
def execOffsetReceived (l : LaneId) (o : OffsetIn) (t : Rat) (s : State) : Out := onLane l (fun L => L.offset o t) s

/-- SOURCE_LOSS (R349). -/
def execSourceLoss (l : LaneId) (k : Nat) (s : State) : Out := onLane l (fun L => L.sourceLoss k) s

/-- SOURCE_REVERT (R350). -/
def execSourceRevert (l : LaneId) (k : Nat) (s : State) : Out := onLane l (fun L => L.sourceRevert k) s

/-- TIME_STEP (R354). -/
def execTimeStep (l : LaneId) (s : State) : Out := onLane l Lane.timeStep s

/-- HOLD_LIMIT (R357). -/
def execHoldLimit (l : LaneId) (s : State) : Out := onLane l Lane.holdLimit s

/-- LEAP_SECOND (R343). -/
def execLeapSecond (l : LaneId) (s : State) : Out := onLane l Lane.leapSecond s

/-- SET_TIME (R361). -/
def execSetTime (l : LaneId) (tag : Nat) (s : State) : Out := onLane l (fun L => L.setTime tag) s

/-- SET_TIME_SLEW_END (R361). -/
def execSetTimeSlewEnd (l : LaneId) (s : State) : Out := onLane l Lane.setTimeSlewEnd s

/-- CHR_SRC_DIS_WRITE (R350). -/
def execChrSrcDisWrite (l : LaneId) (mask : Nat) (s : State) : Out := onLane l (fun L => L.writeSrcDis mask) s

/-- PPS_CFG_WRITE (R367): PPS_CFG(p), or PPS_DELAY(p) where `delay`. -/
def execPpsCfgWrite (l : LaneId) (p : Nat) (delay : Bool) (v : Nat) (s : State) : Out :=
  onLane l (fun L => L.writePps p delay v) s

/-- A write of PTP_ASYM (R372): the active lane's own ports only. -/
def Lane.writeAsym (L : Lane) (q v : Nat) : Lane := if L.active then L.set (Reg.PTP_ASYM_ASYM q) v else L

/-- PTP_ASYM_WRITE (R372). -/
def execPtpAsymWrite (l : LaneId) (q v : Nat) (s : State) : Out := onLane l (fun L => L.writeAsym q v) s

/-- PTP_MESSAGE_RECEIVED (R362). -/
def execPtpMessageReceived (l : LaneId) (d port : Nat) (m : PtpMsg) (s : State) : Out :=
  onLane l (fun L => L.ptpReceive d port m) s

/-- ANNOUNCE_TIMEOUT (R371). -/
def execAnnounceTimeout (l : LaneId) (d port : Nat) (s : State) : Out := onLane l (fun L => L.announceTimeout d port) s

/-- PTP_MESSAGE_TX (R365). -/
def execPtpMessageTx (l : LaneId) (d : Nat) (m : PtpTx) (s : State) : Out := onLane l (fun L => L.ptpTransmit d m) s

/-- PPS_EDGE (R367). -/
def execPpsEdge (l : LaneId) (p : Nat) (s : State) : Out := onLane l (fun L => L.ppsEdge p) s

end Sys2Proof.Machine
end

