-- ==== Sys2Proof/Machine/Link.lean ====
section
/-! DEFINITION. Ethernet ports, IEC 61162-450 reception and the serial ports (11 R408-R414, R431-R436, R439-R441; 03 R117, R120). -/

namespace Sys2Proof.Machine

open Sys2Proof

/-- The network and serial section of the Chart. -/
def Lane.nc (L : Lane) : NetChart := L.chart.now.net

/-! ### Ethernet (R408-R411) -/

/-- The port of network 0 or 1. -/
def Lane.eth (L : Lane) (net : Nat) : EthSt := if net = 0 then L.ethA else L.ethB
def Lane.onEth (L : Lane) (net : Nat) (f : EthSt → EthSt) : Lane := if net = 0 then L.onEthA f else L.onEthB f

/-- A frame sent. -/
def Lane.ethTx (L : Lane) (net : Nat) : Lane := L.incWrap (Reg.ETH_TX_COUNT net)

/-- ETH_FRAME_RECEIVED (R408, R409, R411). -/
def Lane.ethFrame (L : Lane) (net : Nat) (k : EthKind) : Lane :=
  if 2 ≤ net ∨ !L.flag (Reg.ETH_LINK_UP net) ∨ L.coasting then L
  else match k with
    | .bad => L.incSat (Reg.ETH_DROP_ERR net)
    | .unsupported => L
    | .ptpEvent => L.incWrap (Reg.ETH_RX_COUNT net)
    | k =>
      let L := L.incWrap (Reg.ETH_RX_COUNT net)
      if 64 ≤ (L.eth net).inTick then (L.incSat (Reg.ETH_DROP_BUDGET net)).find (0x41 + net) 2
      else
        let L := L.onEth net fun e => { e with inTick := e.inTick + 1 }
        match k with
        | .arpRequest t => if t = L.get (Reg.ETH_IP_ADDR net) then L.ethTx net else L
        | .echoRequest t => if t = L.get (Reg.ETH_IP_ADDR net) then L.ethTx net else L
        | _ => L

/-- ETH_FRAME_RECEIVED (R408). -/
def execEthFrameReceived (l : LaneId) (net : Nat) (k : EthKind) (s : State) : Out := onLane l (fun L => L.ethFrame net k) s

/-- ETH_LINK_CHANGE (R408, R436): the link comes up at a speed code, or goes down. -/
def Lane.ethLink (L : Lane) (net : Nat) (up : Bool) (speed : Nat) : Lane :=
  let was := L.flag (Reg.ETH_LINK_UP net)
  if 2 ≤ net ∨ was = up then L
  else if up then
    (L.setAll [(Reg.ETH_LINK_UP net, 1), (Reg.ETH_LINK_SPEED net, if speed = 1 then 1 else 2), (Reg.ETH_STAT_UP net, 1)]).find (0x41 + net) 1
  else
    ((L.setAll [(Reg.ETH_LINK_UP net, 0), (Reg.ETH_LINK_SPEED net, 0), (Reg.ETH_STAT_UP net, 0), (Reg.ETH_FAULT_LINK_LOST net, 1)]).incSat
      (Reg.ETH_LINK_DOWNS net)).find (0x41 + net) 0

/-- ETH_LINK_CHANGE (R408). -/
def execEthLinkChange (l : LaneId) (net : Nat) (up : Bool) (speed : Nat) (s : State) : Out := onLane l (fun L => L.ethLink net up speed) s

/-- Address without a valid Chart (R410). -/
def LaneId.defaultIp (l : LaneId) (net : Nat) : Nat := 0xC0A8600A + 256 * net + (if l = .a then 0 else 1)

/-- Number of this lane's port on a network, 0-3. -/
def LaneId.ethOf (l : LaneId) (net : Nat) : Nat := net + (if l = .a then 0 else 2)

/-! ### IEC 61162-450 (R412-R414) -/

/-- L450_DATAGRAM (R412-R414). -/
def Lane.l450Datagram (L : Lane) (d : L450Dgram) : Lane :=
  let fmt (L : Lane) : Lane := (L.incSat Reg.L450_DISC_FORMAT).find 0x44 0
  if !d.sentences then (L.incSat Reg.L450_DISC_UNSUPPORTED).find 0x44 0
  else match d.src with
    | none => fmt L
    | some s =>
      if d.dstOther then fmt L
      else match L.nc.sources.find? fun e => decide (e.sfi = s) with
        | none => (L.incSat Reg.L450_DISC_SOURCE).find 0x44 1
        | some e =>
          let old := L.l450.recent.filter fun r => decide (d.time - r.2.2 ≤ 100000000)
          if old.any fun r => decide (r.1 = s) && decide (r.2.1 = d.body) then
            (L.incSat Reg.L450_DISC_DUP).onL450 fun x => { x with recent := old }
          else
            let L := (L.incWrap Reg.L450_CNT_DGRAMS).incWrap Reg.L450_CNT_SENT d.body.length
            L.onL450 fun x => { x with recent := (s, d.body, d.time) :: old, out := x.out ++ d.body.map fun t => (t, d.time, e.alias2) }

/-- L450_DATAGRAM (R412). -/
def execL450Datagram (l : LaneId) (d : L450Dgram) (s : State) : Out := onLane l (fun L => if L.running ∧ !L.coasting then L.l450Datagram d else L) s

/-! ### Serial reception (R431) -/

/-- A serial port and its configuration. -/
def Lane.serSt (L : Lane) (n : Nat) : SerSt := L.ser.getD n {}
def Lane.onPortS (L : Lane) (n : Nat) (f : SerSt → SerSt) : Lane := L.onSer fun l => modAt l n f
def Lane.serCfg (L : Lane) (n : Nat) : SerCfg := L.nc.serial.getD n {}

/-- The part of a buffer after its last LF, and the part up to it. -/
def tailLine (l : List Nat) : List Nat := (l.reverse.takeWhile fun c => decide (c ≠ 10)).reverse
def doneLines (l : List Nat) : List Nat := l.take (l.length - (tailLine l).length)

/-- LINE shows reception of what is in progress (R440). -/
def Lane.serLineShow (L : Lane) (n : Nat) : Lane :=
  if L.get (Reg.SER_STAT_LINE n) = 2 then L else L.set (Reg.SER_STAT_LINE n) (if (L.serSt n).buf = [] then 0 else 1)

/-- SERIAL_CHAR_RECEIVED (R431). -/
def Lane.serChar (L : Lane) (n ch : Nat) (framing : Bool) : Lane :=
  let mode := L.get (Reg.SER_CFG_MODE n)
  if 12 ≤ n ∨ mode = 0 then L
  else
    let L := L.incWrap (Reg.SER_RX_CHARS n)
    let L := if framing then (L.incSat (Reg.SER_RX_FRAMING n)).find 0x50 0 else L
    if mode = 2 then
      if framing then (L.onPortS n fun x => { x with buf := [] }).serLineShow n
      else if 4096 ≤ (L.serSt n).buf.length then
        (((L.incSat (Reg.SER_RX_OVERRUN n)).find 0x50 1).onPortS n fun x => { x with buf := [ch] }).serLineShow n
      else (L.onPortS n fun x => { x with buf := x.buf ++ [ch] }).serLineShow n
    else
      let L := if framing then L.onPortS n fun x => { x with bad := true } else L
      let x := L.serSt n
      if 4096 ≤ x.buf.length then
        (((L.incSat (Reg.SER_RX_OVERRUN n)).find 0x50 1).onPortS n fun x => { x with buf := doneLines x.buf, bad := true }).serLineShow n
      else if ch = 10 ∧ x.bad then (L.onPortS n fun x => { x with buf := doneLines x.buf, bad := false }).serLineShow n
      else (L.onPortS n fun x => { x with buf := x.buf ++ [ch] }).serLineShow n

/-- The serial receivers of a lane work (R431): it runs on its clocks, and its field rail feeds them (15 R553; 16 R562, R564). -/
def Lane.serListens (L : Lane) : Bool := L.running && !L.coasting && L.pwr.fieldRail

/-- SERIAL_CHAR_RECEIVED (R431). -/
def execSerialCharReceived (l : LaneId) (n ch : Nat) (framing : Bool) (s : State) : Out :=
  onLane l (fun L => if L.serListens then L.serChar n ch framing else L) s

/-- A line has been at space for over 100 ms, or leaves it (R431). -/
def Lane.serLine (L : Lane) (n : Nat) (brk : Bool) : Lane :=
  if 12 ≤ n ∨ L.get (Reg.SER_CFG_MODE n) = 0 ∨ !L.serListens then L
  else
    let was := decide (L.get (Reg.SER_STAT_LINE n) = 2)
    if brk then (if was then L else (L.set (Reg.SER_STAT_LINE n) 2).find 0x50 2)
    else if was then (L.set (Reg.SER_STAT_LINE n) 0).serLineShow n else L

/-- SER_LINE (R431). -/
def execSerLine (l : LaneId) (n : Nat) (brk : Bool) (s : State) : Out := onLane l (fun L => L.serLine n brk) s

/-- Age of reception on a port, reset by what was accepted: what is neither badly formed nor without a match. -/
def Lane.serAccepted (L0 L : Lane) (n : Nat) : Lane :=
  if L.found.length = L0.found.length then (L.onPortS n fun x => { x with age := some 0, rxCount := x.rxCount + 1 }).set (Reg.SER_STAT_AGE n) 0 else L

/-- SENTENCE_RECEIVED (03 R117): a sentence has completed; `a` is its arrival time (03 R116). -/
def Lane.sentenceReceived (L : Lane) (src : SentSrc) (a : Rat) : Lane :=
  match src with
  | .serial n =>
    let b := (L.serSt n).buf
    match b.findIdx? fun c => decide (c = 10) with
    | none => L
    | some i =>
      let line := b.take (i + 1)
      let L := (L.onPortS n fun x => { x with buf := b.drop (i + 1) }).serLineShow n
      if L.get (Reg.SER_CFG_MODE n) ≠ 1 then L
      else
        let t := line.dropWhile fun c => decide (c ≠ 36) && decide (c ≠ 33)
        if t = [] then L.parseBad else L.serAccepted (L.sentence n t a none) n
  | .l450 =>
    match L.l450.out with
    | [] => L
    | (t, at_, al) :: r => (L.onL450 fun x => { x with out := r }).sentence 12 t at_ al

/-- SENTENCE_RECEIVED (03 R117). -/
def execSentenceReceived (l : LaneId) (src : SentSrc) (a : Rat) (s : State) : Out :=
  onLane l (fun L => if L.running then L.sentenceReceived src a else L) s

/-- BINARY_FRAME_RECEIVED (03 R120). -/
def execBinaryFrameReceived (l : LaneId) (src : BinSrc) (a : Rat) (s : State) : Out :=
  onLane l (fun L =>
    if !L.running then L
    else match src with
      | .serial n => if L.get (Reg.SER_CFG_MODE n) = 2 then L.serAccepted (L.binaryFrame src a) n else L
      | _ => L.binaryFrame src a) s

/-! ### Serial transmission (R432-R434) -/

/-- Bit rate of a RATE code (R440). -/
def baudOf (r : Nat) : Nat := if r = 0 then 4800 else if r = 1 then 9600 else if r = 2 then 19200 else if r = 3 then 38400 else if r = 4 then 57600 else 115200

/-- The sentence of an entry from the publication of this tick (R432). -/
def Lane.formSentence (L : Lane) (i : Nat) (e : SerEntry) : SerSentence :=
  let r := L.plt.own.prec
  let hdg := L.flag Reg.PLOT_FLAGS_HDG_OK
  let pos := L.flag Reg.PLOT_FLAGS_POS_OK
  match e.kind with
  | .hdt => { entry := some i, kind := .hdt, talker := e.talker, valid := hdg, vals := if hdg then [deg360 (deg r.psi)] else [], text := [] }
  | .rot => { entry := some i, kind := .rot, talker := e.talker, valid := hdg, vals := if hdg then [60 * deg r.r] else [], text := [] }
  | .gga =>
    let g := Config.toGeo L.rc.originLat L.rc.originLon r.n r.e
    { entry := some i, kind := .gga, talker := e.talker, valid := pos, vals := if pos then [g.1, g.2] else [], text := [] }
  | .zda => { entry := some i, kind := .zda, talker := e.talker, valid := false, vals := [], text := [] }
  | .host => { entry := some i, kind := .host, talker := e.talker, valid := false, vals := [], text := [] }

/-- SERIAL_ENTRY_DUE (R432): an entry's period has run out at this position-cycle tick. -/
def Lane.serEntryDue (L : Lane) (n e : Nat) : Lane :=
  match (L.serCfg n).entries[e]? with
  | none => L
  | some c =>
    if (L.serCfg n).mode ≠ 1 ∨ c.kind = .host ∨ !L.tk.posTick ∨ 0 < (L.serSt n).due.getD e 0 then L
    else
      let x := L.formSentence e c
      L.onPortS n fun s => { s with due := modAt s.due e fun _ => c.period, staged := (s.staged.filter fun y => decide (y.entry ≠ some e)) ++ [x] }

/-- SERIAL_ENTRY_DUE (R432). -/
def execSerialEntryDue (l : LaneId) (n e : Nat) (s : State) : Out := onLane l (fun L => if L.running then L.serEntryDue n e else L) s

/-- The commit point fixes the tick's sentences for the next tick (R432; 01 R48). -/
def Lane.serCommit (L : Lane) : Lane := L.onSer fun l => l.map fun x => { x with fixed := x.fixed ++ x.staged, staged := [] }

/-- The sentences that the last commit point fixed join the transmit order at a tick start, and HOST sentences with them; a newer
sentence replaces the unsent one of its entry (R432). -/
def Lane.serRelease (L : Lane) (n : Nat) : Lane :=
  let st := (L.serSt n).fixed
  let above := ((L.serSt n).queue.filter fun q => st.any fun y => decide (y.entry = q.entry)).length
  let L := L.onPortS n fun s =>
    { s with queue := (s.queue.filter fun q => !(st.any fun y => decide (y.entry = q.entry))) ++ st, fixed := [], hostReady := s.host.length }
  if above = 0 then L else (L.incSat (Reg.SER_TX_REPLACED n) above).find 0x50 3

/-- The sentence that goes next on a port: in entry order, HOST sentences at their entry or last. -/
def Lane.serNext (L : Lane) (n : Nat) : Option SerSentence :=
  let x := L.serSt n
  let host := if x.hostReady = 0 then none else x.host.head?
  let byEntry := mapIdxFrom 0 (fun i (e : SerEntry) => if e.kind = .host then host else x.queue.find? fun q => decide (q.entry = some i)) (L.serCfg n).entries
  match byEntry.find? fun o => o.isSome with
  | some o => o
  | none => host

/-- UTC of a chronometer time: seconds and hundredths of the day, days. -/
def Lane.zdaVals (L : Lane) : List Rat :=
  let u := secOf L.now - L.get Reg.CHR_UTC_OFS
  [((u % 86400 : Nat) : Rat) + ((nsOf L.now / 10000000 : Nat) : Rat) / 100, ((u / 86400 : Nat) : Rat)]

/-- Transmission of the next sentence begins, where the port is free and driven (R432, R434). -/
def Lane.serBegin (L : Lane) (n : Nat) : Lane :=
  let x := L.serSt n
  if !L.flag (Reg.SER_STAT_DRIVING n) ∨ x.sending.isSome ∨ 0 < x.wait ∨ L.get (Reg.SER_CFG_MODE n) ≠ 1 then L
  else match L.serNext n with
    | none => L
    | some q =>
      let q := if q.kind = .zda then { q with valid := L.timeValid, vals := if L.timeValid then L.zdaVals else [] } else q
      L.onPortS n fun s =>
        { s with sending := some q, host := if q.kind = .host then s.host.drop 1 else s.host,
                 hostReady := if q.kind = .host then s.hostReady - 1 else s.hostReady,
                 queue := if q.kind = .host then s.queue else s.queue.filter fun y => decide (y.entry ≠ q.entry) }

/-- SERIAL_SENTENCE_SENT (R432). -/
def Lane.serSent (L : Lane) (n : Nat) : Lane :=
  if (L.serSt n).sending.isSome ∧ L.flag (Reg.SER_STAT_DRIVING n) then
    ((L.incWrap (Reg.SER_TX_SENT n)).onPortS n fun s => { s with sending := none }).serBegin n
  else L

/-- SERIAL_SENTENCE_SENT (R432). -/
def execSerialSentenceSent (l : LaneId) (n : Nat) (s : State) : Out := onLane l (fun L => L.serSent n) s

/-- The serial ports and Ethernet budgets at a tick start of `dt` ns. -/
def Lane.linkTick (L : Lane) (dt : Rat) : Lane :=
  let one (n : Nat) (L : Lane) : Lane :=
    let L := L.onPortS n fun s => { s with due := s.due.map fun d => d - 1, wait := max 0 (s.wait - dt), age := s.age.map fun a => a + 1 }
    let L := L.set (Reg.SER_STAT_AGE n) (match (L.serSt n).age with | some a => min 0xFFFF a | none => 0xFFFF)
    (L.serRelease n).serBegin n
  let L := forUpTo 12 one L
  (L.onEthA fun e => { e with inTick := 0 }).onEthB fun e => { e with inTick := 0 }

/-- The transmit lines fall silent: a sentence in progress is cut (R434; 15 R553). -/
def Lane.serStop (L : Lane) : Lane :=
  forUpTo 12 (fun n L =>
    let L := if (L.serSt n).sending.isSome then L.incSat (Reg.SER_TX_CUT n) else L
    (L.onPortS n fun s => { s with sending := none }).set (Reg.SER_STAT_DRIVING n) 0) L

/-- The lane loses the grant: its lines fall silent and its HOST sentences are gone (R434). -/
def Lane.serCut (L : Lane) : Lane := L.serStop.onSer fun l => l.map fun s => { s with host := [], hostReady := 0 }

/-- The UARTs of a lane that kept the grant through a coast drive their lines again (15 R552, R555). -/
def Lane.serResume (L : Lane) : Lane :=
  if L.flag Reg.LANE_STAT_DRIVE_HELD then
    forUpTo 12 (fun n L => L.setb (Reg.SER_STAT_DRIVING n) (decide (L.get (Reg.SER_CFG_MODE n) = 1))) L
  else L

/-- The lane receives the grant: empty queues, and two character times before its first sentence (R434). -/
def Lane.serGranted (L : Lane) : Lane :=
  forUpTo 12 (fun n L =>
    (L.onPortS n fun s => { s with queue := [], fixed := [], host := [], hostReady := 0, sending := none, wait := 20 * 1000000000 / (baudOf (L.get (Reg.SER_CFG_RATE n)) : Nat) }).set
      (Reg.SER_STAT_DRIVING n) (if L.get (Reg.SER_CFG_MODE n) = 1 then 1 else 0)) L

/-- SER_SEND (R418, R433): the operation status. -/
def Lane.serSend (L : Lane) (n count : Nat) (text : List Nat) : Lane × Nat :=
  if count = 0 ∨ 77 < count then (L, 5)
  else if !L.active ∨ 12 ≤ n ∨ L.get (Reg.SER_CFG_MODE n) ≠ 1 then (L, 6)
  else if 4 ≤ (L.serSt n).host.length then (L, 7)
  else
    let sum := xorAll ((text.take count).drop 1)
    let hex (d : Nat) : Nat := if d < 10 then 48 + d else 55 + d
    let t := text.take count ++ [42, hex (sum / 16), hex (sum % 16), 13, 10]
    (L.onPortS n fun s => { s with host := s.host ++ [{ entry := none, kind := .host, valid := true, vals := [], text := t }] }, 0)

/-- The network and serial section at a lane start or when it becomes current (R410, R431, R440). -/
def Lane.netChart (L : Lane) (old : NetChart) (start : Bool) : Lane :=
  let ip (L : Lane) (net : Nat) : Lane :=
    let d := if L.chart.ok then L.nc.ip.getD (L.id.ethOf net) (L.id.defaultIp net, 0xFFFFFF00) else (L.id.defaultIp net, 0xFFFFFF00)
    (L.set (Reg.ETH_IP_ADDR net) d.1).set (Reg.ETH_MASK_ADDR net) d.2
  let L := ip (ip L 0) 1
  let L := L.set Reg.L450_GROUPS_MASK L.nc.groups
  let one (n : Nat) (L : Lane) : Lane :=
    let c := L.serCfg n
    if start || decide (old.serial.getD n {} ≠ c) then
      let L := L.setAll [(Reg.SER_CFG_RATE n, c.rate), (Reg.SER_CFG_MODE n, c.mode), (Reg.SER_CFG_TX_ENTRIES n, c.entries.length)]
      let keep := !start && decide (c.mode = 1) && decide (c.rate = (old.serial.getD n {}).rate)
      let L := L.setb (Reg.SER_STAT_DRIVING n) (L.flag Reg.LANE_STAT_DRIVE_HELD && !start && !L.coasting && decide (c.mode = 1))
      L.onPortS n fun s =>
        { s with buf := [], bad := false, due := c.entries.map fun _ => 0, staged := [], fixed := [], queue := [],
                 sending := if keep then s.sending else none, host := if c.mode = 1 then s.host else [], hostReady := if c.mode = 1 then s.hostReady else 0 }
    else L
  forUpTo 12 one L

/-- CNT_CLR of an Ethernet page, of page 0x44 and of page 0x50 (R436, R439, R440). -/
def Lane.ethCntClr (L : Lane) (net : Nat) : Lane :=
  L.setAll [(Reg.ETH_RX_w net, 0), (Reg.ETH_TX_w net, 0), (Reg.ETH_DROP_w net, 0), (Reg.ETH_LINK_DOWNS net, 0)]
def Lane.l450CntClr (L : Lane) : Lane := L.setAll [(Reg.L450_CNT_w, 0), (Reg.L450_DISC_w, 0)]
def Lane.serCntClr (L : Lane) : Lane := forUpTo 12 (fun n L => L.setAll [(Reg.SER_RX_w n, 0), (Reg.SER_TX_w n, 0)]) L

end Sys2Proof.Machine
end

