-- ==== Sys2Proof/Machine/Session.lean ====
section
/-! DEFINITION. The end of a safety session and the abandonment of a Chart transfer, wherever they come from; the requests that a change of the active lane
discards (11 R424, R425, R428). -/

namespace Sys2Proof.Machine

open Sys2Proof

/-- The lowest number of the client table's 8 entries that is free (11 R419). -/
def freeIdx (l : List RapClient) : Option Nat := (List.range 8).find? fun i => !(l.any fun c => decide (c.idx = i))

/-- A session is open on the lane (11 R428). -/
def Lane.sessionOpen (L : Lane) : Bool := L.rap.session.isSome

/-- The session is held by a client (11 R420). -/
def Lane.sessionOf (L : Lane) (client : Nat) : Bool := decide (L.rap.session.map Prod.fst = some client)

/-- RAP_SESSION and STAT.SESSION (11 R438): the idle limit is 60 s. -/
def Lane.sessionShow (L : Lane) : Lane :=
  match L.rap.session with
  | some (c, ms) =>
    L.setAll [(Reg.RAP_SESSION_OPEN, 1), (Reg.RAP_SESSION_CLIENT, c), (Reg.RAP_SESSION_IDLE, (60000 - ms) / 1000), (Reg.RAP_STAT_SESSION, 1)]
  | none => L.setAll [(Reg.RAP_SESSION_OPEN, 0), (Reg.RAP_SESSION_CLIENT, 0), (Reg.RAP_SESSION_IDLE, 0), (Reg.RAP_STAT_SESSION, 0)]

/-- A session ends (11 R428). -/
def Lane.sessionEnd (L : Lane) : Lane :=
  if L.sessionOpen then ((L.onRap fun r => { r with session := none, sessNonce := [] }).sessionShow).find 0x43 0 else L

/-- RAP_CHART.STATE with STAT.CHART_BUSY (11 R438). -/
def Lane.chartState (L : Lane) (st : Nat) : Lane :=
  (L.set Reg.RAP_CHART_STATE st).setb Reg.RAP_STAT_CHART_BUSY (decide (st ≠ 0))

/-- An open Chart transfer is abandoned, with no CHART_END response (11 R425; 16 R578): its content is dropped in the lane,
and cause CONFIG of its safety portion ends (13 R499). -/
def Lane.chartAbandon (L : Lane) : Lane :=
  if L.rap.xfer.isSome then
    (((L.onRap fun r => { r with xfer := none, staged := none, pending := r.pending.filter fun e => !e.held }).onChart fun c =>
      { c with next := none }).onSf fun x =>
        { x with cfgHold := [], newPortion := none, rejects := 0, binTaken := false, refused := false }).chartState 0
  else L

/-- Requests received whose responses were not sent are discarded (R424). -/
def Lane.rapDiscard (L : Lane) : Lane := L.onRap fun r => { r with queue := [], pending := [] }

end Sys2Proof.Machine
end

