-- ==== Sys2Proof/Machine/Track.lean ====
section
/-! DEFINITION. The signals of the Sextant, a pass of its acquisition bank, and the loops of its tracking channels
(07 R261, R266, R267, R273-R278). -/

namespace Sys2Proof.Machine

open Sys2Proof

/-! ### Signals (R261) -/

/-- The component a channel tracks. -/
inductive SigComp where
  | data
  | pilot
deriving DecidableEq, Repr

/-- The navigation message a signal's data component carries. -/
inductive NavKind where
  | lnav
  | inav
  | bcnav1
deriving DecidableEq, Repr

/-- A signal: carrier in Hz, tracked component, decoded message, primary code in chips and in ms. -/
structure Signal where
  carrier : Rat
  comp : SigComp
  msg : Option NavKind
  chips : Nat
  ms : Nat
deriving DecidableEq, Repr

/-- The signals received (R261). -/
def signalOf (g : GnssSys) (lower : Bool) : Signal :=
  if lower then ⟨1176450000, .pilot, none, 10230, 1⟩
  else match g with
    | .gps => ⟨1575420000, .data, some .lnav, 1023, 1⟩
    | .gal => ⟨1575420000, .pilot, some .inav, 4092, 4⟩
    | .bds => ⟨1575420000, .pilot, some .bcnav1, 10230, 10⟩

/-- Chips per s; m per chip; m per cycle. -/
def Signal.chipRate (g : Signal) : Rat := g.chips * 1000 / g.ms
def Signal.chip (g : Signal) : Rat := 299792458 / g.chipRate
def Signal.wave (g : Signal) : Rat := 299792458 / g.carrier

/-- A satellite that the Sextant may track (R261). -/
def Sat.trackable (s : Sat) : Bool :=
  match s.sys with
  | .bds => Config.broadcastsB1c s.prn && !Config.geostationary s.prn
  | _ => true

/-! ### A pass of the bank (R266, R267) -/

/-- The grid of a pass: code bins, Doppler bins and their spacing in Hz, coherent time in ms, sums, passes unaided and aided. -/
structure Grid where
  codes : Nat
  dops : Nat
  spacing : Rat
  coh : Nat
  sums : Nat
  free : Nat
  aided : Nat
deriving DecidableEq, Repr

/-- The grid by system (R267). -/
def gridOf : GnssSys → Grid
  | .gps => ⟨2048, 32, 625 / 2, 1, 8, 2, 1⟩
  | .gal => ⟨8192, 8, 125, 4, 4, 15, 1⟩
  | .bds => ⟨20480, 3, 50, 10, 2, 100, 4⟩

/-- Time of a pass in ns; passes of a search. -/
def Grid.passNs (g : Grid) : Rat := g.coh * g.sums * 1000000
def Grid.passes (g : Grid) (aided : Bool) : Nat := if aided then g.aided else g.free

/-- A bin of the grid detects the signal (R266). -/
def Grid.detects (g : Grid) (p : AcqPeak) : Bool :=
  decide (p.code < g.codes) && decide (p.dop < g.dops) && decide (Config.acqThreshold (g.codes * g.dops) g.sums * p.noise < p.power)

/-- Doppler of a bin of pass `i` of `n`: the passes lie side by side about the centre, the lowest first (log entry 89). -/
def Grid.doppler (g : Grid) (centre : Rat) (n i bin : Nat) : Rat := centre + (((i * g.dops + bin : Nat) : Rat) + 1 / 2 - ((n * g.dops : Nat) : Rat) / 2) * g.spacing

/-! ### Taps and loops (R273, R274) -/

/-- E and L spacing on a signal (R297), in chips. -/
def SextantChart.wide (c : SextantChart) (g : GnssSys) (lower : Bool) : Rat :=
  c.tapWide.getD (if !lower && decide (g ≠ .gps) then 1 / 4 else 1 / 2)

/-- Places of VE, E, NE, P, NL, L and VL relative to the prompt, in chips (R273). -/
def SextantChart.taps (c : SextantChart) (g : GnssSys) (lower : Bool) : List Rat :=
  let w := c.wide g lower
  [2 * w, w, c.tapNarrow, 0, -c.tapNarrow, -w, -2 * w]

/-- Magnitude of the prompt tap. -/
def Taps.p (u : Taps) : Rat := Config.sqrt (u.i * u.i + u.q * u.q)

/-- A very-early or very-late tap exceeds the prompt (R273). -/
def Taps.sidePeak (u : Taps) : Bool := decide (u.p < u.ve) || decide (u.p < u.vl)

/-- Code discriminator (R273). -/
def Taps.codeError (u : Taps) (cn0 : Rat) : Rat :=
  if 30 ≤ cn0 then (if u.p = 0 then Config.codeDiscAtZero true else (2 * (u.ne - u.nl) - (u.e - u.l)) / u.p)
  else if u.e + u.l = 0 then Config.codeDiscAtZero false
  else (u.e - u.l) / (u.e + u.l)

/-- Phase discriminator in cycles (R274): two-quadrant on a data component, four-quadrant on a pilot. -/
def Taps.phaseError (u : Taps) (c : SigComp) : Rat :=
  (match c with
    | .data => if u.i < 0 then Config.atan2 (-u.q) (-u.i) else Config.atan2 u.q u.i
    | .pilot => Config.atan2 u.q u.i) / (2 * Config.pi)

/-- Update period of the loops in s (R274). -/
def updatePeriod (g : GnssSys) (lower : Bool) : Rat := if lower then 1 / 1000 else ((gridOf g).coh : Rat) / 1000

/-- One update of the loops (R274): the third-order PLL, assisted by the second-order FLL of 10 Hz in pull-in, and the first-order
DLL aided by the carrier. -/
def SxLoop.update (c : SextantChart) (g : GnssSys) (lower pullIn : Bool) (cn0 : Rat) (x : SxLoop) (u : Taps) : SxLoop :=
  let s := signalOf g lower
  let t := updatePeriod g lower
  let e := u.phaseError s.comp
  let k := Config.loopGain 3 c.pllBw t
  let f := if pullIn then (match x.prompt with | some p => Config.freqDisc p (u.i, u.q) t | none => 0) else 0
  let m := Config.loopGain 2 10 t
  let accel := x.accel + k.2.2 * e + m.2.1 * f
  let freq := x.freq + accel * t + k.2.1 * e + m.1 * f
  { phase := x.phase + freq * t + k.1 * e, freq := freq, accel := accel, prompt := some (u.i, u.q)
    code := x.code + freq * t * s.chipRate / s.carrier + (Config.loopGain 1 c.dllBw t).1 * u.codeError cn0 }

/-- A channel's loops over the updates since the last strobe. -/
def SxChan.track (c : SextantChart) (m : StrobeCap) (x : SxChan) : SxChan :=
  match x.sat with
  | some s => { x with loop := m.ups.foldl (SxLoop.update c s.sys x.lower (decide (x.st = .pullIn)) m.cn0) x.loop }
  | none => x

/-- Half a chip towards the larger of the very-early and very-late taps (R273). -/
def SxChan.halfChip (u : Taps) (x : SxChan) : SxChan :=
  { x with loop := { x.loop with code := x.loop.code + (if u.vl < u.ve then 1 / 2 else -1 / 2) } }

/-- Measurements of a channel at t_L (R278): the captures go back by the lag of the sampling edge in s with the channel's
frequencies. Carrier phase accumulates as the range does (R283, log entry 89). -/
def SxChan.measure (x : SxChan) (m : StrobeCap) (lag : Rat) : Capture :=
  let g := signalOf ((x.sat.map Sat.sys).getD .gps) x.lower
  let dt := m.since - lag
  let code := m.base - g.chip * (x.loop.code + x.loop.freq * dt * g.chipRate / g.carrier)
  let carr := -(x.loop.phase + x.loop.freq * dt)
  let div := match x.last with
    | some (r, p) => decide (1 / 2 < absQ ((carr - p) - (code - r) / g.wave - m.diverge))
    | none => false
  { chan := m.chan, code := code, carr := carr, dop := x.loop.freq, cn0 := m.cn0, elev := m.elev, diverged := div, pos := m.pos }

/-- A channel given up: its slip count stands until CNT_CLR (R276, R302). -/
def SxChan.freed (x : SxChan) : SxChan := { slips := x.slips }

end Sys2Proof.Machine
end

