-- ==== Sys2Proof/Machine/Sextant.lean ====
section
/-! DEFINITION. The Sextant: acquisition, tracking, epochs, positions, clock offset, attitude (07_gnss_baseband). -/

namespace Sys2Proof.Machine

open Sys2Proof

/-- The Sextant section of the Chart. -/
def Lane.xc (L : Lane) : SextantChart := L.chart.now.sx

/-- A tracking channel, 0-215; its antenna, 0-2 (R272). -/
def Lane.sxc (L : Lane) (c : Nat) : SxChan := L.sx.chans.getD c {}
def Lane.onSxc (L : Lane) (c : Nat) (f : SxChan → SxChan) : Lane := L.onSx fun x => { x with chans := modAt x.chans c f }
def antOf (c : Nat) : Nat := c / 72

/-- What the lane holds of a satellite. -/
def Lane.satData (L : Lane) (s : Sat) : Option SatData := L.sx.sats.find? fun d => decide (d.sat = s)

/-- The lane with what it holds of a satellite changed. -/
def Lane.onSat (L : Lane) (s : Sat) (f : SatData → SatData) : Lane :=
  L.onSx fun x =>
    { x with sats := if x.sats.any (fun d => decide (d.sat = s)) then x.sats.map fun d => if d.sat = s then f d else d else x.sats ++ [f { sat := s }] }

/-- A system is enabled (R297). -/
def SextantChart.enabled (c : SextantChart) : GnssSys → Bool
  | .gps => c.gps
  | .gal => c.gal
  | .bds => c.bds

/-- Satellites accepted (R261), in the order of an unaided search (R268). -/
def allSats : List Sat :=
  ((List.range 32).map fun n => (⟨.gps, n + 1⟩ : Sat)) ++ ((List.range 36).map fun n => ⟨.gal, n + 1⟩) ++ ((List.range 63).map fun n => ⟨.bds, n + 1⟩)

/-- The channel is locked. -/
def SxChan.locked (c : SxChan) : Bool := decide (c.st = .codeLock) || decide (c.st = .phaseLock)

/-- A satellite is tracked on any antenna. -/
def Lane.tracked (L : Lane) (s : Sat) : Bool := L.sx.chans.any fun c => decide (c.sat = some s) && decide (c.st ≠ .idle)

/-- Satellites tracked on an antenna. -/
def Lane.trackedOn (L : Lane) (k : Nat) : Nat :=
  ((((L.sx.chans.drop (72 * k)).take 72).filter fun c => c.locked).filterMap SxChan.sat).eraseDups.length

/-- The Sextant works: fitted, its engine healthy, its sampling domain running (R263, R281, R295, R296). -/
def Lane.sxOn (L : Lane) : Bool := decide (L.variant = .kx960) && !L.sx.failed && L.sx.run && !L.coasting && L.running

/-! ### Acquisition (R266-R272) -/

/-- The bank is idle under R271. -/
def Lane.bankPaused (L : Lane) : Bool := L.flag Reg.PWR_STAT_ENFORCE

/-- Antenna k's page offset from 0x30. -/
def antPage (k : Nat) : Nat := k + 1

/-- The antenna searched (R268): the lowest whose bias is OK, or switched off, and that has signal. -/
def Lane.searchAnt (L : Lane) : Nat :=
  let ok (k : Nat) : Bool :=
    let b := L.get (Reg.ANT_BIAS_STATUS (antPage k))
    (decide (b = 1) || decide (b = 0)) && !L.flag (Reg.ANT_STAT_NO_SIGNAL (antPage k))
  if ok 0 then 0 else if ok 1 then 1 else if ok 2 then 2 else 0

/-- A search is aided (R268), or a re-search after a loss (R275). -/
def Lane.aidedFor (L : Lane) (s : Sat) : Bool :=
  let d := L.satData s
  (d.any (fun d => d.almanac || d.eph) && L.sx.posKnown && (L.sx.freqKnown || decide (L.get Reg.CHR_SYNC_STATE = 3))) || d.any SatData.research

/-- The list rotated to begin after an element. -/
def afterSat (l : List Sat) (x : Option Sat) : List Sat :=
  match x with
  | none => l
  | some s => match l.findIdx? fun y => decide (y = s) with
    | some i => l.drop (i + 1) ++ l.take (i + 1)
    | none => l

/-- Inserts a satellite by falling elevation. -/
def insElev (p : Sat × Rat) : List (Sat × Rat) → List (Sat × Rat)
  | [] => [p]
  | q :: r => if q.2 < p.2 then p :: q :: r else q :: insElev p r

/-- The queue of the bank (R268, R275): re-searches first; before the first fix the satellites in their order, after it those
predicted above ELEV_MASK, highest first. -/
def Lane.bankQueue (L : Lane) : List Sat :=
  let want (s : Sat) : Bool := L.xc.enabled s.sys && s.trackable && !L.tracked s
  let lost := (L.sx.sats.filter fun d => d.research && want d.sat).map SatData.sat
  let rest := if !L.sx.fixed then afterSat allSats L.sx.last
    else
      let up := L.sx.sats.filterMap fun d => match d.elev with
        | some e => if (L.xc.elevMask : Rat) < e ∧ (d.almanac ∨ d.eph) then some (d.sat, e) else none
        | none => none
      afterSat ((up.foldr insElev []).map Prod.fst) L.sx.last
  lost ++ rest.filter want

/-- SX_ACQ shows the bank's work (R300). -/
def Lane.showAcq (L : Lane) : Lane :=
  let p := L.bankPaused
  let n := ((L.sx.chans.filter fun c => c.locked).filterMap SxChan.sat).eraseDups.length
  let L := L.setAll [(Reg.SX_ACQ_TRACKED, n), (Reg.SX_ACQ_PAUSED, if p then 1 else 0), (Reg.SX_STAT_ACQ_PAUSED, if p then 1 else 0)]
  match (if p then none else L.sx.search) with
  | some (s, _, a) =>
    L.setAll [(Reg.SX_ACQ_PRN, s.prn), (Reg.SX_ACQ_SYS, s.sys.code), (Reg.SX_ACQ_ANT, L.searchAnt + 1), (Reg.SX_ACQ_AIDED, if a then 1 else 0)]
  | none => L.setAll [(Reg.SX_ACQ_PRN, 0), (Reg.SX_ACQ_SYS, 0), (Reg.SX_ACQ_ANT, 0), (Reg.SX_ACQ_AIDED, 0)]

/-- The bank takes its next work. -/
def Lane.nextSearch (L : Lane) : Lane :=
  match L.bankQueue with
  | [] => (L.onSx fun x => { x with search := none }).showAcq
  | s :: _ => let a := L.aidedFor s; (L.onSx fun x => { x with search := some (s, (gridOf s.sys).passes a, a), passNs := 0 }).showAcq

/-- A cycle slip on a channel (R276). -/
def Lane.cycleSlip (L : Lane) (c : Nat) : Lane :=
  let used := (L.sxc c).usedAtt
  (L.onSxc c fun x => { x with slip := true, slips := min 255 (x.slips + 1), smooth := none }).findIf used (0x31 + antOf c) 2

/-- A channel is given up; one that leaves PHASE_LOCK slips (R276). -/
def Lane.freeChannel (L : Lane) (c : Nat) : Lane :=
  (if (L.sxc c).st = .phaseLock then L.cycleSlip c else L).onSxc c SxChan.freed

/-- A channel of antenna k for one more signal of a satellite at an elevation (R272): a free one, else the lower-band channel of the
lowest satellite, which the new signal's own may be where it is a lower band. -/
def Lane.freeChan (L : Lane) (k : Nat) (lower : Bool) (elev : Rat) : Option Nat :=
  let own := (List.range 72).map (72 * k + ·)
  match own.find? fun c => decide ((L.sxc c).st = .idle) with
  | some c => some c
  | none =>
    (own.filter fun c => (L.sxc c).lower && (!lower || decide ((L.sxc c).elev < elev))).foldl (fun (b : Option Nat) c => match b with
      | none => some c
      | some d => if (L.sxc c).elev < (L.sxc d).elev then some c else some d) none

/-- Hands a signal to a channel for pull-in. -/
def Lane.handOver (L : Lane) (k : Nat) (s : Sat) (lower : Bool) (code dop : Rat) (placed : Bool) : Lane :=
  let own := ((L.sx.chans.drop (72 * k)).take 72).any fun c => decide (c.sat = some s) && decide (c.lower = lower) && decide (c.st ≠ .idle)
  let elev := ((L.satData s).bind SatData.elev).getD 0
  if own ∨ !L.xc.enabled s.sys ∨ !s.trackable then L
  else match L.freeChan k lower elev with
    | some c => (L.freeChannel c).onSxc c fun x =>
        { x with st := .pullIn, sat := some s, lower := lower, loop := { code := code, freq := dop }, placed := placed, elev := elev }
    | none => L

/-- ACQUISITION_PASS (R266): a pass over the grid of R267 ends when its time has run, with its strongest bin; a detection hands its
code phase and Doppler to a channel. An idle bank takes its next work. -/
def Lane.acqPass (L : Lane) (r : AcqPeak) : Lane :=
  if !L.sxOn || L.bankPaused then L
  else match L.sx.search with
    | none => L.nextSearch
    | some (s, n, a) =>
      let g := gridOf s.sys
      if L.sx.passNs < g.passNs then L
      else if g.detects r then
        let centre := if a then Config.predictedDoppler s.sys.code s.prn L.now else 0
        let dop := g.doppler centre (g.passes a) (g.passes a - n) r.dop
        ((L.handOver L.searchAnt s false (r.code / 2) dop false).onSx fun x => { x with last := some s }).nextSearch
      else if n ≤ 1 then (L.onSx fun x => { x with last := some s }).nextSearch
      else (L.onSx fun x => { x with search := some (s, n - 1, a), passNs := 0 }).showAcq

/-- ACQUISITION_PASS (R266). -/
def execAcquisitionPass (l : LaneId) (r : AcqPeak) (s : State) : Out := onLane l (fun L => L.acqPass r) s

/-- Lower bands (R269): the Doppler scaled by 115/154, the code aligned to the same transmit time within the lower code. -/
def Lane.placeLower (L : Lane) (k : Nat) (s : Sat) (c : SxChan) : Lane :=
  let u := signalOf s.sys false
  let v := signalOf s.sys true
  let t := c.loop.code * v.chipRate / u.chipRate
  let code := t - ((t / v.chips).floor : Rat) * v.chips
  if (L.satData s).any SatData.singleBand then L else L.handOver k s true code (c.loop.freq * 115 / 154) false

/-- Scaled difference and inner product of vectors in the earth frame. -/
def sub3 (a b : Rat × Rat × Rat) : Rat × Rat × Rat := (a.1 - b.1, a.2.1 - b.2.1, a.2.2 - b.2.2)
def dot3 (a b : Rat × Rat × Rat) : Rat := a.1 * b.1 + a.2.1 * b.2.1 + a.2.2 * b.2.2

/-- What an antenna's code phase exceeds another's by, in m (R269): the baseline between them along the line of sight to the
satellite of channel c, none before the first attitude fix. -/
def Lane.baselineDelay (L : Lane) (c j : Nat) : Rat :=
  match L.sx.vecs, L.sx.caps.find? fun m => decide (m.chan = c) with
  | some v, some m =>
    let at_ (k : Nat) : Rat × Rat × Rat := if k = 0 then (0, 0, 0) else if k = 1 then v.1 else v.2
    let u := sub3 m.pos (L.sx.pos.getD (antOf c) (0, 0, 0))
    let r := Config.sqrt (dot3 u u)
    if r = 0 then 0 else dot3 u (sub3 (at_ j) (at_ (antOf c))) / r
  | _, _ => 0

/-- The placements of a satellite that reaches PHASE_LOCK on an upper band (R269). -/
def Lane.placements (L : Lane) (c : Nat) : Lane :=
  let x := L.sxc c
  match x.sat with
  | some s =>
    if x.lower then L
    else
      let code (j : Nat) : Rat := x.loop.code + L.baselineDelay c j / (signalOf s.sys false).chip
      forUpTo 3 (fun j M => if j = antOf c then M else M.handOver j s false (code j) x.loop.freq true) (L.placeLower (antOf c) s x)
  | none => L

/-- PULL_IN_TIMEOUT (R266, R269): a pull-in that has run 1 s fails. -/
def Lane.pullInTimeout (L : Lane) (c : Nat) : Lane :=
  let x := L.sxc c
  if x.st = .pullIn ∧ 1000000000 ≤ x.pullNs then
    let L := L.onSxc c SxChan.freed
    match x.sat with
    | some s => if x.lower then L.onSat s fun d => { d with singleBand := true, singleNs := 0 } else L
    | none => L
  else L

/-- PULL_IN_TIMEOUT (R266). -/
def execPullInTimeout (l : LaneId) (c : Nat) (s : State) : Out := onLane l (fun L => L.pullInTimeout c) s

/-- CODE_LOCK (R275): the code locks so many chips from where the channel was set; a placed channel pulls in within ±3 chips (R269). -/
def Lane.codeLock (L : Lane) (c : Nat) (ofs : Rat) : Lane :=
  let x := L.sxc c
  if x.st = .pullIn ∧ L.sxOn ∧ (x.placed = false ∨ absQ ofs ≤ 3) then
    let L := L.onSxc c fun x => { x with st := .codeLock, lockNs := 0, loop := { x.loop with code := x.loop.code + ofs } }
    let L := match (L.sxc c).sat with
      | some s => L.onSat s fun d => { d with research := false }
      | none => L
    L.showAcq
  else L

/-- CODE_LOCK (R275). -/
def execCodeLock (l : LaneId) (c : CodeSeen) (s : State) : Out := onLane l (fun L => L.codeLock c.chan c.ofs) s

/-- CHANNEL_LOCK_CHANGE (R275): the lock indicator is `ind` and has stood beyond its limit for `ms` ms. -/
def Lane.lockChange (L : Lane) (c : Nat) (ind : Rat) (ms : Nat) : Lane :=
  let x := L.sxc c
  if x.st = .codeLock ∧ L.sxOn ∧ 8 / 10 ≤ ind ∧ 200 ≤ ms then
    (L.onSxc c fun x => { x with st := .phaseLock, phaseNs := 0, half := decide (x.sat.map Sat.sys = some .gps) && !x.lower }).placements c
  else if x.st = .phaseLock ∧ ind < 6 / 10 ∧ 100 ≤ ms then (L.cycleSlip c).onSxc c fun x => { x with st := .codeLock, phaseNs := 0, half := false }
  else L

/-- CHANNEL_LOCK_CHANGE (R275). -/
def execChannelLockChange (l : LaneId) (c : LockSeen) (s : State) : Out := onLane l (fun L => L.lockChange c.chan c.ind c.ms) s

/-- TRACKING_LOST (R275): C/N0 is `cn0` dB-Hz and has stood below CN0_TRACK for `ms` ms. -/
def Lane.trackingLost (L : Lane) (c : Nat) (cn0 : Rat) (ms : Nat) : Lane :=
  let x := L.sxc c
  if x.locked ∧ cn0 < L.xc.cn0Track ∧ 2000 ≤ ms then
    let L := L.freeChannel c
    match x.sat with
    | some s => (if L.tracked s then L else L.onSat s fun d => { d with research := true, researchNs := 0 }).showAcq
    | none => L
  else L

/-- TRACKING_LOST (R275). -/
def execTrackingLost (l : LaneId) (c : Cn0Seen) (s : State) : Out := onLane l (fun L => L.trackingLost c.chan c.cn0 c.ms) s

/-- REACQUISITION_EXPIRY (R275): after 10 s. -/
def execReacquisitionExpiry (l : LaneId) (x : Sat) (s : State) : Out :=
  onLane l (fun L => if (L.satData x).any fun d => d.research && decide (10000000000 ≤ d.researchNs) then L.onSat x fun d => { d with research := false } else L) s

/-- LOWER_BAND_RETRY (R269): after 60 s. -/
def Lane.lowerRetry (L : Lane) (s : Sat) : Lane :=
  if ((L.satData s).any fun d => d.singleBand && decide (60000000000 ≤ d.singleNs)) ∧ L.sxOn then
    let L := L.onSat s fun d => { d with singleBand := false }
    forUpTo 216 (fun c L =>
      let x := L.sxc c
      if x.sat = some s ∧ !x.lower ∧ x.st = .phaseLock then L.placeLower (antOf c) s x else L) L
  else L

/-- LOWER_BAND_RETRY (R269). -/
def execLowerBandRetry (l : LaneId) (x : Sat) (s : State) : Out := onLane l (fun L => L.lowerRetry x) s

/-- SIDE_PEAK_CORRECTION (R273): after 20 loop updates in a row at a side peak the code moves half a chip towards the larger tap. -/
def execSidePeakCorrection (l : LaneId) (c : Nat) (ups : List Taps) (s : State) : Out :=
  onLane l (fun L =>
    let x := L.sxc c
    match ups.getLast? with
    | some u =>
      if x.locked ∧ !x.lower ∧ x.sat.any (fun s => decide (s.sys ≠ .gps)) ∧ ups.length = 20 ∧ ups.all Taps.sidePeak then L.onSxc c (SxChan.halfChip u) else L
    | none => L) s

/-- NAVIGATION_MESSAGE_DECODED (R276, R268; 09 R343). -/
def Lane.navMessage (L : Lane) (c : Nat) (m : NavMsg) : Lane :=
  let x := L.sxc c
  if !x.locked ∨ x.lower then L
  else match x.sat with
    | none => L
    | some s =>
      let L := if m.preamble ∧ s.sys = .gps then
          let L := if m.wrongHalf ∧ x.half then L.cycleSlip c else L
          L.onSxc c fun x => { x with half := false }
        else L
      let L := L.onSat s fun d => { d with eph := d.eph || m.eph, healthy := if m.eph then m.healthy else d.healthy,
                                           elev := if m.elev.isSome then m.elev else d.elev }
      let L := m.almanacs.foldl (fun L a => L.onSat a.1 fun d => { d with almanac := true, elev := some a.2 }) L
      let L := L.onSx fun y => { y with gpsTime := y.gpsTime || m.gpsTime }
      let full := allSats.all fun s => !L.xc.enabled s.sys || (L.satData s).any SatData.almanac
      let L := if full then L.setb Reg.SX_STAT_ALMANAC true else L
      let L := match m.utc with
        | some u => (L.onChr fun c => { c with utcGnss := some (u + 19) }).utcUpdate
        | none => L
      match m.utc, m.leap with
      | some u, some q => L.gnssLeap u q.1 q.2
      | _, _ => L

/-- NAVIGATION_MESSAGE_DECODED (R276). -/
def execNavigationMessageDecoded (l : LaneId) (c : Nat) (m : NavMsg) (s : State) : Out := onLane l (fun L => L.navMessage c m) s

/-- SEXTANT_DATA_RECEIVED (R270): the other lane's Sextant data arrive within 200 ticks of the lane start. -/
def execSextantDataReceived (l : LaneId) (s : State) : Out :=
  let o := (s.lane l.other).sx
  if (s.lane l).sxOn ∧ (s.lane l).sx.askAge ≤ 200 ∧ !(s.lane l).flag Reg.SX_STAT_LANE_DATA ∧ (s.lane l.other).sxOn ∧ (o.sats ≠ [] ∨ o.posKnown) then
    onLane l (fun L =>
      let merge (d e : SatData) : SatData :=
        let e := { e with almanac := e.almanac || d.almanac, eph := e.eph || d.eph }
        { e with healthy := if d.eph then d.healthy else e.healthy, elev := if d.elev.isSome then d.elev else e.elev }
      let L := o.sats.foldl (fun L d => L.onSat d.sat (merge d)) L
      (L.onSx fun x => { x with gpsTime := x.gpsTime || o.gpsTime, posKnown := x.posKnown || o.posKnown, pos := if x.posKnown then x.pos else o.pos }).setb
        Reg.SX_STAT_LANE_DATA true) s
  else .next s

/-! ### Antennas (R264, R265, R302) -/

/-- The bias feed of an antenna is on (R265): off only while every running lane has BIAS = OFF for it. A module without antenna
connections supplies none (00 R2). -/
def State.biasOn (s : State) (k : Nat) : Bool :=
  let lane (L : Lane) : Bool := L.running && L.xc.bias.getD k true
  let any := s.a.running || s.b.running
  let fitted := decide (s.a.variant = .kx960) || decide (s.b.variant = .kx960)
  fitted && (!any || lane s.a || lane s.b)

/-- ANT_BIAS_FAULT (R265): a measurement of an antenna's bias current, 0.1 mA, and whether the limit is reached. -/
def execAntBiasFault (l : LaneId) (k cur : Nat) (limited : Bool) (s : State) : Out :=
  if 3 ≤ k ∨ (s.lane l).variant ≠ .kx960 then .next s
  else
    let st := if !s.biasOn k then 0 else if limited then 3 else if cur < 20 then 2 else 1
    onLane l (fun L =>
      let was := L.get (Reg.ANT_BIAS_STATUS (antPage k))
      let L := (L.setSat (Reg.ANT_BIAS_CURRENT (antPage k)) cur).setAll [(Reg.ANT_BIAS_STATUS (antPage k), st), (Reg.ANT_STAT_BIAS (antPage k), st)]
      if 2 ≤ st ∧ st ≠ was then (L.setb (Reg.ANT_FAULT_BIAS_FAULT (antPage k)) true).find (0x31 + k) 0 else L) s

/-- A gain, 0.1 dB, stands at an end of its range of 0-60 dB. -/
def gainEnd (g : Nat) : Bool := decide (g = 0) || decide (g = 600)

/-- The chain has stood at the end of its range that it is at for 1 s (R264). -/
def SextantSt.agcHeld (x : SextantSt) (i : Nat) : Bool := decide (1000000000 ≤ x.gainNs.getD i 0)

/-- A chain's gain is read: its time at an end of the range runs on while it stays there (R264). -/
def SextantSt.gainRead (x : SextantSt) (i g : Nat) (still : Bool) : SextantSt :=
  { x with gain := modAt x.gain i fun _ => some g, gainNs := if still = true ∧ x.gain.getD i none = some g ∧ gainEnd g then x.gainNs else modAt x.gainNs i fun _ => 0 }

/-- Time at the end of the range of each chain, `dt` ns on. -/
def SextantSt.gainTick (x : SextantSt) (dt : Rat) : SextantSt :=
  { x with gainNs := mapIdxFrom 0 (fun i t => if (x.gain.getD i none).any gainEnd then t + dt else 0) x.gainNs }

/-- AGC_LIMIT (R264): the gains of an antenna's chains are read, 0.1 dB, and whether each has stayed where it was read last; the flag
stands while one has been at an end for 1 s. -/
def execAgcLimit (l : LaneId) (k upper lower : Nat) (still : Bool × Bool) (s : State) : Out :=
  onLane l (fun L =>
    if 3 ≤ k ∨ L.variant ≠ .kx960 then L
    else
      let L := L.onSx fun x => (x.gainRead (2 * k) (min 600 upper) still.1).gainRead (2 * k + 1) (min 600 lower) still.2
      let lim := L.sx.agcHeld (2 * k) || L.sx.agcHeld (2 * k + 1)
      let was := L.flag (Reg.ANT_STAT_AGC_LIMIT (antPage k))
      let L := L.setAll [(Reg.ANT_AGC_UPPER (antPage k), min 600 upper), (Reg.ANT_AGC_LOWER (antPage k), min 600 lower)]
      (L.setb (Reg.ANT_STAT_AGC_LIMIT (antPage k)) lim).findIf (lim && !was) (0x31 + k) 4) s

/-- Another antenna tracks at least 4 satellites (R302). -/
def Lane.otherTracks (L : Lane) (k : Nat) : Bool := (List.range 3).any fun j => decide (j ≠ k) && decide (4 ≤ L.trackedOn j)

/-- ANT_NO_SIGNAL (R302). -/
def execAntNoSignal (l : LaneId) (k : Nat) (s : State) : Out :=
  onLane l (fun L =>
    if k < 3 ∧ L.otherTracks k ∧ 10000000000 ≤ L.sx.noSignal.getD k 0 ∧ !L.flag (Reg.ANT_STAT_NO_SIGNAL (antPage k)) ∧ L.sxOn then
      (L.setb (Reg.ANT_STAT_NO_SIGNAL (antPage k)) true).find (0x31 + k) 1
    else L) s

/-! ### Commands (R300) -/

/-- Some slot with source 0x1 or 0x2 is ADMITTED or SUSPECT. -/
def Lane.sxInUse (L : Lane) : Bool :=
  (List.range 30).any fun s => match L.rc.slot s with
    | some c => (decide (c.source = 1) || decide (c.source = 2)) && (decide ((L.slotSt s).st = .admitted) || decide ((L.slotSt s).st = .suspect))
    | none => false

/-- Attitude is configured (R289). -/
def Lane.attConfigured (L : Lane) : Bool := L.xc.b12.isSome && L.xc.b13.isSome

/-- SX_CMD with GO (R300). -/
def Lane.sxCmd (L : Lane) (tag cmd : Nat) : Lane :=
  let L := L.setAll [(Reg.SX_CMD_TAG, tag), (Reg.SX_CMD_CMD, cmd)]
  let refuse (code : Nat) : Lane := (L.set Reg.SX_CMD_RESULT code).find 0x30 7
  if cmd = 1 ∨ cmd = 2 then
    if L.active ∧ L.sxInUse then refuse 2 else (L.set Reg.SX_CMD_RESULT 0).onSx fun x => { x with pendCmd := some cmd }
  else if cmd = 3 then
    if !L.attConfigured then refuse 3 else (L.set Reg.SX_CMD_RESULT 0).onSx fun x => { x with pendCmd := some 3 }
  else refuse 1

/-- RESTART_ACQ (R300). -/
def execRestartAcq (l : LaneId) (tag : Nat) (s : State) : Out := onLane l (fun L => L.atReg Reg.SX_CMD_CMD.addr fun L => L.sxCmd tag 1) s
/-- COLD_RESTART (R300). -/
def execColdRestart (l : LaneId) (tag : Nat) (s : State) : Out := onLane l (fun L => L.atReg Reg.SX_CMD_CMD.addr fun L => L.sxCmd tag 2) s
/-- REFIX_ATT (R291, R300). -/
def execRefixAtt (l : LaneId) (tag : Nat) (s : State) : Out := onLane l (fun L => L.atReg Reg.SX_CMD_CMD.addr fun L => L.sxCmd tag 3) s

/-- The exclusion registers: GPS, GAL0, GAL1, BDS0, BDS1. -/
def exclReg (i : Nat) : Fld :=
  if i = 0 then Reg.SX_EXCL_GPS_MASK else if i = 1 then Reg.SX_EXCL_GAL0_MASK else if i = 2 then Reg.SX_EXCL_GAL1_MASK
  else if i = 3 then Reg.SX_EXCL_BDS0_MASK else Reg.SX_EXCL_BDS1_MASK

/-- SX_EXCL_WRITE (R288): the mask of register `i` is written; the next strobe takes it. -/
def execSxExclWrite (l : LaneId) (i mask : Nat) (s : State) : Out :=
  onLane l (fun L => if i < 5 then L.atReg (exclReg i).addr fun L => L.set (exclReg i) mask else L) s

/-- ANT_DELAY_CHANGED (R288): a new delay applies in this epoch. -/
def execAntDelayChanged (l : LaneId) (k : Nat) (s : State) : Out :=
  onLane l (fun L =>
    if L.sx.delayNew.getD k false then (L.onSx fun x => { x with delayNew := modAt x.delayNew k fun _ => false }).find (0x31 + k) 3 else L) s

/-! ### Attitude state (R290, R291) -/

/-- Attitude leaves FIXED, or a search, for a state (R290, R291): the integers go; leaving FIXED is an event, and a return to FLOAT is
counted. -/
def Lane.attTo (L : Lane) (st : Nat) : Lane :=
  let was := L.sx.att
  let L := L.onSx fun x => { x with att := st, run12 := 0, run13 := 0, ints12 := [], ints13 := [], bad12 := 0, bad13 := 0, ref := none }
  let L := L.set Reg.SX_STAT_ATT st
  if was = 2 then
    ((((if st = 1 then L.incSat Reg.SX_CNT_REFIX else L)).find 0x30 3).set Reg.SX_ATT_SIG_HDG 0xFFFF).set Reg.SX_ATT_SIG_RP 0xFFFF
  else L

/-- Attitude falls to FLOAT (R291). -/
def Lane.attFall (L : Lane) : Lane := L.attTo (if L.sx.att = 0 then 0 else 1)

/-- ATT_FIXED (R290): both baselines have met the conditions with the same integers in 3 epochs in a row. -/
def execAttFixed (l : LaneId) (s : State) : Out :=
  onLane l (fun L =>
    if L.sx.att = 1 ∧ 3 ≤ L.sx.run12 ∧ 3 ≤ L.sx.run13 then
      ((L.onSx fun x => { x with att := 2, bad12 := 0, bad13 := 0 }).set Reg.SX_STAT_ATT 2).find 0x30 2
    else L) s

/-- BASELINE_FAULT (R291). -/
def execBaselineFault (l : LaneId) (s : State) : Out :=
  onLane l (fun L =>
    if L.sx.att = 2 ∧ (3 ≤ L.sx.bad12 ∨ 3 ≤ L.sx.bad13) then ((L.attFall.setb Reg.SX_FAULT_BASELINE true).find 0x30 6) else L) s

/-- Every channel IDLE and acquisition begins again; the data stay (R281, R300). -/
def Lane.sxDrop (L : Lane) : Lane :=
  let slips := fun (k : Nat) => ((L.sx.chans.drop (72 * k)).take 72).any fun c => decide (c.st = .phaseLock) && c.usedAtt
  let M := L.onSx fun x =>
    { x with chans := x.chans.map fun c => { slips := if c.st = .phaseLock then min 255 (c.slips + 1) else c.slips }, search := none, open_ := false, caps := [], strobeDue := false }
  let M := forUpTo 3 (fun k (M : Lane) => M.findIf (slips k) (0x31 + k) 2) M
  (((M.attTo 0).incSat Reg.SX_CNT_RESTARTS).find 0x30 5).showAcq

/-! ### The epoch latch (R277, R278, R280) -/

/-- The Sextant at a tick start of `dt` ns; `epoch`: the tick begins a GNSS epoch. -/
def Lane.sxTick (L : Lane) (dt : Rat) (epoch : Bool) : Lane :=
  let L := if L.variant = .kx960 then L.onSx fun x => { x.gainTick dt with strobeTick := false } else L
  if !L.sxOn then L.onSx fun x => { x with strobeDue := false, partialEpoch := x.partialEpoch && !epoch }
  else
    let paused := L.bankPaused
    let L := L.onSx fun x =>
      { x with chans := x.chans.map fun c => { c with lockNs := if c.locked then c.lockNs + dt else 0, phaseNs := if c.st = .phaseLock then c.phaseNs + dt else 0,
                                                      pullNs := if c.st = .pullIn then c.pullNs + dt else 0 },
               sats := x.sats.map fun d => { d with singleNs := d.singleNs + dt, researchNs := d.researchNs + dt },
               passNs := if x.search.isSome ∧ !paused then x.passNs + dt else x.passNs, askAge := x.askAge + 1 }
    let silent (k : Nat) : Bool := L.otherTracks k && !((L.sx.chans.drop (72 * k)).take 72).any SxChan.locked
    let L := L.onSx fun x => { x with noSignal := mapIdxFrom 0 (fun k t => if silent k then t + dt else 0) x.noSignal }
    let L := forUpTo 3 (fun k L => if silent k then L else L.setb (Reg.ANT_STAT_NO_SIGNAL (antPage k)) false) L
    let L := match L.sx.toChron with
      | some o => (L.offset (.gnss L.sx.tL (L.sx.tL - o.1 - gpsEpoch) o.2) L.now).onSx fun x => { x with toChron := none }
      | none => L
    if epoch then L.onSx fun x => { x with strobeDue := !x.partialEpoch, withheld := x.partialEpoch, partialEpoch := false } else L

/-- An epoch gives no samples (R280). -/
def Lane.epochLost (L : Lane) : Lane := (L.incSat Reg.SX_CNT_SKIPPED).find 0x30 4

/-- EPOCH_SKIPPED (R280): GE has not finished by the next strobe, or R277 withheld the strobe. -/
def Lane.epochSkipped (L : Lane) : Lane :=
  if L.sx.withheld then (L.onSx fun x => { x with withheld := false }).epochLost
  else if L.sx.open_ ∧ L.sx.strobeDue then (L.onSx fun x => { x with open_ := false }).epochLost
  else L

/-- EPOCH_SKIPPED (R280). -/
def execEpochSkipped (l : LaneId) (s : State) : Out := onLane l Lane.epochSkipped s

/-- Every channel captured (R278): its loops run on, and its measurements go back to t_L; one not captured has none. -/
def Lane.capture (L : Lane) (lag : Rat) (caps : List StrobeCap) : Lane :=
  let c := L.xc
  let cap (i : Nat) : Option StrobeCap := caps.find? fun m => decide (m.chan = i)
  let chans := mapIdxFrom 0 (fun i x => match (if x.st = .idle then none else cap i) with | some m => x.track c m | none => x) L.sx.chans
  let meas := (caps.filter fun m => (chans.getD m.chan {}).locked).map fun m => (chans.getD m.chan {}).measure m lag
  L.onSx fun x =>
    { x with caps := meas, chans := mapIdxFrom 0 (fun i x => { x with last := (meas.find? fun m => decide (m.chan = i)).map fun m => (m.code, m.carr) }) chans }

/-- EPOCH_STROBE (R277, R278): the captures of all tracking channels at an edge `lag` eighths of a ns after the strobe; accepted
commands, masks and delays take effect. -/
def Lane.epochStrobe (L : Lane) (lag : Nat) (caps : List StrobeCap) : Lane :=
  if !(L.sxOn && L.sx.strobeDue) then L
  else
    let L := if L.sx.open_ then L.epochLost else L
    let L := match L.sx.pendCmd with
      | some 1 => L.sxDrop
      | some 2 => (L.sxDrop.onSx fun x => { x with sats := [], posKnown := false, freqKnown := false, fixed := false, gpsTime := false, last := none }).setb Reg.SX_STAT_ALMANAC false
      | some _ => L.attFall
      | none => L
    let d := (List.range 3).map fun k => L.get (Reg.ANT_DELAY_DELAY (antPage k))
    let L := L.onSx fun x =>
      { x with pendCmd := none, exclNow := (List.range 5).map fun i => L.get (exclReg i), delayNow := d,
               delayNew := (x.delayNow.zip d).map fun p => decide (p.1 ≠ p.2), strobes := (x.strobes + 1) % 2 ^ 32, strobeDue := false }
    (L.onSx fun x => { x with open_ := true, tL := L.now, strobeTick := true }).capture (lag / 8000000000) caps

/-- EPOCH_STROBE (R277). -/
def execEpochStrobe (l : LaneId) (e : StrobeSet) (s : State) : Out := onLane l (fun L => L.epochStrobe e.lag e.caps) s

/-! ### Positions (R282-R287) -/

/-- Speed of light, m per ns; carrier wavelengths, m. -/
def lightNs : Rat := 299792458 / 1000000000
def waveUpper : Rat := 299792458 / 1575420000
def waveLower : Rat := 299792458 / 1176450000

/-- A satellite is excluded by the masks in force (R288, R300). -/
def Lane.excluded (L : Lane) (s : Sat) : Bool :=
  let m (i : Nat) : Nat := L.sx.exclNow.getD i 0
  match s.sys with
  | .gps => testBit (m 0) (s.prn - 1)
  | .gal => if s.prn ≤ 32 then testBit (m 1) (s.prn - 1) else testBit (m 2) (s.prn - 33)
  | .bds => if s.prn ≤ 32 then testBit (m 3) (s.prn - 1) else testBit (m 4) (s.prn - 33)

/-- A satellite's observation at one antenna: range, σ², satellite position. -/
structure SatObs where
  sat : Sat
  rng : Rat
  var : Rat
  pos : Rat × Rat × Rat
deriving DecidableEq, Repr, Inhabited

/-- The last capture of a channel. -/
def Lane.capOf (L : Lane) (c : Nat) : Option Capture := L.sx.caps.find? fun x => decide (x.chan = c)

/-- The channel of antenna k that tracks a satellite on a band. -/
def Lane.chanOf (L : Lane) (k : Nat) (s : Sat) (lower : Bool) : Option Nat :=
  ((List.range 72).map (72 * k + ·)).find? fun c => decide ((L.sxc c).sat = some s) && decide ((L.sxc c).lower = lower) && (L.sxc c).locked

/-- Code range of a capture with the cable delay taken out (R284). -/
def Lane.codeRange (L : Lane) (c : Nat) (x : Capture) : Rat :=
  x.code - lightNs * (L.sx.delayNow.getD (antOf c) 0 : Nat) / 4

/-- The satellites usable in the position of antenna k with their channels and captures (R282). -/
def Lane.usable (L : Lane) (k : Nat) : List (Sat × Nat × Nat × Capture × Capture) :=
  let sats := ((((L.sx.chans.drop (72 * k)).take 72).filter fun c => c.locked && !c.lower).filterMap SxChan.sat).eraseDups
  sats.filterMap fun s =>
    match L.chanOf k s false, L.chanOf k s true with
    | some u, some v =>
      match L.capOf u, L.capOf v with
      | some a, some b =>
        let d := L.satData s
        if L.xc.enabled s.sys ∧ !L.excluded s ∧ d.any (fun d => d.eph && d.healthy) ∧ (L.xc.elevMask : Rat) ≤ a.elev ∧ 1000000000 ≤ (L.sxc u).lockNs ∧
            1000000000 ≤ (L.sxc v).lockNs ∧ (L.xc.cn0Use : Rat) ≤ a.cn0 ∧ (L.xc.cn0Use : Rat) ≤ b.cn0 then some (s, u, v, a, b) else none
      | _, _ => none
    | _, _ => none

/-- Ionosphere-free combination (R283). -/
def ionoFree (a b : Rat) : Rat := 2260604 / 1000000 * a - 1260604 / 1000000 * b

/-- Smoothing of a satellite's range (R283): the channel's new smoothing state. -/
def smoothed (old : Option (Rat × Rat × Nat)) (rho phi win : Rat) : Rat × Rat × Nat :=
  match old with
  | none => (rho, phi, 1)
  | some (r, p, n) =>
    let m := min ((n + 1 : Nat) : Rat) (max 1 (win / (5 / 100)))
    (rho / m + (m - 1) / m * (r + (phi - p)), phi, n + 1)

/-- σ² of a range (R285). -/
def SextantChart.rangeVar (c : SextantChart) (el cn0 : Rat) : Rat :=
  let s := Config.sin (rad el)
  c.sigmaUere * c.sigmaUere / (s * s) * max 1 (Config.pow10 ((40 - cn0) / 10))

/-- Systems taking part: at least two satellites (R282). -/
def systemsOf (l : List SatObs) : List GnssSys :=
  [GnssSys.gps, .gal, .bds].filter fun g => decide (2 ≤ (l.filter fun o => decide (o.sat.sys = g)).length)

/-- Geometric distance. -/
def dist3 (a b : Rat × Rat × Rat) : Rat :=
  Config.sqrt ((a.1 - b.1) * (a.1 - b.1) + (a.2.1 - b.2.1) * (a.2.1 - b.2.1) + (a.2.2 - b.2.2) * (a.2.2 - b.2.2))

/-- A position solution: position, clock of the reference system and offsets of the others in m by system, covariance, residuals. -/
structure PosSol where
  pos : Rat × Rat × Rat
  clocks : List (GnssSys × Rat)
  cov : Mat
  pdop : Rat
  res : List Rat
deriving DecidableEq, Repr, Inhabited

/-- The design row of an observation: the reference clock in column 3, an offset per further system (R285). -/
def designRow (p : Rat × Rat × Rat) (sys : List GnssSys) (o : SatObs) : Vec :=
  let r := dist3 o.pos p
  let u (a b : Rat) : Rat := if r = 0 then 0 else (b - a) / r
  [u o.pos.1 p.1, u o.pos.2.1 p.2.1, u o.pos.2.2 p.2.2, 1] ++ (sys.drop 1).map fun g => if o.sat.sys = g then 1 else 0

/-- One step of the weighted least squares from a state. -/
def lsqStep (sys : List GnssSys) (l : List SatObs) (x : Vec) : Option Vec :=
  let p := (vAt x 0, vAt x 1, vAt x 2)
  let H := l.map (designRow p sys)
  let clock (o : SatObs) : Rat := vAt x 3 + (match (sys.drop 1).findIdx? (fun g => decide (g = o.sat.sys)) with | some i => vAt x (4 + i) | none => 0)
  let r := l.map fun o => o.rng - dist3 o.pos p - clock o
  let W := l.map fun o => 1 / o.var
  let Ht := mT H
  let N := mMul Ht ((H.zip W).map fun e => vScale e.2 e.1)
  let b := mVec Ht ((r.zip W).map fun e => e.1 * e.2)
  (mSolve N b).map fun d => vAdd x d

/-- Repeats the step. -/
def lsqRun (sys : List GnssSys) (l : List SatObs) : Nat → Vec → Option Vec
  | 0, x => some x
  | n + 1, x => (lsqStep sys l x).bind (lsqRun sys l n)

/-- Weighted least squares (R285), eight steps from the last position (log entry 14). -/
def lsq (sys : List GnssSys) (l : List SatObs) (p0 : Rat × Rat × Rat) : Option PosSol :=
  match lsqRun sys l 8 ([p0.1, p0.2.1, p0.2.2] ++ sys.map fun _ => (0 : Rat)) with
  | none => none
  | some x =>
    let p := (vAt x 0, vAt x 1, vAt x 2)
    let H := l.map (designRow p sys)
    let W := l.map fun o => 1 / o.var
    match mInv (mMul (mT H) H), mInv (mMul (mT H) ((H.zip W).map fun e => vScale e.2 e.1)) with
    | some g, some c =>
      let clock (o : SatObs) : Rat := vAt x 3 + (match (sys.drop 1).findIdx? (fun s => decide (s = o.sat.sys)) with | some i => vAt x (4 + i) | none => 0)
      some { pos := p, clocks := mapIdxFrom 0 (fun i s => (s, vAt x (3 + i))) sys, cov := c, pdop := Config.sqrt (mAt g 0 0 + mAt g 1 1 + mAt g 2 2),
             res := l.map fun o => o.rng - dist3 o.pos p - clock o }
    | _, _ => none

/-- Σ (r/σ)² . -/
def PosSol.chi (s : PosSol) (l : List SatObs) : Rat := ((s.res.zip l).map fun e => e.1 * e.1 / e.2.var).sum

/-- The satellite with the largest |r|/σ. -/
def PosSol.worst (s : PosSol) (l : List SatObs) : Option Sat :=
  ((s.res.zip l).foldl (fun (b : Option (Sat × Rat)) e =>
    let v := e.1 * e.1 / e.2.var
    match b with
    | none => some (e.2.sat, v)
    | some c => if c.2 < v then some (e.2.sat, v) else some c) none).map Prod.fst

/-- A solution of at least the geometry of R282. -/
def SextantChart.solve (c : SextantChart) (l : List SatObs) (p0 : Rat × Rat × Rat) : Option (PosSol × List SatObs) :=
  let sys := systemsOf l
  let l := l.filter fun o => sys.contains o.sat.sys
  if sys = [] ∨ l.length < 3 + sys.length then none
  else (lsq sys l p0).bind fun s => if s.pdop ≤ c.pdopMax then some (s, l) else none

/-- Degrees of freedom of a solution. -/
def PosSol.dof (s : PosSol) (l : List SatObs) : Nat := l.length - (3 + s.clocks.length)

/-- The residual test (R285): the solution, or `none` where there is none, with whether the test failed. -/
def SextantChart.tested (c : SextantChart) (l : List SatObs) (p0 : Rat × Rat × Rat) : Option (PosSol × List SatObs) × Bool :=
  match c.solve l p0 with
  | none => (none, false)
  | some (s, u) =>
    if s.dof u = 0 ∨ s.chi u ≤ Config.chi2 (s.dof u) then (some (s, u), false)
    else if s.dof u < 2 then (none, true)
    else
      let l2 := u.filter fun o => decide (some o.sat ≠ s.worst u)
      match c.solve l2 p0 with
      | none => (none, true)
      | some (t, v) => if t.dof v = 0 ∨ t.chi v ≤ Config.chi2 (t.dof v) then (some (t, v), false) else (none, true)

/-- The position of antenna k in the epoch (R282-R286): solution registers, smoothing, samples. -/
def Lane.antPosition (L : Lane) (k : Nat) : Lane × Option PosSol :=
  let us := L.usable k
  let win := L.xc.smooth
  let rho (e : Sat × Nat × Nat × Capture × Capture) : Rat := ionoFree (L.codeRange e.2.1 e.2.2.2.1) (L.codeRange e.2.2.1 e.2.2.2.2)
  let phi (e : Sat × Nat × Nat × Capture × Capture) : Rat := ionoFree (waveUpper * e.2.2.2.1.carr) (waveLower * e.2.2.2.2.carr)
  let sm (e : Sat × Nat × Nat × Capture × Capture) : Rat × Rat × Nat :=
    let old := if (L.sxc e.2.1).slip ∨ (L.sxc e.2.2.1).slip then none else (L.sxc e.2.1).smooth
    smoothed old (rho e) (phi e) win
  let obs := us.map fun e => (⟨e.1, if 0 < win then (sm e).1 else rho e, L.xc.rangeVar e.2.2.2.1.elev (min e.2.2.2.1.cn0 e.2.2.2.2.cn0), e.2.2.2.1.pos⟩ : SatObs)
  let r := L.xc.tested obs (L.sx.pos.getD k (0, 0, 0))
  let L := us.foldl (fun L e => L.onSxc e.2.1 fun c => { c with smooth := if 0 < win then some (sm e) else none }) L
  let was := L.get (Reg.ANT_SOLN_STATE (antPage k))
  let used (s : Sat) : Bool := match r.1 with | some p => p.2.any (fun o => decide (o.sat = s)) | none => false
  let L := us.foldl (fun L e => (L.onSxc e.2.1 fun c => { c with usedPos := used e.1 }).onSxc e.2.2.1 fun c => { c with usedPos := used e.1 }) L
  let cnt (g : GnssSys) : Nat := match r.1 with | some p => (p.2.filter fun o => decide (o.sat.sys = g)).length | none => 0
  let L := L.setAll [(Reg.ANT_SOLN_STATE (antPage k), if r.1.isSome then 1 else if r.2 then 2 else 0), (Reg.ANT_SOLN_N_GPS (antPage k), cnt .gps),
    (Reg.ANT_SOLN_N_GAL (antPage k), cnt .gal), (Reg.ANT_SOLN_N_BDS (antPage k), cnt .bds)]
  match r.1 with
  | none =>
    let L := ((L.set (Reg.ANT_SOLN_PDOP (antPage k)) 0xFF).set (Reg.ANT_POS_SIG_HOR (antPage k)) 0xFFFF).set (Reg.ANT_POS_SIG_VER (antPage k)) 0xFFFF
    (L.findIf (decide (was = 1)) 0x30 1, none)
  | some (s, _) =>
    let e := ellipse (mAt s.cov 0 0) (mAt s.cov 0 1) (mAt s.cov 1 1)
    let L := L.setScaled (Reg.ANT_SOLN_PDOP (antPage k)) s.pdop (1 / 10)
    let L := (L.setiScaled (Reg.ANT_POS_N_POS (antPage k)) s.pos.1 (1 / 1000)).setiScaled (Reg.ANT_POS_E_POS (antPage k)) s.pos.2.1 (1 / 1000)
    let L := L.setiScaled (Reg.ANT_POS_D_POS (antPage k)) s.pos.2.2 (1 / 1000)
    let L := (L.setScaled (Reg.ANT_POS_SIG_HOR (antPage k)) e.1 (1 / 100)).setScaled (Reg.ANT_POS_SIG_VER (antPage k)) (Config.sqrt (mAt s.cov 2 2)) (1 / 100)
    let L := L.onSx fun x => { x with pos := modAt x.pos k fun _ => s.pos, posKnown := true, fixed := true, freqKnown := true }
    let put (L : Lane) (n : Nat) : Lane := match L.rc.slot n with
      | some c => if c.source = 1 ∧ c.ant = k then
          L.intakePut false ⟨n, L.now, 0, some L.sx.tL, none, true, [(0x15, s.pos.1), (0x16, s.pos.2.1), (0x0C, e.1), (0x0D, e.1)]⟩
        else L
      | none => L
    ((List.range 12).foldl put (L.findIf (decide (was ≠ 1)) 0x30 0), some s)

/-- The clock offset of the epoch (R287), and the inter-system offsets. -/
def Lane.clockOffset (L : Lane) (sols : List (Option PosSol)) : Lane :=
  match sols.findIdx? fun s => s.isSome with
  | none => (L.set Reg.SX_TIME_OFS_OFS 0x80000000).set Reg.SX_STAT_TIME_ANT 0
  | some k =>
    match sols.getD k none with
    | none => L
    | some s =>
      let b := match s.clocks with | (_, m) :: _ => m / lightNs | [] => 0
      let sigma := Config.sqrt (mAt s.cov 3 3) / lightNs
      let ofs (g : GnssSys) : Rat := match (s.clocks.drop 1).find? fun p => decide (p.1 = g) with | some p => p.2 / lightNs | none => 0
      let L := ((L.setiSat Reg.SX_TIME_OFS_OFS (max (-0x7FFFFFFF) (codeOf b (1 / 10)))).set Reg.SX_STAT_TIME_ANT (k + 1))
      let L := (L.setiScaled Reg.SX_ISB_GAL (ofs .gal) 1).setiScaled Reg.SX_ISB_BDS (ofs .bds) 1
      L.onSx fun x => { x with toChron := some (b, sigma) }

/-! ### Attitude in an epoch (R290-R292) -/

/-- Length of a vector. -/
def len3 (v : Rat × Rat × Rat) : Rat := dist3 v (0, 0, 0)

/-- A satellite's band is usable in attitude on an antenna (R276, R288, R290). -/
def Lane.attUsable (L : Lane) (k : Nat) (s : Sat) (lower : Bool) : Bool :=
  !L.excluded s && match L.chanOf k s lower with
    | some c => let x := L.sxc c; decide (x.st = .phaseLock) && !x.half && decide ((L.xc.elevMask : Rat) < x.elev)
    | none => false

/-- The work on the baseline from ANT1 to antenna j with only the double differences of usable satellites (R290). -/
def Lane.usableDds (L : Lane) (j : Nat) (b : BaseSearch) : BaseSearch :=
  { b with dds := b.dds.filter fun d => L.attUsable 0 d.sat d.lower && L.attUsable j d.sat d.lower }

/-- A satellite's band slipped on an antenna in this epoch, or is not tracked there. -/
def Lane.attSlip (L : Lane) (k : Nat) (s : Sat) (lower : Bool) : Bool :=
  match L.chanOf k s lower with
  | some c => (L.sxc c).slip || decide ((L.sxc c).st ≠ .phaseLock)
  | none => true

/-- A double difference of the baseline to antenna j slipped. -/
def Lane.ambSlip (L : Lane) (j : Nat) (a : Amb) : Bool := L.attSlip 0 a.sat a.lower || L.attSlip j a.sat a.lower

/-- The highest of some satellites. -/
def Lane.highest (L : Lane) (l : List Sat) : Option Sat :=
  (l.foldr insElevOf []).head?.map Prod.fst
where
  insElevOf (s : Sat) (r : List (Sat × Rat)) : List (Sat × Rat) := insElev (s, ((L.satData s).bind SatData.elev).getD 0) r

/-- The reference satellite of a search (R290): the highest usable on all three antennas. -/
def Lane.refSat (L : Lane) : Option Sat :=
  L.highest ((L.sx.chans.filterMap SxChan.sat).eraseDups.filter fun s => L.attUsable 0 s false && L.attUsable 1 s false && L.attUsable 2 s false)

/-- Held integers re-expressed about a new reference satellite (R291): a band without it is dropped. -/
def rereference (s : Sat) (l : List Amb) : List Amb :=
  (l.filter fun a => decide (a.sat ≠ s)).filterMap fun a =>
    (l.find? fun r => decide (r.sat = s) && decide (r.lower = a.lower)).map fun r => { a with n := a.n - r.n }

/-- A rising satellite's integer (R291): its double difference less the predicted one, within 0.15 cycle of an integer. -/
def DblDiff.fix (d : DblDiff) : Option Amb :=
  let v := d.meas - d.pred
  let n := (v + 1 / 2).floor
  if absQ (v - n) ≤ 15 / 100 then some ⟨d.sat, d.lower, n⟩ else none

/-- Held integers with those of satellites that have risen or whose slip has ended (R291). -/
def Lane.withRisen (L : Lane) (j : Nat) (b : BaseSearch) (held : List Amb) : List Amb :=
  held ++ (b.dds.filter fun d => !(held.any fun a => decide (a.sat = d.sat) && decide (a.lower = d.lower))
    && !L.attSlip 0 d.sat d.lower && !L.attSlip j d.sat d.lower).filterMap DblDiff.fix

/-- The held integers of an epoch (R291): slips dropped, a new reference where the reference satellite slipped, risen ones added. -/
def Lane.holdInts (L : Lane) (e : EpochIn) : Lane :=
  let h12 := L.sx.ints12.filter fun a => !L.ambSlip 1 a
  let h13 := L.sx.ints13.filter fun a => !L.ambSlip 2 a
  let lost := L.sx.ref.any fun s => L.attSlip 0 s false || L.attSlip 1 s false || L.attSlip 2 s false
  let next := L.highest ((h12.filter fun a => !a.lower && h13.any fun b => decide (b.sat = a.sat)).map Amb.sat)
  let r : Option Sat × List Amb × List Amb := match lost, next with
    | true, some s => (some s, rereference s h12, rereference s h13)
    | _, _ => (L.sx.ref, h12, h13)
  L.onSx fun x => { x with ref := r.1, ints12 := L.withRisen 1 e.b12 r.2.1, ints13 := L.withRisen 2 e.b13 r.2.2 }

/-- Channels used in attitude: those of the held double differences and of the reference satellite, while FIXED. -/
def Lane.markAtt (L : Lane) : Lane :=
  let y := L.sx
  let inn (l : List Amb) (x : SxChan) : Bool := l.any fun a => decide (some a.sat = x.sat) && decide (a.lower = x.lower)
  let used (i : Nat) (x : SxChan) : Bool :=
    decide (y.att = 2) && decide (x.st = .phaseLock) && (decide (x.sat = y.ref) && x.sat.isSome || (decide (antOf i ≠ 2) && inn y.ints12 x) || (decide (antOf i ≠ 1) && inn y.ints13 x))
  L.onSx fun z => { z with chans := mapIdxFrom 0 (fun i x => { x with usedAtt := used i x }) z.chans }

/-- Epochs in a row in which a baseline meets R290 with the same integers. -/
def SextantChart.runOf (c : SextantChart) (b : BaseSearch) (body : Rat × Rat × Rat) (ints : List Amb) (run : Nat) : Nat :=
  if 4 ≤ b.dds.length ∧ c.ratio ≤ b.ratio ∧ absQ (len3 b.vec - len3 body) ≤ c.baseTol then (if b.ints = ints then run + 1 else 1) else 0

/-- The attitude of an epoch. -/
def Lane.epochAttitude (L : Lane) (e : EpochIn) : Lane :=
  match L.xc.b12, L.xc.b13 with
  | some v12, some v13 =>
    let c := L.xc
    let e := { e with b12 := L.usableDds 1 e.b12, b13 := L.usableDds 2 e.b13 }
    let enough := decide (4 ≤ e.b12.dds.length) && decide (4 ≤ e.b13.dds.length)
    let err (b : BaseSearch) (v : Rat × Rat × Rat) : Rat := len3 b.vec - len3 v
    let L := (L.setiScaled Reg.SX_ATT_BASE_B12 (err e.b12 v12) (1 / 10000)).setiScaled Reg.SX_ATT_BASE_B13 (err e.b13 v13) (1 / 10000)
    if L.sx.att = 2 then
      let broken (j : Nat) (l : List Amb) : Bool := decide (l.length < 2 * (l.filter (L.ambSlip j)).length)
      if broken 1 L.sx.ints12 || broken 2 L.sx.ints13 then L.attFall
      else if !enough then L.attTo 0
      else
        let L := L.holdInts e
        let L := L.onSx fun x => { x with vecs := some (e.b12.vec, e.b13.vec) }
        let bad (b : BaseSearch) (v : Rat × Rat × Rat) (n : Nat) : Nat := if c.baseTol < absQ (err b v) then n + 1 else 0
        let L := L.onSx fun x => { x with bad12 := bad e.b12 v12 x.bad12, bad13 := bad e.b13 v13 x.bad13 }
        let a := Config.wahba [v12, v13, e.b12.vec, e.b13.vec] [e.b12.weight, e.b13.weight]
        let h := deg360 a.1
        let L := L.set Reg.SX_ATT_HDG_HDG ((codeOf h (1 / 10000)) % 3600000).toNat
        let L := (L.setiScaled Reg.SX_ATT_RP_ROLL a.2.2 (1 / 100)).setiScaled Reg.SX_ATT_RP_PITCH a.2.1 (1 / 100)
        let sig (L : Lane) (f : Fld) (v : Rat) : Lane := L.set f (min 0xFFFE (codeOf v (1 / 1000)).toNat)
        let L := sig (sig L Reg.SX_ATT_SIG_HDG e.sigHdg) Reg.SX_ATT_SIG_RP e.sigRp
        let put (L : Lane) (n : Nat) : Lane := match L.rc.slot n with
          | some k => if k.source = 2 then
              L.intakePut false ⟨n, L.now, 0, some L.sx.tL, none, true, [(0x04, h), (0x05, a.2.2), (0x06, a.2.1), (0x0E, e.sigHdg)]⟩
            else L
          | none => L
        (List.range 30).foldl put L
    else
      let st := if enough then 1 else 0
      (L.onSx fun x => { x with att := st, run12 := c.runOf e.b12 v12 x.ints12 x.run12, run13 := c.runOf e.b13 v13 x.ints13 x.run13,
                                ints12 := e.b12.ints, ints13 := e.b13.ints, ref := L.refSat }).set Reg.SX_STAT_ATT st
  | _, _ => L.attTo 0

/-- The window and the channel summaries of antenna k (R301, R303). -/
def Lane.showAnt (L : Lane) (k : Nat) : Lane :=
  let one (i : Nat) (L : Lane) : Lane :=
    let x := L.sxc (72 * k + i)
    match (if x.st = .idle then none else x.sat) with
    | none => L.clear (Reg.ANT_CH_w (antPage k) i)
    | some s =>
      L.setAll [(Reg.ANT_CH_SYS (antPage k) i, s.sys.code), (Reg.ANT_CH_PRN (antPage k) i, s.prn), (Reg.ANT_CH_BAND (antPage k) i, if x.lower then 1 else 0),
        (Reg.ANT_CH_STATE (antPage k) i, x.st.code), (Reg.ANT_CH_USED_POS (antPage k) i, if x.usedPos then 1 else 0),
        (Reg.ANT_CH_USED_ATT (antPage k) i, if x.usedAtt then 1 else 0), (Reg.ANT_CH_SLIP (antPage k) i, if x.slip then 1 else 0),
        (Reg.ANT_CH_ELEV (antPage k) i, (codeOf (max 0 x.elev) 1).toNat), (Reg.ANT_CH_CN0 (antPage k) i, min 1023 (codeOf (max 0 x.cn0) (1 / 10)).toNat)]
  forUpTo 72 one L

/-- The measurement window of antenna k for the channel that ANT_MEAS_SEL chooses (R301, R303). -/
def Lane.showWindow (L : Lane) (k : Nat) : Lane :=
  let c := 72 * k + L.get (Reg.ANT_MEAS_SEL_CH (antPage k))
  let x := L.sxc c
  let p := antPage k
  match x.sat, L.capOf c with
  | some s, some m =>
    let L := L.setAll [(Reg.ANT_MEAS_ID_EPOCH p, L.sx.strobes % 65536), (Reg.ANT_MEAS_ID_SYS p, s.sys.code), (Reg.ANT_MEAS_ID_PRN p, s.prn),
      (Reg.ANT_MEAS_ID_BAND p, if x.lower then 1 else 0), (Reg.ANT_MEAS_ID_STATE p, x.st.code)]
    let L := L.set (Reg.ANT_MEAS_CODE_RANGE p) (if x.locked ∧ L.sx.gpsTime then ((codeOf (L.codeRange c m) (1 / 100)) % (2 ^ 32 : Int)).toNat else 0)
    let L := (L.seti (Reg.ANT_MEAS_CARR_PHASE p) (codeOf m.carr (1 / 256))).setiScaled (Reg.ANT_MEAS_DOP_DOPPLER p) m.dop (1 / 100)
    L.setAll [(Reg.ANT_MEAS_QUAL_CN0 p, min 1023 (codeOf m.cn0 (1 / 10)).toNat), (Reg.ANT_MEAS_QUAL_LOCK p, min 1023 (x.phaseNs / 1000000000).floor.toNat),
      (Reg.ANT_MEAS_QUAL_SLIPS p, x.slips), (Reg.ANT_MEAS_QUAL_HALF_CYCLE p, if x.half then 1 else 0), (Reg.ANT_MEAS_QUAL_SLIP p, if x.slip then 1 else 0),
      (Reg.ANT_MEAS_QUAL_EPH p, if (L.satData s).any SatData.eph then 1 else 0), (Reg.ANT_MEAS_QUAL_SMOOTHED p, if x.smooth.isSome then 1 else 0)]
  | _, _ => L.clearAll [Reg.ANT_MEAS_ID_w p, Reg.ANT_MEAS_CODE_w p, Reg.ANT_MEAS_CARR_w p, Reg.ANT_MEAS_DOP_w p, Reg.ANT_MEAS_QUAL_w p]

/-- EPOCH_SOLUTION (R279): GE finishes the open epoch. -/
def Lane.epochSolution (L : Lane) (e : EpochIn) : Lane :=
  if !(L.sxOn && L.sx.open_) then L
  else
    let take (L : Lane) (m : Capture) : Lane :=
      let L := L.onSxc m.chan fun c => { c with code := m.code, carr := m.carr, dop := m.dop, cn0 := m.cn0, elev := m.elev, usedPos := false }
      let L := match (L.sxc m.chan).sat with
        | some s => L.onSat s fun d => { d with elev := some m.elev }
        | none => L
      if m.diverged ∧ (L.sxc m.chan).locked then L.cycleSlip m.chan else L
    let L := L.sx.caps.foldl take L
    let r0 := L.antPosition 0
    let r1 := r0.1.antPosition 1
    let r2 := r1.1.antPosition 2
    let L := ((r2.1.clockOffset [r0.2, r1.2, r2.2]).epochAttitude e).markAtt
    let L := L.setAll [(Reg.SX_EPOCH_COUNT, L.sx.strobes), (Reg.SX_LATCH_SEC_LO_SEC, secOf L.sx.tL), (Reg.SX_LATCH_SEC_HI_SEC, secOf L.sx.tL / 2 ^ 32),
      (Reg.SX_LATCH_NS_NS, nsOf L.sx.tL)]
    let L := if e.intime ∧ L.sx.strobeTick then L else L.incSat Reg.SX_CNT_LATE_SOL
    let L := forUpTo 3 (fun k L => (L.showAnt k).showWindow k) L
    (L.onSx fun x => { x with open_ := false, chans := x.chans.map fun c => { c with slip := false } }).showAcq

/-- EPOCH_SOLUTION (R279). -/
def execEpochSolution (l : LaneId) (e : EpochIn) (s : State) : Out := onLane l (fun L => L.epochSolution e) s

/-! ### Start, coast, failure (R281, R296, R297) -/

/-- The Sextant at the entry into COAST (R281). -/
def Lane.sxCoast (L : Lane) : Lane :=
  if L.variant = .kx960 ∧ !L.sx.failed ∧ L.sx.run then L.sxDrop.onSx fun x => { x with run := false } else L

/-- The GNSS sampling domain restarts. -/
def Lane.sxRestart (L : Lane) : Lane := if L.variant = .kx960 then L.onSx fun x => { x with run := true } else L

/-- GE is declared failed (R296). -/
def Lane.geFailed (L : Lane) : Lane :=
  if L.variant ≠ .kx960 then L
  else
    let L := L.onSx fun x =>
      { x with failed := true, chans := x.chans.map SxChan.freed, search := none, open_ := false, caps := [], strobeDue := false, toChron := none, pendCmd := none }
    let L := ((L.attTo 0).setAll [(Reg.SX_STAT_GE_FAILED, 1), (Reg.SX_FAULT_GE_LOST, 1), (Reg.SX_STAT_TIME_ANT, 0), (Reg.SX_TIME_OFS_OFS, 0x80000000)]).showAcq
    forUpTo 3 (fun k L =>
      let L := L.findIf (decide (L.get (Reg.ANT_SOLN_STATE (antPage k)) = 1)) 0x30 1
      let L := L.setAll [(Reg.ANT_SOLN_w (antPage k), 0xFF), (Reg.ANT_POS_SIG_HOR (antPage k), 0xFFFF), (Reg.ANT_POS_SIG_VER (antPage k), 0xFFFF)]
      let L := forUpTo 72 (fun i L => L.clear (Reg.ANT_CH_w (antPage k) i)) L
      L.clearAll [Reg.ANT_MEAS_ID_w (antPage k), Reg.ANT_MEAS_CODE_w (antPage k), Reg.ANT_MEAS_CARR_w (antPage k), Reg.ANT_MEAS_DOP_w (antPage k),
        Reg.ANT_MEAS_QUAL_w (antPage k)]) L

/-- The Sextant section at a lane start or when it becomes current (R297). -/
def Lane.sxChart (L : Lane) (start : Bool) : Lane :=
  if L.variant ≠ .kx960 then L
  else
    let c := L.xc
    let b (v : Bool) (k : Nat) : Nat := if v then k else 0
    let L := L.setAll [(Reg.SX_CFG_SYS, b c.gps 1 + b c.gal 2 + b c.bds 4), (Reg.SX_CFG_CN0_USE, c.cn0Use), (Reg.SX_CFG_ELEV_MASK, c.elevMask)]
    if start then
      let L := forUpTo 3 (fun k L => L.set (Reg.ANT_DELAY_DELAY (antPage k)) (c.antDelay.getD k 0)) L
      L.onSx fun _ => { run := true, delayNow := (List.range 3).map fun k => c.antDelay.getD k 0 }
    else L.onSx fun x => { x with chans := x.chans.map fun k => match k.sat with
      | some s => if c.enabled s.sys then k else k.freed
      | none => k }

/-- CNT_CLR of page 0x30 and of an antenna page (R299, R302). -/
def Lane.sxCntClr (L : Lane) : Lane := L.set Reg.SX_CNT_w 0
def Lane.antCntClr (L : Lane) (k : Nat) : Lane :=
  L.onSx fun x => { x with chans := mapIdxFrom 0 (fun i c => if antOf i = k then { c with slips := 0 } else c) x.chans }

end Sys2Proof.Machine
end

