-- ==== Sys2Proof/Machine/Hooks.lean ====
section
/-! DEFINITION. What a coast and its end, a supply and the throttle do to the units of a lane. -/

namespace Sys2Proof.Machine

open Sys2Proof

/-- The units of the lane at the entry into COAST (15 R553): the chronometer's state, the analogue chain, the Sextant, CAN
and the serial lines. -/
def Lane.coastHooks (L : Lane) : Lane := ((L.chrCoast.anaStop.sxCoast.canCoast).serStop).setb Reg.TICK_STAT_COASTING true

/-- The units of the lane at the restart of the domains after a coast (15 R551, R552). -/
def Lane.restartHooks (L : Lane) : Lane := ((L.anaStart.sxRestart).serResume).setb Reg.TICK_STAT_COASTING false

/-- The analogue chain stops with ANA_IN (16 R564). -/
def Lane.anaStopHook (L : Lane) : Lane := L.anaStop

/-- The ADC domain restarts at the return of ANA_IN (16 R565). -/
def Lane.anaRestartHook (L : Lane) : Lane := L.anaStart

/-- The acquisition bank follows the throttle level (16 R574, 07 R271). -/
def Lane.bankHook (L : Lane) : Lane := if L.sxOn then L.showAcq else L

/-- The MRAM window closes: LOG_WINDOW_HELD is raised (14 R530) and an open Chart transfer is abandoned (16 R578). -/
def Lane.windowClosedHook (L : Lane) : Lane := (L.find 0x5C 6).chartAbandon

end Sys2Proof.Machine
end

