-- ==== Sys2Proof/Machine/Power.lean ====
section
/-! DEFINITION. Supplies, temperatures, throttling, the MRAM write window, snapshots (16_power_and_thermal; 01 R42). -/

namespace Sys2Proof.Machine

open Sys2Proof

/-- The thermal section of the Chart. -/
def Lane.thermChart (L : Lane) : ThermChart := L.chart.now.therm

/-- A supply input is in limits (R563). -/
def Lane.supplyOk (L : Lane) (i : Supply) : Bool := L.get (Reg.PWR_IN_STATE i.idx) = 2

/-- STAT.SUPPLY_OK (R583), the SUPPLY condition of 12 R445. -/
def Lane.suppliesOk (L : Lane) : Bool :=
  L.supplyOk .core && L.supplyOk .io && L.supplyOk .ana && !L.flag Reg.PWR_ORDER_FIELD_HELD && !L.flag Reg.PWR_ORDER_ANA_HELD

/-- STAT of page 0x05 (R583). -/
def Lane.pwrStat (L : Lane) : Lane :=
  let lv := L.get Reg.THERM_STATE_LEVEL
  let L := (L.setb Reg.PWR_STAT_ENFORCE (decide (lv = 2))).setb Reg.PWR_STAT_REQUEST (decide (1 ≤ lv))
  (L.setb Reg.PWR_STAT_WINDOW_OPEN (L.flag Reg.THERM_WINDOW_OPEN)).setb Reg.PWR_STAT_SUPPLY_OK L.suppliesOk

/-- Measured supply voltages and currents (R563, R584): mV and mA of the three inputs. -/
def Lane.measureSupply (L : Lane) (mv ma : List Nat) : Lane :=
  let one (i : Nat) (L : Lane) : Lane :=
    (L.setSat (Reg.PWR_IN_VOLTS i) (mv.getD i 0)).setSat (Reg.PWR_IN_CURRENT i) (ma.getD i 0)
  let L := forUpTo 3 one L
  let w : Nat := mv.getD 0 0 * ma.getD 0 0 + mv.getD 1 0 * ma.getD 1 0 + mv.getD 2 0 * ma.getD 2 0
  L.setScaled Reg.PWR_LANE_POWER (w : Rat) 10000

/-- PWR_ORDER.FIELD_HELD (R565): IO_IN stands in limits and the field rail is held off. -/
def Lane.fieldHeld (L : Lane) : Lane := L.setb Reg.PWR_ORDER_FIELD_HELD (L.supplyOk .io && !L.pwr.fieldRail)

/-- A supply-order violation (R565): 1 IO_BEFORE_CORE, 2 ANA_AFTER_CORE, 3 CORE_LOST_IO_HELD. -/
def Lane.orderViolation (L : Lane) (code : Nat) : Lane :=
  (((L.incSat Reg.PWR_ORDER_COUNT).set Reg.PWR_ORDER_LAST code).setb Reg.PWR_FAULT_ORDER true).find 0x05 1

/-- The supplies at the release of reset (R564, R565). -/
def Lane.supplyAtStart (L : Lane) (f : StartFindings) : Lane :=
  let L := L.setAll [(Reg.PWR_IN_STATE 0, 2), (Reg.PWR_IN_STATE 1, if f.ioOk then 2 else L.get (Reg.PWR_IN_STATE 1)),
    (Reg.PWR_IN_STATE 2, if f.anaOk then 2 else L.get (Reg.PWR_IN_STATE 2))]
  let lost := L.pwr.coreLost
  let gone := lost || L.pwr.ioLost
  let L := if f.ioBeforeCore then L.orderViolation 1 else L
  let L := if lost && f.ioOk then L.orderViolation 3 else L
  let L := if f.anaOk then L else (L.setb Reg.PWR_ORDER_ANA_HELD true).orderViolation 2
  let L := if gone then (L.setb Reg.PWR_FAULT_SUPPLY_LOST true).find 0x05 0 else L
  ((L.onPwr fun p => { p with coreLost := false, ioLost := false, fieldRail := f.ioOk }).fieldHeld).pwrStat

/-- The registers of an input out of limits. -/
def Lane.supplyRegs (L : Lane) (i : Supply) (x : SupplyLoss) : Lane :=
  ((L.set (Reg.PWR_IN_STATE i.idx) x.state).setb (Reg.PWR_IN_REVERSED i.idx) x.reversed).setSat (Reg.PWR_IN_VOLTS i.idx) x.mv

/-- A departure that the lane sees while it runs (R564): reported at its next commit point. -/
def Lane.supplyLost (L : Lane) (i : Supply) (x : SupplyLoss) : Lane :=
  (((L.supplyRegs i x).setb Reg.PWR_FAULT_SUPPLY_LOST true).find 0x05 0).pwrStat

/-- The lane is held in reset, to start again with a cause (R564, 02 R88). -/
def Lane.hold (L : Lane) (c : StartCause) : Lane :=
  L.onBoot fun b => { b with phase := .reset, cause := c }

/-- A supply input leaves its limits (R564). -/
def State.supplyFault (s : State) (l : LaneId) (i : Supply) (x : SupplyLoss) : State :=
  match i with
  | .core =>
    let s := s.onLock fun k => k.cut l (some .peerSupply)
    s.upd l fun L =>
      (((L.supplyRegs .core x).onPwr fun p => { p with coreLost := true, fieldRail := false }).fieldHeld).hold .supplyReset
  | .io =>
    let held := s.sh.lock.holds l
    let s := s.upd l fun L => (L.supplyLost .io x).onPwr fun p => { p with fieldRail := false }
    if held then
      let s := s.onLock fun k => k.cut l (some .peerSupply)
      s.upd l fun L => (L.onPwr fun p => { p with ioLost := true }).hold .laneFailRestart
    else s
  | .ana =>
    s.upd l fun L =>
      let L := (L.supplyLost .ana x).setb Reg.PWR_ORDER_ANA_HELD true
      let L := L.anaStopHook.pwrStat
      if L.active then L.degrade else L

/-- SUPPLY_RETURN (R563, R565). -/
def Lane.supplyReturn (L : Lane) (i : Supply) : Lane :=
  if L.supplyOk i then L
  else
    let L := (L.set (Reg.PWR_IN_STATE i.idx) 2).setb (Reg.PWR_IN_REVERSED i.idx) false
    match i with
    | .core => L.pwrStat
    | .io => ((L.onPwr fun p => { p with fieldRail := decide (L.boot.phase ≠ .reset) && L.supplyOk .core }).fieldHeld).pwrStat
    | .ana => ((L.setb Reg.PWR_ORDER_ANA_HELD false).anaRestartHook).pwrStat

/-- Zone of a sensor (R567). -/
def zoneOf : Nat → Nat
  | 0 | 1 | 2 => 0
  | 3 | 9 => 1
  | 4 | 5 | 6 => 2
  | 7 | 8 | 10 => 3
  | _ => 4

/-- State code of a sensor (R584): 0 OK, 1 FAULT, 2 SUBST_LAST, 3 SUBST_ZONE, 4 RETIRED. -/
def Lane.tsState (L : Lane) (k : Nat) : Nat := L.get (Reg.THERM_T_STATE k)

/-- The bookkeeping of a sensor. -/
def Lane.ts (L : Lane) (k : Nat) : SensorSt := L.pwr.sensors.getD k {}

/-- The lane with the bookkeeping of a sensor changed. -/
def Lane.onTs (L : Lane) (k : Nat) (f : SensorSt → SensorSt) : Lane := L.onPwr fun p => { p with sensors := modAt p.sensors k f }

/-- Valid readings of a zone (R571): sensors neither in FAULT nor retired. -/
def Lane.zoneValid (L : Lane) (z : Nat) : List Int :=
  ((List.range 12).filter fun k => decide (zoneOf k = z) && decide (L.tsState k = 0)).filterMap fun k => (L.ts k).last.map (·.1)

/-- Greatest and least of a list. -/
def maxInt (l : List Int) : Option Int := l.foldl (fun m x => some (match m with | some y => max x y | none => x)) none
def minInt (l : List Int) : Option Int := l.foldl (fun m x => some (match m with | some y => min x y | none => x)) none

/-- The value in use of a sensor (R571), 0.1 °C; a retired sensor has none. -/
def Lane.inUse (L : Lane) (k : Nat) : Option Int :=
  match L.tsState k with
  | 0 => (L.ts k).last.map (·.1)
  | 4 => none
  | 3 =>
    match maxInt (L.zoneValid (zoneOf k)) with
    | some m => some (m + L.thermChart.zoneOfs.getD (zoneOf k) 0)
    | none => (L.ts k).last.map fun q => q.1 + 100
  | _ => (L.ts k).last.map fun q => q.1 + 100

/-- A threshold of a rising crossing counts one sample (R569): count towards the change. -/
def countUp (crossed : Bool) (cnt : Nat) (v x : Int) : Nat :=
  if crossed then (if v < x - 30 then min 8 (cnt + 1) else 0) else (if x ≤ v then min 8 (cnt + 1) else 0)

/-- The cold crossing counts one sample (R577). -/
def countCold (crossed : Bool) (cnt : Nat) (v : Int) : Nat :=
  if crossed then (if -350 < v then min 8 (cnt + 1) else 0) else (if v ≤ -380 then min 8 (cnt + 1) else 0)

/-- The two values that decide the MRAM window (R577): for the hot and for the cold crossing. -/
def Lane.windowInputs (L : Lane) : Option (Int × Int) :=
  if L.tsState 2 = 0 then (L.ts 2).last.map fun q => (q.1, q.1)
  else
    let v := ([0, 1].filter fun k => decide (L.tsState k = 0)).filterMap fun k => (L.ts k).last.map (·.1)
    let ofs := L.thermChart.zoneOfs.getD 0 0
    match maxInt v, minInt v with
    | some hi, some lo => some (hi + ofs, lo - ofs)
    | _, _ => none

/-- A sensor judges its reading (R570, R571): 0.1 °C and whether its converter reports a fault; `dt` in ms. -/
def Lane.tsJudge (L : Lane) (k : Nat) (v : Int) (bad : Bool) : Lane :=
  let x := L.ts k
  let t := L.pwr.clock
  let jump := match x.last with
    | some q => decide (200 < (v - q.1).natAbs)
    | none => false
  let plausible := !bad && decide (-600 ≤ v) && decide (v ≤ 1600) && !jump
  match L.tsState k with
  | 0 =>
    if plausible then
      let r : Option Rat := match x.last with
        | some q =>
          let dt : Rat := ((t - q.2 : Nat) : Rat) / 1000
          if dt = 0 then x.rate
          else
            let old := x.rate.getD 0
            some (old + (((v - q.1 : Int) : Rat) / dt - old) * dt / 2)
        | none => none
      L.onTs k fun x => { x with last := some (v, t), implausible := 0, rate := r, seen := min 2 (x.seen + 1) }
    else L.onTs k fun x => { x with implausible := min 3 (x.implausible + 1) }
  | 4 => L
  | _ =>
    if plausible then L.onTs k fun x => { x with plausible := min 8 (x.plausible + 1), recent := v }
    else L.onTs k fun x => { x with plausible := 0 }

/-- The value in use takes part in the thresholds of its sensor (R569, R571, R579). -/
def Lane.tsCount (L : Lane) (k : Nat) (fresh : Bool) : Lane :=
  match L.inUse k with
  | some v =>
    if fresh then
      let req := L.thermChart.req.getD k 0
      let crit := L.thermChart.crit.getD k 0
      let cr := L.flag (Reg.THERM_T_REQ k)
      let cc := L.flag (Reg.THERM_T_CRIT k)
      L.onTs k fun x =>
        let x := { x with reqCnt := countUp cr x.reqCnt v req, critCnt := countUp cc x.critCnt v crit }
        let x := { x with b85Cnt := countUp x.b85 x.b85Cnt v 850, b95Cnt := countUp x.b95 x.b95Cnt v 950 }
        { x with bandSeen := if x.bandSeen < 8 then x.bandSeen + 1 else x.bandSeen, bandMax := if x.bandSeen = 0 then v else if x.bandSeen < 8 then max x.bandMax v else x.bandMax }
    else L
  | none => L

/-- The registers of a sensor (R584). -/
def Lane.tsShow (L : Lane) (k : Nat) : Lane :=
  let L := match L.inUse k with
    | some v => L.setiSat (Reg.THERM_T_TEMP k) v
    | none => L
  let x := L.ts k
  match x.rate with
  | some r => if x.seen = 2 then (L.setb (Reg.THERM_RATE_RATE_OK k) true).setiScaled (Reg.THERM_RATE_RATE k) (r / 10) (1 / 100)
              else L.setAll [(Reg.THERM_RATE_RATE_OK k, 0), (Reg.THERM_RATE_RATE k, 0)]
  | none => L.setAll [(Reg.THERM_RATE_RATE_OK k, 0), (Reg.THERM_RATE_RATE k, 0)]

/-- Edges of the thresholds of a sensor (R568, R569, R577, R579), 0.1 °C. -/
def Lane.tsEdges (L : Lane) (k : Nat) : List Int :=
  let rise (x : Int) : List Int := [x, x - 30]
  rise (L.thermChart.req.getD k 0) ++ rise (L.thermChart.crit.getD k 0)
    ++ (if k = 2 then [1030, 1000, -380, -350] else [])
    ++ (if L.variant = .kx960 ∧ (k = 3 ∨ k = 9 ∨ k = 7) then rise 850 ++ rise 950 else [])

/-- Whether a sensor calls for fast sampling (R568). -/
def Lane.tsFast (L : Lane) (k : Nat) : Bool :=
  match L.inUse k with
  | some v =>
    let v : Rat := (v : Rat)
    let w : Rat := match (L.ts k).rate with
      | some r => if (L.ts k).seen = 2 then v + 10 * r else v
      | none => v
    (L.tsEdges k).any fun e => decide (min v w ≤ (e : Rat) + 50) && decide ((e : Rat) - 50 ≤ max v w)
  | none => false

/-- The sensor with the highest value in use. -/
def Lane.hottest (L : Lane) : Nat :=
  ((List.range 12).foldl (fun (m : Option (Int × Nat)) k =>
    match L.inUse k, m with
    | some v, some (w, _) => if w < v then some (v, k) else m
    | some v, none => some (v, k)
    | none, _ => m) none).elim 0 (·.2)

/-- A substitution runs (R571). -/
def Lane.substituting (L : Lane) : Bool := (List.range 12).any fun k => decide (L.tsState k = 2) || decide (L.tsState k = 3) || decide (L.tsState k = 1)

/-- THERM_STATE summary fields (R584): grace in 0.1 s. -/
def Lane.thermShow (L : Lane) : Lane :=
  let L := (L.setb Reg.THERM_STATE_SUBST L.substituting).set Reg.THERM_STATE_HOT L.hottest
  let L := L.setb Reg.THERM_STATE_CRIT ((List.range 12).any fun k => L.flag (Reg.THERM_T_CRIT k) && decide (L.tsState k ≠ 4))
  let L := L.setb Reg.THERM_STATE_FAST ((List.range 12).any fun k => L.tsFast k)
  let g := match L.pwr.reqAt with
    | some t => L.thermChart.grace - (L.pwr.clock - t) / 100
    | none => 0
  (L.setSat Reg.THERM_STATE_GRACE_REMAIN (if L.get Reg.THERM_STATE_LEVEL = 1 then g else 0)).pwrStat

/-- Entry into ENFORCE (R573). -/
def Lane.enforce (L : Lane) : Lane :=
  if L.get Reg.THERM_STATE_LEVEL = 2 then L
  else ((L.set Reg.THERM_STATE_LEVEL 2).find 0x05 3).onPwr fun p => { p with reqAt := none }

/-- The level that the thresholds of the sensors in use ask for (R573). -/
def Lane.throttle (L : Lane) : Lane :=
  let used := (List.range 12).filter fun k => decide (L.tsState k ≠ 4)
  let req := used.any fun k => L.flag (Reg.THERM_T_REQ k)
  let crit := used.any fun k => L.flag (Reg.THERM_T_CRIT k)
  let lv := L.get Reg.THERM_STATE_LEVEL
  let L :=
    if crit then L.enforce
    else if lv = 0 ∧ req then
      let t := L.pwr.clock
      ((L.set Reg.THERM_STATE_LEVEL 1).find 0x05 2).onPwr fun p => { p with reqAt := some t }
    else if lv ≠ 0 ∧ !req ∧ !L.substituting then
      (L.set Reg.THERM_STATE_LEVEL 0).onPwr fun p => { p with reqAt := none }
    else L
  L.thermShow.bankHook

/-- Held writes other than Logbook writes (R578). -/
def Lane.showPending (L : Lane) : Lane :=
  L.setSat Reg.THERM_WINDOW_PENDING ((if L.pwr.heldSnapshot then 1 else 0) + (if L.pwr.heldBootRec then 1 else 0))

/-- The boot record area copied to MRAM, or held while the window is closed (02 R95). -/
def Lane.bootRecWrite (L : Lane) : Lane :=
  if L.flag Reg.THERM_WINDOW_OPEN then L.onBoot fun b => { b with mram := b.mem }
  else (L.onPwr fun p => { p with heldBootRec := true }).showPending

/-- The newest state snapshot written to MRAM (01 R42); its content is valid again (R44). -/
def Lane.writeSnapshot (L : Lane) : Lane :=
  let L := L.onBoot fun b => { b with mram := b.mem, snapF := b.newest.1, snapMean := b.newest.2.1, snapPowered := b.newest.2.2.1, snapCycles := b.newest.2.2.2 }
  ((L.onHw fun h => { h with snapshotBad := false }).onPwr fun p => { p with heldSnapshot := false }).showPending

/-- SNAPSHOT_WRITE (01 R42, R578): written, or held while the window is closed. -/
def Lane.snapshotWrite (L : Lane) : Lane :=
  let new := (L.chr.f, L.pwr.lifeMean, L.pwr.poweredMs, L.boot.cycles)
  let L := L.onBoot fun b => { b with snapAge := 0, newest := new }
  if L.flag Reg.THERM_WINDOW_OPEN then L.writeSnapshot
  else (L.onPwr fun p => { p with heldSnapshot := true }).showPending

/-- SNAPSHOT_WRITE (01 R42, R578). -/
def execSnapshotWrite (l : LaneId) (s : State) : Out := onLane l Lane.snapshotWrite s

/-- The MRAM window follows its crossings (R577, R578). -/
def Lane.window (L : Lane) : Lane :=
  let isOpen := L.pwr.opened && !L.pwr.hot && !L.pwr.cold && !L.pwr.blind
  let was := L.flag Reg.THERM_WINDOW_OPEN
  let L := ((L.setb Reg.THERM_WINDOW_OPEN isOpen).setb Reg.THERM_WINDOW_HOT L.pwr.hot).setb Reg.THERM_WINDOW_COLD L.pwr.cold
  if was && !isOpen then ((L.incSat Reg.THERM_WINDOW_CLOSURES).find 0x05 6).windowClosedHook.pwrStat
  else if isOpen && !was then
    let L := if L.pwr.heldBootRec then
        (L.onBoot fun b => { b with mram := b.mem }).onPwr fun p => { p with heldBootRec := false }
      else L
    let L := if L.pwr.heldSnapshot then L.writeSnapshot else L
    L.showPending.pwrStat
  else L.pwrStat

/-- The window's crossings count one sample (R577): `fresh` says that a reading that decides the window was used. -/
def Lane.windowCount (L : Lane) (fresh : Bool) : Lane :=
  match L.windowInputs with
  | some (hi, lo) =>
    let L := L.onPwr fun p => { p with blind := false }
    if fresh then
      L.onPwr fun p =>
        { p with hotCnt := countUp p.hot p.hotCnt hi 1030, coldCnt := countCold p.cold p.coldCnt lo,
                 insideCnt := if -380 < lo ∧ hi < 1030 then min 8 (p.insideCnt + 1) else 0 }
    else L
  | none => L.onPwr fun p => { p with blind := true }

/-- THERM_LIFE shows powered time and the mean of TS11 (R580). -/
def Lane.lifeShow (L : Lane) : Lane :=
  (L.setSat Reg.THERM_LIFE_HOURS (L.pwr.poweredMs / 36000000)).setiScaled Reg.THERM_LIFE_MEAN L.pwr.lifeMean 1

/-- Band of a band input (R579). -/
def SensorSt.band (x : SensorSt) : Nat := if x.bandSeen < 9 then 2 else if x.b95 then 2 else if x.b85 then 1 else 0

/-- Bands of the DRAM, the SerDes and the ADCs (R567, R579). -/
def Lane.bands (L : Lane) : Nat × Nat × Nat := ((L.ts 3).band, (L.ts 9).band, (L.ts 7).band)

/-- THERM_BAND shows the bands (R579, R584). -/
def Lane.showBands (L : Lane) : Lane :=
  if L.variant = .kx960 then
    L.setAll [(Reg.THERM_BAND_DRAM, L.bands.1), (Reg.THERM_BAND_SERDES, L.bands.2.1), (Reg.THERM_BAND_ADC, L.bands.2.2)]
  else L

/-- THERM_BAND is raised where a band differs from what it was (R579). -/
def Lane.bandsChanged (L : Lane) (was : Nat × Nat × Nat) : Lane :=
  L.showBands.findIf (decide (L.variant = .kx960) && decide (L.bands ≠ was)) 0x05 7

/-- THERMAL_SAMPLE (R568-R571): `dt` ms since the previous sample, the twelve readings with their converters' faults. -/
def Lane.thermalSample (L : Lane) (dt : Nat) (r : List (Int × Bool)) : Lane :=
  let L := L.onPwr fun p => { p with clock := p.clock + dt }
  let before := fun k => (L.ts k).last
  let L0 := L
  let L := forUpTo 12 (fun k L => L.tsJudge k (r.getD k (0, true)).1 (r.getD k (0, true)).2) L
  let fresh (k : Nat) : Bool := decide ((L.ts k).last ≠ before k) || decide (L0.tsState k ≠ 0)
  let L := forUpTo 12 (fun k L => L.tsCount k (fresh k)) L
  let L := (L.windowCount (if L.tsState 2 = 0 then fresh 2 else fresh 0 || fresh 1)).window
  let L := match L.inUse 11 with
    | some v => L.onPwr fun p =>
        { p with lifeMean := (p.lifeMean * (p.poweredMs : Rat) + (v : Rat) * (dt : Rat)) / ((p.poweredMs + dt + (if p.poweredMs + dt = 0 then 1 else 0) : Nat) : Rat),
                 poweredMs := p.poweredMs + dt }
    | none => L.onPwr fun p => { p with poweredMs := p.poweredMs + dt }
  let L := forUpTo 12 (fun k L => L.tsShow k) L.lifeShow.showBands
  L.throttle

/-- THERMAL_SAMPLE (R568). -/
def execThermalSample (l : LaneId) (dt : Nat) (r : List (Int × Bool)) (s : State) : Out :=
  onLane l (fun L => L.thermalSample dt r) s

/-- THRESHOLD_CROSSING (R569, R573, R575, R577, R579): the change of a threshold whose 8 samples are complete. -/
def Lane.crossing (L : Lane) (x : ThermThr) : Lane :=
  match x with
  | .req k =>
    if 8 ≤ (L.ts k).reqCnt then
      ((L.setb (Reg.THERM_T_REQ k) (!L.flag (Reg.THERM_T_REQ k))).onTs k fun x => { x with reqCnt := 0 }).throttle
    else L
  | .crit k =>
    if 8 ≤ (L.ts k).critCnt then
      let rise := !L.flag (Reg.THERM_T_CRIT k)
      let L := (L.setb (Reg.THERM_T_CRIT k) rise).onTs k fun x => { x with critCnt := 0 }
      let L := if rise then ((L.setb Reg.PWR_FAULT_CRIT_SEEN true).find 0x05 4).degrade else L
      L.throttle
    else L
  | .hot => if 8 ≤ L.pwr.hotCnt then (L.onPwr fun p => { p with hot := !p.hot, hotCnt := 0 }).window else L
  | .cold => if 8 ≤ L.pwr.coldCnt then (L.onPwr fun p => { p with cold := !p.cold, coldCnt := 0 }).window else L
  | .inside => if 8 ≤ L.pwr.insideCnt ∧ !L.pwr.opened then (L.onPwr fun p => { p with opened := true }).window else L
  | .band k upper =>
    if k = 3 ∨ k = 9 ∨ k = 7 then
      if upper then (if 8 ≤ (L.ts k).b95Cnt ∧ (L.ts k).bandSeen = 9 then (L.onTs k fun x => { x with b95 := !x.b95, b95Cnt := 0 }).bandsChanged L.bands else L)
      else (if 8 ≤ (L.ts k).b85Cnt ∧ (L.ts k).bandSeen = 9 then (L.onTs k fun x => { x with b85 := !x.b85, b85Cnt := 0 }).bandsChanged L.bands else L)
    else L
  | .bandStart k =>
    if (k = 3 ∨ k = 9 ∨ k = 7) ∧ (L.ts k).bandSeen = 8 then
      (L.onTs k fun x => { x with b85 := decide (850 ≤ x.bandMax), b95 := decide (950 ≤ x.bandMax), b85Cnt := 0, b95Cnt := 0, bandSeen := 9 }).bandsChanged L.bands
    else L

/-- THRESHOLD_CROSSING (R569). -/
def execThresholdCrossing (l : LaneId) (x : ThermThr) (s : State) : Out := onLane l (fun L => L.crossing x) s

/-- GRACE_EXPIRY (R573). -/
def Lane.graceExpiry (L : Lane) : Lane :=
  match L.pwr.reqAt with
  | some t => if L.get Reg.THERM_STATE_LEVEL = 1 ∧ t + 100 * L.thermChart.grace ≤ L.pwr.clock then L.enforce.thermShow.bankHook else L
  | none => L

/-- GRACE_EXPIRY (R573). -/
def execGraceExpiry (l : LaneId) (s : State) : Out := onLane l Lane.graceExpiry s

/-- A zone without a valid sensor gives no substitute (R571): its substituted sensors fall back to their last valid value. -/
def Lane.zonesLost (L : Lane) : Lane :=
  let one (k : Nat) (L : Lane) : Lane :=
    if L.tsState k = 3 ∧ L.zoneValid (zoneOf k) = [] then (L.set (Reg.THERM_T_STATE k) (if (L.ts k).last.isSome then 2 else 1)).tsShow k else L
  forUpTo 12 one L

/-- SENSOR_FAULT (R571). -/
def Lane.sensorFault (L : Lane) (k : Nat) : Lane :=
  if L.tsState k = 0 ∧ 3 ≤ (L.ts k).implausible then
    let t := L.pwr.clock
    let st := if (L.ts k).last.isSome then 2 else 1
    let L := (L.set (Reg.THERM_T_STATE k) st).onTs k fun x => { x with faultAt := some t, plausible := 0, rate := none, seen := 0 }
    ((((L.setb Reg.PWR_FAULT_SENSOR_FAULT true).find 0x05 5).tsShow k).zonesLost).throttle
  else L

/-- SENSOR_FAULT (R571). -/
def execSensorFault (l : LaneId) (k : Nat) (s : State) : Out := onLane l (fun L => L.sensorFault k) s

/-- SUBSTITUTION_ZONE (R571): 60 s after the fault. -/
def Lane.substitutionZone (L : Lane) (k : Nat) : Lane :=
  match (L.ts k).faultAt with
  | some t =>
    if (L.tsState k = 1 ∨ L.tsState k = 2) ∧ t + 60000 ≤ L.pwr.clock ∧ L.zoneValid (zoneOf k) ≠ [] then
      ((L.set (Reg.THERM_T_STATE k) 3).tsShow k).throttle
    else L
  | none => L

/-- SUBSTITUTION_ZONE (R571). -/
def execSubstitutionZone (l : LaneId) (k : Nat) (s : State) : Out := onLane l (fun L => L.substitutionZone k) s

/-- SENSOR_RECOVERED (R571). -/
def Lane.sensorRecovered (L : Lane) (k : Nat) : Lane :=
  if (L.tsState k = 1 ∨ L.tsState k = 2 ∨ L.tsState k = 3) ∧ 8 ≤ (L.ts k).plausible then
    let t := L.pwr.clock
    let L := (L.set (Reg.THERM_T_STATE k) 0).onTs k fun x =>
      { x with last := some (x.recent, t), implausible := 0, plausible := 0, faultAt := none, rate := none, seen := 1 }
    (L.tsShow k).throttle
  else L

/-- SENSOR_RECOVERED (R571). -/
def execSensorRecovered (l : LaneId) (k : Nat) (s : State) : Out := onLane l (fun L => L.sensorRecovered k) s

/-- The Logbook record of a retirement (R572): the spec gives neither its severity nor its code nor a payload; both numbers are free
values. -/
def Lane.retireRecord (L : Lane) : Lane :=
  let (v, L) := L.fresh
  let (c, L) := L.fresh
  L.post (v.floor % 8).toNat (c.floor % 256).toNat []

/-- THERM_RETIRE_WRITE (R572): a set bit retires a sensor in FAULT; a retirement holds until the lane restarts. -/
def Lane.thermRetire (L : Lane) (mask : Nat) : Lane :=
  let one (k : Nat) (L : Lane) : Lane :=
    if testBit mask k ∧ (L.tsState k = 1 ∨ L.tsState k = 2 ∨ L.tsState k = 3) then
      ((L.set (Reg.THERM_T_STATE k) 4).setBit Reg.THERM_RETIRE_MASK k true).onTs k fun x => { x with rate := none, seen := 0 }
    else L
  let K := forUpTo 12 one L
  if K.get Reg.THERM_RETIRE_MASK = L.get Reg.THERM_RETIRE_MASK then K.throttle else K.retireRecord.throttle

/-- THERM_RETIRE_WRITE (R572). -/
def execThermRetireWrite (l : LaneId) (mask : Nat) (s : State) : Out := onLane l (fun L => L.thermRetire mask) s

/-- Registers of page 0x05 as read: THERM_T.ZONE is fixed per sensor (R567, R584). -/
def Lane.pwrView (_L : Lane) (off : Nat) (w : Word) : Word :=
  if 0x80 ≤ off ∧ off < 0xE0 ∧ (off - 0x80) % 8 = 0 then (Reg.THERM_T_ZONE 0).put w (zoneOf ((off - 0x80) / 8)) else w

/-- The thermal and supply state at a lane start (R92, R569, R577, R579): the life figures come from the snapshot. -/
def PowerSt.start (p : PowerSt) (mean : Rat) (powered : Nat) : PowerSt :=
  { coreLost := p.coreLost, ioLost := p.ioLost, lifeMean := mean, poweredMs := powered }

end Sys2Proof.Machine
end

