-- ==== Sys2Proof/Machine/Safety.lean ====
section
/-! DEFINITION. The safety channel: processor side, Binnacle, change log (13_safety_channel; 17 R597). -/

namespace Sys2Proof.Machine

open Sys2Proof

/-- The safety portion in the lane's safety region. -/
def Lane.portion (L : Lane) : SafetyPortion := L.sf.portion.getD {}

/-- Configuration of an input and of an output (R513). -/
def BinImage.si (g : BinImage) (n : Nat) : SiCfg := g.ins.getD n {}
def BinImage.so (g : BinImage) (k : Nat) : SoCfg := g.outs.getD k {}
def Lane.siCfg (L : Lane) (n : Nat) : SiCfg := L.portion.image.si n
def Lane.soCfg (L : Lane) (k : Nat) : SoCfg := L.portion.image.so k

/-- One input and one output of the processor side. -/
def Lane.si (L : Lane) (n : Nat) : SiProc := L.sf.ins.getD n {}
def Lane.so (L : Lane) (k : Nat) : SoProc := L.sf.outs.getD k {}
def Lane.onSi (L : Lane) (n : Nat) (f : SiProc → SiProc) : Lane := L.onSf fun x => { x with ins := modAt x.ins n f }
def Lane.onSo (L : Lane) (k : Nat) (f : SoProc → SoProc) : Lane := L.onSf fun x => { x with outs := modAt x.outs k f }

/-- One input and one output of the Binnacle. -/
def BinnacleSt.si (b : BinnacleSt) (n : Nat) : SiBin := b.ins.getD n {}
def BinnacleSt.so (b : BinnacleSt) (k : Nat) : SoBin := b.outs.getD k {}
def BinnacleSt.onSi (b : BinnacleSt) (n : Nat) (f : SiBin → SiBin) : BinnacleSt := { b with ins := modAt b.ins n f }
def BinnacleSt.onSo (b : BinnacleSt) (k : Nat) (f : SoBin → SoBin) : BinnacleSt := { b with outs := modAt b.outs k f }

/-- The module with its Binnacle changed. -/
def State.onBin (s : State) (f : BinnacleSt → BinnacleSt) : State := { s with sh := { s.sh with bin := f s.sh.bin } }

/-- Run level of the two channels by MODE (R479): `true` HIGH. -/
def SiMode.runB : SiMode → Bool
  | .antivalent => false
  | _ => true

/-- State of an input by its channels' levels (R480). An input in OFF has no state of its own and counts as SAFE. -/
def siState (m : SiMode) (a b : Bool) : SiState :=
  if m = .off then .safe
  else if a && (b == m.runB) then .run
  else if a != (b == m.runB) then .discrepant
  else .safe

/-- An input of MODE EQUIVALENT or ANTIVALENT demands while it is not RUN (R480). -/
def demands (m : SiMode) (st : SiState) : Bool := (m = .equivalent || m = .antivalent) && decide (st ≠ .run)

/-! ### What the terminals carry -/

/-- The shared section is powered (01 R25): by either lane's IO_IN. -/
def State.sharedPower (s : State) : Bool := s.a.supplyOk .io || s.b.supplyOk .io

/-- A lane drives the gate of an output's processor switch (R476); a processor-switch pulse takes it away. -/
def Lane.gateOut (L : Lane) (k : Nat) : Bool :=
  let o := L.so k
  let pulsed := match o.pulse with
    | some p => decide (p.sw = .proc) && p.high.isNone
    | none => false
  o.applied && !pulsed

/-- The processor switch of an output is closed (R476): by the driving lane's gate, or held over a changeover (01 R31). -/
def State.procSw (s : State) (k : Nat) : Bool :=
  match s.sh.lock.grant with
  | .held l => (s.lane l).gateOut k
  | _ => s.sh.lock.holding && s.sh.lock.heldGates.getD k false

/-- The Binnacle switch of an output is closed (R476, R477). -/
def BinnacleSt.closed (b : BinnacleSt) (k : Nat) : Bool := b.power && (b.so k).sw && !(b.so k).test

/-- The terminal of an output carries 5 V or more (R476, 17 R593). -/
def State.terminalOn (s : State) (k : Nat) : Bool :=
  s.sharedPower && s.procSw k && s.sh.bin.closed k && !(s.sh.so.getD k {}).off

/-! ### The Binnacle -/

/-- The Binnacle's configuration in force. -/
def BinnacleSt.cfg (b : BinnacleSt) : BinImage := b.image.getD {}

/-- State of an input in the Binnacle. -/
def BinnacleSt.siSt (b : BinnacleSt) (n : Nat) : SiState := siState (b.cfg.si n).mode (b.si n).a (b.si n).b

/-- Feedback shows released (R490). -/
def fbShows (c : SoCfg) (high : Bool) : Bool := if c.mirror then high else !high

/-- Causes 1 to 6 of R482 hold for the Binnacle, or STOP is asserted (R477). -/
def BinnacleSt.blocked (b : BinnacleSt) (k : Nat) : Bool :=
  let c := b.cfg.so k
  let o := b.so k
  !b.power || b.cfgBad || b.image.isNone || o.writing || !c.configured || o.swFault || o.fbFault || o.stop
    || c.stopMask.any fun n => (b.si n).disc || demands (b.cfg.si n).mode (b.siSt n)

/-- The Binnacle judges an output (R482, R483): it opens its switch and sets the restart interlock on any cause; it closes
it when every condition holds. -/
def BinnacleSt.evalOut (b : BinnacleSt) (k : Nat) : BinnacleSt :=
  let c := b.cfg.so k
  let allRun := c.stopMask.all fun n => decide (b.siSt n = .run)
  let rel := fbShows c (b.so k).fbHigh
  let b := b.onSo k fun o => { o with runDone := o.runDone && allRun, relDone := o.relDone && rel }
  let o := b.so k
  if b.blocked k then b.onSo k fun o => { o with sw := false, interlock := true, resetGiven := false }
  else
    let c13 := o.runDone && (!c.fbEn || o.relDone)
    if o.interlock then
      if c13 && (!c.manual || o.resetGiven) then
        b.onSo k fun o => { o with sw := true, interlock := false, resetGiven := false, pulled := false }
      else if c13 then b else b.onSo k fun o => { o with resetGiven := false }
    else b

/-- The Binnacle judges every output, with the STOP lines of the lane that holds the grant (R477). -/
def State.binEval (s : State) : State :=
  let stop (k : Nat) : Bool := match s.driver with
    | some l => ((s.lane l).so k).stop
    | none => false
  let p := s.sharedPower
  s.onBin fun b =>
    let b := if p && !b.power then { b with power := true }
      else if !p && b.power then
        { b with power := false, outs := b.outs.map (fun o => { fbHigh := o.fbHigh }), ins := b.ins.map (fun i => { i with disc := false, sawSafe := false }),
                 write := none }
      else b
    let b := forUpTo 8 (fun k b => b.onSo k fun o => { o with stop := stop k }) b
    forUpTo 8 (fun k b => b.evalOut k) b

/-- A channel changes in the Binnacle's filtered view (R488, R497). -/
def BinnacleSt.change (b : BinnacleSt) (c : SfChan) (high : Bool) : BinnacleSt :=
  match c with
  | .siA n => b.onSi n fun i => { i with a := high }
  | .siB n => b.onSi n fun i => { i with b := high }
  | .fb k => b.onSo k fun o => { o with fbHigh := high }

/-- The discrepancy latch of an input follows its channels (R488). -/
def BinnacleSt.discFollow (b : BinnacleSt) (n : Nat) : BinnacleSt :=
  let st := b.siSt n
  b.onSi n fun i =>
    let saw := i.disc && (i.sawSafe || decide (st = .safe))
    if i.disc && saw && decide (st = .run) then { i with disc := false, sawSafe := false } else { i with sawSafe := saw }

/-- BINNACLE_INPUT_CHANGE (R480, R488, R497). -/
def execBinnacleInputChange (c : SfChan) (high : Bool) (s : State) : Out :=
  let s := s.onBin fun b =>
    let b := b.change c high
    match c with
    | .siA n | .siB n => b.discFollow n
    | .fb k => b.onSo k fun o => { o with pulled := o.pulled || (o.sw && !fbShows (b.cfg.so k) high) }
  .next s.binEval

/-- BINNACLE_DISC_LATCH (R487): the input has been DISCREPANT beyond the window W. -/
def execBinnacleDiscLatch (n : Nat) (s : State) : Out :=
  if s.sh.bin.siSt n = .discrepant then
    .next (s.onBin fun b => b.onSi n fun i => { i with disc := true, sawSafe := false }).binEval
  else .next s

/-- BINNACLE_SWITCH_CHECK (R495): `high`: the terminal still carries 5 V or more 200 µs after the switch opened. -/
def execBinnacleSwitchCheck (k : Nat) (high : Bool) (s : State) : Out :=
  let b := s.sh.bin
  if b.power && !b.closed k && high && !(b.so k).swFault then
    let s := (s.onBin fun b => b.onSo k fun o => { o with swFault := true }).binEval
    .next (s.both fun L => L.find 0x58 4)
  else .next s

/-- TEST_AS_STOP (R477): a TEST assertion of more than 1 ms. -/
def execTestAsStop (k : Nat) (s : State) : Out :=
  if (s.sh.bin.so k).test then
    .next (s.onBin fun b => b.onSo k fun o => { o with sw := false, interlock := true, resetGiven := false })
  else .next s

/-- CFG_BAD (R498): the check circuit opens every switch. -/
def execCfgBad (s : State) : Out := .next (s.onBin fun b => { b with cfgBad := true }).binEval

/-! ### The processor side at the input latch -/

/-- Effective level of a channel: LOW while it has a field fault (R479); a departure since the last latch counts (R634). -/
def SiProc.levelA (i : SiProc) : Bool := i.a && !i.faultA
def SiProc.levelB (i : SiProc) : Bool := i.b && !i.faultB

/-- State of an input at the latch (R480, R634). -/
def SiProc.latchSt (i : SiProc) (m : SiMode) : SiState :=
  let hold := decide (m = .equivalent) || decide (m = .antivalent)
  let a := if hold && i.depA then false else i.levelA
  let b := if hold && i.depB then !m.runB else i.levelB
  siState m a b

/-- SAFETY_INPUT_CHANGE (R634): the lane's stage passes a change; a departure is held for the next latch. -/
def Lane.safetyInput (L : Lane) (c : SfChan) (high : Bool) : Lane :=
  match c with
  | .siA n => L.onSi n fun i => { i with a := high, depA := i.depA || !high }
  | .siB n => L.onSi n fun i => { i with b := high, depB := i.depB || (high != (L.siCfg n).mode.runB) }
  | .fb k => L.onSo k fun o => { o with fbHigh := high }

/-- SAFETY_INPUT_CHANGE (R634). -/
def execSafetyInputChange (l : LaneId) (c : SfChan) (high : Bool) (s : State) : Out :=
  onLane l (fun L => L.safetyInput c high) s

/-- One input at the latch (R480, R483, R484, R487, R488, R489): `dt` ms, the Binnacle's latch and demand on its status lines. -/
def Lane.latchSi (L : Lane) (n : Nat) (dt : Rat) (binDisc binDemand : Bool) : Lane :=
  let m := (L.siCfg n).mode
  let i := L.si n
  let was := i.st
  let st := i.latchSt m
  let dem := demands m st
  let enter := dem && !i.demand
  let L := if enter then (L.incWrap Reg.SF_CNT_DEMANDS).find 0x58 0 else L
  let L := L.findIf (binDisc && !i.binDisc) 0x58 1
  let saw := i.disc && (i.sawSafe || decide (st = .safe))
  let clear := i.disc && saw && decide (st = .run)
  let timer : Rat := if st = .discrepant then i.timer + dt else 0
  let run : Rat := if st = .run then (if was = .run then i.runMs + dt else 0) else 0
  let press : Rat := if was = .run then i.press + dt else i.press
  let rel := decide (m = .reset) && decide (st = .safe) && (i.seenRun || decide (was = .run))
  let split := decide (was = .discrepant) && decide (st ≠ .discrepant) && (i.disc != binDisc)
  let L := if split then ((L.incSat Reg.SF_CNT_SPLIT).setb Reg.SF_FAULT_SPLIT true).find 0x58 2 else L
  L.onSi n fun i =>
    let i := { i with st := st, demand := dem, timer := timer, runMs := run, disc := i.disc && !clear, sawSafe := saw && !clear }
    let i := { i with depA := false, depB := false, binDisc := binDisc, binDemand := binDemand }
    if rel then { i with release := some press, press := 0, seenRun := false }
    else if st = .safe then { i with press := 0, seenRun := false }
    else { i with press := press, seenRun := i.seenRun || decide (st = .run) }

/-- One output at the latch (R485, R490, R491): readback, the Binnacle's switch and its own fault report; the gate committed
in the last tick reaches the terminal. -/
def Lane.latchSo (L : Lane) (k : Nat) (dt : Rat) (on binSw binFault : Bool) : Lane :=
  let c := L.soCfg k
  L.onSo k fun o =>
    let rel := fbShows c (o.fbHigh && !o.fbField)
    let chg := o.energised != on
    let allRun := c.stopMask.all fun n => decide ((L.si n).st = .run)
    let o := { o with sinceMs := if chg then 0 else o.sinceMs + dt, relMs := if rel then (if o.released then o.relMs + dt else 0) else 0 }
    let o := { o with pulled := (o.pulled && !chg) || (on && !rel), energised := on, binSw := binSw, binReports := binFault, released := rel }
    { o with byDemand := o.byDemand && !on, applied := o.gate, runDone := o.runDone && allRun, relDone := o.relDone && rel }

/-- First cause of R482 that holds an output off on the processor side. -/
def Lane.holdCause (L : Lane) (k : Nat) : HoldCause :=
  let c := L.soCfg k
  let o := L.so k
  if L.sf.portion.isNone then .config
  else if !c.configured then .notConfigured
  else if L.sf.cfgHold.contains k then .config
  else if o.procSw || o.binSwFault || o.binReports then .switch
  else if L.flag Reg.SF_BIN_CFG_BAD || L.flag Reg.SF_BIN_MISMATCH || !L.flag Reg.SF_BIN_POWER_OK then .binnacle
  else if o.fbFault then .fb
  else if c.stopMask.any fun n => (L.si n).disc then .disc
  else if c.stopMask.any fun n => (L.si n).demand then .demand
  else if o.interlock then
    if o.runDone && (!c.fbEn || o.relDone) then (if c.manual && !o.resetGiven then .reset else .none) else .restart
  else .none

/-- Conditions 1 to 3 of R483. -/
def Lane.cond13 (L : Lane) (k : Nat) : Bool :=
  let c := L.soCfg k
  let o := L.so k
  o.runDone && (!c.fbEn || o.relDone) &&
    (match L.holdCause k with
    | .none | .reset => true
    | _ => false)

/-- A latch of the processor side holds (R486). -/
def Lane.sfLatched (L : Lane) : Bool :=
  L.sf.ins.any SiProc.disc || L.sf.outs.any fun o => o.fbFault || o.procSw || o.binSwFault

/-- SAFETY_OK (R486); `session`: a safety session is open. -/
def Lane.safetyOk (L : Lane) (session : Bool) : Bool :=
  !L.sfLatched && !L.flag Reg.SF_BIN_CFG_BAD && !L.flag Reg.SF_BIN_MISMATCH && L.sf.portion.isSome && !session

/-- Registers of page 0x58 (R516); the channels of an input in OFF read LOW (R479). -/
def Lane.sfShow (L : Lane) : Lane :=
  let i := L.sf.ins
  let o := L.sf.outs
  let mi (p : SiProc → Bool) : Nat := maskOf 16 fun n => p (i.getD n {})
  let mo (p : SoProc → Bool) : Nat := maskOf 8 fun k => p (o.getD k {})
  let lev (p : SiProc → Bool) : Nat := maskOf 16 fun n => p (i.getD n {}) && decide ((L.siCfg n).mode ≠ .off)
  let L := L.setAll [(Reg.SF_SI_LEVEL_A, lev SiProc.levelA), (Reg.SF_SI_LEVEL_B, lev SiProc.levelB),
    (Reg.SF_SI_DEMAND_PROC, mi SiProc.demand), (Reg.SF_SI_DEMAND_BIN, mi SiProc.binDemand),
    (Reg.SF_SI_DISC_PROC, mi SiProc.disc), (Reg.SF_SI_DISC_BIN, mi SiProc.binDisc)]
  let L := L.setAll [(Reg.SF_SO_STATE_STOP, mo SoProc.stop), (Reg.SF_SO_STATE_ENERGISED, mo SoProc.energised),
    (Reg.SF_SO_STATE_BIN_SW, mo SoProc.binSw), (Reg.SF_SO_STATE_GATE, mo SoProc.gate)]
  let L := L.setAll [(Reg.SF_SO_FAULT_BIN_SW, mo fun o => o.binSwFault || o.binReports), (Reg.SF_SO_FAULT_PROC_SW, mo SoProc.procSw),
    (Reg.SF_SO_FAULT_FB, mo SoProc.fbFault), (Reg.SF_FB_CONFIGURED, maskOf 8 fun k => (L.soCfg k).fbEn),
    (Reg.SF_FB_RELEASED, mo SoProc.released)]
  let L := forUpTo 8 (fun k L =>
    let c := L.holdCause k
    let L := L.onSo k fun o => { o with hold := c }
    L.set (Reg.SF_SO_HOLD_SO k) c.code) L
  forUpTo 16 (fun n L => (L.setSat (Reg.SF_SI_TIMER_TIMER n) ((L.si n).timer).floor.toNat).set (Reg.SF_SI_TIMER_DISC_TIME n)
    (if L.sf.portion.isSome then (L.siCfg n).discTime else 0)) L

/-- A test pulse is judged at the input latch that follows it (R494, R495). -/
def Lane.judgePulse (L : Lane) (k : Nat) (holds : Bool) : Lane :=
  match (L.so k).pulse with
  | none => L
  | some p =>
    match p.high with
    | none => L.onSo k fun o => { o with pulse := o.pulse.map fun q => { q with void := true } }
    | some high =>
      let o := L.so k
      let demand := (L.soCfg k).stopMask.any fun n => (L.si n).demand
      let held := decide (L.holdCause k ≠ .none)
      let binOpen := !o.binSw
      let L := L.onSo k fun o => { o with pulse := none }
      if p.void || held || demand || !holds || binOpen then L.incSat Reg.SF_TP_CNT_DISCARDED
      else if !high then L.incWrap Reg.SF_TP_CNT_PASSED
      else
        let L := ((L.incSat Reg.SF_TP_CNT_FAILED).setb Reg.SF_FAULT_SWITCH true).find 0x58 4
        match p.sw with
        | .proc => L.onSo k fun o => { o with procSw := true, stop := true }
        | .bin => L.onSo k fun o => { o with binSwFault := true }

/-- What the lane reads of the Binnacle's status lines at the latch (R50, R501). -/
structure BinStatus where
  power : Bool
  cfgBad : Bool
  writing : Bool
  check : Nat
  disc : List Bool
  demand : List Bool
  sw : List Bool
  fault : List Bool
  on : List Bool
deriving DecidableEq, Repr

/-- The Binnacle's status lines and the readbacks of the terminals. -/
def State.binStatus (s : State) : BinStatus :=
  let b := s.sh.bin
  { power := b.power, cfgBad := b.cfgBad || b.image.isNone, writing := b.write.isSome, check := b.check,
    disc := b.ins.map SiBin.disc, demand := (List.range 16).map fun n => demands (b.cfg.si n).mode (b.siSt n),
    sw := (List.range 8).map fun k => b.closed k, fault := b.outs.map SoBin.swFault,
    on := (List.range 8).map fun k => s.terminalOn k }

/-- The processor side at the input latch (R501): `dt` ms. -/
def Lane.sfLatch (L : Lane) (holds : Bool) (dt : Rat) (b : BinStatus) : Lane :=
  let newBad := (b.cfgBad && !L.flag Reg.SF_BIN_CFG_BAD) || (!b.power && L.flag Reg.SF_BIN_POWER_OK)
  let L := L.setAll [(Reg.SF_BIN_CFG_BAD, if b.cfgBad then 1 else 0), (Reg.SF_BIN_POWER_OK, if b.power then 1 else 0),
    (Reg.SF_BIN_WRITING, if b.writing then 1 else 0), (Reg.SF_BIN_CHECK_CRC, b.check)]
  let L := L.findIf newBad 0x58 5
  let L := forUpTo 16 (fun n L => L.latchSi n dt (b.disc.getD n false) (b.demand.getD n false)) L
  let L := forUpTo 8 (fun k L => L.latchSo k dt (b.on.getD k false) (b.sw.getD k false) (b.fault.getD k false)) L
  let L := forUpTo 8 (fun k L => L.judgePulse k holds) L
  let L := forUpTo 8 (fun k L => if L.cond13 k then L else L.onSo k fun o => { o with resetGiven := false }) L
  let L := L.setAll [(Reg.SF_STAT_GATES_LIVE, if holds then 1 else 0),
    (Reg.SF_STAT_PULSING, if holds && !L.coasting && !b.writing then 1 else 0)]
  L.sfShow

/-- DISC_LATCHED (R487). -/
def Lane.discLatch (L : Lane) (n : Nat) : Lane :=
  let i := L.si n
  if i.st = .discrepant ∧ !i.disc ∧ ((L.siCfg n).discTime : Rat) < i.timer then
    (((L.onSi n fun i => { i with disc := true, sawSafe := false }).setb Reg.SF_FAULT_DISC true).find 0x58 1).sfShow
  else L

/-- DISC_LATCHED (R487). -/
def execDiscLatched (l : LaneId) (n : Nat) (s : State) : Out := onLane l (fun L => L.discLatch n) s

/-- RUN_DELAY_EXPIRY (R483, R497) on the processor side. -/
def Lane.runDelay (L : Lane) (k : Nat) : Lane :=
  if (L.soCfg k).stopMask.all fun n => decide ((L.si n).st = .run) && decide (50 ≤ (L.si n).runMs) then
    (L.onSo k fun o => { o with runDone := true }).sfShow
  else L

/-- RUN_DELAY_EXPIRY (R483, R497). -/
def execRunDelayExpiry (d : Side) (k : Nat) (s : State) : Out :=
  match d with
  | .proc l => onLane l (fun L => L.runDelay k) s
  | .bin =>
    let b := s.sh.bin
    if (b.cfg.so k).stopMask.all fun n => decide (b.siSt n = .run) then
      .next (s.onBin fun b => b.onSo k fun o => { o with runDone := true }).binEval
    else .next s

/-- FEEDBACK_RELEASED_EXPIRY (R483) on the processor side. -/
def Lane.relDelay (L : Lane) (k : Nat) : Lane :=
  if (L.so k).released ∧ 10 ≤ (L.so k).relMs then (L.onSo k fun o => { o with relDone := true }).sfShow else L

/-- FEEDBACK_RELEASED_EXPIRY (R483, R497). -/
def execFeedbackReleasedExpiry (d : Side) (k : Nat) (s : State) : Out :=
  match d with
  | .proc l => onLane l (fun L => L.relDelay k) s
  | .bin =>
    let b := s.sh.bin
    if fbShows (b.cfg.so k) (b.so k).fbHigh then
      .next (s.onBin fun b => b.onSo k fun o => { o with relDone := true }).binEval
    else .next s

/-- The outputs for which a release of a RESET input is judged (R484). -/
def Lane.judgedOuts (L : Lane) (n : Nat) : List Nat :=
  (List.range 8).filter fun k => (L.soCfg k).configured && decide ((L.soCfg k).resetSi = some n) && ((L.so k).interlock || (L.so k).fbFault)

/-- RESET_RELEASE on the processor side (R484, R492). -/
def Lane.resetRelease (L : Lane) (n : Nat) : Lane :=
  match (L.si n).release with
  | none => L
  | some ms =>
    let ok := decide (100 ≤ ms) && decide (ms ≤ 5000) && !(L.si n).disc
    let outs := L.judgedOuts n
    let L := L.onSi n fun i => { i with release := none }
    let one (p : Lane × Bool) (k : Nat) : Lane × Bool :=
      let L := if ok && (p.1.so k).fbFault && (p.1.so k).released then p.1.onSo k fun o => { o with fbFault := false } else p.1
      if ok && L.cond13 k then (L.onSo k fun o => { o with resetGiven := true }, p.2) else (L, true)
    let r := outs.foldl one (L, false)
    let L := if r.2 then (r.1.incSat Reg.SF_CNT_RESET_IGNORED).find 0x58 6 else r.1
    L.sfShow

/-- RESET_RELEASE in the Binnacle (R484, R492): `inLimits` says whether the press lay within the unit's own limits (R497). -/
def State.binReset (s : State) (n : Nat) (inLimits : Bool) : State :=
  let b := s.sh.bin
  let ok := inLimits && !(b.si n).disc && decide ((b.cfg.si n).mode = .reset) && decide (b.siSt n = .safe)
  if !ok then s
  else
    let one (k : Nat) (b : BinnacleSt) : BinnacleSt :=
      let c := b.cfg.so k
      if c.configured && decide (c.resetSi = some n) then
        let b := if (b.so k).fbFault && fbShows c (b.so k).fbHigh then b.onSo k fun o => { o with fbFault := false } else b
        let o := b.so k
        if o.interlock && !b.blocked k && o.runDone && (!c.fbEn || o.relDone) then b.onSo k fun o => { o with resetGiven := true } else b
      else b
    (s.onBin fun b => forUpTo 8 one b).binEval

/-- RESET_RELEASE (R484). -/
def execResetRelease (d : Side) (n : Nat) (inLimits : Bool) (s : State) : Out :=
  match d with
  | .proc l => onLane l (fun L => L.resetRelease n) s
  | .bin => .next (s.binReset n inLimits)

/-- FB_FAULT on the processor side (R491). -/
def Lane.fbFault (L : Lane) (k : Nat) : Lane :=
  let c := L.soCfg k
  let o := L.so k
  let pull : Rat := (c.fbPull : Nat)
  let drop : Rat := (c.fbDrop : Nat)
  let bad :=
    if o.energised then (if o.pulled then o.released && decide (drop < o.relMs) else decide (pull < o.sinceMs))
    else !o.released && decide (drop < o.sinceMs)
  if c.configured && c.fbEn && !o.fbFault && bad then
    (((L.onSo k fun o => { o with fbFault := true }).setb Reg.SF_FAULT_FB true).find 0x58 3).sfShow
  else L

/-- FB_FAULT (R491). -/
def execFbFault (d : Side) (k : Nat) (s : State) : Out :=
  match d with
  | .proc l => onLane l (fun L => L.fbFault k) s
  | .bin =>
    let b := s.sh.bin
    let c := b.cfg.so k
    let o := b.so k
    let rel := fbShows c o.fbHigh
    let bad := if s.terminalOn k then rel else !rel
    if b.power && c.configured && c.fbEn && bad then
      .next (s.onBin fun b => b.onSo k fun o => { o with fbFault := true }).binEval
    else .next s

/-- The gates at the commit point (R70, R85, R483, R501): closing clears the interlock, opening sets it. A standby's gate is
ANDed with the active lane's last mirrored gate (R457): `mask`. -/
def Lane.sfCommit (L : Lane) (mask : Nat → Bool) : Lane :=
  let one (k : Nat) (L : Lane) : Lane :=
    let c := L.holdCause k
    let free := decide (c = .none)
    let L := if free && mask k then L.onSo k fun o => { o with gate := true, interlock := false, resetGiven := false }
      else if free then L.onSo k fun o => { o with gate := false }
      else L.onSo k fun o => { o with gate := false, interlock := true }
    let o := L.so k
    let testing := match o.pulse with
      | some _ => true
      | none => false
    let held := (L.soCfg k).configured && (decide (c ≠ .none) || (!o.binSw && !testing))
    if held then L.onSo k fun o => { o with byDemand := true } else L
  let L := (forUpTo 8 one L).sfShow
  let old := L.get Reg.MODE_CUR_ESTOP_SO
  let es := maskOf 8 fun k => (L.so k).byDemand && (L.soCfg k).configured
  let L := L.setAll [(Reg.MODE_CUR_ESTOP_SO, es), (Reg.MODE_CUR_ESTOP_ANY, if es = 0 then 0 else 1)]
  L.findIf ((es = 0) != (old = 0)) 0x02 4

/-! ### Test pulses -/

/-- TEST_PULSE_START (R493, R496). -/
def execTestPulseStart (l : LaneId) (k : Nat) (w : TestSwitch) (s : State) : Out :=
  let L := s.lane l
  let o := L.so k
  let p := L.get Reg.SF_TP_PERIOD * 1000
  let due := match w with
    | .proc => 100 * k
    | .bin => 100 * k + 50
  let ok := s.sh.lock.holds l && !L.coasting && s.sh.bin.write.isNone && L.bit Reg.SF_TP_EN k && (L.soCfg k).configured && o.energised
    && decide (p ≠ 0) && decide (L.get Reg.TICK_CNT_COUNT % p = due) && o.pulse.isNone
  if ok then
    let void := decide (L.holdCause k ≠ .none)
    let s := s.upd l fun L => L.onSo k fun o => { o with pulse := some ⟨w, L.get Reg.TICK_CNT_COUNT, none, void⟩ }
    .next (if w = .bin then s.onBin fun b => b.onSo k fun o => { o with test := true } else s)
  else .next s

/-- TEST_PULSE_END (R493, R494): `high`: the readback captured 20 µs before the end was 5 V or more. -/
def execTestPulseEnd (l : LaneId) (k : Nat) (high : Bool) (s : State) : Out :=
  match ((s.lane l).so k).pulse with
  | some p =>
    if p.high.isNone then
      let s := s.upd l fun L => L.onSo k fun o => { o with pulse := o.pulse.map fun q => { q with high := some high } }
      .next (if p.sw = .bin then s.onBin fun b => b.onSo k fun o => { o with test := false } else s)
    else .next s
  | none => .next s

/-- The grant leaves a lane: its pulses are void, its TEST lines drop, an incomplete write is discarded (R477, R494, R499). -/
def State.sfGrantLost (s : State) (l : LaneId) : State :=
  let s := s.upd l fun L => L.onSf fun x =>
    { x with outs := x.outs.map fun o => { o with pulse := o.pulse.map fun q => { q with void := true, high := some (q.high.getD false) } } }
  let writing := match s.sh.bin.write with
    | some w => decide (w.lane = l)
    | none => false
  let s := s.onBin fun b =>
    { b with outs := b.outs.map (fun o => { o with test := false, writing := o.writing && !writing }), write := if writing then none else b.write }
  let s := if writing then s.upd l fun L => L.onSf fun x => { x with cfgHold := [], newPortion := none, rejects := 0 } else s
  s.binEval

/-! ### Source pulses -/

/-- One source-pulse result: two consecutive failures set the field fault, two passes clear it (17 R597). -/
def fieldTest (fails passes : Nat) (fault fail : Bool) : Nat × Nat × Bool :=
  if fail then (min 2 (fails + 1), 0, fault || decide (2 ≤ fails + 1))
  else (0, min 2 (passes + 1), fault && !decide (2 ≤ passes + 1))

/-- Whether a channel is tested: its run level is HIGH, or its feedback is enabled (17 R597). -/
def Lane.srcTested (L : Lane) (c : SfChan) : Bool :=
  match c with
  | .siA n => decide ((L.siCfg n).mode ≠ .off) && (L.si n).a
  | .siB n => decide ((L.siCfg n).mode ≠ .off) && (L.siCfg n).mode.runB && (L.si n).b
  | .fb k => (L.soCfg k).fbEn && (L.so k).fbHigh

/-- Tick of a channel's test (17 R597). -/
def srcTick : SfChan → Nat
  | .siA n => 40 * n + 5
  | .siB n => 40 * n + 25
  | .fb k => 40 * k + 645

/-- A channel's test result. -/
def Lane.srcResult (L : Lane) (c : SfChan) (high : Bool) : Lane :=
  match c with
  | .siA n => L.onSi n fun i =>
      let r := fieldTest i.failA i.passA i.faultA high
      { i with failA := r.1, passA := r.2.1, faultA := r.2.2 }
  | .siB n => L.onSi n fun i =>
      let r := fieldTest i.failB i.passB i.faultB high
      { i with failB := r.1, passB := r.2.1, faultB := r.2.2 }
  | .fb k => L.onSo k fun o =>
      let r := fieldTest o.fbFail o.fbPass o.fbField high
      { o with fbFail := r.1, fbPass := r.2.1, fbField := r.2.2 }

/-- SOURCE_PULSE_TEST (17 R597): `high`: the raw terminal is HIGH at 580 µs, with SRC off. -/
def execSourcePulseTest (c : SfChan) (high : Bool) (s : State) : Out :=
  match s.driver with
  | none => .next s
  | some l =>
    let L := s.lane l
    if !L.coasting && s.sh.bin.write.isNone && decide (L.get Reg.TICK_CNT_COUNT % 1000 = srcTick c) && L.srcTested c then
      .next (s.upd l fun L => L.srcResult c high)
    else .next s

/-! ### The Binnacle's image -/

/-- Numbers of an image, for its CRC-32 (R498, log entry 6). -/
def BinImage.numbers (g : BinImage) : List Nat :=
  let m : SiMode → Nat
    | .off => 0
    | .equivalent => 1
    | .antivalent => 2
    | .reset => 3
  let bit (b : Bool) : Nat := if b then 1 else 0
  (g.ins.flatMap fun i => [m i.mode, i.discTime]) ++
    (g.outs.flatMap fun o => [bit o.configured, maskOf 16 fun n => o.stopMask.contains n, bit o.manual,
      (o.resetSi.map (· + 1)).getD 0, bit o.fbEn, bit o.mirror, o.fbPull, o.fbDrop])

/-- Outputs whose entry changes, or whose STOP_MASK or RESET_SI names an input whose entry changes (R499). -/
def changedOuts (old new : BinImage) : List Nat :=
  let inCh (n : Nat) : Bool := decide (old.si n ≠ new.si n)
  (List.range 8).filter fun k =>
    let names (c : SoCfg) : Bool := c.stopMask.any inCh || (match c.resetSi with | some n => inCh n | none => false)
    decide (old.so k ≠ new.so k) || names (old.so k) || names (new.so k)

/-- BINNACLE_WRITE (R499): unlock word, image and check word of the safety portion that has passed its check. -/
def execBinnacleWrite (l : LaneId) (s : State) : Out :=
  let L := s.lane l
  match L.sf.newPortion with
  | some p =>
    if s.sh.lock.holds l && s.sh.bin.write.isNone && decide (L.sf.rejects < 3) then
      let outs := changedOuts s.sh.bin.cfg p.image
      let s := s.upd l fun L => (L.onSf fun x => { x with cfgHold := outs }).setb Reg.SF_BIN_WRITING true
      .next (s.onBin fun b =>
        let b := { b with write := some ⟨l, p.image, Config.imageCrc p.image.numbers⟩ }
        outs.foldl (fun b k => b.onSo k fun o => { o with writing := true }) b).binEval
    else .next s
  | none => .next s

/-- BINNACLE_WRITE_END (R499): the Binnacle takes the image if it matches the check word, else keeps its old one. After 3
rejections the section is refused. -/
def execBinnacleWriteEnd (taken : Bool) (s : State) : Out :=
  match s.sh.bin.write with
  | none => .next s
  | some w =>
    let s := s.onBin fun b =>
      let b := { b with write := none, outs := b.outs.map fun o => { o with writing := false } }
      let old := b.cfg
      let one (n : Nat) (i : SiBin) : SiBin := if old.si n = w.image.si n then i else { i with disc := false, sawSafe := false }
      if taken then
        let outs := changedOuts old w.image
        let b := { b with image := some w.image, check := w.check, cfgBad := false }
        let b := { b with ins := mapIdxFrom 0 one b.ins }
        outs.foldl (fun b k => b.onSo k fun o => { o with runDone := false, relDone := false }) b
      else b
    let s := s.upd w.lane fun L =>
      let L := L.setb Reg.SF_BIN_WRITING false
      if taken then L.onSf fun x => { x with binTaken := true }
      else
        let L := L.onSf fun x => { x with rejects := x.rejects + 1 }
        if 3 ≤ L.sf.rejects then L.onSf fun x => { x with cfgHold := [], newPortion := none, rejects := 0, refused := true } else L
    .next s.binEval

/-- CHECK_WORD_COMPARE (R500): every 1000 ticks; skipped from the start of a write until the section is current. -/
def Lane.checkCompare (L : Lane) : Lane :=
  if L.sf.newPortion.isSome || L.sf.portion.isNone then L
  else
    let agree := decide (L.get Reg.SF_BIN_CHECK_CRC = L.get Reg.SF_CFG_CHECK_CRC)
    let L := L.onSf fun x => { x with misRun := if agree then 0 else min 2 (x.misRun + 1), okRun := if agree then min 2 (x.okRun + 1) else 0 }
    let on := L.flag Reg.SF_BIN_MISMATCH
    if !on ∧ 2 ≤ L.sf.misRun then
      (((L.setb Reg.SF_BIN_MISMATCH true).setb Reg.SF_FAULT_CHECK_MISMATCH true).find 0x58 5).sfShow
    else if on ∧ 2 ≤ L.sf.okRun then (L.setb Reg.SF_BIN_MISMATCH false).sfShow
    else L

/-- CHECK_WORD_COMPARE (R500). -/
def execCheckWordCompare (l : LaneId) (s : State) : Out := onLane l Lane.checkCompare s

/-! ### Standby -/

/-- The standby takes the mirrored safety share (R502, R457); a lane in RESYNC takes the mirrored values in place of its own. -/
def Lane.sfAdopt (L : Lane) (m : SafetySt) (resync : Bool) : Lane :=
  let more := (L.sf.ins.zip m.ins).any (fun p => p.1.disc && !p.2.disc)
    || (L.sf.outs.zip m.outs).any fun p => (p.1.fbFault && !p.2.fbFault) || (p.1.procSw && !p.2.procSw) || (p.1.binSwFault && !p.2.binSwFault)
  let si (n : Nat) (i : SiProc) : SiProc :=
    let x := m.ins.getD n {}
    { i with timer := x.timer, press := x.press, disc := if resync then x.disc else i.disc || x.disc, sawSafe := if resync then x.sawSafe else i.sawSafe }
  let so (k : Nat) (o : SoProc) : SoProc :=
    let x := m.outs.getD k {}
    let o := { o with sinceMs := x.sinceMs, relMs := x.relMs, fbFault := if resync then x.fbFault else o.fbFault || x.fbFault }
    let o := { o with procSw := if resync then x.procSw else o.procSw || x.procSw, binSwFault := if resync then x.binSwFault else o.binSwFault || x.binSwFault }
    { o with interlock := if resync then x.interlock else o.interlock || x.interlock, gate := if resync then x.gate else o.gate && x.gate, mirrored := x.gate }
  let L := L.onSf fun x => { x with ins := mapIdxFrom 0 si x.ins, outs := mapIdxFrom 0 so x.outs }
  if resync then L
  else
    let on := L.flag Reg.SF_STAT_LANE_DIFF
    let L := (L.setb Reg.SF_STAT_LANE_DIFF more).findIf (more && !on) 0x58 7
    L.onSf fun x => { x with diffTicks := if more then min 1000 (x.diffTicks + 1) else 0 }

/-- SAFETY_DIFF_EXPIRY (R502). -/
def execSafetyDiffExpiry (l : LaneId) (s : State) : Out :=
  onLane l (fun L => if L.flag Reg.SF_STAT_LANE_DIFF && decide (1000 ≤ L.sf.diffTicks) then L.degrade else L) s

/-- At its takeover a lane asserts STOP for every output whose processor switch fault it holds (R503). -/
def Lane.sfTakeover (L : Lane) : Lane :=
  (L.onSf fun x => { x with outs := x.outs.map fun o => { o with stop := o.procSw } }).sfShow

/-! ### Change log -/

/-- SF_LOG_CNT and the state of page 0x59 (R518). -/
def Lane.sfLogShow (L : Lane) : Lane :=
  let used := L.sf.log.length
  let free := 256 - used
  let L := L.setAll [(Reg.SF_LOG_CNT_USED, used), (Reg.SF_LOG_CNT_FREE, free), (Reg.SFL_STAT_LOG_LOW, if free ≤ 16 then 1 else 0),
    (Reg.SFL_STAT_LOG_FULL, if free = 0 then 1 else 0), (Reg.SF_PW_INITIAL, if L.sf.initial then 1 else 0)]
  let pws := L.sf.log.filter fun e => e.kind = 3 || (e.kind = 2 && testBit (e.data.getD 4 0) 24)
  L.setSat Reg.SF_PW_CHANGES pws.length

/-- A change may be logged (R510, R511): the log has room and the MRAM window is open. -/
def Lane.mayLogChange (L : Lane) : Bool := decide (L.sf.log.length < 256) && L.flag Reg.THERM_WINDOW_OPEN

/-- A change log entry written (R510-R512). -/
def Lane.logChange (L : Lane) (kind client : Nat) (data : List Nat) : Lane :=
  let e : ChangeEntry := ⟨L.sf.log.length + 1, kind, L.timeValid, decide (L.id = .b), client, L.now, data⟩
  let L := L.onSf fun x => { x with log := x.log ++ [e] }
  ((L.sfLogShow).find 0x59 0).findIf (decide (L.sf.log.length = 240)) 0x59 1

/-- A lane takes the entries that it lacks (R511); an entry held by both with different contents sets LOG_DIFF. -/
def Lane.adoptLog (L : Lane) (m : List ChangeEntry) : Lane :=
  let own := L.sf.log
  let diff := (own.zip m).any fun p => decide (p.1 ≠ p.2)
  let extra := m.drop own.length
  let L := if diff then L.setb Reg.SFL_FAULT_LOG_DIFF true else L
  if extra.isEmpty then L
  else
    let L := L.onSf fun x => { x with log := x.log ++ extra }
    (L.sfLogShow.find 0x59 0).findIf (decide (own.length < 240) && decide (240 ≤ L.sf.log.length)) 0x59 1

/-- SF_TP_WRITE (R510, R516): the value of an RWS write in a safety session of the client. Whether it was taken. -/
def Lane.sfTpWrite (L : Lane) (client : Nat) (session : Bool) (v : Nat) : Lane × Bool :=
  let w : Word := BitVec.ofNat 32 v
  let p := Reg.SF_TP_PERIOD.of w
  let d := Reg.SF_TP_WIDTH.of w
  if !session || !L.active || decide (p < 1) || decide (600 < p) || decide (d < 10) || decide (45 < d) then (L, false)
  else if !L.mayLogChange then (L.find 0x59 2, false)
  else
    let old := (L.word Reg.SF_TP_PERIOD.addr).toNat
    let L := L.setAll [(Reg.SF_TP_PERIOD, p), (Reg.SF_TP_WIDTH, d), (Reg.SF_TP_EN, Reg.SF_TP_EN.of w)]
    (L.logChange 4 client [Reg.SF_TP_PERIOD.addr, old, (L.word Reg.SF_TP_PERIOD.addr).toNat, 0, 0, 0, 0, 0], true)

/-- The change log window (R518) as read. -/
def Lane.sfLogView (L : Lane) (off : Nat) (w : Word) : Word :=
  let n := L.get Reg.SF_LOG_SEL_ENTRY
  match (if n = 0 then none else L.sf.log[n - 1]?) with
  | none => if 0x28 ≤ off ∧ off < 0x58 then 0 else w
  | some e =>
    if off = 0x28 then
      BitVec.ofNat 32 (e.client * 2 ^ 24 + ((if e.timeValid then 1 else 0) + (if e.laneB then 2 else 0)) * 2 ^ 16 + e.kind * 2 ^ 8 + e.number % 256)
    else if off = 0x2C then BitVec.ofNat 32 (secOf e.time)
    else if off = 0x30 then BitVec.ofNat 32 (fracOf e.time * 2 ^ 16 + secOf e.time / 2 ^ 32 % 2 ^ 16)
    else if off = 0x34 then BitVec.ofNat 32 (nsOf e.time)
    else if 0x38 ≤ off ∧ off < 0x58 then BitVec.ofNat 32 (e.data.getD ((off - 0x38) / 4) 0)
    else w

/-! ### The safety portion -/

/-- The safety region takes a portion (R35, R516): test pulse settings, check word. -/
def Lane.loadPortion (L : Lane) (p : SafetyPortion) : Lane :=
  let old := L.portion.image
  let L := L.onSf fun x => { x with portion := some p, newPortion := none, cfgHold := [], rejects := 0, misRun := 0, okRun := 0, binTaken := false }
  let reset (n : Nat) (L : Lane) : Lane :=
    if old.si n = p.image.si n then L else L.onSi n fun i => { i with timer := 0, disc := false, sawSafe := false, st := .safe, runMs := 0, demand := false }
  let L := forUpTo 16 reset L
  let L := (changedOuts old p.image).foldl (fun L k => L.onSo k fun o => { o with interlock := true, runDone := false, relDone := false, resetGiven := false }) L
  let L := L.setAll [(Reg.SF_TP_PERIOD, p.tpPeriod), (Reg.SF_TP_WIDTH, p.tpWidth), (Reg.SF_TP_EN, p.tpEn),
    (Reg.SF_CFG_CHECK_CRC, Config.imageCrc p.image.numbers)]
  L.sfShow

/-- DATA of a change log entry for a portion (R512), as eight words. -/
def portionData (old new : SafetyPortion) : List Nat :=
  let w := (maskOf 16 fun n => decide (old.image.si n ≠ new.image.si n))
    + 2 ^ 16 * (maskOf 8 fun k => decide (old.image.so k ≠ new.image.so k)) + (if new.pwChange then 2 ^ 24 else 0)
  [old.digest % 2 ^ 32, old.digest / 2 ^ 32, new.digest % 2 ^ 32, new.digest / 2 ^ 32, w, 0, 0, 0]

/-- A safety portion becomes current in the active lane by a client's Chart (R508-R512). -/
def Lane.portionCurrent (L : Lane) (p : SafetyPortion) (client : Nat) : Lane :=
  let old := L.portion
  let onlyPw := p.pwChange && decide (old.image = p.image) && decide (old.tpEn = p.tpEn) && decide (old.tpPeriod = p.tpPeriod)
    && decide (old.tpWidth = p.tpWidth)
  let L := L.logChange (if onlyPw then 3 else 2) client (portionData old p)
  let L := if p.pwChange then L.onSf fun x => { x with password := p.pwNew, initial := false } else L
  (L.loadPortion p).sfLogShow

/-- A portion is consistent (R507, R513). -/
def Lane.portionOk (L : Lane) (p : SafetyPortion) : Bool :=
  let out (c : SoCfg) : Bool :=
    !c.configured ||
      (!c.stopMask.isEmpty && c.stopMask.all (fun n => decide ((p.image.si n).mode ≠ .off) && decide ((p.image.si n).mode ≠ .reset))
        && (!c.manual || (match c.resetSi with | some n => decide ((p.image.si n).mode = .reset) | none => false)))
  p.image.outs.all out && (!L.sf.initial || p.pwChange)

/-- An input and an output of the processor side with nothing known but the terminal's level. -/
def SiProc.at (a b : Bool) : SiProc := { a, b }
def SoProc.at (h : Bool) : SoProc := { fbHigh := h }

/-- The processor side at a lane start (R504): every gate open, every interlock set, no latches; terminal levels, the field
tests, the portion's copy are set by the start. -/
def SafetySt.start (x : SafetySt) : SafetySt :=
  let ins := x.ins.map fun i => SiProc.at i.a i.b
  let outs := x.outs.map fun o => SoProc.at o.fbHigh
  { ins := ins, outs := outs, password := x.password, initial := x.initial, log := x.log }

end Sys2Proof.Machine
end

