-- ==== Sys2Proof/Machine/Mode.lean ====
section
/-! DEFINITION. The conditions, the mode transitions and the queue of scheduled actions (02 R75-R87, R103-R106). -/

namespace Sys2Proof.Machine

open Sys2Proof

/-- A number with the bits of the conditions that hold. -/
def condMask (l : List Bool) : Nat := maskOf l.length fun n => l.getD n false

/-- Conditions of R77 as they stand. -/
def Lane.conds (L : Lane) : Nat :=
  let k := L.get Reg.TGT_SEL_TRACK
  let st := (L.trk k).st
  let named := decide (k < 16)
  condMask
    [L.chart.ok && !L.hw.chartDamaged, L.fusionValid, !L.ntk.hdgLoss, !L.flag Reg.MODE_CUR_ESTOP_ANY, L.alc.thrusters,
     L.ctl.posDef && L.ctl.hdgDef, L.ctl.trackDef, L.selTrack.isSome, L.leversNeutral, L.joyNeutral, L.safetyOk L.sessionOpen,
     L.ntk.refLoss, L.ntk.hdgLoss, decide (L.mode = 11) && decide (L.kc.drLimit ≤ L.ctl.drTime),
     named && (decide (st ≠ 2) && decide (st ≠ 3)) && (decide (4 ≤ st) || (L.trkCfg k).isNone)]

/-- MODE_COND shown (R77, R107). -/
def Lane.condShow (L : Lane) : Lane := L.condSet L.conds

/-- The two words of the mode transition table's entry for an ordered pair (R78): 8 bytes at (f × 12 + t) × 8, little-endian. -/
def ModeChart.words (c : ModeChart) (f t : Nat) : Nat × Nat :=
  let b := c.table.drop ((f * 12 + t) * 8)
  (ofLe (b.take 4), ofLe ((b.drop 4).take 4))

/-- The entry of the mode transition table for an ordered pair (R78); pairs beyond the table's end are all zero. -/
def ModeChart.entry (c : ModeChart) (f t : Nat) : ModeEntry :=
  let w := c.words f t
  ⟨w.1 / 2 ^ 16, w.1 % 2 ^ 16, w.2 / 2 ^ 8 % 2 ^ 8, testBit w.2 1, testBit w.2 0⟩

/-- Every condition of a mask holds. -/
def holdsAll (mask cond : Nat) : Bool := (List.range 16).all fun n => !testBit mask n || testBit cond n

/-- Some condition of a mask holds. -/
def holdsAny (mask cond : Nat) : Bool := (List.range 16).any fun n => testBit mask n && testBit cond n

/-! ### Scheduled actions -/

/-- SCHED_STAT.QUEUED and STAT.SCHED_FULL. -/
def Lane.schedShow (L : Lane) : Lane :=
  let n := L.tk.sched.length
  (L.set Reg.SCHED_STAT_QUEUED n).setb Reg.TICK_STAT_SCHED_FULL (decide (32 ≤ n))

/-- Outcome of an action (R106, R111); each but EXECUTED goes to the Logbook (14 R633). -/
def Lane.schedOutcome (L : Lane) (a : SchedAct) (code : Nat) : Lane :=
  let L := L.setAll [(Reg.SCHED_STAT_OUTCOME, code), (Reg.SCHED_STAT_TAG, a.tag)]
  if code = 0 ∨ code = 1 then L
  else L.post 2 0x04 ([a.tag, code, if a.mode then 1 else 0, 0] ++ leBytes 4 (if a.mode then a.data % 16 else a.addr) ++ timeBytes a.time)

/-- The staged action (R103, R111). SCHED_NS of 1 000 000 000 or more is added to the time as it stands (DESIGN CHOICE, log entry 84):
R111 gives the range and no consequence. -/
def Lane.stagedAct (L : Lane) (mode : Bool) (tag : Nat) : SchedAct :=
  let sec : Nat := L.get Reg.SCHED_SEC_LO_SEC + 2 ^ 32 * L.get Reg.SCHED_SEC_HI_SEC
  { time := (sec : Rat) * 1000000000 + (L.get Reg.SCHED_NS_NS : Rat), mode := mode, addr := L.get Reg.SCHED_ADDR_ADDR,
    data := L.get Reg.SCHED_DATA_DATA, tag := tag % 256 }

/-- A scheduled write may address this register (R106): pages 0x10, 0x11, 0x20–0x2F, at least one RW or WO field. -/
def Lane.schedAddrOk (L : Lane) (addr : Nat) : Bool :=
  let p := addr / 0x400
  decide (addr % 4 = 0) && (decide (p = 0x10) || decide (p = 0x11) || (decide (0x20 ≤ p) && decide (p ≤ 0x2F))) && pagePresent L.variant p &&
    (match rowAt addr with
     | some r => decide (r.rw ≠ 0) || decide (r.wo ≠ 0)
     | none => false)

/-- SCHED_CMD with GO (R103, R106), in the active lane. -/
def Lane.schedSubmit (L : Lane) (mode : Bool) (tag : Nat) : Lane :=
  if !L.active then L
  else
    let L := (L.set Reg.SCHED_CMD_TAG tag).setb Reg.SCHED_CMD_KIND mode
    let a := L.stagedAct mode tag
    let limit : Rat := (L.get Reg.SCHED_LIMIT_MS : Rat) * 1000000
    if 32 ≤ L.tk.sched.length then L.schedOutcome a 4
    else if !mode && !L.schedAddrOk a.addr then L.schedOutcome a 6
    else if !L.timeValid then L.schedOutcome a 8
    else if limit < L.now - a.time then L.schedOutcome a 9
    else ((L.onTk fun k => { k with sched := k.sched ++ [a] }).schedOutcome a 0).schedShow

/-- SCHED_WRITE_SUBMIT (R103). -/
def execSchedWriteSubmit (l : LaneId) (tag : Nat) (s : State) : Out := onLane l (fun L => L.schedSubmit false tag) s

/-- SCHED_MODE_SUBMIT (R103). -/
def execSchedModeSubmit (l : LaneId) (tag : Nat) (s : State) : Out := onLane l (fun L => L.schedSubmit true tag) s

/-- CTRL.SCHED_FLUSH (R108): each action is reported FLUSHED. -/
def Lane.schedFlush (L : Lane) : Lane :=
  let L := L.tk.sched.foldl (fun L a => L.schedOutcome a 5) L
  (L.onTk fun k => { k with sched := [] }).schedShow

/-- SCHED_FLUSH (R108). -/
def execSchedFlush (l : LaneId) (s : State) : Out := onLane l (fun L => if L.active then L.schedFlush else L) s

/-! ### Mode requests -/

/-- The outcome of a request (R83); MODE_REFUSED where it is neither ACCEPTED nor SAME. A scheduled request is reported in
SCHED_STAT too (R106, R111). -/
def Lane.modeResult (L : Lane) (r : ModeReqPend) (code : Nat) : Lane :=
  let L := L.setAll [(Reg.MODE_RESULT_COND_SNAP, L.get Reg.MODE_COND_COND), (Reg.MODE_RESULT_TAG, r.tag), (Reg.MODE_RESULT_CODE, code)]
  let refused := decide (code ≠ 0) && decide (code ≠ 7)
  let L := L.findIf refused 0x02 1
  match r.sched with
  | some (a, late) => L.schedOutcome a (if refused then 7 else if late then 2 else 1)
  | none => L

/-- A request becomes the pending one; one that it replaces is SUPERSEDED (R81, R106). -/
def Lane.modePend (L : Lane) (r : ModeReqPend) : Lane :=
  let L := match L.tk.pendMode with
    | some p => L.modeResult p 3
    | none => L
  L.onTk fun k => { k with pendMode := some r }

/-- A write of MODE_REQ with GO (R81, R83, R84). -/
def Lane.modeReq (L : Lane) (mode tag : Nat) : Lane :=
  let L := (L.set Reg.MODE_REQ_MODE mode).set Reg.MODE_REQ_TAG tag
  let r : ModeReqPend := { mode := mode % 16, tag := tag % 256 }
  if L.active then L.modePend r else L.modeResult r 5

/-- MODE_REQ (R81). -/
def execModeReq (l : LaneId) (mode tag : Nat) (s : State) : Out := onLane l (fun L => L.modeReq mode tag) s

/-! ### LUBBER -/

/-- Registers of pages set back to their reset values. -/
def Lane.resetPages (L : Lane) (p : Nat → Bool) : Lane := L.onRegs fun m => m.filter fun e => !p (e.1 / 0x400)

/-- Pages that keep their reset values in LUBBER (06 R233; 18 R620). -/
def lubberPage (p : Nat) : Bool :=
  (decide (0x08 ≤ p) && decide (p ≤ 0x0B)) || decide (p = 0x10) || decide (p = 0x11) || (decide (0x30 ≤ p) && decide (p ≤ 0x33))

/-- The lane enters LUBBER (R99): no Plotter, no allocation, no automatic function; it is not able to take over. `late`: by a
transition that a frame fault deferred (R109). -/
def Lane.enterLubber (L : Lane) (reason : Nat) (late : Bool := false) : Lane :=
  let old := L.mode
  let L := (L.sessionEnd.chartAbandon).resetPages lubberPage
  let L := L.setAll [(Reg.MODE_CUR_PREV, old), (Reg.MODE_CUR_MODE, 2), (Reg.MODE_CUR_LATE, if late then 1 else 0), (Reg.MODE_CUR_BLENDING, 0),
    (Reg.BOOT_CAUSE_LUBBER, reason), (Reg.TICK_STAT_LUBBER, 1),
    (Reg.TICK_STAT_FUSION_VALID, 0), (Reg.LANE_STAT_ACTIVE, 0), (Reg.RED_STAT_ACTIVE, 0), (Reg.RED_ROLE_ROLE, Role.lubber.code),
    (Reg.RED_RESYNC_STAGE, 0), (Reg.RED_STAT_RESYNC, 0)]
  let L := L.onTk fun k => { k with pendMode := none, lateMode := false, lubberAfter := false, lubberLate := false, goLubber := none }
  let L := L.onRed fun r => { r with plan := none }
  let L := (L.onPlt fun _ => {}).onNtk fun k => { slots := List.replicate 30 {}, desWritten := k.desWritten }
  let L := L.onCtl fun _ => {}
  let L := L.onAlc fun a => { chans := a.chans, buses := a.buses }
  let L := L.onSx fun _ => {}
  L.find 0x02 0

/-! ### Transitions -/

/-- A transition made at the boundary (R82, 05 R206): the handover starts, the demand is 0 in modes 3 and 4 (05 R208), a safety session outside modes 3 and 4 ends
(11 R428), allocation starts from the committed state on leaving modes 3 to 5 (06 R231). -/
def Lane.modeGoto (L : Lane) (dest : Nat) (late : Bool) : Lane :=
  let f := L.mode
  let L := L.setAll [(Reg.MODE_CUR_PREV, f), (Reg.MODE_CUR_MODE, dest), (Reg.MODE_CUR_LATE, if late then 1 else 0)]
  let L := (L.onTk fun k => { k with lateMode := false }).find 0x02 0
  let L := ((L.rampEntry f dest).onCtl fun c => { c with fromMode := some f, dem := if dest = 3 ∨ dest = 4 then {} else c.dem }).ctlStat
  let L := if 3 ≤ f ∧ f ≤ 5 ∧ 6 ≤ dest then L.onAlc fun a => { a with warm := true } else L
  if dest = 3 ∨ dest = 4 then L else L.sessionEnd

/-- The handover tick H (12 R459): the last tick of a position cycle at least two ticks after the decision, by TICK_CNT. -/
def Lane.handoverTick (L : Lane) : Nat :=
  let d := 9 - L.get Reg.TICK_POS_TICK % 10
  (L.get Reg.TICK_CNT_COUNT + (if d < 2 then d + 10 else d)) % 2 ^ 32

/-- A planned handover is named (12 R459), unless one already is. -/
def Lane.planHandover (L : Lane) (c : TakeCause) : Lane :=
  if L.red.plan.isSome then L
  else
    let h := L.handoverTick
    L.onRed fun r => { r with plan := some (h, c) }

/-- The automatic transition to take (R82): lowest PRIORITY, then lowest mode number. -/
def Lane.autoMode (L : Lane) : Option Nat :=
  let c := L.get Reg.MODE_COND_COND
  let m := L.chart.now.modes
  let cand := (List.range 12).filter fun t =>
    let e := m.entry L.mode t
    e.auto && decide (t ≠ L.mode) && holdsAny e.trigger c && holdsAll e.require c && (!L.coasting || decide (t = 2) || decide (t = 4))
  cand.foldl (fun (b : Option Nat) t => match b with
    | none => some t
    | some u => if (m.entry L.mode t).priority < (m.entry L.mode u).priority then some t else some u) none

/-- A lane that goes to LUBBER by a transition (12 R461): an active lane with an ABLE standby hands over first. -/
def Lane.toLubber (L : Lane) (late : Bool) : Lane :=
  if L.red.peerAble then
    let L := L.planHandover .peerLubber
    L.onTk fun k => { k with lubberAfter := true, lubberLate := late }
  else L.onTk fun k => { k with goLubber := some late }

/-- A planned handover is cancelled (12 R459): the lane stays active, but one on its way to LUBBER enters it and keeps the grant, as
where the standby is not ABLE (12 R461). -/
def Lane.cancelHandover (L : Lane) : Lane :=
  let goes := L.tk.lubberAfter
  let late := L.tk.lubberLate
  let L := (L.onRed fun r => { r with plan := none, outgoing := none }).onTk fun k => { k with lubberAfter := false }
  if goes then L.enterLubber 3 late else L

/-- A transition to a mode. -/
def Lane.transit (L : Lane) (dest : Nat) (late : Bool) : Lane := if dest = 2 then L.toLubber late else L.modeGoto dest late

/-- Code of a request that is not taken over by an automatic transition (R83): NOT_PERMITTED where the entry has neither HOST nor
AUTO set; the order of the codes is DEDUCED (log entry 15). -/
def Lane.requestCode (L : Lane) (dest : Nat) : Nat :=
  let e := L.chart.now.modes.entry L.mode dest
  if dest = L.mode then 7
  else if dest < 2 ∨ 11 < dest ∨ (!e.host && !e.auto) then 1
  else if L.coasting ∧ dest ≠ 2 ∧ dest ≠ 4 then 6
  else if !holdsAll e.require (L.get Reg.MODE_COND_COND) then 2
  else 0

/-- Transitions at a position-cycle boundary (R82), with the conditions as shown. -/
def Lane.modeEval (L : Lane) : Lane :=
  if !L.active ∨ L.mode < 3 ∨ L.tk.goLubber.isSome then L
  else
    let late := L.tk.lateMode
    let p := L.tk.pendMode
    let L := L.onTk fun k => { k with pendMode := none, lateMode := false }
    match L.autoMode with
    | some t =>
      let L := match p with
        | some r => L.modeResult r 4
        | none => L
      L.transit t late
    | none =>
      match p with
      | none => L
      | some r =>
        let code := L.requestCode r.mode
        let L := L.modeResult r code
        if code = 0 then L.transit r.mode late else L

/-- DR_EXPIRED (05 R198; R77): the timer has reached DR_LIMIT and the condition holds; step 3 of the next boundary evaluates it
(05 R190; log entry 18). -/
def Lane.drExpired (L : Lane) : Lane :=
  if L.mode = 11 ∧ L.kc.drLimit ≤ L.ctl.drTime then L.setBit Reg.MODE_COND_COND 13 true else L

/-- DR_EXPIRED (05 R198). -/
def execDrExpired (l : LaneId) (s : State) : Out := onLane l Lane.drExpired s

end Sys2Proof.Machine
end

