-- ==== Sys2Proof/Machine/Chartrange.lean ====
section
/-! DEFINITION. The structure and the field ranges of a Chart's sections (11 R425 FORMAT): a section that breaks one is refused. -/

namespace Sys2Proof.Machine

open Sys2Proof

/-- A number lies in a range. -/
def within (lo hi x : Rat) : Bool := decide (lo ≤ x) && decide (x ≤ hi)
def withinN (lo hi x : Nat) : Bool := decide (lo ≤ x) && decide (x ≤ hi)

/-- An entry that the Chart may leave out lies in its range. -/
def optIn {α : Type} (o : Option α) (p : α → Bool) : Bool := match o with
  | some x => p x
  | none => true

/-- An entry that has no default is set, and lies in its range. -/
def mustIn {α : Type} (o : Option α) (p : α → Bool) : Bool := match o with
  | some x => p x
  | none => false

/-- Each component of a vector lies within a bound (the axes of LEVER, R114 and R172). -/
def axesIn (b : Rat) (v : Rat × Rat × Rat) : Bool := within (-b) b v.1 && within (-b) b v.2.1 && within (-b) b v.2.2

/-! ### Modes (02 R78, R111) -/

/-- The mode transition table has its 144 entries of bytes, reserved bits 0; SCHED_LIMIT (02 R78, R111). -/
def ModeChart.formOk (c : ModeChart) : Bool :=
  let res (f t : Nat) : Bool := let w := (c.words f t).2; decide (w / 2 ^ 16 = 0) && decide (w / 4 % 2 ^ 6 = 0)
  decide (c.table.length = 1152) && c.table.all (fun b => decide (b < 256)) && ((List.range 12).all fun f => (List.range 12).all (res f))
    && withinN 100 60000 c.schedLimit

/-! ### References (03 R114, R118, R120) -/

/-- Ranges of a slot entry (03 R114). -/
def SlotEntry.rangeOk (e : SlotEntry) (s : Nat) : Bool :=
  let k := kindOf s
  let pos := decide (k = .position)
  let src : Bool := match k with
    | .position => decide (e.source ≠ 2) && decide (e.source ≠ 6)
    | .heading => decide (e.source ≠ 1) && decide (e.source ≠ 5)
    | _ => decide (e.source ≠ 1) && decide (e.source ≠ 2) && decide (e.source ≠ 5)
  let sigma : Rat → Bool := match k with
    | .position => within (1 / 100) 100
    | .wind => within (1 / 10) 10
    | _ => within (1 / 100) 10
  let med : Rat → Bool := match k with
    | .position => within (1 / 5) 50
    | .heading => within (1 / 5) 20
    | .motion => within (1 / 10) 10
    | .wind => within (1 / 2) 20
  let med2 : Rat → Bool := match k with
    | .motion => within (1 / 10) 5
    | .wind => within 2 90
    | _ => fun _ => true
  let deg : Rat → Bool := within 0 360
  decide (e.source ≤ 6) && src && decide (e.ant ≤ 2) && optIn e.group (withinN 0 15) && within 0 2000 e.latency && mustIn e.sigma sigma
    && (decide (k ≠ .motion) || mustIn e.sigma2 (within (1 / 100) 5)) && optIn e.gate (within 4 50) && optIn e.jump (within 1 (if pos then 100 else 45))
    && optIn e.medianLim med && optIn e.medianLim2 med2 && withinN 2 50 e.rejectCnt && withinN 200 10000 e.timeout && optIn e.admitTime (withinN 10 600)
    && axesIn 200 e.lever && optIn e.shadow (fun x => deg x.1 && deg x.2)

/-- The reference section (03 R114, R118, R120): at most 96 sentence and 32 binary entries, each of its layout. -/
def RefChart.formOk (c : RefChart) : Bool :=
  decide (c.slots.length ≤ 30) && ((List.range 30).all fun s => optIn (c.slots.getD s none) fun e => e.rangeOk s)
    && withinN 0 60 c.shortDropout && withinN 2 60 c.shortAdmit && within 1 100 c.tdegFactor && decide (c.deselect < 2 ^ 30)
    && decide (c.sentTable.length ≤ 96) && c.sentTable.all (fun b => (SentEntry.ofBytes b).isSome)
    && decide (c.binTable.length ≤ 32) && c.binTable.all (fun b => (BinEntry.ofBytes b).isSome)

/-! ### Vessel model (04 R155) -/

/-- A 3 × 3 matrix. -/
def square3 (m : List (List Rat)) : Bool := decide (m.length = 3) && m.all fun r => decide (r.length = 3)

/-- The vessel-model section (04 R155): what has no default is set. -/
def VesselChart.formOk (c : VesselChart) : Bool :=
  let coef (l : List Rat) : Bool := decide (l.length = 36) && l.all (within (-5) 5)
  square3 c.m && square3 c.d && within (11 / 10) (7 / 5) c.rho && within 1 10000 c.aF && within 1 10000 c.aL && within 5 500 c.lOA
    && coef c.cx && coef c.cy && coef c.cn && within (1 / 2) 30 c.windTau && within (1 / 1000) 1 c.qUV && within (1 / 1000) 1 c.qR
    && within (1 / 100) 2 c.qW && within 10 100000 c.qB && within 1000 5000000 c.qBM && within 60 3600 c.biasTau && within 0 3 c.biasScale
    && within 1 10000 c.p0Pos && within 1 180 c.p0Hdg && within (1 / 10) 10 c.p0Vel && within (1 / 10) 10 c.p0R && within 1000 1000000 c.p0B
    && within 10000 50000000 c.p0BM && within (1 / 10) 50 c.validPos && within (1 / 10) 10 c.validHdg && within 1 500 c.lostPos
    && within 1 90 c.lostHdg && within 30 600 c.envSettle

/-! ### Targets (04 R172, R173) -/

/-- Ranges of a track entry: at least one position slot feeds it (04 R172). -/
def TrackChart.rangeOk (c : TrackChart) : Bool :=
  decide (c.feed < 2 ^ 20) && decide (c.feed % 2 ^ 12 ≠ 0) && axesIn 200 c.lever && within (1 / 1000) 2 c.qA && within (1 / 1000) 2 c.qTurn
    && within 1 1000 c.p0 && within (1 / 10) 50 c.valid && within 1 60 c.coast && within 2 600 c.lost

/-- The target section (04 R172, R173): a slot stands in the FEED of at most one track. -/
def TargetChart.formOk (c : TargetChart) : Bool :=
  let trk (k : Nat) : Option TrackChart := c.tracks.getD k none
  let once (s : Nat) : Bool := decide (((List.range 16).filter fun k => ((trk k).map fun t => testBit t.feed s).getD false).length ≤ 1)
  decide (c.tracks.length ≤ 16) && ((List.range 16).all fun k => optIn (trk k) TrackChart.rangeOk) && (List.range 20).all once

/-! ### Control (05 R214) -/

/-- A mode is configured: the table has an entry into it that the host or an automatic transition may use (log entry 87). -/
def ModeChart.configured (c : ModeChart) (m : Nat) : Bool :=
  (List.range 12).any fun f => let e := c.entry f m; e.host || e.auto

/-- An entry lies from 0 (or `lo`) to `hi`, and is set where it is needed. -/
def needIn (need : Bool) (lo hi : Rat) (o : Option Rat) : Bool := if need then mustIn o (within lo hi) else optIn o (within lo hi)

/-- Gains within their ranges, set where a mode needs them. -/
def GainsEntry.okFor (g : GainsEntry) (need : Bool) (p d i : Rat) : Bool := needIn need 0 p g.kp && needIn need 0 d g.kd && needIn need 0 i g.ki

/-- Limits of a ramp within their ranges. -/
def RampLim.okFor (l : RampLim) (v0 v1 a0 a1 j0 j1 : Rat) : Bool := within v0 v1 l.v && within a0 a1 l.a && within j0 j1 l.j

/-- Gains and limits of the control section (05 R214): set for the axes of the configured modes. -/
def ControlEntry.axesOk (c : ControlEntry) (modes : ModeChart) : Bool :=
  let on (l : List Nat) : Bool := l.any modes.configured
  let pos := on [9, 10]
  let ap := on [8]
  let sway := ap && c.trackSway
  let all := on [6, 7, 8, 9, 10]
  c.sx.okFor pos 1000 10000 100 && c.sy.okFor pos 1000 10000 100 && c.sn.okFor (on [7, 9, 10]) 10000 100000 1000
    && needIn ap 0 1000 c.tu.kp && needIn ap 0 100 c.tu.ki && c.ty.okFor sway 1000 10000 100 && c.tn.okFor ap 10000 100000 1000
    && needIn (pos || ap) 0 1000 c.intLim.x && needIn (pos || sway) 0 1000 c.intLim.y && needIn (on [7, 8, 9, 10]) 0 100000 c.intLim.n
    && needIn all 1 5000 c.axisLim.x && needIn all 1 5000 c.axisLim.y && needIn all 1 500000 c.axisLim.n
    && needIn all 1 1000 c.axisRate.x && needIn all 1 1000 c.axisRate.y && needIn all 10 100000 c.axisRate.n
    && optIn c.joyGain.x (within 0 (c.axisLim.x.getD 0)) && optIn c.joyGain.y (within 0 (c.axisLim.y.getD 0))
    && optIn c.joyGain.n (within 0 (c.axisLim.n.getD 0))

/-- The control section (05 R214). -/
def ControlEntry.formOk (c : ControlEntry) (modes : ModeChart) : Bool :=
  c.axesOk modes && within (1 / 200) (1 / 5) c.satTol && within 0 1 c.kWind && within 0 1 c.kEnv && within (1 / 2) 30 c.transfer
    && c.pos.okFor (1 / 20) 3 (1 / 200) (1 / 2) (1 / 1000) (1 / 2) && c.hdg.okFor (1 / 10) 10 (1 / 100) 2 (1 / 200) 2
    && c.spd.okFor (1 / 2) 10 (1 / 100) 1 (1 / 200) 1 && within 1 1000 c.spMaxDist && within 20 2000 c.losDist && within 1 500 c.arriveDist
    && within (1 / 10) 5 c.ftVmax && within (1 / 5) 1 c.drScale && within 10 600 c.drLimit && within (1 / 20) 10 c.plausPos
    && within (1 / 20) 10 c.plausHdg && within (1 / 100) 2 c.plausVel && withinN 1 50 c.plausOk && within 1 60 c.plausHold
    && withinN 50 2000 c.joyTimeout && within 0 (1 / 5) c.joyDead

/-! ### Channels and allocation (06 R222, R223) -/

/-- A value lies on a grid. -/
def onGrid (step x : Rat) : Bool := decide ((x / step).den = 1)

/-- Each element of a list and the one after it. -/
def pairsOf {α : Type} (l : List α) : List (α × α) := l.zip (l.drop 1)

/-- A thrust curve (06 R222): strictly monotone, through (0, 0), with 2 to 24 points in each direction in which the demand may go,
the origin among them. -/
def thrustCurveOk (nMin nMax : Rat) (l : List (Rat × Rat)) : Bool :=
  let up := (l.filter fun p => decide (0 ≤ p.1)).length
  let dn := (l.filter fun p => decide (p.1 ≤ 0)).length
  let side (n : Nat) (used : Bool) : Bool := if used then withinN 2 24 n else withinN 1 24 n
  l.contains (0, 0) && (pairsOf l).all (fun p => decide (p.1.1 < p.2.1) && decide (p.1.2 < p.2.2)) && side up (decide (0 < nMax))
    && side dn (decide (nMin < 0))

/-- A power curve in one direction (06 R222): from (0, 0), non-decreasing and convex. -/
def powerCurveOk (used : Bool) (l : List (Rat × Rat)) : Bool :=
  let p := pairsOf l
  let slope (q : (Rat × Rat) × (Rat × Rat)) : Rat := (q.2.2 - q.1.2) / (q.2.1 - q.1.1)
  (if used then withinN 2 16 l.length else decide (l.length ≤ 16)) && decide (l.head? = none ∨ l.head? = some (0, 0))
    && p.all (fun q => decide (q.1.1 < q.2.1) && decide (q.1.2 ≤ q.2.2)) && (pairsOf p).all fun r => decide (slope r.1 ≤ slope r.2)

/-- What a channel entry must give (06 R222): its type, position, limits, curves, rates, paths and loops. -/
def ChanEntry.setOk (e : ChanEntry) : Bool :=
  let any (_ : Rat) : Bool := true
  e.ty.isSome && e.pitch.isSome && mustIn e.x (fun v => within (-200) 200 v && onGrid (1 / 100) v)
    && mustIn e.y (fun v => within (-200) 200 v && onGrid (1 / 100) v) && mustIn e.tFwd (within 0 2000) && e.thrust.isSome && e.powF.isSome && e.powR.isSome
    && mustIn e.rateUp (fun v => decide (0 ≤ v)) && mustIn e.rateDown (fun v => decide (0 ≤ v)) && mustIn e.bus (withinN 0 3)
    && mustIn e.cmdPath (withinN 1 3) && mustIn e.fbPath (withinN 1 3) && mustIn e.kpPwr any && mustIn e.iLim (within 1 10000) && mustIn e.kpTh any
    && mustIn e.kpBp any

/-- The field maps of a channel entry have the format of R120 and its quantity codes (06 R240, R627). -/
def ChanEntry.mapsOk (e : ChanEntry) : Bool :=
  let ok (lo hi : Nat) (b : List Nat) : Bool := decide (b.length = 8) && b.all (fun x => decide (x < 256)) && match ByteMap.ofBytes b with
    | some m => withinN lo hi m.qty
    | none => false
  e.cmdRaw.all (ok 0x20 0x23) && e.fbRaw.all fun f => decide (f.1 < 8) && decide (f.2.1 < 256) && ok 0x24 0x2A f.2.2

/-- The fields of a channel entry lie in their ranges (06 R222). AZ_RATE concerns an AZIMUTH, the rudder fields a MAIN_RUDDER. -/
def ChanEntry.formOk (e : ChanEntry) : Bool :=
  let c := e.resolve
  let az := decide (c.ty = .azimuth)
  let rud := decide (c.ty = .mainRudder)
  let nOk : Bool := if c.pitch then mustIn e.nMax (within (-100) 100) && mustIn e.nMin (within (-100) 0)
    else mustIn e.nMax (within 0 3000) && mustIn e.nMin (within (-3000) 0)
  e.setOk && e.mapsOk && nOk && within 0 2000 c.tRev && thrustCurveOk c.nMin c.nMax c.thrust && powerCurveOk (decide (0 < c.nMax)) c.powF
    && powerCurveOk (decide (c.nMin < 0)) c.powR && optIn e.rateFast (fun v => decide (0 ≤ v)) && needIn az (1 / 2) 30 e.azRate
    && needIn rud 5 45 e.rudMax && needIn rud 1 10 e.rudRate && needIn rud 0 45 e.rudArc && within (1 / 2) 1 c.rudEff
    && decide (c.sectors.length ≤ 4) && c.sectors.all (fun s => within 0 360 s.lo && within 0 360 s.hi && onGrid (1 / 10) s.lo && onGrid (1 / 10) s.hi)
    && within 0 (1 / 5) c.idleFrac && optIn c.so (withinN 0 7) && withinN 5 1000 c.fbTimeout && within (1 / 10) 60 c.fbGrace
    && optIn e.feDem (fun v => decide (0 ≤ v)) && within 1 90 c.feAng && within (1 / 2) 60 c.feTime && within 20 150 c.tDerate
    && within (c.tDerate + 5) 160 c.tTrip && optIn e.trackMargin (within (c.nAbs / 200) (c.nAbs / 10)) && within 0 (1 / 5) c.leverNeutral
    && onGrid (1 / 100) c.leverNeutral

/-- A bus of the power-management interface: its rating and set frequency are given where a channel stands on it (06 R223). -/
def BusChart.formOk (b : BusChart) (used : Bool) : Bool := needIn used 10 60000 b.rating && within 0 (1 / 2) b.reserve && needIn used 45 65 b.fBp
  && within (1 / 10) 1 b.lrFrac

/-- The channel and the allocation section (06 R222, R223). -/
def AllocChart.formOk (c : AllocChart) : Bool :=
  let used (b : Nat) : Bool := (List.range 16).any fun n => (c.chan n).any fun k => decide (k.bus = b)
  decide (c.chans.length ≤ 16) && ((List.range 16).all fun n => optIn (c.chans.getD n none) ChanEntry.formOk) && withinN 1 16 c.minThrusters
    && within 1 1000000 c.qx && within 1 1000000 c.qy && within (1 / 10000) 1000 c.qn && within 0 100 c.wPower && within 0 10 c.wWear
    && within 0 10 c.wTrack && within 0 (1 / 2) c.arcHyst && withinN 100 5000 c.limitHold && decide (c.buses.length ≤ 4)
    && ((List.range 4).all fun b => (c.buses.getD b {}).formOk (used b)) && withinN 100 5000 c.pmTimeout && within 0 1 c.pmFallback

/-! ### The Sextant (07 R297) -/

/-- The Sextant section (07 R297); the baselines' own limits are R289's. -/
def SextantChart.formOk (c : SextantChart) : Bool :=
  let mm (v : Rat × Rat × Rat) : Bool := onGrid (1 / 1000) v.1 && onGrid (1 / 1000) v.2.1 && onGrid (1 / 1000) v.2.2
  let below : Bool := decide (c.tapNarrow < c.wide .gps false) && decide (c.tapNarrow < c.wide .gal false)
  (c.gps || c.gal || c.bds) && decide (c.elevMask ≤ 30) && withinN 20 45 c.cn0Use && withinN 15 35 c.cn0Track && optIn c.tapWide (within (1 / 10) 1)
    && within (1 / 20) (1 / 4) c.tapNarrow && below && within 5 25 c.pllBw && within (1 / 20) 2 c.dllBw && within 0 300 c.smooth && within 2 20 c.pdopMax
    && within (1 / 5) 5 c.sigmaUere && optIn c.b12 mm && optIn c.b13 mm && within (5 / 1000) (1 / 10) c.baseTol && within (3 / 2) 10 c.ratio
    && decide (c.antDelay.length = 3) && c.antDelay.all (fun d => decide (d ≤ 8000)) && decide (c.bias.length = 3)

/-! ### The analogue section (08 R334) -/

/-- The entries of an input and of an output (08 R334); limits in % of a span of 20 V or 20 mA. -/
def AiChart.formOk (c : AiChart) : Bool :=
  decide (c.mode ≤ 2) && decide (c.order ≤ 2) && decide (c.decim ≤ 2) && withinN 1 3600 c.dcbTau && decide (c.group ≤ 15) && decide (c.phase ≤ 1023)
    && decide (20000 ≤ c.stepLim) && decide (c.stepLim ≤ 4000000) && decide (20000 ≤ c.xcheckLim) && decide (c.xcheckLim ≤ 1000000)
def AoChart.formOk (c : AoChart) : Bool :=
  decide (c.mode ≤ 2) && optIn c.channel (fun q => decide (q.1 < 16)) && (decide (c.mode = 0) || optIn c.hostInit fun v => decide (aoClamp c.mode v = v))
def AnaChart.formOk (c : AnaChart) : Bool :=
  decide (c.ins.length = 32) && c.ins.all AiChart.formOk && decide (c.outs.length = 16) && c.outs.all AoChart.formOk

/-! ### The chronometer (09 R371) -/

/-- A domain's entries (09 R371). -/
def PtpChart.formOk (c : PtpChart) : Bool :=
  decide (c.domain ≤ 127) && decide (-7 ≤ c.logSync) && decide (c.logSync ≤ 1) && decide (0 ≤ c.logAnnounce) && decide (c.logAnnounce ≤ 4)
    && decide (0 ≤ c.logMinDelayReq) && decide (c.logMinDelayReq ≤ 5) && withinN 2 10 c.announceTimeout && decide (c.prio1 ≤ 255) && decide (c.prio2 ≤ 255)
    && withinN 6 248 c.classMax

/-- The chronometer section (09 R371). -/
def ChronChart.formOk (c : ChronChart) : Bool :=
  let tau (t : Rat) : Bool := within 1 1000 t
  let asym (v : Int) : Bool := decide (-1000000 ≤ v) && decide (v ≤ 1000000)
  decide (c.prio.length = 3) && ([1, 2, 3].all fun k => c.prio.contains k) && decide (c.srcDis < 8) && tau c.tauGnss && tau c.tauPri && tau c.tauSec
    && tau c.tauLane && withinN 4 256 c.qualN && within 100 100000 c.qualTol && within 1000 1000000 c.gate && within 200000000 10000000000 c.lossTime
    && within 50 100000 c.lockTol && within 0 3600000000000 c.revertHold && within 10000000000 3600000000000 c.holdAvg && within 100 10000000 c.holdLimit
    && within 0 1000 c.refAging && within 1 50000 c.refTol && decide (c.utcOfs ≤ 255) && c.dom0.formOk && c.dom1.formOk && asym c.asymA && asym c.asymB
    && decide (c.ppsMode0 ≤ 2) && decide (c.ppsMode1 ≤ 2) && withinN 1 500 c.ppsWidth0 && withinN 1 500 c.ppsWidth1 && decide (c.ppsDelay0 ≤ 8000)
    && decide (c.ppsDelay1 ≤ 8000)

/-! ### CAN ports (10 R385, R389, R391, R403) -/

/-- An identifier fits its format. -/
def canIdOk (ide : Bool) (id : Nat) : Bool := decide (id < if ide then 2 ^ 29 else 2 ^ 11)

/-- Numbers and ranges of a port's objects, columns and matrix (10 R376, R385, R389, R391). -/
def CanEntry.formOk (e : CanEntry) : Bool :=
  let tx := e.tx.all fun o => decide (o.num < 64) && canIdOk o.ide o.id && decide (o.dlc ≤ if o.fdf then 15 else 8) && match o.source with
    | .channel n => decide (n < 16)
    | _ => true
  let rx := e.rx.all fun o => decide (o.num < 256) && canIdOk o.ide o.id && decide (o.len ≤ 64)
  let cols := e.cols.all fun q => decide (q.1 < 32)
  let mat := (decide (e.matrix = []) || decide (e.matrix.length = 512)) && e.matrix.all fun b => decide (b < 256)
  tx && rx && cols && mat && decide (e.tx.map TxObj.num).Nodup && decide (e.rx.map RxObj.num).Nodup && decide (e.cols.map Prod.fst).Nodup

def CanChart.formOk (c : CanChart) : Bool := decide (c.ports.length = 8) && c.ports.all CanEntry.formOk

/-! ### Network and serial ports (11 R410-R413, R431, R432) -/

/-- A source entry: an SFI of six characters (11 R413). -/
def L450Source.formOk (e : L450Source) : Bool := decide (e.sfi.length = 6)

/-- A serial port: MODE, RATE and transmit entries (11 R431, R432, R440). -/
def SerCfg.formOk (c : SerCfg) : Bool :=
  decide (c.mode ≤ 2) && decide (c.rate ≤ 5) && decide (c.entries.length ≤ 8)
    && c.entries.all fun e => decide (e.kind = .host) || (withinN 10 60000 e.period && decide (e.period % 10 = 0))

/-- The network and serial section: every port has an address (11 R410). -/
def NetChart.formOk (c : NetChart) : Bool :=
  let addr (x : Nat × Nat) : Bool := decide (x.1 < 2 ^ 32) && decide (x.2 < 2 ^ 32)
  decide (c.ip.length = 4) && c.ip.all addr && decide (c.gateways.length ≤ 4) && c.gateways.all (fun g => optIn g fun a => decide (a < 2 ^ 32))
    && decide (c.groups < 2 ^ 16) && decide (c.sources.length ≤ 32) && c.sources.all L450Source.formOk && decide (c.serial.length = 12)
    && c.serial.all SerCfg.formOk

/-! ### Redundancy (12 R471) -/

def RedChart.formOk (c : RedChart) : Bool := withinN 10 3600 c.holdoff

/-! ### The safety portion (13 R513) -/

def SafetyPortion.formOk (p : SafetyPortion) : Bool :=
  let si (c : SiCfg) : Bool := withinN 10 1000 c.discTime
  let so (c : SoCfg) : Bool := c.stopMask.all (fun n => decide (n < 16)) && decide c.stopMask.Nodup && optIn c.resetSi (fun n => decide (n < 16))
    && withinN 20 500 c.fbPull && withinN 20 500 c.fbDrop
  decide (p.image.ins.length = 16) && p.image.ins.all si && decide (p.image.outs.length = 8) && p.image.outs.all so && decide (p.tpEn < 256)
    && withinN 1 600 p.tpPeriod && withinN 10 45 p.tpWidth && (!p.pwChange || decide (p.pwNew.length = 32))

/-! ### Logbook, clocks, temperatures (14 R529, 15 R557, 16 R581) -/

/-- The Logbook section (14 R529). -/
def LogChart.formOk (c : LogChart) : Bool :=
  c.sev.all (fun e => decide (e.1 < 256) && decide (e.2 ≤ 7)) && decide (c.level ≤ 5) && withinN 4 7 c.crossLevel

/-- The clock section (15 R557). -/
def ClockChart.formOk (c : ClockChart) : Bool := decide (c.revert = 0) || withinN 10 3600 c.revert

/-- The thermal section (16 R581). -/
def ThermChart.formOk (c : ThermChart) : Bool :=
  let one (k : Nat) : Bool :=
    let r := c.req.getD k 0
    let x := c.crit.getD k 0
    decide (400 ≤ r) && decide (r ≤ 1400) && decide (r + 50 ≤ x) && decide (x ≤ 1500)
  decide (c.req.length = 12) && decide (c.crit.length = 12) && (List.range 12).all one && decide (c.zoneOfs.length = 5)
    && c.zoneOfs.all (fun z => decide (0 ≤ z) && decide (z ≤ 200)) && withinN 10 6000 c.grace && decide (c.thrTracks ≤ 16) && withinN 10 1000 c.rapRate

/-! ### The Chart -/

/-- The sections that were loaded keep their structure and ranges (11 R425 FORMAT, R631); what the control section must hold depends
on the modes that the table configures. -/
def Chart.formOk (c : Chart) (has : Nat → Bool) : Bool :=
  (!has 1 || c.modes.formOk) && (!has 2 || c.red.formOk) && (!has 3 || c.safety.formOk) && (!has 4 || c.refs.formOk)
    && (!has 5 || c.vessel.formOk) && (!has 6 || c.targets.formOk) && (!(has 7 || has 1) || c.ctl.formOk c.modes)
    && (!(has 8 || has 9) || c.alloc.formOk) && (!has 10 || c.sx.formOk) && (!has 11 || c.ana.formOk) && (!has 12 || c.chron.formOk)
    && (!has 13 || c.can.formOk) && (!has 14 || c.net.formOk) && (!has 15 || c.log.formOk) && (!has 16 || c.clock.formOk)
    && (!has 17 || c.therm.formOk)

end Sys2Proof.Machine
end

