-- ==== Sys2Proof/Machine/Chartcheck.lean ====
section
/-! DEFINITION. The checks of a Chart's content (11 R425 and the rules that refuse a Chart under 00 R12). -/

namespace Sys2Proof.Machine

open Sys2Proof

/-- The mode transition table keeps every rule of 02 R79. -/
def ModeChart.okTable (m : ModeChart) : Bool :=
  let perm (e : ModeEntry) : Bool := e.host || e.auto
  let one (f t : Nat) : Bool :=
    let e := m.entry f t
    if perm e then
      decide (2 < f) && decide (f < 12) && decide (1 < t) && decide (t < 12) && (decide (t ≠ 3) || decide (f = 4))
        && (!(decide (7 ≤ t) && decide (t ≤ 10)) || testBit e.require 1)
        && (decide (t ≠ 11) || (decide (7 ≤ f) && decide (f ≤ 10)))
    else decide (e.trigger = 0) && decide (e.require = 0) && decide (e.priority = 0)
  let toReady (f : Nat) : Bool := let e := m.entry f 4; perm e && decide (e.require = 0)
  ((List.range 12).all fun f => (List.range 12).all (one f)) && ((List.range 12).drop 5).all toReady

/-- The configured slots with their numbers. -/
def RefChart.list (c : RefChart) : List (Nat × SlotChart) :=
  (List.range 30).filterMap fun s => (c.slot s).map fun x => (s, x)

/-- The configured channels with their numbers. -/
def AllocChart.list (c : AllocChart) : List (Nat × ChanChart) :=
  (List.range 16).filterMap fun n => (c.chan n).map fun x => (n, x)

/-- The field of a value source on an analogue input. -/
def ValSrc.input : ValSrc → Option Nat
  | .can _ _ _ _ _ => none
  | .ana m => some m.input

/-- The receive object and the end of the field of a value source (10 R385). -/
def ValSrc.canNeed : ValSrc → List (Nat × Nat × Nat)
  | .can p o m _ _ => [(p, o, m.ofs + m.width)]
  | .ana _ => []

/-- Optional things as a list. -/
def optList {α β : Type} (o : Option α) (f : α → List β) : List β := (o.map f).getD []

/-- The Chart configures a unit that the variant does not hold (00 R12, 03 R115, 04 R179). R12 does not list what configures an
absent unit; the list here is the model's (DESIGN CHOICE, log entry 31). -/
def Chart.absentUnit (c : Chart) (v : Variant) : Bool :=
  let slots := c.refs.list.any fun q =>
    (decide (v ≠ .kx960) && (decide (q.2.source = 1) || decide (q.2.source = 2))) || q.2.inputs.any fun i => decide (32 ≤ i.2.input)
  let srcs := c.refs.binary.any fun e => decide (2 ^ (if e.transport = 0 then 12 else if e.transport = 1 then 4 else 8) ≤ e.ports)
  let tracks := decide (v = .kx922) && (List.range 16).any fun k => decide (8 ≤ k) && (c.targets.tracks.getD k none).isSome
  let chans := c.alloc.list.any fun q => decide (v.tcs ≤ q.1)
  let joy := match c.ctl.joySrc with
    | some (x, y, n) => decide (32 ≤ x.input) || decide (32 ≤ y.input) || decide (32 ≤ n.input)
    | none => false
  let tx := c.can.ports.any fun p => p.tx.any fun o => match o.source with
    | .channel tc => decide (v.tcs ≤ tc)
    | _ => false
  let ao := c.ana.outs.any fun o => match o.channel with
    | some (tc, _) => decide (v.tcs ≤ tc)
    | none => false
  let ants := decide (v ≠ .kx960) && (c.sx.b12.isSome || c.sx.b13.isSome)
  slots || srcs || tracks || chans || joy || tx || ao || ants

/-- Every receive object that a source of the Chart names, with the bytes it needs (10 R385; 03 R120 names it by identifier). -/
def AllocChart.canNeeds (c : AllocChart) : List (Nat × Nat × Nat) :=
  let ch := c.list.flatMap fun q =>
    let k := q.2
    k.fbCan.map (fun f => (f.2.1, f.2.2.1, f.2.2.2.ofs + f.2.2.2.width)) ++ optList k.leverDem ValSrc.canNeed ++ optList k.leverAng ValSrc.canNeed
      ++ (match k.deployed with
        | some (.can p o m) => [(p, o, m.ofs + m.width)]
        | _ => [])
  let pm := c.buses.flatMap fun b => optList b.pAv ValSrc.canNeed ++ optList b.freq ValSrc.canNeed ++ optList b.loadRed ValSrc.canNeed
  ch ++ pm

/-- Largest end of a field map. -/
def mapsEnd (l : List ByteMap) : Nat := (l.map fun m => m.ofs + m.width).foldl max 0

/-- Every CAN source finds its receive object, long enough (03 R120, 10 R385). -/
def Chart.canSourcesOk (c : Chart) : Bool :=
  let port (p : Nat) : CanCfg := c.can.port p
  let need := c.alloc.canNeeds.all fun q => (port q.1).rx.any fun o => decide (o.num = q.2.1) && decide (q.2.2 ≤ o.len)
  let bin := c.refs.binary.all fun e =>
    if e.transport ≠ 2 then true
    else
      decide (e.key ≤ (if e.ext then 0x1FFFFFFF else 0x7FF)) && (List.range 8).all fun p => !testBit e.ports p ||
        (port p).rx.any fun o => decide (o.id = e.key) && decide (o.ide = e.ext) && decide (mapsEnd e.maps ≤ o.len)
  need && bin

/-- Nearest integer of a quotient as a field carries it, and whether the field holds it (06 R240). -/
def ByteMap.carries (m : ByteMap) (x : Rat) : Bool :=
  if testBit m.ty 4 then true
  else
    let q : Int := (x / m.scale + 1 / 2).floor
    let w := 8 * m.width
    if testBit m.ty 2 then decide (-(2 ^ (w - 1) : Int) ≤ q) && decide (q < (2 ^ (w - 1) : Int)) else decide (0 ≤ q) && decide (q < (2 ^ w : Int))

/-- The command map of a channel carries every value of its quantities (06 R240). -/
def ChanChart.cmdOk (c : ChanChart) : Bool :=
  let range (m : ByteMap) : Rat × Rat :=
    if m.qty = 0x20 then (c.nMin, c.nMax)
    else if m.qty = 0x21 then (if c.ty = .mainRudder then (-c.rudMax, c.rudMax) else (0, 360))
    else if m.qty = 0x22 then (0, 1)
    else (0, 255)
  c.cmdMaps.all fun m => decide (m.scale ≠ 0) && m.carries (range m).1 && m.carries (range m).2

/-- Transmit objects of CHANNEL source cover their channel's field map (10 R389). -/
def Chart.txCover (c : Chart) : Bool :=
  c.can.ports.all fun p => p.tx.all fun o =>
    match o.source with
    | .channel tc =>
      match c.alloc.chan tc with
      | some k => decide (mapsEnd k.cmdMaps ≤ canDlcLen o.fdf o.dlc)
      | none => true
    | _ => true

/-- D_chain of an input's Chart values, ns (08 R312). -/
def AiChart.chain (c : AiChart) : Rat :=
  chainDelay (3 + c.order) (64 * 2 ^ c.decim) c.minPhase

/-- The alignment groups keep 08 R317, and every channel's output is switched on (08 R328). -/
def AnaChart.okGroups (c : AnaChart) : Bool :=
  let use := c.ins.filter fun i => decide (i.mode ≠ 0) && decide (i.group ≠ 0)
  let near := use.all fun a => use.all fun b => decide (a.group ≠ b.group) || decide (qAbs' (a.chain - b.chain) ≤ 1000 * modPeriod)
  near && c.outs.all fun o => o.channel.isNone || decide (o.mode ≠ 0)
where
  qAbs' (x : Rat) : Rat := if x < 0 then -x else x

/-- The attitude baselines keep 07 R289. -/
def Chart.baselinesOk (c : Chart) : Bool :=
  let len (a : Rat × Rat × Rat) : Rat := a.1 * a.1 + a.2.1 * a.2.1 + a.2.2 * a.2.2
  let okLen (a : Rat × Rat × Rat) : Bool := decide (1 ≤ len a) && decide (len a ≤ 10000)
  let levers (k : Nat) : List (Rat × Rat × Rat) := (c.refs.list.filter fun q => decide (q.2.source = 1) && decide (q.2.ant = k)).map fun q => q.2.lever
  let near (b : Rat × Rat × Rat) (k : Nat) : Bool :=
    (levers 0).all fun p => (levers k).all fun q => decide (len (q.1 - p.1 - b.1, q.2.1 - p.2.1 - b.2.1, q.2.2 - p.2.2 - b.2.2) ≤ 1 / 100)
  match c.sx.b12, c.sx.b13 with
  | some a, some b =>
    let dot := a.1 * b.1 + a.2.1 * b.2.1 + a.2.2 * b.2.2
    okLen a && okLen b && decide (4 * dot * dot ≤ 3 * (len a * len b)) && near a 1 && near b 2
  | _, _ => true

/-- The periodic entries of a port need at most 90 % of its capacity (11 R432). -/
def SerCfg.okLoad (c : SerCfg) : Bool :=
  let bits := (c.entries.map fun e => if e.kind = .host ∨ e.period = 0 then 0 else (820000 : Rat) / e.period).sum
  decide (c.mode ≠ 1) || decide (bits ≤ 9 / 10 * (baudOf c.rate : Rat))

/-- The Chart's fields are complete where they have no default (11 R410), and its domains differ (09 R371). -/
def Chart.consistent (c : Chart) : Bool :=
  c.modes.okTable && c.canSourcesOk && c.alloc.list.all (fun q => q.2.cmdOk) && c.txCover && c.can.ports.all (fun e => e.resolve.ok) && c.ana.okGroups
    && c.baselinesOk && c.net.serial.all SerCfg.okLoad
    && !(c.chron.dom0.enable && c.chron.dom1.enable && decide (c.chron.dom0.domain = c.chron.dom1.domain))

/-- A Chart with one section taken from another (11 R631); section 0 is the whole. -/
def Chart.withSection (c n : Chart) (k : Nat) : Chart :=
  match k with
  | 0 => n
  | 1 => { c with modes := n.modes }
  | 2 => { c with red := n.red }
  | 3 => { c with safety := n.safety }
  | 4 => { c with refs := n.refs }
  | 5 => { c with vessel := n.vessel }
  | 6 => { c with targets := n.targets }
  | 7 => { c with ctl := n.ctl }
  | 8 => { c with alloc := { c.alloc with chans := n.alloc.chans } }
  | 9 => { c with alloc := { n.alloc with chans := c.alloc.chans } }
  | 10 => { c with sx := n.sx }
  | 11 => { c with ana := n.ana }
  | 12 => { c with chron := n.chron }
  | 13 => { c with can := n.can }
  | 14 => { c with net := n.net }
  | 15 => { c with log := n.log }
  | 16 => { c with clock := n.clock }
  | 17 => { c with therm := n.therm }
  | _ => c

/-- A CAN port carries a configured channel's command or feedback (10 R396). -/
def Lane.portBusy (L : Lane) (p : Nat) : Bool :=
  (L.port p).cfg.tx.any (fun o => match o.source with
    | .channel tc => (L.chCfg tc).isSome
    | _ => false)
    || L.ac.list.any fun q => q.2.fbCan.any fun f => decide (f.2.1 = p)

/-- The section changes ROLE, FD or bit timing of a port in use in modes 5-11 (10 R396). -/
def Lane.portRefused (L : Lane) (n : CanChart) : Bool :=
  decide (5 ≤ L.mode) && (List.range 8).any fun p =>
    let a := (L.port p).cfg
    !(n.port p).sameBus a && L.portBusy p

/-- The content holds a safety portion that differs from the one in force, or is the safety section (11 R425, 13 R510). -/
def Lane.portionNew (L : Lane) (n : Chart) (sect : Nat) : Bool :=
  decide (sect = 3) || (decide (sect = 0) && decide (L.sf.portion.map SafetyPortion.digest ≠ some n.safety.digest))

/-- Reason for which the lane refuses the content `n`, a whole new Chart whose section `sect` was loaded by `client` (11 R425);
`none`: it passes. Digest, length and format are checked before. -/
def Lane.chartReason (L : Lane) (n : Chart) (sect client : Nat) : Option Nat :=
  let has (k : Nat) : Bool := decide (sect = 0) || decide (sect = k)
  if sect = 0 ∧ L.mode ≠ 3 ∧ L.mode ≠ 4 then some 9
  else if sect ≠ 0 ∧ !L.chart.ok then some 2
  else if !n.formOk has then some 2
  else if n.absentUnit L.variant then some 3
  else if !n.consistent || (has 3 && !L.portionOk n.safety) then some 4
  else if has 8 && L.chanRefused n.alloc then some 5
  else if has 13 && L.portRefused n.can then some 6
  else if L.portionNew n sect && !L.sessionOf client then some 7
  else none

end Sys2Proof.Machine
end

