-- ==== Sys2Proof/Machine/Clock.lean ====
section
/-! DEFINITION. Reference monitor, PLL, domains and clock gates (15_clocks). -/

namespace Sys2Proof.Machine

open Sys2Proof

/-- The clock section of the Chart. -/
def Lane.clkChart (L : Lane) : ClockChart := L.chart.now.clock

/-- State of a reference input (R541). -/
def Lane.refState (L : Lane) (i : RefIn) : Nat := L.get (Reg.CLK_REF_STATE i.idx)

/-- PLL state (R544). -/
def Lane.pll (L : Lane) : Nat := L.get Reg.CLK_PLL_STATE

/-- The selected input. -/
def Lane.refSelected (L : Lane) : Option RefIn :=
  if L.flag (Reg.CLK_REF_SELECTED 0) then some .refA
  else if L.flag (Reg.CLK_REF_SELECTED 1) then some .refB else none

/-- An input selected, or none; CLK_PLL.INPUT keeps the last. -/
def Lane.selectRef (L : Lane) (i : Option RefIn) : Lane :=
  let L := L.setb (Reg.CLK_REF_SELECTED 0) (decide (i = some .refA))
  let L := L.setb (Reg.CLK_REF_SELECTED 1) (decide (i = some .refB))
  match i with
  | some r => L.set Reg.CLK_PLL_INPUT r.idx
  | none => L

/-- The input that the PLL is locked to. -/
def Lane.lockedInput (L : Lane) : Option RefIn :=
  if L.flag (Reg.CLK_REF_SELECTED 0) then some .refA else if L.flag (Reg.CLK_REF_SELECTED 1) then some .refB else none

/-- CLK_DOMAIN.RUN and FLOOR by PLL state and stop window (R544, R551, R554). -/
def Lane.domainMasks (L : Lane) : Nat × Nat :=
  match L.pll with
  | 1 => (0x01, 0)
  | 2 | 3 => (if L.variant = .kx960 then 0xFF else 0xDF, 0)
  | _ => if L.clk.stopWin.isSome then (0, 0) else (0x86, 0x86)

/-- STAT and CLK_DOMAIN follow the PLL and the inputs (R559, R560); REF_SINGLE where SINGLE_REF is set. -/
def Lane.clkStat (L : Lane) : Lane :=
  let single := decide (L.refState .refA = 3) != decide (L.refState .refB = 3)
  let rise := single && !L.clk.single
  let L := L.onClk fun c => { c with single := single }
  let L := ((L.setb Reg.CLK_STAT_SINGLE_REF single).setb Reg.CLK_STAT_COAST (decide (L.pll = 4))).setb Reg.CLK_STAT_LOCKED (decide (L.pll = 2))
  let L := L.setAll [(Reg.CLK_DOMAIN_RUN, L.domainMasks.1), (Reg.CLK_DOMAIN_FLOOR, L.domainMasks.2)]
  L.findIf rise 0x04 6

/-- The detected frequency differs from REF_EXPECT (R542). -/
def Lane.expectDiffers (L : Lane) (i : RefIn) (det : Nat) : Bool :=
  L.chart.ok &&
    (match (if i = .refA then L.clkChart.expectA else L.clkChart.expectB) with
    | .any | .off => false
    | .mhz10 => decide (det ≠ 1)
    | .mhz25 => decide (det ≠ 2))

/-- The input is set OFF in the Chart (R541). -/
def Lane.refOff (L : Lane) (i : RefIn) : Bool :=
  L.chart.ok && decide ((if i = .refA then L.clkChart.expectA else L.clkChart.expectB) = .off)

/-- The relative frequency that a change to an input means for the chronometer (R543, R549), ppb, if it is available. -/
def Lane.relTo (L : Lane) (i : RefIn) : Option Rat :=
  if L.get Reg.CLK_REF_REL_PPB = 0x80000000 then none
  else
    let v : Rat := (L.geti Reg.CLK_REF_REL_PPB : Int)
    some (if i = .refB then v else -v)

/-- A hitless switch begins (R549, R550). -/
def Lane.startSwitch (L : Lane) (i : RefIn) (byTrip : Bool) : Lane :=
  let rel := L.relTo i
  let L := L.onClk fun c => { c with switching := some (i, byTrip), switchTo := none, switchRel := rel }
  (L.set Reg.CLK_PLL_STATE 3).clkStat

/-- A hitless switch completes (R549): REF_SWITCH. -/
def Lane.endSwitch (L : Lane) : Lane :=
  match L.clk.switching with
  | some (i, _) =>
    let rel := L.clk.switchRel
    let L := L.onClk fun c => { c with switching := none, switchRel := none }
    let L := ((L.selectRef (some i)).set Reg.CLK_PLL_STATE 2).incSat Reg.CLK_CNT_SWITCHES
    let L := if L.servo = 4 then L.chrInputChange rel else L
    L.clkStat.find 0x04 2
  | none => L

/-- The PLL enters COAST (R544, R551). -/
def Lane.enterCoast (L : Lane) : Lane :=
  let t := L.now
  let v := L.timeValid
  let L := L.onClk fun c => { c with switching := none, switchRel := none, switchTo := none, coastStart := some (t, v), coastEnd := none, coastFrom := L.lockedInput }
  let L := ((L.selectRef none).set Reg.CLK_PLL_STATE 4).incSat Reg.CLK_CNT_COASTS
  let L := (L.setb Reg.CLK_FAULT_COASTED true).setb Reg.TICK_POS_STRETCHED L.running
  L.clkStat.coastHooks.find 0x04 3

/-- The restart sequence begins with a qualified input (R551): SYS, MEM and TIME stop and the stop window runs. -/
def Lane.startStopWin (L : Lane) (i : RefIn) (us : Nat) : Lane :=
  let coast := decide (L.pll = 4)
  let L := L.onClk fun c => { c with stopWin := some ⟨i, false⟩, starting := !coast }
  let L := if coast then L.setSat Reg.CLK_COAST_LAST_US us else L
  ((L.selectRef (some i)).set Reg.CLK_PLL_STATE 1).clkStat

/-- An input that the PLL uses is gone (R549, R551, R554), and whether the lane enters COAST by it. -/
def Lane.refGone (L : Lane) (i : RefIn) : Lane × Bool :=
  match L.clk.stopWin with
  | some w =>
    if w.input = i ∧ !w.aborted then
      let L := L.onClk fun c => { c with stopWin := some ⟨i, true⟩ }
      (((L.selectRef none).set Reg.CLK_PLL_STATE (if L.clk.starting then 0 else 4)).incSat Reg.CLK_CNT_ABORTS |>.clkStat, false)
    else (L.clkStat, false)
  | none =>
    match L.clk.switching with
    | some (dest, byTrip) =>
      if dest = i then
        if byTrip then (L.enterCoast, true)
        else
          let L := L.onClk fun c => { c with switching := none, switchRel := none }
          ((L.set Reg.CLK_PLL_STATE 2).clkStat, false)
      else
        let L := L.onClk fun c => { c with switching := some (dest, true) }
        (L.clkStat, false)
    | none =>
      if L.refSelected = some i then
        if L.refState i.other = 3 then (L.startSwitch i.other true, false) else (L.enterCoast, true)
      else
        let L := if L.clk.switchTo = some i then L.onClk fun c => { c with switchTo := none } else L
        (L.clkStat, false)

/-- A trip is possible (R542): by state and cause. -/
def Lane.mayTrip (L : Lane) (i : RefIn) (cause : TripCause) (det : Nat) : Bool :=
  let st := L.refState i
  match cause with
  | .edge => decide (2 ≤ st)
  | .period => decide (2 ≤ st) || (decide (st = 0) && !L.refOff i)
  | .freq => decide (2 ≤ st) && decide (L.pll = 2) && decide (L.refSelected = some i.other)
  | .expect => decide (2 ≤ st) && L.expectDiffers i det

/-- A trip of an input (R542). CLK_REF_REL reads unavailable from then on (R543). -/
def Lane.refTrip (L : Lane) (i : RefIn) (cause : TripCause) (det : Nat) : Lane × Bool :=
  if L.mayTrip i cause det then
    let L := L.setAll [(Reg.CLK_REF_STATE i.idx, 1), (Reg.CLK_REF_QUAL i.idx, 0), (Reg.CLK_REF_CAUSE i.idx, cause.code),
      (Reg.CLK_REF_DET i.idx, if cause = .edge then 0 else det)]
    let L := (L.incSat Reg.CLK_CNT_TRIPS).find 0x04 0
    let r := L.refGone i
    (r.1.set Reg.CLK_REF_REL_PPB 0x80000000, r.2)
  else (L, false)

/-- A lane that coasts releases DRIVE if the other lane asserts ARM (R551 step 1, 12 R454); both lanes coasting are marked
for R466. -/
def State.afterCoast (s : State) (l : LaneId) (coast : Bool) : State :=
  if coast then
    let s := if s.sh.lock.holds l && s.sh.lock.arm l.other then s.driveDown l (some .peerCoast) else s
    if (s.lane l.other).coasting then s.both fun L => L.onClk fun c => { c with dualCoast := true } else s
  else s

/-- A reference input is lost (R542, R549, R551, R554). -/
def State.refLost (s : State) (l : LaneId) (i : RefIn) (cause : TripCause) (det : Nat) : State :=
  let r := (s.lane l).refTrip i cause det
  (s.setLane l r.1).afterCoast l r.2

/-- REF_QUALIFYING (R541, R542): an in-window cycle with the detected frequency; `count` is the consecutive cycles so far. An input
at a frequency that the Chart does not expect trips at once, and stays TRIPPED after an EXPECT trip. -/
def Lane.refQualifying (L : Lane) (i : RefIn) (det count : Nat) : Lane :=
  let differs := L.expectDiffers i det
  if L.refOff i || decide (L.refState i = 3) || (differs && decide (L.refState i = 1) && decide (L.get (Reg.CLK_REF_CAUSE i.idx) = 4)) then L
  else
    let L := (L.setAll [(Reg.CLK_REF_STATE i.idx, 2), (Reg.CLK_REF_DET i.idx, det), (Reg.CLK_REF_QUAL i.idx, min count 2047)]).clkStat
    if differs then (L.refTrip i .expect det).1 else L

/-- REF_QUALIFYING (R541, R542). -/
def execRefQualifying (l : LaneId) (i : RefIn) (det count : Nat) (s : State) : Out := onLane l (fun L => L.refQualifying i det count) s

/-- The lane's clocks wait for an input: floor or coast with no stop window running (R546, R551). -/
def Lane.awaitsRef (L : Lane) : Bool :=
  L.clk.stopWin.isNone && (decide (L.pll = 4) || (decide (L.pll = 0) && decide (L.boot.phase = .clock)))

/-- REF_QUALIFIED (R541, R546, R551): `us` is the time from the trip to the start of the stop window. -/
def Lane.refQualified (L : Lane) (i : RefIn) (us : Nat) : Lane :=
  if L.refState i = 2 then
    let L := (L.setAll [(Reg.CLK_REF_STATE i.idx, 3), (Reg.CLK_REF_QUAL i.idx, 2048)]).find 0x04 1
    if L.awaitsRef then L.startStopWin i us else L.clkStat
  else L

/-- REF_QUALIFIED (R541, R546, R551). -/
def execRefQualified (l : LaneId) (i : RefIn) (us : Nat) (s : State) : Out := onLane l (fun L => L.refQualified i us) s

/-- REF_REVERT (R550): the switch is made at 950 µs of a tick. -/
def Lane.refRevert (L : Lane) : Lane :=
  let p := L.clkChart.preferred
  if L.refState p = 3 ∧ L.refSelected = some p.other ∧ L.pll = 2 ∧ L.clkChart.revert ≠ 0 then
    L.onClk fun c => { c with switchTo := some p }
  else L

/-- REF_REVERT (R550). -/
def execRefRevert (l : LaneId) (s : State) : Out := onLane l Lane.refRevert s

/-- SWITCH_REF (R550, R560). -/
def Lane.switchRef (L : Lane) (tag : Nat) : Lane :=
  let L := L.setAll [(Reg.CLK_CMD_TAG, tag), (Reg.CLK_CMD_CMD, 1)]
  let dest := match L.refSelected with
    | some i => if L.refState i.other = 3 ∧ L.pll = 2 then some i.other else none
    | none => none
  match dest with
  | some i => (L.set Reg.CLK_CMD_RESULT 0).onClk fun c => { c with switchTo := some i }
  | none => (L.set Reg.CLK_CMD_RESULT 2).find 0x04 7

/-- SWITCH_REF (R550, R560). -/
def execSwitchRef (l : LaneId) (tag : Nat) (s : State) : Out := onLane l (fun L => L.switchRef tag) s

/-- Any other CLK_CMD command code (R560): UNKNOWN. -/
def Lane.clkCmdUnknown (L : Lane) (tag cmd : Nat) : Lane :=
  (L.setAll [(Reg.CLK_CMD_TAG, tag), (Reg.CLK_CMD_CMD, cmd), (Reg.CLK_CMD_RESULT, 1)]).find 0x04 7

/-- A switch that waits begins in the slack phase after the commit point (R550). -/
def Lane.clkCommit (L : Lane) : Lane :=
  match L.clk.switchTo with
  | some i => if L.pll = 2 ∧ L.refState i = 3 ∧ L.refSelected = some i.other then L.startSwitch i false
              else L.onClk fun c => { c with switchTo := none }
  | none => L


/-- The record of a double coast (12 R466, 14 R633). -/
def dualCoastBytes (a b : ClockSt) : List Nat :=
  let z : Rat × Bool := (0, false)
  let p (q : Option (Rat × Bool)) : Rat × Bool := q.getD z
  let ok (c : ClockSt) : Bool := (p c.coastStart).2
  timeBytes (p a.coastStart).1 ++ timeBytes (p a.coastEnd).1 ++ timeBytes (p b.coastStart).1 ++ timeBytes (p b.coastEnd).1
    ++ [(if ok a then 1 else 0) + (if ok b then 2 else 0)]

/-- The first lane to restart after a double coast reports it (12 R466). -/
def State.dualCoast (s : State) (l : LaneId) : State :=
  if (s.lane l).clk.dualCoast then
    let p := dualCoastBytes s.a.clk s.b.clk
    let s := s.both fun L => L.onClk fun c => { c with dualCoast := false }
    s.upd l fun L => ((L.setb Reg.RED_FAULT_DUAL_COAST true).find 0x60 7).post 6 0x09 p
  else s

/-- A restart with an input that qualified while an abandoned window ran out (R554): the time since the trip, which the analogue delay
leaves open, is a free value. -/
def Lane.nextStopWin (L : Lane) (i : RefIn) : Lane :=
  let (x, L) := L.fresh
  L.startStopWin i x.floor.toNat

/-- The stop window ends with the PLL locked (R551), or by the analogue delay after an abort (R554). -/
def Lane.stopWinEnd (L : Lane) : Lane :=
  match L.clk.stopWin with
  | none => L
  | some w =>
    let starting := L.clk.starting
    let L := L.onClk fun c => { c with stopWin := none, starting := false }
    if w.aborted then
      let L := if starting then L else L.chrRestart false
      let L := L.clkStat
      if L.refState .refA = 3 then L.nextStopWin .refA
      else if L.refState .refB = 3 then L.nextStopWin .refB else L
    else
      let L := (L.set Reg.CLK_PLL_STATE 2).clkStat
      if starting then L
      else
        let L := if L.clk.coastFrom = some w.input then L else L.chrInputChange (L.relTo w.input)
        let L := (L.chrRestart true).restartHooks
        let t := L.now
        let v := L.timeValid
        let L := L.onClk fun c => { c with coastEnd := some (t, v) }
        L.find 0x04 4

/-- CLK_GATE_FORCED (R548): `block` as CLK_FORCED.BLOCK numbers it. -/
def Lane.gateForced (L : Lane) (block : Nat) : Lane :=
  (((L.incSat Reg.CLK_FORCED_COUNT).set Reg.CLK_FORCED_BLOCK block).setb Reg.CLK_FAULT_FORCED true).find 0x04 5

/-- CLK_GATE_FORCED (R548). -/
def execClkGateForced (l : LaneId) (block : Nat) (s : State) : Out := onLane l (fun L => L.gateForced block) s

/-- REF_REL_AVAILABLE (R543): a measurement of the 10 s window. -/
def Lane.refRel (L : Lane) (ppb : Int) : Lane :=
  if 2 ≤ L.refState .refA ∧ 2 ≤ L.refState .refB then L.seti Reg.CLK_REF_REL_PPB ppb else L

/-- REF_REL_AVAILABLE (R543). -/
def execRefRelAvailable (l : LaneId) (ppb : Int) (s : State) : Out := onLane l (fun L => L.refRel ppb) s

/-- A clock gate of a block closed or opened (R556). -/
def Lane.gate0 (L : Lane) (n : Nat) (closed : Bool) : Lane := L.setBit Reg.CLK_GATE0_MASK n closed
def Lane.gate1 (L : Lane) (n : Nat) (closed : Bool) : Lane := L.setBit Reg.CLK_GATE1_MASK n closed

/-- Gates closed from reset: blocks absent in the variant (R556). -/
def Lane.gatesAtReset (L : Lane) : Lane :=
  let L := L.set Reg.CLK_GATE0_MASK (0xFFFF - L.variant.engines)
  if L.variant = .kx960 then L else (L.gate1 22 true).gate1 23 true

/-- Gates of CAN ports with ROLE OFF, serial ports with MODE OFF, and the acquisition bank while paused (R556, 07 R271). -/
def Lane.portGates (L : Lane) : Lane :=
  let can (p : Nat) : Bool := decide ((L.can.ports.getD p {}).cfg.role = .off)
  let bit (k : Nat) : Bool :=
    if k < 8 then can k
    else if k < 20 then decide (L.get (Reg.SER_CFG_MODE (k - 8)) = 0)
    else if k = 22 then decide (L.variant ≠ .kx960) || L.bankPaused
    else decide (k = 23) && decide (L.variant ≠ .kx960)
  L.set Reg.CLK_GATE1_MASK ((List.range 26).foldl (fun m k => if bit k then m + 2 ^ k else m) 0)

/-- A switch completes within 100 µs (R549): at the next tick start; the gates of the ports follow their Chart (R556). -/
def Lane.clkTick (L : Lane) : Lane := L.endSwitch.portGates

/-- A Chart that becomes current is checked against the inputs (R541, R542). -/
def State.clkChart (s : State) (l : LaneId) : State :=
  let one (i : RefIn) (s : State) : State :=
    let L := s.lane l
    if L.refOff i ∧ L.refState i ≠ 0 then
      let L := L.setAll [(Reg.CLK_REF_STATE i.idx, 0), (Reg.CLK_REF_QUAL i.idx, 0), (Reg.CLK_REF_DET i.idx, 0), (Reg.CLK_REF_REL_PPB, 0x80000000)]
      let r := L.refGone i
      (s.setLane l r.1).afterCoast l r.2
    else
      let r := L.refTrip i .expect (L.get (Reg.CLK_REF_DET i.idx))
      (s.setLane l r.1).afterCoast l r.2
  one .refB (one .refA s)

end Sys2Proof.Machine
end

