-- ==== Sys2Proof/Machine/Chartload.lean ====
section
/-! DEFINITION. A Chart comes into force in a lane: at step 5 of start-up, at a position-cycle boundary, by re-synchronisation
(01 R40, 02 R88, 11 R425, 12 R467, 18 R621). -/

namespace Sys2Proof.Machine

open Sys2Proof

/-- PTP_CFG of a domain (09 R374). -/
def Lane.ptpCfgShow (L : Lane) (d : Nat) (p : PtpChart) : Lane :=
  let b (x : Bool) : Nat := if x then 1 else 0
  (L.setAll [(Reg.PTP_CFG_DOMAIN d, p.domain), (Reg.PTP_CFG_TWO_STEP d, b p.twoStep), (Reg.PTP_CFG_TRANSPORT d, b p.udp),
    (Reg.PTP_CFG_DELAY d, b p.p2p), (Reg.PTP_CFG_ROLE d, b p.masterCapable), (Reg.PTP_CFG_ENABLE d, b p.enable)]).seti
      (Reg.PTP_CFG_LOG_SYNC d) p.logSync

/-- A domain that is not enabled keeps no masters and shows state 0 (09 R374). -/
def Lane.ptpEnter (L : Lane) (d : Nat) : Lane :=
  let p := L.cc.dom d
  let L := L.ptpCfgShow d p
  if p.enable then L.bmca d
  else
    (L.onChr fun c => c.setDom d {}).setAll [(Reg.PTP_STAT_PORT_A d, 0), (Reg.PTP_STAT_PORT_B d, 0), (Reg.PTP_STAT_IS_GM d, 0)]

/-- The chronometer section in force (09 R350, R367, R371; 18 R621). -/
def Lane.chronChart (L : Lane) (start : Bool) : Lane :=
  let c := L.cc
  let L := if L.chr.srcDisWritten && !start then L.applySrcDis (L.get Reg.CHR_SRC_DIS_MASK) else L.applySrcDis c.srcDis
  let L := L.setAll [(Reg.PPS_CFG_MODE 0, c.ppsMode0), (Reg.PPS_CFG_MODE 1, c.ppsMode1), (Reg.PPS_CFG_WIDTH 0, c.ppsWidth0),
    (Reg.PPS_CFG_WIDTH 1, c.ppsWidth1), (Reg.PPS_DELAY_DELAY 0, c.ppsDelay0), (Reg.PPS_DELAY_DELAY 1, c.ppsDelay1)]
  let L := (L.seti (Reg.PTP_ASYM_ASYM 0) c.asymA).seti (Reg.PTP_ASYM_ASYM 1) c.asymB
  let at' := if start then none else some (L.now + 1000000)
  let L := L.onChr fun x => { x with pps0 := { x.pps0 with newAt := at' }, pps1 := { x.pps1 with newAt := at' } }
  let L := (L.ptpEnter 0).ptpEnter 1
  L.utcUpdate

/-- The sections of a Chart in force with their fields and reconfigurations, but the safety portion and the clocks (18 R621);
`has`: the sections that become current. -/
def Lane.chartEnter (L : Lane) (n : Chart) (has : Nat → Bool) (start : Bool) : Lane :=
  let o := L.chart.now
  let L := (L.onChart fun c => { c with now := n, ok := true }).onHw fun h => { h with chartDamaged := false }
  let on (k : Nat) (f : Lane → Lane) (L : Lane) : Lane := if has k then f L else L
  let L := on 1 (fun L => L.set Reg.SCHED_LIMIT_MS n.modes.schedLimit) L
  let L := on 2 (fun L => (L.set Reg.RED_ROLE_PREFERRED (if n.red.preferred = .a then 0 else 1)).set Reg.RED_TB_HOLDOFF n.red.holdoff) L
  let L := on 4 (fun L => L.intakeChart o.refs start) L
  let L := on 6 (fun L => L.targetChart o.targets start) L
  let L := on 7 Lane.controlChart L
  let L := if has 8 || has 9 then L.allocChart o.alloc start else L
  let L := on 10 (fun L => L.sxChart start) L
  let L := on 11 (fun L => L.anaChart start) L
  let L := on 12 (fun L => L.chronChart start) L
  let L := on 13 (fun L => L.canChart start) L
  let L := on 14 (fun L => L.netChart o.net start) L
  let L := on 15 (fun L => if L.log.levelWritten && !start then L else L.set Reg.LOG_LEVEL_LEVEL n.log.level) L
  on 17 Lane.thermShow L

/-- The banks with new content in the other bank, which becomes the current one (01 R40). -/
def ChartSt.adopt (c : ChartSt) (n : Chart) : ChartSt :=
  if c.cur = 0 then { c with bank1 := some n, cur := 1, next := none } else { c with bank0 := some n, cur := 0, next := none }

/-- First 8 bytes of the digest of a bank (11 R632); zero where it holds no container. -/
def ChartSt.digestOf (c : ChartSt) (bank : Nat) : Nat := (((if bank = 0 then c.bank0 else c.bank1)).map Chart.digest).getD 0

/-- Content becomes current in a lane at a boundary (01 R40): the record of R633 and the sections. -/
def Lane.chartCurrent (L : Lane) (n : Chart) (sect : Nat) (has : Nat → Bool) : Lane :=
  let old := L.chart.digestOf L.chart.cur
  let L := L.onChart fun c => c.adopt n
  let L := L.post 2 0x03 ([sect, L.chart.cur, 0, 0] ++ leBytes 8 old ++ leBytes 8 n.digest)
  L.chartEnter n has false

/-- The sections that a load brings (11 R631). -/
def sectHas (sect : Nat) (k : Nat) : Bool := decide (sect = 0) || decide (sect = k)

/-- A re-synchronising lane makes the active lane's Chart current (12 R467): the safety region takes its portion too, with the
password in force there. -/
def State.chartAdopt (s : State) (l : LaneId) : State :=
  let p := s.lane l.other
  if p.chart.ok then
    let s := s.upd l fun L =>
      let L := L.chartCurrent p.chart.now 0 fun _ => true
      (L.onSf fun x => { x with password := p.sf.password, initial := p.sf.initial }).loadPortion p.chart.now.safety
    s.clkChart l
  else s

end Sys2Proof.Machine
end

