-- ==== Sys2Proof/Machine/Grant.lean ====
section
/-! DEFINITION. The commands that can move the selector grant, with what its loss and its receipt do in a lane (01 R29-R32,
R624, R625; 09 R369; 10 R379, R380; 11 R434; 12 R452, R453; 13 R477). -/

namespace Sys2Proof.Machine

open Sys2Proof

/-- The grant leaves a lane: safety lines, CAN transmission, serial sentences (01 R31, 10 R380, 11 R434). -/
def State.grantLost (s : State) (l : LaneId) : State := (s.sfGrantLost l).upd l fun L => L.canGrantLost.serCut

/-- The grant reaches a lane: CAN ports integrate, serial lines drive after two character times, a PPS terminal that rises
is reported, the lane's STOP lines reach the Binnacle (09 R369, 10 R379, 11 R434). -/
def State.grantGained (s : State) (l : LaneId) : State :=
  (s.upd l fun L => ((L.canFollow true).serGranted).findIf L.ppsHigh 0x40 6).binEval

/-- The level at an analogue output's terminal (01 R26, R31, R625): the driving lane's, or the held one over a changeover; 0 V or
0 mA with no driver, or with the shared section unpowered. -/
def State.aoTerminal (s : State) (m : Nat) : Int :=
  if !s.sharedPower then 0
  else match s.sh.lock.grant with
    | .held l => ((s.lane l).ao m).dac
    | _ => if s.sh.lock.holding then s.sh.lock.heldAo.getD m 0 else 0

/-- The hold stages take the levels that a lane drives (01 R31). -/
def InterlockSt.holdLevels (k : InterlockSt) (L : Lane) : InterlockSt :=
  { k with heldAo := (List.range 16).map fun m => (L.ao m).dac, heldGates := (List.range 8).map L.gateOut }

/-- What a change of holder since the state `o` brings about in the lanes and the hold stages. -/
def State.grantFrom (s o : State) : State :=
  let one (l : LaneId) (s : State) : State :=
    if o.sh.lock.holds l && !s.sh.lock.holds l then (s.onLock fun k => k.holdLevels (o.lane l)).grantLost l
    else if !o.sh.lock.holds l && s.sh.lock.holds l then s.grantGained l
    else s
  one .b (one .a s)

/-- The interlock belongs to the shared section (01 R24): unpowered, it grants no lane and holds no output (R26). -/
def State.lockPower (s : State) : State :=
  if s.sharedPower then s else s.onLock fun k => { k with grant := .free, holding := false }

/-- An operation on the module with the effects of the change of holder that it makes. -/
def State.moving (s : State) (f : State → State) : State := (f s).lockPower.grantFrom s

/-- The shared section is powered again: a DRIVE line that stands asserted is a request made at this instant (log entry 36). -/
def State.lockReturn (s : State) : State :=
  let one (l : LaneId) (s : State) : State := if s.sh.lock.drive l then (s.onLock fun k => k.setDrive l false).driveUp l else s
  one .b (one .a s)

/-- DRIVE_ASSERT (01 R29, R30, R624). -/
def execDriveAssert (l : LaneId) (s : State) : Out := .next (s.moving fun s => s.driveUp l)

/-- DRIVE_RELEASE (01 R30, R31). -/
def execDriveRelease (l : LaneId) (s : State) : Out := .next (s.moving fun s => s.driveDown l)

/-- GRANT_RESOLVE (01 R624). -/
def execGrantResolve (s : State) : Out := .next (s.moving fun s => s.onLock InterlockSt.resolve)

/-- DEAD_TIME_END (01 R30, R31). -/
def execDeadTimeEnd (s : State) : Out := .next (s.moving fun s => s.onLock InterlockSt.endDeadTime)

/-- CLAIM (12 R452). -/
def execClaim (l : LaneId) (s : State) : Out :=
  .next (s.moving fun s => if s.sh.lock.claims l then s.driveUp l else s)

/-- The watchdog acts on a lane that has stopped committing (12 R453): on DRIVE only while the other lane asserts ARM. A lane
that loses the grant so restarts, if it still runs (12 R454). -/
def State.watchdog (s : State) (l : LaneId) : State :=
  if s.sh.lock.arm l.other then
    let held := s.sh.lock.holds l
    let s := s.onLock fun k => k.cut l (some .peerStall)
    if held then s.upd l fun L => L.hold .laneFailRestart else s
  else s.onLock fun k => k.setArm l false

/-- COMMIT_WATCHDOG_EXPIRY (12 R453). -/
def execCommitWatchdogExpiry (l : LaneId) (s : State) : Out := .next (s.moving fun s => s.watchdog l)

/-- SUPPLY_FAULT (16 R564). -/
def execSupplyFault (l : LaneId) (i : Supply) (x : SupplyLoss) (s : State) : Out :=
  .next (s.moving fun s => (s.supplyFault l i x).binEval)

/-- SUPPLY_RETURN (16 R563, R565); the shared section is powered while either lane's IO_IN is in limits (01 R25). -/
def execSupplyReturn (l : LaneId) (i : Supply) (s : State) : Out :=
  let dark := !s.sharedPower
  let s := s.upd l fun L => L.supplyReturn i
  .next (if dark && s.sharedPower then s.lockReturn else s).binEval

/-- REF_LOST (15 R542, R549, R551, R554). -/
def execRefLost (l : LaneId) (i : RefIn) (cause : TripCause) (det : Nat) (s : State) : Out :=
  .next (s.moving fun s => s.refLost l i cause det)

end Sys2Proof.Machine
end

