-- ==== Sys2Proof/Machine/Redun.lean ====
section
/-! DEFINITION. Twin-lane redundancy: able to take over, health word, mirror frame, re-synchronisation (12 R442-R451, R467). -/

namespace Sys2Proof.Machine

open Sys2Proof

/-! ### Roles and images -/

/-- The role of a lane (R442). -/
def Lane.role (L : Lane) : Nat := L.get Reg.RED_ROLE_ROLE

/-- The role set. -/
def Lane.setRole (L : Lane) (r : Role) : Lane := L.set Reg.RED_ROLE_ROLE r.code

/-- Role of a code (R442). -/
def roleOf (c : Nat) : Role :=
  match c with
  | 1 => .boot
  | 2 => .active
  | 3 => .standby
  | 4 => .resync
  | 5 => .failed
  | 6 => .lubber
  | _ => .none

/-- An image slot (01 R41). -/
def BootSt.slot (b : BootSt) (n : Nat) : ImageSlot := if n = 0 then b.slot0 else b.slot1

/-- An image slot changed. -/
def BootSt.onSlot (b : BootSt) (n : Nat) (f : ImageSlot → ImageSlot) : BootSt :=
  if n = 0 then { b with slot0 := f b.slot0 } else { b with slot1 := f b.slot1 }

/-- The running image (01 R41). -/
def Lane.image (L : Lane) : ImageSlot := L.boot.slot L.boot.bootSlot

/-- The highest mirror format in two ranges (R470). -/
def commonFmt (aMin aMax bMin bMax : Nat) : Option Nat :=
  let hi := min aMax bMax
  if max aMin bMin ≤ hi then some hi else none

/-! ### Able to take over (R445) -/

/-- A self-test of R448 fails. -/
def Lane.selfBad (L : Lane) : Bool :=
  let t := L.red.self
  decide (L.get Reg.LANE_FAULT_ENG_FAILED ≠ 0) || L.flag Reg.LANE_FAULT_LOCKSTEP_SUP || L.flag Reg.LANE_FAULT_LOCKSTEP_SAFE
    || L.flag Reg.LANE_FAULT_ECC_UNCORR_SEEN || decide (20 ≤ t.dac) || decide (3 ≤ t.gates) || t.can.any (fun n => decide (10 ≤ n))
    || t.ser.any fun n => decide (5 ≤ n)

/-- Reasons of R445 by bit, in a lane that is not active. -/
def Lane.unable (L : Lane) : Nat → Bool
  | 0 => decide (L.role ≠ 3)
  | 1 => L.boot.waiting || decide (L.mode < 3) || decide (11 < L.mode) || !L.chart.ok || L.hw.chartDamaged
  | 2 => decide (L.get Reg.RED_RESYNC_STAGE ≠ 0) || decide (L.role = 4)
  | 3 => L.flag Reg.LANE_STAT_DEGRADED
  | 4 => decide (4 ≤ L.red.noMirror)
  | 5 => L.red.skew
  | 6 => L.red.disagree
  | 7 => L.selfBad
  | 8 => L.red.peer.isNone || !L.red.digestSame
  | 9 => match L.red.peer with
    | some h => (commonFmt L.image.fmtMin L.image.fmtMax h.fmtMin h.fmtMax).isNone
    | none => true
  | 10 => L.coasting
  | _ => !L.suppliesOk

/-- RED_ABLE.NOT_ABLE (R445): the active lane reads ROLE alone. -/
def Lane.notAble (L : Lane) : Nat := if L.active then 1 else maskOf 12 L.unable

/-- RED_ABLE and STAT.ABLE shown; the event when ABLE falls (R445). -/
def Lane.ableEval (L : Lane) : Lane :=
  let n := L.notAble
  let was := L.flag Reg.RED_ABLE_ABLE
  let able := decide (n = 0)
  let L := ((L.set Reg.RED_ABLE_NOT_ABLE n).setb Reg.RED_ABLE_ABLE able).setb Reg.RED_STAT_ABLE able
  L.findIf (was && !able) 0x60 3

/-- ABLE dropped without the event: the lane is no longer a standby. -/
def Lane.ableOff (L : Lane) : Lane :=
  L.setAll [(Reg.RED_ABLE_NOT_ABLE, 1), (Reg.RED_ABLE_ABLE, 0), (Reg.RED_STAT_ABLE, 0)]

/-- The other lane's latest health word shows this role. -/
def Lane.peerIs (L : Lane) (r : Role) : Bool := decide (L.red.peer.map HealthWord.role = some r)

/-- The lane asserts ARM (R452): ABLE, outgoing in a planned handover (R459), or waiting (02 R101). -/
def Lane.armWanted (L : Lane) : Bool :=
  let c := L.get Reg.MODE_COND_COND
  L.flag Reg.RED_ABLE_ABLE || L.red.outgoing.isSome
    || (L.boot.waiting && decide (L.mode = 4) && testBit c 0 && testBit c 8 && testBit c 10 && L.peerIs .lubber)

/-- ARM and the commit strobe refreshed at a commit point (R452). -/
def State.armRefresh (s : State) (l : LaneId) : State :=
  let s := s.upd l Lane.ableEval
  let a := (s.lane l).armWanted
  let s := s.onLock fun k => k.setArm l a
  s.upd l fun L => (L.setb Reg.RED_ABLE_ARMED a).setb Reg.RED_STAT_ARMED a

/-! ### The health word (R444) -/

/-- The health word of this tick. -/
def Lane.healthWord (L : Lane) : HealthWord :=
  let i := L.image
  { role := roleOf L.role, mode := L.mode, able := L.flag Reg.RED_ABLE_ABLE, armed := L.flag Reg.RED_ABLE_ARMED,
    degraded := L.flag Reg.LANE_STAT_DEGRADED, coasting := L.coasting, timeValid := L.timeValid, tick := L.get Reg.TICK_POS_TICK,
    tickCnt := L.get Reg.TICK_CNT_COUNT, epoch := L.get Reg.RAP_EPOCH_EPOCH, digest := if L.chart.ok then L.chart.now.digest else 0,
    fmtMin := i.fmtMin, fmtMax := i.fmtMax, step := L.stepDue, plan := L.red.plan, tbReq := L.red.tbReq, tbSusp := L.red.suspTicks,
    failCause := (L.hw.failed.map fun f => f.1).getD 0, serCounts := L.ser.map SerSt.rxLast }

/-- What the links brought (01 R46, R55, R61, R62): link state, CRC errors, XLINK_DEGRADED when one link is newly alone. -/
def Lane.linkRx (L : Lane) (x0 x1 : LinkRx) : Lane :=
  let alone := decide (L.flag Reg.LANE_STAT_XL0_UP ≠ L.flag Reg.LANE_STAT_XL1_UP)
  let up0 := decide (x0 ≠ .none)
  let up1 := decide (x1 ≠ .none)
  let L := (L.setb Reg.LANE_STAT_XL0_UP up0).setb Reg.LANE_STAT_XL1_UP up1
  let L := if x0 = .bad then L.incSat Reg.LANE_XLINK_ERR_XL0 else L
  let L := if x1 = .bad then L.incSat Reg.LANE_XLINK_ERR_XL1 else L
  L.findIf (decide (up0 ≠ up1) && !alone) 0x01 5

/-- RED_PEER, RED_ROLE and the mirror format in use from a health word (R474). -/
def Lane.peerShow (L : Lane) (h : HealthWord) : Lane :=
  let i := L.image
  let b (x : Bool) : Nat := if x then 1 else 0
  L.setAll [(Reg.RED_PEER_MODE, h.mode), (Reg.RED_PEER_ROLE, h.role.code), (Reg.RED_PEER_ABLE, b h.able), (Reg.RED_PEER_ARMED, b h.armed),
    (Reg.RED_PEER_DEGRADED, b h.degraded), (Reg.RED_PEER_COASTING, b h.coasting), (Reg.RED_PEER_TB_REQ, b h.tbReq), (Reg.RED_PEER_AGE, 0),
    (Reg.RED_ROLE_PEER_ROLE, h.role.code), (Reg.RED_ROLE_FMT, (commonFmt i.fmtMin i.fmtMax h.fmtMin h.fmtMax).getD 0)]

/-- The grid skew of a tick (R447), 0.01 µs, in a lane whose other lane is active. -/
def Lane.skewRead (L : Lane) (skew : Int) : Lane :=
  let m := skew.natAbs
  let L := (L.setiSat Reg.RED_SKEW_LAST skew).setSat Reg.RED_SKEW_MAX (max m (L.get Reg.RED_SKEW_MAX))
  L.onRed fun r =>
    { r with
      skewOut := if 500 < m then min 10 (r.skewOut + 1) else 0,
      skewIn := if m ≤ 250 then min 100 (r.skewIn + 1) else 0,
      syncCnt := if L.get Reg.RED_RESYNC_STAGE = 2 then (if m ≤ 500 then min 100 (r.syncCnt + 1) else 0) else r.syncCnt }

/-- A standby, re-synchronising or waiting lane takes the epoch of the active lane (11 R423, R455); the planned step of R447
stands in the word (`Lane.stepDue`). -/
def Lane.peerFollow (L : Lane) (h : HealthWord) : Lane :=
  if h.role = .active ∧ !L.active then L.set Reg.RAP_EPOCH_EPOCH h.epoch else L

/-- Re-synchronisation begins (R467): the role is RESYNC, stage 1. -/
def Lane.resyncStart (L : Lane) : Lane :=
  let L := ((L.setRole .resync).set Reg.RED_RESYNC_STAGE 1).set Reg.RED_RESYNC_PROGRESS 0
  (L.setb Reg.RED_STAT_RESYNC true).onRed fun r => { r with syncCnt := 0, settle := 0, tbCount := 0, tbReq := false, disagree := false, matchRun := 0 }

/-- The digest in the active lane's word is compared with the lane's own (R445 CHART); a standby whose Chart differs re-synchronises
(R467). -/
def Lane.digestTake (L : Lane) (h : HealthWord) : Lane :=
  let same := decide (h.digest = if L.chart.ok then L.chart.now.digest else 0)
  let L := L.onRed fun r => { r with digestSame := same }
  if !same && decide (h.role = .active) && decide (L.role = 3) && !L.boot.waiting then L.resyncStart else L

/-- The health word of the other lane is taken (R444). -/
def Lane.healthTake (L : Lane) (h : HealthWord) (skew : Int) : Lane :=
  let fell := L.red.peerAble && !h.able && L.active
  let L := (L.onRed fun r => { r with peer := some h, peerAble := h.able, lost := false }).onHw fun w => { w with mirrorMiss := 0 }
  let L := (L.peerShow h).findIf fell 0x60 3
  let L := if h.role = .active ∧ !L.active then L.skewRead skew else L
  ((L.peerFollow h).digestTake h).chrStat

/-- HEALTH_WORD_RECEIVED (R444, R447; 02 R100): copies as delivered by XL0 and XL1; grid skew of the tick in 0.01 µs. -/
def execHealthWordReceived (l : LaneId) (x0 x1 : LinkRx) (skew : Int) (s : State) : Out :=
  let L := s.lane l
  match (s.lane l.other).red.hwOut with
  | some h =>
    if L.running then
      let s := s.upd l fun L => L.linkRx x0 x1
      if x0 = .intact ∨ x1 = .intact then
        let s := s.upd l fun L => L.healthTake h skew
        .next (s.moving fun s => if L.mode = 2 ∧ l = .b ∧ !s.sh.lock.holds .b ∧ h.role = .lubber then s.driveDown .b else s)
      else .next s
    else .next s
  | none => .next s

/-- HEALTH_WORD_TIMEOUT (R442, R445): after 3 ticks without a health word the other lane's role reads NONE. -/
def Lane.healthTimeout (L : Lane) : Lane :=
  if 3 ≤ L.get Reg.RED_PEER_AGE ∧ L.get Reg.RED_ROLE_PEER_ROLE ≠ 0 then
    let L := L.setAll [(Reg.RED_ROLE_PEER_ROLE, 0), (Reg.RED_PEER_ROLE, 0), (Reg.RED_PEER_MODE, 0), (Reg.RED_PEER_ABLE, 0), (Reg.RED_PEER_ARMED, 0),
      (Reg.RED_PEER_DEGRADED, 0), (Reg.RED_PEER_COASTING, 0), (Reg.RED_PEER_TB_REQ, 0)]
    (L.onRed fun r => { r with peer := none, peerAble := false, armedSeen := 0 }).findIf L.active 0x60 3
  else L

/-- HEALTH_WORD_TIMEOUT (R442). -/
def execHealthWordTimeout (l : LaneId) (s : State) : Out := onLane l Lane.healthTimeout s

/-! ### The mirror frame (R449-R451) -/

/-- A register that the mirror carries: host-written registers that are not lane-local, and the results and counts that the
shares name (05 R215, 08 R333, 09 R370; 18 R620, R622). Page 0x38's AI_CFG is taken through its own operation. -/
def mirroredReg (a : Nat) : Bool :=
  let p := a / 0x400
  let o := a % 0x400
  let host := match rowAt a with
    | some r => decide (r.rw ≠ 0) || decide (r.rws ≠ 0)
    | none => false
  let pages := decide (p = 0x02) || decide (p = 0x08) || decide (p = 0x0B) || decide (p = 0x11) || (decide (0x20 ≤ p) && decide (p ≤ 0x2F))
    || decide (p = 0x39) || decide (p = 0x40) || decide (p = 0x58)
  decide (0x20 ≤ o) &&
    (decide (p = 0x10) || (pages && host && decide (a ≠ (Reg.PTP_ASYM_w 0).addr) && decide (a ≠ (Reg.PTP_ASYM_w 1).addr)
        && decide (a ≠ Reg.CHR_SRC_DIS_w.addr))
      || decide (a = Reg.AI_FREEZE_w.addr) || decide (a = Reg.MODE_RESULT_w.addr) || decide (a = Reg.SCHED_STAT_w.addr)
      || decide (a = Reg.CHR_UTC_w.addr))

/-- The mirror frame of the tick (R450): `again` marks REPEAT. -/
def Lane.mirrorFrame (L : Lane) (again : Bool) : MirrorFrame :=
  { tick := L.get Reg.TICK_CNT_COUNT, epoch := L.get Reg.RAP_EPOCH_EPOCH, again := again, posTick := L.tk.posTick, plan := L.red.plan,
    suspTicks := L.red.suspTicks, holdoff := L.get Reg.RED_TB_HOLDOFF,
    tbSince := L.red.tbSince, awaySince := L.red.awaySince, mode := L.mode, prev := L.get Reg.MODE_CUR_PREV,
    late := L.flag Reg.MODE_CUR_LATE, cond := L.get Reg.MODE_COND_COND, pendMode := L.tk.pendMode, sched := L.tk.sched, ntk := L.ntk,
    plt := L.plt, ctl := L.ctl, alc := L.alc, means := L.ana.ins.map AiSt.mean, aoVals := L.ana.outs.map AoSt.committed,
    restartBits := L.ana.restartBits, leap := L.chr.leap,
    ptp := [L.ptpShare 0, L.ptpShare 1], cyc := L.can.cyc, can := L.canShare, alive := L.can.alive,
    executed := L.rap.executed, clients := L.rap.clients.map fun c => (c.client, c.lastSeq), sf := L.sf,
    regs := L.regs.filter fun e => mirroredReg e.1 || (decide ((Reg.AI_CFG_w 0).addr ≤ e.1) && decide (e.1 ≤ (Reg.AI_CFG_w 31).addr)) ||
      decide (e.1 = Reg.CHR_SRC_DIS_w.addr) }

/-- Sends the mirror frame (01 R45, R61): its size in bytes is a free value within the figures of R450. -/
def Lane.mirrorSend (L : Lane) (again : Bool) : Lane :=
  let f := L.mirrorFrame again
  let (q, L) := L.fresh
  let n := min q.floor.toNat (if f.posTick then 20072 else 9840)
  let L := (L.set Reg.LANE_MIRROR_SIZE_LAST n).set Reg.LANE_MIRROR_SIZE_PEAK (max n (L.get Reg.LANE_MIRROR_SIZE_PEAK))
  { L with mirror := some f }

/-- The intake with the mirrored share (03 R142): the lane's own samples, times and time models stay. -/
def IntakeSt.adopt (own m : IntakeSt) : IntakeSt :=
  let slot (s : Nat) (x : SlotSt) : SlotSt :=
    let o := own.slots.getD s {}
    { x with tm := o.tm, seen := o.seen, quality := o.quality, last := o.last, lastValid := o.lastValid, lastMeas := o.lastMeas }
  { m with slots := mapIdxFrom 0 slot m.slots, fresh := own.fresh, latched := own.latched, ana := own.ana, failed := own.failed, ops := own.ops }

/-- The own-vessel filter with the mirrored share (04 R180, R181): the history stays the lane's own and goes on from the
mirrored state; `pos`: the frame of a position-cycle tick. -/
def PlotSt.adopt (own m : PlotSt) (pos : Bool) : PlotSt :=
  let x := { own with x := m.x, xTime := m.xTime, st := m.st, begun := m.begun, tauT := m.tauT, tauW := m.tauW, thrustCmd := m.thrustCmd }
  if pos then
    let c := if own.cur.time = m.xTime then { own.cur with x := m.x, p := m.p } else own.cur
    { x with p := m.p, pTime := m.pTime, prec := m.prec, prev := m.prev, h := m.h, consist := m.consist, envTime := m.envTime,
             envOk := m.prec.envValid,
             windX := m.windX, windY := m.windY, windOk := m.windOk, cur := c }
  else x

/-- The Plotter's share (04 R180). -/
def PlotterSt.adopt (own m : PlotterSt) (pos : Bool) : PlotterSt :=
  let trk (k : Nat) (t : TrackSt) : TrackSt := if pos then t else { t with p := (own.tracks.getD k {}).p }
  { own with own := own.own.adopt m.own pos, tracks := mapIdxFrom 0 trk m.tracks }

/-- The share of allocation and the channels (06 R252, R247): feedback and levers as the lane itself measures them, its own
engines and migration; the mirrored loop state is the restore state. -/
def AllocSt.adopt (own m : AllocSt) : AllocSt :=
  let one (n : Nat) (c : ChanSt) : ChanSt :=
    let o := own.chans.getD n {}
    let c := { c with restore := c.loop, migr := o.migr, st := if o.st = ChState.noEngine ∨ c.st = ChState.noEngine then o.st else c.st }
    let c := { c with dem := o.dem, fbAng := o.fbAng, power := o.power, current := o.current, temp := o.temp, ready := o.ready }
    let c := { c with deployed := o.deployed, readyAge := o.readyAge, deployedAge := o.deployedAge, fbValid := o.fbValid }
    { c with lever := o.lever, leverAng := o.leverAng, leverOk := o.leverOk, leverAge := o.leverAge, leverAngAge := o.leverAngAge }
  { m with chans := mapIdxFrom 0 one m.chans }

/-- Angle in degrees from -180 to 180. -/
def wrap180 (x : Rat) : Rat := let y := deg360 x; if 180 < y then y - 360 else y

/-- The comparisons of a position-cycle tick (04 R181, 05 R215, 06 R252): Plotter, control, allocation. -/
def Lane.mirrorDiffs (L : Lane) (m : MirrorFrame) : Bool × Bool × Bool :=
  let a := L.plt.own.prec
  let b := m.plt.own.prec
  if a.rerun || a.revised || b.rerun || b.revised then (false, false, false)
  else
    let far (x y lim : Rat) : Bool := decide (lim < qAbs (x - y))
    let plot := far a.n b.n (1 / 10) || far a.e b.e (1 / 10) || decide (1 / 10 < qAbs (wrap180 (deg (a.psi - b.psi))))
    let lim := L.kc.axisLim
    let d := L.ctl.dem
    let e := m.ctl.dem
    let ctrl := far d.x e.x (lim.x / 20) || far d.y e.y (lim.y / 20) || far d.n e.n (lim.n / 20)
    let chan (n : Nat) : Bool := match L.chCfg n with
      | some c => far (L.ch n).loop.y (m.alc.chans.getD n {}).loop.y (c.nAbs / 50)
      | none => false
    (plot, ctrl, (List.range 16).any chan)

/-- A mismatch cycle or a matching one is counted (R446). -/
def Lane.countMismatch (L : Lane) (d : Bool × Bool × Bool) : Lane :=
  let one (f : Fld) (page bit : Nat) (c : Bool) (L : Lane) : Lane := if c then (L.incSat f).find page bit else L
  let L := one Reg.RED_MISMATCH_ALLOC 0x11 6 d.2.2 (one Reg.RED_MISMATCH_CTRL 0x10 7 d.2.1 (one Reg.RED_MISMATCH_PLOT 0x0A 7 d.1 L))
  if d.1 || d.2.1 || d.2.2 then (L.incSat Reg.RED_MISMATCH_CONSEC).onRed fun r => { r with matchRun := 0 }
  else (L.set Reg.RED_MISMATCH_CONSEC 0).onRed fun r => { r with matchRun := min 100 (r.matchRun + 1) }

/-- The CAN self-test of a position cycle (R448): the active lane sent frames on a NORMAL port and the lane stored none. -/
def Lane.canSelfTest (L : Lane) (m : List CanMirror) : Lane :=
  let one (p : Nat) (L : Lane) : Lane :=
    let c := L.port p
    let t := (m[p]?.map CanMirror.sent).getD c.peerSent
    let bad := decide (c.cfg.role = .normal) && decide (c.peerSent < t) && decide (c.seen = 0)
    let L := L.onRed fun r => { r with self := { r.self with can := modAt r.self.can p fun n => if bad then min 10 (n + 1) else 0 } }
    L.onPort p fun c => { c with peerSent := t, seen := 0 }
  forUpTo 8 one L

/-- New PPS values of the mirror take effect at the PPS output as those of a commit do (09 R367). -/
def Lane.ppsMirrored (L : Lane) (p : Nat) (m : List (Nat × Word)) : Lane :=
  let now (a : Nat) : Word := sparseGet m a (resetWord a)
  let differ := decide (now (Reg.PPS_CFG_w p).addr ≠ L.word (Reg.PPS_CFG_w p).addr) || decide (now (Reg.PPS_DELAY_w p).addr ≠ L.word (Reg.PPS_DELAY_w p).addr)
  if differ then L.ppsNew p else L

/-- The registers that the frame carries stand in place of the lane's own. -/
def Lane.adoptRegs (L : Lane) (m : List (Nat × Word)) : Lane :=
  let L := L.onRegs fun r => r.filter fun e => !mirroredReg e.1
  (m.filter fun e => mirroredReg e.1).foldl (fun L e => L.setWord e.1 e.2) L

/-- AI_CFG values, AI_RESTART bits, outputs and means of the analogue share (08 R325, R326, R330, R333). -/
def Lane.adoptAna (L : Lane) (m : MirrorFrame) : Lane :=
  let cfg (n : Nat) (L : Lane) : Lane :=
    let a := (Reg.AI_CFG_w n).addr
    let w := sparseGet m.regs a (resetWord a)
    if L.word a = w then L else (L.onAna fun x => { x with written := n :: x.written.filter fun k => k ≠ n }).aiConfigure n w
  let L := forUpTo 32 cfg L
  let L := forUpTo 32 (fun n L => if testBit m.restartBits n then L.aiRestart n else L) L
  let L := forUpTo 16 (fun k L => L.onAo k fun a => { a with committed := m.aoVals.getD k a.committed }) L
  if m.posTick then forUpTo 32 (fun n L => L.compareMean n (m.means.getD n none)) L else L

/-- The chronometer's share (09 R370). -/
def Lane.adoptChr (L : Lane) (m : MirrorFrame) : Lane :=
  let seq (p : PtpInst) (q : PtpShare) : PtpInst := { p with seqAnnounce := q.seqAnnounce, seqSync := q.seqSync }
  let L := L.onChr fun c => { c with leap := m.leap, peerPtp := m.ptp, dom0 := seq c.dom0 (m.ptp.getD 0 {}), dom1 := seq c.dom1 (m.ptp.getD 1 {}) }
  let w := (Reg.CHR_SRC_DIS_MASK).of (sparseGet m.regs Reg.CHR_SRC_DIS_w.addr (resetWord Reg.CHR_SRC_DIS_w.addr))
  if L.get Reg.CHR_SRC_DIS_MASK = w then L else (L.applySrcDis w).onChr fun c => { c with srcDisWritten := true }

/-- The RAP's share (11 R423, R430): at most 32 record entries per client, newest first; the clients' last SEQ. -/
def RapSt.adopt (r : RapSt) (m : MirrorFrame) : RapSt :=
  let add (rec : List (Nat × Nat × Nat × List Nat)) (e : Nat × Nat × Nat × List Nat) : List (Nat × Nat × Nat × List Nat) :=
    let mine := (rec.filter fun x => x.1 = e.1).take 31
    e :: mine ++ rec.filter fun x => x.1 ≠ e.1
  let cl (l : List RapClient) (e : Nat × Nat) : List RapClient :=
    if l.any fun c => c.client = e.1 then l.map fun c => if c.client = e.1 then { c with lastSeq := e.2 } else c
    else match freeIdx l with
      | some i => l ++ [⟨i, e.1, e.2, 0⟩]
      | none => l
  { r with record := m.executed.foldl add r.record, clients := m.clients.foldl cl r.clients }

/-- An intact mirror frame is adopted (R449). -/
def Lane.adopt (L : Lane) (m : MirrorFrame) : Lane :=
  let st := decide (L.role = 3)
  let L := if st && m.posTick && !m.again then (L.countMismatch (L.mirrorDiffs m)).canSelfTest m.can else L
  let L := L.setAll [(Reg.MODE_CUR_MODE, m.mode), (Reg.MODE_CUR_PREV, m.prev), (Reg.MODE_CUR_LATE, if m.late then 1 else 0), (Reg.RED_TB_HOLDOFF, m.holdoff), (Reg.RAP_EPOCH_EPOCH, m.epoch)]
  let L := L.condSet m.cond
  let L := L.onTk fun k => { k with pendMode := m.pendMode, sched := m.sched }
  let L := (L.onRed fun r =>
      { r with suspTicks := m.suspTicks, tbSince := m.tbSince, awaySince := m.awaySince, noMirror := 0, missed := 0, lost := false }).onHw fun h => { h with mirrorMiss := 0 }
  let L := (L.set Reg.RED_TB_SUSP_REMAIN ((m.suspTicks + 999) / 1000)).setb Reg.RED_STAT_TB_SUSPENDED (decide (m.suspTicks ≠ 0))
  let L := (L.ppsMirrored 0 m.regs).ppsMirrored 1 m.regs
  let L := L.adoptRegs m.regs
  let L := (L.onNtk fun k => k.adopt m.ntk).onPlt fun p => p.adopt m.plt m.posTick
  let L := (L.setb Reg.PLOT_STAT_ENV_VALID L.plt.own.envOk).set Reg.PLOT_STAT_STATE L.plt.own.st
  let L := ((L.onCtl fun _ => m.ctl).onRed fun r => { r with ctl := some m.ctl }).setb Reg.CTRL_STAT_DR_ACTIVE (decide (m.mode = 11))
  let L := (L.onAlc fun a => a.adopt m.alc).availShow
  let L := ((L.adoptAna m).adoptChr m).canAdopt m.cyc m.can m.alive
  let L := L.chFrames fun _ => false
  let L := (L.onRap fun r => r.adopt m).sfAdopt m.sf (!st)
  let L := (L.adoptLog m.sf.log).schedShow
  if L.get Reg.RED_RESYNC_STAGE = 3 then L.onRed fun r => { r with syncCnt := min 10 (r.syncCnt + 1) } else L

/-- The lane takes mirror frames: standby, or re-synchronising from stage 3 (R449, R467). -/
def Lane.mirrors (L : Lane) : Bool :=
  L.running && !L.coasting && !L.boot.waiting && (decide (L.role = 3) || (decide (L.role = 4) && decide (3 ≤ L.get Reg.RED_RESYNC_STAGE)))

/-- MIRROR_FRAME_RECEIVED (R449; 01 R46): copies as delivered. A standby whose links were lost re-synchronises. -/
def execMirrorFrameReceived (l : LaneId) (x0 x1 : LinkRx) (s : State) : Out :=
  match (s.lane l.other).mirror with
  | some m =>
    if (s.lane l).running then
      .next (s.upd l fun L =>
        let L := L.linkRx x0 x1
        if x0 = .intact ∨ x1 = .intact then
          if L.mirrors then
            let back := L.red.lost && decide (L.role = 3)
            let L := L.adopt m
            if back then L.resyncStart else L
          else (L.onHw fun h => { h with mirrorMiss := 0 }).onRed fun r => { r with noMirror := 0, missed := 0 }
        else if L.get Reg.RED_RESYNC_STAGE = 3 then L.onRed fun r => { r with syncCnt := 0 } else L)
    else .next s
  | none => .next s

/-- XLINK_LOST (01 R46, R62): neither link brought an intact frame in 3 consecutive ticks. -/
def Lane.xlinkLost (L : Lane) : Lane :=
  let noFrame := decide (3 ≤ L.red.missed) && L.peerIs .active && !L.active
  if L.running && !L.red.lost && (decide (3 ≤ L.hw.mirrorMiss) || noFrame) then
    let L := (L.setb Reg.LANE_STAT_XL0_UP false).setb Reg.LANE_STAT_XL1_UP false
    (L.onRed fun r => { r with lost := true }).find 0x01 6
  else L

/-- XLINK_LOST (01 R46). -/
def execXlinkLost (l : LaneId) (s : State) : Out := onLane l Lane.xlinkLost s

/-- LANE_DISAGREE (R446). -/
def Lane.laneDisagree (L : Lane) : Lane :=
  if !L.red.disagree && decide (3 ≤ L.get Reg.RED_MISMATCH_CONSEC) then
    ((L.onRed fun r => { r with disagree := true }).setb Reg.RED_FAULT_DISAGREE_SEEN true).find 0x60 4
  else if L.red.disagree && decide (100 ≤ L.red.matchRun) then L.onRed fun r => { r with disagree := false }
  else L

/-- LANE_DISAGREE (R446). -/
def execLaneDisagree (l : LaneId) (s : State) : Out := onLane l Lane.laneDisagree s

/-- GRID_SKEW (R447). -/
def Lane.gridSkew (L : Lane) : Lane :=
  if !L.red.skew && decide (10 ≤ L.red.skewOut) then (L.onRed fun r => { r with skew := true }).find 0x60 5
  else if L.red.skew && decide (100 ≤ L.red.skewIn) then L.onRed fun r => { r with skew := false }
  else L

/-- GRID_SKEW (R447). -/
def execGridSkew (l : LaneId) (s : State) : Out := onLane l Lane.gridSkew s

/-! ### Re-synchronisation (R467) -/

/-- FAULT registers of every page back to 0 (01 R56). -/
def Lane.faultsClear (L : Lane) : Lane := L.onRegs fun m => m.filter fun e => !decide (e.1 % 0x400 = 0x1C)

/-- The re-synchronisation ends: the lane is standby. -/
def Lane.resyncDone (L : Lane) : Lane :=
  let L := ((L.setRole .standby).setAll [(Reg.RED_RESYNC_STAGE, 0), (Reg.RED_RESYNC_PROGRESS, 0), (Reg.RED_STAT_RESYNC, 0)]).faultsClear
  (L.onRed fun r => { r with syncCnt := 0, settle := 0 }).find 0x60 6

/-- The next stage of a re-synchronisation. -/
def Lane.resyncTo (L : Lane) (n : Nat) : Lane :=
  ((L.set Reg.RED_RESYNC_STAGE n).set Reg.RED_RESYNC_PROGRESS (if n = 4 then 1000 else 0)).onRed fun r => { r with syncCnt := 0, settle := 0 }

/-- Every condition of R445 but ROLE and RESYNC holds: what SETTLE watches. -/
def Lane.settles (L : Lane) : Bool := (List.range 12).all fun n => decide (n = 0) || decide (n = 2) || !L.unable n

/-- RESYNC_STAGE_END (R467): the stage's end condition holds, and the next stage begins. In stage 1 the active lane's Chart is
made current first where the digests differ. -/
def execResyncStageEnd (l : LaneId) (s : State) : Out :=
  let L := s.lane l
  let p := s.lane l.other
  if L.running && decide (L.role = 4) && !L.coasting && p.active then
    let go (n : Nat) (s : State) : Out := .next (s.upd l fun L => L.resyncTo n)
    match L.get Reg.RED_RESYNC_STAGE with
    | 1 =>
      if L.chart.now.digest = p.chart.now.digest then go 2 s
      else if L.flag Reg.THERM_WINDOW_OPEN then go 2 (s.moving fun s => s.chartAdopt l) else .next s
    | 2 => if 100 ≤ L.red.syncCnt ∧ L.srcState 4 = 3 then go 3 s else .next s
    | 3 => if 10 ≤ L.red.syncCnt then go 4 s else .next s
    | 4 => if 1000 ≤ L.red.settle then .next (s.upd l Lane.resyncDone) else .next s
    | _ => .next s
  else .next s

/-- A re-synchronising lane at a tick start: SETTLE counts, and a failure sends it back to the stage that failed. -/
def Lane.resyncTick (L : Lane) : Lane :=
  if L.role ≠ 4 then L
  else
    let st := L.get Reg.RED_RESYNC_STAGE
    let chart := match L.red.peer with
      | some h => decide (h.digest = if L.chart.ok then L.chart.now.digest else 0)
      | none => false
    if 2 ≤ st ∧ !chart then L.resyncTo 1
    else if 3 ≤ st ∧ (L.red.skew ∨ L.srcState 4 ≠ 3) then L.resyncTo 2
    else if st = 4 ∧ 4 ≤ L.red.noMirror then L.resyncTo 3
    else if st = 4 then
      let n := if L.settles then min 1000 (L.red.settle + 1) else 0
      (L.onRed fun r => { r with settle := n }).set Reg.RED_RESYNC_PROGRESS (1000 - n)
    else L

end Sys2Proof.Machine
end

