-- ==== Sys2Proof/Machine/Takeover.lean ====
section
/-! DEFINITION. How the active lane changes: takeover, planned handover, take-back, cold takeover, declared failure, the commands
of page 0x60 (12 R454-R470), and the end of a start-up (02 R88, R98). -/

namespace Sys2Proof.Machine

open Sys2Proof

/-! ### The end of start-up -/

/-- Digest of a slot as records carry it (14 R633): an invalid slot gives zero. -/
def ImageSlot.shown (x : ImageSlot) : Nat := if x.valid then x.digest else 0

/-- Step 9 (02 R88, R89, R98, R469): READY, or CONFIG without a Chart; the failed-start count is 0, a trial permanent. -/
def Lane.stepNine (L : Lane) : Lane :=
  let ms := L.boot.findings.ms
  let L := (L.setAll [(Reg.MODE_CUR_PREV, L.mode), (Reg.MODE_CUR_MODE, if L.chart.ok then 4 else 3), (Reg.BOOT_CAUSE_COUNT, 0)]).setSat Reg.BOOT_TIME_MS ms
  let L := L.onBoot fun b =>
    { b with mem := { b.mem with failCount := 0, digestFails := 0 }, trial := none, deciding := none, roleWait := none, contestWait := none, driveWait := none }
  let L := if L.get Reg.RED_FW_STAT_STATE = 4 then L.set Reg.RED_FW_STAT_STATE 0 else L
  let L := L.bootRecWrite.find 0x02 0
  L.post 4 0x01 (leBytes 4 (L.word Reg.BOOT_CAUSE_w.addr).toNat ++ leBytes 2 (L.get Reg.BOOT_TIME_MS) ++ [L.boot.bootSlot, 0]
    ++ leBytes 8 L.boot.slot0.shown ++ leBytes 8 L.boot.slot1.shown)

/-! ### Losing and taking the active role -/

/-- The lane is not active any more (R459, R454): it becomes STANDBY after a planned handover, else it re-synchronises. -/
def Lane.loseActive (L : Lane) : Lane :=
  let planned := L.red.outgoing.isSome
  let lub := L.tk.lubberAfter
  let late := L.tk.lubberLate
  let L := (L.sessionEnd.chartAbandon.rapDiscard).setAll [(Reg.LANE_STAT_ACTIVE, 0), (Reg.RED_STAT_ACTIVE, 0)]
  let L := L.onRed fun r => { r with plan := none, tbCount := 0, tbReq := false }
  let L := L.chrStandby
  if lub then L.enterLubber 3 late else if planned then L.setRole .standby else L.resyncStart

/-- The cause that the incoming lane records (R454, R465; 02 R101). -/
def Lane.takeCause (L : Lane) (rel : Option TakeCause) : TakeCause :=
  if L.red.cold then .cold else if L.boot.waiting then .fromLubber else rel.getD .peerStall

/-- The count of RED_COUNT and the event of a cause (R474, R475). -/
def TakeCause.shows (c : TakeCause) : Fld × Nat :=
  match c with
  | .takeBack => (Reg.RED_COUNT_TAKEBACK, 1)
  | .hostSwitchover | .peerLubber => (Reg.RED_COUNT_SWITCHOVER, 2)
  | .cold => (Reg.RED_COUNT_COLD, 0)
  | _ => (Reg.RED_COUNT_TAKEOVER, 0)

/-- The preferred lane of the Chart (R443). -/
def Lane.preferred (L : Lane) : Bool := decide ((L.get Reg.RED_ROLE_PREFERRED = 0) ↔ (L.id = .a))

/-- The hold-off after a change of the active lane (R464): doubled by a takeover away from the preferred lane within the hold-off
in force at the last take-back. -/
def Lane.holdoffAfter (L : Lane) (c : TakeCause) : Lane :=
  if c = .takeBack then
    let h := L.get Reg.RED_TB_HOLDOFF
    L.onRed fun r => { r with tbSince := some (0, h) }
  else if !L.preferred && decide (c.shows.2 = 0) then
    match L.red.tbSince with
    | some (t, h) =>
      if t ≤ 1000 * h then
        (L.set Reg.RED_TB_HOLDOFF (min 3600 (2 * L.get Reg.RED_TB_HOLDOFF))).onRed fun r => { r with awaySince := some 0 }
      else L
    | none => L
  else L

/-- The lane is the active one from now on: role, allocation from the committed state, the transports (R455). -/
def Lane.becomeActive (L : Lane) : Lane :=
  let L := (L.setRole .active).setAll [(Reg.LANE_STAT_ACTIVE, 1), (Reg.RED_STAT_ACTIVE, 1), (Reg.RED_RESYNC_STAGE, 0), (Reg.RED_RESYNC_PROGRESS, 0),
    (Reg.RED_STAT_RESYNC, 0), (Reg.RED_TB_REMAIN, 0xFFFF)]
  let L := L.onRed fun r =>
    { r with plan := none, outgoing := none, cold := false, tbCount := 0, tbReq := false, noHolder := 0, skew := false, disagree := false, ctl := none }
  let L := L.onChart fun c => { c with next := none }
  let L := (L.onBoot fun b => { b with waiting := false }).onAlc fun a => { a with warm := true }
  ((((L.ableOff).canTakeover).canFollow true).chrTakeover).sfTakeover

/-- SUSPENSION_END (R463). -/
def Lane.suspensionEnd (L : Lane) : Lane :=
  if L.red.suspTicks = 0 then (L.set Reg.RED_TB_SUSP_REMAIN 0).setb Reg.RED_STAT_TB_SUSPENDED false else L

/-- The lane that was active before restarts after this change (R454, R463). -/
def TakeCause.restarts (c : TakeCause) : Bool :=
  decide (c = .peerFailed) || decide (c = .peerSupply) || decide (c = .peerStall) || decide (c = .cold)

/-- The first active tick after a change of the active lane (R455): epoch, cause, gap, counts, event. The lane goes on from the
control state last mirrored (05 R209). -/
def Lane.takeOver (L : Lane) (c : TakeCause) (gap : Nat) : Lane :=
  let L := if c = .cold then (L.modeGoto 4 false).setb Reg.RED_FAULT_COLD true else L.onCtl fun k => L.red.ctl.getD k
  let L := L.becomeActive
  let L := if c.restarts then (L.onRed fun r => { r with suspTicks := 0 }).suspensionEnd else L
  let L := (L.incWrap Reg.RAP_EPOCH_EPOCH).set Reg.RED_LAST_CAUSE c.code
  let L := (L.setSat Reg.RED_LAST_GAP gap).incSat c.shows.1
  (L.holdoffAfter c).find 0x60 c.shows.2

/-- TAKEOVER (R455; 02 R88, R91): the input latch sees the grant held by the lane. At start-up the lane becomes active with no
change of the active lane. The gap, with no lane driving, is in 0.1 µs. -/
def execTakeover (l : LaneId) (gap : Nat) (s : State) : Out :=
  let L := s.lane l
  if s.sh.lock.holds l && L.running && !L.active && decide (L.mode ≠ 2) && decide (L.role ≠ 5) then
    if L.role = 1 then .next (s.upd l fun L => L.becomeActive.stepNine).binEval
    else
      let c := L.takeCause s.sh.lock.relCause
      let s := (s.upd l fun L => L.takeOver c gap).binEval
      if c.shows.2 = 0 then .next s
      else .next (s.upd l.other fun L => if L.running then (L.holdoffAfter c).find 0x60 c.shows.2 else L)
  else .next s

/-- PLANNED_HANDOVER (R459): at 950 µs of H the active lane releases DRIVE if the standby's ARM is asserted, else it cancels. -/
def execPlannedHandover (l : LaneId) (s : State) : Out :=
  let L := s.lane l
  match L.red.plan with
  | some (h, c) =>
    if L.active && s.sh.lock.holds l && !L.tk.inTick && decide (L.get Reg.TICK_CNT_COUNT = h) then
      if s.sh.lock.arm l.other then
        let s := s.moving fun s => (s.driveDown l (some c)).onLock fun k => k.setArm l true
        .next (s.upd l fun L =>
          let L := (L.setAll [(Reg.RED_ABLE_ARMED, 1), (Reg.RED_STAT_ARMED, 1)]).onRed fun r => { r with outgoing := some h, plan := none }
          (L.bmca 0).bmca 1)
      else .next (s.upd l Lane.cancelHandover)
    else .next s
  | none => .next s

/-- COLD_TAKEOVER (R465): a standby in modes 3-11 asserts DRIVE after 3 latches without a holder. -/
def execColdTakeover (l : LaneId) (s : State) : Out :=
  let L := s.lane l
  if L.running && !L.active && !L.coasting && (decide (L.role = 3) || decide (L.role = 4)) && decide (3 ≤ L.mode) && decide (3 ≤ L.red.noHolder)
      && !s.sh.lock.held then
    .next ((s.upd l fun L => L.onRed fun r => { r with cold := true }).moving fun s => s.driveUp l)
  else .next s

/-! ### Take-back (R462-R464) -/

/-- TAKE_BACK_REQUEST (R462). -/
def Lane.takeBackRequest (L : Lane) : Lane :=
  if L.preferred && decide (L.role = 3) && L.flag Reg.RED_ABLE_ABLE && decide (1000 * L.get Reg.RED_TB_HOLDOFF ≤ L.red.tbCount) then
    L.onRed fun r => { r with tbReq := true }
  else L

/-- TAKE_BACK_REQUEST (R462). -/
def execTakeBackRequest (l : LaneId) (s : State) : Out := onLane l Lane.takeBackRequest s

/-- HOLDOFF_RESET (R464): 24 h without a takeover away from the preferred lane. -/
def Lane.holdoffReset (L : Lane) : Lane :=
  match L.red.awaySince with
  | some t =>
    if 86400000 ≤ t then (L.set Reg.RED_TB_HOLDOFF L.chart.now.red.holdoff).onRed fun r => { r with awaySince := none } else L
  | none => L

/-- HOLDOFF_RESET (R464). -/
def execHoldoffReset (l : LaneId) (s : State) : Out := onLane l Lane.holdoffReset s

/-- RED_TB_SUSP and STAT.TB_SUSPENDED (R463): whole seconds, rounded up. -/
def Lane.suspShow (L : Lane) : Lane := L.set Reg.RED_TB_SUSP_REMAIN ((L.red.suspTicks + 999) / 1000)

/-- SUSPENSION_END (R463). -/
def execSuspensionEnd (l : LaneId) (s : State) : Out := onLane l Lane.suspensionEnd s

/-- The redundancy counters of a tick (R462-R464): hold-off, suspension, times since. -/
def Lane.takeBackTick (L : Lane) : Lane :=
  let count := L.preferred && decide (L.role = 3) && L.flag Reg.RED_ABLE_ABLE
  let n := if count then L.red.tbCount + 1 else 0
  let s := L.red.suspTicks
  let L := L.onRed fun r =>
    { r with tbCount := n, tbReq := r.tbReq && count, suspTicks := s - 1, tbSince := r.tbSince.map fun q => (q.1 + 1, q.2),
             awaySince := r.awaySince.map fun t => t + 1 }
  let L := if s = 0 then L else L.suspShow
  L.set Reg.RED_TB_REMAIN (if count then (1000 * L.get Reg.RED_TB_HOLDOFF - n + 999) / 1000 else 0xFFFF)

/-- What an active lane plans in a tick (R460, R462): the degraded lane hands over, a take-back that is asked for begins at a
position cycle. -/
def Lane.planTick (L : Lane) : Lane :=
  if !L.active || L.red.outgoing.isSome then L
  else if L.flag Reg.LANE_STAT_DEGRADED && L.red.peerAble then L.planHandover .peerDegraded
  else
    match L.red.peer with
    | some h =>
      if h.tbReq && L.tk.posTick && decide (L.red.suspTicks = 0) && !L.flag Reg.MODE_CUR_BLENDING && !L.sessionOpen && L.rap.xfer.isNone then
        L.planHandover .takeBack
      else L
    | none => L

/-! ### A lane declares itself failed (01 R37, R44; R442, R454) -/

/-- The declaration: role FAILED, the record of 14 R633 with the engine or memory; the grant is released at 950 µs. -/
def Lane.declareFailed (L : Lane) (unit : Nat) (mem : Bool) : Lane :=
  if L.role = 5 then L
  else
    let n := L.tk.count
    let L := ((L.sessionEnd.chartAbandon.rapDiscard).setRole .failed).setAll [(Reg.LANE_STAT_ACTIVE, 0), (Reg.RED_STAT_ACTIVE, 0), (Reg.RED_RESYNC_STAGE, 0),
      (Reg.RED_STAT_RESYNC, 0)]
    let L := (L.onHw fun h => { h with failed := some (1, unit, n) }).onRed fun r => { r with plan := none, outgoing := none }
    let last := if mem then (L.word Reg.LANE_ECC_LAST_w.addr).toNat else 0
    L.ableOff.post 6 0x0A ([1, unit, 0, 0] ++ leBytes 4 last)

/-- The grant and ARM of a failed lane are released at 950 µs of the tick of the declaration (R454). -/
def State.failRelease (s : State) (l : LaneId) : State :=
  if (s.lane l).hw.failed.isSome then s.onLock fun k => (k.release l (some .peerFailed)).setArm l false else s

/-- LANE_FAIL_RESTART (R442): 100 ticks after the declaration the lane restarts itself. -/
def Lane.failRestart (L : Lane) : Lane :=
  match L.hw.failed with
  | some (_, _, n) => if n + 100 ≤ L.tk.count then L.hold .laneFailRestart else L
  | none => L

/-- LANE_FAIL_RESTART (R442). -/
def execLaneFailRestart (l : LaneId) (s : State) : Out := onLane l Lane.failRestart s

/-! ### Commands of page 0x60 (R461-R470, R474) -/

/-- A command of RED_CMD with its result. -/
def Lane.redCmd (L : Lane) (tag cmd result : Nat) : Lane :=
  L.setAll [(Reg.RED_CMD_TAG, tag), (Reg.RED_CMD_CMD, cmd), (Reg.RED_CMD_RESULT, result)]

/-- SWITCHOVER (R461). -/
def Lane.switchover (L : Lane) (tag : Nat) : Lane :=
  if !L.active then L.redCmd tag 1 2
  else if !L.red.peerAble then L.redCmd tag 1 4
  else if L.red.plan.isSome || L.red.outgoing.isSome then L.redCmd tag 1 8
  else (L.planHandover .hostSwitchover).redCmd tag 1 0

/-- SWITCHOVER (R461). -/
def execSwitchover (l : LaneId) (tag : Nat) (s : State) : Out := onLane l (fun L => L.switchover tag) s

/-- SUSPEND_TB with RED_ARG.SECONDS (R463). -/
def Lane.suspendTb (L : Lane) (tag : Nat) : Lane :=
  let n := L.get Reg.RED_ARG_SECONDS
  if !L.active then L.redCmd tag 2 2
  else if n < 1 ∨ 3600 < n then L.redCmd tag 2 5
  else (((L.onRed fun r => { r with suspTicks := 1000 * n }).setb Reg.RED_STAT_TB_SUSPENDED true).suspShow).redCmd tag 2 0

/-- SUSPEND_TB (R463). -/
def execSuspendTb (l : LaneId) (tag : Nat) (s : State) : Out := onLane l (fun L => L.suspendTb tag) s

/-- RESUME_TB (R463). -/
def Lane.resumeTb (L : Lane) (tag : Nat) : Lane :=
  if !L.active then L.redCmd tag 3 2
  else ((L.onRed fun r => { r with suspTicks := 0 }).suspensionEnd).redCmd tag 3 0

/-- RESUME_TB (R463). -/
def execResumeTb (l : LaneId) (tag : Nat) (s : State) : Out := onLane l (fun L => L.resumeTb tag) s

/-- The lane is a standby for the commands of RED_CMD that only a standby takes (R468, R474). -/
def Lane.isStandby (L : Lane) : Bool := decide (L.role = 3) || decide (L.role = 4)

/-- RESYNC (R467). -/
def Lane.resyncCmd (L : Lane) (tag : Nat) : Lane :=
  if L.isStandby && !L.boot.waiting then L.resyncStart.redCmd tag 4 0 else L.redCmd tag 4 3

/-- RESYNC (R467). -/
def execResync (l : LaneId) (tag : Nat) (s : State) : Out := onLane l (fun L => L.resyncCmd tag) s

/-- The slot that is not the boot slot (01 R41). -/
def Lane.otherSlot (L : Lane) : Nat := 1 - L.boot.bootSlot

/-- FW_BEGIN (R468; 16 R578). -/
def Lane.fwBegin (L : Lane) (tag : Nat) : Lane :=
  if !L.isStandby then L.redCmd tag 5 3
  else if !L.flag Reg.THERM_WINDOW_OPEN then L.redCmd tag 5 8
  else
    let L := L.onBoot fun b => { b.onSlot (1 - b.bootSlot) (fun _ => { valid := false }) with rejected := false }
    (L.setAll [(Reg.RED_FW_OFS_OFS, 0), (Reg.RED_FW_STAT_STATE, 1), (Reg.RED_FW_STAT_FMT_MIN, 0), (Reg.RED_FW_STAT_FMT_MAX, 0)]).redCmd tag 5 0

/-- FW_BEGIN (R468). -/
def execFwBegin (l : LaneId) (tag : Nat) (s : State) : Out := onLane l (fun L => L.fwBegin tag) s

/-- RED_FW_DATA_WRITE (R468, R474): word `w` of the window, ignored unless STATE is RECEIVING. -/
def Lane.fwData (L : Lane) (w : Nat) (v : Word) : Lane :=
  if L.get Reg.RED_FW_STAT_STATE ≠ 1 then L
  else
    let ofs := 4 * (L.get Reg.RED_FW_OFS_OFS + w)
    let L := L.onBoot fun b => b.onSlot (1 - b.bootSlot) fun x => { x with words := (ofs, v) :: x.words.filter fun e => e.1 ≠ ofs }
    if w = 63 then L.set Reg.RED_FW_OFS_OFS (L.get Reg.RED_FW_OFS_OFS + 64) else L

/-- RED_FW_DATA_WRITE (R468). -/
def execRedFwDataWrite (l : LaneId) (w : Nat) (v : Word) (s : State) : Out := onLane l (fun L => L.fwData w v) s

/-- FW_CHECK (R468): what the check of the slot's content finds is an uninterpreted function of it (log entry 6). -/
def Lane.fwCheck (L : Lane) (tag : Nat) : Lane :=
  if !L.isStandby then L.redCmd tag 6 3
  else if !L.flag Reg.THERM_WINDOW_OPEN then L.redCmd tag 6 8
  else
    let (ok, lo, hi, d) := Config.fwCheck ((L.boot.slot L.otherSlot).words.map fun e => (e.1, e.2.toNat))
    let L := L.onBoot fun b => b.onSlot (1 - b.bootSlot) fun x =>
      if ok then { x with valid := true, digest := d, fmtMin := lo, fmtMax := hi } else { x with valid := false }
    if ok then
      (L.setAll [(Reg.RED_FW_STAT_STATE, 2), (Reg.RED_FW_STAT_FMT_MIN, lo), (Reg.RED_FW_STAT_FMT_MAX, hi)]).redCmd tag 6 0
    else (L.set Reg.RED_FW_STAT_STATE 3).redCmd tag 6 6

/-- FW_CHECK (R468). -/
def execFwCheck (l : LaneId) (tag : Nat) (s : State) : Out := onLane l (fun L => L.fwCheck tag) s

/-- FW_ACTIVATE (R468-R470): the slot becomes the boot slot, on trial, and the lane restarts. -/
def Lane.fwActivate (L : Lane) (tag : Nat) : Lane :=
  let n := L.otherSlot
  let x := L.boot.slot n
  let noFmt : Bool := match L.red.peer with
    | some h => decide (h.role = .active) && (commonFmt x.fmtMin x.fmtMax h.fmtMin h.fmtMax).isNone
    | none => false
  if !L.isStandby then L.redCmd tag 7 3
  else if !L.flag Reg.THERM_WINDOW_OPEN then L.redCmd tag 7 8
  else if L.get Reg.RED_FW_STAT_STATE ≠ 2 then L.redCmd tag 7 6
  else if noFmt then L.redCmd tag 7 7
  else
    let o := L.boot.bootSlot
    let L := L.post 5 0x08 ([o, n, 0, 0] ++ leBytes 8 (L.boot.slot o).shown ++ leBytes 8 x.shown)
    let L := (L.onBoot fun b => { b with bootSlot := n, trial := some o }).onRap fun r => { r with restart := true }
    (L.set Reg.RED_FW_STAT_STATE 4).redCmd tag 7 0

/-- FW_ACTIVATE (R468). -/
def execFwActivate (l : LaneId) (tag : Nat) (s : State) : Out := onLane l (fun L => L.fwActivate tag) s

/-- CNT_CLR of page 0x60 (R473). -/
def Lane.redCntClr (L : Lane) : Lane := L.setAll [(Reg.RED_COUNT_w, 0), (Reg.RED_SKEW_MAX, 0), (Reg.RED_MISMATCH_w, 0)]

end Sys2Proof.Machine
end

