-- ==== Sys2Proof/Machine/Boot.lean ====
section
/-! DEFINITION. Start-up: steps 1 to 8, failed starts, role decision, the lane in LUBBER (02 R88-R101). -/

namespace Sys2Proof.Machine

open Sys2Proof

/-! ### Release of reset (steps 1 and 2) -/

/-- A later sequence number, modulo 2^32 (14 R523). -/
def laterSeq (a b : Nat) : Nat := if (a + 2 ^ 32 - b) % 2 ^ 32 < 2 ^ 31 then a else b

/-- One above the highest SEQ in the store, 0 with an empty store (14 R523). -/
def LogSt.seqAtStart (g : LogSt) : Nat :=
  match (g.blocks.flatMap fun b => b.recs.map LogRec.seq) with
  | [] => 0
  | x :: r => (r.foldl laterSeq x + 1) % 2 ^ 32

/-- The recorder at a lane start (14 R523, R533, R534): what MRAM keeps, and the sick-bay buffer if SRAM kept it. -/
def LogSt.start (g : LogSt) (kept : Bool) : LogSt :=
  { nextSeq := g.seqAtStart, blocks := g.blocks, gens := g.gens, damaged := g.damaged, ctl0Bad := g.ctl0Bad, ctl1Bad := g.ctl1Bad, sick := if kept then g.sick else [] }

/-- Words that a lane start leaves: the supply inputs as they are, and, where SRAM kept its contents, the
lockstep counts and the sick-bay total (01 R61, 14 R538, 16 R580). -/
def keepWords (kept : Bool) (m : List (Nat × Word)) : List (Nat × Word) :=
  m.filter fun e =>
    decide (e.1 = (Reg.PWR_IN_w 1).addr) || decide (e.1 = (Reg.PWR_IN_w 2).addr)
      || (kept && (decide (e.1 = Reg.LANE_LOCKSTEP_CNT_w.addr) || decide (e.1 = Reg.LOG_SICK_CNT_w.addr)))

/-- What a start finds of the failed-start history (R95, R98): the SRAM area's, or the copy in MRAM; a host restart of a lane in
LUBBER clears the count. -/
def Lane.historyAtStart (L : Lane) (f : StartFindings) : BootMem :=
  let m := if f.bootAreaOk then L.boot.mem else if L.hw.snapshotBad then {} else L.boot.mram
  if L.boot.cause = .hostRestart ∧ L.mode = 2 then { m with failCount := 0, digestFails := 0 } else m

/-- Start-up state at the release of reset. -/
def Lane.bootAtStart (L : Lane) (f : StartFindings) : BootSt :=
  let b := if L.hw.snapshotBad then { L.boot with mram := {}, snapF := 0, snapMean := 0, snapPowered := 0, snapCycles := 0 } else L.boot
  { phase := .clock, cause := b.cause, findings := f, mem := L.historyAtStart f, mram := b.mram, bootSlot := b.bootSlot, slot0 := b.slot0, slot1 := b.slot1,
    trial := b.trial, rejected := b.rejected, snapF := b.snapF, snapMean := b.snapMean, snapPowered := b.snapPowered, snapCycles := b.snapCycles,
    cycles := (if f.bootAreaOk then b.cycles else b.snapCycles) + 1 }

/-- The lane at the release of reset (R88, 18 R620): registers at their reset values but for those kept, no history. -/
def Lane.start (L : Lane) (f : StartFindings) : Lane :=
  let b := L.bootAtStart f
  let mean := if f.bootAreaOk then L.pwr.lifeMean else b.snapMean
  let powered := if f.bootAreaOk then L.pwr.poweredMs else b.snapPowered
  let b := { b with beganMs := powered }
  let chart : ChartSt := { bank0 := L.chart.bank0, bank1 := L.chart.bank1, cur := L.chart.cur }
  let sf : SafetySt := { password := L.sf.password, initial := L.sf.initial, log := L.sf.log }
  let N : Lane :=
    { id := L.id, variant := L.variant, regs := keepWords f.bootAreaOk L.regs, boot := b, chart := chart, log := L.log.start f.bootAreaOk,
      chr := { f := b.snapF }, pwr := L.pwr.start mean powered, sf := sf, free := L.free }
  let N := N.setAll [(Reg.BOOT_CAUSE_CAUSE, b.cause.code), (Reg.BOOT_CAUSE_LAST_FAIL, b.mem.lastFail), (Reg.BOOT_CAUSE_COUNT, b.mem.failCount),
    (Reg.TICK_FAULT_START_FAILED, if b.mem.failCount = 0 then 0 else 1), (Reg.RED_ROLE_ROLE, Role.boot.code), (Reg.LOG_STAT_INDEXING, 1),
    (Reg.LOG_SICK_CNT_LOST, 0), (Reg.LOG_STAT_RECORDING, 1), (Reg.RED_FW_STAT_STATE, if b.trial.isSome then 4 else if b.rejected then 3 else 0),
    (Reg.LANE_ENG_PRESENT_w, N.variant.engines), (Reg.RED_ABLE_NOT_ABLE, 1)]
  (((N.gatesAtReset).supplyAtStart f).clkStat.showPending).lifeShow

/-! ### Failed starts (R94-R98) -/

/-- The failed-start count after a failure (R96), by the records of the previous start and of this one. -/
def BootMem.countAfter (m : BootMem) : Nat :=
  match m.prevStart, m.thisStart with
  | some p, some t =>
    let far : Bool := match p.chron, t.chron with
      | some a, some b => decide (600000000000 ≤ b - a)
      | _, _ => decide (600000 ≤ t.powered - p.powered)
    if far then 1 else m.failCount + 1
  | _, _ => m.failCount + 1

/-- This start's record is made (R95): at step 3, or at a failure before it (R96). -/
def Lane.startRecord (L : Lane) : Lane :=
  if L.boot.recorded then L
  else
    let p := L.boot.beganMs
    L.onBoot fun b => { b with recorded := true, mem := { b.mem with prevStart := b.mem.thisStart, thisStart := some ⟨p, none⟩ } }

/-- A start fails with a code of R94: the history, the trial's end (12 R469), the other slot after two digest failures (R97). -/
def Lane.startFailed (L : Lane) (code : Nat) : Lane :=
  let L := L.startRecord
  let n := min L.boot.mem.countAfter 3
  let d := if code = 2 then L.boot.mem.digestFails + 1 else 0
  let L := L.onBoot fun b => { b with mem := { b.mem with failCount := n, lastFail := code, digestFails := d } }
  let L := L.setAll [(Reg.BOOT_CAUSE_COUNT, n), (Reg.BOOT_CAUSE_LAST_FAIL, code)]
  let L := match L.boot.trial with
    | some p =>
      (L.onBoot fun b => { b.onSlot b.bootSlot (fun x => { x with valid := false }) with trial := none, rejected := true, bootSlot := p }).set
        Reg.RED_FW_STAT_STATE 3
    | none =>
      if 2 ≤ d ∧ L.boot.findings.otherImagesOk ∧ (L.boot.slot L.otherSlot).valid then L.onBoot fun b => { b with bootSlot := 1 - b.bootSlot } else L
  L.bootRecWrite

/-- Step 5 (R89, 01 R35): the current bank, else the other with its record, is loaded; without one CHART_OK stays false. -/
def Lane.bootChart (L : Lane) : Lane :=
  let f := L.boot.findings
  let bank (n : Nat) : Option Chart := if n = 0 then (if f.bank0Ok then L.chart.bank0 else none) else (if f.bank1Ok then L.chart.bank1 else none)
  let k := L.chart.cur
  let L := L.scanEnd true
  match bank k with
  | some c => (L.chartEnter c (fun _ => true) true).loadPortion c.safety
  | none =>
    match bank (1 - k) with
    | some c =>
      let L := L.post 5 0x02 ([k, 1 - k, 0, 0] ++ leBytes 8 (L.chart.digestOf k) ++ leBytes 8 (L.chart.digestOf (1 - k)))
      let L := L.onChart fun x => { x with cur := 1 - k }
      (L.chartEnter c (fun _ => true) true).loadPortion c.safety
    | none => L.netChart {} true

/-- The tick begins (step 7, R90): on the other lane's time where it was received, else from zero. -/
def Lane.tickBegins (L : Lane) (time : Option (Rat × Bool)) : Lane :=
  let t := (time.map Prod.fst).getD 0
  let ok := (time.map Prod.snd).getD false
  let L := (L.onChr fun c => { c with ns := t, slewT := t }).set Reg.CHR_SYNC_STATE (if ok then 1 else 0)
  let L := (L.onBoot fun b => { b with phase := .running }).set Reg.TICK_POS_TICK (nsOf t / 1000000)
  L.chrStat

/-- The Chart of a lane that enters LUBBER at its start (R99): the current bank alone, where it passes its check; without it no
lever is passed through, analogue outputs and CAN stay off, and no safety portion is in force. -/
def Lane.lubberChart (L : Lane) : Lane :=
  let f := L.boot.findings
  let bank := if L.chart.cur = 0 then (if f.bank0Ok then L.chart.bank0 else none) else (if f.bank1Ok then L.chart.bank1 else none)
  match bank with
  | some c => (L.chartEnter c (fun _ => true) true).loadPortion c.safety
  | none => L.netChart {} true

/-- The lane enters LUBBER at its start (R97, R99): from the boot ROMs, with the chronometer time that step 6 brought (R90). -/
def State.lubberStart (s : State) (l : LaneId) (reason : Nat) (time : Option (Rat × Bool) := none) : State :=
  let s := s.upd l fun L =>
    let L := if L.chart.ok then L else L.lubberChart
    let L := if L.running then L else (L.tickBegins time).set Reg.LANE_ENG_HEALTHY_w 0xF
    L.enterLubber reason
  s.clkChart l

/-- A failed start (R96, R97): the lane restarts itself, or enters LUBBER at a count of 3. DRIVE is withdrawn. -/
def State.startFail (s : State) (l : LaneId) (code : Nat) : State :=
  let s := if s.sh.lock.drive l then s.moving fun s => s.driveDown l else s
  let s := s.upd l fun L => L.startFailed code
  if 3 ≤ (s.lane l).boot.mem.failCount then s.lubberStart l 1 else s.upd l fun L => L.hold .failedStartRetry

/-! ### Steps 3 to 7 -/

/-- Step 7 (R88, R90): the engines are released and tested, the tick starts; step 8 begins. -/
def State.stepSeven (s : State) (l : LaneId) (time : Option (Rat × Bool)) : State :=
  let s := s.upd l fun L =>
    let L := L.tickBegins time
    (L.onBoot fun b => { b with deciding := some 0 }).set Reg.LANE_ENG_HEALTHY_w L.variant.engines
  if (s.lane l).boot.findings.selfTestOk then s else s.startFail l 5

/-- MOD_MODEL and MOD_CAP of the lanes agree (00 R6). -/
def State.capMatch (s : State) : Bool := decide (s.a.variant = s.b.variant)

/-- A lane enters LUBBER on a capability mismatch (00 R6). -/
def State.capMismatch (s : State) (l : LaneId) (time : Option (Rat × Bool) := none) : State :=
  let s := s.upd l fun L => L.setb Reg.MOD_FAULT_CAP_MISMATCH true
  if (s.lane l).mode = 2 then s else s.lubberStart l 2 time

/-- Step 6 with a reply (R88, R90, 00 R6, 11 R423): capabilities, chronometer time and epoch from the other lane. -/
def State.stepSix (s : State) (l : LaneId) : State :=
  let o := s.lane l.other
  let time : Option (Rat × Bool) := if o.running then some (o.now, o.timeValid) else none
  let s := s.upd l fun L =>
    let L := L.onBoot fun b =>
      { b with
        mem := { b.mem with thisStart := b.mem.thisStart.map fun r =>
          { r with chron := if o.running && o.timeValid then some (o.now - 1000000 * ((L.pwr.poweredMs - r.powered : Nat) : Rat)) else none } } }
    L.set Reg.RAP_EPOCH_EPOCH (max 1 (if o.running then o.get Reg.RAP_EPOCH_EPOCH else 1))
  if s.capMatch then s.stepSeven l time else s.capMismatch l time

/-- Step 6: a lane that exchanges already, or whose tick runs, replies over a link that is up. -/
def State.exchange (s : State) (l : LaneId) : State :=
  let o := s.lane l.other
  if (s.lane l).boot.findings.linkUp && (decide (o.boot.phase = .exchange) || o.running) then
    let both := decide (o.boot.phase = .exchange)
    let s := s.stepSix l
    if both then s.stepSix l.other else if s.capMatch then s else s.capMismatch l.other
  else s

/-- Steps 3 to 6 after the PLL has locked (R88). -/
def State.bootLoad (s : State) (l : LaneId) : State :=
  let f := (s.lane l).boot.findings
  let s := s.upd l fun L => L.startRecord.bootRecWrite
  if !f.imagesOk then s.startFail l 2
  else if !f.memoryOk then s.startFail l 3
  else
    let s := s.upd l fun L =>
      (((L.onAna fun a => { a with run := f.anaOk }).bootChart).canFollow false).onBoot fun b => { b with phase := .exchange }
    (s.clkChart l).exchange l

/-- LANE_START (R88): the lane leaves reset; steps 2 to 9 follow as the reference qualifies, the stop window ends, the other
lane replies and the ticks run. -/
def execLaneStart (l : LaneId) (f : StartFindings) (s : State) : Out :=
  if (s.lane l).boot.phase = .reset then .next (s.upd l fun L => L.start f).binEval else .next s

/-- CAPABILITY_EXCHANGE_TIMEOUT (R88): 2 s without a reply; the lane goes on as sole lane, with the epoch 1 (11 R423). -/
def execCapabilityExchangeTimeout (l : LaneId) (s : State) : Out :=
  if (s.lane l).boot.phase = .exchange then .next ((s.upd l fun L => L.set Reg.RAP_EPOCH_EPOCH 1).stepSeven l none) else .next s

/-- The start-up has not come to step 9. -/
def Lane.inStart (L : Lane) : Bool :=
  decide (L.boot.phase = .clock) || decide (L.boot.phase = .exchange) || (L.running && decide (L.mode = 1))

/-- BOOT_WINDOW_TIMEOUT (R94): TIMEOUT, or CLOCK where no reference has qualified. -/
def execBootWindowTimeout (l : LaneId) (s : State) : Out :=
  let L := s.lane l
  if L.inStart then .next (s.startFail l (if L.boot.phase = .clock ∧ L.clk.stopWin.isNone then 4 else 1)) else .next s

/-- A coast's end for the roles (12 R454): a lane that lost the grant, or a standby, re-synchronises. -/
def Lane.afterCoastRole (L : Lane) (held : Bool) : Lane :=
  if L.active then (if held then L else L.loseActive)
  else if L.isStandby && !L.boot.waiting then L.resyncStart
  else L

/-- STOP_WINDOW_END (15 R551, R554): the clocks restart; a start goes on, a coast ends. -/
def execStopWindowEnd (l : LaneId) (s : State) : Out :=
  let L := s.lane l
  let starting := L.clk.starting
  let was := L.clk.stopWin.isSome
  let s := s.upd l Lane.stopWinEnd
  let done := was && decide ((s.lane l).pll = 2)
  .next (if done && starting then (if L.boot.phase = .clock then s.bootLoad l else s)
    else if done then
      let held := s.sh.lock.holds l
      (s.dualCoast l).upd l fun L => L.afterCoastRole held
    else s)

/-! ### Step 8 (R91) -/

/-- The lane becomes a standby at step 8 and re-synchronises. -/
def Lane.becomeStandby (L : Lane) : Lane := L.stepNine.resyncStart

/-- The lane completes its start beside a lane in LUBBER that holds the grant (R101). -/
def Lane.becomeWaiting (L : Lane) : Lane := (L.stepNine.setRole .standby).onBoot fun b => { b with waiting := true }

/-- Contests are answered at the next tick (R91, R100): DRIVE is withdrawn, and renewed later. -/
def State.contestTick (s : State) (l : LaneId) : State :=
  let L := s.lane l
  if L.boot.contest then
    let s := if s.sh.lock.drive l then s.moving fun s => s.driveDown l else s
    s.upd l fun L =>
      let L := L.onBoot fun b => { b with contest := false }
      if L.mode = 2 then L.onRed fun r => { r with lubberWait := some 0 }
      else if L.mode = 1 then
        if L.preferred then L.onBoot fun b => { b with driveWait := none, contestWait := some 0 }
        else L.onBoot fun b => { b with driveWait := none, roleWait := some 0 }
      else L
  else s

/-- Step 8 at a tick start (R91). -/
def State.roleTick (s : State) (l : LaneId) : State :=
  let L := s.lane l
  let b := L.boot
  if L.mode ≠ 1 ∨ !L.running then s
  else
    let due := match b.deciding with
      | some n => decide (10 ≤ n)
      | none => true
    if !due then s.upd l fun L => L.onBoot fun b => { b with deciding := b.deciding.map fun n => n + 1 }
    else if s.sh.lock.holds l then s
    else if L.peerIs .active then (if s.sh.lock.drive l then s.moving fun s => s.driveDown l else s).upd l Lane.becomeStandby
    else if L.peerIs .lubber ∧ s.sh.lock.holds l.other then
      (if s.sh.lock.drive l then s.moving fun s => s.driveDown l else s).upd l Lane.becomeWaiting
    else if b.deciding.isSome then
      s.upd l fun L => L.onBoot fun b =>
        if L.preferred then { b with deciding := none, driveWait := some 0 } else { b with deciding := none, roleWait := some 0 }
    else
      match b.driveWait with
      | some 0 => (s.moving fun s => s.driveUp l).upd l fun L => L.onBoot fun b => { b with driveWait := some 1 }
      | some n => s.upd l fun L => L.onBoot fun b => { b with driveWait := some (n + 1) }
      | none =>
        s.upd l fun L => L.onBoot fun b => { b with roleWait := b.roleWait.map fun n => n + 1, contestWait := b.contestWait.map fun n => n + 1 }

/-- ROLE_WAIT_EXPIRY (R91): a lane that is not preferred has seen no active lane for 2000 ticks. -/
def execRoleWaitExpiry (l : LaneId) (s : State) : Out :=
  let L := s.lane l
  match L.boot.roleWait with
  | some n =>
    if 2000 ≤ n ∧ L.mode = 1 ∧ !L.peerIs .active then
      .next ((s.moving fun s => s.driveUp l).upd l fun L => L.onBoot fun b => { b with roleWait := none, driveWait := some 1 })
    else .next s
  | none => .next s

/-- CONTEST_REASSERT (R91): the preferred lane asserts DRIVE again 10 ticks after it withdrew it. -/
def execContestReassert (l : LaneId) (s : State) : Out :=
  let L := s.lane l
  match L.boot.contestWait with
  | some n =>
    if 10 ≤ n ∧ L.mode = 1 then
      .next ((s.moving fun s => s.driveUp l).upd l fun L => L.onBoot fun b => { b with contestWait := none, driveWait := some 1 })
    else .next s
  | none => .next s

/-- DRIVE_NOT_GRANTED (R91): after 10 ticks without the grant the lane withdraws DRIVE and is a standby. -/
def execDriveNotGranted (l : LaneId) (s : State) : Out :=
  let L := s.lane l
  match L.boot.driveWait with
  | some n =>
    if 10 < n ∧ L.mode = 1 ∧ !s.sh.lock.holds l then
      let s := s.moving fun s => s.driveDown l
      .next (s.upd l fun L =>
        let up := L.linkUp
        let L := L.stepNine
        if L.peerIs .active then L.resyncStart
        else
          let L := L.setRole .standby
          if up ∨ L.red.lost then L else (L.onRed fun r => { r with lost := true }).find 0x01 6)
    else .next s
  | none => .next s

/-! ### LUBBER (R99-R101) -/

/-- A lane in LUBBER may assert DRIVE (R100): no lane holds the grant, and the other lane is not seen ACTIVE. -/
def State.lubberMay (s : State) (l : LaneId) : Bool :=
  let L := s.lane l
  L.running && decide (L.mode = 2) && !s.sh.lock.held && !L.peerIs .active

/-- The lane has the first claim of two lanes in LUBBER (R100): Lane A, or Lane B beside a lane that is not in LUBBER. -/
def Lane.lubberFirst (L : Lane) : Bool := decide (L.id = .a) || (L.red.peer.isSome && !L.peerIs .lubber)

/-- No health word has come from the other lane for 2000 ticks (R100). -/
def Lane.peerSilent (L : Lane) : Bool := decide (2000 ≤ L.get Reg.RED_PEER_AGE) && decide (2000 ≤ L.tk.count)

/-- The wait after a contest is over, or none runs (R100). -/
def Lane.lubberWaited (L : Lane) : Bool := match L.red.lubberWait with
  | some n => decide (2000 ≤ n)
  | none => true

/-- The lane in LUBBER asserts DRIVE (R100). -/
def State.lubberDrive (s : State) (l : LaneId) : State :=
  (s.moving fun s => s.driveUp l).upd l fun L => L.onRed fun r => { r with lubberWait := none }

/-- A lane in LUBBER at a tick start (R100, R101): the count of ARMED seen, the wait after a contest, DRIVE asserted, or withdrawn
where it may not stand. -/
def State.lubberTick (s : State) (l : LaneId) : State :=
  let L := s.lane l
  if L.mode ≠ 2 then s
  else
    let armed := decide (L.red.peer.map HealthWord.armed = some true)
    let s := s.upd l fun L => L.onRed fun r =>
      { r with armedSeen := if armed then r.armedSeen + 1 else 0, lubberWait := r.lubberWait.map fun n => n + 1 }
    if s.sh.lock.drive l then
      (if s.sh.lock.holds l || s.lubberMay l then s else s.moving fun s => s.driveDown l)
    else if s.lubberMay l && L.lubberFirst && L.red.lubberWait.isNone then s.moving fun s => s.driveUp l
    else s

/-- LUBBER_PEER_SILENCE (R100). -/
def execLubberPeerSilence (l : LaneId) (s : State) : Out :=
  let L := s.lane l
  if s.lubberMay l && !s.sh.lock.drive l && decide (l = .b) && L.peerSilent && L.lubberWaited then .next (s.lubberDrive l) else .next s

/-- LUBBER_REASSERT (R100): 2000 ticks after a contest. -/
def execLubberReassert (l : LaneId) (s : State) : Out :=
  let L := s.lane l
  if L.red.lubberWait.isSome && L.lubberWaited && s.lubberMay l && !s.sh.lock.drive l && (L.lubberFirst || L.peerSilent) then .next (s.lubberDrive l)
  else .next s

/-- LUBBER_RELEASE (R101): at 950 µs of the tick in which ARMED has been seen in 10 consecutive latches. -/
def execLubberRelease (l : LaneId) (s : State) : Out :=
  let L := s.lane l
  if decide (L.mode = 2) && s.sh.lock.holds l && decide (10 ≤ L.red.armedSeen) && !L.tk.inTick then
    .next ((s.moving fun s => s.driveDown l (some .fromLubber)).upd l fun L => L.onRed fun r => { r with armedSeen := 0 })
  else .next s

end Sys2Proof.Machine
end

