-- ==== Sys2Proof/Machine/Engine.lean ====
section
/-! DEFINITION. Engines and memories: lockstep, declared failures, ECC, scrubbing, the renumbering of the tick (01 R34-R44; 02
R67, R71). -/

namespace Sys2Proof.Machine

open Sys2Proof

/-! ### Engines (01 R34, R37) -/

/-- The engine whose completion decides a failure: the bits of its lockstep pair, or its own (01 R33, R57). -/
def pairBits (n : Nat) : Nat := if n < 2 then 3 else if n < 4 then 0xC else 2 ^ n

/-- Engine code of the LANE_FAILED record (14 R633) and of TICK_MARGIN.ENGINE (02 R110), which gives SC2/SC3 none: 0x0D there is the
model's choice (log entry 22). -/
def engCode (n : Nat) : Nat := if n < 2 then 0 else if n < 4 then 0x0D else n - 3

/-- The lockstep pair with engine `n` puts out (01 R34): it is healthy and has not halted. -/
def Lane.pairUp (L : Lane) (n : Nat) : Bool := L.engOk n && decide (L.hw.halt &&& pairBits n = 0)

/-- LOCKSTEP_MISMATCH (01 R34): the pair halts; it is declared failed at the commit point (R37). -/
def Lane.lockstep (L : Lane) (safe : Bool) : Lane :=
  let bits := if safe then 0xC else 3
  let L := L.incSat (if safe then Reg.LANE_LOCKSTEP_CNT_SAFE else Reg.LANE_LOCKSTEP_CNT_SUP)
  let L := L.setb (if safe then Reg.LANE_FAULT_LOCKSTEP_SAFE else Reg.LANE_FAULT_LOCKSTEP_SUP) true
  (L.onHw fun h => { h with halt := h.halt ||| bits, mismatch := h.mismatch ||| bits }).find 0x01 2

/-- LOCKSTEP_MISMATCH (01 R34). -/
def execLockstepMismatch (l : LaneId) (safe : Bool) (s : State) : Out := onLane l (fun L => L.lockstep safe) s

/-- CEs that are healthy, and channels configured (01 R37). -/
def Lane.ceHealthy (L : Lane) : Nat := ((List.range 8).filter fun k => L.engOk (5 + k)).length

/-- An engine is declared failed at a commit point (01 R37; 15 R556): `n` by its bit of R57; a pair fails whole. -/
def Lane.engineLost (L : Lane) (n : Nat) : Lane :=
  let bits := pairBits n
  let was := L.get Reg.LANE_ENG_HEALTHY_w
  let L := L.set Reg.LANE_FAULT_ENG_FAILED (L.get Reg.LANE_FAULT_ENG_FAILED ||| bits)
  let L := (L.set Reg.LANE_ENG_HEALTHY_w (was - (was &&& bits))).set Reg.CLK_GATE0_MASK (L.get Reg.CLK_GATE0_MASK ||| bits)
  let red (L : Lane) : Lane := L.setb Reg.LANE_STAT_REDUCED true
  let other (L : Lane) : Lane := if L.hw.mismatch &&& bits = 0 then L.find 0x01 4 else L
  if n < 4 then
    let mem := L.hw.haltMem && decide (2 ≤ n)
    (other L).declareFailed (if mem then 0x11 else engCode n) mem
  else if n = 4 then (L.find 0x01 4).declareFailed 1 false
  else if n < 13 then
    let L := ((red L).ceLost (n - 5)).find 0x01 3
    if 3 * L.ceHealthy < L.chList.length then L.degrade else L
  else if n < 15 then
    let L := L.find 0x01 4
    if L.engOk 13 || L.engOk 14 then (red L).plotterFeLost else L.declareFailed (engCode n) false
  else ((red L).geFailed).find 0x01 4

/-- The engines of a mask that are healthy are declared failed at a commit point (01 R37; 02 R69). -/
def Lane.engineCheck (L : Lane) (dead : Nat) : Lane :=
  let m := dead &&& L.get Reg.LANE_ENG_HEALTHY_w
  let L := forUpTo 16 (fun n L => if testBit m n && L.engOk n then L.engineLost n else L) L
  L.onHw fun h => { h with halt := 0, mismatch := 0, haltMem := false }

/-- The part of the state at the last commit that an engine holds goes back into force (02 R71): the Plotter of an FE, the
allocation of AE, the channel loops of a CE. -/
def Lane.engineBack (L : Lane) (n : Nat) : Lane :=
  match L.work with
  | none => L
  | some w =>
    if n = 4 then L.onAlc fun a => { w.alc with chans := a.chans }
    else if 5 ≤ n ∧ n < 13 then
      L.onAlc fun a => { a with chans := mapIdxFrom 0 (fun k x => if L.ceOf k = n - 5 then w.alc.chans.getD k x else x) a.chans }
    else if n = 13 ∨ n = 14 then L.onPlt fun _ => w.plt
    else L

/-- ENGINE_STOP (02 R71): an engine still executing at 1000 µs is stopped; its work since the last commit is discarded. Stopped before
the commit point of its tick, it is not DONE there. -/
def Lane.engineStop (L : Lane) (n : Nat) : Lane :=
  if L.engOk n then
    let L := L.onTk fun k => { k with stopped := n :: k.stopped.filter fun m => m ≠ n }
    if L.tk.inTick then L.engineBack n else L
  else L

/-- ENGINE_STOP (02 R71). -/
def execEngineStop (l : LaneId) (n : Nat) (s : State) : Out := onLane l (fun L => L.engineStop n) s

/-! ### Memories (01 R43, R44) -/

/-- Corrected counts by memory: 0 LPDDR4, 1 SRAM, 2 MRAM (01 R59). -/
def corrFld (mem : Nat) : Fld :=
  if mem = 0 then Reg.LANE_ECC_DRAM_CORR else if mem = 1 then Reg.LANE_ECC_SRAM_CORR else Reg.LANE_ECC_MRAM_CORR
def uncorrFld (mem : Nat) : Fld :=
  if mem = 0 then Reg.LANE_ECC_DRAM_UNCORR else if mem = 1 then Reg.LANE_ECC_SRAM_UNCORR else Reg.LANE_ECC_MRAM_UNCORR

/-- A correctable error (01 R44). -/
def Lane.eccCorr (L : Lane) (mem : Nat) : Lane := (L.incSat (corrFld mem)).find 0x01 0

/-- ECC_CORR (01 R44). -/
def execEccCorr (l : LaneId) (mem : Nat) (s : State) : Out := onLane l (fun L => L.eccCorr mem) s

/-- The memory of a region (01 R60). -/
def EccRegion.mem : EccRegion → Nat
  | .dram => 0
  | .sram => 1
  | .safety => 1
  | _ => 2

/-- An uncorrectable error in the Logbook partition (14 R525, R532): the block of the record store is retired; once both copies of
the control area are damaged the recorder goes SRAM-only (CONTROL); the change log is not a log memory failure. -/
def Lane.logEcc (L : Lane) (ofs : Nat) : Lane :=
  if ofs < 0x4000 then L
  else if ofs < 0x8000 then
    let was := L.log.ctl0Bad && L.log.ctl1Bad
    let L := L.onLog fun g => if ofs < 0x6000 then { g with ctl0Bad := true } else { g with ctl1Bad := true }
    if L.log.ctl0Bad && L.log.ctl1Bad && !was then L.logFail 4 0xFFFF ofs else L
  else L.retire 1 ((ofs - 0x8000) / 4096) ofs

/-- An uncorrectable error in MRAM, by its partition (01 R39, R44). -/
def Lane.mramEcc (L : Lane) (ofs : Nat) : Lane :=
  match mramPart ofs with
  | .logbook => L.logEcc ofs
  | .chart b => if b = L.chart.cur then (L.onHw fun h => { h with chartDamaged := true }).degrade else L
  | .snapshot => L.onHw fun h => { h with snapshotBad := true }
  | .image n => if n = L.otherSlot then L.onBoot fun b => b.onSlot n fun x => { x with valid := false } else L

/-- An uncorrectable error by its region (01 R44). -/
def Lane.eccUncorr (L : Lane) (r : EccRegion) (word : Nat) : Lane :=
  let L := (L.incSat (uncorrFld r.mem)).setAll [(Reg.LANE_ECC_LAST_MEM, r.mem), (Reg.LANE_ECC_LAST_WORD, word)]
  let L := (L.setb Reg.LANE_FAULT_ECC_UNCORR_SEEN true).find 0x01 1
  match r with
  | .dram => (L.onTk fun k => { k with discard := true }).degrade
  | .sram => (L.onTk fun k => { k with discard := true }).degrade
  | .safety => L.onHw fun h => { h with halt := h.halt ||| 0xC, haltMem := true }
  | .mram => L.mramEcc (8 * word)

/-- ECC_UNCORR (01 R44). -/
def execEccUncorr (l : LaneId) (r : EccRegion) (word : Nat) (s : State) : Out := onLane l (fun L => L.eccUncorr r word) s

/-- MEMORY_SCRUB (01 R43): `words` words are read, corrected and written back; `corr` of them held a correctable error. -/
def Lane.scrub (L : Lane) (mem words corr : Nat) : Lane :=
  let L := L.onHw fun h =>
    if mem = 0 then { h with scrubDram := (h.scrubDram + words) % 2 ^ 28 }
    else if mem = 1 then { h with scrubSram := (h.scrubSram + words) % 2 ^ 20 }
    else { h with scrubMram := (h.scrubMram + words) % 2 ^ 23 }
  if corr = 0 then L else (L.incSat (corrFld mem) corr).find 0x01 0

/-- MEMORY_SCRUB (01 R43). -/
def execMemoryScrub (l : LaneId) (mem words corr : Nat) (s : State) : Out := onLane l (fun L => L.scrub mem words corr) s

/-! ### Renumbering (02 R67, R68) -/

/-- The tick begins with a number: its multiples (02 R64). -/
def Lane.tickNumber (L : Lane) (n : Nat) : Lane :=
  (L.set Reg.TICK_POS_TICK n).onTk fun k => { k with posTick := decide (n % 10 = 0), epochTick := decide (n % 50 = 0), secTick := decide (n = 0) }

/-- The tick number is taken again from the chronometer once D has been added; a GNSS epoch that this cuts short gives no
measurement latch (R68). -/
def Lane.renumber (L : Lane) : Lane :=
  if L.tk.realigning && decide (L.tk.realign = 0) then
    let old := L.get Reg.TICK_POS_TICK
    let new := nsOf L.now / 1000000
    let L := ((L.onTk fun k => { k with realigning := false }).tickNumber new).setAll [(Reg.TICK_POS_REALIGN, 0), (Reg.TICK_STAT_REALIGN, 0)]
    if new % 50 = old % 50 then L else L.onSx fun x => { x with partialEpoch := true }
  else L

/-- TICK_RENUMBER (02 R67). -/
def execTickRenumber (l : LaneId) (s : State) : Out := onLane l Lane.renumber s

end Sys2Proof.Machine
end

