-- ==== Sys2Proof/Machine/Regread.lean ====
section
/-! DEFINITION. Registers as they are read: page headers, causes of events, computed registers, the event controller
(18_register_pages_and_events; 00 R3-R11). -/

namespace Sys2Proof.Machine

open Sys2Proof

/-! ### Pages -/

/-- KIND and INSTANCE of a page (R609). -/
def pageKind (p : Nat) : Nat × Nat :=
  if 0x20 ≤ p ∧ p ≤ 0x2F then (0x20, p - 0x20)
  else if 0x31 ≤ p ∧ p ≤ 0x33 then (0x31, p - 0x30)
  else if p = 0x42 then (0x41, 1)
  else if 0x48 ≤ p ∧ p ≤ 0x4F then (0x48, p - 0x48)
  else (p, 0)

/-- PAGE_ID of a page (R607). -/
def pageId (p : Nat) : Nat := 0xA5000000 + (pageKind p).1 * 0x10000 + (pageKind p).2 * 0x100 + p

/-- First event number of a page (R613). -/
def evBase (p : Nat) : Nat :=
  if p ≤ 2 then 8 * p
  else if p = 4 then 0x20 else if p = 5 then 0x28 else if p = 8 then 0x40 else if p = 0x0A then 0x50 else if p = 0x0B then 0x58
  else if p = 0x60 then 0x60 else if p = 0x10 then 0x80 else if p = 0x11 then 0x88
  else if 0x20 ≤ p ∧ p ≤ 0x2F then 0x90
  else if p = 0x30 then 0x98
  else if 0x31 ≤ p ∧ p ≤ 0x33 then 0xA0
  else if p = 0x38 then 0xA8 else if p = 0x39 then 0xB0 else if p = 0x40 then 0xB8
  else if p = 0x41 ∨ p = 0x42 then 0xC0
  else if p = 0x43 then 0xC4 else if p = 0x44 then 0xCC
  else if 0x48 ≤ p ∧ p ≤ 0x4F then 0xD0
  else if p = 0x50 then 0xD8 else if p = 0x58 then 0xE0 else if p = 0x59 then 0xE8
  else 0xF0

/-- Addresses of a page's event registers and of its STAT and FAULT. -/
def evRaw (p : Nat) : Fld := ⟨p * 0x400 + 0x10, 0, 8⟩
def evEn (p : Nat) : Fld := ⟨p * 0x400 + 0x14, 0, 8⟩
def evPend (p : Nat) : Fld := ⟨p * 0x400 + 0x18, 0, 8⟩
def pageStat (p : Nat) : Nat := p * 0x400 + 0x0C
def pageFault (p : Nat) : Nat := p * 0x400 + 0x1C

/-- The bits of a page's events that are in use (R613): those that EVT_EN defines. -/
def evDefined (p : Nat) : Nat := (evEn p).of (resetWord (evEn p).addr)

/-- Pages of the directory that raise events (R613). -/
def evPages : List Nat := (List.range 0x61).filter fun p => decide (evDefined p ≠ 0)

/-- The event pages present on the lane. -/
def Lane.evPagesHere (L : Lane) : List Nat := evPages.filter fun p => pagePresent L.variant p

/-- Whether the condition that clears an event is unmet (R611, R615); `none` for an event that names no condition. -/
def Lane.causeHolds (L : Lane) (p bit : Nat) : Option Bool :=
  let f (r : Fld) : Bool := L.flag r
  if p = 0x01 then
    if bit = 5 then some (!(f Reg.LANE_STAT_XL0_UP && f Reg.LANE_STAT_XL1_UP))
    else if bit = 6 then some (!(f Reg.LANE_STAT_XL0_UP || f Reg.LANE_STAT_XL1_UP))
    else if bit = 7 then some (decide (L.get Reg.RED_ROLE_HOLDER = 0))
    else none
  else if p = 0x02 then (if bit = 7 then some (f Reg.TICK_POS_REALIGN) else none)
  else if p = 0x04 then
    if bit = 3 then some (decide (L.pll ≠ 2))
    else if bit = 6 then some (!(decide (L.refState .refA = 3) && decide (L.refState .refB = 3)))
    else none
  else if p = 0x05 then
    if bit = 0 then some (!(L.supplyOk .core && L.supplyOk .io && L.supplyOk .ana))
    else if bit = 2 ∨ bit = 3 then some (decide (L.get Reg.THERM_STATE_LEVEL ≠ 0))
    else if bit = 6 then some (!f Reg.THERM_WINDOW_OPEN)
    else none
  else if p = 0x08 then
    if bit = 4 then some (f Reg.INT_STAT_POS_DISAGREE || f Reg.INT_STAT_HDG_DISAGREE)
    else if bit = 5 then some (f Reg.INT_STAT_REF_LOSS || f Reg.INT_STAT_HEADING_LOSS)
    else none
  else if p = 0x10 then
    if bit = 3 then some (L.ctl.pp.hold || L.ctl.ph.hold)
    else if bit = 6 then some (f Reg.CTRL_STAT_JOY_STALE)
    else none
  else if p = 0x11 then
    if bit = 3 then some (decide (L.get Reg.ALLOC_STAT_PM_STALE ≠ 0))
    else if bit = 5 then some (!f Reg.ALLOC_STAT_THRUSTERS)
    else none
  else if 0x20 ≤ p ∧ p ≤ 0x2F then
    if bit = 2 then some (!f (Reg.CH_STATE_FB_VALID (p - 0x20)))
    else if bit = 4 then some (f (Reg.CH_STATE_LEVER_STALE (p - 0x20)))
    else none
  else if 0x31 ≤ p ∧ p ≤ 0x33 then
    let k := antPage (p - 0x31)
    if bit = 0 then some (decide (2 ≤ L.get (Reg.ANT_STAT_BIAS k)))
    else if bit = 1 then some (f (Reg.ANT_STAT_NO_SIGNAL k))
    else if bit = 4 then some (f (Reg.ANT_STAT_AGC_LIMIT k))
    else none
  else if p = 0x38 then (if bit = 3 then some (decide (L.get Reg.AI_DIFF_MASK ≠ 0)) else none)
  else if p = 0x39 then (if bit = 0 then some (decide (L.get Reg.AO_FAULTED_MASK ≠ 0)) else none)
  else if p = 0x40 then (if bit = 4 then some (!L.timeValid) else none)
  else if p = 0x43 then (if bit = 2 then some (decide (L.rap.lockMs ≠ 0)) else none)
  else if 0x48 ≤ p ∧ p ≤ 0x4F then (if bit = 2 then some (decide (L.canState (p - 0x48) ≠ 0)) else none)
  else if p = 0x50 then (if bit = 2 then some ((List.range 12).any fun n => decide (L.get (Reg.SER_STAT_LINE n) = 2)) else none)
  else if p = 0x58 then
    if bit = 5 then some (f Reg.SF_BIN_CFG_BAD || f Reg.SF_BIN_MISMATCH || !f Reg.SF_BIN_POWER_OK)
    else if bit = 7 then some (f Reg.SF_STAT_LANE_DIFF)
    else none
  else if p = 0x5C then
    if bit = 5 then some L.log.high
    else if bit = 6 then some (!f Reg.THERM_WINDOW_OPEN)
    else none
  else if p = 0x60 then
    if bit = 3 then some (!(if L.active then L.red.peerAble else f Reg.RED_ABLE_ABLE))
    else if bit = 4 then some L.red.disagree
    else if bit = 5 then some L.red.skew
    else none
  else none

/-- EVT_RAW as read (R611). -/
def Lane.evtRaw (L : Lane) (p : Nat) : Nat :=
  let st := L.get (evRaw p)
  maskOf 8 fun n => testBit (evDefined p) n && (match L.causeHolds p n with
    | some b => b
    | none => testBit st n)

/-! ### The event controller (R616, R617) -/

/-- Bits pending and enabled on a page. -/
def Lane.evSummed (L : Lane) (p : Nat) : Nat := L.get (evPend p) &&& L.get (evEn p)

/-- The summary of the event numbers, 256 bits. -/
def Lane.evcSum (L : Lane) : Nat := L.evPagesHere.foldl (fun m p => m ||| (L.evSummed p * 2 ^ evBase p)) 0

/-- The summary of the pages, 128 bits. -/
def Lane.evcPages (L : Lane) : Nat := L.evPagesHere.foldl (fun m p => if L.evSummed p = 0 then m else m ||| 2 ^ p) 0

/-- An event number is in use on a page present here. -/
def Lane.evUsed (L : Lane) (e : Nat) : Bool :=
  L.evPagesHere.any fun p => decide (evBase p ≤ e) && decide (e < evBase p + 8) && testBit (evDefined p) (e - evBase p)

/-- Computed registers of page 0x70. -/
def Lane.evcView (L : Lane) (off : Nat) (w : Word) : Word :=
  let e := L.get Reg.EVC_SEL_EVENT
  let info := L.evInfo.find? fun i => decide (i.num = e)
  if off = 0x0C then BitVec.ofNat 32 (if L.evcSum = 0 then 0 else 1)
  else if 0x20 ≤ off ∧ off < 0x40 then BitVec.ofNat 32 (L.evcSum / 2 ^ (32 * ((off - 0x20) / 4)))
  else if 0x40 ≤ off ∧ off < 0x50 then BitVec.ofNat 32 (L.evcPages / 2 ^ (32 * ((off - 0x40) / 4)))
  else if off = 0x5C then
    let d := if L.evUsed e then 1 else 0
    match info with
    | some i => BitVec.ofNat 32 (min i.count 65535 * 65536 + i.page * 256 + d)
    | none => BitVec.ofNat 32 d
  else if off = 0x60 then
    match info with
    | some i => BitVec.ofNat 32 i.tick
    | none => 0
  else w

/-! ### Reading -/

/-- CLK_FLOOR.MHZ in 0.1 MHz: within 3 % of a floor of 27 to 33 % of nominal (15 R545); a constant of the lane (log entry 82). -/
def Lane.floorEstimate (L : Lane) : Nat := 6286 + Config.clkFloor (if L.id = .b then 1 else 0) % 1872

/-- ETH_MAC_HI or ETH_MAC_LO of a port (11 R436; log entry 82). -/
def Lane.macWord (L : Lane) (net : Nat) (hi : Bool) : Word :=
  let m := Config.mac (if L.id = .b then 1 else 0) net
  BitVec.ofNat 32 (if hi then m / 2 ^ 32 % 2 ^ 16 else m)

/-- A word of a present page that a chapter assigns, as read. STAT.SAFETY_OK of page 0x58 is a copy of MODE_COND bit 10 (13 R515). The
Plotter of a KX922 always runs on one FE, and the registers of an UNUSED track read 0 (04 R184, R186). In LUBBER pages 0x08-0x0B,
0x10, 0x11 and 0x30-0x33 read their reset values, but for EVT_EN and EVT_PEND (06 R233; R620). -/
def Lane.viewWord (L : Lane) (addr : Nat) : Word :=
  let p := addr / 0x400
  let off := addr % 0x400
  let w := L.word addr
  if off = 0 then BitVec.ofNat 32 (pageId p)
  else if lubberPage p ∧ L.mode = 2 ∧ off ≠ 0x14 ∧ off ≠ 0x18 then resetWord addr
  else if off = 0x10 then BitVec.ofNat 32 (L.evtRaw p)
  else if p = 0x00 then
    if off = 0x0C then BitVec.ofNat 32 (if L.get Reg.MOD_ABSENT_CNT = 0 then 0 else 1)
    else if off = 0x20 then BitVec.ofNat 32 L.variant.model
    else if off = 0x24 then BitVec.ofNat 32 L.variant.cap
    else w
  else if p = 0x01 then (if off = 0x0C then (Reg.LANE_STAT_LANE).put w (if L.id = .b then 1 else 0) else w)
  else if p = 0x04 then (if off = 0x48 then BitVec.ofNat 32 L.floorEstimate else w)
  else if p = 0x05 then L.pwrView off w
  else if p = 0x0A then (if off = 0x0C then if L.variant = .kx922 then (Reg.PLOT_STAT_SINGLE_FE).put w 1 else w else w)
  else if p = 0x0B then (if 0x40 ≤ off ∧ (L.plt.tracks.getD ((off - 0x40) / 0x20) {}).st = 0 then 0 else w)
  else if p = 0x40 then L.chrView addr w
  else if p = 0x41 ∨ p = 0x42 then (if off = 0x2C ∨ off = 0x30 then L.macWord (p - 0x41) (decide (off = 0x2C)) else w)
  else if 0x48 ≤ p ∧ p ≤ 0x4F then L.canView (p - 0x48) off w
  else if p = 0x58 then (if off = 0x0C then (Reg.SF_STAT_SAFETY_OK).put w (if L.bit Reg.MODE_COND_COND 10 then 1 else 0) else w)
  else if p = 0x59 then L.sfLogView off w
  else if p = 0x5C then L.logView off w
  else if p = 0x70 then L.evcView off w
  else w

/-- A READ of one word (R601-R603; 00 R7, R8): absent pages and reserved registers read 0. -/
def Lane.readWord (L : Lane) (addr : Nat) : Word :=
  if addr < 0x40000 ∧ pagePresent L.variant (addr / 0x400) ∧ (rowAt addr).isSome then L.viewWord addr else 0

/-! ### Events raised (R611, R612) -/

/-- The raise is counted and noted (R617). -/
def Lane.evCount (L : Lane) (e p : Nat) : Lane :=
  let t := L.get Reg.TICK_CNT_COUNT
  L.onEvInfo fun l =>
    let c := ((l.find? fun i => decide (i.num = e)).map EvInfo.count).getD 0
    ⟨e, min 65535 (c + 1), p, t⟩ :: l.filter fun i => decide (i.num ≠ e)

/-- An event is raised (R611): EVT_PEND and EVT_RAW, the record of 14 R524 with the time it was found, the counts. -/
def Lane.raiseEvent (L : Lane) (f : Found) : Lane :=
  let e := evBase f.page + f.bit
  let en := L.bit (evEn f.page) f.bit
  let L := ((L.setBit (evPend f.page) f.bit true).setBit (evRaw f.page) f.bit true).evCount e f.page
  let L := if en then
      (L.incWrap Reg.EVC_SEQ_COUNT).setAll [(Reg.EVC_LAST_EVENT, e), (Reg.EVC_LAST_PAGE, f.page), (Reg.EVC_LAST_TICK, L.get Reg.TICK_CNT_COUNT)]
    else L
  let pay := [f.page, 0, 0, 0] ++ leBytes 4 (L.readWord (pageStat f.page)).toNat ++ leBytes 4 (L.readWord (pageFault f.page)).toNat
  let r := { L.mkRec (L.logChart.sevOf e) false e pay with sec := secOf f.time, ns := nsOf f.time }
  L.accept r true

/-- The raises of a commit point: EVT_RAW of the last commit point is over, the events found are raised in order (R611, R612). -/
def Lane.raiseAll (L : Lane) : Lane :=
  let L := L.evPagesHere.foldl (fun L p => L.set (evRaw p) 0) L
  let l := L.found
  let L := L.onFound fun _ => []
  l.foldl (fun L f => if pagePresent L.variant f.page then L.raiseEvent f else L) L

end Sys2Proof.Machine
end

