-- ==== Sys2Proof/Machine/Regwrite.lean ====
section
/-! DEFINITION. A write of one register word at its commit point, by page (18_register_pages_and_events R603-R605, R614,
R615, R618, R619; 00 R8-R11), and the scheduled actions that make such writes (02 R104-R106). -/

namespace Sys2Proof.Machine

open Sys2Proof

/-! ### Common parts -/

/-- MOD_ABSENT.CLR (00 R9). -/
def Lane.absentClear (L : Lane) : Lane := L.setAll [(Reg.MOD_ABSENT_CNT, 0), (Reg.MOD_ABSENT_ADDR_w, 0)]

/-- A write of EVT_PEND (R615): a 1 clears its bit unless the event's condition is not met. -/
def Lane.pendClear (L : Lane) (p mask : Nat) : Lane :=
  L.set (evPend p) (maskOf 8 fun n => L.bit (evPend p) n && !(testBit mask n && decide (L.causeHolds p n ≠ some true)))

/-- A write of EVT_EN (R607, R615): bits of reserved events read 0 and ignore writes. -/
def Lane.evtEnable (L : Lane) (p v : Nat) : Lane := L.set (evEn p) (v &&& evDefined p)

/-- EVC_CLEAR with GO (R618): one event number, or all, on every present page that carries it. -/
def Lane.evcClear (L : Lane) (all : Bool) (e : Nat) : Lane :=
  let L := L.setAll [(Reg.EVC_CLEAR_ALL, if all then 1 else 0), (Reg.EVC_CLEAR_EVENT, e)]
  L.evPagesHere.foldl (fun L p =>
    if all then L.pendClear p 0xFF
    else if evBase p ≤ e ∧ e < evBase p + 8 then L.pendClear p (2 ^ (e - evBase p)) else L) L

/-- CTRL.CNT_CLR of a page (01 R54 and the page's chapter). -/
def Lane.cntClr (L : Lane) (p : Nat) : Lane :=
  let z (l : List Fld) : Lane := L.setAll (l.map fun f => (f, 0))
  if p = 0x01 then z [Reg.LANE_ECC_DRAM_w, Reg.LANE_ECC_SRAM_w, Reg.LANE_ECC_MRAM_w, Reg.LANE_LOCKSTEP_CNT_w, Reg.LANE_XLINK_ERR_w]
  else if p = 0x02 then (z [Reg.FRAME_CNT_TOTAL]).clear Reg.TICK_MARGIN_w
  else if p = 0x04 then z [Reg.CLK_CNT_w, Reg.CLK_FORCED_COUNT]
  else if p = 0x05 then z [Reg.PWR_ORDER_COUNT, Reg.THERM_WINDOW_CLOSURES]
  else if p = 0x08 then forUpTo 30 (fun n L => L.set (Reg.SLOT_CNT_w n) 0) (z [Reg.INT_LATE_w, Reg.INT_PARSE_w, Reg.INT_OVERFLOW_w])
  else if p = 0x0A then z [Reg.PLOT_HIST_w, Reg.PLOT_RERUN_LONGEST]
  else if p = 0x10 then z [Reg.CTRL_PLAUS_CNT_w]
  else if p = 0x11 then L.allocCntClr
  else if 0x20 ≤ p ∧ p ≤ 0x2F then L.chCntClr (p - 0x20)
  else if p = 0x30 then L.sxCntClr
  else if 0x31 ≤ p ∧ p ≤ 0x33 then L.antCntClr (p - 0x31)
  else if p = 0x38 then z [Reg.AI_REPHASE_w]
  else if p = 0x40 then forUpTo 4 (fun i L => L.set (Reg.CHR_SRC_SIG_GATE_FAIL i) 0) (z [Reg.CHR_CNT_w])
  else if p = 0x41 ∨ p = 0x42 then L.ethCntClr (p - 0x41)
  else if p = 0x43 then z [Reg.RAP_REQ_w, Reg.RAP_DISCARD_w, Reg.RAP_AUTH_TOTAL]
  else if p = 0x44 then L.l450CntClr
  else if 0x48 ≤ p ∧ p ≤ 0x4F then L.canCntClr (p - 0x48)
  else if p = 0x50 then L.serCntClr
  else if p = 0x58 then z [Reg.SF_TP_CNT_w, Reg.SF_CNT_w]
  else if p = 0x5C then (z [Reg.LOG_DROP_w, Reg.LOG_OVERWRITE_w, Reg.LOG_CNT_w]).onLog fun g => { g with wrapArmed := true }
  else if p = 0x60 then L.redCntClr
  else if p = 0x70 then L.onEvInfo fun l => l.map fun i => { i with count := 0 }
  else L

/-- The RW fields of a word take the written value (R604, R605). -/
def Lane.plainWrite (L : Lane) (r : RegRow) (addr : Nat) (v : Word) : Lane :=
  let rw : Word := BitVec.ofNat 32 r.rw
  L.setWord addr ((L.word addr &&& ~~~ rw) ||| (v &&& rw))

/-! ### Command registers with a GO bit -/

/-- MODE_REQ, SCHED_CMD, CLK_CMD, INT_CMD, CTRL_SP_CMD, CH_CMD, SX_CMD, CHR_CMD, CAN_TX_CMD, LOG_NOTE_CMD, RED_CMD and EVC_CLEAR:
a submission, where the address names one. -/
def Lane.goCmd (L : Lane) (addr : Nat) (v : Word) : Option Lane :=
  let p := addr / 0x400
  let tag := v.toNat / 256 % 256
  let cmd := v.toNat % 16
  if addr = 0x0824 then some (L.modeReq cmd tag)
  else if addr = 0x085C then some (L.schedSubmit (decide (v.toNat % 2 = 1)) tag)
  else if addr = 0x104C then some (if cmd = 1 then L.switchRef tag else L.clkCmdUnknown tag cmd)
  else if addr = 0x2024 then
    some (L.intOnce (.cmd tag (v.toNat % 32)))
  else if addr = 0x4048 then some (L.spSubmit cmd tag (v.toNat / 64 % 4))
  else if 0x20 ≤ p ∧ p ≤ 0x2F ∧ addr % 0x400 = 0x24 then some (L.chCmd (p - 0x20) tag cmd)
  else if addr = 0xC054 then some (L.sxCmd tag cmd)
  else if addr = 0x10044 then
    some (if cmd = 1 then L.setTime tag
      else L.setAll [(Reg.CHR_CMD_TAG, tag), (Reg.CHR_CMD_CMD, cmd), (Reg.CHR_CMD_RESULT, if L.active then 1 else 3)])
  else if 0x48 ≤ p ∧ p ≤ 0x4F ∧ addr % 0x400 = 0xAC then
    let n := p - 0x48
    some (if cmd = 1 then L.canCommitCmd n tag else if cmd = 2 then L.canSend n tag else if cmd = 3 then L.canCancel n tag false
      else L.canUnknown n tag cmd)
  else if addr = 0x17060 then some (L.hostNote tag (v.toNat / 32 % 8) (v.toNat % 32))
  else if addr = 0x18038 then
    some (if cmd = 1 then L.switchover tag else if cmd = 2 then L.suspendTb tag else if cmd = 3 then L.resumeTb tag
      else if cmd = 4 then L.resyncCmd tag else if cmd = 5 then L.fwBegin tag else if cmd = 6 then L.fwCheck tag
      else if cmd = 7 then L.fwActivate tag else L.redCmd tag cmd 1)
  else if addr = 0x1C064 then some (L.evcClear (decide (v.toNat / 2 ^ 30 % 2 = 1)) (v.toNat % 256))
  else none

/-! ### Registers whose chapter gives the write an effect or a condition of its own -/

/-- Such registers, other than the header and the commands with a GO bit. -/
def Lane.ownWrite (L : Lane) (addr : Nat) (v : Word) : Option Lane :=
  let p := addr / 0x400
  let off := addr % 0x400
  let n := v.toNat
  if addr = 0x0028 then some (if 2 ^ 31 ≤ n then L.absentClear else L)
  else if addr = 0x0864 then some (if 100 ≤ n % 65536 ∧ n % 65536 ≤ 60000 then L.set Reg.SCHED_LIMIT_MS n else L)
  else if addr = 0x1444 then some (L.thermRetire (n % 4096))
  else if addr = 0x2020 then some (L.intOnce (.deselect (n % 2 ^ 30)))
  else if addr = 0x2C20 then some (L.tgtSelWrite (n % 32))
  else if addr = 0x4028 then some (if n % 2 ^ 22 ≤ 3599999 then L.set Reg.CTRL_SP_HDG_HDG n else L)
  else if addr = 0x4050 then some (L.joyWrite (n % 1024) (n / 1024 % 1024) (n / 2 ^ 20 % 1024))
  else if p = 0x30 ∧ 0x58 ≤ off ∧ off ≤ 0x68 then some (L.set (exclReg ((off - 0x58) / 4)) n)
  else if 0x31 ≤ p ∧ p ≤ 0x33 ∧ off = 0x20 then
    some (if n % 2 ^ 13 ≤ 8000 then L.setWord addr (v &&& 0x1FFF) else L)
  else if 0x31 ≤ p ∧ p ≤ 0x33 ∧ off = 0x40 then
    some (if n % 128 < 72 then (L.setWord addr (v &&& 0x7F)).showWindow (p - 0x31) else L)
  else if addr = 0xE034 then some (L.aiFreezeWrite n)
  else if addr = 0xE038 then some (L.aiRestartWrite n)
  else if p = 0x38 ∧ 0x100 ≤ off ∧ off % 16 = 0 ∧ off < 0x300 then some (L.aiCfgWrite ((off - 0x100) / 16) n)
  else if p = 0x39 ∧ 0x104 ≤ off ∧ off % 16 = 4 ∧ off < 0x204 then some (L.aoHostWrite ((off - 0x104) / 16) v.toInt)
  else if addr = 0x10040 then some (L.writeSrcDis (n / 2 % 8))
  else if p = 0x40 ∧ 0xE0 ≤ off ∧ off < 0xF0 then some (L.writePps ((off - 0xE0) / 8) (decide (off % 8 = 4)) n)
  else if p = 0x40 ∧ (off = 0xF0 ∨ off = 0xF4) then some (L.writeAsym ((off - 0xF0) / 4) n)
  else if addr = 0x17028 then some (L.writeLogLevel (n % 8))
  else if addr = 0x17040 then some (L.readSelect (some n) none)
  else if addr = 0x17044 then some (L.readSelect none (some (n % 4)))
  else if p = 0x60 ∧ 0x100 ≤ off ∧ off < 0x200 then some (L.fwData ((off - 0x100) / 4) v)
  else none

/-- CTRL of a page: CNT_CLR, SCHED_FLUSH, REINIT, SNAP. -/
def Lane.ctrlWrite (L : Lane) (p : Nat) (v : Word) : Lane :=
  let b0 := decide (v.toNat % 2 = 1)
  let b1 := decide (v.toNat / 2 % 2 = 1)
  if p = 0x02 then
    let L := if b0 then L.cntClr p else L
    if b1 && L.active then L.schedFlush else L
  else if p = 0x0A then
    let L := if b0 then L.cntClr p else L
    if b1 then L.reinit else L
  else if p = 0x40 then
    let L := if b0 then L.snap else L
    if b1 then L.cntClr p else L
  else if b0 then L.cntClr p else L

/-- A register of a present page is written (R604). -/
def Lane.presentWrite (L : Lane) (r : RegRow) (addr : Nat) (v : Word) : Lane :=
  let p := addr / 0x400
  let off := addr % 0x400
  if off = 0x08 then L.ctrlWrite p v
  else if off = 0x14 then L.evtEnable p (v.toNat % 256)
  else if off = 0x18 then L.pendClear p (v.toNat % 256)
  else
    match (if 2 ^ 31 ≤ v.toNat then L.goCmd addr v else none) with
    | some L' => L'
    | none =>
      match L.ownWrite addr v with
      | some L' => L'
      | none => L.plainWrite r addr v

/-- A word has a writable field (R605). -/
def RegRow.writable (r : RegRow) : Bool := decide (r.rw ≠ 0) || decide (r.w1c ≠ 0) || decide (r.wo ≠ 0) || decide (r.rws ≠ 0)

/-- A WRITE of one word for a client, none for a scheduled action; the operation status of 11 R420 (R601-R605, R619). -/
def Lane.writeReg (L : Lane) (client : Option Nat) (addr : Nat) (v : Word) : Lane × Nat :=
  if addr % 4 ≠ 0 then (L, 2)
  else if 0x40000 ≤ addr ∨ !pagePresent L.variant (addr / 0x400) then (L.absentWrite addr, 0)
  else
    match rowAt addr with
    | none => (L, 1)
    | some r =>
      if !r.writable then (L, 1)
      else if r.rws ≠ 0 then
        match client with
        | none => (L, 3)
        | some c =>
          if !L.sessionOf c then (L, 3)
          else
            let (L, ok) := L.sfTpWrite c true v.toNat
            (L, if ok then 0 else 5)
      else (L.presentWrite r addr v, 0)

/-! ### Commands -/

/-- CNT_CLR (01 R54). -/
def execCntClr (l : LaneId) (p : Nat) (s : State) : Out :=
  onLane l (fun L => L.atReg (p * 0x400 + 8) fun L => L.cntClr p) s

/-- ABSENT_WRITE (00 R8, R11). -/
def execAbsentWrite (l : LaneId) (addr : Nat) (s : State) : Out := onLane l (fun L => L.absentWrite addr) s

/-- ABSENT_CLEAR (00 R9). -/
def execAbsentClear (l : LaneId) (s : State) : Out := onLane l Lane.absentClear s

/-- EVT_PEND_CLEAR (R615). -/
def execEvtPendClear (l : LaneId) (p mask : Nat) (s : State) : Out :=
  onLane l (fun L => L.atReg (p * 0x400 + 0x18) fun L => if evDefined p ≠ 0 then L.pendClear p mask else L) s

/-- EVT_EN_WRITE (R607, R615). -/
def execEvtEnWrite (l : LaneId) (p v : Nat) (s : State) : Out :=
  onLane l (fun L => L.atReg (p * 0x400 + 0x14) fun L => if evDefined p ≠ 0 then L.evtEnable p v else L) s

/-- EVC_CLEAR (R618). -/
def execEvcClear (l : LaneId) (all : Bool) (e : Nat) (s : State) : Out := onLane l (fun L => L.evcClear all e) s

/-- The register at an address of a present page is reserved (R603). -/
def Lane.reservedAt (L : Lane) (addr : Nat) : Bool :=
  decide (addr < 0x40000) && pagePresent L.variant (addr / 0x400) && (rowAt addr).isNone

/-- RESERVED_WRITE (R603): ignored. -/
def execReservedWrite (l : LaneId) (addr : Nat) (v : Word) (s : State) : Out :=
  onLane l (fun L => if L.reservedAt addr then (L.writeReg none addr v).1 else L) s

/-- REGISTER_WRITE (R604): a word of a register by address, for the client that names it. -/
def execRegisterWrite (l : LaneId) (client addr : Nat) (v : Word) (s : State) : Out :=
  onLane l (fun L => (L.writeReg (some client) addr v).1) s

/-- SF_TP_WRITE (R619; 13 R510, R516). -/
def execSfTpWrite (l : LaneId) (client : Nat) (v : Word) (s : State) : Out :=
  onLane l (fun L => (L.writeReg (some client) Reg.SF_TP_PERIOD.addr v).1) s

/-! ### Scheduled actions that fall due (02 R104-R106) -/

/-- One due action at the boundary of time `b` (R104-R106): EXECUTED, LATE or STALE. It is late where an earlier boundary lay at or
after its time (R105). -/
def Lane.schedExec (L : Lane) (b : Rat) (a : SchedAct) : Lane :=
  let late := match L.tk.prevBound with
    | some p => decide (a.time ≤ p)
    | none => false
  let stale := late && decide ((L.get Reg.SCHED_LIMIT_MS : Rat) * 1000000 < b - a.time)
  if stale then (L.schedOutcome a 3).find 0x02 6
  else
    let L := if late then L.find 0x02 5 else L
    if a.mode then L.modePend { mode := a.data % 16, tag := a.tag, sched := some (a, late) }
    else
      let old := L.word a.addr
      let pend := L.ctl.pend
      let L := (L.writeReg none a.addr (BitVec.ofNat 32 a.data)).1
      let L := L.onTk fun k =>
        { k with schedWrote := k.schedWrote ++ [(a.addr, old, L.word a.addr)], schedPend := k.schedPend || decide (L.ctl.pend ≠ pend) }
      L.schedOutcome a (if late then 2 else 1)

/-- An action is due at a boundary of time `b` (R104). -/
def SchedAct.due (b : Rat) (a : SchedAct) : Bool := decide (a.time ≤ b)

/-- The actions due at the boundary execute in the order of acceptance (R104). -/
def Lane.schedDue (L : Lane) (b : Rat) : Lane :=
  let l := L.tk.sched.filter (SchedAct.due b)
  let L := L.onTk fun k => { k with sched := k.sched.filter fun a => !SchedAct.due b a }
  (l.foldl (fun L a => L.schedExec b a) L).schedShow

/-- SCHED_ACTION_DUE (R104): at a position-cycle boundary of the active lane. -/
def execSchedActionDue (l : LaneId) (s : State) : Out :=
  onLane l (fun L => if L.active ∧ L.tk.posTick then L.schedDue L.now else L) s

end Sys2Proof.Machine
end

