-- ==== Sys2Proof/Machine/Rap.lean ====
section
/-! DEFINITION. The register access protocol: requests, checks, operations, responses, safety sessions, Chart transfers
(11_host_and_serial_links R415-R430, R433, R631, R632; 13 R506-R509). -/

namespace Sys2Proof.Machine

open Sys2Proof

/-! ### Datagrams (R415-R418) -/

/-- A length padded to a multiple of 4. -/
def pad4 (n : Nat) : Nat := (n + 3) / 4 * 4

/-- Data bytes that an operation's head announces (R418). -/
def opDataLen (op count : Nat) : Nat :=
  if op = 2 then 4 * count else if op = 5 ∨ op = 7 ∨ op = 8 ∨ op = 0x0A then count else 0

/-- COUNT lies in the range of R418. -/
def opCountOk (op count : Nat) : Bool :=
  if op = 1 ∨ op = 2 then decide (1 ≤ count) && decide (count ≤ 64)
  else if op = 5 then decide (count = 32)
  else if op = 7 then decide (count = 36)
  else if op = 8 then decide (4 ≤ count) && decide (count ≤ 1024)
  else if op = 0x0A then true
  else decide (count = 0)

/-- An operation from its head and data (R416, R418). -/
def mkOp (op count arg : Nat) (data : List Nat) : RapOp :=
  if op = 0 ∨ 0x0A < op then .unknown op
  else if !opCountOk op count then .badCount op
  else if op = 1 then .read count arg
  else if op = 2 then .write arg (wordsBe data)
  else if op = 3 then .laneRestart (decide (arg % 2 = 1))
  else if op = 4 then .safetyChallenge
  else if op = 5 then .safetyOpen data
  else if op = 6 then .safetyClose
  else if op = 7 then .chartBegin arg (ofBe (data.take 4)) (data.drop 4)
  else if op = 8 then .chartData arg data
  else if op = 9 then .chartEnd
  else .serSend arg count data

/-- The operations of a request's operation bytes; at most `n` are read (R416). -/
def parseOps : Nat → List Nat → Option (List RapOp)
  | 0, b => if b = [] then some [] else none
  | n + 1, b =>
    if b = [] then some []
    else if b.length < 8 then none
    else
      let op := b.getD 0 0
      let count := ofBe ((b.drop 2).take 2)
      let len := opDataLen op count
      let rest := b.drop 8
      if rest.length < pad4 len then none
      else (parseOps n (rest.drop (pad4 len))).map fun l => mkOp op count (ofBe ((b.drop 4).take 4)) (rest.take len) :: l

/-- A datagram whose header up to SEQ can be read, as a request (R415, R417). -/
def parseReq (b : List Nat) (net src : Nat) : RapReq :=
  let f (i n : Nat) : Nat := ofBe ((b.drop i).take n)
  let ops := if b.length < 28 then none else parseOps 17 ((b.drop 24).take (b.length - 28))
  let good := decide (f 0 2 = 0x4B58) && decide (f 2 1 = 1) && decide (f 3 1 = 1) && decide (28 ≤ b.length) && decide (b.length ≤ 1472)
    && decide (f 16 2 + 28 = b.length) && decide (f 4 1 ≤ 2) && decide (1 ≤ f 5 1) && decide (f 5 1 ≤ 254) && decide (1 ≤ f 6 1)
    && decide (f 6 1 ≤ 16) && decide (ops.map List.length = some (f 6 1))
  { lane := f 4 1, client := f 5 1, seq := f 8 4, epoch := f 12 4, ops := if good then ops.getD [] else [], bad := !good, net := net, src := src }

/-- RAP_REQUEST (R415, R417, R422): a datagram arrives. -/
def Lane.rapRequest (L : Lane) (b : List Nat) (net src : Nat) : Lane :=
  let n := b.length
  if n < 4 ∨ crc32 (b.take (n - 4)) ≠ ofBe (b.drop (n - 4)) then L.incSat Reg.RAP_DISCARD_CRC
  else if n < 16 ∨ 72 ≤ L.rap.queue.length then L.incSat Reg.RAP_DISCARD_MALFORMED
  else L.onRap fun r => { r with queue := r.queue ++ [parseReq b net src] }

/-- RAP_REQUEST (R415). -/
def execRapRequest (l : LaneId) (net src : Nat) (b : List Nat) (s : State) : Out :=
  onLane l (fun L => if L.running ∧ !L.coasting then L.rapRequest b net src else L) s

/-! ### Client table and cache (R419, R421) -/

/-- RAP_CLIENTS.USED (R438). -/
def Lane.clientsShow (L : Lane) : Lane := L.set Reg.RAP_CLIENTS_USED (maskOf 8 fun i => L.rap.clients.any fun c => decide (c.idx = i))

/-- A sequence number is newer than another (R419, R421), wrapping. -/
def seqNewer (a b : Nat) : Bool := decide (a ≠ b) && decide ((a + 2 ^ 32 - b) % 2 ^ 32 < 2 ^ 31)

/-- A request of a client: its table entry, found or taken, starts its 600 s anew; so does its session. -/
def Lane.touchClient (L : Lane) (client : Nat) : Lane :=
  let cl (l : List RapClient) : List RapClient :=
    if l.any fun c => decide (c.client = client) then l.map fun c => if c.client = client then { c with idleMs := 0 } else c
    else match freeIdx l with
      | some i => l ++ [⟨i, client, 0, 0⟩]
      | none => l
  let ses : Option (Nat × Nat) := if L.sessionOf client then some (client, 0) else L.rap.session
  ((L.onRap fun r => { r with clients := cl r.clients, session := ses }).clientsShow).sessionShow

/-- The client has an entry, or one is free (R419 check 3). -/
def Lane.clientFits (L : Lane) (client : Nat) : Bool :=
  (L.rap.clients.any fun c => decide (c.client = client)) || (freeIdx L.rap.clients).isSome

/-- The client's last SEQ. -/
def RapSt.noteSeq (r : RapSt) (client seq : Nat) : RapSt :=
  { r with clients := r.clients.map fun c => if c.client = client ∧ (c.lastSeq = 0 ∨ seqNewer seq c.lastSeq) then { c with lastSeq := seq } else c }

/-- The cached responses of a client, newest first. -/
def RapSt.cacheOf (r : RapSt) (client : Nat) : List RapResp := r.cache.filter fun x => decide (x.client = client)

/-- The oldest SEQ in a list. -/
def oldestSeq : List RapResp → Option Nat
  | [] => none
  | x :: r =>
    match oldestSeq r with
    | none => some x.seq
    | some o => some (if seqNewer o x.seq then x.seq else o)

/-- A response enters the client's cache of 32 (R421). -/
def RapSt.store (r : RapSt) (x : RapResp) : RapSt :=
  { r with cache := x :: (r.cacheOf x.client).take 31 ++ r.cache.filter fun y => decide (y.client ≠ x.client) }

/-! ### Sessions (R427-R429) -/

/-- The safety password in force (13 R506, R507). -/
def Lane.passwordNow (L : Lane) : List Nat := if L.sf.initial then Config.initialPassword else L.sf.password

/-- `n` free bytes. -/
def Lane.freeBytes (L : Lane) : Nat → List Nat × Lane
  | 0 => ([], L)
  | n + 1 =>
    let (l, L) := L.freeBytes n
    let (x, L) := L.fresh
    (l ++ [(x.floor % 256).toNat], L)

/-- SAFETY_CHALLENGE (R427): a nonce of 16 bytes, valid for 10 s. -/
def Lane.challenge (L : Lane) (client : Nat) : Lane × OpAns :=
  let (b, L) := L.freeBytes 16
  (L.onRap fun r => { r with nonces := (client, b, 10000) :: r.nonces.filter fun n => decide (n.1 ≠ client) }, ⟨0, b⟩)

/-- A SAFETY_OPEN fails (R429). -/
def Lane.authFail (L : Lane) (client net src : Nat) : Lane :=
  let L := ((L.incSat Reg.RAP_AUTH_TOTAL).incSat Reg.RAP_AUTH_CONSEC).setb Reg.RAP_FAULT_AUTH_FAILED true
  let n := L.get Reg.RAP_AUTH_CONSEC
  let L := (L.find 0x43 1).post 6 0x07 ([client, L.id.ethOf net, n, 0] ++ leBytes 4 src)
  if n < 3 then L
  else ((L.onRap fun r => { r with lockMs := 300000 }).setAll [(Reg.RAP_STAT_LOCKOUT, 1), (Reg.RAP_AUTH_LOCK_S, 300)]).find 0x43 2

/-- SAFETY_OPEN (R427-R429), with the LANE byte of its request. -/
def Lane.safetyOpen (L : Lane) (client laneByte net src : Nat) (hmac : List Nat) : Lane × OpAns :=
  let other : Bool := match L.rap.session with
    | some (c, _) => decide (c ≠ client)
    | none => false
  if !L.active ∨ (L.mode ≠ 3 ∧ L.mode ≠ 4) ∨ other ∨ L.rap.lockMs ≠ 0 then (L, ⟨6, []⟩)
  else
    let nonce := L.rap.nonces.find? fun n => decide (n.1 = client)
    let L := L.onRap fun r => { r with nonces := r.nonces.filter fun n => decide (n.1 ≠ client) }
    match nonce with
    | none => (L.authFail client net src, ⟨5, []⟩)
    | some (_, b, _) =>
      if hmac = hmac256 L.passwordNow (b ++ [client, laneByte]) then
        let L := (L.onRap fun r => { r with session := some (client, 0), sessNonce := b }).set Reg.RAP_AUTH_CONSEC 0
        (L.sessionShow.find 0x43 0, ⟨0, []⟩)
      else (L.authFail client net src, ⟨5, []⟩)

/-- SAFETY_CLOSE (R428). -/
def Lane.safetyClose (L : Lane) (client : Nat) : Lane × OpAns := if L.sessionOf client then (L.sessionEnd, ⟨0, []⟩) else (L, ⟨5, []⟩)

/-- LOCKOUT_END (R429). -/
def execLockoutEnd (l : LaneId) (s : State) : Out :=
  onLane l (fun L => if L.flag Reg.RAP_STAT_LOCKOUT ∧ L.rap.lockMs = 0 then L.setAll [(Reg.RAP_STAT_LOCKOUT, 0), (Reg.RAP_AUTH_LOCK_S, 0)] else L) s

/-- SESSION_IDLE_END (R428): 60 s without a request from the session's client. -/
def execSessionIdleEnd (l : LaneId) (s : State) : Out :=
  onLane l (fun L => match L.rap.session with
    | some (_, ms) => if 60000 ≤ ms then L.sessionEnd else L
    | none => L) s

/-- NONCE_EXPIRY (R427). -/
def execNonceExpiry (l : LaneId) (client : Nat) (s : State) : Out :=
  onLane l (fun L => L.onRap fun r => { r with nonces := r.nonces.filter fun n => !(decide (n.1 = client) && decide (n.2.2 = 0)) }) s

/-- CLIENT_ENTRY_EXPIRY (R419): 600 s without a request; the client's cached responses go with its entry. -/
def execClientEntryExpiry (l : LaneId) (client : Nat) (s : State) : Out :=
  onLane l (fun L =>
    if L.rap.clients.any fun c => decide (c.client = client) && decide (600000 ≤ c.idleMs) then
      (L.onRap fun r => { r with clients := r.clients.filter fun c => decide (c.client ≠ client), cache := r.cache.filter fun x => decide (x.client ≠ client) }).clientsShow
    else L) s

/-- The RAP's times at a tick start: session, nonces, lockout, transfer, clients (R419, R425, R427-R429). -/
def Lane.rapTimers (L : Lane) : Lane :=
  let L := L.onRap fun r =>
    { r with session := r.session.map fun q => (q.1, q.2 + 1), nonces := r.nonces.map fun n => (n.1, n.2.1, n.2.2 - 1), lockMs := r.lockMs - 1,
             xfer := r.xfer.map fun x => { x with idleMs := x.idleMs + 1 }, clients := r.clients.map fun c => { c with idleMs := c.idleMs + 1 } }
  (if L.flag Reg.RAP_STAT_LOCKOUT then L.set Reg.RAP_AUTH_LOCK_S ((L.rap.lockMs + 999) / 1000) else L).sessionShow

/-! ### Chart transfers (R425, R632) -/

/-- An open transfer is being checked or waits for its boundary. -/
def ChartXfer.checking (x : ChartXfer) : Bool := x.ended.isSome

/-- CHART_BEGIN (R425; 16 R578). -/
def Lane.chartBegin (L : Lane) (client sect total : Nat) (digest : List Nat) : Lane × OpAns :=
  if !L.active ∨ !L.flag Reg.THERM_WINDOW_OPEN then (L, ⟨6, []⟩)
  else
    let busy : Bool := match L.rap.xfer with
      | some x => decide (x.client ≠ client) || x.checking
      | none => false
    if busy then (L, ⟨7, []⟩)
    else
      let L := L.onRap fun r => { r with xfer := some { client := client, sect := sect, total := total, digest := digest, blocks := [], idleMs := 0, ended := none } }
      ((L.chartState 1).set Reg.RAP_CHART_CLIENT client, ⟨0, []⟩)

/-- An operation on the client's own open transfer; another's, or one being checked, is BUSY (R425). -/
def Lane.withXfer (L : Lane) (client : Nat) (f : ChartXfer → Lane × OpAns) : Lane × OpAns :=
  if !L.active then (L, ⟨6, []⟩)
  else match L.rap.xfer with
    | none => (L, ⟨5, []⟩)
    | some x => if x.client ≠ client ∨ x.checking then (L, ⟨7, []⟩) else f x

/-- CHART_DATA (R418, R425): only the last block may have a length that is no multiple of 4. -/
def Lane.chartData (L : Lane) (client ofs : Nat) (b : List Nat) : Lane × OpAns :=
  L.withXfer client fun x =>
    if b.length < 4 ∨ 1024 < b.length ∨ (b.length % 4 ≠ 0 ∧ ofs + b.length ≠ x.total) then (L, ⟨5, []⟩)
    else (L.onRap fun r => { r with xfer := some { x with blocks := (ofs, b) :: x.blocks, idleMs := 0 } }, ⟨0, []⟩)

/-- CHART_END (R425): the checks start; the answer comes later. -/
def Lane.chartEnd (L : Lane) (client seq idx : Nat) : Lane × OpAns :=
  L.withXfer client fun x => ((L.onRap fun r => { r with xfer := some { x with ended := some (seq, idx), idleMs := 0 } }).chartState 2, ⟨0, []⟩)

/-- A byte of the received content: the block received last that covers it. -/
def byteAt (blocks : List (Nat × List Nat)) (i : Nat) : Option Nat :=
  match blocks.find? fun b => decide (b.1 ≤ i) && decide (i < b.1 + b.2.length) with
  | some (o, b) => b[i - o]?
  | none => none

/-- The received content from offset 0 up to the declared length, `none` where a byte is missing. -/
def ChartXfer.content (x : ChartXfer) : Option (List Nat) := (List.range x.total).mapM (byteAt x.blocks)

/-- Length and SHA-256 agree with CHART_BEGIN (R425 DIGEST, R632). -/
def ChartXfer.digestOk (x : ChartXfer) : Bool :=
  x.blocks.all (fun b => decide (b.1 + b.2.length ≤ x.total)) && (match x.content with
    | some b => decide (sha256 b = x.digest)
    | none => false)

/-- The sections of a container after its header: numbers in order, bodies padded with zeros (R632); `n` bounds them. -/
def sectionsOf : Nat → List Nat → Option (List Nat)
  | 0, b => if b = [] then some [] else none
  | n + 1, b =>
    if b = [] then some []
    else if b.length < 16 then none
    else
      let body := ofLe ((b.drop 4).take 4)
      let len := pad4 body
      if b.length < 16 + len ∨ (b.drop 8).take 8 ≠ List.replicate 8 0 ∨ ((b.drop (16 + body)).take (len - body)).any (fun x => decide (x ≠ 0)) then none
      else (sectionsOf n (b.drop (16 + len))).map fun l => ofLe (b.take 2) :: l

/-- The structure of R632 around the section bodies. -/
def containerOk (sect : Nat) (b : List Nat) : Bool :=
  if sect = 0 then
    decide (32 ≤ b.length) && decide (ofLe (b.take 4) = 0x4B584354) && decide (ofLe ((b.drop 4).take 2) = 1) && decide (ofLe ((b.drop 6).take 2) = 17)
      && decide (ofLe ((b.drop 8).take 4) = b.length) && decide ((b.drop 12).take 20 = List.replicate 20 0)
      && decide (sectionsOf 18 (b.drop 32) = some ((List.range 18).drop 1))
  else decide (sect ≤ 17) && decide (sectionsOf 1 b = some [sect])

/-- Bytes combined by exclusive or. -/
def xorBytes (a b : List Nat) : List Nat := (a.zip b).map fun p => p.1 ^^^ p.2

/-- The password that PW_NEW carries (13 R508). -/
def Lane.recoverPw (L : Lane) (p : SafetyPortion) : List Nat :=
  (xorBytes p.pwNew (hmac256 L.passwordNow (L.rap.sessNonce ++ [0x50, 0x57]))).takeWhile fun c => decide (c ≠ 0)

/-- A password keeps 13 R506. -/
def pwOk (p : List Nat) : Bool := decide (8 ≤ p.length) && decide (p.length ≤ 32) && p.all fun c => decide (0x21 ≤ c) && decide (c ≤ 0x7E)

/-- The pending request of the transfer's CHART_END is answered (R425). -/
def Lane.chartAnswer (L : Lane) (ostat reason : Nat) (tick : Option Nat) : Lane :=
  match L.rap.xfer with
  | some x =>
    match x.ended with
    | some (seq, idx) =>
      let ans (e : RapExec) : RapExec :=
        if e.req.client = x.client ∧ e.req.seq = seq ∧ e.held then
          { e with held := false, resp := { e.resp with ans := modAt e.resp.ans idx fun _ => ⟨ostat, beBytes 4 reason⟩, tick := tick.getD e.resp.tick } }
        else e
      ((L.onRap fun r => { r with pending := r.pending.map ans, xfer := none, staged := none }).chartState 0).set Reg.RAP_CHART_REASON reason
    | none => L
  | none => L

/-- A transfer is refused (R425). -/
def Lane.chartRefuse (L : Lane) (reason : Nat) : Lane := (L.chartAnswer 5 reason none).find 0x43 4

/-- The reason for which the checks refuse a transfer (R425); `c` is the content as decoded, `none` where a section's format or a
field's range is invalid. -/
def Lane.checkReason (L : Lane) (x : ChartXfer) (c : Option Chart) : Option Nat :=
  if 0x400000 < x.total then some 8
  else if !x.digestOk then some 1
  else match c with
    | none => some 2
    | some n =>
      if !containerOk x.sect (x.content.getD []) then some 2
      else if L.portionNew n x.sect && n.safety.pwChange && L.sessionOf x.client && !pwOk (L.recoverPw n.safety) then some 2
      else L.chartReason n x.sect x.client

/-- The other lane can take content passed over the cross-link (01 R45). -/
def Lane.takesContent (L : Lane) : Bool := L.running && !L.coasting && (decide (L.role = 3) || decide (L.role = 4)) && L.linkUp

/-- CHART_CHECK_DONE (R425): the checks end; `c` carries the section or the whole Chart as decoded, with the bank digest that the
new content has. -/
def execChartCheckDone (l : LaneId) (c : Option Chart) (s : State) : Out :=
  let L := s.lane l
  match L.rap.xfer with
  | some x =>
    if x.checking && L.rap.staged.isNone then
      let n := c.map fun n => { L.chart.now.withSection n x.sect with digest := n.digest }
      match L.checkReason x n, n with
      | none, some n =>
        let fresh := L.portionNew n x.sect
        let n := if fresh && n.safety.pwChange then { n with safety := { n.safety with pwNew := L.recoverPw n.safety } } else n
        let s := s.upd l fun L =>
          let L := (L.onRap fun r => { r with staged := some x.client }).onChart fun k => { k with next := some (n, x.sect) }
          let L := if fresh then L.onSf fun y => { y with newPortion := some n.safety, binTaken := false, refused := false, rejects := 0 } else L
          L.chartState 3
        .next (s.upd l.other fun P => if P.takesContent then P.onChart fun k => { k with next := some (n, x.sect) } else P)
      | some r, _ => .next (s.upd l fun L => L.chartRefuse r)
      | none, none => .next s
    else .next s
  | none => .next s

/-- The waiting content of both lanes is dropped. -/
def State.dropNext (s : State) : State :=
  let f (L : Lane) : Lane := L.onChart fun k => { k with next := none }
  (s.upd .a f).upd .b f

/-- CHART_CURRENT (01 R40; R425; 13 R499, R508-R511): at a position-cycle boundary the content comes into force in both lanes. -/
def execChartCurrent (l : LaneId) (s : State) : Out :=
  let L := s.lane l
  match L.rap.staged, L.chart.next with
  | some client, some (n, sect) =>
    let por := L.sf.newPortion
    if !L.active || !L.tk.posTick then .next s
    else if L.sf.refused then .next ((s.upd l fun L => (L.chartRefuse 4).onSf fun y => { y with refused := false }).dropNext)
    else if por.isSome && !L.sessionOf client then
      .next ((s.upd l fun L => (L.chartRefuse 7).onSf fun y => { y with newPortion := none, cfgHold := [], binTaken := false }).dropNext)
    else if por.isSome && !L.mayLogChange then
      .next ((s.upd l fun L => ((L.chartRefuse 4).find 0x59 2).onSf fun y => { y with newPortion := none, cfgHold := [], binTaken := false }).dropNext)
    else if por.isSome && !L.sf.binTaken then .next s
    else
      let s := s.upd l fun L =>
        let L := L.chartCurrent n sect (sectHas sect)
        let L := match por with
          | some p => L.portionCurrent p client
          | none => L
        (L.chartAnswer 0 0 (some (L.get Reg.TICK_CNT_COUNT))).find 0x43 3
      let s := s.upd l.other fun P =>
        match P.chart.next with
        | some (m, k) =>
          let P := P.chartCurrent m k (sectHas k)
          (match por with
            | some p => ((if p.pwChange then P.onSf fun y => { y with password := p.pwNew, initial := false } else P).loadPortion p).sfLogShow
            | none => P)
        | none => P
      .next (((s.clkChart .a).clkChart .b).dropNext)
  | _, _ => .next s

/-- CHART_TRANSFER_ABANDON (R425): 30 s without a Chart operation. -/
def execChartTransferAbandon (l : LaneId) (s : State) : Out :=
  onLane l (fun L => match L.rap.xfer with
    | some x => if 30000 ≤ x.idleMs ∧ !x.checking then L.chartAbandon else L
    | none => L) s

/-! ### Operations (R418, R420) -/

/-- The words that a WRITE may change in LUBBER (R420). -/
def lubberWord (a : Nat) : Bool :=
  [Reg.LOG_RD_SEQ_w.addr, Reg.LOG_RD_OFS_w.addr, Reg.LOG_SICK_SEL_w.addr, Reg.SF_LOG_SEL_w.addr, Reg.EVC_SEL_w.addr].contains a

/-- The first status that is not OK. -/
def firstStat (a b : Nat) : Nat := if a = 0 then b else a

/-- WRITE (R418, R420): words to consecutive registers, in rising order. -/
def Lane.rapWords (L : Lane) (client : Nat) : Nat → List Nat → Lane × Nat
  | _, [] => (L, 0)
  | a, w :: r =>
    let (L, x) := if L.mode = 2 ∧ !lubberWord a then (L, 6) else L.writeReg (some client) a (BitVec.ofNat 32 w)
    let (L, y) := L.rapWords client (a + 4) r
    (L, firstStat x y)

/-- WRITE (R420): an address that is no multiple of 4 is not executed. -/
def Lane.rapWrite (L : Lane) (client addr : Nat) (data : List Nat) : Lane × OpAns :=
  if addr % 4 ≠ 0 then (L, ⟨2, []⟩)
  else
    let (L, x) := L.rapWords client addr data
    (L, ⟨x, []⟩)

/-- READ (R418, R420). -/
def Lane.rapRead (L : Lane) (count addr : Nat) : OpAns :=
  if addr % 4 ≠ 0 then ⟨2, []⟩ else ⟨0, (List.range count).flatMap fun i => beBytes 4 (L.readWord (addr + 4 * i)).toNat⟩

/-- LANE_RESTART (R426; 02 R98): refused on the active lane without a standby able to take over, unless forced. -/
def Lane.rapRestart (L : Lane) (force : Bool) : Lane × OpAns :=
  if L.active && !L.red.peerAble && !force then (L, ⟨6, []⟩) else (L.onRap fun r => { r with restart := true }, ⟨0, []⟩)

/-- An operation that LUBBER allows (R420; 02 R99). -/
def RapOp.inLubber : RapOp → Bool
  | .read _ _ => true
  | .write _ _ => true
  | .laneRestart _ => true
  | _ => false

/-- What an operation answers at the input latch (R422): reading operations as they stand then, writing operations nothing yet. -/
def Lane.opAtLatch (L : Lane) (r : RapReq) (op : RapOp) : Lane × OpAns :=
  if L.mode = 2 ∧ !op.inLubber then (L, ⟨6, []⟩)
  else match op with
    | .read c a => (L, L.rapRead c a)
    | .safetyChallenge => L.challenge r.client
    | .badCount _ => (L, ⟨5, []⟩)
    | .unknown _ => (L, ⟨4, []⟩)
    | _ => (L, ⟨0, []⟩)

/-- What a writing operation does at the commit point (R422); `a` is its answer so far. -/
def Lane.opAtCommit (L : Lane) (r : RapReq) (idx : Nat) (op : RapOp) (a : OpAns) : Lane × OpAns :=
  if L.mode = 2 ∧ !op.inLubber then (L, ⟨6, []⟩)
  else match op with
    | .write addr d => L.rapWrite r.client addr d
    | .laneRestart f => L.rapRestart f
    | .safetyOpen h => L.safetyOpen r.client r.lane r.net r.src h
    | .safetyClose => L.safetyClose r.client
    | .chartBegin k t d => L.chartBegin r.client k t d
    | .chartData o b => L.chartData r.client o b
    | .chartEnd => L.chartEnd r.client r.seq idx
    | .serSend p c t =>
      let (L, x) := L.serSend p c t
      (L, ⟨x, []⟩)
    | .read _ _ | .safetyChallenge | .badCount _ | .unknown _ => (L, a)

/-! ### A request at the input latch (R419) -/

/-- Response bytes of an operation's data (R418, R419 check 8). -/
def RapOp.respLen : RapOp → Nat
  | .read c _ => 4 * c
  | .safetyChallenge => 16
  | .chartEnd => 4
  | _ => 0

/-- Size of the response of a list of operations (R419 check 8). -/
def respSize (l : List RapOp) : Nat := 28 + (l.map fun o => 8 + pad4 o.respLen).sum

/-- A response to a request with a status, as the lane stands. -/
def Lane.respond (L : Lane) (r : RapReq) (status : Nat) (ans : List OpAns) : RapResp :=
  { lane := r.lane, client := r.client, seq := r.seq, status := status, epoch := L.get Reg.RAP_EPOCH_EPOCH, tick := L.get Reg.TICK_CNT_COUNT,
    active := L.active, repeated := false, session := false, ans := ans }

/-- A request's response awaits the end of the tick. -/
def Lane.pend (L : Lane) (e : RapExec) : Lane := L.onRap fun r => { r with pending := r.pending ++ [e] }

/-- A request is refused with a status (R419). -/
def Lane.rapRefuse (L : Lane) (r : RapReq) (status : Nat) (ans : List OpAns) : Lane :=
  (L.incSat Reg.RAP_REQ_REFUSED).pend { req := { r with ops := [] }, resp := L.respond r status ans, applied := true, held := false, copy := false }

/-- The record that the mirrored frames left of a request (R423). -/
def RapSt.recordOf (r : RapSt) (client seq : Nat) : Option (List Nat) :=
  (r.record.find? fun e => decide (e.1 = client) && decide (e.2.1 = seq)).map fun e => e.2.2.2

/-- The operations of a request, in order, at the latch. -/
def Lane.opsAtLatch (L : Lane) (r : RapReq) : List RapOp → Lane × List OpAns
  | [] => (L, [])
  | o :: l =>
    let (L, a) := L.opAtLatch r o
    let (L, m) := L.opsAtLatch r l
    (L, a :: m)

/-- A request whose layout, lane and client have passed their checks (R419 checks 4 to 8, R421, R423). -/
def Lane.rapKnown (L : Lane) (r : RapReq) : Lane :=
  let ca := L.rap.cacheOf r.client
  match ca.find? fun x => decide (x.seq = r.seq) with
  | some x => L.pend { req := { r with ops := [] }, resp := { x with repeated := true }, applied := true, held := false, copy := false }
  | none =>
    if L.rap.pending.any fun e => decide (e.req.client = r.client) && decide (e.req.seq = r.seq) && !e.copy && !e.resp.repeated then
      L.pend { req := { r with ops := [] }, resp := L.respond r 0 [], applied := true, held := false, copy := true }
    else
      let stale : Bool := match oldestSeq ca with
        | some o => !seqNewer r.seq o
        | none => false
      match L.rap.recordOf r.client r.seq with
      | some st => L.rapRefuse r 5 (st.map fun x => ⟨x, []⟩)
      | none =>
        if stale then L.rapRefuse r 6 []
        else if r.epoch ≠ L.get Reg.RAP_EPOCH_EPOCH ∧ r.ops.any RapOp.writes then L.rapRefuse r 4 []
        else if 1472 < respSize r.ops then L.rapRefuse r 8 []
        else
          let L := (L.incWrap Reg.RAP_REQ_DONE).onRap fun x => x.noteSeq r.client r.seq
          let (M, a) := L.opsAtLatch r r.ops
          M.pend { req := r, resp := L.respond r 0 a, applied := !r.ops.any RapOp.writes, held := false, copy := false }

/-- RAP_EXECUTE (R419, R421): one request in the input latch. -/
def Lane.rapOne (L : Lane) (r : RapReq) : Lane :=
  let L := L.set Reg.RAP_CLIENTS_LAST r.client
  if r.bad then L.rapRefuse r 1 []
  else if r.lane = 2 ∧ !L.active then L.rapRefuse r 3 []
  else if r.lane ≠ 2 ∧ r.lane ≠ (if L.id = .a then 0 else 1) then L.rapRefuse r 2 []
  else if !L.clientFits r.client then (L.rapRefuse r 7 []).find 0x43 5
  else (L.touchClient r.client).rapKnown r

/-- The input latch executes up to 8 requests in order of arrival (R422). -/
def Lane.rapExecute (L : Lane) : Lane :=
  let l := L.rap.queue.take 8
  l.foldl Lane.rapOne (L.onRap fun r => { r with queue := r.queue.drop 8 })

/-- A word written to INT_DESELECT, or to INT_CMD with GO (03 R141, R146). -/
def intOpOf (q : Nat × Nat) : Option IntOp :=
  if q.1 = Reg.INT_DESELECT_w.addr then some (.deselect (q.2 % 2 ^ 30))
  else if q.1 = Reg.INT_CMD_w.addr ∧ q.2 / 2 ^ 31 % 2 = 1 then some (.cmd (q.2 / 256 % 256) (q.2 % 32))
  else none

/-- The words that an operation writes, by address. -/
def RapOp.words : RapOp → List (Nat × Nat)
  | .write a d => if a % 4 = 0 then mapIdxFrom 0 (fun i w => (a + 4 * i, w)) d else []
  | _ => []

/-- The latched writes of INT_DESELECT and INT_CMD act before any sample of the tick is judged (03 R141). -/
def Lane.rapIntake (L : Lane) : Lane :=
  if L.mode = 2 then L
  else L.intEarly ((L.rap.pending.filter fun e => !e.applied).flatMap fun e => (e.req.ops.flatMap RapOp.words).filterMap intOpOf)

/-! ### The commit point and the responses (R422) -/

/-- The writing operations of a request, in order, at a commit point. -/
def Lane.opsAtCommit (L : Lane) (r : RapReq) : Nat → List RapOp → List OpAns → Lane × List OpAns
  | i, o :: l, a :: m =>
    let (L, a) := L.opAtCommit r i o a
    let (L, m) := L.opsAtCommit r (i + 1) l m
    (L, a :: m)
  | _, _, _ => (L, [])

/-- A request's response is held for the checks of its own CHART_END. -/
def Lane.holdsAnswer (L : Lane) (r : RapReq) : Bool :=
  match L.rap.xfer with
  | some x => decide (x.client = r.client) && decide (x.ended.map Prod.fst = some r.seq)
  | none => false

/-- A pending request at a commit point: its writes take effect and enter the tick's record (R422, R423). -/
def Lane.applyPending (L : Lane) (e : RapExec) : Lane :=
  if e.applied then L.pend e
  else
    let (L, a) := L.opsAtCommit e.req 0 e.req.ops e.resp.ans
    let L := L.onRap fun r => { r with executed := r.executed ++ [(e.req.client, e.req.seq, 0, a.map OpAns.ostat)] }
    L.pend { e with resp := { e.resp with ans := a }, applied := true, held := L.holdsAnswer e.req }

/-- The deferred writes of the requests of this tick, and of ticks that ended in a frame fault, in their order (R422). -/
def Lane.rapCommit (L : Lane) : Lane :=
  let l := L.rap.pending
  l.foldl Lane.applyPending (L.onRap fun r => { r with pending := [] })

/-- Statuses whose responses the cache keeps (R421): those of requests that took a place in the client's sequence. -/
def cachedStatus (n : Nat) : Bool := [0, 4, 5, 8].contains n

/-- A response leaves the lane (R422, R421). -/
def Lane.sendResp (L : Lane) (e : RapExec) : Lane :=
  let x := { e.resp with session := L.sessionOf e.resp.client }
  let L := (L.ethTx e.req.net).onRap fun r => { r with sent := x :: r.sent }
  if !x.repeated && cachedStatus x.status then L.onRap fun r => r.store x else L

/-- RAP_RESPONSE (R422): a response that is ready is sent; a copy is answered as the cache answers it, once it does (R421). -/
def Lane.respOne (L : Lane) (e : RapExec) : Lane :=
  if e.copy then
    match (L.rap.cacheOf e.req.client).find? fun x => decide (x.seq = e.req.seq) with
    | some x => L.sendResp { e with resp := { x with repeated := true } }
    | none => if L.rap.pending.any fun p => decide (p.req.client = e.req.client) && decide (p.req.seq = e.req.seq) then L.pend e else L
  else if e.applied && !e.held then L.sendResp e
  else L.pend e

/-- RAP_RESPONSE (R422): at the end of the mirror transfer, or at 950 µs. -/
def Lane.rapRespond (L : Lane) : Lane :=
  let l := L.rap.pending
  l.foldl Lane.respOne (L.onRap fun r => { r with pending := [] })

/-! ### Operations as commands -/

/-- A request of one operation on network A, done at once with its answer. -/
def Lane.opNow (L : Lane) (client seq : Nat) (op : RapOp) : Lane :=
  let r : RapReq := { lane := if L.id = .a then 0 else 1, client := client, seq := seq, epoch := L.get Reg.RAP_EPOCH_EPOCH, ops := [op], bad := false, net := 0, src := 0 }
  let (L, a) := L.opAtLatch r op
  let (L, a) := L.opAtCommit r 0 op a
  let x := { L.respond r 0 [a] with session := L.sessionOf client }
  if L.holdsAnswer r && decide (op = .chartEnd) then L.pend { req := r, resp := x, applied := true, held := true, copy := false }
  else L.onRap fun y => { y with sent := x :: y.sent }

/-- An operation as a command: in a lane whose tick runs. -/
def opCommand (l : LaneId) (client seq : Nat) (op : RapOp) (s : State) : Out :=
  onLane l (fun L => if L.running then L.opNow client seq op else L) s

/-- READ (R418). -/
def execRead (l : LaneId) (client seq count addr : Nat) (s : State) : Out :=
  opCommand l client seq (if opCountOk 1 count then .read count addr else .badCount 1) s

/-- WRITE (R418). -/
def execWrite (l : LaneId) (client seq addr : Nat) (data : List Nat) (s : State) : Out :=
  opCommand l client seq (if opCountOk 2 data.length then .write addr data else .badCount 2) s

/-- LANE_RESTART (R426). -/
def execLaneRestart (l : LaneId) (client seq : Nat) (force : Bool) (s : State) : Out := opCommand l client seq (.laneRestart force) s

/-- SAFETY_CHALLENGE (R427). -/
def execSafetyChallenge (l : LaneId) (client seq : Nat) (s : State) : Out := opCommand l client seq .safetyChallenge s

/-- SAFETY_OPEN (R427). -/
def execSafetyOpen (l : LaneId) (client seq : Nat) (hmac : List Nat) (s : State) : Out :=
  opCommand l client seq (if opCountOk 5 hmac.length then .safetyOpen hmac else .badCount 5) s

/-- SAFETY_CLOSE (R428). -/
def execSafetyClose (l : LaneId) (client seq : Nat) (s : State) : Out := opCommand l client seq .safetyClose s

/-- CHART_BEGIN (R425). -/
def execChartBegin (l : LaneId) (client seq sect total : Nat) (digest : List Nat) (s : State) : Out :=
  opCommand l client seq (.chartBegin sect total digest) s

/-- CHART_DATA (R425). -/
def execChartData (l : LaneId) (client seq ofs : Nat) (b : List Nat) (s : State) : Out :=
  opCommand l client seq (if opCountOk 8 b.length then .chartData ofs b else .badCount 8) s

/-- CHART_END (R425). -/
def execChartEnd (l : LaneId) (client seq : Nat) (s : State) : Out := opCommand l client seq .chartEnd s

/-- SER_SEND (R433). -/
def execSerSend (l : LaneId) (client seq port : Nat) (text : List Nat) (s : State) : Out :=
  opCommand l client seq (.serSend port text.length text) s

end Sys2Proof.Machine
end

