-- ==== Sys2Proof/Machine/Tick.lean ====
section
/-! DEFINITION. The tick: TICK_START with the work of its phases up to the commit, and COMMIT_POINT with what follows it
(02_tick_and_modes R63-R74, 01 R47, R48, 05 R190, 18 R626). -/

namespace Sys2Proof.Machine

open Sys2Proof

/-! ### The grid (R63-R67) -/

/-- A tick start that ends a tick of `slack` ns more than 1 ms: chronometer, counts, and the tick number, from the chronometer
(R63), but counted on while the grid realigns (R67), which ends here once the whole delay has been added. -/
def Lane.tickOn (L : Lane) (slack : Rat) : Lane :=
  let L := (L.onChr fun c => { c with ns := c.ns + 1000000 + slack }).incWrap Reg.TICK_CNT_COUNT
  let L := L.onTk fun k => { k with realign := k.realign - slack }
  if L.tk.realigning then (L.tickNumber ((L.get Reg.TICK_POS_TICK + 1) % 1000)).renumber else L.tickNumber (nsOf L.now / 1000000)

/-- The tick begins: chronometer, tick number, the grid's delay, the tick's multiples; its length in ns on the chronometer. The
first tick of a start begins at the time at which the tick starts (R90): it keeps that time's number, and 0 ticks have gone by. -/
def Lane.tickClock (L : Lane) : Lane × Rat :=
  let first := decide (L.tk.count = 0)
  let slack : Rat := if first || !L.tk.realigning then 0 else min 50000 L.tk.realign
  let L := if first then L.tickNumber (L.get Reg.TICK_POS_TICK) else L.tickOn slack
  let t := L.now
  let L := L.onTk fun k =>
    { k with count := k.count + 1, inTick := true, stopped := [], schedWrote := [], schedPend := false,
             prevBound := if k.posTick then k.bound else k.prevBound, bound := if k.posTick then some t else k.bound }
  ((L.setb Reg.TICK_POS_STRETCHED L.coasting).onBoot fun b => { b with snapAge := b.snapAge + 1 }, 1000000 + slack)

/-- The steps of the chronometer since the last tick start move the times of latched samples, time models and history (03 R129, 04
R170). -/
def Lane.stepFollow (L : Lane) : Lane :=
  let d := L.chr.stepSum - L.tk.stepSeen
  if d = 0 then L else ((L.intakeStep d).histStep d).onTk fun k => { k with stepSeen := k.stepSeen + d }

/-- The start record gets the chronometer time of the start once it is known (R95). -/
def Lane.startTime (L : Lane) : Lane :=
  match L.boot.mem.thisStart with
  | some ⟨p, none⟩ =>
    if L.timeValid then
      (L.onBoot fun b => { b with mem := { b.mem with thisStart := some ⟨p, some (L.now - 1000000 * ((L.pwr.poweredMs - p : Nat) : Rat))⟩ } }).bootRecWrite
    else L
  | _ => L

/-- Clocks, supplies, times of the RAP and the Logbook's second at a tick start. -/
def Lane.tickInfra (L : Lane) (x : TickIn) : Lane :=
  let L := L.chrTickStep.stepFollow
  let L := (L.clkTick.chrTick.measureSupply x.mv x.ma).rapTimers.startTime
  (L.onRap fun r => { r with sent := [] }).onLog fun g => { g with noteThisTick := false }

/-! ### The input latch (18 R626) -/

/-- The input latch of a tick of `dt` ns: what every unit takes. -/
def Lane.inputLatch (L : Lane) (holds : Bool) (t : Nat → Int) (b : BinStatus) (x : TickIn) (dt : Rat) : Lane :=
  let pos := L.tk.posTick
  let L := (L.aiLatch pos).aoLatch holds t x.ao
  let L := (if L.pairUp 2 then L.sfLatch holds (dt / 1000000) b else L).canTick holds x.begun
  let L := (L.linkTick dt).sxTick dt L.tk.epochTick
  let t0 := L.now
  let L := L.onNtk fun k => { k with latched := k.latched ++ k.fresh.map (fun r => { r with latch := t0 }), fresh := [], ops := [] }
  if L.mode = 2 then L else if pos then L.anaCollect.anaSamples else L.anaCollect

/-! ### Roles at the latch (12 R442-R467) -/

/-- The standby's self-tests on its DACs, gate lines and serial ports (12 R448). -/
def Lane.selfTick (L : Lane) (x : TickIn) : Lane :=
  let st := decide (L.role = 3) || decide (L.role = 4)
  let up (bad : Bool) (m n : Nat) : Nat := if st && bad then min m (n + 1) else 0
  let L := L.onRed fun r => { r with self := { r.self with dac := up x.dacBad 20 r.self.dac, gates := up x.gateBad 3 r.self.gates } }
  if !L.tk.secTick then L
  else
    let theirs : List Nat := (L.red.peer.map HealthWord.serCounts).getD []
    let bad (n : Nat) : Bool := decide (L.get (Reg.SER_CFG_MODE n) ≠ 0) && decide ((L.serSt n).rxLast = 0) && decide (0 < theirs.getD n 0)
    let L := L.onRed fun r => { r with self := { r.self with ser := mapIdxFrom 0 (fun n c => up (bad n) 5 c) r.self.ser } }
    L.onSer fun l => l.map fun p => { p with rxLast := p.rxCount, rxCount := 0 }

/-- What the lane sees of the grant, and the counts of a tick without a mirror frame or a holder (01 R55; 12 R445, R465, R474). -/
def Lane.grantShow (L : Lane) (k : InterlockSt) : Lane :=
  let holds := k.holds L.id
  let held := k.held
  let L := L.setAll [(Reg.LANE_STAT_DRIVE_HELD, if holds then 1 else 0),
    (Reg.RED_ROLE_HOLDER, if k.holds .a then 1 else if k.holds .b then 2 else 0), (Reg.RED_ROLE_PEER_DRIVE, if k.drive L.id.other then 1 else 0)]
  let L := (L.incSat Reg.RED_PEER_AGE).onHw fun h => { h with mirrorMiss := h.mirrorMiss + 1 }
  let due := L.peerIs .active && !L.active
  L.onRed fun r => { r with noMirror := min 4 (r.noMirror + 1), missed := if due then min 3 (r.missed + 1) else 0, noHolder := if held then 0 else r.noHolder + 1 }

/-- A planned handover's outcome at the latch (12 R459): the outgoing lane that holds the grant again cancels; at the end of H+1 it
stops asserting ARM for the handover. -/
def Lane.outgoingTick (L : Lane) (holds : Bool) : Lane :=
  match L.red.outgoing with
  | none => L
  | some h =>
    if holds && L.active then L.cancelHandover
    else if (h + 2) % 2 ^ 32 = L.get Reg.TICK_CNT_COUNT then L.onRed fun r => { r with outgoing := none }
    else L

/-- The roles at the latch: the active lane that sees the other holding gives up, step 8 and LUBBER go on, counts and plans. -/
def State.roleLatch (s : State) (l : LaneId) (x : TickIn) : State :=
  let s := s.upd l fun L => L.grantShow s.sh.lock
  let lost := (s.lane l).active && s.sh.lock.holds l.other
  let s := if lost then s.upd l Lane.loseActive else s
  let was := (s.lane l).red.outgoing.isSome
  let s := s.upd l fun L => L.outgoingTick (s.sh.lock.holds l)
  let s := if was && (s.lane l).red.outgoing.isNone then s.onLock fun k => k.setArm l (s.lane l).armWanted else s
  let s := ((s.roleTick l).lubberTick l).contestTick l
  s.upd l fun L => ((L.selfTick x).takeBackTick.resyncTick).planTick

/-! ### The work of the tick (01 R47) -/

/-- The state at the end of the last tick, to which a frame fault returns (R73). -/
def Lane.snapWork (L : Lane) : Lane :=
  { L with work := some ⟨L.plt, L.ctl, L.alc, L.ntk, L.tk.pendMode, L.tk.sched, L.regs, L.mode, L.red.plan, L.tk.lubberAfter,
    L.found.length⟩ }

/-- Length of the position cycle just ended, s, on the chronometer (05 R191): between two boundaries, whatever a frame fault
discarded. -/
def Lane.cycleLen (L : Lane) : Rat :=
  match L.tk.bound, L.tk.prevBound with
  | some t, some u => (t - u) / 1000000000
  | _, _ => 1 / 100

/-- The control law of a position-cycle tick (05 R190): steps 1 to 4, and 5 to 7 where the lane does not coast. The mirrored
conditions stand in a standby. The test of step 6 spans the time between the two records (log entry 87). -/
def Lane.controlTick (L : Lane) : Lane :=
  let L := L.spApply
  let L := if L.active then L.schedDue L.now else L
  let L := if L.mirrors then L else L.condShow
  let L := L.modeEval.ctlStat
  if L.coasting ∨ L.mode = 2 then L
  else ((L.rampTick L.cycleLen).plausStep L.plt.own.h).lawStep L.cycleLen

/-- Plotter, control, channel loops and allocation in a tick of `dt` ns (01 R47); while the lane coasts only the Plotter and the
evaluation of modes go on (15 R553). -/
def Lane.workTick (L : Lane) (x : TickIn) (dt : Rat) : Lane :=
  let pos := L.tk.posTick
  let h := dt / 1000000000
  let L := if L.mode = 2 then L else L.plotterTick L.now (dt + L.tk.lost) pos
  let L := if L.mode = 2 then L else L.joyTick dt
  let L := if pos ∧ 3 ≤ L.mode then L.allocMeans.controlTick else L
  if L.coasting then L.loopsHeld
  else ((L.channelLoops h).aeTick h pos x.iters x.early x.aeDone).thrustShow

/-- A lane that restarts itself drops DRIVE and ARM (01 R30; 02 R98). This is an orderly shutdown: it writes a snapshot (01 R42;
log entry 83). -/
def State.laneRestart (s : State) (l : LaneId) (c : StartCause) : State :=
  s.moving fun s => (s.onLock fun k => (k.release l none).setArm l false).upd l fun L => L.snapshotWrite.hold c

/-- TICK_START (R63): in a lane whose tick runs. A lane that declared itself failed keeps its clocks, Logbook and RAP only (12
R442). -/
def State.tickStart (s : State) (l : LaneId) (x : TickIn) : State :=
  let L := s.lane l
  if !L.running then s
  else if L.rap.restart then s.laneRestart l .hostRestart
  else
    let (L, d) := L.tickClock
    let dt := if L.coasting then x.coastNs else d
    let s := s.setLane l (L.tickInfra x)
    if (s.lane l).role = 5 then s.upd l fun L => if L.pairUp 0 then L.rapExecute.windowLoad else L
    else
      let holds := s.sh.lock.holds l
      let b := s.binStatus
      let t := s.aoTerminal
      let s := s.upd l fun L => L.inputLatch holds t b x dt
      let s := (s.roleLatch l x).binEval
      s.upd l fun L =>
        let L := L.snapWork
        (if L.pairUp 0 then L.rapExecute.windowLoad.rapIntake else L).workTick x dt

/-- TICK_START (R63). -/
def execTickStart (l : LaneId) (x : TickIn) (s : State) : Out := .next (s.tickStart l x)

/-! ### A frame fault (R73, R74) -/

/-- Registers that show the tick's work, whose values a frame fault takes back. -/
def workReg (a : Nat) : Bool :=
  let p := a / 0x400
  (decide (0x20 ≤ a % 0x400 ∨ a % 0x400 = 0x0C ∨ a % 0x400 = 0x1C) && (decide (0x08 ≤ p ∧ p ≤ 0x0B) || decide (p = 0x10) || decide (p = 0x11)
      || decide (0x20 ≤ p ∧ p ≤ 0x2F)) && decide (a ≠ Reg.INT_PARSE_w.addr))
    || [Reg.MODE_CUR_w.addr, Reg.MODE_RESULT_w.addr, Reg.MODE_COND_w.addr, Reg.SCHED_STAT_w.addr].contains a

/-- Mask of the bits of a register that the host writes. -/
def hostMask (a : Nat) : Word := match rowAt a with
  | some r => BitVec.ofNat 32 r.rw
  | none => 0

/-- One register taken back to its value before the work: host-written bits stay. -/
def Lane.takeBackReg (L : Lane) (old : List (Nat × Word)) (a : Nat) : Lane :=
  let m := hostMask a
  L.setWord a ((L.word a &&& m) ||| (sparseGet old a (resetWord a) &&& ~~~ m))

/-- The RW bits that a scheduled write of the discarded tick set go back, where nothing has written them since (R73). -/
def Lane.takeBackSched (L : Lane) (w : Nat × Word × Word) : Lane :=
  let m := hostMask w.1 &&& (w.2.1 ^^^ w.2.2) &&& ~~~ (L.word w.1 ^^^ w.2.2)
  L.setWord w.1 ((L.word w.1 &&& ~~~ m) ||| (w.2.1 &&& m))

/-- Channel commands that wait: those of the last tick, then those that came since (R73). -/
def keepCmds (old now : List Nat) : List Nat := if old.isPrefixOf now then now else old ++ now

/-- The tick's computation is discarded (R73): the state of the last tick returns, with the inputs of this one; commands and
actions that came since stay. -/
def Lane.discardWork (L : Lane) (w : WorkSnap) : Lane :=
  let due := w.pendMode.isSome || decide (w.mode ≠ L.mode) || L.tk.goLubber.isSome || (L.tk.lubberAfter && !w.lubberAfter)
  let L := L.tk.schedWrote.reverse.foldl Lane.takeBackSched L
  let L := ((L.regs.map Prod.fst ++ w.regs.map Prod.fst).eraseDups.filter workReg).foldl (fun L a => L.takeBackReg w.regs a) L
  let kept (f : Found) : Bool := !(workReg (f.page * 0x400 + 0x20) || (decide (f.page = 2) && decide (f.bit ≠ 2 ∧ f.bit ≠ 3 ∧ f.bit ≠ 7)))
  let L := L.onFound fun l => l.take w.found ++ (l.drop w.found).filter kept
  let L := (L.onPlt fun _ => w.plt).onAlc fun a =>
    { w.alc with chans := (w.alc.chans.zip a.chans).map fun q => { q.1 with cmds := keepCmds q.1.cmds q.2.cmds } }
  let L := L.onNtk fun k => { w.ntk with fresh := k.fresh }
  let sched := L.tk.schedPend
  let L := L.onCtl fun c =>
    { w.ctl with pend := if c.pend.isSome && !sched then c.pend else w.ctl.pend, joyX := c.joyX, joyY := c.joyY, joyN := c.joyN, joyAge := c.joyAge,
                 joyGiven := c.joyGiven }
  let L := if L.tk.lubberAfter && !w.lubberAfter then L.onRed fun r => { r with plan := w.plan } else L
  let L := L.onTk fun k =>
    { k with pendMode := if k.pendMode.isSome then k.pendMode else w.pendMode, sched := w.sched ++ k.sched.filter (fun a => !w.sched.contains a),
             lateMode := k.lateMode || (k.posTick && due), lubberAfter := w.lubberAfter && (L.red.plan.isSome || L.red.outgoing.isSome),
             goLubber := none, schedWrote := [], schedPend := false }
  let L := L.onSer fun l => l.map fun p => { p with staged := [] }
  L.schedShow

/-- Frame faults counted over 1000 ticks (R74, R110): `n` is the tick's count. -/
def Lane.faultCount (L : Lane) (fault : Bool) : Lane :=
  let n := L.tk.count
  let l := (if fault then n :: L.tk.faults else L.tk.faults).filter fun t => decide (n < t + 1000)
  let L := (L.onTk fun k => { k with faults := l }).setSat Reg.FRAME_CNT_WINDOW l.length
  if fault then (L.incSat Reg.FRAME_CNT_TOTAL).incSat Reg.FRAME_CNT_CONSEC else L.set Reg.FRAME_CNT_CONSEC 0

/-- Escalation (R74): 3 consecutive frame faults, or 20 in 1000 ticks; again only once neither has held in between. -/
def Lane.escalate (L : Lane) : Lane :=
  let on := decide (3 ≤ L.get Reg.FRAME_CNT_CONSEC) || decide (20 ≤ L.tk.faults.length)
  let rise := on && !L.tk.escalated
  let L := L.onTk fun k => { k with escalated := on }
  if rise then (L.degrade.setb Reg.TICK_FAULT_FRAME_ESCALATED true).find 0x02 3 else L

/-- The lowest bit of a mask of engines; 16 in none. -/
def lowestEngine (m : Nat) : Nat := ((List.range 16).find? fun n => testBit m n).getD 16

/-- A frame fault at the commit point (R72-R74); of several engines that are not DONE the margin of 0 names the lowest (log entry
22). -/
def Lane.frameFault (L : Lane) (notDone : Nat) : Lane :=
  let n := lowestEngine notDone
  let L := match L.work with
    | some w => if L.mode = 2 ∧ w.mode ≠ 2 then L else L.discardWork w
    | none => L
  let L := L.setAll [(Reg.TICK_MARGIN_MARGIN, 0), (Reg.TICK_MARGIN_ENGINE, if n = 16 then 0xF else engCode n)]
  let L := L.onTk fun k => { k with lost := k.lost + 1000000 }
  ((L.find 0x02 2).faultCount true).escalate

/-- The margin of a commit (R72). -/
def Lane.marginRecord (L : Lane) (done engine : Nat) : Lane :=
  let m := 8500 - done
  if m < L.get Reg.TICK_MARGIN_MARGIN then L.setAll [(Reg.TICK_MARGIN_MARGIN, m), (Reg.TICK_MARGIN_ENGINE, engCode engine)] else L

/-! ### The commit point (R69, R70) -/

/-- What a normal commit fixes (01 R48): channel commands, analogue values, serial sentences. A lane that coasts keeps those of its
last commit before the coast (15 R553). -/
def Lane.commitOutputs (L : Lane) : Lane :=
  let L := if L.coasting then L
    else
      let L := L.chCommit []
      L.aoCommitAll (L.chAo [])
  (L.serCommit).onTk fun k => { k with lost := 0 }

/-- The processor-side safety gates (R70; 12 R457): the mask of the mirrored gates holds to the end of the first active tick. -/
def Lane.gateCommit (L : Lane) : Lane :=
  let L := L.sfCommit fun k => (L.so k).mirrored
  if L.active ∨ L.mode = 2 then L.onSf fun x => { x with outs := x.outs.map fun o => { o with mirrored := true } } else L

/-- A transition to mode 2 made in this tick takes effect. -/
def Lane.lubberDue (L : Lane) : Lane :=
  match L.tk.goLubber with
  | some late => (L.onTk fun k => { k with goLubber := none }).enterLubber 3 late
  | none => L

/-- Engines that count as failed at a commit point (R69, R70): no heartbeat, halted, or SC2/SC3 not committing. -/
def Lane.deadEngines (L : Lane) (x : CommitIn) : Nat := x.noBeat ||| (x.notDone &&& 0xC) ||| L.hw.halt

/-- Engines with a heartbeat and no DONE (R69), those stopped among them (R71). -/
def Lane.lateEngines (L : Lane) (x : CommitIn) : Nat :=
  let m := (x.notDone ||| maskOf 16 fun n => L.tk.stopped.contains n) &&& L.get Reg.LANE_ENG_HEALTHY_w
  m - (m &&& L.deadEngines x)

/-- The commit in a lane (R69-R74): engines judged, gates, then the outputs and the host's writes, or a frame fault. The last
component says that the tick was discarded. -/
def Lane.commitWork (L : Lane) (x : CommitIn) : Lane × Bool :=
  let L := L.onRap fun r => { r with executed := [] }
  let dead := L.deadEngines x
  let late := L.lateEngines x
  let C := L.engineCheck dead
  if C.role = 5 then
    let L := if C.engOk 2 then C.gateCommit else C
    (if L.engOk 0 then L.rapCommit else L, false)
  else if decide (late ≠ 0) || L.tk.discard then (((L.frameFault late).engineCheck dead).gateCommit, true)
  else ((((C.marginRecord x.done x.engine).faultCount false).escalate.lubberDue.commitOutputs).gateCommit.rapCommit, false)

/-- The lane declared itself failed at this commit point. -/
def Lane.declaredNow (L : Lane) : Bool :=
  match L.hw.failed with
  | some (_, _, n) => decide (n = L.tk.count)
  | none => false

/-- The end of the commit in a lane: a waiting switch of the reference begins, events are raised, the health word and, from the
active lane, the mirror frame go out, responses follow (15 R550, 18 R612, 12 R444, R449, 11 R422). MODE_COND shows the conditions
live (R77, R107). A failed SC0/SC1 pair raises and answers nothing after the commit that declares it (01 R34). -/
def Lane.commitEnd (L : Lane) (fault : Bool) : Lane :=
  let L := L.clkCommit
  let L := if L.engOk 0 || L.declaredNow then L.raiseAll else L
  let L := L.onRed fun r => { r with hwOut := some L.healthWord }
  let L := if L.mirrors || decide (L.role = 5) then L else L.condShow
  let L := if L.active ∧ !L.coasting then L.mirrorSend fault else { L with mirror := none }
  let L := if L.coasting || !L.engOk 0 then L else L.rapRespond
  { L.onTk fun k => { k with inTick := false, discard := false, goLubber := none } with work := none }

/-- COMMIT_POINT (R69): in a lane whose tick has latched. ARM is refreshed by a lane that is not failed; a failed one releases the
grant (12 R452, R454). -/
def State.commit (s : State) (l : LaneId) (x : CommitIn) : State :=
  let L := s.lane l
  if !L.running ∨ !L.tk.inTick then s
  else
    let (L, fault) := L.commitWork x
    let s := s.setLane l L
    let s := if (s.lane l).role = 5 then s else s.armRefresh l
    let s := s.upd l fun L => L.commitEnd fault
    if (s.lane l).hw.failed.isSome then s.moving fun s => s.failRelease l else s

/-- COMMIT_POINT (R69). -/
def execCommitPoint (l : LaneId) (x : CommitIn) (s : State) : Out := .next (s.commit l x)

end Sys2Proof.Machine
end

