-- ==== Sys2Proof/Machine/Dispatch.lean ====
section
/-! DEFINITION. One arm per command: the meaning that it calls. -/

namespace Sys2Proof.Machine

open Sys2Proof

/-- The effect of a command on everything but the queue. -/
def exec (i : Instr) (s : State) : Host.Outcome State Fault Refusal :=
  match i with
  | .laneStart l f => Sys2Proof.Machine.execLaneStart l f s
  | .capabilityExchangeTimeout l => Sys2Proof.Machine.execCapabilityExchangeTimeout l s
  | .roleWaitExpiry l => Sys2Proof.Machine.execRoleWaitExpiry l s
  | .contestReassert l => Sys2Proof.Machine.execContestReassert l s
  | .driveNotGranted l => Sys2Proof.Machine.execDriveNotGranted l s
  | .bootWindowTimeout l => Sys2Proof.Machine.execBootWindowTimeout l s
  | .lubberPeerSilence l => Sys2Proof.Machine.execLubberPeerSilence l s
  | .lubberRelease l => Sys2Proof.Machine.execLubberRelease l s
  | .laneFailRestart l => Sys2Proof.Machine.execLaneFailRestart l s
  | .tickStart l x => Sys2Proof.Machine.execTickStart l x s
  | .allocNotConverged l => Sys2Proof.Machine.execAllocNotConverged l s
  | .allocNcEvt l => Sys2Proof.Machine.execAllocNcEvt l s
  | .limitHoldExpiry l n => Sys2Proof.Machine.execLimitHoldExpiry l n s
  | .channelReady l n => Sys2Proof.Machine.execChannelReady l n s
  | .channelNotReady l n => Sys2Proof.Machine.execChannelNotReady l n s
  | .followFault l n => Sys2Proof.Machine.execFollowFault l n s
  | .fbGraceExpiry l n => Sys2Proof.Machine.execFbGraceExpiry l n s
  | .leverStale l n => Sys2Proof.Machine.execLeverStale l n s
  | .pmStale l b => Sys2Proof.Machine.execPmStale l b s
  | .loadReduction l b => Sys2Proof.Machine.execLoadReduction l b s
  | .commitPoint l x => Sys2Proof.Machine.execCommitPoint l x s
  | .chanMigrated l => Sys2Proof.Machine.execChanMigrated l s
  | .migrationComplete l => Sys2Proof.Machine.execMigrationComplete l s
  | .engineStop l n => Sys2Proof.Machine.execEngineStop l n s
  | .mirrorFrameReceived l x0 x1 => Sys2Proof.Machine.execMirrorFrameReceived l x0 x1 s
  | .healthWordReceived l x0 x1 skew => Sys2Proof.Machine.execHealthWordReceived l x0 x1 skew s
  | .healthWordTimeout l => Sys2Proof.Machine.execHealthWordTimeout l s
  | .xlinkLost l => Sys2Proof.Machine.execXlinkLost l s
  | .lockstepMismatch l safe => Sys2Proof.Machine.execLockstepMismatch l safe s
  | .eccCorr l mem => Sys2Proof.Machine.execEccCorr l mem s
  | .eccUncorr l r word => Sys2Proof.Machine.execEccUncorr l r word s
  | .memoryScrub l mem words corr => Sys2Proof.Machine.execMemoryScrub l mem words corr s
  | .snapshotWrite l => Sys2Proof.Machine.execSnapshotWrite l s
  | .driveAssert l => Sys2Proof.Machine.execDriveAssert l s
  | .driveRelease l => Sys2Proof.Machine.execDriveRelease l s
  | .grantResolve => Sys2Proof.Machine.execGrantResolve s
  | .deadTimeEnd => Sys2Proof.Machine.execDeadTimeEnd s
  | .claim l => Sys2Proof.Machine.execClaim l s
  | .claimInhibitEnd l => Sys2Proof.Machine.execClaimInhibitEnd l s
  | .commitWatchdogExpiry l => Sys2Proof.Machine.execCommitWatchdogExpiry l s
  | .takeover l gap => Sys2Proof.Machine.execTakeover l gap s
  | .plannedHandover l => Sys2Proof.Machine.execPlannedHandover l s
  | .coldTakeover l => Sys2Proof.Machine.execColdTakeover l s
  | .takeBackRequest l => Sys2Proof.Machine.execTakeBackRequest l s
  | .holdoffReset l => Sys2Proof.Machine.execHoldoffReset l s
  | .suspensionEnd l => Sys2Proof.Machine.execSuspensionEnd l s
  | .laneDisagree l => Sys2Proof.Machine.execLaneDisagree l s
  | .gridSkew l => Sys2Proof.Machine.execGridSkew l s
  | .resyncStageEnd l => Sys2Proof.Machine.execResyncStageEnd l s
  | .modeReq l mode tag => Sys2Proof.Machine.execModeReq l mode tag s
  | .drExpired l => Sys2Proof.Machine.execDrExpired l s
  | .schedWriteSubmit l tag => Sys2Proof.Machine.execSchedWriteSubmit l tag s
  | .schedModeSubmit l tag => Sys2Proof.Machine.execSchedModeSubmit l tag s
  | .schedFlush l => Sys2Proof.Machine.execSchedFlush l s
  | .schedActionDue l => Sys2Proof.Machine.execSchedActionDue l s
  | .tickRenumber l => Sys2Proof.Machine.execTickRenumber l s
  | .sentenceReceived l src a => Sys2Proof.Machine.execSentenceReceived l src a s
  | .binaryFrameReceived l src a => Sys2Proof.Machine.execBinaryFrameReceived l src a s
  | .l450Datagram l d => Sys2Proof.Machine.execL450Datagram l d s
  | .refAdmitted l n => Sys2Proof.Machine.execRefAdmitted l n s
  | .refRejected l n => Sys2Proof.Machine.execRefRejected l n s
  | .slotTimeout l n => Sys2Proof.Machine.execSlotTimeout l n s
  | .qualityExpiry l n => Sys2Proof.Machine.execQualityExpiry l n s
  | .timeModelUpdate l => Sys2Proof.Machine.execTimeModelUpdate l s
  | .learningEnd l n => Sys2Proof.Machine.execLearningEnd l n s
  | .timeDegraded l n => Sys2Proof.Machine.execTimeDegraded l n s
  | .timeRestored l n => Sys2Proof.Machine.execTimeRestored l n s
  | .refDisagree l heading => Sys2Proof.Machine.execRefDisagree l heading s
  | .weightRampStep l n => Sys2Proof.Machine.execWeightRampStep l n s
  | .intDeselectWrite l mask => Sys2Proof.Machine.execIntDeselectWrite l mask s
  | .clearCounts l n => Sys2Proof.Machine.execClearCounts l n s
  | .restartTimeModel l n => Sys2Proof.Machine.execRestartTimeModel l n s
  | .reAnchor l n => Sys2Proof.Machine.execReAnchor l n s
  | .envValid l => Sys2Proof.Machine.execEnvValid l s
  | .rerunAdopt l => Sys2Proof.Machine.execRerunAdopt l s
  | .reinit l => Sys2Proof.Machine.execReinit l s
  | .tgtSelWrite l v => Sys2Proof.Machine.execTgtSelWrite l v s
  | .tgtCoasting l k => Sys2Proof.Machine.execTgtCoasting l k s
  | .tgtLost l k => Sys2Proof.Machine.execTgtLost l k s
  | .setPos l tag dir => Sys2Proof.Machine.execSetPos l tag dir s
  | .setHdg l tag dir => Sys2Proof.Machine.execSetHdg l tag dir s
  | .setPosHdg l tag dir => Sys2Proof.Machine.execSetPosHdg l tag dir s
  | .capture l tag dir => Sys2Proof.Machine.execCapture l tag dir s
  | .setSpeed l tag dir => Sys2Proof.Machine.execSetSpeed l tag dir s
  | .setLeg l tag dir => Sys2Proof.Machine.execSetLeg l tag dir s
  | .setCourse l tag dir => Sys2Proof.Machine.execSetCourse l tag dir s
  | .setFtOfs l tag dir => Sys2Proof.Machine.execSetFtOfs l tag dir s
  | .stopRamp l tag dir => Sys2Proof.Machine.execStopRamp l tag dir s
  | .ctrlJoyWrite l x y n => Sys2Proof.Machine.execCtrlJoyWrite l x y n s
  | .joyStale l => Sys2Proof.Machine.execJoyStale l s
  | .ctrlBlendDone l => Sys2Proof.Machine.execCtrlBlendDone l s
  | .ctrlRebase l heading => Sys2Proof.Machine.execCtrlRebase l heading s
  | .online l n tag => Sys2Proof.Machine.execOnline l n tag s
  | .offline l n tag => Sys2Proof.Machine.execOffline l n tag s
  | .reset l n tag => Sys2Proof.Machine.execReset l n tag s
  | .epochStrobe l e => Sys2Proof.Machine.execEpochStrobe l e s
  | .epochSolution l e => Sys2Proof.Machine.execEpochSolution l e s
  | .epochSkipped l => Sys2Proof.Machine.execEpochSkipped l s
  | .acquisitionPass l r => Sys2Proof.Machine.execAcquisitionPass l r s
  | .pullInTimeout l c => Sys2Proof.Machine.execPullInTimeout l c s
  | .channelLockChange l c => Sys2Proof.Machine.execChannelLockChange l c s
  | .trackingLost l c => Sys2Proof.Machine.execTrackingLost l c s
  | .reacquisitionExpiry l x => Sys2Proof.Machine.execReacquisitionExpiry l x s
  | .lowerBandRetry l x => Sys2Proof.Machine.execLowerBandRetry l x s
  | .sidePeakCorrection l c ups => Sys2Proof.Machine.execSidePeakCorrection l c ups s
  | .attFixed l => Sys2Proof.Machine.execAttFixed l s
  | .baselineFault l => Sys2Proof.Machine.execBaselineFault l s
  | .sextantDataReceived l => Sys2Proof.Machine.execSextantDataReceived l s
  | .antBiasFault l k cur limited => Sys2Proof.Machine.execAntBiasFault l k cur limited s
  | .agcLimit l k upper lower still => Sys2Proof.Machine.execAgcLimit l k upper lower still s
  | .antNoSignal l k => Sys2Proof.Machine.execAntNoSignal l k s
  | .restartAcq l tag => Sys2Proof.Machine.execRestartAcq l tag s
  | .coldRestart l tag => Sys2Proof.Machine.execColdRestart l tag s
  | .refixAtt l tag => Sys2Proof.Machine.execRefixAtt l tag s
  | .sxExclWrite l g mask => Sys2Proof.Machine.execSxExclWrite l g mask s
  | .antDelayChanged l k => Sys2Proof.Machine.execAntDelayChanged l k s
  | .coarseSample l n v overload => Sys2Proof.Machine.execCoarseSample l n v overload s
  | .fineOutput l n x tf ofs taken => Sys2Proof.Machine.execFineOutput l n x tf ofs taken s
  | .aiFault l n => Sys2Proof.Machine.execAiFault l n s
  | .aiFaultClear l n => Sys2Proof.Machine.execAiFaultClear l n s
  | .aiStep l n => Sys2Proof.Machine.execAiStep l n s
  | .aiLaneDiff l n => Sys2Proof.Machine.execAiLaneDiff l n s
  | .aiCfgWrite l n v => Sys2Proof.Machine.execAiCfgWrite l n v s
  | .aiFreezeWrite l v => Sys2Proof.Machine.execAiFreezeWrite l v s
  | .aiRestart l v => Sys2Proof.Machine.execAiRestart l v s
  | .aoHostWrite l m v => Sys2Proof.Machine.execAoHostWrite l m v s
  | .aoFault l m => Sys2Proof.Machine.execAoFault l m s
  | .openWireTest n failA failB => Sys2Proof.Machine.execOpenWireTest n failA failB s
  | .aiTerminalFinding l n f on => Sys2Proof.Machine.execAiTerminalFinding l n f on s
  | .snap l => Sys2Proof.Machine.execSnap l s
  | .offsetReceived l o t => Sys2Proof.Machine.execOffsetReceived l o t s
  | .sourceLoss l k => Sys2Proof.Machine.execSourceLoss l k s
  | .sourceRevert l k => Sys2Proof.Machine.execSourceRevert l k s
  | .timeStep l => Sys2Proof.Machine.execTimeStep l s
  | .holdLimit l => Sys2Proof.Machine.execHoldLimit l s
  | .leapSecond l => Sys2Proof.Machine.execLeapSecond l s
  | .setTime l tag => Sys2Proof.Machine.execSetTime l tag s
  | .setTimeSlewEnd l => Sys2Proof.Machine.execSetTimeSlewEnd l s
  | .chrSrcDisWrite l mask => Sys2Proof.Machine.execChrSrcDisWrite l mask s
  | .ppsCfgWrite l p delay v => Sys2Proof.Machine.execPpsCfgWrite l p delay v s
  | .ptpAsymWrite l q v => Sys2Proof.Machine.execPtpAsymWrite l q v s
  | .ptpMessageReceived l d port m => Sys2Proof.Machine.execPtpMessageReceived l d port m s
  | .announceTimeout l d port => Sys2Proof.Machine.execAnnounceTimeout l d port s
  | .ptpMessageTx l d m => Sys2Proof.Machine.execPtpMessageTx l d m s
  | .ppsEdge l p => Sys2Proof.Machine.execPpsEdge l p s
  | .canFrameReceived l p f => Sys2Proof.Machine.execCanFrameReceived l p f s
  | .canSlotTrigger l p k => Sys2Proof.Machine.execCanSlotTrigger l p k s
  | .canColumnEnd l p => Sys2Proof.Machine.execCanColumnEnd l p s
  | .canTxComplete l p n ok tdcv => Sys2Proof.Machine.execCanTxComplete l p n ok tdcv s
  | .canArbitrationLost l p n => Sys2Proof.Machine.execCanArbitrationLost l p n s
  | .canError l p e tx inc => Sys2Proof.Machine.execCanError l p e tx inc s
  | .busOn l p ms => Sys2Proof.Machine.execBusOn l p ms s
  | .canIntegrationDone l p => Sys2Proof.Machine.execCanIntegrationDone l p s
  | .commit l p tag => Sys2Proof.Machine.execCommit l p tag s
  | .send l p tag => Sys2Proof.Machine.execSend l p tag s
  | .cancel l p tag begun => Sys2Proof.Machine.execCancel l p tag begun s
  | .serialCharReceived l n ch framing => Sys2Proof.Machine.execSerialCharReceived l n ch framing s
  | .serLine l n brk => Sys2Proof.Machine.execSerLine l n brk s
  | .serialEntryDue l n e => Sys2Proof.Machine.execSerialEntryDue l n e s
  | .serialSentenceSent l n => Sys2Proof.Machine.execSerialSentenceSent l n s
  | .ethFrameReceived l net k => Sys2Proof.Machine.execEthFrameReceived l net k s
  | .ethLinkChange l net up speed => Sys2Proof.Machine.execEthLinkChange l net up speed s
  | .rapRequest l net src b => Sys2Proof.Machine.execRapRequest l net src b s
  | .read l client seq count addr => Sys2Proof.Machine.execRead l client seq count addr s
  | .write l client seq addr data => Sys2Proof.Machine.execWrite l client seq addr data s
  | .laneRestart l client seq force => Sys2Proof.Machine.execLaneRestart l client seq force s
  | .safetyChallenge l client seq => Sys2Proof.Machine.execSafetyChallenge l client seq s
  | .safetyOpen l client seq hmac => Sys2Proof.Machine.execSafetyOpen l client seq hmac s
  | .lockoutEnd l => Sys2Proof.Machine.execLockoutEnd l s
  | .safetyClose l client seq => Sys2Proof.Machine.execSafetyClose l client seq s
  | .sessionIdleEnd l => Sys2Proof.Machine.execSessionIdleEnd l s
  | .nonceExpiry l client => Sys2Proof.Machine.execNonceExpiry l client s
  | .clientEntryExpiry l client => Sys2Proof.Machine.execClientEntryExpiry l client s
  | .chartBegin l client seq sect total digest => Sys2Proof.Machine.execChartBegin l client seq sect total digest s
  | .chartData l client seq ofs b => Sys2Proof.Machine.execChartData l client seq ofs b s
  | .chartEnd l client seq => Sys2Proof.Machine.execChartEnd l client seq s
  | .chartTransferAbandon l => Sys2Proof.Machine.execChartTransferAbandon l s
  | .chartCheckDone l c => Sys2Proof.Machine.execChartCheckDone l c s
  | .chartCurrent l => Sys2Proof.Machine.execChartCurrent l s
  | .serSend l client seq port text => Sys2Proof.Machine.execSerSend l client seq port text s
  | .switchover l tag => Sys2Proof.Machine.execSwitchover l tag s
  | .suspendTb l tag => Sys2Proof.Machine.execSuspendTb l tag s
  | .resumeTb l tag => Sys2Proof.Machine.execResumeTb l tag s
  | .resync l tag => Sys2Proof.Machine.execResync l tag s
  | .fwBegin l tag => Sys2Proof.Machine.execFwBegin l tag s
  | .redFwDataWrite l w v => Sys2Proof.Machine.execRedFwDataWrite l w v s
  | .fwCheck l tag => Sys2Proof.Machine.execFwCheck l tag s
  | .fwActivate l tag => Sys2Proof.Machine.execFwActivate l tag s
  | .safetyInputChange l c high => Sys2Proof.Machine.execSafetyInputChange l c high s
  | .binnacleInputChange c high => Sys2Proof.Machine.execBinnacleInputChange c high s
  | .discLatched l n => Sys2Proof.Machine.execDiscLatched l n s
  | .binnacleDiscLatch n => Sys2Proof.Machine.execBinnacleDiscLatch n s
  | .runDelayExpiry d k => Sys2Proof.Machine.execRunDelayExpiry d k s
  | .feedbackReleasedExpiry d k => Sys2Proof.Machine.execFeedbackReleasedExpiry d k s
  | .resetRelease d n inLimits => Sys2Proof.Machine.execResetRelease d n inLimits s
  | .fbFault d k => Sys2Proof.Machine.execFbFault d k s
  | .testPulseStart l k w => Sys2Proof.Machine.execTestPulseStart l k w s
  | .testPulseEnd l k high => Sys2Proof.Machine.execTestPulseEnd l k high s
  | .binnacleSwitchCheck k high => Sys2Proof.Machine.execBinnacleSwitchCheck k high s
  | .testAsStop k => Sys2Proof.Machine.execTestAsStop k s
  | .binnacleWrite l => Sys2Proof.Machine.execBinnacleWrite l s
  | .binnacleWriteEnd taken => Sys2Proof.Machine.execBinnacleWriteEnd taken s
  | .checkWordCompare l => Sys2Proof.Machine.execCheckWordCompare l s
  | .safetyDiffExpiry l => Sys2Proof.Machine.execSafetyDiffExpiry l s
  | .sfTpWrite l client v => Sys2Proof.Machine.execSfTpWrite l client v s
  | .soOverloadOff k => Sys2Proof.Machine.execSoOverloadOff k s
  | .soOverloadRetry k => Sys2Proof.Machine.execSoOverloadRetry k s
  | .sourcePulseTest c high => Sys2Proof.Machine.execSourcePulseTest c high s
  | .recordPost l kind sev code payload => Sys2Proof.Machine.execRecordPost l kind sev code payload s
  | .logDrain l verifyFail => Sys2Proof.Machine.execLogDrain l verifyFail s
  | .crossRecordReceived l => Sys2Proof.Machine.execCrossRecordReceived l s
  | .crossCopyResend l => Sys2Proof.Machine.execCrossCopyResend l s
  | .drainStuck l => Sys2Proof.Machine.execDrainStuck l s
  | .logScanDone l controlOk => Sys2Proof.Machine.execLogScanDone l controlOk s
  | .logRdSelect l seq ofs => Sys2Proof.Machine.execLogRdSelect l seq ofs s
  | .hostNote l tag sev words => Sys2Proof.Machine.execHostNote l tag sev words s
  | .logLevelWrite l v => Sys2Proof.Machine.execLogLevelWrite l v s
  | .refQualified l r us => Sys2Proof.Machine.execRefQualified l r us s
  | .refLost l r cause det => Sys2Proof.Machine.execRefLost l r cause det s
  | .stopWindowEnd l => Sys2Proof.Machine.execStopWindowEnd l s
  | .refRevert l => Sys2Proof.Machine.execRefRevert l s
  | .switchRef l tag => Sys2Proof.Machine.execSwitchRef l tag s
  | .clkGateForced l block => Sys2Proof.Machine.execClkGateForced l block s
  | .refRelAvailable l ppb => Sys2Proof.Machine.execRefRelAvailable l ppb s
  | .supplyFault l n x => Sys2Proof.Machine.execSupplyFault l n x s
  | .supplyReturn l n => Sys2Proof.Machine.execSupplyReturn l n s
  | .thermalSample l dt r => Sys2Proof.Machine.execThermalSample l dt r s
  | .thresholdCrossing l x => Sys2Proof.Machine.execThresholdCrossing l x s
  | .graceExpiry l => Sys2Proof.Machine.execGraceExpiry l s
  | .sensorFault l k => Sys2Proof.Machine.execSensorFault l k s
  | .substitutionZone l k => Sys2Proof.Machine.execSubstitutionZone l k s
  | .sensorRecovered l k => Sys2Proof.Machine.execSensorRecovered l k s
  | .thermRetireWrite l mask => Sys2Proof.Machine.execThermRetireWrite l mask s
  | .cntClr l p => Sys2Proof.Machine.execCntClr l p s
  | .absentWrite l addr => Sys2Proof.Machine.execAbsentWrite l addr s
  | .absentClear l => Sys2Proof.Machine.execAbsentClear l s
  | .evtPendClear l p mask => Sys2Proof.Machine.execEvtPendClear l p mask s
  | .evtEnWrite l p v => Sys2Proof.Machine.execEvtEnWrite l p v s
  | .evcClear l all e => Sys2Proof.Machine.execEvcClear l all e s
  | .reservedWrite l addr v => Sys2Proof.Machine.execReservedWrite l addr v s
  | .registerWrite l client addr v => Sys2Proof.Machine.execRegisterWrite l client addr v s
  | .navigationMessageDecoded l c m => Sys2Proof.Machine.execNavigationMessageDecoded l c m s
  | .codeLock l c => Sys2Proof.Machine.execCodeLock l c s
  | .refQualifying l r det count => Sys2Proof.Machine.execRefQualifying l r det count s
  | .cfgBad => Sys2Proof.Machine.execCfgBad s
  | .lubberReassert l => Sys2Proof.Machine.execLubberReassert l s
  | .holdStageExpiry => Sys2Proof.Machine.execHoldStageExpiry s

end Sys2Proof.Machine
end

