-- ==== Sys2Proof/Safety.lean ====
section
/-! DEFINITION. The terms the statements are made in: what a command answers, what a lane keeps, when the interlock is sound. -/

namespace Sys2Proof.Machine

open Sys2Proof

/-- The command answers a next state of which `P` holds. -/
def Answers (i : Instr) (s : State) (P : State → Prop) : Prop := ∃ t, exec i s = .next t ∧ P t

/-- The command answers a next state in which nothing differs but lane `l`, and of that lane before and after `P` holds: the
other lane, the shared section and the queue are as they were. -/
def OnLane (i : Instr) (l : LaneId) (s : State) (P : Lane → Lane → Prop) : Prop :=
  ∃ M, exec i s = .next (s.setLane l M) ∧ P (s.lane l) M

/-- The command answers the very state it found. -/
def Idle (i : Instr) (s : State) : Prop := exec i s = .next s

/-- An event as a lane records it now (18 R612). -/
def Lane.ev (L : Lane) (page bit : Nat) : Found := ⟨page, bit, L.now⟩

/-- Two fields have no bit in common. -/
abbrev Fld.apart (f g : Fld) : Prop := f.addr ≠ g.addr ∨ f.lo + f.w ≤ g.lo ∨ g.lo + g.w ≤ f.lo

/-- Every bit of every register keeps its value but those of the fields listed: any field of one bit or more that shares no bit
with a listed one reads as before. -/
def Lane.keepsBut (L M : Lane) (fs : List Fld) : Prop :=
  ∀ g : Fld, g.lo + g.w ≤ 32 → (∀ f ∈ fs, g.apart f) → M.get g = L.get g

/-- Nothing of the lane differs but its registers and the events it has found. -/
def Lane.onlyRegs (L M : Lane) : Prop := { M with regs := L.regs, found := L.found } = L

/-- Frame of a command that writes only the fields `fs`, records only the events `es`, and changes nothing else. -/
def Lane.framed (L M : Lane) (fs : List Fld) (es : List (Nat × Nat)) : Prop :=
  L.keepsBut M fs ∧ M.found = L.found ++ es.map (fun e => L.ev e.1 e.2) ∧ L.onlyRegs M

/-- Same, for a command that also changes one record of the lane: `g` puts that record back. -/
def Lane.framedUpTo (L M : Lane) (fs : List Fld) (es : List (Nat × Nat)) (back : Lane → Lane) : Prop :=
  L.keepsBut M fs ∧ M.found = L.found ++ es.map (fun e => L.ev e.1 e.2) ∧ L.onlyRegs (back M)

/-- A write to an absent page or unit is counted, its address kept, ABSENT_WRITE raised; nothing else (00 R8, R11). -/
def Lane.countsAbsent (L M : Lane) (a : Nat) : Prop :=
  M.get Reg.MOD_ABSENT_CNT = min (L.get Reg.MOD_ABSENT_CNT + 1) 65535 ∧ M.get Reg.MOD_ABSENT_ADDR_w = a ∧
  L.framed M [Reg.MOD_ABSENT_CNT, Reg.MOD_ABSENT_ADDR_w] [(0x00, 0)]

/-- One bit of a mask field takes a value, the field's other bits keep theirs. -/
def Lane.bitTo (L M : Lane) (f : Fld) (n : Nat) (v : Bool) : Prop := M.bit f n = v ∧ ∀ k, k ≠ n → M.bit f k = L.bit f k

/-- The interlock is sound: a lane that holds the grant or waits in its resolution window asserts DRIVE on a request that is not
spent, and in a dead time the releaser's own request, if it asserts DRIVE, is spent (01 R30, R624, R625). -/
def LockInv (k : InterlockSt) : Prop :=
  (∀ l, k.grant = .held l → k.drive l = true ∧ k.spent l = false) ∧
  (∀ l, k.grant = .window l → k.drive l = true ∧ k.spent l = false) ∧
  (∀ l, k.grant = .deadTime l → k.drive l = true → k.spent l = true)

/-- What a change of a channel's state shows (06 R224, R225, R258): its code, its cause, ONLINE in both pages, one STATE event; the
THRUSTERS condition evaluated anew but in LUBBER, with THRUSTERS_LOW where it falls. A standby's condition is the mirrored one (12
R449). -/
def Lane.showsState (L M : Lane) (n : Nat) (st : ChState) (cause : Nat) (more : List (Nat × Nat)) : Prop :=
  M.get (Reg.CH_STATE_STATE n) = st.code ∧ M.get (Reg.CH_STATE_CAUSE n) = cause ∧
  M.get (Reg.CH_STAT_ONLINE n) = (if st = .online then 1 else 0) ∧
  L.bitTo M Reg.ALLOC_AVAIL_ONLINE n (decide (st = .online)) ∧
  M.alc.thrusters = (if L.mode = 2 then L.alc.thrusters
    else decide (L.ac.minThrusters ≤ (M.chList.filter fun k => decide ((M.ch k).st = .online)).length)) ∧
  (if L.mode = 2 ∨ L.role = 3 ∨ L.role = 4 then
    M.get Reg.ALLOC_STAT_THRUSTERS = L.get Reg.ALLOC_STAT_THRUSTERS ∧ M.get Reg.MODE_COND_COND = L.get Reg.MODE_COND_COND
  else M.get Reg.ALLOC_STAT_THRUSTERS = (if M.alc.thrusters then 1 else 0) ∧ L.bitTo M Reg.MODE_COND_COND 4 M.alc.thrusters) ∧
  M.found = L.found ++ L.ev (0x20 + n) 0 :: (more.map fun e => L.ev e.1 e.2) ++
    (if L.alc.thrusters && !M.alc.thrusters then [L.ev 0x11 5] else []) ∧
  L.onlyRegs ((M.onAlc fun _ => L.alc).onFound fun _ => L.found)

/-- Registers that a change of a channel's state writes (06 R224, R225, R255). -/
def stateFlds (n : Nat) : List Fld :=
  [Reg.CH_STATE_STATE n, Reg.CH_STATE_CAUSE n, Reg.CH_STAT_ONLINE n, Reg.ALLOC_AVAIL_ONLINE, Reg.ALLOC_STAT_THRUSTERS, Reg.MODE_COND_COND]

/-- Fields that posting a record may change (14 R526-R528, R534): counts of the Logbook's page. -/
def postFlds : List Fld :=
  [Reg.LOG_QUEUE_PEAK, Reg.LOG_DROP_FULL, Reg.LOG_DROP_QUEUE, Reg.LOG_DROP_THROTTLE, Reg.LOG_DROP_RATE, Reg.LOG_OVERWRITE_COUNT,
    Reg.LOG_CNT_CROSS_TX, Reg.LOG_CNT_CROSS_LOST]

/-- Events of other pages than the Logbook's. -/
def offLog (l : List Found) : List Found := l.filter fun e => decide (e.page ≠ 0x5C)

/-- Frame of a command that posts a record: as `framedUpTo`, but for the Logbook, its counts and its events. -/
def Lane.framedPost (L M : Lane) (fs : List Fld) (es : List (Nat × Nat)) (back : Lane → Lane) : Prop :=
  L.keepsBut M (fs ++ postFlds) ∧ offLog M.found = offLog L.found ++ es.map (fun e => L.ev e.1 e.2) ∧
  L.onlyRegs (back (M.onLog fun _ => L.log))

/-- The one lane a command reaches; `none` for a command that may also reach the other lane, the interlock, the Binnacle or the
output stages. -/
def soleLane : Instr → Option LaneId
  | .laneFailRestart l => some l
  | .allocNotConverged l => some l
  | .allocNcEvt l => some l
  | .limitHoldExpiry l _ => some l
  | .channelReady l _ => some l
  | .channelNotReady l _ => some l
  | .followFault l _ => some l
  | .fbGraceExpiry l _ => some l
  | .leverStale l _ => some l
  | .pmStale l _ => some l
  | .loadReduction l _ => some l
  | .chanMigrated l => some l
  | .migrationComplete l => some l
  | .engineStop l _ => some l
  | .healthWordTimeout l => some l
  | .xlinkLost l => some l
  | .lockstepMismatch l _ => some l
  | .eccCorr l _ => some l
  | .eccUncorr l _ _ => some l
  | .memoryScrub l _ _ _ => some l
  | .snapshotWrite l => some l
  | .takeBackRequest l => some l
  | .holdoffReset l => some l
  | .suspensionEnd l => some l
  | .laneDisagree l => some l
  | .gridSkew l => some l
  | .modeReq l _ _ => some l
  | .drExpired l => some l
  | .schedWriteSubmit l _ => some l
  | .schedModeSubmit l _ => some l
  | .schedFlush l => some l
  | .schedActionDue l => some l
  | .tickRenumber l => some l
  | .sentenceReceived l _ _ => some l
  | .binaryFrameReceived l _ _ => some l
  | .l450Datagram l _ => some l
  | .refAdmitted l _ => some l
  | .refRejected l _ => some l
  | .slotTimeout l _ => some l
  | .qualityExpiry l _ => some l
  | .timeModelUpdate l => some l
  | .learningEnd l _ => some l
  | .timeDegraded l _ => some l
  | .timeRestored l _ => some l
  | .refDisagree l _ => some l
  | .weightRampStep l _ => some l
  | .intDeselectWrite l _ => some l
  | .clearCounts l _ => some l
  | .restartTimeModel l _ => some l
  | .reAnchor l _ => some l
  | .envValid l => some l
  | .rerunAdopt l => some l
  | .reinit l => some l
  | .tgtSelWrite l _ => some l
  | .tgtCoasting l _ => some l
  | .tgtLost l _ => some l
  | .setPos l _ _ => some l
  | .setHdg l _ _ => some l
  | .setPosHdg l _ _ => some l
  | .capture l _ _ => some l
  | .setSpeed l _ _ => some l
  | .setLeg l _ _ => some l
  | .setCourse l _ _ => some l
  | .setFtOfs l _ _ => some l
  | .stopRamp l _ _ => some l
  | .ctrlJoyWrite l _ _ _ => some l
  | .joyStale l => some l
  | .ctrlBlendDone l => some l
  | .ctrlRebase l _ => some l
  | .online l _ _ => some l
  | .offline l _ _ => some l
  | .reset l _ _ => some l
  | .epochStrobe l _ => some l
  | .epochSolution l _ => some l
  | .epochSkipped l => some l
  | .acquisitionPass l _ => some l
  | .pullInTimeout l _ => some l
  | .channelLockChange l _ => some l
  | .trackingLost l _ => some l
  | .reacquisitionExpiry l _ => some l
  | .lowerBandRetry l _ => some l
  | .sidePeakCorrection l _ _ => some l
  | .attFixed l => some l
  | .baselineFault l => some l
  | .agcLimit l _ _ _ _ => some l
  | .antNoSignal l _ => some l
  | .restartAcq l _ => some l
  | .coldRestart l _ => some l
  | .refixAtt l _ => some l
  | .sxExclWrite l _ _ => some l
  | .antDelayChanged l _ => some l
  | .coarseSample l _ _ _ => some l
  | .fineOutput l _ _ _ _ _ => some l
  | .aiFault l _ => some l
  | .aiFaultClear l _ => some l
  | .aiStep l _ => some l
  | .aiLaneDiff l _ => some l
  | .aiCfgWrite l _ _ => some l
  | .aiFreezeWrite l _ => some l
  | .aiRestart l _ => some l
  | .aoHostWrite l _ _ => some l
  | .aoFault l _ => some l
  | .aiTerminalFinding l _ _ _ => some l
  | .snap l => some l
  | .offsetReceived l _ _ => some l
  | .sourceLoss l _ => some l
  | .sourceRevert l _ => some l
  | .timeStep l => some l
  | .holdLimit l => some l
  | .leapSecond l => some l
  | .setTime l _ => some l
  | .setTimeSlewEnd l => some l
  | .chrSrcDisWrite l _ => some l
  | .ppsCfgWrite l _ _ _ => some l
  | .ptpAsymWrite l _ _ => some l
  | .ptpMessageReceived l _ _ _ => some l
  | .announceTimeout l _ _ => some l
  | .ptpMessageTx l _ _ => some l
  | .ppsEdge l _ => some l
  | .canFrameReceived l _ _ => some l
  | .canSlotTrigger l _ _ => some l
  | .canColumnEnd l _ => some l
  | .canTxComplete l _ _ _ _ => some l
  | .canArbitrationLost l _ _ => some l
  | .canError l _ _ _ _ => some l
  | .busOn l _ _ => some l
  | .canIntegrationDone l _ => some l
  | .commit l _ _ => some l
  | .send l _ _ => some l
  | .cancel l _ _ _ => some l
  | .serialCharReceived l _ _ _ => some l
  | .serLine l _ _ => some l
  | .serialEntryDue l _ _ => some l
  | .serialSentenceSent l _ => some l
  | .ethFrameReceived l _ _ => some l
  | .ethLinkChange l _ _ _ => some l
  | .rapRequest l _ _ _ => some l
  | .read l _ _ _ _ => some l
  | .write l _ _ _ _ => some l
  | .laneRestart l _ _ _ => some l
  | .safetyChallenge l _ _ => some l
  | .safetyOpen l _ _ _ => some l
  | .lockoutEnd l => some l
  | .safetyClose l _ _ => some l
  | .sessionIdleEnd l => some l
  | .nonceExpiry l _ => some l
  | .clientEntryExpiry l _ => some l
  | .chartBegin l _ _ _ _ _ => some l
  | .chartData l _ _ _ _ => some l
  | .chartEnd l _ _ => some l
  | .chartTransferAbandon l => some l
  | .serSend l _ _ _ _ => some l
  | .switchover l _ => some l
  | .suspendTb l _ => some l
  | .resumeTb l _ => some l
  | .resync l _ => some l
  | .fwBegin l _ => some l
  | .redFwDataWrite l _ _ => some l
  | .fwCheck l _ => some l
  | .fwActivate l _ => some l
  | .safetyInputChange l _ _ => some l
  | .discLatched l _ => some l
  | .checkWordCompare l => some l
  | .safetyDiffExpiry l => some l
  | .sfTpWrite l _ _ => some l
  | .recordPost l _ _ _ _ => some l
  | .logDrain l _ => some l
  | .crossCopyResend l => some l
  | .drainStuck l => some l
  | .logScanDone l _ => some l
  | .logRdSelect l _ _ => some l
  | .hostNote l _ _ _ => some l
  | .logLevelWrite l _ => some l
  | .refQualified l _ _ => some l
  | .refRevert l => some l
  | .switchRef l _ => some l
  | .clkGateForced l _ => some l
  | .refRelAvailable l _ => some l
  | .thermalSample l _ _ => some l
  | .thresholdCrossing l _ => some l
  | .graceExpiry l => some l
  | .sensorFault l _ => some l
  | .substitutionZone l _ => some l
  | .sensorRecovered l _ => some l
  | .thermRetireWrite l _ => some l
  | .cntClr l _ => some l
  | .absentWrite l _ => some l
  | .absentClear l => some l
  | .evtPendClear l _ _ => some l
  | .evtEnWrite l _ _ => some l
  | .evcClear l _ _ => some l
  | .reservedWrite l _ _ => some l
  | .registerWrite l _ _ _ => some l
  | .navigationMessageDecoded l _ _ => some l
  | .codeLock l _ => some l
  | .refQualifying l _ _ _ => some l
  | .laneStart _ _ | .capabilityExchangeTimeout _ | .roleWaitExpiry _ | .contestReassert _ | .driveNotGranted _
  | .bootWindowTimeout _ | .lubberPeerSilence _ | .lubberRelease _ | .tickStart _ _ | .commitPoint _ _
  | .mirrorFrameReceived _ _ _ | .healthWordReceived _ _ _ _ | .driveAssert _ | .driveRelease _ | .grantResolve | .deadTimeEnd
  | .claim _ | .claimInhibitEnd _ | .commitWatchdogExpiry _ | .takeover _ _ | .plannedHandover _ | .coldTakeover _
  | .resyncStageEnd _ | .sextantDataReceived _ | .antBiasFault _ _ _ _ | .openWireTest _ _ _ | .chartCheckDone _ _
  | .chartCurrent _ | .binnacleInputChange _ _ | .binnacleDiscLatch _ | .runDelayExpiry _ _ | .feedbackReleasedExpiry _ _
  | .resetRelease _ _ _ | .fbFault _ _ | .testPulseStart _ _ _ | .testPulseEnd _ _ _ | .binnacleSwitchCheck _ _ | .testAsStop _
  | .binnacleWrite _ | .binnacleWriteEnd _ | .soOverloadOff _ | .soOverloadRetry _ | .sourcePulseTest _ _
  | .crossRecordReceived _ | .refLost _ _ _ _ | .stopWindowEnd _ | .supplyFault _ _ _ | .supplyReturn _ _ | .cfgBad
  | .lubberReassert _ | .holdStageExpiry => none

end Sys2Proof.Machine
end

