-- ==== Sys2Proof/Certificates/Slice0/Obligations.lean ====
section
/-! DEFINITION. The statements for the provers. Each docstring names the rules a statement comes from; `OnLane`, `Answers` and the
frames are those of Sys2Proof/Safety.lean. -/

open Sys2Proof Sys2Proof.Machine

/-- Commands are carried out first in, first out: a step is the front command's effect on the state with the queue's rest; with an
empty queue the block idles (log entry 1, the model's choice). -/
def Obligations.CommandQueue : Prop :=
  ∀ s : State,
    (∀ c rest, s.pending = c :: rest → step s = exec c { s with pending := rest }) ∧
    (s.pending = [] → step s = .next s)

/-- Every command, well-formed or not, in every state, answers a next state, and leaves the queue as it is: the block has no fault
and refuses nothing. Where log entry 7 decides a detail of it, that detail is the model's choice, not the spec's. -/
def Obligations.EveryCommandAnswers : Prop :=
  ∀ (c : Instr) (s : State), ∃ t, exec c s = .next t ∧ t.pending = s.pending

/-- The two lanes share nothing but the shared section (01 R22, R23): a command of one lane's own engines, networks or pins changes that lane alone; the other lane, the
interlock, the Binnacle, the output stages and the queue are as they were. -/
def Obligations.LaneIsolation : Prop :=
  ∀ (c : Instr) (s : State) (l : LaneId), soleLane c = some l → OnLane c l s fun _ _ => True

/-- The block right after reset (01 R29, R624; 18 R620): both lanes are held in reset, no DRIVE is asserted and no lane holds the
grant, the interlock is sound, no command waits, and registers hold the values their tables give for reset. Where log entry 5
decides a detail of it, that detail is the model's choice, not the spec's. -/
def Obligations.ResetState : Prop :=
  LockInv State.reset.sh.lock ∧ State.reset.sh.lock.held = false ∧ State.reset.pending = [] ∧
  ∀ l, (State.reset.lane l).boot.phase = .reset ∧ State.reset.sh.lock.drive l = false ∧
    (∀ e ∈ [(Reg.MODE_CUR_MODE, 1), (Reg.MODE_CUR_PREV, 1), (Reg.SCHED_LIMIT_MS, 1000), (Reg.RAP_EPOCH_EPOCH, 1), (Reg.LOG_STAT_INDEXING, 1)],
      (State.reset.lane l).get e.1 = e.2)

/-- DRIVE asserted (01 R29, R30, R624, R625): on a free interlock the lane opens its resolution window; in the other lane's window
both requests are spent and both lanes see SELECT_CONTEST; while the other holds, or in its dead time, the request waits; in the
lane's own dead time it is spent. A line already asserted makes no new request. With the shared section unpowered the line stands
and nobody is granted (01 R26). Where log entry 36 decides a detail of it, that detail is the model's choice, not the spec's. -/
def Obligations.DriveRequests : Prop :=
  ∀ (s : State) (l : LaneId),
    (s.sharedPower = true → s.sh.lock.drive l = true → Idle (.driveAssert l) s) ∧
    (s.sharedPower = true → s.sh.lock.drive l = false →
      (s.sh.lock.grant = .free → Answers (.driveAssert l) s fun t =>
        t.sh.lock.grant = .window l ∧ t.sh.lock.drive l = true ∧ t.sh.lock.spent l = false ∧
        t.sh.lock.drive l.other = s.sh.lock.drive l.other ∧ t.a = s.a ∧ t.b = s.b ∧ t.sh.bin = s.sh.bin ∧ t.sh.so = s.sh.so) ∧
      (s.sh.lock.grant = .window l.other → Answers (.driveAssert l) s fun t =>
        t.sh.lock.grant = .free ∧ t.sh.lock.drive l = true ∧ t.sh.lock.spent .a = true ∧ t.sh.lock.spent .b = true ∧
        ∀ m, (s.lane m).framedUpTo (t.lane m) [] [(0x01, 7)] (fun N => N.onBoot fun _ => (s.lane m).boot) ∧ (t.lane m).boot.contest = true) ∧
      (s.sh.lock.grant = .held l.other ∨ s.sh.lock.grant = .deadTime l.other → Answers (.driveAssert l) s fun t =>
        t.sh.lock.grant = s.sh.lock.grant ∧ t.sh.lock.drive l = true ∧ t.sh.lock.spent l = false ∧ t.a = s.a ∧ t.b = s.b) ∧
      (s.sh.lock.grant = .deadTime l → Answers (.driveAssert l) s fun t =>
        t.sh.lock.grant = .deadTime l ∧ t.sh.lock.drive l = true ∧ t.sh.lock.spent l = true ∧ t.a = s.a ∧ t.b = s.b)) ∧
    (s.sharedPower = false → Answers (.driveAssert l) s fun t =>
      t.sh.lock.grant = .free ∧ t.sh.lock.holding = false ∧ t.sh.lock.drive l = true ∧ t.sh.lock.drive l.other = s.sh.lock.drive l.other)

/-- DRIVE released, and the interlock's own times (01 R30, R31, R624; 12 R452): a release by the holder begins the dead time with
the levels of its analogue outputs and gates held; at the end of the resolution window its lane is granted; at the end of the dead
time the other lane is granted if it asks with a request not spent, else nobody; without a holder the hold stages let go at their
expiry. With the shared section unpowered nobody is granted and nothing is held (01 R26). Where log entry 36 decides a detail of
it, that detail is the model's choice, not the spec's. -/
def Obligations.GrantMoves : Prop :=
  ∀ (s : State) (l : LaneId),
    (s.sharedPower = true →
      (s.sh.lock.grant = .held l → Answers (.driveRelease l) s fun t =>
        t.sh.lock.grant = .deadTime l ∧ t.sh.lock.drive l = false ∧ t.sh.lock.inhibit l = true ∧ t.sh.lock.holding = true ∧
        t.sh.lock.heldAo = (List.range 16).map (fun m => ((s.lane l).ao m).dac) ∧
        t.sh.lock.heldGates = (List.range 8).map (s.lane l).gateOut ∧
        t.sh.lock.drive l.other = s.sh.lock.drive l.other ∧ t.lane l.other = s.lane l.other) ∧
      (s.sh.lock.grant = .window l → Answers (.driveRelease l) s fun t =>
        t.sh.lock.grant = .free ∧ t.sh.lock.drive l = false ∧ t.a = s.a ∧ t.b = s.b) ∧
      (s.sh.lock.grant = .window l → s.sh.lock.drive l = true → Answers .grantResolve s fun t =>
        t.sh.lock.grant = .held l ∧ t.sh.lock.holding = false ∧ t.sh.lock.lastDriver = some l ∧ t.lane l.other = s.lane l.other) ∧
      (s.sh.lock.grant = .deadTime l → s.sh.lock.drive l.other = true → s.sh.lock.spent l.other = false → Answers .deadTimeEnd s fun t =>
        t.sh.lock.grant = .held l.other ∧ t.sh.lock.holding = false ∧ t.sh.lock.lastDriver = some l.other ∧ t.lane l = s.lane l) ∧
      (s.sh.lock.grant = .deadTime l → (s.sh.lock.drive l.other = false ∨ s.sh.lock.spent l.other = true) →
        exec .deadTimeEnd s = .next (s.onLock fun k => { k with grant := .free }))) ∧
    (s.sharedPower = false → ∀ i ∈ [.driveRelease l, .grantResolve, .deadTimeEnd], Answers i s fun t =>
      t.sh.lock.grant = .free ∧ t.sh.lock.holding = false) ∧
    (s.sh.lock.held = false → exec .holdStageExpiry s = .next (s.onLock fun k => { k with holding := false })) ∧
    (s.sh.lock.held = true → Idle .holdStageExpiry s)

/-- ARM, claims and the commit watchdog (12 R452, R453): with no holder an armed lane's claim circuit asserts DRIVE unless the
other lane asserts it or the lane's own release inhibits it; a lane that stops committing loses DRIVE only while the other lane
asserts ARM. The shared section is powered. Where log entry 36 decides a detail of it, that detail is the model's choice, not the
spec's. -/
def Obligations.ClaimAndWatchdog : Prop :=
  ∀ (s : State) (l : LaneId), s.sharedPower = true →
    (s.sh.lock.arm l = true → s.sh.lock.grant = .free → s.sh.lock.drive l = false → s.sh.lock.drive l.other = false →
      s.sh.lock.inhibit l = false → Answers (.claim l) s fun t =>
        t.sh.lock.grant = .window l ∧ t.sh.lock.drive l = true ∧ t.a = s.a ∧ t.b = s.b) ∧
    (s.sh.lock.arm l = false ∨ s.sh.lock.held = true ∨ s.sh.lock.drive l.other = true ∨ s.sh.lock.inhibit l = true → Idle (.claim l) s) ∧
    Answers (.claimInhibitEnd l) s (fun t => t.sh.lock.inhibit l = false ∧ t.sh.lock.inhibit l.other = s.sh.lock.inhibit l.other ∧
      t.sh.lock.grant = s.sh.lock.grant ∧ t.a = s.a ∧ t.b = s.b) ∧
    (s.sh.lock.arm l.other = true → Answers (.commitWatchdogExpiry l) s fun t =>
      t.sh.lock.drive l = false ∧ t.sh.lock.arm l = false ∧ t.sh.lock.grant ≠ .held l ∧
      (s.sh.lock.grant = .held l → t.sh.lock.grant = .deadTime l ∧ t.sh.lock.holding = true ∧ (t.lane l).boot.phase = .reset) ∧
      t.lane l.other = s.lane l.other) ∧
    (s.sh.lock.arm l.other = false → Answers (.commitWatchdogExpiry l) s fun t =>
      t.sh.lock.arm l = false ∧ t.sh.lock.drive l = s.sh.lock.drive l ∧ t.sh.lock.grant = s.sh.lock.grant ∧ t.a = s.a ∧ t.b = s.b)

/-- The interlock stays sound (01 R30, R624, R625): whatever command a step takes, from every sound interlock. -/
def Obligations.InterlockSound : Prop :=
  ∀ (s t : State), LockInv s.sh.lock → step s = .next t → LockInv t.sh.lock


/-- MODE_REQ (02 R81, R83, R107): the active lane holds one pending request; the one it replaces is SUPERSEDED; another lane refuses. -/
def Obligations.ModeRequest : Prop :=
  ∀ (s : State) (l : LaneId) (mode tag : Nat), mode < 16 → tag < 256 →
    ((s.lane l).active = true → (s.lane l).tk.pendMode = none → OnLane (.modeReq l mode tag) l s fun L M =>
      M.tk.pendMode = some { mode := mode, tag := tag } ∧ M.get Reg.MODE_REQ_MODE = mode ∧ M.get Reg.MODE_REQ_TAG = tag ∧
      L.framedUpTo M [Reg.MODE_REQ_MODE, Reg.MODE_REQ_TAG] [] fun N => N.onTk fun _ => L.tk) ∧
    (∀ p, (s.lane l).active = true → (s.lane l).tk.pendMode = some p → OnLane (.modeReq l mode tag) l s fun L M =>
      M.tk.pendMode = some { mode := mode, tag := tag } ∧ M.get Reg.MODE_RESULT_CODE = 3 ∧ M.get Reg.MODE_RESULT_TAG = p.tag % 256 ∧
      M.get Reg.MODE_RESULT_COND_SNAP = L.get Reg.MODE_COND_COND ∧ L.ev 0x02 1 ∈ M.found ∧ M.get Reg.MODE_CUR_MODE = L.get Reg.MODE_CUR_MODE) ∧
    ((s.lane l).active = false → OnLane (.modeReq l mode tag) l s fun L M =>
      M.get Reg.MODE_RESULT_CODE = 5 ∧ M.get Reg.MODE_RESULT_TAG = tag ∧ M.get Reg.MODE_RESULT_COND_SNAP = L.get Reg.MODE_COND_COND ∧
      L.framed M [Reg.MODE_REQ_MODE, Reg.MODE_REQ_TAG, Reg.MODE_RESULT_CODE, Reg.MODE_RESULT_TAG, Reg.MODE_RESULT_COND_SNAP] [(0x02, 1)])

/-- The outcome of a request at a position-cycle boundary (02 R82-R84; 15 R544): SAME, then NOT_PERMITTED, CLOCK, CONDITION; 0 where
the transition is made. An automatic transition answers a pending request AUTO_PRIORITY; one to LUBBER takes effect at the commit, or, beside an able standby, after
a handover. The order of the codes is DEDUCED (log entry 15). -/
def Obligations.ModeEvaluation : Prop :=
  let permits (L : Lane) (m : Nat) : Prop := 2 ≤ m ∧ m ≤ 11 ∧ m ≠ L.mode ∧
    ((L.chart.now.modes.entry L.mode m).host = true ∨ (L.chart.now.modes.entry L.mode m).auto = true)
  let clocked (L : Lane) (m : Nat) : Prop := L.coasting = false ∨ m = 2 ∨ m = 4
  let met (L : Lane) (m : Nat) : Bool := holdsAll (L.chart.now.modes.entry L.mode m).require (L.get Reg.MODE_COND_COND)
  ∀ (L : Lane) (r : ModeReqPend), L.active = true → 3 ≤ L.mode → L.tk.goLubber = none → L.tk.pendMode = some r → r.mode < 16 → r.tag < 256 → r.sched = none →
    (L.autoMode = none → r.mode = L.mode → L.modeEval.get Reg.MODE_RESULT_CODE = 7 ∧ L.modeEval.mode = L.mode) ∧
    (L.autoMode = none → r.mode ≠ L.mode → (r.mode < 2 ∨ 11 < r.mode ∨
        ((L.chart.now.modes.entry L.mode r.mode).host = false ∧ (L.chart.now.modes.entry L.mode r.mode).auto = false)) →
      L.modeEval.get Reg.MODE_RESULT_CODE = 1 ∧ L.modeEval.mode = L.mode ∧ L.ev 0x02 1 ∈ L.modeEval.found) ∧
    (L.autoMode = none → permits L r.mode → ¬ clocked L r.mode →
      L.modeEval.get Reg.MODE_RESULT_CODE = 6 ∧ L.modeEval.mode = L.mode ∧ L.ev 0x02 1 ∈ L.modeEval.found) ∧
    (L.autoMode = none → permits L r.mode → clocked L r.mode → met L r.mode = false →
      L.modeEval.get Reg.MODE_RESULT_CODE = 2 ∧ L.modeEval.mode = L.mode ∧ L.ev 0x02 1 ∈ L.modeEval.found) ∧
    (L.autoMode = none → permits L r.mode → clocked L r.mode → met L r.mode = true →
      L.modeEval.get Reg.MODE_RESULT_CODE = 0 ∧ L.modeEval.get Reg.MODE_RESULT_TAG = r.tag ∧
      (r.mode ≠ 2 → L.modeEval.mode = r.mode ∧ L.modeEval.get Reg.MODE_CUR_PREV = L.mode ∧ L.ev 0x02 0 ∈ L.modeEval.found)) ∧
    (∀ t, L.autoMode = some t → t ≠ 2 → L.modeEval.get Reg.MODE_RESULT_CODE = 4 ∧ L.modeEval.get Reg.MODE_RESULT_TAG = r.tag ∧
      L.modeEval.mode = t ∧ L.modeEval.get Reg.MODE_CUR_PREV = L.mode) ∧
    (L.autoMode = some 2 → L.modeEval.get Reg.MODE_RESULT_CODE = 4) ∧
    (L.autoMode = some 2 ∨ (L.autoMode = none ∧ r.mode = 2 ∧ permits L 2 ∧ met L 2 = true) → L.modeEval.mode = L.mode ∧
      (L.red.peerAble = false → L.modeEval.tk.goLubber = some L.tk.lateMode) ∧
      (L.red.peerAble = true → L.modeEval.tk.lubberAfter = true ∧ L.modeEval.red.plan.isSome = true ∧ L.modeEval.tk.goLubber = none)) ∧
    L.modeEval.tk.pendMode = none

/-- DR_EXPIRED (05 R198; 02 R77): DEAD_RECKONING past DR_LIMIT sets condition 13, which the next boundary evaluates (05 R190). Where
log entry 18 decides a detail of it, that detail is the model's choice, not the spec's. -/
def Obligations.DeadReckoningExpires : Prop :=
  ∀ (s : State) (l : LaneId),
    ((s.lane l).mode = 11 → (s.lane l).kc.drLimit ≤ (s.lane l).ctl.drTime → OnLane (.drExpired l) l s fun L M =>
      L.bitTo M Reg.MODE_COND_COND 13 true ∧ L.framed M [Reg.MODE_COND_COND] []) ∧
    ((s.lane l).mode ≠ 11 ∨ (s.lane l).ctl.drTime < (s.lane l).kc.drLimit → Idle (.drExpired l) s)

/-- Scheduled actions (02 R103-R108): what SCHED_CMD accepts, what it refuses and in which order, what SCHED_FLUSH reports, what
falls due at a boundary, and what is then executed, late or stale. Where log entries 16 and 80 decide a detail of it, that detail is the model's choice, not the spec's. -/
def Obligations.ScheduledActions : Prop :=
  ∀ (s : State) (l : LaneId) (tag : Nat), tag < 256 → (s.lane l).active = true →
    (∀ i m, (i, m) ∈ [(Instr.schedWriteSubmit l tag, false), (.schedModeSubmit l tag, true)] →
      ((s.lane l).tk.sched.length < 32 → (m = true ∨ (s.lane l).schedAddrOk ((s.lane l).get Reg.SCHED_ADDR_ADDR) = true) →
        (s.lane l).timeValid = true →
        (s.lane l).now - ((s.lane l).stagedAct m tag).time ≤ ((s.lane l).get Reg.SCHED_LIMIT_MS : Rat) * 1000000 →
        OnLane i l s fun L M => M.tk.sched = L.tk.sched ++ [L.stagedAct m tag] ∧ M.get Reg.SCHED_STAT_OUTCOME = 0 ∧
          M.get Reg.SCHED_STAT_TAG = tag ∧ M.get Reg.SCHED_STAT_QUEUED = L.tk.sched.length + 1 ∧
          M.get Reg.TICK_STAT_SCHED_FULL = (if L.tk.sched.length = 31 then 1 else 0) ∧
          L.framedUpTo M [Reg.SCHED_CMD_TAG, Reg.SCHED_CMD_KIND, Reg.SCHED_STAT_OUTCOME, Reg.SCHED_STAT_TAG, Reg.SCHED_STAT_QUEUED,
            Reg.TICK_STAT_SCHED_FULL] [] fun N => N.onTk fun _ => L.tk) ∧
      (∀ code, (32 ≤ (s.lane l).tk.sched.length ∧ code = 4 ∨
          (s.lane l).tk.sched.length < 32 ∧ m = false ∧ (s.lane l).schedAddrOk ((s.lane l).get Reg.SCHED_ADDR_ADDR) = false ∧ code = 6 ∨
          (s.lane l).tk.sched.length < 32 ∧ (m = true ∨ (s.lane l).schedAddrOk ((s.lane l).get Reg.SCHED_ADDR_ADDR) = true) ∧
            (s.lane l).timeValid = false ∧ code = 8 ∨
          (s.lane l).tk.sched.length < 32 ∧ (m = true ∨ (s.lane l).schedAddrOk ((s.lane l).get Reg.SCHED_ADDR_ADDR) = true) ∧
            (s.lane l).timeValid = true ∧ code = 9 ∧
            ((s.lane l).get Reg.SCHED_LIMIT_MS : Rat) * 1000000 < (s.lane l).now - ((s.lane l).stagedAct m tag).time) →
        OnLane i l s fun L M => M.get Reg.SCHED_STAT_OUTCOME = code ∧ M.get Reg.SCHED_STAT_TAG = tag ∧
          L.framedPost M [Reg.SCHED_CMD_TAG, Reg.SCHED_CMD_KIND, Reg.SCHED_STAT_OUTCOME, Reg.SCHED_STAT_TAG] [] id)) ∧
    (OnLane (.schedFlush l) l s fun L M => M.tk.sched = [] ∧ M.get Reg.SCHED_STAT_QUEUED = 0 ∧ M.get Reg.TICK_STAT_SCHED_FULL = 0 ∧
      (L.tk.sched ≠ [] → M.get Reg.SCHED_STAT_OUTCOME = 5) ∧
      L.framedPost M [Reg.SCHED_STAT_OUTCOME, Reg.SCHED_STAT_TAG, Reg.SCHED_STAT_QUEUED, Reg.TICK_STAT_SCHED_FULL] [] fun N => N.onTk fun _ => L.tk) ∧
    ((s.lane l).tk.posTick = true →
      (∀ a ∈ (s.lane l).tk.sched, (s.lane l).now < a.time) → OnLane (.schedActionDue l) l s fun L M =>
        M.tk.sched = L.tk.sched ∧ M.get Reg.SCHED_STAT_QUEUED = L.tk.sched.length % 64) ∧
    (∀ a, (s.lane l).tk.posTick = true → (s.lane l).tk.sched = [a] → a.tag < 256 → a.time ≤ (s.lane l).now →
      ((∀ p ∈ (s.lane l).tk.prevBound, p < a.time) →
        (a.mode = false → OnLane (.schedActionDue l) l s fun _ M =>
          M.get Reg.SCHED_STAT_OUTCOME = 1 ∧ M.get Reg.SCHED_STAT_TAG = a.tag ∧ M.get Reg.SCHED_STAT_QUEUED = M.tk.sched.length % 64) ∧
        (a.mode = true → (s.lane l).tk.pendMode = none → OnLane (.schedActionDue l) l s fun _ M =>
          M.tk.pendMode = some { mode := a.data % 16, tag := a.tag, sched := some (a, false) } ∧ M.tk.sched = [] ∧
          M.get Reg.SCHED_STAT_QUEUED = 0)) ∧
      (∀ p ∈ (s.lane l).tk.prevBound, a.time ≤ p →
        ((s.lane l).now - a.time ≤ ((s.lane l).get Reg.SCHED_LIMIT_MS : Rat) * 1000000 →
          (a.mode = false → OnLane (.schedActionDue l) l s fun _ M =>
            M.get Reg.SCHED_STAT_OUTCOME = 2 ∧ M.get Reg.SCHED_STAT_TAG = a.tag ∧ M.get Reg.SCHED_STAT_QUEUED = M.tk.sched.length % 64) ∧
          (a.mode = true → (s.lane l).tk.pendMode = none → OnLane (.schedActionDue l) l s fun L M =>
            M.tk.pendMode = some { mode := a.data % 16, tag := a.tag, sched := some (a, true) } ∧ M.tk.sched = [] ∧
            M.get Reg.SCHED_STAT_QUEUED = 0 ∧ L.ev 0x02 5 ∈ M.found)) ∧
        (((s.lane l).get Reg.SCHED_LIMIT_MS : Rat) * 1000000 < (s.lane l).now - a.time → OnLane (.schedActionDue l) l s fun L M =>
          M.get Reg.SCHED_STAT_OUTCOME = 3 ∧ M.get Reg.SCHED_STAT_TAG = a.tag ∧ M.tk.sched = [] ∧ M.get Reg.SCHED_STAT_QUEUED = 0 ∧
          L.ev 0x02 6 ∈ M.found)))


/-- The grid (02 R63, R64, with R66, R67 and R110): a tick start adds a millisecond to the chronometer, and takes the tick number from
it; while a realignment goes on it adds up to 50 µs more and counts the number on, until the whole delay has been added. A position
cycle begins on the ticks 0, 10, 20 … 990, a GNSS epoch on 0, 50, 100 … 950, a second on 0. The first tick of a start keeps the
number, the count and the time as the start left them, the model's choice (log entry 19). -/
def Obligations.TickGrid : Prop :=
  ∀ (L : Lane),
    let M := L.tickClock.1
    let slack : Rat := if L.tk.realigning then min 50000 L.tk.realign else 0
    (L.tk.count = 0 → M.chr = L.chr ∧ M.get Reg.TICK_POS_TICK = L.get Reg.TICK_POS_TICK ∧ M.get Reg.TICK_CNT_COUNT = L.get Reg.TICK_CNT_COUNT) ∧
    (L.tk.count ≠ 0 →
      M.chr = { L.chr with ns := L.chr.ns + 1000000 + slack } ∧ L.tickClock.2 = 1000000 + slack ∧ M.tk.realign = L.tk.realign - slack ∧
      M.get Reg.TICK_CNT_COUNT = (L.get Reg.TICK_CNT_COUNT + 1) % 2 ^ 32 ∧
      (L.tk.realigning = true → 50000 < L.tk.realign → M.get Reg.TICK_POS_TICK = (L.get Reg.TICK_POS_TICK + 1) % 1000 ∧ M.tk.realigning = true) ∧
      (L.tk.realigning = true → L.tk.realign ≤ 50000 → M.get Reg.TICK_POS_TICK = nsOf M.now / 1000000 ∧ M.tk.realigning = false ∧
        M.get Reg.TICK_POS_REALIGN = 0 ∧ M.get Reg.TICK_STAT_REALIGN = 0) ∧
      (L.tk.realigning = false → M.get Reg.TICK_POS_TICK = nsOf M.now / 1000000)) ∧
    M.get Reg.TICK_POS_STRETCHED = (if L.coasting then 1 else 0) ∧
    (M.tk.posTick = true ↔ M.get Reg.TICK_POS_TICK % 10 = 0) ∧ (M.tk.epochTick = true ↔ M.get Reg.TICK_POS_TICK % 50 = 0) ∧
    (M.tk.secTick = true ↔ M.get Reg.TICK_POS_TICK = 0) ∧ M.tk.inTick = true ∧ M.tk.count = L.tk.count + 1 ∧
    (M.tk.posTick = true → M.tk.bound = some M.now ∧ M.tk.prevBound = L.tk.bound) ∧
    (M.tk.posTick = false → M.tk.bound = L.tk.bound ∧ M.tk.prevBound = L.tk.prevBound) ∧
    L.keepsBut M [Reg.TICK_POS_TICK, Reg.TICK_CNT_COUNT, Reg.TICK_POS_STRETCHED, Reg.TICK_POS_REALIGN, Reg.TICK_STAT_REALIGN] ∧
    M.found = L.found

/-- TICK_START (02 R63, 01 R34, R47, 18 R626; 12 R442): clock and supplies, then the input latch, the roles, the Binnacle, the RAP
and the work of the tick; a lane that declared itself failed keeps its clocks, Logbook and RAP only; a lane whose SC0/SC1 pair has
failed executes no request; one that is to restart drops DRIVE and ARM; a lane whose tick does not run does nothing.
Where log entries 20 and 23 decide a detail of it, that detail is the model's choice, not the spec's. -/
def Obligations.TickStart : Prop :=
  ∀ (s : State) (l : LaneId) (x : TickIn),
    let L := s.lane l
    let d := if L.tickClock.1.coasting then x.coastNs else L.tickClock.2
    let s1 := s.setLane l (L.tickClock.1.tickInfra x)
    (L.running = false → Idle (.tickStart l x) s) ∧
    (L.running = true → L.rap.restart = false → (s1.lane l).role = 5 →
      exec (.tickStart l x) s = .next (s1.upd l fun N => if N.pairUp 0 then N.rapExecute.windowLoad else N)) ∧
    (L.running = true → L.rap.restart = false → (s1.lane l).role ≠ 5 →
      exec (.tickStart l x) s =
        .next (((s1.upd l fun N => N.inputLatch (s1.sh.lock.holds l) s1.aoTerminal s1.binStatus x d).roleLatch l x).binEval.upd l fun N =>
          (if N.snapWork.pairUp 0 then N.snapWork.rapExecute.windowLoad.rapIntake else N.snapWork).workTick x d)) ∧
    (L.running = true → L.rap.restart = true → Answers (.tickStart l x) s fun t =>
      t.sh.lock.drive l = false ∧ t.sh.lock.arm l = false ∧ t.sh.lock.grant ≠ .held l ∧ (t.lane l).running = false)

/-- COMMIT_POINT (02 R69-R73): the tick ends, its snapshot is gone; a lane whose tick has not latched does nothing. Where log
entries 20 and 34 decide a detail of it, that detail is the model's choice, not the spec's. -/
def Obligations.CommitEndsTick : Prop :=
  ∀ (s : State) (l : LaneId) (x : CommitIn),
    ((s.lane l).running = true → (s.lane l).tk.inTick = true → Answers (.commitPoint l x) s fun t =>
      (t.lane l).tk.inTick = false ∧ (t.lane l).tk.discard = false ∧ (t.lane l).work = none ∧ t.pending = s.pending) ∧
    ((s.lane l).running = false ∨ (s.lane l).tk.inTick = false → Idle (.commitPoint l x) s)

/-- A frame fault (02 R72-R74): counts, event and margin, the lost tick, DEGRADED at the third in a row; a tick without one
restarts the consecutive count; Plotter and allocation go back to where the tick's work began, with every register of that work
that the host does not write. Where log entries 21 and 22 decide a detail of it, that detail is the model's choice, not the
spec's. -/
def Obligations.FrameFault : Prop :=
  ∀ (L : Lane) (n : Nat),
    let M := L.frameFault n
    M.get Reg.FRAME_CNT_TOTAL = min (L.get Reg.FRAME_CNT_TOTAL + 1) 65535 ∧
    M.get Reg.FRAME_CNT_CONSEC = min (L.get Reg.FRAME_CNT_CONSEC + 1) 255 ∧
    M.get Reg.TICK_MARGIN_MARGIN = 0 ∧ L.ev 0x02 2 ∈ M.found ∧ M.tk.lost = L.tk.lost + 1000000 ∧
    (2 ≤ L.get Reg.FRAME_CNT_CONSEC → L.tk.escalated = false →
      M.get Reg.TICK_FAULT_FRAME_ESCALATED = 1 ∧ M.get Reg.LANE_STAT_DEGRADED = 1 ∧ L.ev 0x02 3 ∈ M.found ∧ M.tk.escalated = true) ∧
    (L.faultCount false).get Reg.FRAME_CNT_CONSEC = 0 ∧ (L.faultCount false).get Reg.FRAME_CNT_TOTAL = L.get Reg.FRAME_CNT_TOTAL ∧
    ∀ w : WorkSnap,
      (L.discardWork w).plt = w.plt ∧ (L.discardWork w).ntk = { w.ntk with fresh := L.ntk.fresh } ∧
      (L.discardWork w).alc =
        { w.alc with chans := (w.alc.chans.zip L.alc.chans).map fun q => { q.1 with cmds := keepCmds q.1.cmds q.2.cmds } } ∧
      (L.discardWork w).chr = L.chr ∧ (L.discardWork w).log = L.log ∧
      (∀ a, workReg a = true → hostMask a = 0 → a ≠ Reg.SCHED_STAT_w.addr →
        (L.discardWork w).word a = sparseGet w.regs a (resetWord a)) ∧
      (∀ a, workReg a = false → a ≠ Reg.TICK_STAT_w.addr → hostMask a = 0 ∨ L.tk.schedWrote = [] → (L.discardWork w).word a = L.word a)

/-- Engines and memory (01 R34, R43, R44; 02 R67, R71): a lockstep mismatch halts its pair; memory errors are counted and shown;
the scrubber goes on; an engine still running at 1000 µs is stopped, and the part of the last commit that it holds goes back into
force; the tick is renumbered once the grid has been realigned.
Where log entries 19, 34 and 35 decide a detail of it, that detail is the model's choice, not the spec's. -/
def Obligations.EnginesAndMemory : Prop :=
  ∀ (s : State) (l : LaneId),
    (∀ safe, OnLane (.lockstepMismatch l safe) l s fun L M =>
      M.hw.halt = L.hw.halt ||| (if safe then 0xC else 3) ∧
      M.get (if safe then Reg.LANE_LOCKSTEP_CNT_SAFE else Reg.LANE_LOCKSTEP_CNT_SUP) =
        min (L.get (if safe then Reg.LANE_LOCKSTEP_CNT_SAFE else Reg.LANE_LOCKSTEP_CNT_SUP) + 1) 65535 ∧
      M.get (if safe then Reg.LANE_FAULT_LOCKSTEP_SAFE else Reg.LANE_FAULT_LOCKSTEP_SUP) = 1 ∧
      L.framedUpTo M [if safe then Reg.LANE_LOCKSTEP_CNT_SAFE else Reg.LANE_LOCKSTEP_CNT_SUP,
        if safe then Reg.LANE_FAULT_LOCKSTEP_SAFE else Reg.LANE_FAULT_LOCKSTEP_SUP] [(0x01, 2)] fun N => N.onHw fun _ => L.hw) ∧
    (∀ mem, mem < 3 → OnLane (.eccCorr l mem) l s fun L M =>
      M.get (corrFld mem) = min (L.get (corrFld mem) + 1) (2 ^ (corrFld mem).w - 1) ∧ L.framed M [corrFld mem] [(0x01, 0)]) ∧
    (∀ r word, word < 2 ^ 28 → OnLane (.eccUncorr l r word) l s fun L M =>
      M.get (uncorrFld r.mem) = min (L.get (uncorrFld r.mem) + 1) (2 ^ (uncorrFld r.mem).w - 1) ∧ M.get Reg.LANE_ECC_LAST_MEM = r.mem ∧
      M.get Reg.LANE_ECC_LAST_WORD = word ∧ M.get Reg.LANE_FAULT_ECC_UNCORR_SEEN = 1 ∧ L.ev 0x01 1 ∈ M.found ∧
      (r = .dram ∨ r = .sram → M.tk.discard = true ∧ M.get Reg.LANE_STAT_DEGRADED = 1) ∧ (r = .safety → M.hw.haltMem = true ∧ M.hw.halt = L.hw.halt ||| 0xC) ∧
      (r = .mram → mramPart (8 * word) = .snapshot → M.hw.snapshotBad = true) ∧
      (r = .mram → mramPart (8 * word) = .chart L.chart.cur → M.hw.chartDamaged = true ∧ M.get Reg.LANE_STAT_DEGRADED = 1)) ∧
    (∀ mem words corr, mem < 3 → OnLane (.memoryScrub l mem words corr) l s fun L M =>
      (mem = 0 → M.hw.scrubDram = (L.hw.scrubDram + words) % 2 ^ 28) ∧ (mem = 1 → M.hw.scrubSram = (L.hw.scrubSram + words) % 2 ^ 20) ∧
      (mem = 2 → M.hw.scrubMram = (L.hw.scrubMram + words) % 2 ^ 23) ∧
      M.get (corrFld mem) = min (L.get (corrFld mem) + corr) (2 ^ (corrFld mem).w - 1) ∧
      L.framedUpTo M [corrFld mem] (if corr = 0 then [] else [(0x01, 0)]) fun N => N.onHw fun _ => L.hw) ∧
    (∀ n, (s.lane l).engOk n = true → OnLane (.engineStop l n) l s fun L M =>
      n ∈ M.tk.stopped ∧
      (L.tk.inTick = false → M = L.onTk fun k => { k with stopped := M.tk.stopped }) ∧
      (∀ w ∈ L.work, L.tk.inTick = true → (n = 13 ∨ n = 14 → M.plt = w.plt) ∧ (n = 4 → M.alc = { w.alc with chans := L.alc.chans }) ∧
        (n ≠ 13 → n ≠ 14 → M.plt = L.plt))) ∧
    ((s.lane l).tk.realigning = true → (s.lane l).tk.realign = 0 → OnLane (.tickRenumber l) l s fun L M =>
      M.get Reg.TICK_POS_TICK = nsOf L.now / 1000000 ∧ (M.tk.posTick = true ↔ nsOf L.now / 1000000 % 10 = 0) ∧ M.tk.realigning = false ∧ M.get Reg.TICK_POS_REALIGN = 0 ∧
      M.get Reg.TICK_STAT_REALIGN = 0 ∧ L.keepsBut M [Reg.TICK_POS_TICK, Reg.TICK_POS_REALIGN, Reg.TICK_STAT_REALIGN] ∧ M.found = L.found)

/-- Time models of sensor-time slots (03 R126-R128, R146): each second a quarter of the least residual of the preceding 1000 ticks goes
into a model's offset, and a fiftieth of it into its rate; learning ends at eight updates; eight evaluations over the limit degrade a model and eight within it
restore it; the host restarts one. -/
def Obligations.TimeModels : Prop :=
  ∀ (s : State) (l : LaneId) (n : Nat), n < 30 →
    let L := s.lane l
    let m := (L.slotSt n).tm
    let others (M : Lane) : Prop := ∀ k, k ≠ n → M.slotSt k = L.slotSt k
    let cmdFlds := [Reg.INT_CMD_CMD, Reg.INT_CMD_SLOT, Reg.INT_CMD_RESULT]
    (∀ c, L.rc.slot n = some c → c.mode = .sensor → L.timeValid = true → OnLane (.timeModelUpdate l) l s fun L M =>
      (∀ k e, (k, e) ∈ m.resid → L.tk.count ≤ k + 1000 → (∀ k' e', (k', e') ∈ m.resid → L.tk.count ≤ k' + 1000 → e ≤ e') →
        (M.slotSt n).tm = { m with ofs := m.ofs + e / 4, rate := m.rate + e / 50000000000, su := m.lastS, resid := [], updates := m.updates + 1 }) ∧
      ((∀ r ∈ m.resid, r.1 + 1000 < L.tk.count) → (M.slotSt n).tm = { m with resid := [] }) ∧
      L.framedUpTo M [] [] fun N => N.onNtk fun _ => L.ntk) ∧
    (m.learning = true → 8 ≤ m.updates → OnLane (.learningEnd l n) l s fun L M =>
      (M.slotSt n).tm = { m with learning := false, above := 0, within := 0 } ∧ others M ∧ L.framedUpTo M [] [] fun N => N.onNtk fun _ => L.ntk) ∧
    (m.updates < 8 → Idle (.learningEnd l n) s) ∧
    (m.learning = false → m.degraded = false → 8 ≤ m.above → OnLane (.timeDegraded l n) l s fun L M =>
      (M.slotSt n).tm = { m with degraded := true, above := 0, within := 0 } ∧ others M ∧ L.bitTo M Reg.INT_TDEG_MASK n true ∧
      M.get (Reg.SLOT_STAT_TIME_DEGRADED n) = 1 ∧
      L.framedUpTo M [Reg.INT_TDEG_MASK, Reg.SLOT_STAT_TIME_DEGRADED n] [(0x08, 2)] fun N => N.onNtk fun _ => L.ntk) ∧
    (m.degraded = true → 8 ≤ m.within → OnLane (.timeRestored l n) l s fun L M =>
      (M.slotSt n).tm = { m with degraded := false, above := 0, within := 0 } ∧ others M ∧ L.bitTo M Reg.INT_TDEG_MASK n false ∧
      M.get (Reg.SLOT_STAT_TIME_DEGRADED n) = 0 ∧
      L.framedUpTo M [Reg.INT_TDEG_MASK, Reg.SLOT_STAT_TIME_DEGRADED n] [] fun N => N.onNtk fun _ => L.ntk) ∧
    (∀ c, L.rc.slot n = some c → c.mode = .sensor → OnLane (.restartTimeModel l n) l s fun L M =>
      (M.slotSt n).tm = {} ∧ others M ∧ L.bitTo M Reg.INT_TDEG_MASK n false ∧ M.get (Reg.SLOT_STAT_TIME_DEGRADED n) = 0 ∧
      M.get Reg.INT_CMD_CMD = 2 ∧ M.get Reg.INT_CMD_SLOT = n ∧ M.get Reg.INT_CMD_RESULT = 0 ∧
      L.framedUpTo M ([Reg.INT_TDEG_MASK, Reg.SLOT_STAT_TIME_DEGRADED n] ++ cmdFlds) [] fun N => N.onNtk fun _ => L.ntk) ∧
    (∀ c, L.rc.slot n = some c → c.mode ≠ .sensor → OnLane (.restartTimeModel l n) l s fun L M =>
      M.get Reg.INT_CMD_RESULT = 2 ∧ L.framed M cmdFlds []) ∧
    (L.rc.slot n = none → OnLane (.restartTimeModel l n) l s fun L M => M.get Reg.INT_CMD_RESULT = 1 ∧ L.framed M cmdFlds [])

/-- Slots of the sensor intake (03 R119, R124, R133, R137, R139, R141, R146): admission, rejection, the timeout, the expiry of
quality, the halving of the ramp, two-group disagreement, and the host's deselection, clearing of counts and new anchor. Where log
entries 70 and 71 decide a detail of it, that detail is the model's choice, not the spec's. -/
def Obligations.ReferenceSlots : Prop :=
  ∀ (s : State) (l : LaneId) (n : Nat), n < 30 →
    let L := s.lane l
    let x := L.slotSt n
    let others (M : Lane) : Prop := ∀ k, k ≠ n → M.slotSt k = L.slotSt k
    let cmdFlds := [Reg.INT_CMD_CMD, Reg.INT_CMD_SLOT, Reg.INT_CMD_RESULT]
    let ntkOnly (M : Lane) (es : List (Nat × Nat)) : Prop := L.framedUpTo M [] es fun N => N.onNtk fun _ => L.ntk
    ((x.st = .admitting ∨ x.st = .rejected) → L.admissionDone n = true → OnLane (.refAdmitted l n) l s fun L M =>
      M.slotSt n = { x with st := .admitted, ramp := 100, rampTicks := 0, fails := 0, acc := 0, passes := 0 } ∧ others M ∧
      L.ev 0x08 1 ∈ M.found ∧ L.keepsBut M [Reg.PLOT_FAULT_NUMERIC] ∧ L.onlyRegs ((M.onNtk fun _ => L.ntk).onPlt fun _ => L.plt)) ∧
    (L.admissionDone n = false → Idle (.refAdmitted l n) s) ∧
    (∀ c, L.rc.slot n = some c → x.st = .suspect → c.rejectCnt ≤ x.fails → OnLane (.refRejected l n) l s fun L M =>
      M.slotSt n = { x with st := .rejected, acc := 0, passes := 0 } ∧ others M ∧ ntkOnly M [(0x08, 0)]) ∧
    (∀ c, L.rc.slot n = some c → x.st ∈ [.admitted, .suspect, .admitting] → (∀ t ∈ x.lastValid, (c.timeout : Rat) * 1000000 ≤ L.now - t) →
      OnLane (.slotTimeout l n) l s fun L M =>
        M.slotSt n = { x with st := .waiting, acc := 0, passes := 0, fails := 0 } ∧ others M ∧ ntkOnly M []) ∧
    (∀ c t, L.rc.slot n = some c → x.lastValid = some t → L.now - t < (c.timeout : Rat) * 1000000 → Idle (.slotTimeout l n) s) ∧
    (OnLane (.qualityExpiry l n) l s fun L M =>
      (M.slotSt n).quality = x.quality.filter (fun w => decide (L.now - w.arrival < 1000000000)) ∧ others M ∧ ntkOnly M []) ∧
    (1000 ≤ x.rampTicks → x.ramp ≠ 1 → OnLane (.weightRampStep l n) l s fun L M =>
      M.slotSt n = { x with ramp := if x.ramp / 2 < 3 / 2 then 1 else x.ramp / 2, rampTicks := x.rampTicks - 1000 } ∧ others M ∧ ntkOnly M []) ∧
    (∀ heading : Bool,
      let t := if heading then L.ntk.hdg2 else L.ntk.pos2
      let shown := if heading then Reg.INT_STAT_HDG_DISAGREE else Reg.INT_STAT_POS_DISAGREE
      (5 ≤ t.run → OnLane (.refDisagree l heading) l s fun L M =>
        (if heading then M.ntk.hdg2 else M.ntk.pos2) = ⟨!t.on, 0⟩ ∧
        M.get shown = (if !t.on || (if heading then L.ntk.hdg136 else L.ntk.pos136) then 1 else 0) ∧
        L.framedUpTo M [shown] (if t.on then [] else [(0x08, 4)]) fun N => N.onNtk fun _ => L.ntk) ∧
      (t.run < 5 → Idle (.refDisagree l heading) s)) ∧
    (∀ mask, OnLane (.intDeselectWrite l mask) l s fun L M =>
      M.bit Reg.INT_DESELECT_MASK n = (testBit mask n && (L.rc.slot n).isSome) ∧ M.ntk.desWritten = true ∧
      (L.rc.slot n = none → M.slotSt n = x) ∧
      (n < L.ntk.slots.length → L.rc.slot n ≠ none → (M.slotSt n).st =
        (if testBit mask n = true then .deselected else if x.st = .deselected then .admitting else x.st)) ∧
      L.framedUpTo M [Reg.INT_DESELECT_MASK] [] fun N => N.onNtk fun _ => L.ntk) ∧
    (OnLane (.clearCounts l n) l s fun L M =>
      M.get (Reg.SLOT_CNT_w n) = (if (L.rc.slot n).isNone then L.get (Reg.SLOT_CNT_w n) else 0) ∧ M.get Reg.INT_CMD_CMD = 1 ∧
      M.get Reg.INT_CMD_SLOT = n ∧ M.get Reg.INT_CMD_RESULT = (if (L.rc.slot n).isNone then 1 else 0) ∧
      L.framed M (Reg.SLOT_CNT_w n :: cmdFlds) []) ∧
    (∀ c, L.rc.slot n = some c → n < 12 → c.form ≠ .absolute → c.origin = none → x.st ∈ [.waiting, .rejected, .deselected] →
      OnLane (.reAnchor l n) l s fun L M => M.slotSt n = { x with anchor := none, acc := 0, passes := 0 } ∧ others M ∧
        M.get Reg.INT_CMD_CMD = 3 ∧ M.get Reg.INT_CMD_RESULT = 0 ∧ L.framedUpTo M cmdFlds [] fun N => N.onNtk fun _ => L.ntk) ∧
    (∀ c, L.rc.slot n = some c → x.st ∈ [.admitted, .suspect, .admitting] → OnLane (.reAnchor l n) l s fun L M =>
      M.get Reg.INT_CMD_CMD = 3 ∧ M.get Reg.INT_CMD_RESULT = 2 ∧ L.framed M cmdFlds []) ∧
    (L.rc.slot n = none → OnLane (.reAnchor l n) l s fun L M => M.get Reg.INT_CMD_RESULT = 1 ∧ L.framed M cmdFlds [])
/-- Allocation's supervision (06 R230, R223, R236): the count of ticks not converged, its event at ten, a bus whose data are late,
a bus that asks for load reduction. Where log entry 76 decides a detail of it, that detail is the model's choice, not the spec's.
-/
def Obligations.AllocationSupervision : Prop :=
  ∀ (s : State) (l : LaneId),
    ((s.lane l).alc.ncPend = true → OnLane (.allocNotConverged l) l s fun L M =>
      M.get Reg.ALLOC_NC_TOTAL = min (L.get Reg.ALLOC_NC_TOTAL + 1) 65535 ∧
      M.get Reg.ALLOC_NC_CONSEC = min (L.get Reg.ALLOC_NC_CONSEC + 1) 65535 ∧
      M.get Reg.ALLOC_STAT_NOT_CONVERGED = 1 ∧
      L.framedUpTo M [Reg.ALLOC_NC_TOTAL, Reg.ALLOC_NC_CONSEC, Reg.ALLOC_STAT_NOT_CONVERGED] [] fun N => N.onAlc fun _ => L.alc) ∧
    (10 ≤ (s.lane l).get Reg.ALLOC_NC_CONSEC → (s.lane l).alc.ncRaised = false → OnLane (.allocNcEvt l) l s fun L M =>
      M.alc.ncRaised = true ∧ L.framedUpTo M [] [(0x11, 0)] fun N => N.onAlc fun _ => L.alc) ∧
    ∀ b, b < 4 →
      ((s.lane l).pmLate b = true → ((s.lane l).bus b).stale = false → OnLane (.pmStale l b) l s fun L M =>
        L.bitTo M Reg.ALLOC_STAT_PM_STALE b true ∧
        L.framedUpTo M [Reg.ALLOC_STAT_PM_STALE] [(0x11, 3)] fun N => N.onAlc fun _ => L.alc) ∧
      (((s.lane l).bus b).lrRaw = true → ((s.lane l).bus b).loadRed = false → OnLane (.loadReduction l b) l s fun L M =>
        L.bitTo M Reg.ALLOC_STAT_LOAD_RED b true ∧
        (∀ n, n < 16 → M.alc.chans[n]? = (L.alc.chans[n]?).map fun x =>
          if (L.chCfg n).any (fun c => decide (c.bus = b)) then { x with lrCap := some ((L.busCfg b).lrFrac * qAbs x.loop.y) } else x) ∧
        L.framedUpTo M [Reg.ALLOC_STAT_LOAD_RED] [(0x11, 4)] fun N => N.onAlc fun _ => L.alc)


/-- READY and not-READY channels change state (06 R225): 100 ready ticks to ONLINE, 10 ticks without ready or DEPLOYED to
NOT_READY, in every mode but LUBBER, where the tick holds no state of higher precedence. Where log entry 61 decides a detail of it, that detail is the model's choice, not the spec's.
-/
def Obligations.ChannelReadiness : Prop :=
  ∀ (s : State) (l : LaneId) (n : Nat), n < 16 → (s.lane l).mode ≠ 2 → ((s.lane l).ch n).stepped = false →
    (((s.lane l).ch n).st = .notReady → 100 ≤ ((s.lane l).ch n).readyRun → OnLane (.channelReady l n) l s fun L M =>
      (M.ch n).st = .online ∧ L.showsState M n .online 0 [] ∧
      L.keepsBut M (stateFlds n)) ∧
    (((s.lane l).ch n).st.delivers = true → 10 ≤ ((s.lane l).ch n).badRun → (s.lane l).followDue n = none → (s.lane l).graceDue n = false → OnLane (.channelNotReady l n) l s fun L M =>
      (M.ch n).st = .notReady ∧ (M.ch n).loop.y = 0 ∧ (M.ch n).thrust = 0 ∧ L.showsState M n .notReady 0 [] ∧
      L.keepsBut M (Reg.CH_DEMAND_DEMAND n :: Reg.CH_ALLOC_THRUST n :: stateFlds n))

/-- Faults of a channel in service (06 R244-R246): a following-error timer at FE_TIME, feedback absent for FB_GRACE without
FB_KEEP. The final demand is 0 and the angle holds. -/
def Obligations.ChannelFaults : Prop :=
  ∀ (s : State) (l : LaneId) (n : Nat) (c : ChanChart), n < 16 → (s.lane l).chCfg n = some c →
    ((s.lane l).ch n).st.delivers = true → (s.lane l).chStopped c = false →
    (∀ cause, (cause = 1 ∧ c.feTime * 1000 ≤ (((s.lane l).ch n).loop.feDem : Rat) ∨
        cause = 2 ∧ ((((s.lane l).ch n).loop.feDem : Rat) < c.feTime * 1000) ∧ c.feTime * 1000 ≤ (((s.lane l).ch n).loop.feAng : Rat)) →
      OnLane (.followFault l n) l s fun L M =>
        (M.ch n).st = .fault ∧ (M.ch n).loop.y = 0 ∧ (M.ch n).loop.ang = (L.ch n).loop.ang ∧ M.get (Reg.CH_FAULT_FOLLOW n) = 1 ∧
        M.get (Reg.CH_CNT_FOLLOW n) = min (L.get (Reg.CH_CNT_FOLLOW n) + 1) 255 ∧
        L.showsState M n .fault cause [(0x20 + n, 1)] ∧
        L.keepsBut M ([Reg.CH_FAULT_FOLLOW n, Reg.CH_CNT_FOLLOW n, Reg.CH_DEMAND_DEMAND n, Reg.CH_ALLOC_THRUST n] ++ stateFlds n)) ∧
    (((s.lane l).ch n).fbValid = false → c.fbGrace * 1000 ≤ (((s.lane l).ch n).fbLost : Rat) → c.fbKeep = false →
      OnLane (.fbGraceExpiry l n) l s fun L M =>
        (M.ch n).st = .fault ∧ (M.ch n).loop.y = 0 ∧ (M.ch n).loop.ang = (L.ch n).loop.ang ∧ M.get (Reg.CH_FAULT_FB_LOST n) = 1 ∧
        L.showsState M n .fault 3 [] ∧
        L.keepsBut M ([Reg.CH_FAULT_FB_LOST n, Reg.CH_DEMAND_DEMAND n, Reg.CH_ALLOC_THRUST n] ++ stateFlds n))

/-- CH_CMD (06 R251): a command is kept for step 2 of the next tick's loop in the active lane; another lane refuses it, and an unused
channel does; on a model without the channel it is a write to an absent page (00 R8). A lever source gone stale, and the end of LIMIT_HOLD (R243, R238). -/
def Obligations.ChannelCommands : Prop :=
  ∀ (s : State) (l : LaneId) (n tag : Nat), n < 16 → tag < 256 →
    (∀ i cmd, (i, cmd) ∈ [(Instr.online l n tag, 1), (.offline l n tag, 2), (.reset l n tag, 3)] →
      (pagePresent (s.lane l).variant (0x20 + n) = false → OnLane i l s fun L M => L.countsAbsent M (Reg.CH_CMD_CMD n).addr) ∧
      (pagePresent (s.lane l).variant (0x20 + n) = true → (s.lane l).active = true → (s.lane l).chCfg n ≠ none → OnLane i l s fun L M =>
        M.get (Reg.CH_CMD_TAG n) = tag ∧ M.get (Reg.CH_CMD_CMD n) = cmd ∧
        M.alc.chans = modAt L.alc.chans n (fun x => { x with cmds := x.cmds ++ [cmd] }) ∧
        L.framedUpTo M [Reg.CH_CMD_TAG n, Reg.CH_CMD_CMD n] [] fun N => N.onAlc fun _ => L.alc) ∧
      (pagePresent (s.lane l).variant (0x20 + n) = true → (s.lane l).active = false ∨ (s.lane l).chCfg n = none → OnLane i l s fun L M =>
        M.get (Reg.CH_CMD_RESULT n) = (if L.active then 4 else 3) ∧
        L.framed M [Reg.CH_CMD_TAG n, Reg.CH_CMD_CMD n, Reg.CH_CMD_RESULT n] [(0x20 + n, 7)])) ∧
    ((s.lane l).chCfg n ≠ none → (((s.lane l).ch n).leverOk = false ∧ ((s.lane l).ch n).leverStale = false ∨
        ((s.lane l).ch n).leverAngOk = false ∧ ((s.lane l).ch n).leverAngStale = false) →
      OnLane (.leverStale l n) l s fun L M => M.get (Reg.CH_STATE_LEVER_STALE n) = 1 ∧
        L.framedUpTo M [Reg.CH_STATE_LEVER_STALE n] [(0x20 + n, 4)] fun N => N.onAlc fun _ => L.alc) ∧
    (((s.lane l).ch n).loop.limited = true → (s.lane l).ac.limitHold ≤ ((s.lane l).ch n).loop.limCnt →
      OnLane (.limitHoldExpiry l n) l s fun L M =>
        (M.ch n).loop.limited = false ∧ M.get (Reg.CH_STATE_LIMITED n) = 0 ∧ L.bitTo M Reg.ALLOC_AVAIL_LIMITED n false ∧
        L.framedUpTo M [Reg.CH_STATE_LIMITED n, Reg.ALLOC_AVAIL_LIMITED] [] fun N => N.onAlc fun _ => L.alc)

/-- Migration (06 R247-R249): in the tick after a CE's failure its channels, in rising order, go to healthy CEs with their restored
loop states, or enter NO_ENGINE where none has room; once the receiving CEs have committed, MIGRATING clears. -/
def Obligations.ChannelMigration : Prop :=
  ∀ (s : State) (l : LaneId),
    ((s.lane l).orphans ≠ [] →
      OnLane (.chanMigrated l) l s fun L M =>
        M.get Reg.ALLOC_FAULT_MIGRATED = 1 ∧ L.ev 0x11 1 ∈ M.found ∧
        ∀ n ∈ L.orphans,
          (M.ceOf n < 8 ∧ L.engOk (5 + M.ceOf n) = true ∧ (M.ch n).loop = (L.ch n).restore ∧ (M.ch n).placed = true) ∨
          (M.ceOf n = 15 ∧ (M.ch n).st = .noEngine ∧ (M.ch n).loop.y = 0 ∧ M.get Reg.ALLOC_FAULT_NO_ENGINE = 1 ∧ L.ev 0x11 2 ∈ M.found)) ∧
    (((s.lane l).chList.filter fun n => decide (((s.lane l).ch n).migr = some 3)) ≠ [] →
      OnLane (.migrationComplete l) l s fun L M =>
        (∀ n ∈ L.chList, (L.ch n).migr = some 3 → (M.ch n).migr = none ∧ M.get (Reg.CH_STATE_MIGRATING n) = 0) ∧
        (∀ n, (L.ch n).migr ≠ some 3 → M.ch n = L.ch n) ∧
        M.get Reg.ALLOC_STAT_MIGRATING = (if M.chList.any fun n => (M.ch n).migr.isSome then 1 else 0) ∧
        L.framedUpTo M (Reg.ALLOC_STAT_MIGRATING :: (List.range 16).map Reg.CH_STATE_MIGRATING) [] fun N => N.onAlc fun _ => L.alc)

/-- Targets and the own-vessel estimate (04 R164, R165, R167, R175, R176): a track without updates coasts and is lost; the
selector of the target page refuses an unused track, counts one that the model does not have (00 R11), and stands still in
FOLLOW-TARGET; the environment estimate becomes valid;
REINIT in modes 3 to 6 alone; a re-run that has caught up becomes the live state. Where log entry 73 decides a detail of it, that
detail is the model's choice, not the spec's. -/
def Obligations.TargetsAndEstimate : Prop :=
  ∀ (s : State) (l : LaneId),
    let L := s.lane l
    (∀ k c, L.trkCfg k = some c →
      ((L.trk k).st = 2 → c.coast * 1000000000 ≤ (L.trk k).idle → OnLane (.tgtCoasting l k) l s fun L M =>
        (M.trk k).st = 3 ∧ (∀ j, j ≠ k → M.trk j = L.trk j) ∧ L.framedUpTo M [] [(0x0B, 1)] fun N => N.onPlt fun _ => L.plt) ∧
      ((L.trk k).st ∈ [1, 2, 3] → c.lost * 1000000000 ≤ (L.trk k).idle → OnLane (.tgtLost l k) l s fun L M =>
        (M.trk k).st = 4 ∧ (∀ j, j ≠ k → M.trk j = L.trk j) ∧ L.framedUpTo M [] [(0x0B, 2)] fun N => N.onPlt fun _ => L.plt) ∧
      ((L.trk k).idle < c.coast * 1000000000 → Idle (.tgtCoasting l k) s) ∧ ((L.trk k).idle < c.lost * 1000000000 → Idle (.tgtLost l k) s)) ∧
    (∀ v, 8 ≤ v → v < 16 → L.variant = .kx922 → L.trkCfg v = none → OnLane (.tgtSelWrite l v) l s fun L M =>
      M.get Reg.MOD_ABSENT_CNT = min (L.get Reg.MOD_ABSENT_CNT + 1) 65535 ∧ M.get Reg.MOD_ABSENT_ADDR_w = Reg.TGT_SEL_TRACK.addr ∧
      L.framed M [Reg.MOD_ABSENT_CNT, Reg.MOD_ABSENT_ADDR_w] [(0x00, 0), (0x0B, 4)]) ∧
    (∀ v, v < 32 → L.variant ≠ .kx922 ∨ v < 8 ∨ 16 ≤ v → (L.mode = 10 ∨ (v ≠ 31 ∧ L.trkCfg v = none) → OnLane (.tgtSelWrite l v) l s fun L M => L.framed M [] [(0x0B, 4)]) ∧
      (L.mode ≠ 10 → v = 31 ∨ L.trkCfg v ≠ none → OnLane (.tgtSelWrite l v) l s fun L M =>
        M.get Reg.TGT_SEL_TRACK = v ∧ L.framed M [Reg.TGT_SEL_TRACK] [])) ∧
    (L.plt.own.st = 1 → L.vc.envSettle ≤ L.plt.own.envTime → OnLane (.envValid l) l s fun L M =>
      M.get Reg.PLOT_STAT_ENV_VALID = 1 ∧ M.plt.own.envOk = true ∧
      L.framedUpTo M [Reg.PLOT_STAT_ENV_VALID] [] fun N => N.onPlt fun _ => L.plt) ∧
    (L.plt.own.st ≠ 1 ∨ L.plt.own.envTime < L.vc.envSettle → Idle (.envValid l) s) ∧
    (3 ≤ L.mode → L.mode ≤ 6 → OnLane (.reinit l) l s fun L M =>
      M.get Reg.PLOT_STAT_STATE = 0 ∧ M.get Reg.PLOT_STAT_ENV_VALID = 0 ∧ M.plt.own.p = L.vc.p0 ∧ (∀ k, M.plt.own.x.getD k 0 = 0) ∧
      M.plt.own.hist = [] ∧ M.plt.own.rerun = none ∧
      L.framedUpTo M [Reg.PLOT_STAT_STATE, Reg.PLOT_STAT_ENV_VALID] [] fun N => N.onPlt fun _ => L.plt) ∧
    (L.mode < 3 ∨ 6 < L.mode → OnLane (.reinit l) l s fun L M => M.plt = L.plt ∧ L.framedPost M [] [] id) ∧
    (∀ r, L.plt.own.rerun = some r →
      (r.live = true → OnLane (.rerunAdopt l) l s fun L M =>
        M.plt.own.x = r.x ∧ M.plt.own.p = r.p ∧ M.plt.own.revised = true ∧ M.get Reg.PLOT_HIST_REVISED = (L.get Reg.PLOT_HIST_REVISED + 1) % 65536 ∧
        M.get Reg.PLOT_RERUN_LONGEST = (if L.get Reg.PLOT_RERUN_LONGEST < r.age then min r.age (2 ^ Reg.PLOT_RERUN_LONGEST.w - 1) else L.get Reg.PLOT_RERUN_LONGEST) ∧
        (L.plt.own.wait = [] → M.plt.own.rerun = none) ∧
        L.framedUpTo M [Reg.PLOT_HIST_REVISED, Reg.PLOT_RERUN_LONGEST] [] fun N => N.onPlt fun _ => L.plt) ∧
      (r.live = false → Idle (.rerunAdopt l) s))

/-- Set-points (05 R199): a set-point command of an active lane waits for the next position-cycle tick, with its tag and sense of
rotation; one that waited before it is answered SUPERSEDED; any other lane answers NOT_ACTIVE and records the event. Where log
entry 74 decides a detail of it, that detail is the model's choice, not the spec's. -/
def Obligations.SetPoints : Prop :=
  ∀ (s : State) (l : LaneId) (tag dir : Nat), tag < 256 → dir < 4 →
    ∀ i cmd, (i, cmd) ∈ [(Instr.setPos l tag dir, 1), (.setHdg l tag dir, 2), (.setPosHdg l tag dir, 3), (.capture l tag dir, 4),
      (.setSpeed l tag dir, 5), (.setLeg l tag dir, 6), (.setCourse l tag dir, 7), (.setFtOfs l tag dir, 8), (.stopRamp l tag dir, 9)] →
      let cmdFlds := [Reg.CTRL_SP_CMD_CMD, Reg.CTRL_SP_CMD_TAG, Reg.CTRL_SP_CMD_DIR]
      let resFlds := [Reg.CTRL_SP_RESULT_TAG, Reg.CTRL_SP_RESULT_CODE]
      let given (M : Lane) : Prop := M.get Reg.CTRL_SP_CMD_CMD = cmd ∧ M.get Reg.CTRL_SP_CMD_TAG = tag ∧ M.get Reg.CTRL_SP_CMD_DIR = dir
      ((s.lane l).active = true → (s.lane l).ctl.pend = none → OnLane i l s fun L M =>
        given M ∧ M.ctl.pend = some ⟨cmd, tag, dir⟩ ∧ L.framedUpTo M cmdFlds [] fun N => N.onCtl fun _ => L.ctl) ∧
      (∀ p, (s.lane l).active = true → (s.lane l).ctl.pend = some p → p.tag < 256 → OnLane i l s fun L M =>
        given M ∧ M.ctl.pend = some ⟨cmd, tag, dir⟩ ∧ M.get Reg.CTRL_SP_RESULT_TAG = p.tag ∧ M.get Reg.CTRL_SP_RESULT_CODE = 6 ∧
        L.framedUpTo M (cmdFlds ++ resFlds) [] fun N => N.onCtl fun _ => L.ctl) ∧
      ((s.lane l).active = false → OnLane i l s fun L M =>
        given M ∧ M.get Reg.CTRL_SP_RESULT_TAG = tag ∧ M.get Reg.CTRL_SP_RESULT_CODE = 5 ∧ L.framed M (cmdFlds ++ resFlds) [(0x10, 2)])

/-- The joystick, the end of a blend, and the end of a plausibility hold (05 R195, R207, R212): the active lane takes the three
deflections, clearing a stale joystick where they are its source; JOY_STALE and CTRL_BLEND_DONE show their state once; the hold of
a group ends when its measurement has agreed, or has lasted, long enough. Where log entries 74 and 79 decide a detail of it, that
detail is the model's choice, not the spec's. -/
def Obligations.ControlInputs : Prop :=
  ∀ (s : State) (l : LaneId),
    let L := s.lane l
    (∀ x y n, x < 1024 → y < 1024 → n < 1024 → x ≠ 512 → y ≠ 512 → n ≠ 512 → L.active = true → OnLane (.ctrlJoyWrite l x y n) l s fun L M =>
      M.get Reg.CTRL_JOY_X = x ∧ M.get Reg.CTRL_JOY_Y = y ∧ M.get Reg.CTRL_JOY_N = n ∧ M.ctl.joyAge = 0 ∧ M.ctl.joyGiven = true ∧
      M.ctl.joyX * 511 = (if x < 512 then (x : Rat) else x - 1024) ∧ M.ctl.joyY * 511 = (if y < 512 then (y : Rat) else y - 1024) ∧
      M.ctl.joyN * 511 = (if n < 512 then (n : Rat) else n - 1024) ∧
      (L.kc.joySrc = none → M.ctl.joyStale = false ∧ M.get Reg.CTRL_STAT_JOY_STALE = 0) ∧
      L.framedUpTo M [Reg.CTRL_JOY_X, Reg.CTRL_JOY_Y, Reg.CTRL_JOY_N, Reg.CTRL_STAT_JOY_STALE] [] fun N => N.onCtl fun _ => L.ctl) ∧
    (∀ x y n, L.active = false → Idle (.ctrlJoyWrite l x y n) s) ∧
    (L.kc.joySrc = none → L.ctl.joyGiven = false ∨ (L.kc.joyTimeout : Rat) * 1000000 < L.ctl.joyAge → L.ctl.joyStale = false → OnLane (.joyStale l) l s fun L M =>
      M.ctl.joyStale = true ∧ M.get Reg.CTRL_STAT_JOY_STALE = 1 ∧
      L.framedUpTo M [Reg.CTRL_STAT_JOY_STALE] [(0x10, 6)] fun N => N.onCtl fun _ => L.ctl) ∧
    (L.flag Reg.CTRL_STAT_BLENDING = true → L.ctl.rx.left = 0 → L.ctl.ry.left = 0 → L.ctl.rn.left = 0 → OnLane (.ctrlBlendDone l) l s fun L M =>
      M.get Reg.CTRL_STAT_BLENDING = 0 ∧ M.get Reg.MODE_CUR_BLENDING = 0 ∧
      L.framed M [Reg.CTRL_STAT_BLENDING, Reg.MODE_CUR_BLENDING] [(0x10, 1)]) ∧
    (∀ heading : Bool,
      let g := if heading then L.ctl.ph else L.ctl.pp
      let shown := if heading then Reg.CTRL_STAT_PLAUS_HDG else Reg.CTRL_STAT_PLAUS_POS
      (g.hold = true → (L.kc.plausOk ≤ g.okRun ∨ L.kc.plausHold ≤ g.time) → OnLane (.ctrlRebase l heading) l s fun L M =>
        (if heading then M.ctl.ph else M.ctl.pp).hold = false ∧ (if heading then M.ctl.pp = L.ctl.pp else M.ctl.ph = L.ctl.ph) ∧
        M.get shown = 0 ∧ M.get Reg.CTRL_PLAUS_CNT_REBASES = min (L.get Reg.CTRL_PLAUS_CNT_REBASES + 1) (2 ^ Reg.CTRL_PLAUS_CNT_REBASES.w - 1) ∧
        (g.okRun < L.kc.plausOk → M.get Reg.CTRL_FAULT_PLAUS_PERSIST = 1) ∧
        L.framedUpTo M [shown, Reg.CTRL_PLAUS_CNT_REBASES, Reg.CTRL_FAULT_PLAUS_PERSIST, Reg.CTRL_STAT_BLENDING, Reg.MODE_CUR_BLENDING]
          [(0x10, 4)] fun N => N.onCtl fun _ => L.ctl) ∧
      (g.hold = false → Idle (.ctrlRebase l heading) s))

/-- Epochs (07 R277-R281, R288, R290, R291, R300): a strobe due opens an epoch with the captures of the locked channels, whose loops
it runs on, and takes up the masks, delays and accepted command; an epoch not finished is skipped and counted; a solution closes it
and shows its number and latch time; attitude becomes FIXED after three epochs in a row on both baselines, and falls after three
beyond the tolerance. Where log entries 68, 69 and 89 decide a detail of it, that detail is the model's choice, not the spec's. -/
def Obligations.SextantEpochs : Prop :=
  ∀ (s : State) (l : LaneId),
    let L := s.lane l
    (∀ lag caps, L.sxOn = false ∨ L.sx.strobeDue = false → Idle (.epochStrobe l ⟨lag, caps⟩) s) ∧
    (∀ lag caps, L.sxOn = true → L.sx.strobeDue = true →
      (L.sx.pendCmd = none → OnLane (.epochStrobe l ⟨lag, caps⟩) l s fun L M =>
        M.sx.open_ = true ∧ M.sx.tL = L.now ∧ M.sx.strobeDue = false ∧ M.sx.strobeTick = true ∧ M.sx.strobes = (L.sx.strobes + 1) % 2 ^ 32 ∧
        (∀ c, (M.sxc c).st = (L.sxc c).st ∧ (M.sxc c).sat = (L.sxc c).sat) ∧
        (∀ m, caps.find? (fun k => decide (k.chan = m.chan)) = some m → (L.sxc m.chan).locked = true →
          (M.sxc m.chan).loop = ((L.sxc m.chan).track L.xc m).loop ∧
          ((L.sxc m.chan).track L.xc m).measure m (lag / 8000000000) ∈ M.sx.caps) ∧
        (∀ c ∈ M.sx.caps, (L.sxc c.chan).locked = true) ∧
        M.sx.exclNow = (List.range 5).map (fun i => L.get (exclReg i)) ∧ M.sx.delayNow = (List.range 3).map (fun k => L.get (Reg.ANT_DELAY_DELAY (k + 1))) ∧
        M.get Reg.SX_CNT_SKIPPED = (if L.sx.open_ then min (L.get Reg.SX_CNT_SKIPPED + 1) 255 else L.get Reg.SX_CNT_SKIPPED) ∧
        L.framedUpTo M [Reg.SX_CNT_SKIPPED] (if L.sx.open_ then [(0x30, 4)] else []) fun N => N.onSx fun _ => L.sx) ∧
      (∀ n, L.sx.pendCmd = some n → n = 1 ∨ n = 2 → OnLane (.epochStrobe l ⟨lag, caps⟩) l s fun L M =>
        M.sx.chans = L.sx.chans.map (fun c => { slips := if c.st = .phaseLock then min 255 (c.slips + 1) else c.slips }) ∧ M.sx.caps = [] ∧
        M.sx.att = 0 ∧ M.get Reg.SX_STAT_ATT = 0 ∧ M.sx.pendCmd = none ∧ M.sx.search = none ∧
        M.sx.sats = (if n = 2 then [] else L.sx.sats) ∧ M.get Reg.SX_CNT_RESTARTS = min (L.get Reg.SX_CNT_RESTARTS + 1) 255 ∧ L.ev 0x30 5 ∈ M.found) ∧
      (L.sx.pendCmd = some 3 → L.sx.att ≠ 0 → OnLane (.epochStrobe l ⟨lag, caps⟩) l s fun _ M =>
        M.sx.att = 1 ∧ M.get Reg.SX_STAT_ATT = 1 ∧ M.sx.pendCmd = none ∧ M.sx.ints12 = [] ∧ M.sx.ints13 = [])) ∧
    (L.sx.withheld = true ∨ (L.sx.open_ = true ∧ L.sx.strobeDue = true) → OnLane (.epochSkipped l) l s fun L M =>
      M.get Reg.SX_CNT_SKIPPED = min (L.get Reg.SX_CNT_SKIPPED + 1) 255 ∧ M.sx.withheld = false ∧ (L.sx.withheld = false → M.sx.open_ = false) ∧
      L.framedUpTo M [Reg.SX_CNT_SKIPPED] [(0x30, 4)] fun N => N.onSx fun _ => L.sx) ∧
    (L.sx.withheld = false → (L.sx.open_ = false ∨ L.sx.strobeDue = false) → Idle (.epochSkipped l) s) ∧
    (∀ e, L.sxOn = true → L.sx.open_ = true → OnLane (.epochSolution l e) l s fun L M =>
      M.sx.open_ = false ∧ M.sx.strobes = L.sx.strobes ∧ M.get Reg.SX_EPOCH_COUNT = L.sx.strobes % 2 ^ 32 ∧
      M.get Reg.SX_LATCH_SEC_LO_SEC = secOf L.sx.tL % 2 ^ 32 ∧ M.get Reg.SX_LATCH_NS_NS = nsOf L.sx.tL % 2 ^ 30 ∧
      M.get Reg.SX_CNT_LATE_SOL =
        (if e.intime ∧ L.sx.strobeTick then L.get Reg.SX_CNT_LATE_SOL else min (L.get Reg.SX_CNT_LATE_SOL + 1) 255) ∧
      ∀ x ∈ M.sx.chans, x.slip = false) ∧
    (∀ e, L.sxOn = false ∨ L.sx.open_ = false → Idle (.epochSolution l e) s) ∧
    (L.sx.att = 1 → 3 ≤ L.sx.run12 → 3 ≤ L.sx.run13 → OnLane (.attFixed l) l s fun L M =>
      M.sx = { L.sx with att := 2, bad12 := 0, bad13 := 0 } ∧ M.get Reg.SX_STAT_ATT = 2 ∧
      L.framedUpTo M [Reg.SX_STAT_ATT] [(0x30, 2)] fun N => N.onSx fun _ => L.sx) ∧
    (L.sx.att ≠ 1 ∨ L.sx.run12 < 3 ∨ L.sx.run13 < 3 → Idle (.attFixed l) s) ∧
    (L.sx.att = 2 → (3 ≤ L.sx.bad12 ∨ 3 ≤ L.sx.bad13) → OnLane (.baselineFault l) l s fun L M =>
      M.sx.att = 1 ∧ M.sx.run12 = 0 ∧ M.sx.run13 = 0 ∧ M.get Reg.SX_STAT_ATT = 1 ∧ M.get Reg.SX_FAULT_BASELINE = 1 ∧
      M.get Reg.SX_CNT_REFIX = min (L.get Reg.SX_CNT_REFIX + 1) 255 ∧ M.get Reg.SX_ATT_SIG_HDG = 0xFFFF ∧ M.get Reg.SX_ATT_SIG_RP = 0xFFFF ∧
      L.framedUpTo M [Reg.SX_STAT_ATT, Reg.SX_FAULT_BASELINE, Reg.SX_CNT_REFIX, Reg.SX_ATT_SIG_HDG, Reg.SX_ATT_SIG_RP] [(0x30, 3), (0x30, 6)]
        fun N => N.onSx fun _ => L.sx)

/-- Acquisition and tracking (07 R266-R269, R272, R273, R275, R276): a pass of the search bank that has run its time, with or without a
detection; a channel times out of pull-in, locks its code, locks or loses its phase, loses the signal, leaves a side peak; what a
satellite's data remember of it. Where log entries 68 and 89 decide a detail of it, that detail is the model's choice, not the
spec's. -/
def Obligations.SextantTracking : Prop :=
  ∀ (s : State) (l : LaneId) (c : Nat),
    let L := s.lane l
    let x := L.sxc c
    let sxOnly (M : Lane) (es : List (Nat × Nat)) : Prop := L.framedUpTo M [] es fun N => N.onSx fun _ => L.sx
    let noReg (M : Lane) : Prop := M.regs = L.regs ∧ L.onlyRegs (M.onSx fun _ => L.sx)
    (∀ r, L.sxOn = false ∨ L.bankPaused = true → Idle (.acquisitionPass l r) s) ∧
    (∀ st n a r, L.sxOn = true → L.bankPaused = false → L.sx.search = some (st, n, a) →
      let g := gridOf st.sys
      (L.sx.passNs < g.passNs → Idle (.acquisitionPass l r) s) ∧
      (g.passNs ≤ L.sx.passNs → g.detects r = false → 1 < n → OnLane (.acquisitionPass l r) l s fun L M =>
        M.sx = { L.sx with search := some (st, n - 1, a), passNs := 0 }) ∧
      (g.passNs ≤ L.sx.passNs → g.detects r = false → n ≤ 1 → OnLane (.acquisitionPass l r) l s fun L M =>
        M.sx.last = some st ∧ M.sx.chans = L.sx.chans) ∧
      (∀ k, L.freeChan L.searchAnt false (((L.satData st).bind SatData.elev).getD 0) = some k → k < L.sx.chans.length → (L.sxc k).st = .idle →
        (∀ y ∈ L.sx.chans, y.sat ≠ some st) → L.xc.enabled st.sys = true → st.trackable = true → g.passNs ≤ L.sx.passNs → g.detects r = true →
        OnLane (.acquisitionPass l r) l s fun L M =>
          let centre := if a then Config.predictedDoppler st.sys.code st.prn L.now else 0
          M.sx.last = some st ∧ (∀ j, j ≠ k → M.sxc j = L.sxc j) ∧
          M.sxc k = { st := .pullIn, sat := some st, loop := { code := r.code / 2, freq := g.doppler centre (g.passes a) (g.passes a - n) r.dop },
                      elev := ((L.satData st).bind SatData.elev).getD 0, slips := (L.sxc k).slips })) ∧
    (x.st = .pullIn → 1000000000 ≤ x.pullNs → OnLane (.pullInTimeout l c) l s fun L M =>
      M.sxc c = { slips := x.slips } ∧ (∀ st, x.sat = some st → x.lower = true → (M.satData st).any SatData.singleBand = true) ∧
      (x.lower = false → M.sx.sats = L.sx.sats) ∧ sxOnly M []) ∧
    (x.st ≠ .pullIn ∨ x.pullNs < 1000000000 → Idle (.pullInTimeout l c) s) ∧
    (∀ ofs, x.st = .pullIn → L.sxOn = true → x.placed = false ∨ absQ ofs ≤ 3 → OnLane (.codeLock l ⟨c, ofs⟩) l s fun L M =>
      M.sxc c = { x with st := .codeLock, lockNs := 0, loop := { x.loop with code := x.loop.code + ofs } } ∧
      (∀ st, x.sat = some st → (M.satData st).any SatData.research = false) ∧ M.found = L.found) ∧
    (∀ ofs, x.st ≠ .pullIn ∨ (x.placed = true ∧ 3 < absQ ofs) → Idle (.codeLock l ⟨c, ofs⟩) s) ∧
    (∀ ind ms, x.st = .codeLock → L.sxOn = true → 8 / 10 ≤ ind → 200 ≤ ms → OnLane (.channelLockChange l ⟨c, ind, ms⟩) l s fun L M =>
      (M.sxc c).st = .phaseLock ∧ (M.sxc c).phaseNs = 0 ∧ ((M.sxc c).half = true ↔ (x.sat.map Sat.sys = some .gps ∧ x.lower = false)) ∧ noReg M) ∧
    (∀ ind ms, x.st = .phaseLock → ind < 6 / 10 → 100 ≤ ms → OnLane (.channelLockChange l ⟨c, ind, ms⟩) l s fun _ M =>
      M.sxc c = { x with st := .codeLock, phaseNs := 0, half := false, slip := true, slips := min 255 (x.slips + 1), smooth := none } ∧
      sxOnly M (if x.usedAtt then [(0x31 + antOf c, 2)] else [])) ∧
    (∀ ind ms, (x.locked = false ∨ (x.st = .codeLock ∧ (ind < 8 / 10 ∨ ms < 200)) ∨ (x.st = .phaseLock ∧ (6 / 10 ≤ ind ∨ ms < 100))) →
      Idle (.channelLockChange l ⟨c, ind, ms⟩) s) ∧
    (∀ cn0 ms, x.locked = true → cn0 < L.xc.cn0Track → 2000 ≤ ms → OnLane (.trackingLost l ⟨c, cn0, ms⟩) l s fun L M =>
      M.sxc c = { slips := if x.st = .phaseLock then min 255 (x.slips + 1) else x.slips } ∧
      (∀ st, x.sat = some st → M.tracked st = false → (M.satData st).any SatData.research = true) ∧
      M.found = L.found ++ (if x.st = .phaseLock ∧ x.usedAtt = true then [L.ev (0x31 + antOf c) 2] else [])) ∧
    (∀ cn0 ms, x.locked = false ∨ L.xc.cn0Track ≤ cn0 ∨ ms < 2000 → Idle (.trackingLost l ⟨c, cn0, ms⟩) s) ∧
    (∀ st d, L.satData st = some d →
      (d.research = true → 10000000000 ≤ d.researchNs → OnLane (.reacquisitionExpiry l st) l s fun L M =>
        (M.satData st).any SatData.research = false ∧ (∀ t, t ≠ st → M.satData t = L.satData t) ∧ sxOnly M []) ∧
      (d.research = false ∨ d.researchNs < 10000000000 → Idle (.reacquisitionExpiry l st) s) ∧
      (d.singleBand = true → 60000000000 ≤ d.singleNs → L.sxOn = true → OnLane (.lowerBandRetry l st) l s fun L M =>
        (M.satData st).any SatData.singleBand = false ∧ (∀ t, t ≠ st → M.satData t = L.satData t) ∧ noReg M) ∧
      (d.singleBand = false ∨ d.singleNs < 60000000000 ∨ L.sxOn = false → Idle (.lowerBandRetry l st) s)) ∧
    (∀ st ups u, x.locked = true → x.lower = false → x.sat = some st → st.sys ≠ .gps → ups.length = 20 → ups.all Taps.sidePeak = true →
      ups.getLast? = some u → OnLane (.sidePeakCorrection l c ups) l s fun L M =>
        M.sxc c = { x with loop := { x.loop with code := x.loop.code + (if u.vl < u.ve then 1 / 2 else -1 / 2) } } ∧
        (∀ j, j ≠ c → M.sxc j = L.sxc j) ∧ sxOnly M []) ∧
    (∀ ups, x.locked = false ∨ x.lower = true ∨ ups.length ≠ 20 ∨ ups.all Taps.sidePeak = false → Idle (.sidePeakCorrection l c ups) s) ∧
    (∀ st m, x.locked = true → x.lower = false → x.sat = some st → OnLane (.navigationMessageDecoded l c m) l s fun L M =>
      (M.satData st).any SatData.eph = ((L.satData st).any SatData.eph || m.eph) ∧ M.sx.gpsTime = (L.sx.gpsTime || m.gpsTime) ∧
      (m.eph = true → (M.satData st).any SatData.healthy = m.healthy) ∧ (m.preamble = true → st.sys = .gps → (M.sxc c).half = false) ∧
      (∀ a ∈ m.almanacs, (M.satData a.1).any SatData.almanac = true) ∧
      (m.wrongHalf = false → m.utc = none → M.found = L.found)) ∧
    (∀ m, x.locked = false ∨ x.lower = true → Idle (.navigationMessageDecoded l c m) s)

/-- What reaches the Sextant from outside (00 R2, R8; 07 R264, R265, R270, R288, R300, R302): the other lane's data, the antennas' bias
and gain, an antenna without signal, a new delay, and the host's commands and exclusions. Where log entry 68 decides a detail of it,
that detail is the model's choice, not the spec's. -/
def Obligations.SextantInputs : Prop :=
  ∀ (s : State) (l : LaneId),
    let L := s.lane l
    let o := (s.lane l.other).sx
    (L.sxOn = true → (s.lane l.other).sxOn = true → L.sx.askAge ≤ 200 → L.flag Reg.SX_STAT_LANE_DATA = false → o.sats ≠ [] ∨ o.posKnown = true →
      OnLane (.sextantDataReceived l) l s fun L M =>
        M.get Reg.SX_STAT_LANE_DATA = 1 ∧ M.sx.posKnown = (L.sx.posKnown || o.posKnown) ∧ M.sx.gpsTime = (L.sx.gpsTime || o.gpsTime) ∧
        M.sx.pos = (if L.sx.posKnown then L.sx.pos else o.pos) ∧ M.sx.chans = L.sx.chans ∧
        (∀ d ∈ o.sats, (d.eph = true → (M.satData d.sat).any SatData.eph = true) ∧ (d.almanac = true → (M.satData d.sat).any SatData.almanac = true)) ∧
        L.framedUpTo M [Reg.SX_STAT_LANE_DATA] [] fun N => N.onSx fun _ => L.sx) ∧
    (200 < L.sx.askAge ∨ L.flag Reg.SX_STAT_LANE_DATA = true ∨ (s.lane l.other).sxOn = false → Idle (.sextantDataReceived l) s) ∧
    (∀ k, k < 3 → L.variant = .kx960 →
      (∀ cur limited, cur < 4096 → OnLane (.antBiasFault l k cur limited) l s fun L M =>
        let st := if s.biasOn k = false then 0 else if limited then 3 else if cur < 20 then 2 else 1
        M.get (Reg.ANT_BIAS_CURRENT (k + 1)) = cur ∧ M.get (Reg.ANT_BIAS_STATUS (k + 1)) = st ∧ M.get (Reg.ANT_STAT_BIAS (k + 1)) = st ∧
        (2 ≤ st ∧ st ≠ L.get (Reg.ANT_BIAS_STATUS (k + 1)) → M.get (Reg.ANT_FAULT_BIAS_FAULT (k + 1)) = 1 ∧ M.found = L.found ++ [L.ev (0x31 + k) 0]) ∧
        (st < 2 ∨ st = L.get (Reg.ANT_BIAS_STATUS (k + 1)) → M.found = L.found ∧
          M.get (Reg.ANT_FAULT_BIAS_FAULT (k + 1)) = L.get (Reg.ANT_FAULT_BIAS_FAULT (k + 1))) ∧
        L.keepsBut M [Reg.ANT_BIAS_CURRENT (k + 1), Reg.ANT_BIAS_STATUS (k + 1), Reg.ANT_STAT_BIAS (k + 1), Reg.ANT_FAULT_BIAS_FAULT (k + 1)] ∧ L.onlyRegs M) ∧
      (∀ up lo still, up ≤ 600 → lo ≤ 600 → OnLane (.agcLimit l k up lo still) l s fun L M =>
        let stays (i g : Nat) (b : Bool) : Prop := b = true ∧ L.sx.gain.getD i none = some g ∧ (g = 0 ∨ g = 600)
        let ran (i g : Nat) (b : Bool) : Prop :=
          (stays i g b → M.sx.gainNs.getD i 0 = L.sx.gainNs.getD i 0) ∧ (¬ stays i g b → M.sx.gainNs.getD i 0 = 0)
        let held := 1000000000 ≤ M.sx.gainNs.getD (2 * k) 0 ∨ 1000000000 ≤ M.sx.gainNs.getD (2 * k + 1) 0
        ran (2 * k) up still.1 ∧ ran (2 * k + 1) lo still.2 ∧
        M.get (Reg.ANT_AGC_UPPER (k + 1)) = up ∧ M.get (Reg.ANT_AGC_LOWER (k + 1)) = lo ∧ (M.get (Reg.ANT_STAT_AGC_LIMIT (k + 1)) = 1 ↔ held) ∧
        (held ∧ L.flag (Reg.ANT_STAT_AGC_LIMIT (k + 1)) = false → M.found = L.found ++ [L.ev (0x31 + k) 4]) ∧
        (¬ held ∨ L.flag (Reg.ANT_STAT_AGC_LIMIT (k + 1)) = true → M.found = L.found) ∧
        L.keepsBut M [Reg.ANT_AGC_UPPER (k + 1), Reg.ANT_AGC_LOWER (k + 1), Reg.ANT_STAT_AGC_LIMIT (k + 1)] ∧ L.onlyRegs (M.onSx fun _ => L.sx))) ∧
    (∀ k j, k < 3 → j < 3 → j ≠ k → 4 ≤ L.trackedOn j → 10000000000 ≤ L.sx.noSignal.getD k 0 → L.flag (Reg.ANT_STAT_NO_SIGNAL (k + 1)) = false →
      L.sxOn = true → OnLane (.antNoSignal l k) l s fun L M =>
        M.get (Reg.ANT_STAT_NO_SIGNAL (k + 1)) = 1 ∧ L.framed M [Reg.ANT_STAT_NO_SIGNAL (k + 1)] [(0x31 + k, 1)]) ∧
    (∀ k, L.sx.delayNew.getD k false = true → OnLane (.antDelayChanged l k) l s fun L M =>
      M.sx.delayNew.getD k false = false ∧ L.framedUpTo M [] [(0x31 + k, 3)] fun N => N.onSx fun _ => L.sx) ∧
    (∀ i mask, i < 5 → mask < 2 ^ (exclReg i).w → L.variant = .kx960 → OnLane (.sxExclWrite l i mask) l s fun L M =>
      M.get (exclReg i) = mask ∧ M.sx.exclNow = L.sx.exclNow ∧ L.framed M [exclReg i] []) ∧
    (∀ i mask, i < 5 → L.variant ≠ .kx960 → OnLane (.sxExclWrite l i mask) l s fun L M => L.countsAbsent M (exclReg i).addr) ∧
    (∀ tag, tag < 256 → ∀ i n, (i, n) ∈ [(Instr.restartAcq l tag, 1), (.coldRestart l tag, 2), (.refixAtt l tag, 3)] →
      let cmdFlds := [Reg.SX_CMD_TAG, Reg.SX_CMD_CMD, Reg.SX_CMD_RESULT]
      let shows (M : Lane) (r : Nat) : Prop := M.get Reg.SX_CMD_TAG = tag ∧ M.get Reg.SX_CMD_CMD = n ∧ M.get Reg.SX_CMD_RESULT = r
      (L.variant ≠ .kx960 → OnLane i l s fun L M => L.countsAbsent M Reg.SX_CMD_CMD.addr) ∧
      (L.variant = .kx960 →
        (n ≤ 2 → L.active = true → L.sxInUse = true → OnLane i l s fun L M => shows M 2 ∧ L.framed M cmdFlds [(0x30, 7)]) ∧
        (n = 3 → L.attConfigured = false → OnLane i l s fun L M => shows M 3 ∧ L.framed M cmdFlds [(0x30, 7)]) ∧
        ((if n = 3 then L.attConfigured = true else L.active = false ∨ L.sxInUse = false) → OnLane i l s fun L M =>
          shows M 0 ∧ M.sx = { L.sx with pendCmd := some n } ∧ L.framedUpTo M cmdFlds [] fun N => N.onSx fun _ => L.sx)))

/-- Analogue inputs (08 R319-R323, R325): a coarse sample counts and issues the Vernier value from the second on; a fine output
makes a filled chain VALID; a cause complete in eight samples faults the input, and the last to leave restarts it; STEP and DIFF
set and clear. Where log entries 66 and 67 decide a detail of it, that detail is the model's choice, not the spec's. -/
def Obligations.AnalogInputs : Prop :=
  ∀ (s : State) (l : LaneId) (n : Nat), n < 32 →
    let L := s.lane l
    let a := L.ai n
    let mode := L.get (Reg.AI_CFG_MODE n)
    let anaOnly (M : Lane) (fs : List Fld) (es : List (Nat × Nat)) : Prop := L.framedUpTo M fs es fun N => N.onAna fun _ => L.ana
    (∀ v tf ov, mode = 0 ∨ L.ana.run = false → Idle (.coarseSample l n ⟨v, tf⟩ ov) s) ∧
    (∀ v tf ov, mode ≠ 0 → L.ana.run = true → a.st ≠ .off → OnLane (.coarseSample l n ⟨v, tf⟩ ov) l s fun L M =>
      (M.ai n).coarse = a.coarse + 1 ∧ (M.ai n).st = a.st ∧
      (M.ai n).vern = (if a.coarse = 0 then a.vern else if a.coarse = 1 then v * 6 / 5 else v) ∧
      (M.ai n).modulator.cnt = (if (if a.modulator.on then ov = false else ov = true) then min 8 (a.modulator.cnt + 1) else 0) ∧
      (2 ≤ a.coarse → mode = 1 → a.above.on = false → (M.ai n).above.cnt = if 10500000 < v ∨ v < -10500000 then min 8 (a.above.cnt + 1) else 0) ∧
      (2 ≤ a.coarse → mode = 2 → a.under.on = false → (M.ai n).under.cnt = if v < 3600000 then min 8 (a.under.cnt + 1) else 0) ∧
      anaOnly M [] []) ∧
    (∀ x tf ofs taken, mode ≠ 0 → L.ana.run = true → a.st ≠ .off → OnLane (.fineOutput l n x tf ofs taken) l s fun L M =>
      (M.ai n).fineRaw = x ∧ (M.ai n).fill = a.fill + taken ∧ (L.flag (Reg.AI_CFG_DCB_EN n) = false → (M.ai n).fine = x) ∧
      (M.ai n).st = (if a.st = .settling ∧ L.aiOrder n + firLength (L.aiDecim n) ≤ a.fill + taken then .valid else a.st) ∧
      M.get Reg.AI_REPHASE_CNT = (if ofs < 948750 ∨ 988750 < ofs then min (L.get Reg.AI_REPHASE_CNT + 1) 65535 else L.get Reg.AI_REPHASE_CNT) ∧
      anaOnly M [Reg.AI_REPHASE_CNT] []) ∧
    (mode ≠ 0 → a.st ≠ .off → a.above.on = false → 8 ≤ a.above.cnt → OnLane (.aiFault l n) l s fun _ M =>
      (M.ai n).st = .fault ∧ (M.ai n).above = ⟨true, 0⟩ ∧ anaOnly M [] (if a.st = .fault then [] else [(0x38, 0)])) ∧
    (mode ≠ 0 → a.st ≠ .off → L.termBad n = true → a.terminal = false → OnLane (.aiFault l n) l s fun _ M =>
      (M.ai n).st = .fault ∧ (M.ai n).terminal = true ∧ anaOnly M [] (if a.st = .fault then [] else [(0x38, 0)])) ∧
    (a.above.cnt < 8 → a.under.cnt < 8 → a.modulator.cnt < 8 → L.termBad n = false → Idle (.aiFault l n) s) ∧
    (mode ≠ 0 → a.st = .fault → (a.above.on = false ∨ 8 ≤ a.above.cnt) → a.under.on = false → a.modulator.on = false → L.termBad n = false →
      OnLane (.aiFaultClear l n) l s fun L M =>
        (M.ai n).st = .settling ∧ (M.ai n).above.on = false ∧ (M.ai n).terminal = false ∧ (M.ai n).fill = 0 ∧ (M.ai n).coarse = 0 ∧
        anaOnly M [] (if a.restarted then [] else [(0x38, 1)])) ∧
    (a.st = .fault → a.above.on = true → a.above.cnt < 8 → OnLane (.aiFaultClear l n) l s fun L M =>
      (M.ai n).st = .fault ∧ (M.ai n).above = a.above ∧ anaOnly M [] []) ∧
    (8 ≤ a.step.cnt → OnLane (.aiStep l n) l s fun L M =>
      (M.ai n).step = ⟨!a.step.on, 0⟩ ∧ anaOnly M [] (if a.step.on then [] else [(0x38, 2)])) ∧
    (L.bit Reg.AI_DIFF_MASK n = false → 3 ≤ a.diffOver → OnLane (.aiLaneDiff l n) l s fun L M =>
      L.bitTo M Reg.AI_DIFF_MASK n true ∧ M.get (Reg.AI_STAT_DIFF n) = 1 ∧ L.framed M [Reg.AI_DIFF_MASK, Reg.AI_STAT_DIFF n] [(0x38, 3)]) ∧
    (L.bit Reg.AI_DIFF_MASK n = true → 3 ≤ a.diffIn → OnLane (.aiLaneDiff l n) l s fun L M =>
      L.bitTo M Reg.AI_DIFF_MASK n false ∧ M.get (Reg.AI_STAT_DIFF n) = 0 ∧ L.framed M [Reg.AI_DIFF_MASK, Reg.AI_STAT_DIFF n] [])

/-- Analogue configuration and outputs (08 R318, R321, R326, R329, R331, R337): writes the active lane takes, and the three
refusals; the host's value of an output whose source is the host; an output's fault entered and left after twenty ticks. Where log
entry 66 decides a detail of it, that detail is the model's choice, not the spec's. -/
def Obligations.AnalogWrites : Prop :=
  ∀ (s : State) (l : LaneId) (n : Nat), n < 32 →
    let L := s.lane l
    let resFlds := [Reg.AI_CFG_RESULT_CODE, Reg.AI_CFG_RESULT_CH]
    let refused (M : Lane) (ch code : Nat) : Prop :=
      M.get Reg.AI_CFG_RESULT_CODE = code ∧ M.get Reg.AI_CFG_RESULT_CH = ch ∧ L.framed M resFlds [(0x38, 4)]
    (L.active = false → (∀ v, OnLane (.aiCfgWrite l n v) l s fun _ M => refused M n 1) ∧ (∀ v, OnLane (.aiFreezeWrite l v) l s fun _ M => refused M 0 1) ∧
      (∀ v, OnLane (.aiRestart l v) l s fun _ M => refused M 0 1)) ∧
    (L.active = true → L.aiInUse n = true → (∀ v, OnLane (.aiCfgWrite l n v) l s fun _ M => refused M n 2) ∧
      (OnLane (.aiRestart l (2 ^ n)) l s fun _ M => refused M n 2)) ∧
    (∀ mode order decim rest, L.active = true → L.aiInUse n = false → mode < 4 → order < 4 → decim < 4 → rest < 2 ^ 22 →
      let v := mode + 64 * order + 256 * decim + 1024 * rest
      (mode = 3 ∨ order = 3 ∨ decim = 3 → OnLane (.aiCfgWrite l n v) l s fun _ M => refused M n 3) ∧
      (mode ≠ 3 → order ≠ 3 → decim ≠ 3 → OnLane (.aiCfgWrite l n v) l s fun L M =>
        M.get (Reg.AI_CFG_MODE n) = mode ∧ M.get (Reg.AI_CFG_ORDER n) = order ∧ M.get (Reg.AI_CFG_DECIM n) = decim ∧
        M.get (Reg.AI_CFG_FINE_TYPE n) = rest % 2 ∧ M.get (Reg.AI_CFG_DCB_EN n) = rest / 2 % 2 ∧
        M.get (Reg.AI_CFG_GROUP n) = L.get (Reg.AI_CFG_GROUP n) ∧ n ∈ M.ana.written ∧
        (mode ≠ L.get (Reg.AI_CFG_MODE n) → n < L.ana.ins.length → (M.ai n).st = (if mode = 0 then .off else .settling)))) ∧
    (∀ v, v < 2 ^ 32 → L.active = true → OnLane (.aiFreezeWrite l v) l s fun L M =>
      M.get Reg.AI_FREEZE_MASK = v ∧ M.ana.freezeWritten = true ∧ L.framedUpTo M [Reg.AI_FREEZE_MASK] [] fun N => N.onAna fun _ => L.ana) ∧
    (L.active = true → L.aiInUse n = false → L.get (Reg.AI_CFG_MODE n) ≠ 0 → (L.ai n).st ≠ .off → OnLane (.aiRestart l (2 ^ n)) l s fun L M =>
      (M.ai n).st = (if (L.ai n).st = .fault then .fault else .settling) ∧ (M.ai n).fill = 0 ∧ (M.ai n).coarse = 0 ∧ (M.ai n).vernOk = false ∧
      (∀ k, k ≠ n → M.ai k = L.ai k) ∧
      L.framedUpTo M [] (if (L.ai n).restarted then [] else [(0x38, 1)]) fun N => N.onAna fun _ => L.ana) ∧
    (∀ m v, m < 16 →
      (L.active = true → L.get (Reg.AO_CFG_SOURCE m) = 3 → -(2 ^ 31) ≤ v → v < 2 ^ 31 → OnLane (.aoHostWrite l m v) l s fun L M =>
        M.geti (Reg.AO_HOST_VALUE m) = v ∧ L.framed M [Reg.AO_HOST_VALUE m] []) ∧
      (L.active = false ∨ L.get (Reg.AO_CFG_SOURCE m) ≠ 3 → OnLane (.aoHostWrite l m v) l s fun L M => L.framed M [] [(0x39, 1)])) ∧
    (∀ m, m < 16 →
      let fltFlds := [Reg.AO_CFG_FAULT m, Reg.AO_CFG_CAUSE m, Reg.AO_FAULTED_MASK]
      (L.flag (Reg.AO_CFG_FAULT m) = false → 20 ≤ (L.ao m).out → OnLane (.aoFault l m) l s fun L M =>
        M.get (Reg.AO_CFG_FAULT m) = 1 ∧ M.get (Reg.AO_CFG_CAUSE m) = (if (L.ao m).limited then if L.get (Reg.AO_CFG_MODE m) = 2 then 1 else 2 else 3) ∧
        L.bitTo M Reg.AO_FAULTED_MASK m true ∧ M.get Reg.AO_FAULT_AO_FAULT_SEEN = 1 ∧
        L.framed M (Reg.AO_FAULT_AO_FAULT_SEEN :: fltFlds) [(0x39, 0)]) ∧
      (L.flag (Reg.AO_CFG_FAULT m) = true → 20 ≤ (L.ao m).back → OnLane (.aoFault l m) l s fun L M =>
        M.get (Reg.AO_CFG_FAULT m) = 0 ∧ M.get (Reg.AO_CFG_CAUSE m) = 0 ∧ L.bitTo M Reg.AO_FAULTED_MASK m false ∧ L.framed M fltFlds []))

/-- Field terminals (17 R593, R596): a safety output's stage turned off by overload and tried again; the open-wire test judged by
both lanes' monitors, two failures in a row setting OPEN; a finding of a terminal monitor. Where log entry 65 decides a detail of
it, that detail is the model's choice, not the spec's. -/
def Obligations.FieldTerminals : Prop :=
  ∀ (s : State),
    (∀ k, Answers (.soOverloadOff k) s fun t => t.sh.so = modAt s.sh.so k (fun _ => ⟨true⟩) ∧ t = { s with sh := { s.sh with so := t.sh.so } }) ∧
    (∀ k, Answers (.soOverloadRetry k) s fun t => t.sh.so = modAt s.sh.so k (fun _ => ⟨false⟩) ∧ t = { s with sh := { s.sh with so := t.sh.so } }) ∧
    (∀ n a b, s.driver = none → Idle (.openWireTest n a b) s) ∧
    (∀ l n (a b : Bool), n < 32 → s.driver = some l → (s.lane l).coasting = false → (s.lane l).get (Reg.AI_CFG_MODE n) = 1 →
      (s.lane l).get Reg.TICK_CNT_COUNT % 1000 = 30 * n + 7 → Answers (.openWireTest n a b) s fun t =>
        t.sh = s.sh ∧ t.pending = s.pending ∧
        ∀ k, (s.lane k).get (Reg.AI_CFG_MODE n) = 1 → ((s.lane k).ai n).st ≠ .off →
          let fail := if k = .a then a else b
          let old := ((s.lane k).ai n).term
          let new := ((t.lane k).ai n).term
          new.openFails = (if fail then min 2 (old.openFails + 1) else 0) ∧ new.openPasses = (if fail then 0 else min 2 (old.openPasses + 1)) ∧
          new.openWire = (if 2 ≤ new.openFails then true else if 2 ≤ new.openPasses then false else old.openWire) ∧
          (s.lane k).framedUpTo (t.lane k) [] [] fun N => N.onAna fun _ => (s.lane k).ana) ∧
    (∀ l n on, n < 32 → (s.lane l).get (Reg.AI_CFG_MODE n) ≠ 0 → ((s.lane l).ai n).st ≠ .off → OnLane (.aiTerminalFinding l n .short on) l s fun L M =>
      (M.ai n).term = { (L.ai n).term with short := on } ∧ L.framedUpTo M [] [] fun N => N.onAna fun _ => L.ana) ∧
    (∀ l n on, n < 32 → (s.lane l).get (Reg.AI_CFG_MODE n) = 2 → ((s.lane l).ai n).st ≠ .off → OnLane (.aiTerminalFinding l n .reversed on) l s fun L M =>
      (M.ai n).term = { (L.ai n).term with reversed := on } ∧ L.framedUpTo M [] [] fun N => N.onAna fun _ => L.ana) ∧
    (∀ l n on, n < 32 → (s.lane l).get (Reg.AI_CFG_MODE n) = 1 → Idle (.aiTerminalFinding l n .reversed on) s)

/-- Time sources (09 R345, R347, R349, R350, R352, R353, R372): SNAP copies the chronometer; an offset of an absent source does nothing,
one not valid only shows itself; the first offset of an unset clock selects its source and asks for the step; an offset below 1 ms
of the selected source of a locked clock steers f and s; a source lost or disabled is dropped, a better one is taken again. Where
log entry 55 decides a detail of it, that detail is the model's choice, not the spec's. -/
def Obligations.TimeSources : Prop :=
  ∀ (s : State) (l : LaneId),
    let L := s.lane l
    (OnLane (.snap l) l s fun L M =>
      M.get Reg.CHR_SNAP_SEC_LO_SEC = secOf L.now % 2 ^ 32 ∧ M.get Reg.CHR_SNAP_SEC_HI_SEC = secOf L.now / 2 ^ 32 % 2 ^ 16 ∧
      M.get Reg.CHR_SNAP_SEC_HI_FRAC = fracOf L.now % 2 ^ 16 ∧ M.get Reg.CHR_SNAP_NS_NS = nsOf L.now % 2 ^ 30 ∧
      L.framed M [Reg.CHR_SNAP_SEC_LO_SEC, Reg.CHR_SNAP_SEC_HI_SEC, Reg.CHR_SNAP_SEC_HI_FRAC, Reg.CHR_SNAP_NS_NS] []) ∧
    (∀ tL gps sigma t, L.servo = 5 ∨ L.srcAbsent 1 = true → Idle (.offsetReceived l (.gnss tL gps sigma) t) s) ∧
    (∀ tL gps sigma t, L.servo ≠ 5 → L.srcAbsent 1 = false → 100 < sigma → OnLane (.offsetReceived l (.gnss tL gps sigma) t) l s fun L M =>
      M.get (Reg.CHR_SRC_STAT_QUAL 1) = 0 ∧ M.srcState 1 = L.srcState 1 ∧ M.chr = L.chr.setSrc 1 { L.chr.src 1 with run := 0 } ∧
      L.framedUpTo M [Reg.CHR_SRC_STAT_QUAL 1, Reg.CHR_SRC_OFS_X 1] [] fun N => N.onChr fun _ => L.chr) ∧
    (∀ tL gps sigma t x, x = gpsTimeOf tL - gps → L.servo = 0 → L.selected = 0 → L.srcAbsent 1 = false → sigma ≤ 100 → L.chr.src 1 = {} → L.srcState 1 = 1 →
      2 ≤ L.cc.qualN → L.get (Reg.CHR_SRC_STAT_QUAL 1) = 0 → L.chr.stepNext = none → OnLane (.offsetReceived l (.gnss tL gps sigma) t) l s fun L M =>
        M.servo = 2 ∧ M.selected = 1 ∧ M.chr.stepNext = some ⟨-x, 1⟩ ∧ M.srcState 1 = 2 ∧ M.get (Reg.CHR_SRC_STAT_QUAL 1) = 1 ∧
        M.chr.f = L.chr.f ∧ M.chr.s = L.chr.s ∧ M.chr.ns = L.chr.ns ∧ (M.chr.src 1).prev = some (x, t, L.chr.slewAt t, L.chr.stepSum)) ∧
    (∀ tL gps sigma t x d x0 r, x = gpsTimeOf tL - gps → L.servo = 3 → L.selected = 1 → L.srcAbsent 1 = false → sigma ≤ 100 → absQ x < 1000000 → L.srcState 1 = 3 →
      L.deviation 1 x t = some d → d ≤ L.cc.gate → (L.chr.src 1).prev = some (x0, r) → L.chr.stepNext = none →
      OnLane (.offsetReceived l (.gnss tL gps sigma) t) l s fun L M =>
        M.chr.s = ppbQ (clampQ (-x / L.cc.tau 1) (-1000) 1000) ∧
        M.chr.f = ppbQ (clampQ (L.chr.f - x * (min (t - r.1) (L.cc.loss 1) / 1000000000) / (4 * L.cc.tau 1 * L.cc.tau 1)) (-200000) 200000) ∧
        M.srcState 1 = 3 ∧ M.selected = 1 ∧ M.get (Reg.CHR_SRC_STAT_AGE 1) = 0 ∧ M.chr.ns = L.chr.ns ∧ (∀ q ∈ M.chr.pend, q.src = 0)) ∧
    (∀ k, 1 ≤ k → k ≤ 4 → (L.srcState k = 2 ∨ L.srcState k = 3) → L.cc.loss k ≤ 1000000 * (L.get (Reg.CHR_SRC_STAT_AGE k) : Rat) →
      L.selected ≠ k → OnLane (.sourceLoss l k) l s fun L M =>
        M.srcState k = 1 ∧ M.get (Reg.CHR_SRC_STAT_QUAL k) = 0 ∧ M.chr.src k = {} ∧
        L.framedUpTo M [Reg.CHR_SRC_STAT_STATE k, Reg.CHR_SRC_STAT_QUAL k] [] fun N => N.onChr fun _ => L.chr) ∧
    (∀ k t, 1 ≤ k → k ≤ 4 → (L.chr.src k).qualSince = some t → L.srcState k = 3 → L.selected ≠ 0 → (L.active = true ∨ L.srcState 4 ≠ 3) →
      L.cc.rank k < L.cc.rank L.selected → t + L.cc.revertHold ≤ L.now → L.chr.lastSel = L.selected → OnLane (.sourceRevert l k) l s fun L M =>
        M.selected = k ∧ M.chr.lastSel = k ∧ (∀ q ∈ M.chr.pend, q.src = 0) ∧ M.get Reg.CHR_CNT_SWITCHES = min (L.get Reg.CHR_CNT_SWITCHES + 1) 255 ∧
        L.ev 0x40 3 ∈ M.found) ∧
    (∀ mask, mask < 8 → L.active = true → OnLane (.chrSrcDisWrite l mask) l s fun L M =>
      M.get Reg.CHR_SRC_DIS_MASK = mask ∧ M.chr.srcDisWritten = true ∧
      (∀ k, 1 ≤ k → k ≤ 3 → testBit mask (k - 1) = true → M.srcState k = 0)) ∧
    (∀ mask, L.active = false → Idle (.chrSrcDisWrite l mask) s)

/-- Time set, stepped and bounded (09 R343, R354, R357, R361): a pending step moves the chronometer from the whole second, at most once in a second; the
holdover bound falls; a leap second changes UTC_OFS; SET_TIME asks for the step of an unset clock, and is refused by a lane that
is not active or while a source is qualified; a SET_TIME slew ends at its target. Where log entry 55 decides a detail of it, that
detail is the model's choice, not the spec's. -/
def Obligations.TimeSetting : Prop :=
  ∀ (s : State) (l : LaneId),
    let L := s.lane l
    (∀ size src, L.chr.pend = some ⟨size, src⟩ → (∀ t ∈ L.chr.lastStep, t + 1000000000 ≤ L.now) → L.coasting = false → OnLane (.timeStep l) l s fun L M =>
      M.chr.ns = 1000000000 * ((-((-(L.now / 1000000000)).floor) : Int) : Rat) + size ∧ M.chr.pend = none ∧ M.chr.stepSum = L.chr.stepSum + size ∧
      M.chr.f = L.chr.f ∧ M.chr.s = L.chr.s ∧ M.chr.lastStep = some M.now ∧
      M.get Reg.CHR_CNT_STEPS = min (L.get Reg.CHR_CNT_STEPS + 1) 65535 ∧ M.tk.realigning = true ∧ M.get Reg.TICK_POS_REALIGN = 1 ∧
      (absQ size < 2 ^ 30 * 1000000000 → M.geti Reg.CHR_STEP_SEC_SEC = (if size < 0 then -1 else 1) * (absQ size / 1000000000).floor)) ∧
    ((L.chr.pend = none ∧ L.active = true) ∨ (∃ t ∈ L.chr.lastStep, L.now < t + 1000000000) ∨ L.coasting = true → Idle (.timeStep l) s) ∧
    (∀ h, L.chr.hold = some h → L.servo = 4 → L.cc.holdLimit < L.holdEst h → L.flag Reg.CHR_STAT_HOLD_OK = true → OnLane (.holdLimit l) l s fun L M =>
      M.get Reg.CHR_STAT_HOLD_OK = 0 ∧ M.get Reg.CHR_FAULT_HOLD_LIMIT = 1 ∧ L.framed M [Reg.CHR_STAT_HOLD_OK, Reg.CHR_FAULT_HOLD_LIMIT] []) ∧
    (∀ p : LeapPend, L.chr.leap = some p → p.atSec ≤ secOf L.now → 0 < L.get Reg.CHR_UTC_OFS → L.get Reg.CHR_UTC_OFS < 255 →
      OnLane (.leapSecond l) l s fun L M =>
        M.get Reg.CHR_UTC_OFS = (if p.plus then L.get Reg.CHR_UTC_OFS + 1 else L.get Reg.CHR_UTC_OFS - 1) ∧ M.chr.leap = none ∧
        M.get Reg.CHR_UTC_LEAP61 = 0 ∧ M.get Reg.CHR_UTC_LEAP59 = 0 ∧
        L.framedUpTo M [Reg.CHR_UTC_OFS, Reg.CHR_UTC_LEAP61, Reg.CHR_UTC_LEAP59] [(0x40, 7)] fun N => N.onChr fun _ => L.chr) ∧
    (∀ p : LeapPend, L.chr.leap = some p → secOf L.now < p.atSec → Idle (.leapSecond l) s) ∧
    (∀ tag, tag < 256 →
      let staged : Rat := 1000000000 * ((L.get Reg.CHR_ARG_SEC_LO_SEC + 2 ^ 32 * L.get Reg.CHR_ARG_SEC_HI_SEC : Nat) : Rat) + (L.get Reg.CHR_ARG_NS_NS : Rat)
      let free := L.srcState 1 ≠ 3 ∧ L.srcState 2 ≠ 3 ∧ L.srcState 3 ≠ 3 ∧ L.srcState 4 ≠ 3
      let cmdFlds := [Reg.CHR_CMD_TAG, Reg.CHR_CMD_CMD, Reg.CHR_CMD_RESULT]
      let shows (M : Lane) (r : Nat) : Prop := M.get Reg.CHR_CMD_TAG = tag ∧ M.get Reg.CHR_CMD_CMD = 1 ∧ M.get Reg.CHR_CMD_RESULT = r
      (L.active = false → OnLane (.setTime l tag) l s fun L M => shows M 3 ∧ L.framed M cmdFlds []) ∧
      (L.active = true → (¬ free ∨ L.servo ∈ [2, 3, 5]) → OnLane (.setTime l tag) l s fun L M => shows M 2 ∧ L.framed M cmdFlds []) ∧
      (L.active = true → free → (L.servo = 0 ∨ L.servo = 1 ∨ L.servo = 6) → OnLane (.setTime l tag) l s fun L M =>
        shows M 0 ∧ M.servo = 4 ∧ M.selected = 0 ∧ M.chr.stepNext = some ⟨-(L.now - staged), 0⟩ ∧ M.chr.s = 0 ∧ M.chr.ns = L.chr.ns) ∧
      (L.active = true → free → L.servo = 4 → 1000000 ≤ absQ (L.now - staged) → OnLane (.setTime l tag) l s fun L M =>
        shows M 0 ∧ M.servo = 4 ∧ M.chr.pend = some ⟨-(L.now - staged), 0⟩ ∧ M.chr.s = 0 ∧ M.chr.f = L.chr.f)) ∧
    (∀ target, L.chr.setSlew = some target → 0 ≤ L.chr.s → target ≤ L.chr.slewAt L.now → OnLane (.setTimeSlewEnd l) l s fun L M =>
      M = L.onChr fun c => { c with slewInt := target, slewT := L.now, s := 0, setSlew := none }) ∧
    (L.chr.setSlew = none → Idle (.setTimeSlewEnd l) s)

/-- PTP and PPS (09 R362-R368, R371, R372, R374): messages of an enabled domain are counted, and an announced master is remembered
for its port; a grandmaster numbers what it sends; the active lane takes the writes of the PPS and asymmetry registers, allowed
values alone; a PPS output that may rise goes high for its width. Where log entries 8 and 56 decide a detail of it, that detail is
the model's choice, not the spec's. -/
def Obligations.PtpAndPps : Prop :=
  ∀ (s : State) (l : LaneId) (d port : Nat), d < 2 → port < 2 →
    let L := s.lane l
    (∀ m, (L.cc.dom d).enable = false → Idle (.ptpMessageReceived l d port m) s) ∧
    ((L.cc.dom d).enable = true →
      (OnLane (.ptpMessageReceived l d port .sync) l s fun L M =>
        M.get (Reg.PTP_CNT_RX_SYNC d) = (L.get (Reg.PTP_CNT_RX_SYNC d) + 1) % 2 ^ (Reg.PTP_CNT_RX_SYNC d).w ∧ L.framed M [Reg.PTP_CNT_RX_SYNC d] []) ∧
      (OnLane (.ptpMessageReceived l d port .unsupported) l s fun L M =>
        M.get (Reg.PTP_CNT_DISCARD d) = min (L.get (Reg.PTP_CNT_DISCARD d) + 1) (2 ^ (Reg.PTP_CNT_DISCARD d).w - 1) ∧
        L.framed M [Reg.PTP_CNT_DISCARD d] []) ∧
      (∀ ds, OnLane (.ptpMessageReceived l d port (.announce ds)) l s fun L M =>
        (if port = 0 then (M.chr.dom d).portA else (M.chr.dom d).portB) = some ds ∧
        (if port = 0 then (M.chr.dom d).portB = (L.chr.dom d).portB else (M.chr.dom d).portA = (L.chr.dom d).portA) ∧
        M.chr.f = L.chr.f ∧ M.chr.s = L.chr.s ∧ M.chr.ns = L.chr.ns) ∧
      (∀ x, L.coasting = true → Idle (.ptpMessageReceived l d port (.delay x)) s) ∧
      (∀ x, L.coasting = false → OnLane (.ptpMessageReceived l d port (.delay x)) l s fun L M =>
        (M.chr.dom d).delays = (x :: (L.chr.dom d).delays).take 8 ∧
        L.framedUpTo M [Reg.PTP_MPD_DELAY d] [] fun N => N.onChr fun _ => L.chr) ∧
      (∀ m, m ∈ [PtpMsg.followUp, .delayReq, .ignored] → Idle (.ptpMessageReceived l d port m) s)) ∧
    (OnLane (.announceTimeout l d port) l s fun L M =>
      (if port = 0 then (M.chr.dom d).portA else (M.chr.dom d).portB) = none ∧
      (if port = 0 then (M.chr.dom d).portB = (L.chr.dom d).portB else (M.chr.dom d).portA = (L.chr.dom d).portA) ∧ M.chr.ns = L.chr.ns) ∧
    (∀ m, (L.cc.dom d).enable = false ∨ (L.coasting = true ∧ m ≠ .announce) → Idle (.ptpMessageTx l d m) s) ∧
    (∀ m, (L.cc.dom d).enable = true → L.coasting = false ∨ m = .announce → OnLane (.ptpMessageTx l d m) l s fun L M =>
      (M.chr.dom d).seqSync = (if m = .sync ∧ L.active = true ∧ M.flag (Reg.PTP_STAT_IS_GM d) = true then ((L.chr.dom d).seqSync + 1) % 65536 else (L.chr.dom d).seqSync) ∧
      (M.chr.dom d).seqAnnounce = (if m = .announce ∧ L.active = true ∧ M.flag (Reg.PTP_STAT_IS_GM d) = true then ((L.chr.dom d).seqAnnounce + 1) % 65536
        else (L.chr.dom d).seqAnnounce)) ∧
    (∀ v, v < 2 ^ 32 → L.active = true →
      (OnLane (.ptpAsymWrite l d v) l s fun L M => M.get (Reg.PTP_ASYM_ASYM d) = v ∧ L.framed M [Reg.PTP_ASYM_ASYM d] []) ∧
      (OnLane (.ppsCfgWrite l d true v) l s fun L M =>
        M.get (Reg.PPS_DELAY_DELAY d) = (if v % 2 ^ 13 ≤ 8000 then v % 2 ^ 13 else L.get (Reg.PPS_DELAY_DELAY d)) ∧
        L.framedUpTo M [Reg.PPS_DELAY_DELAY d] [] fun N => N.onChr fun _ => L.chr) ∧
      (OnLane (.ppsCfgWrite l d false v) l s fun L M =>
        M.get (Reg.PPS_CFG_WIDTH d) = (if 1 ≤ v % 512 ∧ v % 512 ≤ 500 then v % 512 else L.get (Reg.PPS_CFG_WIDTH d)) ∧
        M.get (Reg.PPS_CFG_MODE d) = (if v / 2 ^ 16 % 4 ≤ 2 then v / 2 ^ 16 % 4 else L.get (Reg.PPS_CFG_MODE d)) ∧
        L.framedUpTo M [Reg.PPS_CFG_WIDTH d, Reg.PPS_CFG_MODE d] [] fun N => N.onChr fun _ => L.chr)) ∧
    (∀ v delay, L.active = false → Idle (.ptpAsymWrite l d v) s ∧ Idle (.ppsCfgWrite l d delay v) s) ∧
    (L.ppsMay d = true → OnLane (.ppsEdge l d) l s fun L M =>
      let x := if d = 0 then M.chr.pps0 else M.chr.pps1
      x.highUntil = some (L.now - x.delay + 1000000 * (x.width : Rat)) ∧
      ((if d = 0 then L.chr.pps0 else L.chr.pps1).newAt = none →
        x.width = L.get (Reg.PPS_CFG_WIDTH d) ∧ x.delay * 4 = L.get (Reg.PPS_DELAY_DELAY d)) ∧
      L.framedUpTo M [] [] fun N => N.onChr fun _ => L.chr) ∧
    (L.ppsMay d = false → Idle (.ppsEdge l d) s)

/-- CAN reception and errors (10 R376, R379, R386, R388, R397, R399-R401): a frame of a receive object is stored and counted, one
too short, unlisted or FD on a classical port is counted alone; an integrating, stopped or unsupplied port takes none; a foreign frame with a transmit identifier of the driving lane
clashes; a transmit error past 255 takes the port off the bus, and recovery brings it back. Where log entry 53 decides a detail of
it, that detail is the model's choice, not the spec's. -/
def Obligations.CanReception : Prop :=
  ∀ (s : State) (l : LaneId) (p : Nat) (f : CanFrame), p < 8 →
    let L := s.lane l
    let c := L.port p
    let takes := L.canDeaf p = false ∧ f.own = false
    let quiet := s.sh.lock.holds l = false ∧ (∀ o ∈ c.cfg.tx, o.id ≠ f.id) ∧ 2 ≤ L.canState p
    (¬ takes → Idle (.canFrameReceived l p f) s) ∧
    (takes → f.fdf = true → c.cfg.fd = false ∨ f.res = true → OnLane (.canFrameReceived l p f) l s fun L M =>
      M.get (Reg.CAN_MISC_PROTO_EXC p) = min (L.get (Reg.CAN_MISC_PROTO_EXC p) + 1) 255 ∧ L.framed M [Reg.CAN_MISC_PROTO_EXC p] []) ∧
    (takes → (f.fdf = true → c.cfg.fd = true ∧ f.res = false) → f.rtr = false →
      (∀ o r, c.cfg.rx = [o] → o.id = f.id → o.ide = f.ide → o.len ≤ canDlcLen f.fdf f.dlc → c.rx.find? (fun r => decide (r.num = o.num)) = some r →
        OnLane (.canFrameReceived l p f) l s fun L M =>
          M.get (Reg.CAN_CNT_RX p) = (L.get (Reg.CAN_CNT_RX p) + 1) % 65536 ∧
          (M.port p).rx.find? (fun r => decide (r.num = o.num)) =
            some { r with frame := some { f with data := f.data.take o.len }, upd := (r.upd + 1) % 256, since := r.since + 1 } ∧
          (quiet → L.framedUpTo M [Reg.CAN_CNT_RX p] [] fun N => N.onCan fun _ => L.can)) ∧
      (∀ o, c.cfg.rx = [o] → o.id = f.id → o.ide = f.ide → canDlcLen f.fdf f.dlc < o.len → quiet → OnLane (.canFrameReceived l p f) l s fun L M =>
        M.get (Reg.CAN_MISC_SHORT p) = min (L.get (Reg.CAN_MISC_SHORT p) + 1) 255 ∧ L.framed M [Reg.CAN_MISC_SHORT p] []) ∧
      ((∀ o ∈ c.cfg.rx, o.id ≠ f.id ∨ o.ide ≠ f.ide) → quiet → OnLane (.canFrameReceived l p f) l s fun L M =>
        M.get (Reg.CAN_MISC_UNSTORED p) = min (L.get (Reg.CAN_MISC_UNSTORED p) + 1) 255 ∧ L.framed M [Reg.CAN_MISC_UNSTORED p] []) ∧
      (∀ o, c.cfg.tx = [o] → o.id = f.id → o.ide = f.ide → o.num < 64 → s.sh.lock.holds l = true → OnLane (.canFrameReceived l p f) l s fun L M =>
        M.get (Reg.CAN_CLASH_COUNT p) = min (L.get (Reg.CAN_CLASH_COUNT p) + 1) (2 ^ (Reg.CAN_CLASH_COUNT p).w - 1) ∧
        M.get (Reg.CAN_CLASH_OBJ p) = o.num ∧ M.get (Reg.CAN_FAULT_CLASH_SEEN p) = 1 ∧ L.ev (0x48 + p) 3 ∈ M.found)) ∧
    (∀ e tx inc, L.canDeaf p = true → Idle (.canError l p e tx inc) s) ∧
    (∀ e inc, L.canDeaf p = false → L.canState p < 2 →
      (255 < L.get (Reg.CAN_ERR_TEC p) + inc → OnLane (.canError l p e true inc) l s fun L M =>
        M.canState p = 2 ∧ M.get (Reg.CAN_ERR_LEC p) = e.code ∧ M.get (Reg.CAN_ERR_TEC p) = 256 ∧ M.get (Reg.CAN_ERR_WARN p) = 1 ∧
        M.get (Reg.CAN_FAULT_BUS_OFF_SEEN p) = 1 ∧ M.get (Reg.CAN_BUSOFF_COUNT p) = min (L.get (Reg.CAN_BUSOFF_COUNT p) + 1) 65535 ∧
        M.found = L.found ++ [L.ev (0x48 + p) 0] ∧ M.can = L.can) ∧
      (L.get (Reg.CAN_ERR_TEC p) + inc ≤ 255 → OnLane (.canError l p e true inc) l s fun L M =>
        M.get (Reg.CAN_ERR_TEC p) = L.get (Reg.CAN_ERR_TEC p) + inc ∧ M.get (Reg.CAN_ERR_LEC p) = e.code ∧
        M.canState p = (if 127 < M.get (Reg.CAN_ERR_TEC p) ∨ 127 < L.get (Reg.CAN_ERR_REC p) then 1 else 0) ∧
        M.get (Reg.CAN_ERR_WARN p) = (if 96 ≤ M.get (Reg.CAN_ERR_TEC p) ∨ 96 ≤ L.get (Reg.CAN_ERR_REC p) then 1 else 0) ∧ M.can = L.can) ∧
      (OnLane (.canError l p .stuff false inc) l s fun L M =>
        M.get (Reg.CAN_ERRCNT_STUFF p) = min (L.get (Reg.CAN_ERRCNT_STUFF p) + 1) 255 ∧ M.get (Reg.CAN_ERR_LEC p) = 1 ∧
        M.get (Reg.CAN_ERR_REC p) = min (L.get (Reg.CAN_ERR_REC p) + inc) 255 ∧ M.get (Reg.CAN_ERR_TEC p) = L.get (Reg.CAN_ERR_TEC p))) ∧
    (∀ ms, L.canState p = 2 → OnLane (.busOn l p ms) l s fun L M =>
      M.canState p = 0 ∧ M.get (Reg.CAN_ERR_TEC p) = 0 ∧ M.get (Reg.CAN_ERR_REC p) = 0 ∧ M.get (Reg.CAN_ERR_WARN p) = 0 ∧
      M.get (Reg.CAN_SCHED_WAIT_START p) = 1 ∧ M.get (Reg.CAN_BUSOFF_LAST_MS p) = min ms 65535 ∧
      L.framed M [Reg.CAN_ERR_STATE p, Reg.CAN_ERR_TEC p, Reg.CAN_ERR_REC p, Reg.CAN_ERR_WARN p, Reg.CAN_SCHED_WAIT_START p, Reg.CAN_BUSOFF_LAST_MS p]
        [(0x48 + p, 1)]) ∧
    (∀ ms, L.canState p ≠ 2 → Idle (.busOn l p ms) s) ∧
    (OnLane (.canIntegrationDone l p) l s fun L M => (M.port p).integrating = false ∧ (∀ k, k ≠ p → M.port k = L.port k) ∧
      L.framedUpTo M [] [] fun N => N.onCan fun _ => L.can)

/-- CAN transmission (10 R390, R393-R395, R399, R400): a slot ends the column before it, and makes its object pending or is missed; a FREE column opens and
closes; a message sent or failed; COMMIT, SEND and CANCEL of the object selected, and their refusals. Where log entries 53 and 54
decide a detail of it, that detail is the model's choice, not the spec's. -/
def Obligations.CanTransmission : Prop :=
  ∀ (s : State) (l : LaneId) (p : Nat), p < 8 →
    let L := s.lane l
    let c := L.port p
    let canOnly (M : Lane) (fs : List Fld) (es : List (Nat × Nat)) : Prop := L.framedUpTo M fs es fun N => N.onCan fun _ => L.can
    (∀ k, s.sh.lock.holds l = false ∨ L.flag Reg.LANE_STAT_DRIVE_HELD = false → Idle (.canSlotTrigger l p k) s) ∧
    (∀ k, s.sh.lock.holds l = true → L.flag Reg.LANE_STAT_DRIVE_HELD = true → L.canState p ≠ 3 → c.cfg.cols.lookup k ≠ none → c.waitMatrix = false →
      (∀ t, c.cfg.entry L.can.cyc k = t.num → t.num < 0xFE → c.txs t.num = some t →
        (L.flag (Reg.CAN_SCHED_WAIT_START p) = false → L.canState p ≠ 2 → t.pending = none → OnLane (.canSlotTrigger l p k) l s fun _ M =>
          (M.port p).txs t.num = some { t with pending := some t.data, begun := false, cancelLate := false, withheld := true } ∧
          (M.port p).freeOpen = false ∧ canOnly M [] []) ∧
        (L.flag (Reg.CAN_SCHED_WAIT_START p) = true ∨ L.canState p = 2 ∨ t.pending ≠ none → OnLane (.canSlotTrigger l p k) l s fun L M =>
          M.get (Reg.CAN_SCHED_MISSED p) = min (L.get (Reg.CAN_SCHED_MISSED p) + 1) 65535 ∧ (M.port p).freeOpen = false ∧
          canOnly M [Reg.CAN_SCHED_MISSED p] (if L.get (Reg.CAN_SCHED_MISSED p) < 65535 then [(0x48 + p, 5)] else []))) ∧
      (c.cfg.entry L.can.cyc k = 0xFE → L.flag (Reg.CAN_SCHED_WAIT_START p) = false → OnLane (.canSlotTrigger l p k) l s fun _ M =>
        (M.port p).freeOpen = true ∧ (∀ t ∈ (M.port p).tx, t.withheld = false) ∧ canOnly M [] []) ∧
      (c.cfg.entry L.can.cyc k = 0xFE → L.flag (Reg.CAN_SCHED_WAIT_START p) = true → OnLane (.canSlotTrigger l p k) l s fun _ M =>
        (M.port p).freeOpen = false ∧ canOnly M [] []) ∧
      (c.cfg.entry L.can.cyc k = 0xFF → OnLane (.canSlotTrigger l p k) l s fun _ M =>
        (M.port p).freeOpen = false ∧ (∀ t ∈ (M.port p).tx, t.withheld = true) ∧ canOnly M [] [])) ∧
    (OnLane (.canColumnEnd l p) l s fun _ M => (M.port p).freeOpen = false ∧ (∀ t ∈ (M.port p).tx, t.withheld = true) ∧ canOnly M [] []) ∧
    (∀ n t o d, c.txs n = some t → c.obj n = some o → t.pending = some d → L.canDeaf p = false →
      (L.canState p < 2 → OnLane (.canTxComplete l p n true none) l s fun L M =>
        (M.port p).txs n = some { t with out := L.wire o d, pending := none, begun := false, cancelLate := false, withheld := true, sent := (t.sent + 1) % 65536 } ∧
        M.get (Reg.CAN_CNT_TX p) = (L.get (Reg.CAN_CNT_TX p) + 1) % 65536 ∧ (M.port p).sentTotal = c.sentTotal + 1 ∧
        M.get (Reg.CAN_ERR_TEC p) = L.get (Reg.CAN_ERR_TEC p) - 1) ∧
      (2 ≤ L.canState p → Idle (.canTxComplete l p n true none) s) ∧
      (OnLane (.canTxComplete l p n false none) l s fun _ M =>
        (M.port p).txs n = some (if t.cancelLate then { t with pending := none, begun := false, cancelLate := false } else { t with begun := false }) ∧
        canOnly M [] [])) ∧
    (∀ n t, c.txs n = some t → OnLane (.canArbitrationLost l p n) l s fun _ M =>
      (M.port p).txs n = some { t with begun := false } ∧ canOnly M [] []) ∧
    (∀ tag, tag < 256 →
      let cmdFlds := [Reg.CAN_TX_CMD_TAG p, Reg.CAN_TX_CMD_CMD p, Reg.CAN_TX_CMD_RESULT p]
      let shows (M : Lane) (cmd r : Nat) : Prop := M.get (Reg.CAN_TX_CMD_TAG p) = tag ∧ M.get (Reg.CAN_TX_CMD_CMD p) = cmd ∧ M.get (Reg.CAN_TX_CMD_RESULT p) = r
      let n := L.get (Reg.CAN_TX_SEL_OBJ p)
      (∀ i cmd, (i, cmd) ∈ [(Instr.commit l p tag, 1), (.send l p tag, 2), (.cancel l p tag false, 3)] →
        (L.active = false → OnLane i l s fun L M => shows M cmd 2 ∧ canOnly M cmdFlds [(0x48 + p, 7)]) ∧
        (L.active = true → c.obj n = none → OnLane i l s fun L M => shows M cmd 3 ∧ canOnly M cmdFlds [(0x48 + p, 7)])) ∧
      (∀ o t, L.active = true → c.obj n = some o → c.txs n = some t →
        let d := L.stagedBytes p (canDlcLen o.fdf o.dlc)
        (o.source = .hostSched → c.cmdThisTick = false → OnLane (.commit l p tag) l s fun L M =>
          shows M 1 0 ∧ (M.port p).txs n = some { t with next := some d } ∧ (M.port p).cmdThisTick = true ∧
          (M.port p).reqs = c.reqs ++ [(n, 1, tag)] ∧ canOnly M cmdFlds []) ∧
        (o.source = .hostSched → c.cmdThisTick = true → OnLane (.commit l p tag) l s fun L M => shows M 1 4 ∧ canOnly M cmdFlds [(0x48 + p, 7)]) ∧
        (o.source = .hostEvent → c.cmdThisTick = false → t.pending = none → OnLane (.send l p tag) l s fun L M =>
          shows M 2 0 ∧ (M.port p).txs n = some { t with data := d, pending := some d, begun := false, cancelLate := false, withheld := !c.freeOpen } ∧
          (M.port p).cmdThisTick = true ∧ (M.port p).reqs = c.reqs ++ [(n, 2, tag)] ∧ canOnly M cmdFlds []) ∧
        (o.source = .hostEvent → (c.cmdThisTick = true ∨ t.pending ≠ none) → OnLane (.send l p tag) l s fun L M =>
          shows M 2 4 ∧ canOnly M cmdFlds [(0x48 + p, 7)]) ∧
        (∀ k, o.source = .channel k → ∀ i cmd, (i, cmd) ∈ [(Instr.commit l p tag, 1), (.send l p tag, 2), (.cancel l p tag false, 3)] →
          OnLane i l s fun L M => shows M cmd 3 ∧ canOnly M cmdFlds [(0x48 + p, 7)]) ∧
        (o.source = .hostEvent ∨ o.source = .hostSched →
          (t.pending = none → OnLane (.cancel l p tag false) l s fun L M => shows M 3 6 ∧ L.framed M cmdFlds []) ∧
          (t.pending ≠ none → t.begun = false → OnLane (.cancel l p tag false) l s fun _ M =>
            shows M 3 0 ∧ (M.port p).txs n = some { t with pending := none, withheld := true } ∧ (M.port p).reqs = c.reqs ++ [(n, 3, tag)] ∧
            canOnly M cmdFlds []) ∧
          (t.pending ≠ none → OnLane (.cancel l p tag true) l s fun _ M =>
            shows M 3 5 ∧ (M.port p).txs n = some { t with begun := true, cancelLate := true } ∧ canOnly M cmdFlds []))))

/-- Networks (11 R408, R409, R411-R414, R436, R439): frames on a link that is up are counted, answered where addressed, and
dropped past 64 in a tick; a link comes up or is lost; an IEC 61162-450 datagram is taken from a listed source once, and discarded
by kind. Where log entry 51 decides a detail of it, that detail is the model's choice, not the spec's. -/
def Obligations.Networks : Prop :=
  ∀ (s : State) (l : LaneId) (net : Nat), net < 2 →
    let L := s.lane l
    (∀ k, (L.flag (Reg.ETH_LINK_UP net) = false ∨ L.coasting = true) → Idle (.ethFrameReceived l net k) s) ∧
    (L.flag (Reg.ETH_LINK_UP net) = true → L.coasting = false →
      (OnLane (.ethFrameReceived l net .bad) l s fun L M =>
        M.get (Reg.ETH_DROP_ERR net) = min (L.get (Reg.ETH_DROP_ERR net) + 1) 65535 ∧ L.framed M [Reg.ETH_DROP_ERR net] []) ∧
      Idle (.ethFrameReceived l net .unsupported) s ∧
      (OnLane (.ethFrameReceived l net .ptpEvent) l s fun L M =>
        M.get (Reg.ETH_RX_COUNT net) = (L.get (Reg.ETH_RX_COUNT net) + 1) % 2 ^ 32 ∧ L.framed M [Reg.ETH_RX_COUNT net] []) ∧
      (∀ k, k ∈ [EthKind.rap, .l450, .otherUdp] → (L.eth net).inTick < 64 → OnLane (.ethFrameReceived l net k) l s fun L M =>
        M.get (Reg.ETH_RX_COUNT net) = (L.get (Reg.ETH_RX_COUNT net) + 1) % 2 ^ 32 ∧ (M.eth net).inTick = (L.eth net).inTick + 1 ∧
        L.keepsBut M [Reg.ETH_RX_COUNT net] ∧ M.found = L.found) ∧
      (∀ t k, (k = EthKind.arpRequest t ∨ k = .echoRequest t) → (L.eth net).inTick < 64 → OnLane (.ethFrameReceived l net k) l s fun L M =>
        M.get (Reg.ETH_RX_COUNT net) = (L.get (Reg.ETH_RX_COUNT net) + 1) % 2 ^ 32 ∧
        M.get (Reg.ETH_TX_COUNT net) = (if t = L.get (Reg.ETH_IP_ADDR net) then (L.get (Reg.ETH_TX_COUNT net) + 1) % 2 ^ 32 else L.get (Reg.ETH_TX_COUNT net)) ∧
        L.keepsBut M [Reg.ETH_RX_COUNT net, Reg.ETH_TX_COUNT net] ∧ M.found = L.found) ∧
      (64 ≤ (L.eth net).inTick → OnLane (.ethFrameReceived l net .rap) l s fun L M =>
        M.get (Reg.ETH_DROP_BUDGET net) = min (L.get (Reg.ETH_DROP_BUDGET net) + 1) 65535 ∧
        L.framed M [Reg.ETH_RX_COUNT net, Reg.ETH_DROP_BUDGET net] [(0x41 + net, 2)])) ∧
    (L.flag (Reg.ETH_LINK_UP net) = true →
      (∀ v, OnLane (.ethLinkChange l net false v) l s fun L M =>
        M.get (Reg.ETH_LINK_UP net) = 0 ∧ M.get (Reg.ETH_LINK_SPEED net) = 0 ∧ M.get (Reg.ETH_STAT_UP net) = 0 ∧
        M.get (Reg.ETH_FAULT_LINK_LOST net) = 1 ∧ M.get (Reg.ETH_LINK_DOWNS net) = min (L.get (Reg.ETH_LINK_DOWNS net) + 1) 65535 ∧
        L.framed M [Reg.ETH_LINK_UP net, Reg.ETH_LINK_SPEED net, Reg.ETH_STAT_UP net, Reg.ETH_FAULT_LINK_LOST net, Reg.ETH_LINK_DOWNS net]
          [(0x41 + net, 0)])) ∧
    (∀ v, L.flag (Reg.ETH_LINK_UP net) = false → (v = 1 ∨ v = 2) → OnLane (.ethLinkChange l net true v) l s fun L M =>
      M.get (Reg.ETH_LINK_UP net) = 1 ∧ M.get (Reg.ETH_LINK_SPEED net) = v ∧ M.get (Reg.ETH_STAT_UP net) = 1 ∧
      L.keepsBut M [Reg.ETH_LINK_UP net, Reg.ETH_LINK_SPEED net, Reg.ETH_STAT_UP net] ∧ M.found = L.found ++ [L.ev (0x41 + net) 1]) ∧
    ((L.running = false ∨ L.coasting = true) → ∀ d, Idle (.l450Datagram l d) s) ∧
    (L.running = true → L.coasting = false → ∀ d : L450Dgram,
      (d.sentences = false → OnLane (.l450Datagram l d) l s fun L M =>
        M.get Reg.L450_DISC_UNSUPPORTED = min (L.get Reg.L450_DISC_UNSUPPORTED + 1) 255 ∧ L.framed M [Reg.L450_DISC_UNSUPPORTED] [(0x44, 0)]) ∧
      (d.sentences = true → (d.src = none ∨ d.dstOther = true) → OnLane (.l450Datagram l d) l s fun L M =>
        M.get Reg.L450_DISC_FORMAT = min (L.get Reg.L450_DISC_FORMAT + 1) 255 ∧ L.framed M [Reg.L450_DISC_FORMAT] [(0x44, 0)]) ∧
      (∀ c, d.sentences = true → d.src = some c → d.dstOther = false → (∀ e ∈ L.nc.sources, e.sfi ≠ c) → OnLane (.l450Datagram l d) l s fun L M =>
        M.get Reg.L450_DISC_SOURCE = min (L.get Reg.L450_DISC_SOURCE + 1) 255 ∧ L.framed M [Reg.L450_DISC_SOURCE] [(0x44, 1)]) ∧
      (∀ c e, d.sentences = true → d.src = some c → d.dstOther = false → L.nc.sources = [e] → e.sfi = c →
        ((∃ r ∈ L.l450.recent, r.1 = c ∧ r.2.1 = d.body ∧ d.time - r.2.2 ≤ 100000000) → OnLane (.l450Datagram l d) l s fun L M =>
          M.get Reg.L450_DISC_DUP = min (L.get Reg.L450_DISC_DUP + 1) 255 ∧ M.l450.out = L.l450.out ∧
          L.framedUpTo M [Reg.L450_DISC_DUP] [] fun N => N.onL450 fun _ => L.l450) ∧
        (L.l450.recent = [] → OnLane (.l450Datagram l d) l s fun L M =>
          M.get Reg.L450_CNT_DGRAMS = (L.get Reg.L450_CNT_DGRAMS + 1) % 65536 ∧
          M.get Reg.L450_CNT_SENT = (L.get Reg.L450_CNT_SENT + d.body.length) % 65536 ∧ M.l450.recent = [(c, d.body, d.time)] ∧
          M.l450.out = L.l450.out ++ d.body.map (fun t => (t, d.time, e.alias2)) ∧
          L.framedUpTo M [Reg.L450_CNT_DGRAMS, Reg.L450_CNT_SENT] [] fun N => N.onL450 fun _ => L.l450)))

/-- Serial ports and what they carry (11 R431-R433, R440; 03 R117, R119, R120): a received character joins the buffer and is
counted; a full buffer overruns; a line at space shows BREAK; a sentence or frame complete is parsed by the first entry that fits
it, or counted; a due entry forms its sentence; one sent makes way for the next. Where log entries 11 and 52 decide a detail of
it, that detail is the model's choice, not the spec's. -/
def Obligations.SerialPorts : Prop :=
  ∀ (s : State) (l : LaneId) (n : Nat), n < 12 →
    let L := s.lane l
    let linePorts (M : Lane) (fs : List Fld) (es : List (Nat × Nat)) : Prop := L.framedUpTo M fs es fun N => N.onSer fun _ => L.ser
    (∀ ch framing, L.serListens = false ∨ L.get (Reg.SER_CFG_MODE n) = 0 → Idle (.serialCharReceived l n ch framing) s) ∧
    (∀ ch, L.serListens = true → L.get (Reg.SER_CFG_MODE n) ≠ 0 → (L.serSt n).buf.length < 4096 → (ch ≠ 10 ∨ (L.serSt n).bad = false) →
      OnLane (.serialCharReceived l n ch false) l s fun L M =>
        M.get (Reg.SER_RX_CHARS n) = (L.get (Reg.SER_RX_CHARS n) + 1) % 65536 ∧ M.ser = modAt L.ser n (fun x => { x with buf := x.buf ++ [ch] }) ∧
        linePorts M [Reg.SER_RX_CHARS n, Reg.SER_STAT_LINE n] []) ∧
    (∀ ch, L.serListens = true → L.get (Reg.SER_CFG_MODE n) = 2 → 4096 ≤ (L.serSt n).buf.length → OnLane (.serialCharReceived l n ch false) l s fun L M =>
      M.get (Reg.SER_RX_OVERRUN n) = min (L.get (Reg.SER_RX_OVERRUN n) + 1) 255 ∧ (M.serSt n).buf = [ch] ∧
      linePorts M [Reg.SER_RX_CHARS n, Reg.SER_RX_OVERRUN n, Reg.SER_STAT_LINE n] [(0x50, 1)]) ∧
    (∀ ch, L.serListens = true → L.get (Reg.SER_CFG_MODE n) = 2 → OnLane (.serialCharReceived l n ch true) l s fun L M =>
      M.get (Reg.SER_RX_FRAMING n) = min (L.get (Reg.SER_RX_FRAMING n) + 1) 255 ∧ (M.serSt n).buf = [] ∧
      linePorts M [Reg.SER_RX_CHARS n, Reg.SER_RX_FRAMING n, Reg.SER_STAT_LINE n] [(0x50, 0)]) ∧
    (L.serListens = true → L.get (Reg.SER_CFG_MODE n) ≠ 0 →
      (L.get (Reg.SER_STAT_LINE n) ≠ 2 → OnLane (.serLine l n true) l s fun L M =>
        M.get (Reg.SER_STAT_LINE n) = 2 ∧ L.framed M [Reg.SER_STAT_LINE n] [(0x50, 2)]) ∧
      (L.get (Reg.SER_STAT_LINE n) = 2 → OnLane (.serLine l n false) l s fun L M =>
        M.get (Reg.SER_STAT_LINE n) = (if (L.serSt n).buf = [] then 0 else 1) ∧ L.framed M [Reg.SER_STAT_LINE n] [])) ∧
    (∀ t a al r x, L.running = true → L.l450.out = (t, a, al) :: r → OnLane (.sentenceReceived l .l450 x) l s fun L M =>
      M.l450.out = r ∧
      (t.head? = some 33 → M.get Reg.INT_PARSE_NO_MATCH = min (L.get Reg.INT_PARSE_NO_MATCH + 1) (2 ^ Reg.INT_PARSE_NO_MATCH.w - 1) ∧
        L.framedUpTo M [Reg.INT_PARSE_NO_MATCH] [(0x08, 6)] fun N => N.onL450 fun _ => L.l450) ∧
      (t.head? ≠ some 33 → (82 < t.length ∨ sentenceBody t = none) →
        M.get Reg.INT_PARSE_CHECKSUM = min (L.get Reg.INT_PARSE_CHECKSUM + 1) (2 ^ Reg.INT_PARSE_CHECKSUM.w - 1) ∧
        L.framedUpTo M [Reg.INT_PARSE_CHECKSUM] [(0x08, 6)] fun N => N.onL450 fun _ => L.l450) ∧
      (∀ b e, t.head? ≠ some 33 → t.length ≤ 82 → sentenceBody t = some b → L.rc.sentences = [e] → testBit e.ports 12 = true → al = none →
        addrFits e.pat ((splitAt 44 b).headD []) = true → qualityOnly (e.maps.map (·.2.1)) = false →
        M.ntk.fresh = L.ntk.fresh ++ [e.sample (splitAt 44 b) a] ∧ M.found = L.found)) ∧
    (∀ pre r a, L.running = true → L.get (Reg.SER_CFG_MODE n) = 1 → n < L.ser.length → (L.serSt n).buf = pre ++ 10 :: r → 10 ∉ pre →
      OnLane (.sentenceReceived l (.serial n) a) l s fun L M =>
        let t := (pre ++ [10]).dropWhile fun c => decide (c ≠ 36) && decide (c ≠ 33)
        (M.serSt n).buf = r ∧
        (t = [] → M.get Reg.INT_PARSE_CHECKSUM = min (L.get Reg.INT_PARSE_CHECKSUM + 1) (2 ^ Reg.INT_PARSE_CHECKSUM.w - 1)) ∧
        (∀ b e, t ≠ [] → t.head? ≠ some 33 → t.length ≤ 82 → sentenceBody t = some b → L.rc.sentences = [e] → testBit e.ports n = true →
          addrFits e.pat ((splitAt 44 b).headD []) = true → qualityOnly (e.maps.map (·.2.1)) = false →
          M.ntk.fresh = L.ntk.fresh ++ [e.sample (splitAt 44 b) a] ∧ M.get (Reg.SER_STAT_AGE n) = 0 ∧ M.found = L.found)) ∧
    (∀ k d b a x, L.running = true → L.rc.binary = [x] → x.transport = 1 → testBit x.ports k = true → x.key = d → b.length = x.frameLen →
      (frameCheck x.check 0 b = true → qualityOnly (x.maps.map ByteMap.qty) = false → OnLane (.binaryFrameReceived l (.udp k d b) a) l s fun L M =>
        M.ntk.fresh = L.ntk.fresh ++ [x.sample b a] ∧ L.framedUpTo M [] [] fun N => N.onNtk fun _ => L.ntk) ∧
      (frameCheck x.check 0 b = false → OnLane (.binaryFrameReceived l (.udp k d b) a) l s fun L M =>
        M.get Reg.INT_PARSE_CHECKSUM = min (L.get Reg.INT_PARSE_CHECKSUM + 1) (2 ^ Reg.INT_PARSE_CHECKSUM.w - 1) ∧
        L.framed M [Reg.INT_PARSE_CHECKSUM] [(0x08, 6)])) ∧
    (∀ e c, L.running = true → (L.serCfg n).entries[e]? = some c → (L.serCfg n).mode = 1 → c.kind ≠ .host → L.tk.posTick = true →
      (L.serSt n).due.getD e 0 = 0 → OnLane (.serialEntryDue l n e) l s fun L M =>
        (n < L.ser.length → ∃ x ∈ (M.serSt n).staged, x.entry = some e ∧ x.kind = c.kind ∧ (c.kind = .hdt → x.valid = L.flag Reg.PLOT_FLAGS_HDG_OK)) ∧
        (M.serSt n).queue = (L.serSt n).queue ∧ linePorts M [] []) ∧
    (∀ q, (L.serSt n).sending = some q → L.flag (Reg.SER_STAT_DRIVING n) = true → OnLane (.serialSentenceSent l n) l s fun L M =>
      M.get (Reg.SER_TX_SENT n) = (L.get (Reg.SER_TX_SENT n) + 1) % 65536 ∧
      ((L.serSt n).host = [] ∨ (L.serSt n).hostReady = 0 → (L.serSt n).queue = [] → (M.serSt n).sending = none) ∧ linePorts M [Reg.SER_TX_SENT n] [])

/-- The register access protocol (11 R415, R417, R418, R420, R422, R426, R433): a datagram with a wrong CRC or without a header is
discarded and counted, any other waits for the input latch; a READ answers the words as they are read, a WRITE does what the
register write does, a LANE_RESTART is refused or noted, a SER_SEND forms its sentence; each operation answers its client and
sequence number. Where log entries 32, 46 and 48 decide a detail of it, that detail is the model's choice, not the spec's. -/
def Obligations.RapOperations : Prop :=
  ∀ (s : State) (l : LaneId) (client seq : Nat),
    let L := s.lane l
    let answered (L M : Lane) (st : Nat) (data : List Nat) : Prop :=
      ∃ x, M.rap.sent = x :: L.rap.sent ∧ x.client = client ∧ x.seq = seq ∧ x.status = 0 ∧ x.ans = [⟨st, data⟩]
    let answersOnly (M : Lane) : Prop := M = L.onRap fun r => { r with sent := M.rap.sent }
    (∀ net src b, L.running = true → L.coasting = false →
      (b.length < 4 ∨ crc32 (b.take (b.length - 4)) ≠ ofBe (b.drop (b.length - 4)) → OnLane (.rapRequest l net src b) l s fun L M =>
        M.get Reg.RAP_DISCARD_CRC = min (L.get Reg.RAP_DISCARD_CRC + 1) 65535 ∧ L.framed M [Reg.RAP_DISCARD_CRC] []) ∧
      (4 ≤ b.length → crc32 (b.take (b.length - 4)) = ofBe (b.drop (b.length - 4)) →
        (b.length < 16 → OnLane (.rapRequest l net src b) l s fun L M =>
          M.get Reg.RAP_DISCARD_MALFORMED = min (L.get Reg.RAP_DISCARD_MALFORMED + 1) 65535 ∧ L.framed M [Reg.RAP_DISCARD_MALFORMED] []) ∧
        (16 ≤ b.length → L.rap.queue.length < 72 → OnLane (.rapRequest l net src b) l s fun L M =>
          ∃ r, M = L.onRap (fun q => { q with queue := q.queue ++ [r] }) ∧ r.lane = ofBe ((b.drop 4).take 1) ∧ r.client = ofBe ((b.drop 5).take 1) ∧
            r.seq = ofBe ((b.drop 8).take 4) ∧ r.epoch = ofBe ((b.drop 12).take 4) ∧ r.net = net ∧ r.src = src ∧
            (ofBe ((b.drop 0).take 2) ≠ 0x4B58 → r.bad = true)))) ∧
    (∀ net src b, L.running = false ∨ L.coasting = true → Idle (.rapRequest l net src b) s) ∧
    (L.running = true →
      (∀ n addr, 1 ≤ n → n ≤ 64 → addr % 4 = 0 → OnLane (.read l client seq n addr) l s fun L M =>
        answersOnly M ∧ answered L M 0 ((List.range n).flatMap fun i => beBytes 4 (L.readWord (addr + 4 * i)).toNat)) ∧
      (∀ n addr, 1 ≤ n → n ≤ 64 → addr % 4 ≠ 0 → OnLane (.read l client seq n addr) l s fun L M => answersOnly M ∧ answered L M 2 []) ∧
      (L.mode ≠ 2 →
        (∀ n addr, n = 0 ∨ 64 < n → OnLane (.read l client seq n addr) l s fun L M => answersOnly M ∧ answered L M 5 []) ∧
        (∀ d addr, addr % 4 ≠ 0 → d ≠ [] → d.length ≤ 64 → OnLane (.write l client seq addr d) l s fun L M => answersOnly M ∧ answered L M 2 []) ∧
        (∀ d addr, d = [] ∨ 64 < d.length → OnLane (.write l client seq addr d) l s fun L M => answersOnly M ∧ answered L M 5 []) ∧
        (∀ w addr N, addr % 4 = 0 → exec (.registerWrite l client addr (BitVec.ofNat 32 w)) s = .next (s.setLane l N) →
          OnLane (.write l client seq addr [w]) l s fun _ M => M = N.onRap (fun r => { r with sent := M.rap.sent }) ∧
            ∃ st, answered N M st [])) ∧
      (∀ force, (L.active = false ∨ L.red.peerAble = true ∨ force = true) → OnLane (.laneRestart l client seq force) l s fun L M =>
        M = L.onRap (fun r => { r with restart := true, sent := M.rap.sent }) ∧ answered L M 0 []) ∧
      (L.active = true → L.red.peerAble = false → OnLane (.laneRestart l client seq false) l s fun L M => answersOnly M ∧ answered L M 6 []) ∧
      (∀ n text, L.mode ≠ 2 → L.active = true → n < 12 → L.get (Reg.SER_CFG_MODE n) = 1 → (L.serSt n).host.length < 4 → text ≠ [] → text.length ≤ 77 →
        n < L.ser.length → OnLane (.serSend l client seq n text) l s fun L M =>
          answered L M 0 [] ∧ M.regs = L.regs ∧ ∃ q, (M.serSt n).host = (L.serSt n).host ++ [q] ∧ q.kind = .host ∧
            q.text.take (text.length + 1) = text ++ [42] ∧ q.text.drop (text.length + 3) = [13, 10]) ∧
      (∀ n text, L.mode ≠ 2 → text = [] ∨ 77 < text.length → OnLane (.serSend l client seq n text) l s fun L M => answersOnly M ∧ answered L M 5 []))

/-- Safety sessions and clients (11 R419, R427-R429): a challenge gives 16 bytes for ten seconds; the right answer opens the
session and uses the nonce up, a wrong one is counted and recorded and at the third locks out for 300 s; a session, a nonce, a
lockout and a client's entry end at their times. Where log entries 48 and 49 decide a detail of it, that detail is the model's
choice, not the spec's. -/
def Obligations.RapSessions : Prop :=
  ∀ (s : State) (l : LaneId) (client seq : Nat), client < 256 →
    let L := s.lane l
    let answered (L M : Lane) (st : Nat) (data : List Nat) : Prop :=
      ∃ x, M.rap.sent = x :: L.rap.sent ∧ x.client = client ∧ x.seq = seq ∧ x.ans = [⟨st, data⟩]
    (L.running = true → L.mode ≠ 2 → OnLane (.safetyChallenge l client seq) l s fun L M =>
      ∃ b : List Nat, b.length = 16 ∧ answered L M 0 b ∧ M.rap.nonces = (client, b, 10000) :: L.rap.nonces.filter (fun n => decide (n.1 ≠ client)) ∧
        M.regs = L.regs ∧ M.found = L.found ∧ M.rap.session = L.rap.session) ∧
    (∀ h, L.running = true → h.length = 32 → L.mode ≠ 2 →
      ((L.active = false ∨ (L.mode ≠ 3 ∧ L.mode ≠ 4) ∨ L.rap.lockMs ≠ 0 ∨ (∃ c t, L.rap.session = some (c, t) ∧ c ≠ client)) →
        OnLane (.safetyOpen l client seq h) l s fun L M => answered L M 6 [] ∧ M.regs = L.regs ∧ M.rap.session = L.rap.session) ∧
      (L.active = true → (L.mode = 3 ∨ L.mode = 4) → L.rap.lockMs = 0 → L.rap.session = none →
        (∀ b t, L.rap.nonces = [(client, b, t)] → h = hmac256 L.passwordNow (b ++ [client, if L.id = .a then 0 else 1]) →
          OnLane (.safetyOpen l client seq h) l s fun L M =>
            answered L M 0 [] ∧ M.rap.session = some (client, 0) ∧ M.rap.sessNonce = b ∧ M.rap.nonces = [] ∧ M.get Reg.RAP_AUTH_CONSEC = 0 ∧
            M.get Reg.RAP_SESSION_OPEN = 1 ∧ M.get Reg.RAP_SESSION_CLIENT = client ∧ M.get Reg.RAP_STAT_SESSION = 1 ∧ M.found = L.found ++ [L.ev 0x43 0]) ∧
        (∀ b t, L.rap.nonces = [(client, b, t)] → h ≠ hmac256 L.passwordNow (b ++ [client, if L.id = .a then 0 else 1]) →
          OnLane (.safetyOpen l client seq h) l s fun L M =>
            answered L M 5 [] ∧ M.rap.session = none ∧ M.rap.nonces = [] ∧ M.get Reg.RAP_AUTH_CONSEC = min (L.get Reg.RAP_AUTH_CONSEC + 1) 255 ∧
            M.get Reg.RAP_AUTH_TOTAL = min (L.get Reg.RAP_AUTH_TOTAL + 1) 255 ∧ M.get Reg.RAP_FAULT_AUTH_FAILED = 1 ∧ L.ev 0x43 1 ∈ M.found ∧
            (2 ≤ L.get Reg.RAP_AUTH_CONSEC → M.rap.lockMs = 300000 ∧ M.get Reg.RAP_STAT_LOCKOUT = 1 ∧ M.get Reg.RAP_AUTH_LOCK_S = 300 ∧ L.ev 0x43 2 ∈ M.found) ∧
            (L.get Reg.RAP_AUTH_CONSEC < 2 → M.rap.lockMs = 0)))) ∧
    (L.running = true → L.mode ≠ 2 →
      (∀ t, L.rap.session = some (client, t) → OnLane (.safetyClose l client seq) l s fun L M =>
        answered L M 0 [] ∧ M.rap.session = none ∧ M.get Reg.RAP_SESSION_OPEN = 0 ∧ M.get Reg.RAP_STAT_SESSION = 0 ∧ M.found = L.found ++ [L.ev 0x43 0]) ∧
      (L.rap.session = none → OnLane (.safetyClose l client seq) l s fun L M => answered L M 5 [] ∧ M.regs = L.regs)) ∧
    (∀ t, L.rap.session = some (client, t) →
      (60000 ≤ t → OnLane (.sessionIdleEnd l) l s fun L M =>
        M.rap.session = none ∧ M.get Reg.RAP_SESSION_OPEN = 0 ∧
        L.framedUpTo M [Reg.RAP_SESSION_OPEN, Reg.RAP_SESSION_CLIENT, Reg.RAP_SESSION_IDLE, Reg.RAP_STAT_SESSION] [(0x43, 0)] fun N => N.onRap fun _ => L.rap) ∧
      (t < 60000 → Idle (.sessionIdleEnd l) s)) ∧
    (OnLane (.nonceExpiry l client) l s fun L M =>
      M = L.onRap fun r => { r with nonces := r.nonces.filter fun n => !(decide (n.1 = client) && decide (n.2.2 = 0)) }) ∧
    (L.flag Reg.RAP_STAT_LOCKOUT = true → L.rap.lockMs = 0 → OnLane (.lockoutEnd l) l s fun L M =>
      M.get Reg.RAP_STAT_LOCKOUT = 0 ∧ M.get Reg.RAP_AUTH_LOCK_S = 0 ∧ L.framed M [Reg.RAP_STAT_LOCKOUT, Reg.RAP_AUTH_LOCK_S] []) ∧
    (L.rap.lockMs ≠ 0 → Idle (.lockoutEnd l) s) ∧
    ((∃ c ∈ L.rap.clients, c.client = client ∧ 600000 ≤ c.idleMs) → OnLane (.clientEntryExpiry l client) l s fun L M =>
      M.rap.clients = L.rap.clients.filter (fun c => decide (c.client ≠ client)) ∧ M.rap.cache = L.rap.cache.filter (fun x => decide (x.client ≠ client)) ∧
      L.framedUpTo M [Reg.RAP_CLIENTS_USED] [] fun N => N.onRap fun _ => L.rap) ∧
    ((∀ c ∈ L.rap.clients, c.client = client → c.idleMs < 600000) → Idle (.clientEntryExpiry l client) s)

/-- Chart transfers (11 R425; 01 R40; 16 R578): begun by a client of the active lane in the write window, continued by that client
alone, ended for the checks; refused with a reason, or passed and kept for the boundary, where it becomes current; abandoned after
30 s. Where log entries 48 and 50 decide a detail of it, that detail is the model's choice, not the spec's. -/
def Obligations.ChartTransfers : Prop :=
  ∀ (s : State) (l : LaneId) (client seq : Nat), client < 256 →
    let L := s.lane l
    let answered (L M : Lane) (st : Nat) : Prop := ∃ x, M.rap.sent = x :: L.rap.sent ∧ x.client = client ∧ x.seq = seq ∧ x.ans = [⟨st, []⟩]
    let rapOnly (M : Lane) (fs : List Fld) : Prop := L.framedUpTo M fs [] fun N => N.onRap fun _ => L.rap
    let stFlds := [Reg.RAP_CHART_STATE, Reg.RAP_STAT_CHART_BUSY]
    (L.running = true → L.mode ≠ 2 →
      (∀ sect total d, L.active = true → L.flag Reg.THERM_WINDOW_OPEN = true → L.rap.xfer = none → OnLane (.chartBegin l client seq sect total d) l s fun L M =>
        answered L M 0 ∧ M.rap.xfer = some { client := client, sect := sect, total := total, digest := d, blocks := [], idleMs := 0, ended := none } ∧
        M.get Reg.RAP_CHART_STATE = 1 ∧ M.get Reg.RAP_STAT_CHART_BUSY = 1 ∧ M.get Reg.RAP_CHART_CLIENT = client ∧ rapOnly M (Reg.RAP_CHART_CLIENT :: stFlds)) ∧
      (∀ sect total d, L.active = false ∨ L.flag Reg.THERM_WINDOW_OPEN = false → OnLane (.chartBegin l client seq sect total d) l s fun L M =>
        answered L M 6 ∧ M.rap.xfer = L.rap.xfer ∧ rapOnly M []) ∧
      (∀ sect total d x, L.active = true → L.flag Reg.THERM_WINDOW_OPEN = true → L.rap.xfer = some x → (x.client ≠ client ∨ x.ended ≠ none) →
        OnLane (.chartBegin l client seq sect total d) l s fun L M => answered L M 7 ∧ M.rap.xfer = L.rap.xfer ∧ rapOnly M []) ∧
      (∀ x ofs b, L.active = true → L.rap.xfer = some x → x.client = client → x.ended = none → 4 ≤ b.length → b.length ≤ 1024 → b.length % 4 = 0 →
        OnLane (.chartData l client seq ofs b) l s fun L M =>
          answered L M 0 ∧ M.rap.xfer = some { x with blocks := (ofs, b) :: x.blocks, idleMs := 0 } ∧ rapOnly M []) ∧
      (∀ x ofs b, L.active = true → L.rap.xfer = some x → x.client ≠ client → 4 ≤ b.length → b.length ≤ 1024 → OnLane (.chartData l client seq ofs b) l s fun L M =>
        answered L M 7 ∧ M.rap.xfer = L.rap.xfer ∧ rapOnly M []) ∧
      (∀ x, L.active = true → L.rap.xfer = some x → x.client = client → x.ended = none → OnLane (.chartEnd l client seq) l s fun L M =>
        M.rap.xfer = some { x with ended := some (seq, 0), idleMs := 0 } ∧ M.get Reg.RAP_CHART_STATE = 2 ∧ M.rap.sent = L.rap.sent ∧
        (∃ e, M.rap.pending = L.rap.pending ++ [e] ∧ e.held = true ∧ e.req.client = client ∧ e.req.seq = seq) ∧ rapOnly M stFlds)) ∧
    (∀ x, L.rap.xfer = some x → 30000 ≤ x.idleMs → x.ended = none → OnLane (.chartTransferAbandon l) l s fun L M =>
      M.rap.xfer = none ∧ M.rap.staged = none ∧ M.chart = { L.chart with next := none } ∧ M.get Reg.RAP_CHART_STATE = 0 ∧
      M.get Reg.RAP_STAT_CHART_BUSY = 0 ∧ M.sf.newPortion = none ∧
      L.framedUpTo M stFlds [] fun N => ((N.onRap fun _ => L.rap).onChart fun _ => L.chart).onSf fun _ => L.sf) ∧
    (∀ x, L.rap.xfer = some x → (x.idleMs < 30000 ∨ x.ended ≠ none) → Idle (.chartTransferAbandon l) s) ∧
    (∀ x e c, L.rap.xfer = some x → x.ended = some e → L.rap.staged = none → x.total ≤ 0x400000 → x.digestOk = false →
      OnLane (.chartCheckDone l c) l s fun L M =>
        M.rap.xfer = none ∧ M.get Reg.RAP_CHART_STATE = 0 ∧ M.get Reg.RAP_CHART_REASON = 1 ∧ M.chart = L.chart ∧
        L.framedUpTo M (Reg.RAP_CHART_REASON :: stFlds) [(0x43, 4)] fun N => N.onRap fun _ => L.rap) ∧
    (∀ x e n m, L.rap.xfer = some x → x.ended = some e → L.rap.staged = none → m = { L.chart.now.withSection n x.sect with digest := n.digest } →
      L.checkReason x (some m) = none → L.portionNew m x.sect = false → Answers (.chartCheckDone l (some n)) s fun t =>
        (t.lane l).rap.staged = some x.client ∧ (t.lane l).chart.next = some (m, x.sect) ∧ (t.lane l).get Reg.RAP_CHART_STATE = 3 ∧
        (t.lane l).chart.now = L.chart.now ∧ (t.lane l).chart.cur = L.chart.cur ∧
        (t.lane l.other).chart.next = (if (s.lane l.other).takesContent then some (m, x.sect) else (s.lane l.other).chart.next) ∧ t.sh = s.sh) ∧
    (L.active = false ∨ L.tk.posTick = false → Idle (.chartCurrent l) s) ∧
    (∀ q n sect, L.active = true → L.tk.posTick = true → L.rap.staged = some q → L.chart.next = some (n, sect) → L.sf.newPortion = none → L.sf.refused = false →
      Answers (.chartCurrent l) s fun t =>
        (t.lane l).chart.next = none ∧ (t.lane l.other).chart.next = none ∧ t.pending = s.pending ∧
        (sect = 15 → (t.lane l).chart.now = n ∧ (t.lane l).chart.ok = true ∧ (t.lane l).chart.cur = (if L.chart.cur = 0 then 1 else 0) ∧
          (∀ x e, L.rap.xfer = some x → x.ended = some e → (t.lane l).rap.staged = none ∧ (t.lane l).rap.xfer = none)))

/-- TAKEOVER (12 R454, R455, R464): a lane that sees itself holding the grant becomes active, with a new epoch, the cause, the
gap, the count of its kind and an event; a cold takeover enters READY; the other lane reports the change where its kind is a
handover. Where log entry 40 decides a detail of it, that detail is the model's choice, not the spec's. -/
def Obligations.Takeover : Prop :=
  ∀ (s : State) (l : LaneId) (gap : Nat),
    let L := s.lane l
    let c := L.takeCause s.sh.lock.relCause
    s.sh.lock.grant = .held l → L.running = true → L.active = false → L.mode ≠ 2 → L.role ≠ 5 →
    (L.role ≠ 1 → Answers (.takeover l gap) s fun t =>
      let M := t.lane l
      M.active = true ∧ M.role = 2 ∧ M.get Reg.RED_STAT_ACTIVE = 1 ∧ M.get Reg.RAP_EPOCH_EPOCH = (L.get Reg.RAP_EPOCH_EPOCH + 1) % 2 ^ 32 ∧
      M.get Reg.RED_LAST_CAUSE = c.code ∧ M.get Reg.RED_LAST_GAP = min gap (2 ^ Reg.RED_LAST_GAP.w - 1) ∧
      M.get c.shows.1 = min (L.get c.shows.1 + 1) (2 ^ c.shows.1.w - 1) ∧ L.ev 0x60 c.shows.2 ∈ M.found ∧
      (c = .cold → M.mode = 4 ∧ M.get Reg.RED_FAULT_COLD = 1) ∧ (c ≠ .cold → M.mode = L.mode) ∧
      M.red.plan = none ∧ M.red.outgoing = none ∧ M.alc.warm = true ∧
      (c.shows.2 = 0 → t.lane l.other = s.lane l.other) ∧ t.sh = { s.sh with bin := t.sh.bin }) ∧
    (L.role = 1 → Answers (.takeover l gap) s fun t =>
      let M := t.lane l
      M.active = true ∧ M.role = 2 ∧ M.mode = (if L.chart.ok then 4 else 3) ∧ M.get Reg.RAP_EPOCH_EPOCH = L.get Reg.RAP_EPOCH_EPOCH ∧
      M.get Reg.BOOT_CAUSE_COUNT = 0 ∧ t.lane l.other = s.lane l.other ∧ t.sh = { s.sh with bin := t.sh.bin })

/-- Handovers (12 R459, R465; 02 R101): at 950 µs of the named tick the active lane gives the grant up if the standby asserts ARM,
else it cancels; with the shared section powered (01 R26), a standby without a holder for three latches asks for the grant; a lane in LUBBER that has seen ARMED for ten
latches releases it. Where log entries 17, 28 and 40 decide a detail of it, that detail is the model's choice, not the spec's. -/
def Obligations.Handovers : Prop :=
  ∀ (s : State) (l : LaneId),
    let L := s.lane l
    (∀ h c, s.sharedPower = true → L.red.plan = some (h, c) → L.active = true → s.sh.lock.grant = .held l → L.tk.inTick = false → L.get Reg.TICK_CNT_COUNT = h →
      (s.sh.lock.arm l.other = true → Answers (.plannedHandover l) s fun t =>
        t.sh.lock.grant = .deadTime l ∧ t.sh.lock.drive l = false ∧ t.sh.lock.arm l = true ∧ t.sh.lock.relCause = some c ∧
        (t.lane l).red.plan = none ∧ (t.lane l).red.outgoing = some h ∧ (t.lane l).get Reg.RED_STAT_ARMED = 1 ∧
        t.lane l.other = s.lane l.other) ∧
      (s.sh.lock.arm l.other = false → OnLane (.plannedHandover l) l s fun L M =>
        M.red.plan = none ∧ M.tk.lubberAfter = false ∧
        (L.tk.lubberAfter = false → M = (L.onRed fun r => { r with plan := none, outgoing := none }).onTk fun k => { k with lubberAfter := false }) ∧
        (L.tk.lubberAfter = true → M.mode = 2 ∧ M.active = false ∧ M.get Reg.BOOT_CAUSE_LUBBER = 3))) ∧
    (s.sharedPower = true → L.running = true → L.active = false → L.coasting = false → L.role = 3 ∨ L.role = 4 → 3 ≤ L.mode → 3 ≤ L.red.noHolder →
      s.sh.lock.grant = .free → s.sh.lock.drive l = false → Answers (.coldTakeover l) s fun t =>
        t.sh.lock.grant = .window l ∧ t.sh.lock.drive l = true ∧ t.lane l = L.onRed (fun r => { r with cold := true }) ∧
        t.lane l.other = s.lane l.other) ∧
    (s.sharedPower = true → L.mode = 2 → s.sh.lock.grant = .held l → 10 ≤ L.red.armedSeen → L.tk.inTick = false → Answers (.lubberRelease l) s fun t =>
      t.sh.lock.grant = .deadTime l ∧ t.sh.lock.drive l = false ∧ t.sh.lock.relCause = some .fromLubber ∧ (t.lane l).red.armedSeen = 0 ∧
      t.lane l.other = s.lane l.other)

/-- RED_CMD on handovers, take-backs and re-synchronisation (12 R460-R464, R467, R474): who may command, what is refused with
which result, and the timers of a take-back. Where log entry 41 decides a detail of it, that detail is the model's choice, not the
spec's. -/
def Obligations.RedundancyCommands : Prop :=
  ∀ (s : State) (l : LaneId) (tag : Nat), tag < 256 →
    let L := s.lane l
    let shows (M : Lane) (cmd result : Nat) : Prop := M.get Reg.RED_CMD_TAG = tag ∧ M.get Reg.RED_CMD_CMD = cmd ∧ M.get Reg.RED_CMD_RESULT = result
    let cmdFlds := [Reg.RED_CMD_TAG, Reg.RED_CMD_CMD, Reg.RED_CMD_RESULT]
    (L.active = true → L.red.peerAble = true → L.red.plan = none → L.red.outgoing = none → OnLane (.switchover l tag) l s fun L M =>
      shows M 1 0 ∧ M.red.plan = some (L.handoverTick, .hostSwitchover) ∧ L.framedUpTo M cmdFlds [] fun N => N.onRed fun _ => L.red) ∧
    (∀ code, (L.active = false ∧ code = 2 ∨ L.active = true ∧ L.red.peerAble = false ∧ code = 4 ∨
        L.active = true ∧ L.red.peerAble = true ∧ (L.red.plan.isSome || L.red.outgoing.isSome) = true ∧ code = 8) →
      OnLane (.switchover l tag) l s fun L M => shows M 1 code ∧ L.framed M cmdFlds []) ∧
    (L.active = true → 1 ≤ L.get Reg.RED_ARG_SECONDS → L.get Reg.RED_ARG_SECONDS ≤ 3600 → OnLane (.suspendTb l tag) l s fun L M =>
      shows M 2 0 ∧ M.red.suspTicks = 1000 * L.get Reg.RED_ARG_SECONDS ∧ M.get Reg.RED_STAT_TB_SUSPENDED = 1 ∧
      M.get Reg.RED_TB_SUSP_REMAIN = L.get Reg.RED_ARG_SECONDS ∧
      L.framedUpTo M (Reg.RED_STAT_TB_SUSPENDED :: Reg.RED_TB_SUSP_REMAIN :: cmdFlds) [] fun N => N.onRed fun _ => L.red) ∧
    (L.active = true → OnLane (.resumeTb l tag) l s fun L M =>
      shows M 3 0 ∧ M.red.suspTicks = 0 ∧ M.get Reg.RED_STAT_TB_SUSPENDED = 0 ∧ M.get Reg.RED_TB_SUSP_REMAIN = 0 ∧
      L.framedUpTo M (Reg.RED_STAT_TB_SUSPENDED :: Reg.RED_TB_SUSP_REMAIN :: cmdFlds) [] fun N => N.onRed fun _ => L.red) ∧
    (L.isStandby = true → L.boot.waiting = false → OnLane (.resync l tag) l s fun L M =>
      shows M 4 0 ∧ M.role = 4 ∧ M.get Reg.RED_RESYNC_STAGE = 1 ∧ M.get Reg.RED_STAT_RESYNC = 1 ∧ M.red.tbReq = false ∧
      L.framedUpTo M (Reg.RED_ROLE_ROLE :: Reg.RED_RESYNC_STAGE :: Reg.RED_RESYNC_PROGRESS :: Reg.RED_STAT_RESYNC :: cmdFlds) []
        fun N => N.onRed fun _ => L.red) ∧
    (L.isStandby = false → OnLane (.resync l tag) l s fun L M => shows M 4 3 ∧ L.framed M cmdFlds []) ∧
    (L.preferred = true → L.role = 3 → L.flag Reg.RED_ABLE_ABLE = true → 1000 * L.get Reg.RED_TB_HOLDOFF ≤ L.red.tbCount →
      OnLane (.takeBackRequest l) l s fun L M => M = L.onRed fun r => { r with tbReq := true }) ∧
    (∀ n, L.red.awaySince = some n → 86400000 ≤ n → OnLane (.holdoffReset l) l s fun L M =>
      M.get Reg.RED_TB_HOLDOFF = L.chart.now.red.holdoff % 2 ^ Reg.RED_TB_HOLDOFF.w ∧ M.red.awaySince = none ∧
      L.framedUpTo M [Reg.RED_TB_HOLDOFF] [] fun N => N.onRed fun _ => L.red) ∧
    (L.red.suspTicks = 0 → OnLane (.suspensionEnd l) l s fun L M => M.get Reg.RED_TB_SUSP_REMAIN = 0 ∧ M.get Reg.RED_STAT_TB_SUSPENDED = 0 ∧
      L.framed M [Reg.RED_TB_SUSP_REMAIN, Reg.RED_STAT_TB_SUSPENDED] [])

/-- Supervision of the other lane (01 R46; 12 R442, R445-R447, R467): a role that reads NONE, lost links, disagreement of the
control outputs, grid skew, the stages of a re-synchronisation, the restart of a failed lane. Where log entries 39 and 42 decide a
detail of it, that detail is the model's choice, not the spec's. -/
def Obligations.PeerSupervision : Prop :=
  ∀ (s : State) (l : LaneId),
    let L := s.lane l
    (3 ≤ L.get Reg.RED_PEER_AGE → L.get Reg.RED_ROLE_PEER_ROLE ≠ 0 → OnLane (.healthWordTimeout l) l s fun L M =>
      M.get Reg.RED_ROLE_PEER_ROLE = 0 ∧ M.get Reg.RED_PEER_ABLE = 0 ∧ M.get Reg.RED_PEER_MODE = 0 ∧ M.red.peer = none ∧ M.red.peerAble = false ∧
      M.found = L.found ++ (if L.active then [L.ev 0x60 3] else [])) ∧
    (L.running = true → L.red.lost = false → (3 ≤ L.hw.mirrorMiss ∨ (3 ≤ L.red.missed ∧ L.peerIs .active = true ∧ L.active = false)) → OnLane (.xlinkLost l) l s fun L M =>
      M.get Reg.LANE_STAT_XL0_UP = 0 ∧ M.get Reg.LANE_STAT_XL1_UP = 0 ∧ M.red.lost = true ∧
      L.framedUpTo M [Reg.LANE_STAT_XL0_UP, Reg.LANE_STAT_XL1_UP] [(0x01, 6)] fun N => N.onRed fun _ => L.red) ∧
    (L.red.disagree = false → 3 ≤ L.get Reg.RED_MISMATCH_CONSEC → OnLane (.laneDisagree l) l s fun L M =>
      M.red.disagree = true ∧ M.get Reg.RED_FAULT_DISAGREE_SEEN = 1 ∧
      L.framedUpTo M [Reg.RED_FAULT_DISAGREE_SEEN] [(0x60, 4)] fun N => N.onRed fun _ => L.red) ∧
    (L.red.disagree = true → 100 ≤ L.red.matchRun → OnLane (.laneDisagree l) l s fun L M => M = L.onRed fun r => { r with disagree := false }) ∧
    (L.red.skew = false → 10 ≤ L.red.skewOut → OnLane (.gridSkew l) l s fun L M =>
      M.red.skew = true ∧ L.framedUpTo M [] [(0x60, 5)] fun N => N.onRed fun _ => L.red) ∧
    (L.red.skew = true → 100 ≤ L.red.skewIn → OnLane (.gridSkew l) l s fun L M => M = L.onRed fun r => { r with skew := false }) ∧
    (∀ k n m, L.hw.failed = some (k, n, m) → m + 100 ≤ L.tk.count → OnLane (.laneFailRestart l) l s fun L M =>
      M.boot.phase = .reset ∧ M.boot.cause = .laneFailRestart ∧ L.framedUpTo M [] [] fun N => N.onBoot fun _ => L.boot) ∧
    (L.running = true → L.role = 4 → L.coasting = false → (s.lane l.other).active = true →
      (L.get Reg.RED_RESYNC_STAGE = 1 → L.chart.now.digest = (s.lane l.other).chart.now.digest → OnLane (.resyncStageEnd l) l s fun _ M =>
        M.get Reg.RED_RESYNC_STAGE = 2 ∧ M.get Reg.RED_RESYNC_PROGRESS = 0 ∧ M.role = 4) ∧
      (L.get Reg.RED_RESYNC_STAGE = 2 → 100 ≤ L.red.syncCnt → L.srcState 4 = 3 → OnLane (.resyncStageEnd l) l s fun _ M =>
        M.get Reg.RED_RESYNC_STAGE = 3 ∧ M.role = 4) ∧
      (L.get Reg.RED_RESYNC_STAGE = 3 → 10 ≤ L.red.syncCnt → OnLane (.resyncStageEnd l) l s fun _ M =>
        M.get Reg.RED_RESYNC_STAGE = 4 ∧ M.get Reg.RED_RESYNC_PROGRESS = 1000 ∧ M.role = 4) ∧
      (L.get Reg.RED_RESYNC_STAGE = 4 → 1000 ≤ L.red.settle → OnLane (.resyncStageEnd l) l s fun L M =>
        M.role = 3 ∧ M.get Reg.RED_RESYNC_STAGE = 0 ∧ M.get Reg.RED_STAT_RESYNC = 0 ∧ L.ev 0x60 6 ∈ M.found))

/-- The words between the lanes (01 R46; 12 R442, R444, R449): an intact health word becomes the peer's standing in page 0x60, and
a lane that is not active takes the active lane's epoch; a lane that mirrors adopts an intact mirror frame's pending request,
schedule and control state; a bad copy counts on its link. Where log entry 38 decides a detail of it, that detail is the model's
choice, not the spec's. -/
def Obligations.WordsBetweenLanes : Prop :=
  ∀ (s : State) (l : LaneId) (x0 x1 : LinkRx),
    let L := s.lane l
    L.running = true → (x0 = .intact ∨ x1 = .intact) →
    (∀ h skew, s.sharedPower = true → (s.lane l.other).red.hwOut = some h → L.mode ≠ 2 → h.mode < 16 → h.epoch < 2 ^ 32 →
      OnLane (.healthWordReceived l x0 x1 skew) l s fun L M =>
        M.red.peer = some h ∧ M.red.peerAble = h.able ∧ M.red.digestSame = decide (h.digest = if L.chart.ok then L.chart.now.digest else 0) ∧ M.red.lost = false ∧ M.hw.mirrorMiss = 0 ∧ M.get Reg.RED_PEER_AGE = 0 ∧
        M.get Reg.RED_PEER_ROLE = h.role.code ∧ M.get Reg.RED_ROLE_PEER_ROLE = h.role.code ∧ M.get Reg.RED_PEER_MODE = h.mode ∧
        M.get Reg.RED_PEER_ABLE = (if h.able then 1 else 0) ∧ M.get Reg.RED_PEER_ARMED = (if h.armed then 1 else 0) ∧
        M.get Reg.LANE_STAT_XL0_UP = (if x0 = .none then 0 else 1) ∧ M.get Reg.LANE_STAT_XL1_UP = (if x1 = .none then 0 else 1) ∧
        M.get Reg.LANE_XLINK_ERR_XL0 = (if x0 = .bad then min (L.get Reg.LANE_XLINK_ERR_XL0 + 1) (2 ^ Reg.LANE_XLINK_ERR_XL0.w - 1)
          else L.get Reg.LANE_XLINK_ERR_XL0) ∧
        (M.red.digestSame = false → h.role = .active → L.role = 3 → L.boot.waiting = false → M.role = 4 ∧ M.get Reg.RED_RESYNC_STAGE = 1) ∧
        (h.role = .active → L.active = false → M.get Reg.RAP_EPOCH_EPOCH = h.epoch) ∧
        (L.active = true → M.get Reg.RAP_EPOCH_EPOCH = L.get Reg.RAP_EPOCH_EPOCH)) ∧
    (∀ m, (s.lane l.other).mirror = some m → L.mirrors = true → OnLane (.mirrorFrameReceived l x0 x1) l s fun L M =>
      (m.mode < 16 → M.mode = m.mode) ∧ M.tk.pendMode = m.pendMode ∧ M.tk.sched = m.sched ∧ M.ctl = m.ctl ∧ M.red.suspTicks = m.suspTicks ∧ M.red.tbSince = m.tbSince ∧
      M.red.lost = false ∧ M.hw.mirrorMiss = 0 ∧ (L.red.lost = false → M.red.noMirror = 0 ∧ M.role = L.role) ∧
      (L.red.lost = true → L.role = 3 → M.role = 4)) ∧
    (∀ m, (s.lane l.other).mirror = some m → L.mirrors = false → OnLane (.mirrorFrameReceived l x0 x1) l s fun L M =>
      M.hw.mirrorMiss = 0 ∧ M.ctl = L.ctl ∧ M.tk = L.tk ∧ M.red = { L.red with noMirror := 0, missed := 0 })

/-- Firmware (12 R468-R470; 16 R578): a standby takes an image into the slot it does not run from, while the write window is open;
a word of the window goes to its place; what the check finds is an uninterpreted function of the content (log entry 6). Where log
entry 43 decides a detail of it, that detail is the model's choice, not the spec's. -/
def Obligations.FirmwareCommands : Prop :=
  ∀ (s : State) (l : LaneId) (tag : Nat), tag < 256 →
    let L := s.lane l
    let shows (M : Lane) (cmd result : Nat) : Prop := M.get Reg.RED_CMD_TAG = tag ∧ M.get Reg.RED_CMD_CMD = cmd ∧ M.get Reg.RED_CMD_RESULT = result
    let cmdFlds := [Reg.RED_CMD_TAG, Reg.RED_CMD_CMD, Reg.RED_CMD_RESULT]
    (∀ i cmd, (i, cmd) ∈ [(Instr.fwBegin l tag, 5), (.fwCheck l tag, 6), (.fwActivate l tag, 7)] →
      (L.isStandby = false → OnLane i l s fun L M => shows M cmd 3 ∧ L.framed M cmdFlds []) ∧
      (L.isStandby = true → L.flag Reg.THERM_WINDOW_OPEN = false → OnLane i l s fun L M => shows M cmd 8 ∧ L.framed M cmdFlds [])) ∧
    (L.isStandby = true → L.flag Reg.THERM_WINDOW_OPEN = true →
      (OnLane (.fwBegin l tag) l s fun L M => shows M 5 0 ∧ M.get Reg.RED_FW_STAT_STATE = 1 ∧ M.get Reg.RED_FW_OFS_OFS = 0 ∧
        (M.boot.slot L.otherSlot).valid = false ∧ M.boot.bootSlot = L.boot.bootSlot) ∧
      (OnLane (.fwCheck l tag) l s fun L M =>
        let r := Config.fwCheck ((L.boot.slot L.otherSlot).words.map fun e => (e.1, e.2.toNat))
        (r.1 = true → shows M 6 0 ∧ M.get Reg.RED_FW_STAT_STATE = 2) ∧ (r.1 = false → shows M 6 6 ∧ M.get Reg.RED_FW_STAT_STATE = 3)) ∧
      (L.get Reg.RED_FW_STAT_STATE ≠ 2 → OnLane (.fwActivate l tag) l s fun L M => shows M 7 6 ∧ L.framed M cmdFlds []) ∧
      (L.get Reg.RED_FW_STAT_STATE = 2 → L.red.peer = none → OnLane (.fwActivate l tag) l s fun L M =>
        shows M 7 0 ∧ M.get Reg.RED_FW_STAT_STATE = 4 ∧ M.boot.bootSlot = L.otherSlot ∧ M.boot.trial = some L.boot.bootSlot ∧
        M.rap.restart = true)) ∧
    (∀ w v, w < 64 → L.get Reg.RED_FW_STAT_STATE = 1 → L.boot.bootSlot ≤ 1 → OnLane (.redFwDataWrite l w v) l s fun L M =>
      (4 * (L.get Reg.RED_FW_OFS_OFS + w), v) ∈ (M.boot.slot L.otherSlot).words ∧
      M.get Reg.RED_FW_OFS_OFS = (if w = 63 then (L.get Reg.RED_FW_OFS_OFS + 64) % 2 ^ 21 else L.get Reg.RED_FW_OFS_OFS) ∧
      L.framedUpTo M [Reg.RED_FW_OFS_OFS] [] fun N => N.onBoot fun _ => L.boot) ∧
    (∀ w v, L.get Reg.RED_FW_STAT_STATE ≠ 1 → Idle (.redFwDataWrite l w v) s)

/-- Start-up (02 R88-R92, R95, R98): a lane leaves reset with its registers at their reset values but for those kept, its supplies
and cause shown; after 2 s without a reply it goes on as sole lane with the epoch 1; it waits for an active lane, asks for the
grant, and after ten ticks without it takes the standby role; a lane not in reset does not start. Where log entries 24, 25, 27 and
28 decide a detail of it, that detail is the model's choice, not the spec's. -/
def Obligations.StartUp : Prop :=
  ∀ (s : State) (l : LaneId),
    let L := s.lane l
    (∀ f, L.boot.phase = .reset → Answers (.laneStart l f) s fun t =>
      let M := t.lane l
      M.boot.phase = .clock ∧ M.boot.findings = f ∧ M.get Reg.BOOT_CAUSE_CAUSE = L.boot.cause.code % 256 ∧
      M.role = 1 ∧ M.active = false ∧ M.get Reg.TICK_CNT_COUNT = 0 ∧ M.get Reg.LOG_STAT_INDEXING = 1 ∧
      M.chart.now = {} ∧ M.rap = {} ∧ M.tk = {} ∧ M.id = L.id ∧ M.variant = L.variant ∧ t.lane l.other = s.lane l.other ∧ t.sh.lock = s.sh.lock) ∧
    (∀ f, L.boot.phase ≠ .reset → Idle (.laneStart l f) s) ∧
    (L.boot.phase = .exchange → L.boot.findings.selfTestOk = true → OnLane (.capabilityExchangeTimeout l) l s fun L M =>
      M.running = true ∧ M.get Reg.RAP_EPOCH_EPOCH = 1 ∧ M.get Reg.LANE_ENG_HEALTHY_w = L.variant.engines ∧ M.boot.deciding = some 0 ∧ M.chr.ns = 0) ∧
    (∀ n, s.sharedPower = true → L.boot.roleWait = some n → 2000 ≤ n → L.mode = 1 → L.peerIs .active = false → s.sh.lock.grant = .free → s.sh.lock.drive l = false →
      Answers (.roleWaitExpiry l) s fun t => t.sh.lock.grant = .window l ∧ t.sh.lock.drive l = true ∧
        t.lane l = L.onBoot (fun b => { b with roleWait := none, driveWait := some 1 }) ∧ t.lane l.other = s.lane l.other) ∧
    (∀ n, s.sharedPower = true → L.boot.contestWait = some n → 10 ≤ n → L.mode = 1 → s.sh.lock.grant = .free → s.sh.lock.drive l = false →
      Answers (.contestReassert l) s fun t => t.sh.lock.grant = .window l ∧ t.sh.lock.drive l = true ∧
        t.lane l = L.onBoot (fun b => { b with contestWait := none, driveWait := some 1 }) ∧ t.lane l.other = s.lane l.other) ∧
    (∀ n, s.sharedPower = true → L.boot.driveWait = some n → 10 < n → L.mode = 1 → s.sh.lock.grant ≠ .held l → Answers (.driveNotGranted l) s fun t =>
      t.sh.lock.drive l = false ∧ (t.lane l).role = (if L.peerIs .active then 4 else 3) ∧
      (t.lane l).mode = (if L.chart.ok then 4 else 3) ∧ (t.lane l).get Reg.BOOT_CAUSE_COUNT = 0 ∧ t.lane l.other = s.lane l.other)

/-- Failed starts and LUBBER (02 R94-R101): a start that does not come to its end in the window fails with its code, is counted,
and restarts the lane; at the third the lane enters LUBBER. A lane in LUBBER asks for the grant when its peer is silent, or after
its wait. Where log entries 26 and 28 decide a detail of it, that detail is the model's choice, not the spec's. -/
def Obligations.FailedStartAndLubber : Prop :=
  ∀ (s : State) (l : LaneId),
    let L := s.lane l
    (L.inStart = true → L.startRecord.boot.mem.countAfter < 3 → L.boot.trial = none → s.sh.lock.drive l = false → Answers (.bootWindowTimeout l) s fun t =>
      let M := t.lane l
      M.boot.phase = .reset ∧ M.boot.cause = .failedStartRetry ∧ M.boot.mem.failCount = L.startRecord.boot.mem.countAfter ∧
      M.get Reg.BOOT_CAUSE_COUNT = L.startRecord.boot.mem.countAfter ∧
      M.get Reg.BOOT_CAUSE_LAST_FAIL = (if L.boot.phase = .clock ∧ L.clk.stopWin.isNone then 4 else 1) ∧
      t.lane l.other = s.lane l.other ∧ t.sh.lock = s.sh.lock) ∧
    (L.inStart = true → 3 ≤ L.startRecord.boot.mem.countAfter → L.boot.trial = none → Answers (.bootWindowTimeout l) s fun t =>
      (t.lane l).mode = 2 ∧ (t.lane l).role = 6 ∧ (t.lane l).get Reg.BOOT_CAUSE_LUBBER = 1 ∧ (t.lane l).running = true ∧
      t.sh.lock.drive l = false) ∧
    (L.inStart = false → Idle (.bootWindowTimeout l) s) ∧
    (s.sharedPower = true → L.running = true → L.mode = 2 → L.peerIs .active = false → s.sh.lock.grant = .free → s.sh.lock.drive l = false →
      (l = .b → 2000 ≤ L.get Reg.RED_PEER_AGE → 2000 ≤ L.tk.count → L.red.lubberWait = none → Answers (.lubberPeerSilence l) s fun t =>
        t.sh.lock.grant = .window l ∧ t.sh.lock.drive l = true ∧ t.a = s.a ∧ t.b = s.b) ∧
      (∀ n, L.red.lubberWait = some n → 2000 ≤ n → (L.lubberFirst = true ∨ L.peerSilent = true) → Answers (.lubberReassert l) s fun t =>
        t.sh.lock.grant = .window l ∧ t.sh.lock.drive l = true ∧ t.lane l = L.onRed (fun r => { r with lubberWait := none }) ∧
        t.lane l.other = s.lane l.other))

/-- Inputs, restarts and resets of the safety channel (13 R480, R483, R484, R487, R490, R491, R497, R634): a departure is held for
the next latch; a discrepancy latches past its time; run delay and feedback release are noted where their conditions hold; a reset
given in time, with every condition met, closes a manual output's Binnacle switch; a feedback that does not follow is a fault and
opens it. Where log entry 62 decides a detail of it, that detail is the model's choice, not the spec's. -/
def Obligations.SafetyInputs : Prop :=
  ∀ (s : State) (l : LaneId) (n k : Nat), n < 16 → k < 8 →
    let L := s.lane l
    let sfOnly (M : Lane) : Prop := L.framedUpTo M [] [] fun N => N.onSf fun _ => L.sf
    let b := s.sh.bin
    let binOnly (t : State) : Prop := t.a = s.a ∧ t.b = s.b ∧ t.pending = s.pending ∧ t.sh.lock = s.sh.lock
    let steady := b.power = true ∧ s.sharedPower = true ∧ k < b.outs.length
    (∀ high, n < L.sf.ins.length →
      (OnLane (.safetyInputChange l (.siA n) high) l s fun L M => M.si n = { L.si n with a := high, depA := (L.si n).depA || !high } ∧ sfOnly M) ∧
      (OnLane (.safetyInputChange l (.siB n) high) l s fun L M =>
        M.si n = { L.si n with b := high, depB := (L.si n).depB || (high != (L.siCfg n).mode.runB) } ∧ sfOnly M)) ∧
    (∀ high, k < L.sf.outs.length → OnLane (.safetyInputChange l (.fb k) high) l s fun L M => M.so k = { L.so k with fbHigh := high } ∧ sfOnly M) ∧
    ((L.si n).st = .discrepant → (L.si n).disc = false → ((L.siCfg n).discTime : Rat) < (L.si n).timer → OnLane (.discLatched l n) l s fun L M =>
      (M.si n).disc = true ∧ (M.si n).sawSafe = false ∧ M.get Reg.SF_FAULT_DISC = 1 ∧ M.bit Reg.SF_SI_DISC_PROC n = true ∧
      M.found = L.found ++ [L.ev 0x58 1] ∧ ∀ j, j ≠ n → M.si j = L.si j) ∧
    ((L.si n).timer ≤ ((L.siCfg n).discTime : Rat) → Idle (.discLatched l n) s) ∧
    ((∀ j ∈ (L.soCfg k).stopMask, (L.si j).st = .run ∧ 50 ≤ (L.si j).runMs) → k < L.sf.outs.length → OnLane (.runDelayExpiry (.proc l) k) l s fun L M =>
      (M.so k).runDone = true ∧ (M.so k).gate = (L.so k).gate ∧ M.sf.ins = L.sf.ins ∧ M.found = L.found) ∧
    ((∃ j ∈ (L.soCfg k).stopMask, (L.si j).st ≠ .run) → Idle (.runDelayExpiry (.proc l) k) s) ∧
    ((∀ j ∈ (b.cfg.so k).stopMask, b.siSt j = .run) → steady → Answers (.runDelayExpiry .bin k) s fun t => (t.sh.bin.so k).runDone = true ∧ binOnly t) ∧
    ((∃ j ∈ (b.cfg.so k).stopMask, b.siSt j ≠ .run) → Idle (.runDelayExpiry .bin k) s) ∧
    ((L.so k).released = true → 10 ≤ (L.so k).relMs → OnLane (.feedbackReleasedExpiry (.proc l) k) l s fun L M =>
      (M.so k).relDone = true ∧ (M.so k).gate = (L.so k).gate ∧ M.found = L.found) ∧
    ((L.so k).released = false → Idle (.feedbackReleasedExpiry (.proc l) k) s) ∧
    (fbShows (b.cfg.so k) (b.so k).fbHigh = true → steady → Answers (.feedbackReleasedExpiry .bin k) s fun t => (t.sh.bin.so k).relDone = true ∧ binOnly t) ∧
    (∀ ms, (L.si n).release = some ms → ms < 100 ∨ 5000 < ms ∨ (L.si n).disc = true → L.judgedOuts n = [k] → OnLane (.resetRelease (.proc l) n true) l s fun L M =>
      (M.si n).release = none ∧ (M.so k).resetGiven = (L.so k).resetGiven ∧
      M.get Reg.SF_CNT_RESET_IGNORED = min (L.get Reg.SF_CNT_RESET_IGNORED + 1) (2 ^ Reg.SF_CNT_RESET_IGNORED.w - 1) ∧ M.found = L.found ++ [L.ev 0x58 6]) ∧
    (∀ ms, (L.si n).release = some ms → 100 ≤ ms → ms ≤ 5000 → (L.si n).disc = false → L.judgedOuts n = [k] → L.cond13 k = true → (L.so k).fbFault = false →
      k < L.sf.outs.length → OnLane (.resetRelease (.proc l) n true) l s fun L M =>
        (M.si n).release = none ∧ (M.so k).resetGiven = true ∧ M.found = L.found) ∧
    (∀ f, (L.si n).release = none → Idle (.resetRelease (.proc l) n f) s) ∧
    (Idle (.resetRelease .bin n false) s) ∧
    (let c := b.cfg.so k
     let o := b.so k
     (b.cfg.si n).mode = .reset → b.siSt n = .safe → (b.si n).disc = false → steady → c.configured = true → c.resetSi = some n → c.manual = true → c.fbEn = false →
      o.interlock = true → o.runDone = true → b.blocked k = false → (∀ j ∈ c.stopMask, b.siSt j = .run) → s.driver = none →
      Answers (.resetRelease .bin n true) s fun t =>
        (t.sh.bin.so k).sw = true ∧ (t.sh.bin.so k).interlock = false ∧ t.sh.bin.closed k = !o.test ∧ binOnly t) ∧
    ((L.soCfg k).configured = true → (L.soCfg k).fbEn = true → (L.so k).fbFault = false → (L.so k).energised = true → (L.so k).pulled = false →
      ((L.soCfg k).fbPull : Rat) < (L.so k).sinceMs → OnLane (.fbFault (.proc l) k) l s fun L M =>
        (M.so k).fbFault = true ∧ M.get Reg.SF_FAULT_FB = 1 ∧ M.bit Reg.SF_SO_FAULT_FB k = true ∧ M.found = L.found ++ [L.ev 0x58 3]) ∧
    ((L.so k).fbFault = true → Idle (.fbFault (.proc l) k) s) ∧
    (steady → (b.cfg.so k).configured = true → (b.cfg.so k).fbEn = true → s.terminalOn k = fbShows (b.cfg.so k) (b.so k).fbHigh →
      Answers (.fbFault .bin k) s fun t => (t.sh.bin.so k).fbFault = true ∧ t.sh.bin.closed k = false ∧ (t.sh.bin.so k).interlock = true ∧ binOnly t)

/-- The Binnacle opens (13 R476, R477, R480, R482, R488, R495, R498, R499): after every command that it judges, an output held by
any of its causes carries an open switch; a demand on one of its inputs, a latched discrepancy, a stuck switch, a bad image and a
long TEST open it. Where log entry 62 decides a detail of it, that detail is the model's choice, not the spec's. -/
def Obligations.BinnacleOpens : Prop :=
  ∀ (s : State),
    let opens (t : State) : Prop := ∀ k, k < 8 → t.sh.bin.blocked k = true → t.sh.bin.closed k = false
    let lanesKept (t : State) : Prop := t.a = s.a ∧ t.b = s.b ∧ t.pending = s.pending ∧ t.sh.lock = s.sh.lock
    let steady := s.sh.bin.power = true ∧ s.sharedPower = true
    (∀ c high, Answers (.binnacleInputChange c high) s fun t => opens t ∧ lanesKept t) ∧
    (∀ n, steady → n < s.sh.bin.ins.length → Answers (.binnacleInputChange (.siA n) false) s fun t =>
      (t.sh.bin.si n).a = false ∧ ((t.sh.bin.cfg.si n).mode = .equivalent ∨ (t.sh.bin.cfg.si n).mode = .antivalent →
        ∀ k, k < 8 → n ∈ (t.sh.bin.cfg.so k).stopMask → t.sh.bin.closed k = false)) ∧
    (∀ n, s.sh.bin.siSt n = .discrepant → steady → n < s.sh.bin.ins.length → Answers (.binnacleDiscLatch n) s fun t =>
      (t.sh.bin.si n).disc = true ∧ opens t ∧ lanesKept t ∧ ∀ k, k < 8 → n ∈ (t.sh.bin.cfg.so k).stopMask → t.sh.bin.closed k = false) ∧
    (∀ n, s.sh.bin.siSt n ≠ .discrepant → Idle (.binnacleDiscLatch n) s) ∧
    (∀ k, k < 8 → k < s.sh.bin.outs.length → steady → s.sh.bin.closed k = false → (s.sh.bin.so k).swFault = false → Answers (.binnacleSwitchCheck k true) s fun t =>
      (t.sh.bin.so k).swFault = true ∧ opens t ∧ t.a.found = s.a.found ++ [s.a.ev 0x58 4] ∧ t.b.found = s.b.found ++ [s.b.ev 0x58 4] ∧
      t.a.regs = s.a.regs ∧ t.b.regs = s.b.regs) ∧
    (∀ k, Idle (.binnacleSwitchCheck k false) s) ∧
    (∀ k, k < 8 → (s.sh.bin.so k).test = true → Answers (.testAsStop k) s fun t =>
      (t.sh.bin.so k).sw = false ∧ (t.sh.bin.so k).interlock = true ∧ (t.sh.bin.so k).resetGiven = false ∧ (∀ j, j ≠ k → t.sh.bin.so j = s.sh.bin.so j) ∧ lanesKept t) ∧
    (∀ k, (s.sh.bin.so k).test = false → Idle (.testAsStop k) s) ∧
    (Answers .cfgBad s fun t => t.sh.bin.cfgBad = true ∧ (∀ k, k < 8 → t.sh.bin.closed k = false) ∧ lanesKept t) ∧
    (∀ l p, (s.lane l).sf.newPortion = some p → s.sh.lock.holds l = true → s.sh.bin.write = none → (s.lane l).sf.rejects < 3 → steady →
      Answers (.binnacleWrite l) s fun t =>
        t.sh.bin.write = some ⟨l, p.image, Config.imageCrc p.image.numbers⟩ ∧ opens t ∧ (t.lane l).get Reg.SF_BIN_WRITING = 1 ∧
        t.lane l.other = s.lane l.other) ∧
    (∀ l, (s.lane l).sf.newPortion = none → Idle (.binnacleWrite l) s) ∧
    (∀ w, s.sh.bin.write = some w → steady →
      (Answers (.binnacleWriteEnd true) s fun t => t.sh.bin.write = none ∧ t.sh.bin.image = some w.image ∧ t.sh.bin.check = w.check ∧ t.sh.bin.cfgBad = false ∧
        (∀ k ∈ changedOuts s.sh.bin.cfg w.image, (t.sh.bin.so k).runDone = false ∧ (t.sh.bin.so k).relDone = false) ∧
        (t.lane w.lane).sf.binTaken = true ∧ (t.lane w.lane).get Reg.SF_BIN_WRITING = 0 ∧ opens t) ∧
      (Answers (.binnacleWriteEnd false) s fun t => t.sh.bin.write = none ∧ t.sh.bin.image = s.sh.bin.image ∧ t.sh.bin.check = s.sh.bin.check ∧
        (2 ≤ (s.lane w.lane).sf.rejects → (t.lane w.lane).sf.refused = true ∧ (t.lane w.lane).sf.newPortion = none) ∧
        ((s.lane w.lane).sf.rejects < 2 → (t.lane w.lane).sf.rejects = (s.lane w.lane).sf.rejects + 1) ∧ opens t)) ∧
    (∀ taken, s.sh.bin.write = none → Idle (.binnacleWriteEnd taken) s)

/-- Tests and comparisons of the safety channel (13 R493, R494, R500, R502; 17 R597): a test pulse starts at its tick and is read
at its end; a source pulse counts towards a field fault; two mismatches of the check word in a row set BIN_MISMATCH and two
agreements clear it; lanes that differ for 1000 ticks are degraded. Where log entry 62 decides a detail of it, that detail is the
model's choice, not the spec's. -/
def Obligations.SafetyTests : Prop :=
  ∀ (s : State) (l : LaneId) (k : Nat), k < 8 →
    let L := s.lane l
    let sfOnly (L M : Lane) : Prop := L.framedUpTo M [] [] fun N => N.onSf fun _ => L.sf
    (∀ w, s.sh.lock.holds l = true → L.coasting = false → s.sh.bin.write = none → L.bit Reg.SF_TP_EN k = true → (L.soCfg k).configured = true →
      (L.so k).energised = true → (L.so k).pulse = none → L.get Reg.SF_TP_PERIOD ≠ 0 → L.holdCause k = .none →
      L.get Reg.TICK_CNT_COUNT % (L.get Reg.SF_TP_PERIOD * 1000) = (if w = .bin then 100 * k + 50 else 100 * k) →
      Answers (.testPulseStart l k w) s fun t =>
        ((t.lane l).so k).pulse = some ⟨w, L.get Reg.TICK_CNT_COUNT, none, false⟩ ∧ sfOnly L (t.lane l) ∧ t.lane l.other = s.lane l.other ∧
        t.sh.lock = s.sh.lock ∧ (w = .bin → k < s.sh.bin.outs.length → (t.sh.bin.so k).test = true) ∧ (w = .proc → t.sh = s.sh)) ∧
    (∀ w, s.sh.lock.holds l = false ∨ (L.so k).pulse ≠ none → Idle (.testPulseStart l k w) s) ∧
    (∀ p high, (L.so k).pulse = some p → p.high = none → Answers (.testPulseEnd l k high) s fun t =>
      ((t.lane l).so k).pulse = some { p with high := some high } ∧ sfOnly L (t.lane l) ∧ t.lane l.other = s.lane l.other ∧
      (p.sw = .bin → (t.sh.bin.so k).test = false) ∧ (p.sw = .proc → t.sh = s.sh)) ∧
    (∀ high, (L.so k).pulse = none → Idle (.testPulseEnd l k high) s) ∧
    (∀ n high, n < 16 → s.driver = some l → L.coasting = false → s.sh.bin.write = none → (L.siCfg n).mode ≠ .off → (L.si n).a = true →
      L.get Reg.TICK_CNT_COUNT % 1000 = srcTick (.siA n) → Answers (.sourcePulseTest (.siA n) high) s fun t =>
        let i := (t.lane l).si n
        i.failA = (fieldTest (L.si n).failA (L.si n).passA (L.si n).faultA high).1 ∧ i.faultA = (fieldTest (L.si n).failA (L.si n).passA (L.si n).faultA high).2.2 ∧
        i.b = (L.si n).b ∧ sfOnly L (t.lane l) ∧ t.lane l.other = s.lane l.other ∧ t.sh = s.sh) ∧
    (∀ c high, s.driver = none → Idle (.sourcePulseTest c high) s) ∧
    (L.sf.newPortion = none → L.sf.portion.isSome = true →
      let agree := L.get Reg.SF_BIN_CHECK_CRC = L.get Reg.SF_CFG_CHECK_CRC
      (¬ agree → 1 ≤ L.sf.misRun → L.flag Reg.SF_BIN_MISMATCH = false → OnLane (.checkWordCompare l) l s fun L M =>
        M.get Reg.SF_BIN_MISMATCH = 1 ∧ M.get Reg.SF_FAULT_CHECK_MISMATCH = 1 ∧ M.found = L.found ++ [L.ev 0x58 5] ∧ M.sf.okRun = 0) ∧
      (agree → 1 ≤ L.sf.okRun → L.flag Reg.SF_BIN_MISMATCH = true → OnLane (.checkWordCompare l) l s fun L M =>
        M.get Reg.SF_BIN_MISMATCH = 0 ∧ M.found = L.found ∧ M.sf.misRun = 0) ∧
      (¬ agree → L.sf.misRun = 0 → L.flag Reg.SF_BIN_MISMATCH = false → OnLane (.checkWordCompare l) l s fun L M => M.sf.misRun = 1 ∧ M.sf.okRun = 0 ∧ sfOnly L M)) ∧
    (L.sf.portion = none → Idle (.checkWordCompare l) s) ∧
    (L.flag Reg.SF_STAT_LANE_DIFF = true → 1000 ≤ L.sf.diffTicks → OnLane (.safetyDiffExpiry l) l s fun L M =>
      M.get Reg.LANE_STAT_DEGRADED = 1 ∧ L.framed M [Reg.LANE_STAT_DEGRADED] []) ∧
    (L.flag Reg.SF_STAT_LANE_DIFF = false ∨ L.sf.diffTicks < 1000 → Idle (.safetyDiffExpiry l) s)

/-- The Logbook (14 R523, R526-R529, R531, R532, R534, R535): a record that no filter drops and that fits takes the next sequence
number in the queue; the drain writes to the store while the window is open; cross copies; the read window; host notes; the level;
failures. Where log entry 60 decides a detail of it, that detail is the model's choice, not the spec's. -/
def Obligations.Logbook : Prop :=
  ∀ (s : State) (l : LaneId),
    let L := s.lane l
    let fits (n : Nat) : Prop := L.log.queued + (16 + 4 * ((n + 3) / 4)) ≤ L.logCap ∧ L.summaryDue = false
    let logOnly (M : Lane) (fs : List Fld) : Prop := L.framedPost M fs [] id
    let rdFlds := Reg.LOG_RD_STAT_STATUS :: (List.range 4).map Reg.LOG_RD_HDR_w ++ (List.range 64).map Reg.LOG_RD_DATA_w
    (∀ kind sev code pl, L.boot.phase = .reset → Idle (.recordPost l kind sev code pl) s) ∧
    (∀ kind sev code pl, L.boot.phase ≠ .reset → (6 ≤ sev ∨ (L.logLevel ≤ sev ∧ sev ≠ 0 ∧ kind = true)) → fits pl.length → OnLane (.recordPost l kind sev code pl) l s fun L M =>
      M.log.queue = L.log.queue ++ [⟨sev, L.id, false, L.timeValid, kind, code, L.log.nextSeq, secOf L.now, nsOf L.now, pl⟩] ∧
      M.log.nextSeq = (L.log.nextSeq + 1) % 2 ^ 32 ∧ logOnly M []) ∧
    (∀ kind sev code pl, sev < 6 → sev < L.logLevel → Idle (.recordPost l kind sev code pl) s) ∧
    (∀ code pl, L.boot.phase ≠ .reset → L.logLevel ≤ 3 → 16 ≤ L.log.rateOf (secOf L.now) code → OnLane (.recordPost l false 3 code pl) l s fun L M =>
      M.log.queue = L.log.queue ∧ M.log.nextSeq = L.log.nextSeq ∧ M.get Reg.LOG_DROP_RATE = min (L.get Reg.LOG_DROP_RATE + 1) 255 ∧ logOnly M []) ∧
    (∀ vf, L.flag Reg.LOG_STAT_SRAM_ONLY = true ∨ L.flag Reg.LOG_STAT_INDEXING = true ∨ L.flag Reg.THERM_WINDOW_OPEN = false → Idle (.logDrain l vf) s) ∧
    (L.flag Reg.LOG_STAT_SRAM_ONLY = false → L.flag Reg.LOG_STAT_INDEXING = false → L.flag Reg.THERM_WINDOW_OPEN = true → L.log.queued ≤ 8192 →
      OnLane (.logDrain l false) l s fun L M =>
        M.log.queue = [] ∧ M.log.nextSeq = L.log.nextSeq ∧ logOnly M [] ∧
        (∀ r b, L.log.queue = [r] → L.log.blocks = [b] → b.st = .isOpen → b.sev = r.sev → b.used + r.bytes ≤ 4080 →
          M.log.blocks = [{ b with recs := b.recs ++ [r] }])) ∧
    ((s.lane l.other).log.crossWire = [] → Idle (.crossRecordReceived l) s) ∧
    (∀ r rest, (s.lane l.other).log.crossWire = r :: rest → L.boot.phase ≠ .reset → fits (min (r.payload.length + 4) 1008) → Answers (.crossRecordReceived l) s fun t =>
      (t.lane l.other) = (s.lane l.other).onLog (fun g => { g with crossWire := rest }) ∧
      (t.lane l).log.queue = L.log.queue ++ [{ r with cross := true, seq := L.log.nextSeq, payload := (leBytes 4 r.seq ++ r.payload).take 1008 }] ∧
      (t.lane l).get Reg.LOG_CNT_CROSS_RX = (L.get Reg.LOG_CNT_CROSS_RX + 1) % 65536 ∧ logOnly (t.lane l) [Reg.LOG_CNT_CROSS_RX]) ∧
    (L.linkUp = true → OnLane (.crossCopyResend l) l s fun L M =>
      M.log.crossWire = L.log.crossWire ++ L.log.crossHeld ∧ M.log.crossHeld = [] ∧
      M.log.sick = (L.log.delivered L.log.crossHeld).sick ∧
      M.get Reg.LOG_CNT_CROSS_TX = (L.get Reg.LOG_CNT_CROSS_TX + L.log.crossHeld.length) % 256 ∧
      L.framedUpTo M [Reg.LOG_CNT_CROSS_TX] [] fun N => N.onLog fun _ => L.log) ∧
    (L.linkUp = false → Idle (.crossCopyResend l) s) ∧
    (∀ i kind, (i, kind) ∈ [(Instr.drainStuck l, 3), (.logScanDone l false, 4)] → (kind = 3 → L.log.queue ≠ [] ∧ L.mayDrain = true) →
      (kind = 4 → L.flag Reg.LOG_STAT_INDEXING = true) → OnLane i l s fun L M =>
        M.get Reg.LOG_STAT_SRAM_ONLY = 1 ∧ M.get Reg.LOG_FAULT_LOG_FAIL = 1 ∧ L.ev 0x5C 0 ∈ M.found ∧ L.ev 0x5C 2 ∈ M.found ∧
        M.get Reg.LOG_SICK_CNT_TOTAL = min (L.get Reg.LOG_SICK_CNT_TOTAL + 1) 65535 ∧ M.log.sick.head?.map SickEntry.kind = some kind) ∧
    (L.log.queue = [] ∨ L.mayDrain = false → Idle (.drainStuck l) s) ∧
    (L.flag Reg.LOG_STAT_INDEXING = true → (L.log.ctl0Bad && L.log.ctl1Bad) = false → OnLane (.logScanDone l true) l s fun L M =>
      M.get Reg.LOG_STAT_INDEXING = 0 ∧ M.get Reg.LOG_STAT_SRAM_ONLY = 0 ∧ M.log.queue = L.log.queue ∧ M.log.nextSeq = L.log.nextSeq ∧
      L.framedUpTo M (Reg.LOG_STAT_INDEXING :: Reg.LOG_STAT_SRAM_ONLY :: rdFlds) [] fun N => N.onLog fun _ => L.log) ∧
    (∀ ok, L.flag Reg.LOG_STAT_INDEXING = false → Idle (.logScanDone l ok) s) ∧
    (∀ q, q < 2 ^ 32 →
      (L.flag Reg.LOG_STAT_INDEXING = true → OnLane (.logRdSelect l (some q) none) l s fun L M =>
        M.get Reg.LOG_RD_SEQ_w = q ∧ M.get Reg.LOG_RD_STAT_STATUS = 4) ∧
      (∀ r, L.flag Reg.LOG_STAT_INDEXING = false → L.log.damaged = [] → L.log.queue.find? (fun r => decide (r.seq = q)) = some r →
        256 * L.get Reg.LOG_RD_OFS_OFS < r.bytes → OnLane (.logRdSelect l (some q) none) l s fun L M =>
          M.get Reg.LOG_RD_SEQ_w = q ∧ M.get Reg.LOG_RD_STAT_STATUS = 0 ∧
          (∀ i, i < 4 → M.get (Reg.LOG_RD_HDR_w i) = ofLe ((r.allBytes.drop (4 * i)).take 4) % 2 ^ 32) ∧
          (∀ w, w < 64 → M.get (Reg.LOG_RD_DATA_w w) = ofLe ((r.allBytes.drop (4 * (64 * L.get Reg.LOG_RD_OFS_OFS + w))).take 4) % 2 ^ 32) ∧
          M.log.queue = L.log.queue ∧ M.log.blocks = L.log.blocks)) ∧
    (∀ tag sev words, tag < 256 → sev < 8 → words < 32 →
      let cmdFlds := [Reg.LOG_NOTE_CMD_TAG, Reg.LOG_NOTE_CMD_SEVERITY, Reg.LOG_NOTE_CMD_WORDS, Reg.LOG_NOTE_CMD_RESULT]
      (5 < sev ∨ words < 1 ∨ 16 < words → OnLane (.hostNote l tag sev words) l s fun L M => M.get Reg.LOG_NOTE_CMD_RESULT = 1 ∧ L.framed M cmdFlds [(0x5C, 7)]) ∧
      (sev ≤ 5 → 1 ≤ words → words ≤ 16 → L.log.noteThisTick = true → OnLane (.hostNote l tag sev words) l s fun L M =>
        M.get Reg.LOG_NOTE_CMD_RESULT = 2 ∧ L.framed M cmdFlds [(0x5C, 7)]) ∧
      (sev ≤ 5 → 1 ≤ words → words ≤ 16 → L.log.noteThisTick = false → OnLane (.hostNote l tag sev words) l s fun L M =>
        M.get Reg.LOG_NOTE_CMD_RESULT = 0 ∧ M.get Reg.LOG_NOTE_CMD_TAG = tag ∧ M.log.noteThisTick = true ∧ logOnly M cmdFlds ∧
        (L.logLevel ≤ sev → sev ≠ 0 → fits (4 + 4 * words) → ∃ r, M.log.queue = L.log.queue ++ [r] ∧ r.kind = true ∧ r.code = 0x0C ∧ r.sev = sev ∧
          r.payload = [tag, 0, 0, 0] ++ (List.range words).flatMap fun w => leBytes 4 (L.get (Reg.LOG_NOTE_w w))))) ∧
    (∀ v, (v ≤ 5 → OnLane (.logLevelWrite l v) l s fun L M => M.get Reg.LOG_LEVEL_LEVEL = v ∧ M.log.levelWritten = true ∧
        L.framedUpTo M [Reg.LOG_LEVEL_LEVEL] [] fun N => N.onLog fun _ => L.log) ∧
      (5 < v → Idle (.logLevelWrite l v) s))

/-- References (15 R541-R543, R548-R551, R560): qualifying and qualified inputs, the relative measurement, commanded and preferred
switches, a forced gate. Where log entry 57 decides a detail of it, that detail is the model's choice, not the spec's. -/
def Obligations.ReferenceInputs : Prop :=
  ∀ (s : State) (l : LaneId) (i : RefIn),
    let L := s.lane l
    (∀ det n, L.refOff i = false → L.expectDiffers i det = false → L.refState i ≠ 3 → det < 4 → OnLane (.refQualifying l i det n) l s fun _ M =>
      M.refState i = 2 ∧ M.get (Reg.CLK_REF_DET i.idx) = det ∧ M.get (Reg.CLK_REF_QUAL i.idx) = min n 2047 ∧
      M.get Reg.CLK_PLL_STATE = L.get Reg.CLK_PLL_STATE) ∧
    (∀ det n, L.refOff i = false → L.expectDiffers i det = true → L.refState i = 0 ∨ L.refState i = 2 → det < 4 →
      OnLane (.refQualifying l i det n) l s fun _ M => M.refState i = 1 ∧ M.get (Reg.CLK_REF_CAUSE i.idx) = 4) ∧
    (∀ det n, (L.refOff i = true ∨ L.refState i = 3 ∨ (L.expectDiffers i det = true ∧ L.refState i = 1 ∧ L.get (Reg.CLK_REF_CAUSE i.idx) = 4)) →
      Idle (.refQualifying l i det n) s) ∧
    (∀ us, L.refState i = 2 → L.awaitsRef = false → OnLane (.refQualified l i us) l s fun L M =>
      M.refState i = 3 ∧ M.get (Reg.CLK_REF_QUAL i.idx) = 2048 ∧ L.ev 0x04 1 ∈ M.found ∧ M.pll = L.pll) ∧
    (∀ us, L.refState i = 2 → L.awaitsRef = true → OnLane (.refQualified l i us) l s fun L M =>
      M.refState i = 3 ∧ L.ev 0x04 1 ∈ M.found ∧ M.pll = 1 ∧ M.clk.stopWin = some ⟨i, false⟩ ∧ M.clk.starting = decide (L.pll ≠ 4) ∧
      M.get (Reg.CLK_REF_SELECTED i.idx) = 1 ∧ (L.pll = 4 → M.get Reg.CLK_COAST_LAST_US = min us (2 ^ 32 - 1))) ∧
    (∀ ppb : Int, -(2 ^ 31) ≤ ppb → ppb < 2 ^ 31 → 2 ≤ L.refState .refA → 2 ≤ L.refState .refB → OnLane (.refRelAvailable l ppb) l s fun L M =>
      M.geti Reg.CLK_REF_REL_PPB = ppb ∧ L.framed M [Reg.CLK_REF_REL_PPB] []) ∧
    (∀ p, L.clkChart.preferred = p → L.refState p = 3 → L.refSelected = some p.other → L.pll = 2 → L.clkChart.revert ≠ 0 →
      OnLane (.refRevert l) l s fun L M => M = L.onClk fun c => { c with switchTo := some p }) ∧
    (∀ tag, tag < 256 → L.refSelected = some i → L.refState i.other = 3 → L.pll = 2 → OnLane (.switchRef l tag) l s fun L M =>
      M.clk.switchTo = some i.other ∧ M.get Reg.CLK_CMD_RESULT = 0 ∧ M.get Reg.CLK_CMD_TAG = tag ∧
      L.framedUpTo M [Reg.CLK_CMD_TAG, Reg.CLK_CMD_CMD, Reg.CLK_CMD_RESULT] [] fun N => N.onClk fun _ => L.clk) ∧
    (∀ tag, tag < 256 → (L.refSelected = none ∨ L.pll ≠ 2) → OnLane (.switchRef l tag) l s fun L M =>
      M.get Reg.CLK_CMD_RESULT = 2 ∧ M.get Reg.CLK_CMD_TAG = tag ∧
      L.framed M [Reg.CLK_CMD_TAG, Reg.CLK_CMD_CMD, Reg.CLK_CMD_RESULT] [(0x04, 7)]) ∧
    (∀ block, block < 32 → OnLane (.clkGateForced l block) l s fun L M =>
      M.get Reg.CLK_FORCED_COUNT = min (L.get Reg.CLK_FORCED_COUNT + 1) 65535 ∧ M.get Reg.CLK_FORCED_BLOCK = block ∧
      M.get Reg.CLK_FAULT_FORCED = 1 ∧ L.framed M [Reg.CLK_FORCED_COUNT, Reg.CLK_FORCED_BLOCK, Reg.CLK_FAULT_FORCED] [(0x04, 5)])

/-- Loss of a reference (15 R542, R544, R549, R551, R553): the trip is counted and shown; with the other input qualified the lane
begins a hitless switch; with none it enters COAST, in a shared section that is powered (01 R26); the stop window ends with the PLL locked, and a coast with it. Where log entry
57 decides a detail of it, that detail is the model's choice, not the spec's. -/
def Obligations.ReferenceLost : Prop :=
  ∀ (s : State) (l : LaneId) (i : RefIn) (cause : TripCause) (det : Nat),
    let L := s.lane l
    (s.sharedPower = true → L.mayTrip i cause det = true → L.refSelected = some i → L.clk.stopWin = none → L.clk.switching = none → L.refState i.other = 3 →
      OnLane (.refLost l i cause det) l s fun L M =>
        M.refState i = 1 ∧ M.get (Reg.CLK_REF_CAUSE i.idx) = cause.code ∧ M.get Reg.CLK_CNT_TRIPS = min (L.get Reg.CLK_CNT_TRIPS + 1) 255 ∧
        L.ev 0x04 0 ∈ M.found ∧ M.pll = 3 ∧ M.clk.switching = some (i.other, true) ∧ M.get Reg.CLK_REF_REL_PPB = 0x80000000) ∧
    (s.sharedPower = true → L.mayTrip i cause det = true → L.refSelected = some i → L.clk.stopWin = none → L.clk.switching = none → L.refState i.other ≠ 3 →
      (s.lane l.other).coasting = false →
      Answers (.refLost l i cause det) s fun t =>
        let M := t.lane l
        M.refState i = 1 ∧ M.pll = 4 ∧ M.coasting = true ∧ M.get Reg.CLK_FAULT_COASTED = 1 ∧ M.get Reg.TICK_STAT_COASTING = 1 ∧
        M.get Reg.CLK_CNT_COASTS = min (L.get Reg.CLK_CNT_COASTS + 1) 255 ∧ L.ev 0x04 3 ∈ M.found ∧
        (s.sh.lock.grant = .held l → s.sh.lock.arm l.other = true → t.sh.lock.grant = .deadTime l ∧ t.sh.lock.relCause = some .peerCoast) ∧
        (s.sh.lock.grant = .held l → s.sh.lock.arm l.other = false → t.sh.lock.grant = .held l) ∧ t.lane l.other = s.lane l.other) ∧
    (s.sharedPower = true → L.mayTrip i cause det = false → Idle (.refLost l i cause det) s) ∧
    (∀ w, L.clk.stopWin = some w → w.aborted = false → L.clk.starting = false → L.active = true → s.sh.lock.grant = .held l →
      L.clk.dualCoast = false → OnLane (.stopWindowEnd l) l s fun _ M =>
        M.pll = 2 ∧ M.coasting = false ∧ M.clk.stopWin = none ∧ L.active = M.active)

/-- Supplies (16 R563-R565; 01 R25, R30): loss of CORE_IN resets the lane and takes its DRIVE; loss of IO_IN in the lane that
holds the grant takes DRIVE and restarts it; loss of both IO_IN leaves the shared section without power; loss of ANA_IN stops the analogue chain; an input that returns is in limits again.
Where log entry 58 decides a detail of it, that detail is the model's choice, not the spec's. -/
def Obligations.Supplies : Prop :=
  ∀ (s : State) (l : LaneId),
    let L := s.lane l
    (∀ x : SupplyLoss, x.state < 4 → Answers (.supplyFault l .core x) s fun t =>
      (t.lane l).get (Reg.PWR_IN_STATE 0) = x.state ∧ (t.lane l).boot.phase = .reset ∧ (t.lane l).boot.cause = .supplyReset ∧
      (t.lane l).pwr.coreLost = true ∧ t.sh.lock.drive l = false ∧ t.sh.lock.arm l = false ∧ t.sh.lock.grant ≠ .held l ∧
      (s.sharedPower = true → t.lane l.other = s.lane l.other)) ∧
    (∀ x : SupplyLoss, x.state < 4 → (s.lane l.other).supplyOk .io = true → s.sh.lock.grant = .held l → Answers (.supplyFault l .io x) s fun t =>
      (t.lane l).get (Reg.PWR_IN_STATE 1) = x.state ∧ (t.lane l).get Reg.PWR_FAULT_SUPPLY_LOST = 1 ∧ (t.lane l).boot.phase = .reset ∧
      (t.lane l).pwr.fieldRail = false ∧ t.sh.lock.grant = .deadTime l ∧ t.sh.lock.relCause = some .peerSupply ∧ L.ev 0x05 0 ∈ (t.lane l).found) ∧
    (∀ x : SupplyLoss, x.state < 4 → (s.lane l.other).supplyOk .io = true → s.sh.lock.grant ≠ .held l → Answers (.supplyFault l .io x) s fun t =>
      (t.lane l).get (Reg.PWR_IN_STATE 1) = x.state ∧ (t.lane l).boot = L.boot ∧ t.sh.lock = s.sh.lock ∧ L.ev 0x05 0 ∈ (t.lane l).found) ∧
    (∀ x : SupplyLoss, x.state < 4 → x.state ≠ 2 → (s.lane l.other).supplyOk .io = false → Answers (.supplyFault l .io x) s fun t =>
      t.sharedPower = false ∧ t.sh.lock.grant = .free ∧ t.sh.bin.power = false) ∧
    (∀ x : SupplyLoss, x.state < 4 → s.sharedPower = true → Answers (.supplyFault l .ana x) s fun t =>
      (t.lane l).get (Reg.PWR_IN_STATE 2) = x.state ∧ (t.lane l).get Reg.PWR_ORDER_ANA_HELD = 1 ∧ L.ev 0x05 0 ∈ (t.lane l).found ∧
      (L.active = true → (t.lane l).get Reg.LANE_STAT_DEGRADED = 1) ∧ t.sh.lock = s.sh.lock ∧ t.lane l.other = s.lane l.other) ∧
    (∀ i, L.supplyOk i = false → Answers (.supplyReturn l i) s fun t =>
      (t.lane l).supplyOk i = true ∧ (t.lane l).get (Reg.PWR_IN_REVERSED i.idx) = 0 ∧
      (i = .ana → (t.lane l).get Reg.PWR_ORDER_ANA_HELD = 0) ∧
      (s.sharedPower = true ∨ i ≠ .io → t.sh.lock = s.sh.lock ∧ t.lane l.other = s.lane l.other))

/-- Temperatures (16 R569-R573, R577): a sample of the twelve sensors; a threshold crossed by eight samples; the throttle levels;
a sensor out of use, substituted, back in use, or retired by the host. Where log entry 59 decides a detail of it, that detail is
the model's choice, not the spec's. -/
def Obligations.Temperatures : Prop :=
  ∀ (s : State) (l : LaneId),
    let L := s.lane l
    (∀ dt r, OnLane (.thermalSample l dt r) l s fun L M => M.pwr.clock = L.pwr.clock + dt ∧ M.pwr.poweredMs = L.pwr.poweredMs + dt ∧
      M.get Reg.THERM_LIFE_HOURS = min (M.pwr.poweredMs / 36000000) 65535 ∧ M.boot.phase = L.boot.phase) ∧
    (∀ k, k < 12 → 8 ≤ (L.ts k).reqCnt → OnLane (.thresholdCrossing l (.req k)) l s fun L M =>
      M.get (Reg.THERM_T_REQ k) = 1 - L.get (Reg.THERM_T_REQ k) ∧ (M.ts k).reqCnt = 0) ∧
    (∀ k, k < 12 → 8 ≤ (L.ts k).critCnt → L.get (Reg.THERM_T_CRIT k) = 0 → L.tsState k ≠ 4 → OnLane (.thresholdCrossing l (.crit k)) l s fun L M =>
      M.get (Reg.THERM_T_CRIT k) = 1 ∧ M.get Reg.PWR_FAULT_CRIT_SEEN = 1 ∧ M.get Reg.LANE_STAT_DEGRADED = 1 ∧ L.ev 0x05 4 ∈ M.found ∧
      M.get Reg.THERM_STATE_LEVEL = 2) ∧
    (∀ n, L.pwr.reqAt = some n → L.get Reg.THERM_STATE_LEVEL = 1 → n + 100 * L.thermChart.grace ≤ L.pwr.clock → OnLane (.graceExpiry l) l s fun L M =>
      M.get Reg.THERM_STATE_LEVEL = 2 ∧ M.get Reg.PWR_STAT_ENFORCE = 1 ∧ L.ev 0x05 3 ∈ M.found ∧ M.pwr.reqAt = none) ∧
    (∀ k, k < 12 → L.tsState k = 0 → 3 ≤ (L.ts k).implausible → OnLane (.sensorFault l k) l s fun L M =>
      M.tsState k = (if (L.ts k).last.isSome then 2 else 1) ∧ M.get Reg.PWR_FAULT_SENSOR_FAULT = 1 ∧ L.ev 0x05 5 ∈ M.found ∧
      (M.ts k).faultAt = some L.pwr.clock) ∧
    (∀ k n, k < 12 → (L.ts k).faultAt = some n → (L.tsState k = 1 ∨ L.tsState k = 2) → n + 60000 ≤ L.pwr.clock → L.zoneValid (zoneOf k) ≠ [] →
      OnLane (.substitutionZone l k) l s fun _ M => M.tsState k = 3) ∧
    (∀ k, k < 12 → (L.tsState k = 1 ∨ L.tsState k = 2 ∨ L.tsState k = 3) → 8 ≤ (L.ts k).plausible → OnLane (.sensorRecovered l k) l s fun L M =>
      M.tsState k = 0 ∧ (M.ts k).last = some ((L.ts k).recent, L.pwr.clock) ∧ (M.ts k).faultAt = none) ∧
    (∀ mask, mask < 4096 → OnLane (.thermRetireWrite l mask) l s fun L M => ∀ k, k < 12 →
      M.tsState k = (if testBit mask k = true ∧ (L.tsState k = 1 ∨ L.tsState k = 2 ∨ L.tsState k = 3) then 4 else L.tsState k)) ∧
    (L.flag Reg.THERM_WINDOW_OPEN = true → OnLane (.snapshotWrite l) l s fun L M =>
      M.boot.snapF = L.chr.f ∧ M.boot.mram = L.boot.mem ∧ M.boot.snapAge = 0 ∧ M.pwr.heldSnapshot = false) ∧
    (L.flag Reg.THERM_WINDOW_OPEN = false → OnLane (.snapshotWrite l) l s fun L M =>
      M.pwr.heldSnapshot = true ∧ M.boot.snapF = L.boot.snapF ∧ M.boot.snapAge = 0)

/-- Register writes (00 R8, R9; 01 R54; 18 R601-R605, R607, R615, R618, R619): a write outside the map or to an absent page is
counted and its address kept; a reserved or misaligned address, and a word without a writable field, ignore it; a plain word takes
its RW fields; an RWS field needs a session of the client; EVT_EN, EVT_PEND and EVC_CLEAR; the counters of a page cleared. Where
log entries 31 and 32 decide a detail of it, that detail is the model's choice, not the spec's. -/
def Obligations.RegisterWrites : Prop :=
  ∀ (s : State) (l : LaneId),
    let L := s.lane l
    (∀ a, a < 2 ^ 32 → OnLane (.absentWrite l a) l s fun L M => L.countsAbsent M a) ∧
    (OnLane (.absentClear l) l s fun L M => M.get Reg.MOD_ABSENT_CNT = 0 ∧ M.get Reg.MOD_ABSENT_ADDR_w = 0 ∧
      L.framed M [Reg.MOD_ABSENT_CNT, Reg.MOD_ABSENT_ADDR_w] []) ∧
    (∀ c a v, a < 2 ^ 32 →
      (a % 4 ≠ 0 → Idle (.registerWrite l c a v) s) ∧
      (a % 4 = 0 → 0x40000 ≤ a ∨ pagePresent L.variant (a / 0x400) = false → OnLane (.registerWrite l c a v) l s fun L M => L.countsAbsent M a) ∧
      (a < 0x40000 → pagePresent L.variant (a / 0x400) = true → rowAt a = none → Idle (.registerWrite l c a v) s ∧ Idle (.reservedWrite l a v) s) ∧
      (∀ r, a % 4 = 0 → a < 0x40000 → pagePresent L.variant (a / 0x400) = true → rowAt a = some r →
        (r.rw = 0 → r.w1c = 0 → r.wo = 0 → r.rws = 0 → Idle (.registerWrite l c a v) s) ∧
        (r.rw ≠ 0 → r.rws = 0 → a % 0x400 ∉ [0x08, 0x14, 0x18] → v.toNat < 2 ^ 31 → L.ownWrite a v = none → OnLane (.registerWrite l c a v) l s fun L M =>
          M.word a = ((L.word a &&& ~~~(BitVec.ofNat 32 r.rw)) ||| (v &&& BitVec.ofNat 32 r.rw)) ∧ (∀ b, b ≠ a → M.word b = L.word b) ∧
          M.found = L.found ∧ L.onlyRegs M))) ∧
    (∀ c v, L.rap.session.map Prod.fst ≠ some c → Idle (.sfTpWrite l c v) s) ∧
    (∀ c p d en, L.rap.session.map Prod.fst = some c → L.active = true → 1 ≤ p → p ≤ 600 → 10 ≤ d → d ≤ 45 → en < 256 →
      let v : Word := BitVec.ofNat 32 (p * 2 ^ 22 + d * 2 ^ 16 + en)
      (L.sf.log.length < 256 → L.flag Reg.THERM_WINDOW_OPEN = true → OnLane (.sfTpWrite l c v) l s fun L M =>
        M.get Reg.SF_TP_PERIOD = p ∧ M.get Reg.SF_TP_WIDTH = d ∧ M.get Reg.SF_TP_EN = en ∧ L.ev 0x59 0 ∈ M.found ∧
        ∃ e, M.sf.log = L.sf.log ++ [e] ∧ e.kind = 4 ∧ e.client = c ∧ e.number = L.sf.log.length + 1) ∧
      (256 ≤ L.sf.log.length ∨ L.flag Reg.THERM_WINDOW_OPEN = false → OnLane (.sfTpWrite l c v) l s fun L M => L.framed M [] [(0x59, 2)])) ∧
    (∀ p, pagePresent L.variant p = true → evDefined p ≠ 0 →
      (∀ v, OnLane (.evtEnWrite l p v) l s fun L M =>
        (∀ n, n < 8 → M.bit (evEn p) n = (testBit v n && testBit (evDefined p) n)) ∧ L.framed M [evEn p] []) ∧
      (∀ mask, OnLane (.evtPendClear l p mask) l s fun L M =>
        (∀ n, n < 8 → M.bit (evPend p) n = (L.bit (evPend p) n && !(testBit mask n && decide (L.causeHolds p n ≠ some true)))) ∧ L.framed M [evPend p] [])) ∧
    (∀ p v, p < 256 → pagePresent L.variant p = false →
      OnLane (.evtEnWrite l p v) l s (fun L M => L.countsAbsent M (p * 0x400 + 0x14)) ∧
      OnLane (.evtPendClear l p v) l s (fun L M => L.countsAbsent M (p * 0x400 + 0x18)) ∧
      OnLane (.cntClr l p) l s (fun L M => L.countsAbsent M (p * 0x400 + 8))) ∧
    (∀ e, e < 256 → OnLane (.evcClear l false e) l s fun L M =>
      M.get Reg.EVC_CLEAR_EVENT = e ∧ M.get Reg.EVC_CLEAR_ALL = 0 ∧ M.found = L.found ∧
      ∀ p n, p ∈ L.evPagesHere → n < 8 → M.bit (evPend p) n = (L.bit (evPend p) n && !(decide (e = evBase p + n) && decide (L.causeHolds p n ≠ some true)))) ∧
    (∀ e, e < 256 → OnLane (.evcClear l true e) l s fun L M =>
      M.get Reg.EVC_CLEAR_ALL = 1 ∧ M.found = L.found ∧
      ∀ p n, p ∈ L.evPagesHere → n < 8 → M.bit (evPend p) n = (L.bit (evPend p) n && decide (L.causeHolds p n = some true))) ∧
    (OnLane (.cntClr l 0x43) l s fun L M => M.get Reg.RAP_REQ_w = 0 ∧ M.get Reg.RAP_DISCARD_w = 0 ∧ M.get Reg.RAP_AUTH_TOTAL = 0 ∧
      M.get Reg.RAP_AUTH_CONSEC = L.get Reg.RAP_AUTH_CONSEC ∧ L.framed M [Reg.RAP_REQ_w, Reg.RAP_DISCARD_w, Reg.RAP_AUTH_TOTAL] []) ∧
    (OnLane (.cntClr l 0x01) l s fun L M => (∀ f ∈ [Reg.LANE_ECC_DRAM_w, Reg.LANE_ECC_SRAM_w, Reg.LANE_ECC_MRAM_w, Reg.LANE_LOCKSTEP_CNT_w, Reg.LANE_XLINK_ERR_w], M.get f = 0) ∧
      L.framed M [Reg.LANE_ECC_DRAM_w, Reg.LANE_ECC_SRAM_w, Reg.LANE_ECC_MRAM_w, Reg.LANE_LOCKSTEP_CNT_w, Reg.LANE_XLINK_ERR_w] [])
end

