-- ==== Sys2Proof/Laws/Reg.lean ====
section
/-! SUPPORT. Laws of the register store: sparse lists, words, fields. -/

namespace Sys2Proof.Machine

open Sys2Proof

/-! ### Sparse lists -/

/-- Addresses strictly rising. -/
def sortedKeys : List (Nat × Word) → Bool
  | [] => true
  | [_] => true
  | (a, _) :: (b, w) :: r => decide (a < b) && sortedKeys ((b, w) :: r)

theorem sortedKeys_tail {p : Nat × Word} {m : List (Nat × Word)} (h : sortedKeys (p :: m) = true) : sortedKeys m = true := by
  cases m with
  | nil => rfl
  | cons q r =>
    obtain ⟨a, u⟩ := p
    obtain ⟨b, w⟩ := q
    simp only [sortedKeys, Bool.and_eq_true] at h
    exact h.2

theorem sortedKeys_lt {a : Nat} {w : Word} {m : List (Nat × Word)} (h : sortedKeys ((a, w) :: m) = true) :
    ∀ q ∈ m, a < q.1 := by
  induction m generalizing a w with
  | nil => intro q hq; cases hq
  | cons q r ih =>
    obtain ⟨b, u⟩ := q
    simp only [sortedKeys, Bool.and_eq_true, decide_eq_true_eq] at h
    intro p hp
    rcases List.mem_cons.1 hp with rfl | hp
    · exact h.1
    · exact lt_trans h.1 (ih h.2 p hp)

theorem sparseGet_ins_same (m : List (Nat × Word)) (a : Nat) (v d : Word) : sparseGet (sparseIns m a v) a d = v := by
  induction m with
  | nil => simp [sparseIns, sparseGet]
  | cons p r ih =>
    obtain ⟨k, w⟩ := p
    simp only [sparseIns]
    split
    · simp [sparseGet]
    · split
      · simp [sparseGet]
      · simp [sparseGet, *]

theorem sparseGet_ins_other (m : List (Nat × Word)) {a b : Nat} (v d : Word) (h : b ≠ a) :
    sparseGet (sparseIns m a v) b d = sparseGet m b d := by
  induction m with
  | nil => simp [sparseIns, sparseGet, h.symm]
  | cons p r ih =>
    obtain ⟨k, w⟩ := p
    simp only [sparseIns]
    split
    · simp [sparseGet, h.symm]
    · split
      · rename_i h1 h2
        subst h2
        simp [sparseGet, h.symm]
      · simp only [sparseGet]
        split
        · rfl
        · exact ih

theorem sparseGet_del_other (m : List (Nat × Word)) {a b : Nat} (d : Word) (h : b ≠ a) :
    sparseGet (sparseDel m a) b d = sparseGet m b d := by
  induction m with
  | nil => rfl
  | cons p r ih =>
    obtain ⟨k, w⟩ := p
    simp only [sparseDel]
    split
    · rename_i h2
      subst h2
      simp [sparseGet, h.symm, ih]
    · simp only [sparseGet]
      split
      · rfl
      · exact ih

theorem sparseGet_del_same (m : List (Nat × Word)) (a : Nat) (d : Word) : sparseGet (sparseDel m a) a d = d := by
  induction m with
  | nil => rfl
  | cons p r ih =>
    obtain ⟨k, w⟩ := p
    simp only [sparseDel]
    split
    · exact ih
    · rename_i h2
      simp only [sparseGet, if_neg h2]
      exact ih

/-- A read after a write of the same address. -/
theorem sparseGet_put_same (m : List (Nat × Word)) (a : Nat) (v d : Word) :
    sparseGet (sparsePut m a v d) a d = v := by
  unfold sparsePut
  split
  · rename_i e
    rw [sparseGet_del_same m a d, e]
  · exact sparseGet_ins_same m a v d

/-- A write leaves every other address alone. -/
theorem sparseGet_put_other (m : List (Nat × Word)) {a b : Nat} (v d e : Word) (h : b ≠ a) :
    sparseGet (sparsePut m a v d) b e = sparseGet m b e := by
  unfold sparsePut
  split
  · exact sparseGet_del_other m e h
  · exact sparseGet_ins_other m v e h

theorem sparseDel_mem {m : List (Nat × Word)} {a : Nat} {q : Nat × Word} (h : q ∈ sparseDel m a) : q ∈ m := by
  induction m with
  | nil => exact h
  | cons p r ih =>
    obtain ⟨k, w⟩ := p
    simp only [sparseDel] at h
    split at h
    · exact List.mem_cons_of_mem _ (ih h)
    · rcases List.mem_cons.1 h with rfl | h
      · exact List.mem_cons_self ..
      · exact List.mem_cons_of_mem _ (ih h)

theorem sortedKeys_cons {a : Nat} {w : Word} {m : List (Nat × Word)} (h : sortedKeys m = true) (hl : ∀ q ∈ m, a < q.1) :
    sortedKeys ((a, w) :: m) = true := by
  cases m with
  | nil => rfl
  | cons q r =>
    obtain ⟨b, u⟩ := q
    simp only [sortedKeys, Bool.and_eq_true, decide_eq_true_eq]
    exact ⟨hl (b, u) (List.mem_cons_self ..), h⟩

theorem sortedKeys_del {m : List (Nat × Word)} (a : Nat) (h : sortedKeys m = true) : sortedKeys (sparseDel m a) = true := by
  induction m with
  | nil => rfl
  | cons p r ih =>
    obtain ⟨k, w⟩ := p
    simp only [sparseDel]
    split
    · exact ih (sortedKeys_tail h)
    · exact sortedKeys_cons (ih (sortedKeys_tail h)) fun q hq => sortedKeys_lt h q (sparseDel_mem hq)

theorem sparseIns_mem {m : List (Nat × Word)} {a : Nat} {v : Word} {q : Nat × Word} (h : q ∈ sparseIns m a v) : q = (a, v) ∨ q ∈ m := by
  induction m with
  | nil =>
    simp only [sparseIns, List.mem_singleton] at h
    exact .inl h
  | cons p r ih =>
    obtain ⟨k, w⟩ := p
    simp only [sparseIns] at h
    split at h
    · rcases List.mem_cons.1 h with e | h
      · exact .inl e
      · exact .inr h
    · split at h
      · rcases List.mem_cons.1 h with e | h
        · exact .inl e
        · exact .inr (List.mem_cons_of_mem _ h)
      · rcases List.mem_cons.1 h with e | h
        · exact .inr (e ▸ List.mem_cons_self ..)
        · rcases ih h with e | h
          · exact .inl e
          · exact .inr (List.mem_cons_of_mem _ h)

theorem sortedKeys_ins {m : List (Nat × Word)} (a : Nat) (v : Word) (h : sortedKeys m = true) : sortedKeys (sparseIns m a v) = true := by
  induction m with
  | nil => rfl
  | cons p r ih =>
    obtain ⟨k, w⟩ := p
    simp only [sparseIns]
    split
    · rename_i hk
      refine sortedKeys_cons h fun q hq => ?_
      rcases List.mem_cons.1 hq with rfl | hq
      · exact hk
      · exact lt_trans hk (sortedKeys_lt h q hq)
    · split
      · rename_i _ e
        subst e
        exact sortedKeys_cons (sortedKeys_tail h) (sortedKeys_lt h)
      · rename_i h1 h2
        refine sortedKeys_cons (ih (sortedKeys_tail h)) fun q hq => ?_
        rcases sparseIns_mem hq with rfl | hq
        · show k < a
          omega
        · exact sortedKeys_lt h q hq

/-- A write keeps the addresses strictly rising. -/
theorem sortedKeys_put {m : List (Nat × Word)} (a : Nat) (v d : Word) (h : sortedKeys m = true) : sortedKeys (sparsePut m a v d) = true := by
  unfold sparsePut
  split
  · exact sortedKeys_del a h
  · exact sortedKeys_ins a v h

/-! ### Words of a lane -/

/-- The lane's registers are listed with addresses strictly rising. -/
def Lane.sorted (L : Lane) : Prop := sortedKeys L.regs = true

theorem Lane.sorted_setWord {L : Lane} (a : Nat) (v : Word) (h : L.sorted) : (L.setWord a v).sorted := sortedKeys_put a v _ h

theorem Lane.sorted_set {L : Lane} (f : Fld) (v : Nat) (h : L.sorted) : (L.set f v).sorted := L.sorted_setWord _ _ h

@[simp] theorem Lane.word_setWord_same (L : Lane) (a : Nat) (v : Word) : (L.setWord a v).word a = v :=
  sparseGet_put_same L.regs a v _

theorem Lane.word_setWord_other (L : Lane) {a b : Nat} (v : Word) (h : b ≠ a) : (L.setWord a v).word b = L.word b :=
  sparseGet_put_other L.regs v _ _ h

theorem Lane.word_set_other (L : Lane) {f : Fld} {b : Nat} (v : Nat) (h : b ≠ f.addr) : (L.set f v).word b = L.word b :=
  L.word_setWord_other _ h

/-! ### Fields -/

theorem Fld.testBit_mask (f : Fld) (h : f.lo + f.w ≤ 32) (i : Nat) :
    f.mask.getLsbD i = (decide (f.lo ≤ i) && decide (i < f.lo + f.w)) := by
  unfold Fld.mask
  rw [BitVec.getLsbD_ofNat, Nat.testBit_mul_two_pow, Nat.testBit_two_pow_sub_one]
  by_cases h1 : f.lo ≤ i <;> by_cases h2 : i < f.lo + f.w <;> simp [h1, h2] <;> omega

theorem Fld.testBit_of (f : Fld) (w : Word) (i : Nat) : (f.of w).testBit i = (decide (i < f.w) && w.getLsbD (i + f.lo)) := by
  unfold Fld.of
  rw [Nat.testBit_mod_two_pow, Nat.testBit_div_two_pow]
  rfl

theorem Fld.getLsbD_put (f : Fld) (w : Word) (v i : Nat) (h : f.lo + f.w ≤ 32) (hi : i < 32) :
    (f.put w v).getLsbD i = if f.lo ≤ i ∧ i < f.lo + f.w then v.testBit (i - f.lo) else w.getLsbD i := by
  unfold Fld.put
  rw [BitVec.getLsbD_or, BitVec.getLsbD_and, BitVec.getLsbD_not, f.testBit_mask h, BitVec.getLsbD_ofNat, Nat.testBit_mul_two_pow,
    Nat.testBit_mod_two_pow]
  by_cases h1 : f.lo ≤ i <;> by_cases h2 : i < f.lo + f.w <;> simp [h1, h2, hi] <;> omega

/-- A field reads what was put into it, modulo its width. -/
theorem Fld.of_put (f : Fld) (w : Word) (v : Nat) (h : f.lo + f.w ≤ 32) : f.of (f.put w v) = v % 2 ^ f.w := by
  apply Nat.eq_of_testBit_eq
  intro i
  rw [f.testBit_of, Nat.testBit_mod_two_pow]
  by_cases hi : i < f.w
  · rw [f.getLsbD_put w v (i + f.lo) h (by omega)]
    simp [hi]
    omega
  · simp [hi]

/-- A field keeps its value when another field of its word is put. -/
theorem Fld.of_put_other (f g : Fld) (w : Word) (v : Nat) (hf : f.lo + f.w ≤ 32) (hg : g.lo + g.w ≤ 32)
    (h : f.lo + f.w ≤ g.lo ∨ g.lo + g.w ≤ f.lo) : f.of (g.put w v) = f.of w := by
  apply Nat.eq_of_testBit_eq
  intro i
  rw [f.testBit_of, f.testBit_of]
  by_cases hi : i < f.w
  · rw [g.getLsbD_put w v (i + f.lo) hg (by omega), if_neg (by omega)]
  · simp [hi]

/-- A field that was set reads its value. -/
theorem Lane.get_set_same (L : Lane) (f : Fld) (v : Nat) (h : f.lo + f.w ≤ 32) : (L.set f v).get f = v % 2 ^ f.w := by
  unfold Lane.get Lane.set
  rw [Lane.word_setWord_same, f.of_put _ _ h]

/-- A field of another register keeps its value. -/
theorem Lane.get_set_addr (L : Lane) {f g : Fld} (v : Nat) (h : f.addr ≠ g.addr) : (L.set g v).get f = L.get f := by
  unfold Lane.get Lane.set
  rw [Lane.word_setWord_other _ _ h]

/-- A field of the same register on other bits keeps its value. -/
theorem Lane.get_set_bits (L : Lane) {f g : Fld} (v : Nat) (ha : f.addr = g.addr) (hf : f.lo + f.w ≤ 32)
    (hg : g.lo + g.w ≤ 32) (h : f.lo + f.w ≤ g.lo ∨ g.lo + g.w ≤ f.lo) : (L.set g v).get f = L.get f := by
  unfold Lane.get Lane.set
  rw [ha, Lane.word_setWord_same, f.of_put_other g _ _ hf hg h]

/-- A field that shares no bit with the one set keeps its value. -/
theorem Lane.get_set_other (L : Lane) (f g : Fld) (v : Nat) (hf : f.lo + f.w ≤ 32) (hg : g.lo + g.w ≤ 32)
    (h : f.addr ≠ g.addr ∨ f.lo + f.w ≤ g.lo ∨ g.lo + g.w ≤ f.lo) : (L.set g v).get f = L.get f := by
  by_cases ha : f.addr = g.addr
  · exact L.get_set_bits v ha hf hg (h.resolve_left (not_not_intro ha))
  · exact L.get_set_addr v ha

end Sys2Proof.Machine
end

