-- ==== Sys2Proof/Laws/State.lean ====
section
/-! SUPPORT. One lemma per field per update of the lane and of the module, all true by unfolding. -/

namespace Sys2Proof.Machine

open Sys2Proof

@[simp] theorem Lane.onRegs_id (L : Lane) f : (L.onRegs f).id = L.id := (rfl)
@[simp] theorem Lane.onRegs_variant (L : Lane) f : (L.onRegs f).variant = L.variant := (rfl)
@[simp] theorem Lane.onRegs_regs (L : Lane) f : (L.onRegs f).regs = f L.regs := (rfl)
@[simp] theorem Lane.onRegs_found (L : Lane) f : (L.onRegs f).found = L.found := (rfl)
@[simp] theorem Lane.onRegs_evInfo (L : Lane) f : (L.onRegs f).evInfo = L.evInfo := (rfl)
@[simp] theorem Lane.onRegs_tk (L : Lane) f : (L.onRegs f).tk = L.tk := (rfl)
@[simp] theorem Lane.onRegs_boot (L : Lane) f : (L.onRegs f).boot = L.boot := (rfl)
@[simp] theorem Lane.onRegs_hw (L : Lane) f : (L.onRegs f).hw = L.hw := (rfl)
@[simp] theorem Lane.onRegs_red (L : Lane) f : (L.onRegs f).red = L.red := (rfl)
@[simp] theorem Lane.onRegs_chart (L : Lane) f : (L.onRegs f).chart = L.chart := (rfl)
@[simp] theorem Lane.onRegs_log (L : Lane) f : (L.onRegs f).log = L.log := (rfl)
@[simp] theorem Lane.onRegs_chr (L : Lane) f : (L.onRegs f).chr = L.chr := (rfl)
@[simp] theorem Lane.onRegs_clk (L : Lane) f : (L.onRegs f).clk = L.clk := (rfl)
@[simp] theorem Lane.onRegs_pwr (L : Lane) f : (L.onRegs f).pwr = L.pwr := (rfl)
@[simp] theorem Lane.onRegs_sf (L : Lane) f : (L.onRegs f).sf = L.sf := (rfl)
@[simp] theorem Lane.onRegs_rap (L : Lane) f : (L.onRegs f).rap = L.rap := (rfl)
@[simp] theorem Lane.onRegs_ethA (L : Lane) f : (L.onRegs f).ethA = L.ethA := (rfl)
@[simp] theorem Lane.onRegs_ethB (L : Lane) f : (L.onRegs f).ethB = L.ethB := (rfl)
@[simp] theorem Lane.onRegs_l450 (L : Lane) f : (L.onRegs f).l450 = L.l450 := (rfl)
@[simp] theorem Lane.onRegs_ser (L : Lane) f : (L.onRegs f).ser = L.ser := (rfl)
@[simp] theorem Lane.onRegs_can (L : Lane) f : (L.onRegs f).can = L.can := (rfl)
@[simp] theorem Lane.onRegs_ana (L : Lane) f : (L.onRegs f).ana = L.ana := (rfl)
@[simp] theorem Lane.onRegs_ntk (L : Lane) f : (L.onRegs f).ntk = L.ntk := (rfl)
@[simp] theorem Lane.onRegs_plt (L : Lane) f : (L.onRegs f).plt = L.plt := (rfl)
@[simp] theorem Lane.onRegs_ctl (L : Lane) f : (L.onRegs f).ctl = L.ctl := (rfl)
@[simp] theorem Lane.onRegs_alc (L : Lane) f : (L.onRegs f).alc = L.alc := (rfl)
@[simp] theorem Lane.onRegs_sx (L : Lane) f : (L.onRegs f).sx = L.sx := (rfl)
@[simp] theorem Lane.onRegs_mirror (L : Lane) f : (L.onRegs f).mirror = L.mirror := (rfl)
@[simp] theorem Lane.onRegs_work (L : Lane) f : (L.onRegs f).work = L.work := (rfl)
@[simp] theorem Lane.onRegs_free (L : Lane) f : (L.onRegs f).free = L.free := (rfl)
@[simp] theorem Lane.onFound_id (L : Lane) f : (L.onFound f).id = L.id := (rfl)
@[simp] theorem Lane.onFound_variant (L : Lane) f : (L.onFound f).variant = L.variant := (rfl)
@[simp] theorem Lane.onFound_regs (L : Lane) f : (L.onFound f).regs = L.regs := (rfl)
@[simp] theorem Lane.onFound_found (L : Lane) f : (L.onFound f).found = f L.found := (rfl)
@[simp] theorem Lane.onFound_evInfo (L : Lane) f : (L.onFound f).evInfo = L.evInfo := (rfl)
@[simp] theorem Lane.onFound_tk (L : Lane) f : (L.onFound f).tk = L.tk := (rfl)
@[simp] theorem Lane.onFound_boot (L : Lane) f : (L.onFound f).boot = L.boot := (rfl)
@[simp] theorem Lane.onFound_hw (L : Lane) f : (L.onFound f).hw = L.hw := (rfl)
@[simp] theorem Lane.onFound_red (L : Lane) f : (L.onFound f).red = L.red := (rfl)
@[simp] theorem Lane.onFound_chart (L : Lane) f : (L.onFound f).chart = L.chart := (rfl)
@[simp] theorem Lane.onFound_log (L : Lane) f : (L.onFound f).log = L.log := (rfl)
@[simp] theorem Lane.onFound_chr (L : Lane) f : (L.onFound f).chr = L.chr := (rfl)
@[simp] theorem Lane.onFound_clk (L : Lane) f : (L.onFound f).clk = L.clk := (rfl)
@[simp] theorem Lane.onFound_pwr (L : Lane) f : (L.onFound f).pwr = L.pwr := (rfl)
@[simp] theorem Lane.onFound_sf (L : Lane) f : (L.onFound f).sf = L.sf := (rfl)
@[simp] theorem Lane.onFound_rap (L : Lane) f : (L.onFound f).rap = L.rap := (rfl)
@[simp] theorem Lane.onFound_ethA (L : Lane) f : (L.onFound f).ethA = L.ethA := (rfl)
@[simp] theorem Lane.onFound_ethB (L : Lane) f : (L.onFound f).ethB = L.ethB := (rfl)
@[simp] theorem Lane.onFound_l450 (L : Lane) f : (L.onFound f).l450 = L.l450 := (rfl)
@[simp] theorem Lane.onFound_ser (L : Lane) f : (L.onFound f).ser = L.ser := (rfl)
@[simp] theorem Lane.onFound_can (L : Lane) f : (L.onFound f).can = L.can := (rfl)
@[simp] theorem Lane.onFound_ana (L : Lane) f : (L.onFound f).ana = L.ana := (rfl)
@[simp] theorem Lane.onFound_ntk (L : Lane) f : (L.onFound f).ntk = L.ntk := (rfl)
@[simp] theorem Lane.onFound_plt (L : Lane) f : (L.onFound f).plt = L.plt := (rfl)
@[simp] theorem Lane.onFound_ctl (L : Lane) f : (L.onFound f).ctl = L.ctl := (rfl)
@[simp] theorem Lane.onFound_alc (L : Lane) f : (L.onFound f).alc = L.alc := (rfl)
@[simp] theorem Lane.onFound_sx (L : Lane) f : (L.onFound f).sx = L.sx := (rfl)
@[simp] theorem Lane.onFound_mirror (L : Lane) f : (L.onFound f).mirror = L.mirror := (rfl)
@[simp] theorem Lane.onFound_work (L : Lane) f : (L.onFound f).work = L.work := (rfl)
@[simp] theorem Lane.onFound_free (L : Lane) f : (L.onFound f).free = L.free := (rfl)
@[simp] theorem Lane.onFound_word (L : Lane) f a : (L.onFound f).word a = L.word a := (rfl)
@[simp] theorem Lane.onFound_get (L : Lane) f g : (L.onFound f).get g = L.get g := (rfl)
@[simp] theorem Lane.onFound_bit (L : Lane) f g k : (L.onFound f).bit g k = L.bit g k := (rfl)
@[simp] theorem Lane.onFound_now (L : Lane) f : (L.onFound f).now = L.now := (rfl)
@[simp] theorem Lane.onEvInfo_id (L : Lane) f : (L.onEvInfo f).id = L.id := (rfl)
@[simp] theorem Lane.onEvInfo_variant (L : Lane) f : (L.onEvInfo f).variant = L.variant := (rfl)
@[simp] theorem Lane.onEvInfo_regs (L : Lane) f : (L.onEvInfo f).regs = L.regs := (rfl)
@[simp] theorem Lane.onEvInfo_found (L : Lane) f : (L.onEvInfo f).found = L.found := (rfl)
@[simp] theorem Lane.onEvInfo_evInfo (L : Lane) f : (L.onEvInfo f).evInfo = f L.evInfo := (rfl)
@[simp] theorem Lane.onEvInfo_tk (L : Lane) f : (L.onEvInfo f).tk = L.tk := (rfl)
@[simp] theorem Lane.onEvInfo_boot (L : Lane) f : (L.onEvInfo f).boot = L.boot := (rfl)
@[simp] theorem Lane.onEvInfo_hw (L : Lane) f : (L.onEvInfo f).hw = L.hw := (rfl)
@[simp] theorem Lane.onEvInfo_red (L : Lane) f : (L.onEvInfo f).red = L.red := (rfl)
@[simp] theorem Lane.onEvInfo_chart (L : Lane) f : (L.onEvInfo f).chart = L.chart := (rfl)
@[simp] theorem Lane.onEvInfo_log (L : Lane) f : (L.onEvInfo f).log = L.log := (rfl)
@[simp] theorem Lane.onEvInfo_chr (L : Lane) f : (L.onEvInfo f).chr = L.chr := (rfl)
@[simp] theorem Lane.onEvInfo_clk (L : Lane) f : (L.onEvInfo f).clk = L.clk := (rfl)
@[simp] theorem Lane.onEvInfo_pwr (L : Lane) f : (L.onEvInfo f).pwr = L.pwr := (rfl)
@[simp] theorem Lane.onEvInfo_sf (L : Lane) f : (L.onEvInfo f).sf = L.sf := (rfl)
@[simp] theorem Lane.onEvInfo_rap (L : Lane) f : (L.onEvInfo f).rap = L.rap := (rfl)
@[simp] theorem Lane.onEvInfo_ethA (L : Lane) f : (L.onEvInfo f).ethA = L.ethA := (rfl)
@[simp] theorem Lane.onEvInfo_ethB (L : Lane) f : (L.onEvInfo f).ethB = L.ethB := (rfl)
@[simp] theorem Lane.onEvInfo_l450 (L : Lane) f : (L.onEvInfo f).l450 = L.l450 := (rfl)
@[simp] theorem Lane.onEvInfo_ser (L : Lane) f : (L.onEvInfo f).ser = L.ser := (rfl)
@[simp] theorem Lane.onEvInfo_can (L : Lane) f : (L.onEvInfo f).can = L.can := (rfl)
@[simp] theorem Lane.onEvInfo_ana (L : Lane) f : (L.onEvInfo f).ana = L.ana := (rfl)
@[simp] theorem Lane.onEvInfo_ntk (L : Lane) f : (L.onEvInfo f).ntk = L.ntk := (rfl)
@[simp] theorem Lane.onEvInfo_plt (L : Lane) f : (L.onEvInfo f).plt = L.plt := (rfl)
@[simp] theorem Lane.onEvInfo_ctl (L : Lane) f : (L.onEvInfo f).ctl = L.ctl := (rfl)
@[simp] theorem Lane.onEvInfo_alc (L : Lane) f : (L.onEvInfo f).alc = L.alc := (rfl)
@[simp] theorem Lane.onEvInfo_sx (L : Lane) f : (L.onEvInfo f).sx = L.sx := (rfl)
@[simp] theorem Lane.onEvInfo_mirror (L : Lane) f : (L.onEvInfo f).mirror = L.mirror := (rfl)
@[simp] theorem Lane.onEvInfo_work (L : Lane) f : (L.onEvInfo f).work = L.work := (rfl)
@[simp] theorem Lane.onEvInfo_free (L : Lane) f : (L.onEvInfo f).free = L.free := (rfl)
@[simp] theorem Lane.onEvInfo_word (L : Lane) f a : (L.onEvInfo f).word a = L.word a := (rfl)
@[simp] theorem Lane.onEvInfo_get (L : Lane) f g : (L.onEvInfo f).get g = L.get g := (rfl)
@[simp] theorem Lane.onEvInfo_bit (L : Lane) f g k : (L.onEvInfo f).bit g k = L.bit g k := (rfl)
@[simp] theorem Lane.onEvInfo_now (L : Lane) f : (L.onEvInfo f).now = L.now := (rfl)
@[simp] theorem Lane.onTk_id (L : Lane) f : (L.onTk f).id = L.id := (rfl)
@[simp] theorem Lane.onTk_variant (L : Lane) f : (L.onTk f).variant = L.variant := (rfl)
@[simp] theorem Lane.onTk_regs (L : Lane) f : (L.onTk f).regs = L.regs := (rfl)
@[simp] theorem Lane.onTk_found (L : Lane) f : (L.onTk f).found = L.found := (rfl)
@[simp] theorem Lane.onTk_evInfo (L : Lane) f : (L.onTk f).evInfo = L.evInfo := (rfl)
@[simp] theorem Lane.onTk_tk (L : Lane) f : (L.onTk f).tk = f L.tk := (rfl)
@[simp] theorem Lane.onTk_boot (L : Lane) f : (L.onTk f).boot = L.boot := (rfl)
@[simp] theorem Lane.onTk_hw (L : Lane) f : (L.onTk f).hw = L.hw := (rfl)
@[simp] theorem Lane.onTk_red (L : Lane) f : (L.onTk f).red = L.red := (rfl)
@[simp] theorem Lane.onTk_chart (L : Lane) f : (L.onTk f).chart = L.chart := (rfl)
@[simp] theorem Lane.onTk_log (L : Lane) f : (L.onTk f).log = L.log := (rfl)
@[simp] theorem Lane.onTk_chr (L : Lane) f : (L.onTk f).chr = L.chr := (rfl)
@[simp] theorem Lane.onTk_clk (L : Lane) f : (L.onTk f).clk = L.clk := (rfl)
@[simp] theorem Lane.onTk_pwr (L : Lane) f : (L.onTk f).pwr = L.pwr := (rfl)
@[simp] theorem Lane.onTk_sf (L : Lane) f : (L.onTk f).sf = L.sf := (rfl)
@[simp] theorem Lane.onTk_rap (L : Lane) f : (L.onTk f).rap = L.rap := (rfl)
@[simp] theorem Lane.onTk_ethA (L : Lane) f : (L.onTk f).ethA = L.ethA := (rfl)
@[simp] theorem Lane.onTk_ethB (L : Lane) f : (L.onTk f).ethB = L.ethB := (rfl)
@[simp] theorem Lane.onTk_l450 (L : Lane) f : (L.onTk f).l450 = L.l450 := (rfl)
@[simp] theorem Lane.onTk_ser (L : Lane) f : (L.onTk f).ser = L.ser := (rfl)
@[simp] theorem Lane.onTk_can (L : Lane) f : (L.onTk f).can = L.can := (rfl)
@[simp] theorem Lane.onTk_ana (L : Lane) f : (L.onTk f).ana = L.ana := (rfl)
@[simp] theorem Lane.onTk_ntk (L : Lane) f : (L.onTk f).ntk = L.ntk := (rfl)
@[simp] theorem Lane.onTk_plt (L : Lane) f : (L.onTk f).plt = L.plt := (rfl)
@[simp] theorem Lane.onTk_ctl (L : Lane) f : (L.onTk f).ctl = L.ctl := (rfl)
@[simp] theorem Lane.onTk_alc (L : Lane) f : (L.onTk f).alc = L.alc := (rfl)
@[simp] theorem Lane.onTk_sx (L : Lane) f : (L.onTk f).sx = L.sx := (rfl)
@[simp] theorem Lane.onTk_mirror (L : Lane) f : (L.onTk f).mirror = L.mirror := (rfl)
@[simp] theorem Lane.onTk_work (L : Lane) f : (L.onTk f).work = L.work := (rfl)
@[simp] theorem Lane.onTk_free (L : Lane) f : (L.onTk f).free = L.free := (rfl)
@[simp] theorem Lane.onTk_word (L : Lane) f a : (L.onTk f).word a = L.word a := (rfl)
@[simp] theorem Lane.onTk_get (L : Lane) f g : (L.onTk f).get g = L.get g := (rfl)
@[simp] theorem Lane.onTk_bit (L : Lane) f g k : (L.onTk f).bit g k = L.bit g k := (rfl)
@[simp] theorem Lane.onTk_now (L : Lane) f : (L.onTk f).now = L.now := (rfl)
@[simp] theorem Lane.onBoot_id (L : Lane) f : (L.onBoot f).id = L.id := (rfl)
@[simp] theorem Lane.onBoot_variant (L : Lane) f : (L.onBoot f).variant = L.variant := (rfl)
@[simp] theorem Lane.onBoot_regs (L : Lane) f : (L.onBoot f).regs = L.regs := (rfl)
@[simp] theorem Lane.onBoot_found (L : Lane) f : (L.onBoot f).found = L.found := (rfl)
@[simp] theorem Lane.onBoot_evInfo (L : Lane) f : (L.onBoot f).evInfo = L.evInfo := (rfl)
@[simp] theorem Lane.onBoot_tk (L : Lane) f : (L.onBoot f).tk = L.tk := (rfl)
@[simp] theorem Lane.onBoot_boot (L : Lane) f : (L.onBoot f).boot = f L.boot := (rfl)
@[simp] theorem Lane.onBoot_hw (L : Lane) f : (L.onBoot f).hw = L.hw := (rfl)
@[simp] theorem Lane.onBoot_red (L : Lane) f : (L.onBoot f).red = L.red := (rfl)
@[simp] theorem Lane.onBoot_chart (L : Lane) f : (L.onBoot f).chart = L.chart := (rfl)
@[simp] theorem Lane.onBoot_log (L : Lane) f : (L.onBoot f).log = L.log := (rfl)
@[simp] theorem Lane.onBoot_chr (L : Lane) f : (L.onBoot f).chr = L.chr := (rfl)
@[simp] theorem Lane.onBoot_clk (L : Lane) f : (L.onBoot f).clk = L.clk := (rfl)
@[simp] theorem Lane.onBoot_pwr (L : Lane) f : (L.onBoot f).pwr = L.pwr := (rfl)
@[simp] theorem Lane.onBoot_sf (L : Lane) f : (L.onBoot f).sf = L.sf := (rfl)
@[simp] theorem Lane.onBoot_rap (L : Lane) f : (L.onBoot f).rap = L.rap := (rfl)
@[simp] theorem Lane.onBoot_ethA (L : Lane) f : (L.onBoot f).ethA = L.ethA := (rfl)
@[simp] theorem Lane.onBoot_ethB (L : Lane) f : (L.onBoot f).ethB = L.ethB := (rfl)
@[simp] theorem Lane.onBoot_l450 (L : Lane) f : (L.onBoot f).l450 = L.l450 := (rfl)
@[simp] theorem Lane.onBoot_ser (L : Lane) f : (L.onBoot f).ser = L.ser := (rfl)
@[simp] theorem Lane.onBoot_can (L : Lane) f : (L.onBoot f).can = L.can := (rfl)
@[simp] theorem Lane.onBoot_ana (L : Lane) f : (L.onBoot f).ana = L.ana := (rfl)
@[simp] theorem Lane.onBoot_ntk (L : Lane) f : (L.onBoot f).ntk = L.ntk := (rfl)
@[simp] theorem Lane.onBoot_plt (L : Lane) f : (L.onBoot f).plt = L.plt := (rfl)
@[simp] theorem Lane.onBoot_ctl (L : Lane) f : (L.onBoot f).ctl = L.ctl := (rfl)
@[simp] theorem Lane.onBoot_alc (L : Lane) f : (L.onBoot f).alc = L.alc := (rfl)
@[simp] theorem Lane.onBoot_sx (L : Lane) f : (L.onBoot f).sx = L.sx := (rfl)
@[simp] theorem Lane.onBoot_mirror (L : Lane) f : (L.onBoot f).mirror = L.mirror := (rfl)
@[simp] theorem Lane.onBoot_work (L : Lane) f : (L.onBoot f).work = L.work := (rfl)
@[simp] theorem Lane.onBoot_free (L : Lane) f : (L.onBoot f).free = L.free := (rfl)
@[simp] theorem Lane.onBoot_word (L : Lane) f a : (L.onBoot f).word a = L.word a := (rfl)
@[simp] theorem Lane.onBoot_get (L : Lane) f g : (L.onBoot f).get g = L.get g := (rfl)
@[simp] theorem Lane.onBoot_bit (L : Lane) f g k : (L.onBoot f).bit g k = L.bit g k := (rfl)
@[simp] theorem Lane.onBoot_now (L : Lane) f : (L.onBoot f).now = L.now := (rfl)
@[simp] theorem Lane.onHw_id (L : Lane) f : (L.onHw f).id = L.id := (rfl)
@[simp] theorem Lane.onHw_variant (L : Lane) f : (L.onHw f).variant = L.variant := (rfl)
@[simp] theorem Lane.onHw_regs (L : Lane) f : (L.onHw f).regs = L.regs := (rfl)
@[simp] theorem Lane.onHw_found (L : Lane) f : (L.onHw f).found = L.found := (rfl)
@[simp] theorem Lane.onHw_evInfo (L : Lane) f : (L.onHw f).evInfo = L.evInfo := (rfl)
@[simp] theorem Lane.onHw_tk (L : Lane) f : (L.onHw f).tk = L.tk := (rfl)
@[simp] theorem Lane.onHw_boot (L : Lane) f : (L.onHw f).boot = L.boot := (rfl)
@[simp] theorem Lane.onHw_hw (L : Lane) f : (L.onHw f).hw = f L.hw := (rfl)
@[simp] theorem Lane.onHw_red (L : Lane) f : (L.onHw f).red = L.red := (rfl)
@[simp] theorem Lane.onHw_chart (L : Lane) f : (L.onHw f).chart = L.chart := (rfl)
@[simp] theorem Lane.onHw_log (L : Lane) f : (L.onHw f).log = L.log := (rfl)
@[simp] theorem Lane.onHw_chr (L : Lane) f : (L.onHw f).chr = L.chr := (rfl)
@[simp] theorem Lane.onHw_clk (L : Lane) f : (L.onHw f).clk = L.clk := (rfl)
@[simp] theorem Lane.onHw_pwr (L : Lane) f : (L.onHw f).pwr = L.pwr := (rfl)
@[simp] theorem Lane.onHw_sf (L : Lane) f : (L.onHw f).sf = L.sf := (rfl)
@[simp] theorem Lane.onHw_rap (L : Lane) f : (L.onHw f).rap = L.rap := (rfl)
@[simp] theorem Lane.onHw_ethA (L : Lane) f : (L.onHw f).ethA = L.ethA := (rfl)
@[simp] theorem Lane.onHw_ethB (L : Lane) f : (L.onHw f).ethB = L.ethB := (rfl)
@[simp] theorem Lane.onHw_l450 (L : Lane) f : (L.onHw f).l450 = L.l450 := (rfl)
@[simp] theorem Lane.onHw_ser (L : Lane) f : (L.onHw f).ser = L.ser := (rfl)
@[simp] theorem Lane.onHw_can (L : Lane) f : (L.onHw f).can = L.can := (rfl)
@[simp] theorem Lane.onHw_ana (L : Lane) f : (L.onHw f).ana = L.ana := (rfl)
@[simp] theorem Lane.onHw_ntk (L : Lane) f : (L.onHw f).ntk = L.ntk := (rfl)
@[simp] theorem Lane.onHw_plt (L : Lane) f : (L.onHw f).plt = L.plt := (rfl)
@[simp] theorem Lane.onHw_ctl (L : Lane) f : (L.onHw f).ctl = L.ctl := (rfl)
@[simp] theorem Lane.onHw_alc (L : Lane) f : (L.onHw f).alc = L.alc := (rfl)
@[simp] theorem Lane.onHw_sx (L : Lane) f : (L.onHw f).sx = L.sx := (rfl)
@[simp] theorem Lane.onHw_mirror (L : Lane) f : (L.onHw f).mirror = L.mirror := (rfl)
@[simp] theorem Lane.onHw_work (L : Lane) f : (L.onHw f).work = L.work := (rfl)
@[simp] theorem Lane.onHw_free (L : Lane) f : (L.onHw f).free = L.free := (rfl)
@[simp] theorem Lane.onHw_word (L : Lane) f a : (L.onHw f).word a = L.word a := (rfl)
@[simp] theorem Lane.onHw_get (L : Lane) f g : (L.onHw f).get g = L.get g := (rfl)
@[simp] theorem Lane.onHw_bit (L : Lane) f g k : (L.onHw f).bit g k = L.bit g k := (rfl)
@[simp] theorem Lane.onHw_now (L : Lane) f : (L.onHw f).now = L.now := (rfl)
@[simp] theorem Lane.onRed_id (L : Lane) f : (L.onRed f).id = L.id := (rfl)
@[simp] theorem Lane.onRed_variant (L : Lane) f : (L.onRed f).variant = L.variant := (rfl)
@[simp] theorem Lane.onRed_regs (L : Lane) f : (L.onRed f).regs = L.regs := (rfl)
@[simp] theorem Lane.onRed_found (L : Lane) f : (L.onRed f).found = L.found := (rfl)
@[simp] theorem Lane.onRed_evInfo (L : Lane) f : (L.onRed f).evInfo = L.evInfo := (rfl)
@[simp] theorem Lane.onRed_tk (L : Lane) f : (L.onRed f).tk = L.tk := (rfl)
@[simp] theorem Lane.onRed_boot (L : Lane) f : (L.onRed f).boot = L.boot := (rfl)
@[simp] theorem Lane.onRed_hw (L : Lane) f : (L.onRed f).hw = L.hw := (rfl)
@[simp] theorem Lane.onRed_red (L : Lane) f : (L.onRed f).red = f L.red := (rfl)
@[simp] theorem Lane.onRed_chart (L : Lane) f : (L.onRed f).chart = L.chart := (rfl)
@[simp] theorem Lane.onRed_log (L : Lane) f : (L.onRed f).log = L.log := (rfl)
@[simp] theorem Lane.onRed_chr (L : Lane) f : (L.onRed f).chr = L.chr := (rfl)
@[simp] theorem Lane.onRed_clk (L : Lane) f : (L.onRed f).clk = L.clk := (rfl)
@[simp] theorem Lane.onRed_pwr (L : Lane) f : (L.onRed f).pwr = L.pwr := (rfl)
@[simp] theorem Lane.onRed_sf (L : Lane) f : (L.onRed f).sf = L.sf := (rfl)
@[simp] theorem Lane.onRed_rap (L : Lane) f : (L.onRed f).rap = L.rap := (rfl)
@[simp] theorem Lane.onRed_ethA (L : Lane) f : (L.onRed f).ethA = L.ethA := (rfl)
@[simp] theorem Lane.onRed_ethB (L : Lane) f : (L.onRed f).ethB = L.ethB := (rfl)
@[simp] theorem Lane.onRed_l450 (L : Lane) f : (L.onRed f).l450 = L.l450 := (rfl)
@[simp] theorem Lane.onRed_ser (L : Lane) f : (L.onRed f).ser = L.ser := (rfl)
@[simp] theorem Lane.onRed_can (L : Lane) f : (L.onRed f).can = L.can := (rfl)
@[simp] theorem Lane.onRed_ana (L : Lane) f : (L.onRed f).ana = L.ana := (rfl)
@[simp] theorem Lane.onRed_ntk (L : Lane) f : (L.onRed f).ntk = L.ntk := (rfl)
@[simp] theorem Lane.onRed_plt (L : Lane) f : (L.onRed f).plt = L.plt := (rfl)
@[simp] theorem Lane.onRed_ctl (L : Lane) f : (L.onRed f).ctl = L.ctl := (rfl)
@[simp] theorem Lane.onRed_alc (L : Lane) f : (L.onRed f).alc = L.alc := (rfl)
@[simp] theorem Lane.onRed_sx (L : Lane) f : (L.onRed f).sx = L.sx := (rfl)
@[simp] theorem Lane.onRed_mirror (L : Lane) f : (L.onRed f).mirror = L.mirror := (rfl)
@[simp] theorem Lane.onRed_work (L : Lane) f : (L.onRed f).work = L.work := (rfl)
@[simp] theorem Lane.onRed_free (L : Lane) f : (L.onRed f).free = L.free := (rfl)
@[simp] theorem Lane.onRed_word (L : Lane) f a : (L.onRed f).word a = L.word a := (rfl)
@[simp] theorem Lane.onRed_get (L : Lane) f g : (L.onRed f).get g = L.get g := (rfl)
@[simp] theorem Lane.onRed_bit (L : Lane) f g k : (L.onRed f).bit g k = L.bit g k := (rfl)
@[simp] theorem Lane.onRed_now (L : Lane) f : (L.onRed f).now = L.now := (rfl)
@[simp] theorem Lane.onChart_id (L : Lane) f : (L.onChart f).id = L.id := (rfl)
@[simp] theorem Lane.onChart_variant (L : Lane) f : (L.onChart f).variant = L.variant := (rfl)
@[simp] theorem Lane.onChart_regs (L : Lane) f : (L.onChart f).regs = L.regs := (rfl)
@[simp] theorem Lane.onChart_found (L : Lane) f : (L.onChart f).found = L.found := (rfl)
@[simp] theorem Lane.onChart_evInfo (L : Lane) f : (L.onChart f).evInfo = L.evInfo := (rfl)
@[simp] theorem Lane.onChart_tk (L : Lane) f : (L.onChart f).tk = L.tk := (rfl)
@[simp] theorem Lane.onChart_boot (L : Lane) f : (L.onChart f).boot = L.boot := (rfl)
@[simp] theorem Lane.onChart_hw (L : Lane) f : (L.onChart f).hw = L.hw := (rfl)
@[simp] theorem Lane.onChart_red (L : Lane) f : (L.onChart f).red = L.red := (rfl)
@[simp] theorem Lane.onChart_chart (L : Lane) f : (L.onChart f).chart = f L.chart := (rfl)
@[simp] theorem Lane.onChart_log (L : Lane) f : (L.onChart f).log = L.log := (rfl)
@[simp] theorem Lane.onChart_chr (L : Lane) f : (L.onChart f).chr = L.chr := (rfl)
@[simp] theorem Lane.onChart_clk (L : Lane) f : (L.onChart f).clk = L.clk := (rfl)
@[simp] theorem Lane.onChart_pwr (L : Lane) f : (L.onChart f).pwr = L.pwr := (rfl)
@[simp] theorem Lane.onChart_sf (L : Lane) f : (L.onChart f).sf = L.sf := (rfl)
@[simp] theorem Lane.onChart_rap (L : Lane) f : (L.onChart f).rap = L.rap := (rfl)
@[simp] theorem Lane.onChart_ethA (L : Lane) f : (L.onChart f).ethA = L.ethA := (rfl)
@[simp] theorem Lane.onChart_ethB (L : Lane) f : (L.onChart f).ethB = L.ethB := (rfl)
@[simp] theorem Lane.onChart_l450 (L : Lane) f : (L.onChart f).l450 = L.l450 := (rfl)
@[simp] theorem Lane.onChart_ser (L : Lane) f : (L.onChart f).ser = L.ser := (rfl)
@[simp] theorem Lane.onChart_can (L : Lane) f : (L.onChart f).can = L.can := (rfl)
@[simp] theorem Lane.onChart_ana (L : Lane) f : (L.onChart f).ana = L.ana := (rfl)
@[simp] theorem Lane.onChart_ntk (L : Lane) f : (L.onChart f).ntk = L.ntk := (rfl)
@[simp] theorem Lane.onChart_plt (L : Lane) f : (L.onChart f).plt = L.plt := (rfl)
@[simp] theorem Lane.onChart_ctl (L : Lane) f : (L.onChart f).ctl = L.ctl := (rfl)
@[simp] theorem Lane.onChart_alc (L : Lane) f : (L.onChart f).alc = L.alc := (rfl)
@[simp] theorem Lane.onChart_sx (L : Lane) f : (L.onChart f).sx = L.sx := (rfl)
@[simp] theorem Lane.onChart_mirror (L : Lane) f : (L.onChart f).mirror = L.mirror := (rfl)
@[simp] theorem Lane.onChart_work (L : Lane) f : (L.onChart f).work = L.work := (rfl)
@[simp] theorem Lane.onChart_free (L : Lane) f : (L.onChart f).free = L.free := (rfl)
@[simp] theorem Lane.onChart_word (L : Lane) f a : (L.onChart f).word a = L.word a := (rfl)
@[simp] theorem Lane.onChart_get (L : Lane) f g : (L.onChart f).get g = L.get g := (rfl)
@[simp] theorem Lane.onChart_bit (L : Lane) f g k : (L.onChart f).bit g k = L.bit g k := (rfl)
@[simp] theorem Lane.onChart_now (L : Lane) f : (L.onChart f).now = L.now := (rfl)
@[simp] theorem Lane.onLog_id (L : Lane) f : (L.onLog f).id = L.id := (rfl)
@[simp] theorem Lane.onLog_variant (L : Lane) f : (L.onLog f).variant = L.variant := (rfl)
@[simp] theorem Lane.onLog_regs (L : Lane) f : (L.onLog f).regs = L.regs := (rfl)
@[simp] theorem Lane.onLog_found (L : Lane) f : (L.onLog f).found = L.found := (rfl)
@[simp] theorem Lane.onLog_evInfo (L : Lane) f : (L.onLog f).evInfo = L.evInfo := (rfl)
@[simp] theorem Lane.onLog_tk (L : Lane) f : (L.onLog f).tk = L.tk := (rfl)
@[simp] theorem Lane.onLog_boot (L : Lane) f : (L.onLog f).boot = L.boot := (rfl)
@[simp] theorem Lane.onLog_hw (L : Lane) f : (L.onLog f).hw = L.hw := (rfl)
@[simp] theorem Lane.onLog_red (L : Lane) f : (L.onLog f).red = L.red := (rfl)
@[simp] theorem Lane.onLog_chart (L : Lane) f : (L.onLog f).chart = L.chart := (rfl)
@[simp] theorem Lane.onLog_log (L : Lane) f : (L.onLog f).log = f L.log := (rfl)
@[simp] theorem Lane.onLog_chr (L : Lane) f : (L.onLog f).chr = L.chr := (rfl)
@[simp] theorem Lane.onLog_clk (L : Lane) f : (L.onLog f).clk = L.clk := (rfl)
@[simp] theorem Lane.onLog_pwr (L : Lane) f : (L.onLog f).pwr = L.pwr := (rfl)
@[simp] theorem Lane.onLog_sf (L : Lane) f : (L.onLog f).sf = L.sf := (rfl)
@[simp] theorem Lane.onLog_rap (L : Lane) f : (L.onLog f).rap = L.rap := (rfl)
@[simp] theorem Lane.onLog_ethA (L : Lane) f : (L.onLog f).ethA = L.ethA := (rfl)
@[simp] theorem Lane.onLog_ethB (L : Lane) f : (L.onLog f).ethB = L.ethB := (rfl)
@[simp] theorem Lane.onLog_l450 (L : Lane) f : (L.onLog f).l450 = L.l450 := (rfl)
@[simp] theorem Lane.onLog_ser (L : Lane) f : (L.onLog f).ser = L.ser := (rfl)
@[simp] theorem Lane.onLog_can (L : Lane) f : (L.onLog f).can = L.can := (rfl)
@[simp] theorem Lane.onLog_ana (L : Lane) f : (L.onLog f).ana = L.ana := (rfl)
@[simp] theorem Lane.onLog_ntk (L : Lane) f : (L.onLog f).ntk = L.ntk := (rfl)
@[simp] theorem Lane.onLog_plt (L : Lane) f : (L.onLog f).plt = L.plt := (rfl)
@[simp] theorem Lane.onLog_ctl (L : Lane) f : (L.onLog f).ctl = L.ctl := (rfl)
@[simp] theorem Lane.onLog_alc (L : Lane) f : (L.onLog f).alc = L.alc := (rfl)
@[simp] theorem Lane.onLog_sx (L : Lane) f : (L.onLog f).sx = L.sx := (rfl)
@[simp] theorem Lane.onLog_mirror (L : Lane) f : (L.onLog f).mirror = L.mirror := (rfl)
@[simp] theorem Lane.onLog_work (L : Lane) f : (L.onLog f).work = L.work := (rfl)
@[simp] theorem Lane.onLog_free (L : Lane) f : (L.onLog f).free = L.free := (rfl)
@[simp] theorem Lane.onLog_word (L : Lane) f a : (L.onLog f).word a = L.word a := (rfl)
@[simp] theorem Lane.onLog_get (L : Lane) f g : (L.onLog f).get g = L.get g := (rfl)
@[simp] theorem Lane.onLog_bit (L : Lane) f g k : (L.onLog f).bit g k = L.bit g k := (rfl)
@[simp] theorem Lane.onLog_now (L : Lane) f : (L.onLog f).now = L.now := (rfl)
@[simp] theorem Lane.onChr_id (L : Lane) f : (L.onChr f).id = L.id := (rfl)
@[simp] theorem Lane.onChr_variant (L : Lane) f : (L.onChr f).variant = L.variant := (rfl)
@[simp] theorem Lane.onChr_regs (L : Lane) f : (L.onChr f).regs = L.regs := (rfl)
@[simp] theorem Lane.onChr_found (L : Lane) f : (L.onChr f).found = L.found := (rfl)
@[simp] theorem Lane.onChr_evInfo (L : Lane) f : (L.onChr f).evInfo = L.evInfo := (rfl)
@[simp] theorem Lane.onChr_tk (L : Lane) f : (L.onChr f).tk = L.tk := (rfl)
@[simp] theorem Lane.onChr_boot (L : Lane) f : (L.onChr f).boot = L.boot := (rfl)
@[simp] theorem Lane.onChr_hw (L : Lane) f : (L.onChr f).hw = L.hw := (rfl)
@[simp] theorem Lane.onChr_red (L : Lane) f : (L.onChr f).red = L.red := (rfl)
@[simp] theorem Lane.onChr_chart (L : Lane) f : (L.onChr f).chart = L.chart := (rfl)
@[simp] theorem Lane.onChr_log (L : Lane) f : (L.onChr f).log = L.log := (rfl)
@[simp] theorem Lane.onChr_chr (L : Lane) f : (L.onChr f).chr = f L.chr := (rfl)
@[simp] theorem Lane.onChr_clk (L : Lane) f : (L.onChr f).clk = L.clk := (rfl)
@[simp] theorem Lane.onChr_pwr (L : Lane) f : (L.onChr f).pwr = L.pwr := (rfl)
@[simp] theorem Lane.onChr_sf (L : Lane) f : (L.onChr f).sf = L.sf := (rfl)
@[simp] theorem Lane.onChr_rap (L : Lane) f : (L.onChr f).rap = L.rap := (rfl)
@[simp] theorem Lane.onChr_ethA (L : Lane) f : (L.onChr f).ethA = L.ethA := (rfl)
@[simp] theorem Lane.onChr_ethB (L : Lane) f : (L.onChr f).ethB = L.ethB := (rfl)
@[simp] theorem Lane.onChr_l450 (L : Lane) f : (L.onChr f).l450 = L.l450 := (rfl)
@[simp] theorem Lane.onChr_ser (L : Lane) f : (L.onChr f).ser = L.ser := (rfl)
@[simp] theorem Lane.onChr_can (L : Lane) f : (L.onChr f).can = L.can := (rfl)
@[simp] theorem Lane.onChr_ana (L : Lane) f : (L.onChr f).ana = L.ana := (rfl)
@[simp] theorem Lane.onChr_ntk (L : Lane) f : (L.onChr f).ntk = L.ntk := (rfl)
@[simp] theorem Lane.onChr_plt (L : Lane) f : (L.onChr f).plt = L.plt := (rfl)
@[simp] theorem Lane.onChr_ctl (L : Lane) f : (L.onChr f).ctl = L.ctl := (rfl)
@[simp] theorem Lane.onChr_alc (L : Lane) f : (L.onChr f).alc = L.alc := (rfl)
@[simp] theorem Lane.onChr_sx (L : Lane) f : (L.onChr f).sx = L.sx := (rfl)
@[simp] theorem Lane.onChr_mirror (L : Lane) f : (L.onChr f).mirror = L.mirror := (rfl)
@[simp] theorem Lane.onChr_work (L : Lane) f : (L.onChr f).work = L.work := (rfl)
@[simp] theorem Lane.onChr_free (L : Lane) f : (L.onChr f).free = L.free := (rfl)
@[simp] theorem Lane.onChr_word (L : Lane) f a : (L.onChr f).word a = L.word a := (rfl)
@[simp] theorem Lane.onChr_get (L : Lane) f g : (L.onChr f).get g = L.get g := (rfl)
@[simp] theorem Lane.onChr_bit (L : Lane) f g k : (L.onChr f).bit g k = L.bit g k := (rfl)
@[simp] theorem Lane.onClk_id (L : Lane) f : (L.onClk f).id = L.id := (rfl)
@[simp] theorem Lane.onClk_variant (L : Lane) f : (L.onClk f).variant = L.variant := (rfl)
@[simp] theorem Lane.onClk_regs (L : Lane) f : (L.onClk f).regs = L.regs := (rfl)
@[simp] theorem Lane.onClk_found (L : Lane) f : (L.onClk f).found = L.found := (rfl)
@[simp] theorem Lane.onClk_evInfo (L : Lane) f : (L.onClk f).evInfo = L.evInfo := (rfl)
@[simp] theorem Lane.onClk_tk (L : Lane) f : (L.onClk f).tk = L.tk := (rfl)
@[simp] theorem Lane.onClk_boot (L : Lane) f : (L.onClk f).boot = L.boot := (rfl)
@[simp] theorem Lane.onClk_hw (L : Lane) f : (L.onClk f).hw = L.hw := (rfl)
@[simp] theorem Lane.onClk_red (L : Lane) f : (L.onClk f).red = L.red := (rfl)
@[simp] theorem Lane.onClk_chart (L : Lane) f : (L.onClk f).chart = L.chart := (rfl)
@[simp] theorem Lane.onClk_log (L : Lane) f : (L.onClk f).log = L.log := (rfl)
@[simp] theorem Lane.onClk_chr (L : Lane) f : (L.onClk f).chr = L.chr := (rfl)
@[simp] theorem Lane.onClk_clk (L : Lane) f : (L.onClk f).clk = f L.clk := (rfl)
@[simp] theorem Lane.onClk_pwr (L : Lane) f : (L.onClk f).pwr = L.pwr := (rfl)
@[simp] theorem Lane.onClk_sf (L : Lane) f : (L.onClk f).sf = L.sf := (rfl)
@[simp] theorem Lane.onClk_rap (L : Lane) f : (L.onClk f).rap = L.rap := (rfl)
@[simp] theorem Lane.onClk_ethA (L : Lane) f : (L.onClk f).ethA = L.ethA := (rfl)
@[simp] theorem Lane.onClk_ethB (L : Lane) f : (L.onClk f).ethB = L.ethB := (rfl)
@[simp] theorem Lane.onClk_l450 (L : Lane) f : (L.onClk f).l450 = L.l450 := (rfl)
@[simp] theorem Lane.onClk_ser (L : Lane) f : (L.onClk f).ser = L.ser := (rfl)
@[simp] theorem Lane.onClk_can (L : Lane) f : (L.onClk f).can = L.can := (rfl)
@[simp] theorem Lane.onClk_ana (L : Lane) f : (L.onClk f).ana = L.ana := (rfl)
@[simp] theorem Lane.onClk_ntk (L : Lane) f : (L.onClk f).ntk = L.ntk := (rfl)
@[simp] theorem Lane.onClk_plt (L : Lane) f : (L.onClk f).plt = L.plt := (rfl)
@[simp] theorem Lane.onClk_ctl (L : Lane) f : (L.onClk f).ctl = L.ctl := (rfl)
@[simp] theorem Lane.onClk_alc (L : Lane) f : (L.onClk f).alc = L.alc := (rfl)
@[simp] theorem Lane.onClk_sx (L : Lane) f : (L.onClk f).sx = L.sx := (rfl)
@[simp] theorem Lane.onClk_mirror (L : Lane) f : (L.onClk f).mirror = L.mirror := (rfl)
@[simp] theorem Lane.onClk_work (L : Lane) f : (L.onClk f).work = L.work := (rfl)
@[simp] theorem Lane.onClk_free (L : Lane) f : (L.onClk f).free = L.free := (rfl)
@[simp] theorem Lane.onClk_word (L : Lane) f a : (L.onClk f).word a = L.word a := (rfl)
@[simp] theorem Lane.onClk_get (L : Lane) f g : (L.onClk f).get g = L.get g := (rfl)
@[simp] theorem Lane.onClk_bit (L : Lane) f g k : (L.onClk f).bit g k = L.bit g k := (rfl)
@[simp] theorem Lane.onClk_now (L : Lane) f : (L.onClk f).now = L.now := (rfl)
@[simp] theorem Lane.onPwr_id (L : Lane) f : (L.onPwr f).id = L.id := (rfl)
@[simp] theorem Lane.onPwr_variant (L : Lane) f : (L.onPwr f).variant = L.variant := (rfl)
@[simp] theorem Lane.onPwr_regs (L : Lane) f : (L.onPwr f).regs = L.regs := (rfl)
@[simp] theorem Lane.onPwr_found (L : Lane) f : (L.onPwr f).found = L.found := (rfl)
@[simp] theorem Lane.onPwr_evInfo (L : Lane) f : (L.onPwr f).evInfo = L.evInfo := (rfl)
@[simp] theorem Lane.onPwr_tk (L : Lane) f : (L.onPwr f).tk = L.tk := (rfl)
@[simp] theorem Lane.onPwr_boot (L : Lane) f : (L.onPwr f).boot = L.boot := (rfl)
@[simp] theorem Lane.onPwr_hw (L : Lane) f : (L.onPwr f).hw = L.hw := (rfl)
@[simp] theorem Lane.onPwr_red (L : Lane) f : (L.onPwr f).red = L.red := (rfl)
@[simp] theorem Lane.onPwr_chart (L : Lane) f : (L.onPwr f).chart = L.chart := (rfl)
@[simp] theorem Lane.onPwr_log (L : Lane) f : (L.onPwr f).log = L.log := (rfl)
@[simp] theorem Lane.onPwr_chr (L : Lane) f : (L.onPwr f).chr = L.chr := (rfl)
@[simp] theorem Lane.onPwr_clk (L : Lane) f : (L.onPwr f).clk = L.clk := (rfl)
@[simp] theorem Lane.onPwr_pwr (L : Lane) f : (L.onPwr f).pwr = f L.pwr := (rfl)
@[simp] theorem Lane.onPwr_sf (L : Lane) f : (L.onPwr f).sf = L.sf := (rfl)
@[simp] theorem Lane.onPwr_rap (L : Lane) f : (L.onPwr f).rap = L.rap := (rfl)
@[simp] theorem Lane.onPwr_ethA (L : Lane) f : (L.onPwr f).ethA = L.ethA := (rfl)
@[simp] theorem Lane.onPwr_ethB (L : Lane) f : (L.onPwr f).ethB = L.ethB := (rfl)
@[simp] theorem Lane.onPwr_l450 (L : Lane) f : (L.onPwr f).l450 = L.l450 := (rfl)
@[simp] theorem Lane.onPwr_ser (L : Lane) f : (L.onPwr f).ser = L.ser := (rfl)
@[simp] theorem Lane.onPwr_can (L : Lane) f : (L.onPwr f).can = L.can := (rfl)
@[simp] theorem Lane.onPwr_ana (L : Lane) f : (L.onPwr f).ana = L.ana := (rfl)
@[simp] theorem Lane.onPwr_ntk (L : Lane) f : (L.onPwr f).ntk = L.ntk := (rfl)
@[simp] theorem Lane.onPwr_plt (L : Lane) f : (L.onPwr f).plt = L.plt := (rfl)
@[simp] theorem Lane.onPwr_ctl (L : Lane) f : (L.onPwr f).ctl = L.ctl := (rfl)
@[simp] theorem Lane.onPwr_alc (L : Lane) f : (L.onPwr f).alc = L.alc := (rfl)
@[simp] theorem Lane.onPwr_sx (L : Lane) f : (L.onPwr f).sx = L.sx := (rfl)
@[simp] theorem Lane.onPwr_mirror (L : Lane) f : (L.onPwr f).mirror = L.mirror := (rfl)
@[simp] theorem Lane.onPwr_work (L : Lane) f : (L.onPwr f).work = L.work := (rfl)
@[simp] theorem Lane.onPwr_free (L : Lane) f : (L.onPwr f).free = L.free := (rfl)
@[simp] theorem Lane.onPwr_word (L : Lane) f a : (L.onPwr f).word a = L.word a := (rfl)
@[simp] theorem Lane.onPwr_get (L : Lane) f g : (L.onPwr f).get g = L.get g := (rfl)
@[simp] theorem Lane.onPwr_bit (L : Lane) f g k : (L.onPwr f).bit g k = L.bit g k := (rfl)
@[simp] theorem Lane.onPwr_now (L : Lane) f : (L.onPwr f).now = L.now := (rfl)
@[simp] theorem Lane.onSf_id (L : Lane) f : (L.onSf f).id = L.id := (rfl)
@[simp] theorem Lane.onSf_variant (L : Lane) f : (L.onSf f).variant = L.variant := (rfl)
@[simp] theorem Lane.onSf_regs (L : Lane) f : (L.onSf f).regs = L.regs := (rfl)
@[simp] theorem Lane.onSf_found (L : Lane) f : (L.onSf f).found = L.found := (rfl)
@[simp] theorem Lane.onSf_evInfo (L : Lane) f : (L.onSf f).evInfo = L.evInfo := (rfl)
@[simp] theorem Lane.onSf_tk (L : Lane) f : (L.onSf f).tk = L.tk := (rfl)
@[simp] theorem Lane.onSf_boot (L : Lane) f : (L.onSf f).boot = L.boot := (rfl)
@[simp] theorem Lane.onSf_hw (L : Lane) f : (L.onSf f).hw = L.hw := (rfl)
@[simp] theorem Lane.onSf_red (L : Lane) f : (L.onSf f).red = L.red := (rfl)
@[simp] theorem Lane.onSf_chart (L : Lane) f : (L.onSf f).chart = L.chart := (rfl)
@[simp] theorem Lane.onSf_log (L : Lane) f : (L.onSf f).log = L.log := (rfl)
@[simp] theorem Lane.onSf_chr (L : Lane) f : (L.onSf f).chr = L.chr := (rfl)
@[simp] theorem Lane.onSf_clk (L : Lane) f : (L.onSf f).clk = L.clk := (rfl)
@[simp] theorem Lane.onSf_pwr (L : Lane) f : (L.onSf f).pwr = L.pwr := (rfl)
@[simp] theorem Lane.onSf_sf (L : Lane) f : (L.onSf f).sf = f L.sf := (rfl)
@[simp] theorem Lane.onSf_rap (L : Lane) f : (L.onSf f).rap = L.rap := (rfl)
@[simp] theorem Lane.onSf_ethA (L : Lane) f : (L.onSf f).ethA = L.ethA := (rfl)
@[simp] theorem Lane.onSf_ethB (L : Lane) f : (L.onSf f).ethB = L.ethB := (rfl)
@[simp] theorem Lane.onSf_l450 (L : Lane) f : (L.onSf f).l450 = L.l450 := (rfl)
@[simp] theorem Lane.onSf_ser (L : Lane) f : (L.onSf f).ser = L.ser := (rfl)
@[simp] theorem Lane.onSf_can (L : Lane) f : (L.onSf f).can = L.can := (rfl)
@[simp] theorem Lane.onSf_ana (L : Lane) f : (L.onSf f).ana = L.ana := (rfl)
@[simp] theorem Lane.onSf_ntk (L : Lane) f : (L.onSf f).ntk = L.ntk := (rfl)
@[simp] theorem Lane.onSf_plt (L : Lane) f : (L.onSf f).plt = L.plt := (rfl)
@[simp] theorem Lane.onSf_ctl (L : Lane) f : (L.onSf f).ctl = L.ctl := (rfl)
@[simp] theorem Lane.onSf_alc (L : Lane) f : (L.onSf f).alc = L.alc := (rfl)
@[simp] theorem Lane.onSf_sx (L : Lane) f : (L.onSf f).sx = L.sx := (rfl)
@[simp] theorem Lane.onSf_mirror (L : Lane) f : (L.onSf f).mirror = L.mirror := (rfl)
@[simp] theorem Lane.onSf_work (L : Lane) f : (L.onSf f).work = L.work := (rfl)
@[simp] theorem Lane.onSf_free (L : Lane) f : (L.onSf f).free = L.free := (rfl)
@[simp] theorem Lane.onSf_word (L : Lane) f a : (L.onSf f).word a = L.word a := (rfl)
@[simp] theorem Lane.onSf_get (L : Lane) f g : (L.onSf f).get g = L.get g := (rfl)
@[simp] theorem Lane.onSf_bit (L : Lane) f g k : (L.onSf f).bit g k = L.bit g k := (rfl)
@[simp] theorem Lane.onSf_now (L : Lane) f : (L.onSf f).now = L.now := (rfl)
@[simp] theorem Lane.onRap_id (L : Lane) f : (L.onRap f).id = L.id := (rfl)
@[simp] theorem Lane.onRap_variant (L : Lane) f : (L.onRap f).variant = L.variant := (rfl)
@[simp] theorem Lane.onRap_regs (L : Lane) f : (L.onRap f).regs = L.regs := (rfl)
@[simp] theorem Lane.onRap_found (L : Lane) f : (L.onRap f).found = L.found := (rfl)
@[simp] theorem Lane.onRap_evInfo (L : Lane) f : (L.onRap f).evInfo = L.evInfo := (rfl)
@[simp] theorem Lane.onRap_tk (L : Lane) f : (L.onRap f).tk = L.tk := (rfl)
@[simp] theorem Lane.onRap_boot (L : Lane) f : (L.onRap f).boot = L.boot := (rfl)
@[simp] theorem Lane.onRap_hw (L : Lane) f : (L.onRap f).hw = L.hw := (rfl)
@[simp] theorem Lane.onRap_red (L : Lane) f : (L.onRap f).red = L.red := (rfl)
@[simp] theorem Lane.onRap_chart (L : Lane) f : (L.onRap f).chart = L.chart := (rfl)
@[simp] theorem Lane.onRap_log (L : Lane) f : (L.onRap f).log = L.log := (rfl)
@[simp] theorem Lane.onRap_chr (L : Lane) f : (L.onRap f).chr = L.chr := (rfl)
@[simp] theorem Lane.onRap_clk (L : Lane) f : (L.onRap f).clk = L.clk := (rfl)
@[simp] theorem Lane.onRap_pwr (L : Lane) f : (L.onRap f).pwr = L.pwr := (rfl)
@[simp] theorem Lane.onRap_sf (L : Lane) f : (L.onRap f).sf = L.sf := (rfl)
@[simp] theorem Lane.onRap_rap (L : Lane) f : (L.onRap f).rap = f L.rap := (rfl)
@[simp] theorem Lane.onRap_ethA (L : Lane) f : (L.onRap f).ethA = L.ethA := (rfl)
@[simp] theorem Lane.onRap_ethB (L : Lane) f : (L.onRap f).ethB = L.ethB := (rfl)
@[simp] theorem Lane.onRap_l450 (L : Lane) f : (L.onRap f).l450 = L.l450 := (rfl)
@[simp] theorem Lane.onRap_ser (L : Lane) f : (L.onRap f).ser = L.ser := (rfl)
@[simp] theorem Lane.onRap_can (L : Lane) f : (L.onRap f).can = L.can := (rfl)
@[simp] theorem Lane.onRap_ana (L : Lane) f : (L.onRap f).ana = L.ana := (rfl)
@[simp] theorem Lane.onRap_ntk (L : Lane) f : (L.onRap f).ntk = L.ntk := (rfl)
@[simp] theorem Lane.onRap_plt (L : Lane) f : (L.onRap f).plt = L.plt := (rfl)
@[simp] theorem Lane.onRap_ctl (L : Lane) f : (L.onRap f).ctl = L.ctl := (rfl)
@[simp] theorem Lane.onRap_alc (L : Lane) f : (L.onRap f).alc = L.alc := (rfl)
@[simp] theorem Lane.onRap_sx (L : Lane) f : (L.onRap f).sx = L.sx := (rfl)
@[simp] theorem Lane.onRap_mirror (L : Lane) f : (L.onRap f).mirror = L.mirror := (rfl)
@[simp] theorem Lane.onRap_work (L : Lane) f : (L.onRap f).work = L.work := (rfl)
@[simp] theorem Lane.onRap_free (L : Lane) f : (L.onRap f).free = L.free := (rfl)
@[simp] theorem Lane.onRap_word (L : Lane) f a : (L.onRap f).word a = L.word a := (rfl)
@[simp] theorem Lane.onRap_get (L : Lane) f g : (L.onRap f).get g = L.get g := (rfl)
@[simp] theorem Lane.onRap_bit (L : Lane) f g k : (L.onRap f).bit g k = L.bit g k := (rfl)
@[simp] theorem Lane.onRap_now (L : Lane) f : (L.onRap f).now = L.now := (rfl)
@[simp] theorem Lane.onEthA_id (L : Lane) f : (L.onEthA f).id = L.id := (rfl)
@[simp] theorem Lane.onEthA_variant (L : Lane) f : (L.onEthA f).variant = L.variant := (rfl)
@[simp] theorem Lane.onEthA_regs (L : Lane) f : (L.onEthA f).regs = L.regs := (rfl)
@[simp] theorem Lane.onEthA_found (L : Lane) f : (L.onEthA f).found = L.found := (rfl)
@[simp] theorem Lane.onEthA_evInfo (L : Lane) f : (L.onEthA f).evInfo = L.evInfo := (rfl)
@[simp] theorem Lane.onEthA_tk (L : Lane) f : (L.onEthA f).tk = L.tk := (rfl)
@[simp] theorem Lane.onEthA_boot (L : Lane) f : (L.onEthA f).boot = L.boot := (rfl)
@[simp] theorem Lane.onEthA_hw (L : Lane) f : (L.onEthA f).hw = L.hw := (rfl)
@[simp] theorem Lane.onEthA_red (L : Lane) f : (L.onEthA f).red = L.red := (rfl)
@[simp] theorem Lane.onEthA_chart (L : Lane) f : (L.onEthA f).chart = L.chart := (rfl)
@[simp] theorem Lane.onEthA_log (L : Lane) f : (L.onEthA f).log = L.log := (rfl)
@[simp] theorem Lane.onEthA_chr (L : Lane) f : (L.onEthA f).chr = L.chr := (rfl)
@[simp] theorem Lane.onEthA_clk (L : Lane) f : (L.onEthA f).clk = L.clk := (rfl)
@[simp] theorem Lane.onEthA_pwr (L : Lane) f : (L.onEthA f).pwr = L.pwr := (rfl)
@[simp] theorem Lane.onEthA_sf (L : Lane) f : (L.onEthA f).sf = L.sf := (rfl)
@[simp] theorem Lane.onEthA_rap (L : Lane) f : (L.onEthA f).rap = L.rap := (rfl)
@[simp] theorem Lane.onEthA_ethA (L : Lane) f : (L.onEthA f).ethA = f L.ethA := (rfl)
@[simp] theorem Lane.onEthA_ethB (L : Lane) f : (L.onEthA f).ethB = L.ethB := (rfl)
@[simp] theorem Lane.onEthA_l450 (L : Lane) f : (L.onEthA f).l450 = L.l450 := (rfl)
@[simp] theorem Lane.onEthA_ser (L : Lane) f : (L.onEthA f).ser = L.ser := (rfl)
@[simp] theorem Lane.onEthA_can (L : Lane) f : (L.onEthA f).can = L.can := (rfl)
@[simp] theorem Lane.onEthA_ana (L : Lane) f : (L.onEthA f).ana = L.ana := (rfl)
@[simp] theorem Lane.onEthA_ntk (L : Lane) f : (L.onEthA f).ntk = L.ntk := (rfl)
@[simp] theorem Lane.onEthA_plt (L : Lane) f : (L.onEthA f).plt = L.plt := (rfl)
@[simp] theorem Lane.onEthA_ctl (L : Lane) f : (L.onEthA f).ctl = L.ctl := (rfl)
@[simp] theorem Lane.onEthA_alc (L : Lane) f : (L.onEthA f).alc = L.alc := (rfl)
@[simp] theorem Lane.onEthA_sx (L : Lane) f : (L.onEthA f).sx = L.sx := (rfl)
@[simp] theorem Lane.onEthA_mirror (L : Lane) f : (L.onEthA f).mirror = L.mirror := (rfl)
@[simp] theorem Lane.onEthA_work (L : Lane) f : (L.onEthA f).work = L.work := (rfl)
@[simp] theorem Lane.onEthA_free (L : Lane) f : (L.onEthA f).free = L.free := (rfl)
@[simp] theorem Lane.onEthA_word (L : Lane) f a : (L.onEthA f).word a = L.word a := (rfl)
@[simp] theorem Lane.onEthA_get (L : Lane) f g : (L.onEthA f).get g = L.get g := (rfl)
@[simp] theorem Lane.onEthA_bit (L : Lane) f g k : (L.onEthA f).bit g k = L.bit g k := (rfl)
@[simp] theorem Lane.onEthA_now (L : Lane) f : (L.onEthA f).now = L.now := (rfl)
@[simp] theorem Lane.onEthB_id (L : Lane) f : (L.onEthB f).id = L.id := (rfl)
@[simp] theorem Lane.onEthB_variant (L : Lane) f : (L.onEthB f).variant = L.variant := (rfl)
@[simp] theorem Lane.onEthB_regs (L : Lane) f : (L.onEthB f).regs = L.regs := (rfl)
@[simp] theorem Lane.onEthB_found (L : Lane) f : (L.onEthB f).found = L.found := (rfl)
@[simp] theorem Lane.onEthB_evInfo (L : Lane) f : (L.onEthB f).evInfo = L.evInfo := (rfl)
@[simp] theorem Lane.onEthB_tk (L : Lane) f : (L.onEthB f).tk = L.tk := (rfl)
@[simp] theorem Lane.onEthB_boot (L : Lane) f : (L.onEthB f).boot = L.boot := (rfl)
@[simp] theorem Lane.onEthB_hw (L : Lane) f : (L.onEthB f).hw = L.hw := (rfl)
@[simp] theorem Lane.onEthB_red (L : Lane) f : (L.onEthB f).red = L.red := (rfl)
@[simp] theorem Lane.onEthB_chart (L : Lane) f : (L.onEthB f).chart = L.chart := (rfl)
@[simp] theorem Lane.onEthB_log (L : Lane) f : (L.onEthB f).log = L.log := (rfl)
@[simp] theorem Lane.onEthB_chr (L : Lane) f : (L.onEthB f).chr = L.chr := (rfl)
@[simp] theorem Lane.onEthB_clk (L : Lane) f : (L.onEthB f).clk = L.clk := (rfl)
@[simp] theorem Lane.onEthB_pwr (L : Lane) f : (L.onEthB f).pwr = L.pwr := (rfl)
@[simp] theorem Lane.onEthB_sf (L : Lane) f : (L.onEthB f).sf = L.sf := (rfl)
@[simp] theorem Lane.onEthB_rap (L : Lane) f : (L.onEthB f).rap = L.rap := (rfl)
@[simp] theorem Lane.onEthB_ethA (L : Lane) f : (L.onEthB f).ethA = L.ethA := (rfl)
@[simp] theorem Lane.onEthB_ethB (L : Lane) f : (L.onEthB f).ethB = f L.ethB := (rfl)
@[simp] theorem Lane.onEthB_l450 (L : Lane) f : (L.onEthB f).l450 = L.l450 := (rfl)
@[simp] theorem Lane.onEthB_ser (L : Lane) f : (L.onEthB f).ser = L.ser := (rfl)
@[simp] theorem Lane.onEthB_can (L : Lane) f : (L.onEthB f).can = L.can := (rfl)
@[simp] theorem Lane.onEthB_ana (L : Lane) f : (L.onEthB f).ana = L.ana := (rfl)
@[simp] theorem Lane.onEthB_ntk (L : Lane) f : (L.onEthB f).ntk = L.ntk := (rfl)
@[simp] theorem Lane.onEthB_plt (L : Lane) f : (L.onEthB f).plt = L.plt := (rfl)
@[simp] theorem Lane.onEthB_ctl (L : Lane) f : (L.onEthB f).ctl = L.ctl := (rfl)
@[simp] theorem Lane.onEthB_alc (L : Lane) f : (L.onEthB f).alc = L.alc := (rfl)
@[simp] theorem Lane.onEthB_sx (L : Lane) f : (L.onEthB f).sx = L.sx := (rfl)
@[simp] theorem Lane.onEthB_mirror (L : Lane) f : (L.onEthB f).mirror = L.mirror := (rfl)
@[simp] theorem Lane.onEthB_work (L : Lane) f : (L.onEthB f).work = L.work := (rfl)
@[simp] theorem Lane.onEthB_free (L : Lane) f : (L.onEthB f).free = L.free := (rfl)
@[simp] theorem Lane.onEthB_word (L : Lane) f a : (L.onEthB f).word a = L.word a := (rfl)
@[simp] theorem Lane.onEthB_get (L : Lane) f g : (L.onEthB f).get g = L.get g := (rfl)
@[simp] theorem Lane.onEthB_bit (L : Lane) f g k : (L.onEthB f).bit g k = L.bit g k := (rfl)
@[simp] theorem Lane.onEthB_now (L : Lane) f : (L.onEthB f).now = L.now := (rfl)
@[simp] theorem Lane.onL450_id (L : Lane) f : (L.onL450 f).id = L.id := (rfl)
@[simp] theorem Lane.onL450_variant (L : Lane) f : (L.onL450 f).variant = L.variant := (rfl)
@[simp] theorem Lane.onL450_regs (L : Lane) f : (L.onL450 f).regs = L.regs := (rfl)
@[simp] theorem Lane.onL450_found (L : Lane) f : (L.onL450 f).found = L.found := (rfl)
@[simp] theorem Lane.onL450_evInfo (L : Lane) f : (L.onL450 f).evInfo = L.evInfo := (rfl)
@[simp] theorem Lane.onL450_tk (L : Lane) f : (L.onL450 f).tk = L.tk := (rfl)
@[simp] theorem Lane.onL450_boot (L : Lane) f : (L.onL450 f).boot = L.boot := (rfl)
@[simp] theorem Lane.onL450_hw (L : Lane) f : (L.onL450 f).hw = L.hw := (rfl)
@[simp] theorem Lane.onL450_red (L : Lane) f : (L.onL450 f).red = L.red := (rfl)
@[simp] theorem Lane.onL450_chart (L : Lane) f : (L.onL450 f).chart = L.chart := (rfl)
@[simp] theorem Lane.onL450_log (L : Lane) f : (L.onL450 f).log = L.log := (rfl)
@[simp] theorem Lane.onL450_chr (L : Lane) f : (L.onL450 f).chr = L.chr := (rfl)
@[simp] theorem Lane.onL450_clk (L : Lane) f : (L.onL450 f).clk = L.clk := (rfl)
@[simp] theorem Lane.onL450_pwr (L : Lane) f : (L.onL450 f).pwr = L.pwr := (rfl)
@[simp] theorem Lane.onL450_sf (L : Lane) f : (L.onL450 f).sf = L.sf := (rfl)
@[simp] theorem Lane.onL450_rap (L : Lane) f : (L.onL450 f).rap = L.rap := (rfl)
@[simp] theorem Lane.onL450_ethA (L : Lane) f : (L.onL450 f).ethA = L.ethA := (rfl)
@[simp] theorem Lane.onL450_ethB (L : Lane) f : (L.onL450 f).ethB = L.ethB := (rfl)
@[simp] theorem Lane.onL450_l450 (L : Lane) f : (L.onL450 f).l450 = f L.l450 := (rfl)
@[simp] theorem Lane.onL450_ser (L : Lane) f : (L.onL450 f).ser = L.ser := (rfl)
@[simp] theorem Lane.onL450_can (L : Lane) f : (L.onL450 f).can = L.can := (rfl)
@[simp] theorem Lane.onL450_ana (L : Lane) f : (L.onL450 f).ana = L.ana := (rfl)
@[simp] theorem Lane.onL450_ntk (L : Lane) f : (L.onL450 f).ntk = L.ntk := (rfl)
@[simp] theorem Lane.onL450_plt (L : Lane) f : (L.onL450 f).plt = L.plt := (rfl)
@[simp] theorem Lane.onL450_ctl (L : Lane) f : (L.onL450 f).ctl = L.ctl := (rfl)
@[simp] theorem Lane.onL450_alc (L : Lane) f : (L.onL450 f).alc = L.alc := (rfl)
@[simp] theorem Lane.onL450_sx (L : Lane) f : (L.onL450 f).sx = L.sx := (rfl)
@[simp] theorem Lane.onL450_mirror (L : Lane) f : (L.onL450 f).mirror = L.mirror := (rfl)
@[simp] theorem Lane.onL450_work (L : Lane) f : (L.onL450 f).work = L.work := (rfl)
@[simp] theorem Lane.onL450_free (L : Lane) f : (L.onL450 f).free = L.free := (rfl)
@[simp] theorem Lane.onL450_word (L : Lane) f a : (L.onL450 f).word a = L.word a := (rfl)
@[simp] theorem Lane.onL450_get (L : Lane) f g : (L.onL450 f).get g = L.get g := (rfl)
@[simp] theorem Lane.onL450_bit (L : Lane) f g k : (L.onL450 f).bit g k = L.bit g k := (rfl)
@[simp] theorem Lane.onL450_now (L : Lane) f : (L.onL450 f).now = L.now := (rfl)
@[simp] theorem Lane.onSer_id (L : Lane) f : (L.onSer f).id = L.id := (rfl)
@[simp] theorem Lane.onSer_variant (L : Lane) f : (L.onSer f).variant = L.variant := (rfl)
@[simp] theorem Lane.onSer_regs (L : Lane) f : (L.onSer f).regs = L.regs := (rfl)
@[simp] theorem Lane.onSer_found (L : Lane) f : (L.onSer f).found = L.found := (rfl)
@[simp] theorem Lane.onSer_evInfo (L : Lane) f : (L.onSer f).evInfo = L.evInfo := (rfl)
@[simp] theorem Lane.onSer_tk (L : Lane) f : (L.onSer f).tk = L.tk := (rfl)
@[simp] theorem Lane.onSer_boot (L : Lane) f : (L.onSer f).boot = L.boot := (rfl)
@[simp] theorem Lane.onSer_hw (L : Lane) f : (L.onSer f).hw = L.hw := (rfl)
@[simp] theorem Lane.onSer_red (L : Lane) f : (L.onSer f).red = L.red := (rfl)
@[simp] theorem Lane.onSer_chart (L : Lane) f : (L.onSer f).chart = L.chart := (rfl)
@[simp] theorem Lane.onSer_log (L : Lane) f : (L.onSer f).log = L.log := (rfl)
@[simp] theorem Lane.onSer_chr (L : Lane) f : (L.onSer f).chr = L.chr := (rfl)
@[simp] theorem Lane.onSer_clk (L : Lane) f : (L.onSer f).clk = L.clk := (rfl)
@[simp] theorem Lane.onSer_pwr (L : Lane) f : (L.onSer f).pwr = L.pwr := (rfl)
@[simp] theorem Lane.onSer_sf (L : Lane) f : (L.onSer f).sf = L.sf := (rfl)
@[simp] theorem Lane.onSer_rap (L : Lane) f : (L.onSer f).rap = L.rap := (rfl)
@[simp] theorem Lane.onSer_ethA (L : Lane) f : (L.onSer f).ethA = L.ethA := (rfl)
@[simp] theorem Lane.onSer_ethB (L : Lane) f : (L.onSer f).ethB = L.ethB := (rfl)
@[simp] theorem Lane.onSer_l450 (L : Lane) f : (L.onSer f).l450 = L.l450 := (rfl)
@[simp] theorem Lane.onSer_ser (L : Lane) f : (L.onSer f).ser = f L.ser := (rfl)
@[simp] theorem Lane.onSer_can (L : Lane) f : (L.onSer f).can = L.can := (rfl)
@[simp] theorem Lane.onSer_ana (L : Lane) f : (L.onSer f).ana = L.ana := (rfl)
@[simp] theorem Lane.onSer_ntk (L : Lane) f : (L.onSer f).ntk = L.ntk := (rfl)
@[simp] theorem Lane.onSer_plt (L : Lane) f : (L.onSer f).plt = L.plt := (rfl)
@[simp] theorem Lane.onSer_ctl (L : Lane) f : (L.onSer f).ctl = L.ctl := (rfl)
@[simp] theorem Lane.onSer_alc (L : Lane) f : (L.onSer f).alc = L.alc := (rfl)
@[simp] theorem Lane.onSer_sx (L : Lane) f : (L.onSer f).sx = L.sx := (rfl)
@[simp] theorem Lane.onSer_mirror (L : Lane) f : (L.onSer f).mirror = L.mirror := (rfl)
@[simp] theorem Lane.onSer_work (L : Lane) f : (L.onSer f).work = L.work := (rfl)
@[simp] theorem Lane.onSer_free (L : Lane) f : (L.onSer f).free = L.free := (rfl)
@[simp] theorem Lane.onSer_word (L : Lane) f a : (L.onSer f).word a = L.word a := (rfl)
@[simp] theorem Lane.onSer_get (L : Lane) f g : (L.onSer f).get g = L.get g := (rfl)
@[simp] theorem Lane.onSer_bit (L : Lane) f g k : (L.onSer f).bit g k = L.bit g k := (rfl)
@[simp] theorem Lane.onSer_now (L : Lane) f : (L.onSer f).now = L.now := (rfl)
@[simp] theorem Lane.onCan_id (L : Lane) f : (L.onCan f).id = L.id := (rfl)
@[simp] theorem Lane.onCan_variant (L : Lane) f : (L.onCan f).variant = L.variant := (rfl)
@[simp] theorem Lane.onCan_regs (L : Lane) f : (L.onCan f).regs = L.regs := (rfl)
@[simp] theorem Lane.onCan_found (L : Lane) f : (L.onCan f).found = L.found := (rfl)
@[simp] theorem Lane.onCan_evInfo (L : Lane) f : (L.onCan f).evInfo = L.evInfo := (rfl)
@[simp] theorem Lane.onCan_tk (L : Lane) f : (L.onCan f).tk = L.tk := (rfl)
@[simp] theorem Lane.onCan_boot (L : Lane) f : (L.onCan f).boot = L.boot := (rfl)
@[simp] theorem Lane.onCan_hw (L : Lane) f : (L.onCan f).hw = L.hw := (rfl)
@[simp] theorem Lane.onCan_red (L : Lane) f : (L.onCan f).red = L.red := (rfl)
@[simp] theorem Lane.onCan_chart (L : Lane) f : (L.onCan f).chart = L.chart := (rfl)
@[simp] theorem Lane.onCan_log (L : Lane) f : (L.onCan f).log = L.log := (rfl)
@[simp] theorem Lane.onCan_chr (L : Lane) f : (L.onCan f).chr = L.chr := (rfl)
@[simp] theorem Lane.onCan_clk (L : Lane) f : (L.onCan f).clk = L.clk := (rfl)
@[simp] theorem Lane.onCan_pwr (L : Lane) f : (L.onCan f).pwr = L.pwr := (rfl)
@[simp] theorem Lane.onCan_sf (L : Lane) f : (L.onCan f).sf = L.sf := (rfl)
@[simp] theorem Lane.onCan_rap (L : Lane) f : (L.onCan f).rap = L.rap := (rfl)
@[simp] theorem Lane.onCan_ethA (L : Lane) f : (L.onCan f).ethA = L.ethA := (rfl)
@[simp] theorem Lane.onCan_ethB (L : Lane) f : (L.onCan f).ethB = L.ethB := (rfl)
@[simp] theorem Lane.onCan_l450 (L : Lane) f : (L.onCan f).l450 = L.l450 := (rfl)
@[simp] theorem Lane.onCan_ser (L : Lane) f : (L.onCan f).ser = L.ser := (rfl)
@[simp] theorem Lane.onCan_can (L : Lane) f : (L.onCan f).can = f L.can := (rfl)
@[simp] theorem Lane.onCan_ana (L : Lane) f : (L.onCan f).ana = L.ana := (rfl)
@[simp] theorem Lane.onCan_ntk (L : Lane) f : (L.onCan f).ntk = L.ntk := (rfl)
@[simp] theorem Lane.onCan_plt (L : Lane) f : (L.onCan f).plt = L.plt := (rfl)
@[simp] theorem Lane.onCan_ctl (L : Lane) f : (L.onCan f).ctl = L.ctl := (rfl)
@[simp] theorem Lane.onCan_alc (L : Lane) f : (L.onCan f).alc = L.alc := (rfl)
@[simp] theorem Lane.onCan_sx (L : Lane) f : (L.onCan f).sx = L.sx := (rfl)
@[simp] theorem Lane.onCan_mirror (L : Lane) f : (L.onCan f).mirror = L.mirror := (rfl)
@[simp] theorem Lane.onCan_work (L : Lane) f : (L.onCan f).work = L.work := (rfl)
@[simp] theorem Lane.onCan_free (L : Lane) f : (L.onCan f).free = L.free := (rfl)
@[simp] theorem Lane.onCan_word (L : Lane) f a : (L.onCan f).word a = L.word a := (rfl)
@[simp] theorem Lane.onCan_get (L : Lane) f g : (L.onCan f).get g = L.get g := (rfl)
@[simp] theorem Lane.onCan_bit (L : Lane) f g k : (L.onCan f).bit g k = L.bit g k := (rfl)
@[simp] theorem Lane.onCan_now (L : Lane) f : (L.onCan f).now = L.now := (rfl)
@[simp] theorem Lane.onAna_id (L : Lane) f : (L.onAna f).id = L.id := (rfl)
@[simp] theorem Lane.onAna_variant (L : Lane) f : (L.onAna f).variant = L.variant := (rfl)
@[simp] theorem Lane.onAna_regs (L : Lane) f : (L.onAna f).regs = L.regs := (rfl)
@[simp] theorem Lane.onAna_found (L : Lane) f : (L.onAna f).found = L.found := (rfl)
@[simp] theorem Lane.onAna_evInfo (L : Lane) f : (L.onAna f).evInfo = L.evInfo := (rfl)
@[simp] theorem Lane.onAna_tk (L : Lane) f : (L.onAna f).tk = L.tk := (rfl)
@[simp] theorem Lane.onAna_boot (L : Lane) f : (L.onAna f).boot = L.boot := (rfl)
@[simp] theorem Lane.onAna_hw (L : Lane) f : (L.onAna f).hw = L.hw := (rfl)
@[simp] theorem Lane.onAna_red (L : Lane) f : (L.onAna f).red = L.red := (rfl)
@[simp] theorem Lane.onAna_chart (L : Lane) f : (L.onAna f).chart = L.chart := (rfl)
@[simp] theorem Lane.onAna_log (L : Lane) f : (L.onAna f).log = L.log := (rfl)
@[simp] theorem Lane.onAna_chr (L : Lane) f : (L.onAna f).chr = L.chr := (rfl)
@[simp] theorem Lane.onAna_clk (L : Lane) f : (L.onAna f).clk = L.clk := (rfl)
@[simp] theorem Lane.onAna_pwr (L : Lane) f : (L.onAna f).pwr = L.pwr := (rfl)
@[simp] theorem Lane.onAna_sf (L : Lane) f : (L.onAna f).sf = L.sf := (rfl)
@[simp] theorem Lane.onAna_rap (L : Lane) f : (L.onAna f).rap = L.rap := (rfl)
@[simp] theorem Lane.onAna_ethA (L : Lane) f : (L.onAna f).ethA = L.ethA := (rfl)
@[simp] theorem Lane.onAna_ethB (L : Lane) f : (L.onAna f).ethB = L.ethB := (rfl)
@[simp] theorem Lane.onAna_l450 (L : Lane) f : (L.onAna f).l450 = L.l450 := (rfl)
@[simp] theorem Lane.onAna_ser (L : Lane) f : (L.onAna f).ser = L.ser := (rfl)
@[simp] theorem Lane.onAna_can (L : Lane) f : (L.onAna f).can = L.can := (rfl)
@[simp] theorem Lane.onAna_ana (L : Lane) f : (L.onAna f).ana = f L.ana := (rfl)
@[simp] theorem Lane.onAna_ntk (L : Lane) f : (L.onAna f).ntk = L.ntk := (rfl)
@[simp] theorem Lane.onAna_plt (L : Lane) f : (L.onAna f).plt = L.plt := (rfl)
@[simp] theorem Lane.onAna_ctl (L : Lane) f : (L.onAna f).ctl = L.ctl := (rfl)
@[simp] theorem Lane.onAna_alc (L : Lane) f : (L.onAna f).alc = L.alc := (rfl)
@[simp] theorem Lane.onAna_sx (L : Lane) f : (L.onAna f).sx = L.sx := (rfl)
@[simp] theorem Lane.onAna_mirror (L : Lane) f : (L.onAna f).mirror = L.mirror := (rfl)
@[simp] theorem Lane.onAna_work (L : Lane) f : (L.onAna f).work = L.work := (rfl)
@[simp] theorem Lane.onAna_free (L : Lane) f : (L.onAna f).free = L.free := (rfl)
@[simp] theorem Lane.onAna_word (L : Lane) f a : (L.onAna f).word a = L.word a := (rfl)
@[simp] theorem Lane.onAna_get (L : Lane) f g : (L.onAna f).get g = L.get g := (rfl)
@[simp] theorem Lane.onAna_bit (L : Lane) f g k : (L.onAna f).bit g k = L.bit g k := (rfl)
@[simp] theorem Lane.onAna_now (L : Lane) f : (L.onAna f).now = L.now := (rfl)
@[simp] theorem Lane.onNtk_id (L : Lane) f : (L.onNtk f).id = L.id := (rfl)
@[simp] theorem Lane.onNtk_variant (L : Lane) f : (L.onNtk f).variant = L.variant := (rfl)
@[simp] theorem Lane.onNtk_regs (L : Lane) f : (L.onNtk f).regs = L.regs := (rfl)
@[simp] theorem Lane.onNtk_found (L : Lane) f : (L.onNtk f).found = L.found := (rfl)
@[simp] theorem Lane.onNtk_evInfo (L : Lane) f : (L.onNtk f).evInfo = L.evInfo := (rfl)
@[simp] theorem Lane.onNtk_tk (L : Lane) f : (L.onNtk f).tk = L.tk := (rfl)
@[simp] theorem Lane.onNtk_boot (L : Lane) f : (L.onNtk f).boot = L.boot := (rfl)
@[simp] theorem Lane.onNtk_hw (L : Lane) f : (L.onNtk f).hw = L.hw := (rfl)
@[simp] theorem Lane.onNtk_red (L : Lane) f : (L.onNtk f).red = L.red := (rfl)
@[simp] theorem Lane.onNtk_chart (L : Lane) f : (L.onNtk f).chart = L.chart := (rfl)
@[simp] theorem Lane.onNtk_log (L : Lane) f : (L.onNtk f).log = L.log := (rfl)
@[simp] theorem Lane.onNtk_chr (L : Lane) f : (L.onNtk f).chr = L.chr := (rfl)
@[simp] theorem Lane.onNtk_clk (L : Lane) f : (L.onNtk f).clk = L.clk := (rfl)
@[simp] theorem Lane.onNtk_pwr (L : Lane) f : (L.onNtk f).pwr = L.pwr := (rfl)
@[simp] theorem Lane.onNtk_sf (L : Lane) f : (L.onNtk f).sf = L.sf := (rfl)
@[simp] theorem Lane.onNtk_rap (L : Lane) f : (L.onNtk f).rap = L.rap := (rfl)
@[simp] theorem Lane.onNtk_ethA (L : Lane) f : (L.onNtk f).ethA = L.ethA := (rfl)
@[simp] theorem Lane.onNtk_ethB (L : Lane) f : (L.onNtk f).ethB = L.ethB := (rfl)
@[simp] theorem Lane.onNtk_l450 (L : Lane) f : (L.onNtk f).l450 = L.l450 := (rfl)
@[simp] theorem Lane.onNtk_ser (L : Lane) f : (L.onNtk f).ser = L.ser := (rfl)
@[simp] theorem Lane.onNtk_can (L : Lane) f : (L.onNtk f).can = L.can := (rfl)
@[simp] theorem Lane.onNtk_ana (L : Lane) f : (L.onNtk f).ana = L.ana := (rfl)
@[simp] theorem Lane.onNtk_ntk (L : Lane) f : (L.onNtk f).ntk = f L.ntk := (rfl)
@[simp] theorem Lane.onNtk_plt (L : Lane) f : (L.onNtk f).plt = L.plt := (rfl)
@[simp] theorem Lane.onNtk_ctl (L : Lane) f : (L.onNtk f).ctl = L.ctl := (rfl)
@[simp] theorem Lane.onNtk_alc (L : Lane) f : (L.onNtk f).alc = L.alc := (rfl)
@[simp] theorem Lane.onNtk_sx (L : Lane) f : (L.onNtk f).sx = L.sx := (rfl)
@[simp] theorem Lane.onNtk_mirror (L : Lane) f : (L.onNtk f).mirror = L.mirror := (rfl)
@[simp] theorem Lane.onNtk_work (L : Lane) f : (L.onNtk f).work = L.work := (rfl)
@[simp] theorem Lane.onNtk_free (L : Lane) f : (L.onNtk f).free = L.free := (rfl)
@[simp] theorem Lane.onNtk_word (L : Lane) f a : (L.onNtk f).word a = L.word a := (rfl)
@[simp] theorem Lane.onNtk_get (L : Lane) f g : (L.onNtk f).get g = L.get g := (rfl)
@[simp] theorem Lane.onNtk_bit (L : Lane) f g k : (L.onNtk f).bit g k = L.bit g k := (rfl)
@[simp] theorem Lane.onNtk_now (L : Lane) f : (L.onNtk f).now = L.now := (rfl)
@[simp] theorem Lane.onPlt_id (L : Lane) f : (L.onPlt f).id = L.id := (rfl)
@[simp] theorem Lane.onPlt_variant (L : Lane) f : (L.onPlt f).variant = L.variant := (rfl)
@[simp] theorem Lane.onPlt_regs (L : Lane) f : (L.onPlt f).regs = L.regs := (rfl)
@[simp] theorem Lane.onPlt_found (L : Lane) f : (L.onPlt f).found = L.found := (rfl)
@[simp] theorem Lane.onPlt_evInfo (L : Lane) f : (L.onPlt f).evInfo = L.evInfo := (rfl)
@[simp] theorem Lane.onPlt_tk (L : Lane) f : (L.onPlt f).tk = L.tk := (rfl)
@[simp] theorem Lane.onPlt_boot (L : Lane) f : (L.onPlt f).boot = L.boot := (rfl)
@[simp] theorem Lane.onPlt_hw (L : Lane) f : (L.onPlt f).hw = L.hw := (rfl)
@[simp] theorem Lane.onPlt_red (L : Lane) f : (L.onPlt f).red = L.red := (rfl)
@[simp] theorem Lane.onPlt_chart (L : Lane) f : (L.onPlt f).chart = L.chart := (rfl)
@[simp] theorem Lane.onPlt_log (L : Lane) f : (L.onPlt f).log = L.log := (rfl)
@[simp] theorem Lane.onPlt_chr (L : Lane) f : (L.onPlt f).chr = L.chr := (rfl)
@[simp] theorem Lane.onPlt_clk (L : Lane) f : (L.onPlt f).clk = L.clk := (rfl)
@[simp] theorem Lane.onPlt_pwr (L : Lane) f : (L.onPlt f).pwr = L.pwr := (rfl)
@[simp] theorem Lane.onPlt_sf (L : Lane) f : (L.onPlt f).sf = L.sf := (rfl)
@[simp] theorem Lane.onPlt_rap (L : Lane) f : (L.onPlt f).rap = L.rap := (rfl)
@[simp] theorem Lane.onPlt_ethA (L : Lane) f : (L.onPlt f).ethA = L.ethA := (rfl)
@[simp] theorem Lane.onPlt_ethB (L : Lane) f : (L.onPlt f).ethB = L.ethB := (rfl)
@[simp] theorem Lane.onPlt_l450 (L : Lane) f : (L.onPlt f).l450 = L.l450 := (rfl)
@[simp] theorem Lane.onPlt_ser (L : Lane) f : (L.onPlt f).ser = L.ser := (rfl)
@[simp] theorem Lane.onPlt_can (L : Lane) f : (L.onPlt f).can = L.can := (rfl)
@[simp] theorem Lane.onPlt_ana (L : Lane) f : (L.onPlt f).ana = L.ana := (rfl)
@[simp] theorem Lane.onPlt_ntk (L : Lane) f : (L.onPlt f).ntk = L.ntk := (rfl)
@[simp] theorem Lane.onPlt_plt (L : Lane) f : (L.onPlt f).plt = f L.plt := (rfl)
@[simp] theorem Lane.onPlt_ctl (L : Lane) f : (L.onPlt f).ctl = L.ctl := (rfl)
@[simp] theorem Lane.onPlt_alc (L : Lane) f : (L.onPlt f).alc = L.alc := (rfl)
@[simp] theorem Lane.onPlt_sx (L : Lane) f : (L.onPlt f).sx = L.sx := (rfl)
@[simp] theorem Lane.onPlt_mirror (L : Lane) f : (L.onPlt f).mirror = L.mirror := (rfl)
@[simp] theorem Lane.onPlt_work (L : Lane) f : (L.onPlt f).work = L.work := (rfl)
@[simp] theorem Lane.onPlt_free (L : Lane) f : (L.onPlt f).free = L.free := (rfl)
@[simp] theorem Lane.onPlt_word (L : Lane) f a : (L.onPlt f).word a = L.word a := (rfl)
@[simp] theorem Lane.onPlt_get (L : Lane) f g : (L.onPlt f).get g = L.get g := (rfl)
@[simp] theorem Lane.onPlt_bit (L : Lane) f g k : (L.onPlt f).bit g k = L.bit g k := (rfl)
@[simp] theorem Lane.onPlt_now (L : Lane) f : (L.onPlt f).now = L.now := (rfl)
@[simp] theorem Lane.onCtl_id (L : Lane) f : (L.onCtl f).id = L.id := (rfl)
@[simp] theorem Lane.onCtl_variant (L : Lane) f : (L.onCtl f).variant = L.variant := (rfl)
@[simp] theorem Lane.onCtl_regs (L : Lane) f : (L.onCtl f).regs = L.regs := (rfl)
@[simp] theorem Lane.onCtl_found (L : Lane) f : (L.onCtl f).found = L.found := (rfl)
@[simp] theorem Lane.onCtl_evInfo (L : Lane) f : (L.onCtl f).evInfo = L.evInfo := (rfl)
@[simp] theorem Lane.onCtl_tk (L : Lane) f : (L.onCtl f).tk = L.tk := (rfl)
@[simp] theorem Lane.onCtl_boot (L : Lane) f : (L.onCtl f).boot = L.boot := (rfl)
@[simp] theorem Lane.onCtl_hw (L : Lane) f : (L.onCtl f).hw = L.hw := (rfl)
@[simp] theorem Lane.onCtl_red (L : Lane) f : (L.onCtl f).red = L.red := (rfl)
@[simp] theorem Lane.onCtl_chart (L : Lane) f : (L.onCtl f).chart = L.chart := (rfl)
@[simp] theorem Lane.onCtl_log (L : Lane) f : (L.onCtl f).log = L.log := (rfl)
@[simp] theorem Lane.onCtl_chr (L : Lane) f : (L.onCtl f).chr = L.chr := (rfl)
@[simp] theorem Lane.onCtl_clk (L : Lane) f : (L.onCtl f).clk = L.clk := (rfl)
@[simp] theorem Lane.onCtl_pwr (L : Lane) f : (L.onCtl f).pwr = L.pwr := (rfl)
@[simp] theorem Lane.onCtl_sf (L : Lane) f : (L.onCtl f).sf = L.sf := (rfl)
@[simp] theorem Lane.onCtl_rap (L : Lane) f : (L.onCtl f).rap = L.rap := (rfl)
@[simp] theorem Lane.onCtl_ethA (L : Lane) f : (L.onCtl f).ethA = L.ethA := (rfl)
@[simp] theorem Lane.onCtl_ethB (L : Lane) f : (L.onCtl f).ethB = L.ethB := (rfl)
@[simp] theorem Lane.onCtl_l450 (L : Lane) f : (L.onCtl f).l450 = L.l450 := (rfl)
@[simp] theorem Lane.onCtl_ser (L : Lane) f : (L.onCtl f).ser = L.ser := (rfl)
@[simp] theorem Lane.onCtl_can (L : Lane) f : (L.onCtl f).can = L.can := (rfl)
@[simp] theorem Lane.onCtl_ana (L : Lane) f : (L.onCtl f).ana = L.ana := (rfl)
@[simp] theorem Lane.onCtl_ntk (L : Lane) f : (L.onCtl f).ntk = L.ntk := (rfl)
@[simp] theorem Lane.onCtl_plt (L : Lane) f : (L.onCtl f).plt = L.plt := (rfl)
@[simp] theorem Lane.onCtl_ctl (L : Lane) f : (L.onCtl f).ctl = f L.ctl := (rfl)
@[simp] theorem Lane.onCtl_alc (L : Lane) f : (L.onCtl f).alc = L.alc := (rfl)
@[simp] theorem Lane.onCtl_sx (L : Lane) f : (L.onCtl f).sx = L.sx := (rfl)
@[simp] theorem Lane.onCtl_mirror (L : Lane) f : (L.onCtl f).mirror = L.mirror := (rfl)
@[simp] theorem Lane.onCtl_work (L : Lane) f : (L.onCtl f).work = L.work := (rfl)
@[simp] theorem Lane.onCtl_free (L : Lane) f : (L.onCtl f).free = L.free := (rfl)
@[simp] theorem Lane.onCtl_word (L : Lane) f a : (L.onCtl f).word a = L.word a := (rfl)
@[simp] theorem Lane.onCtl_get (L : Lane) f g : (L.onCtl f).get g = L.get g := (rfl)
@[simp] theorem Lane.onCtl_bit (L : Lane) f g k : (L.onCtl f).bit g k = L.bit g k := (rfl)
@[simp] theorem Lane.onCtl_now (L : Lane) f : (L.onCtl f).now = L.now := (rfl)
@[simp] theorem Lane.onAlc_id (L : Lane) f : (L.onAlc f).id = L.id := (rfl)
@[simp] theorem Lane.onAlc_variant (L : Lane) f : (L.onAlc f).variant = L.variant := (rfl)
@[simp] theorem Lane.onAlc_regs (L : Lane) f : (L.onAlc f).regs = L.regs := (rfl)
@[simp] theorem Lane.onAlc_found (L : Lane) f : (L.onAlc f).found = L.found := (rfl)
@[simp] theorem Lane.onAlc_evInfo (L : Lane) f : (L.onAlc f).evInfo = L.evInfo := (rfl)
@[simp] theorem Lane.onAlc_tk (L : Lane) f : (L.onAlc f).tk = L.tk := (rfl)
@[simp] theorem Lane.onAlc_boot (L : Lane) f : (L.onAlc f).boot = L.boot := (rfl)
@[simp] theorem Lane.onAlc_hw (L : Lane) f : (L.onAlc f).hw = L.hw := (rfl)
@[simp] theorem Lane.onAlc_red (L : Lane) f : (L.onAlc f).red = L.red := (rfl)
@[simp] theorem Lane.onAlc_chart (L : Lane) f : (L.onAlc f).chart = L.chart := (rfl)
@[simp] theorem Lane.onAlc_log (L : Lane) f : (L.onAlc f).log = L.log := (rfl)
@[simp] theorem Lane.onAlc_chr (L : Lane) f : (L.onAlc f).chr = L.chr := (rfl)
@[simp] theorem Lane.onAlc_clk (L : Lane) f : (L.onAlc f).clk = L.clk := (rfl)
@[simp] theorem Lane.onAlc_pwr (L : Lane) f : (L.onAlc f).pwr = L.pwr := (rfl)
@[simp] theorem Lane.onAlc_sf (L : Lane) f : (L.onAlc f).sf = L.sf := (rfl)
@[simp] theorem Lane.onAlc_rap (L : Lane) f : (L.onAlc f).rap = L.rap := (rfl)
@[simp] theorem Lane.onAlc_ethA (L : Lane) f : (L.onAlc f).ethA = L.ethA := (rfl)
@[simp] theorem Lane.onAlc_ethB (L : Lane) f : (L.onAlc f).ethB = L.ethB := (rfl)
@[simp] theorem Lane.onAlc_l450 (L : Lane) f : (L.onAlc f).l450 = L.l450 := (rfl)
@[simp] theorem Lane.onAlc_ser (L : Lane) f : (L.onAlc f).ser = L.ser := (rfl)
@[simp] theorem Lane.onAlc_can (L : Lane) f : (L.onAlc f).can = L.can := (rfl)
@[simp] theorem Lane.onAlc_ana (L : Lane) f : (L.onAlc f).ana = L.ana := (rfl)
@[simp] theorem Lane.onAlc_ntk (L : Lane) f : (L.onAlc f).ntk = L.ntk := (rfl)
@[simp] theorem Lane.onAlc_plt (L : Lane) f : (L.onAlc f).plt = L.plt := (rfl)
@[simp] theorem Lane.onAlc_ctl (L : Lane) f : (L.onAlc f).ctl = L.ctl := (rfl)
@[simp] theorem Lane.onAlc_alc (L : Lane) f : (L.onAlc f).alc = f L.alc := (rfl)
@[simp] theorem Lane.onAlc_sx (L : Lane) f : (L.onAlc f).sx = L.sx := (rfl)
@[simp] theorem Lane.onAlc_mirror (L : Lane) f : (L.onAlc f).mirror = L.mirror := (rfl)
@[simp] theorem Lane.onAlc_work (L : Lane) f : (L.onAlc f).work = L.work := (rfl)
@[simp] theorem Lane.onAlc_free (L : Lane) f : (L.onAlc f).free = L.free := (rfl)
@[simp] theorem Lane.onAlc_word (L : Lane) f a : (L.onAlc f).word a = L.word a := (rfl)
@[simp] theorem Lane.onAlc_get (L : Lane) f g : (L.onAlc f).get g = L.get g := (rfl)
@[simp] theorem Lane.onAlc_bit (L : Lane) f g k : (L.onAlc f).bit g k = L.bit g k := (rfl)
@[simp] theorem Lane.onAlc_now (L : Lane) f : (L.onAlc f).now = L.now := (rfl)
@[simp] theorem Lane.onSx_id (L : Lane) f : (L.onSx f).id = L.id := (rfl)
@[simp] theorem Lane.onSx_variant (L : Lane) f : (L.onSx f).variant = L.variant := (rfl)
@[simp] theorem Lane.onSx_regs (L : Lane) f : (L.onSx f).regs = L.regs := (rfl)
@[simp] theorem Lane.onSx_found (L : Lane) f : (L.onSx f).found = L.found := (rfl)
@[simp] theorem Lane.onSx_evInfo (L : Lane) f : (L.onSx f).evInfo = L.evInfo := (rfl)
@[simp] theorem Lane.onSx_tk (L : Lane) f : (L.onSx f).tk = L.tk := (rfl)
@[simp] theorem Lane.onSx_boot (L : Lane) f : (L.onSx f).boot = L.boot := (rfl)
@[simp] theorem Lane.onSx_hw (L : Lane) f : (L.onSx f).hw = L.hw := (rfl)
@[simp] theorem Lane.onSx_red (L : Lane) f : (L.onSx f).red = L.red := (rfl)
@[simp] theorem Lane.onSx_chart (L : Lane) f : (L.onSx f).chart = L.chart := (rfl)
@[simp] theorem Lane.onSx_log (L : Lane) f : (L.onSx f).log = L.log := (rfl)
@[simp] theorem Lane.onSx_chr (L : Lane) f : (L.onSx f).chr = L.chr := (rfl)
@[simp] theorem Lane.onSx_clk (L : Lane) f : (L.onSx f).clk = L.clk := (rfl)
@[simp] theorem Lane.onSx_pwr (L : Lane) f : (L.onSx f).pwr = L.pwr := (rfl)
@[simp] theorem Lane.onSx_sf (L : Lane) f : (L.onSx f).sf = L.sf := (rfl)
@[simp] theorem Lane.onSx_rap (L : Lane) f : (L.onSx f).rap = L.rap := (rfl)
@[simp] theorem Lane.onSx_ethA (L : Lane) f : (L.onSx f).ethA = L.ethA := (rfl)
@[simp] theorem Lane.onSx_ethB (L : Lane) f : (L.onSx f).ethB = L.ethB := (rfl)
@[simp] theorem Lane.onSx_l450 (L : Lane) f : (L.onSx f).l450 = L.l450 := (rfl)
@[simp] theorem Lane.onSx_ser (L : Lane) f : (L.onSx f).ser = L.ser := (rfl)
@[simp] theorem Lane.onSx_can (L : Lane) f : (L.onSx f).can = L.can := (rfl)
@[simp] theorem Lane.onSx_ana (L : Lane) f : (L.onSx f).ana = L.ana := (rfl)
@[simp] theorem Lane.onSx_ntk (L : Lane) f : (L.onSx f).ntk = L.ntk := (rfl)
@[simp] theorem Lane.onSx_plt (L : Lane) f : (L.onSx f).plt = L.plt := (rfl)
@[simp] theorem Lane.onSx_ctl (L : Lane) f : (L.onSx f).ctl = L.ctl := (rfl)
@[simp] theorem Lane.onSx_alc (L : Lane) f : (L.onSx f).alc = L.alc := (rfl)
@[simp] theorem Lane.onSx_sx (L : Lane) f : (L.onSx f).sx = f L.sx := (rfl)
@[simp] theorem Lane.onSx_mirror (L : Lane) f : (L.onSx f).mirror = L.mirror := (rfl)
@[simp] theorem Lane.onSx_work (L : Lane) f : (L.onSx f).work = L.work := (rfl)
@[simp] theorem Lane.onSx_free (L : Lane) f : (L.onSx f).free = L.free := (rfl)
@[simp] theorem Lane.onSx_word (L : Lane) f a : (L.onSx f).word a = L.word a := (rfl)
@[simp] theorem Lane.onSx_get (L : Lane) f g : (L.onSx f).get g = L.get g := (rfl)
@[simp] theorem Lane.onSx_bit (L : Lane) f g k : (L.onSx f).bit g k = L.bit g k := (rfl)
@[simp] theorem Lane.onSx_now (L : Lane) f : (L.onSx f).now = L.now := (rfl)
@[simp] theorem Lane.onMirror_id (L : Lane) f : (L.onMirror f).id = L.id := (rfl)
@[simp] theorem Lane.onMirror_variant (L : Lane) f : (L.onMirror f).variant = L.variant := (rfl)
@[simp] theorem Lane.onMirror_regs (L : Lane) f : (L.onMirror f).regs = L.regs := (rfl)
@[simp] theorem Lane.onMirror_found (L : Lane) f : (L.onMirror f).found = L.found := (rfl)
@[simp] theorem Lane.onMirror_evInfo (L : Lane) f : (L.onMirror f).evInfo = L.evInfo := (rfl)
@[simp] theorem Lane.onMirror_tk (L : Lane) f : (L.onMirror f).tk = L.tk := (rfl)
@[simp] theorem Lane.onMirror_boot (L : Lane) f : (L.onMirror f).boot = L.boot := (rfl)
@[simp] theorem Lane.onMirror_hw (L : Lane) f : (L.onMirror f).hw = L.hw := (rfl)
@[simp] theorem Lane.onMirror_red (L : Lane) f : (L.onMirror f).red = L.red := (rfl)
@[simp] theorem Lane.onMirror_chart (L : Lane) f : (L.onMirror f).chart = L.chart := (rfl)
@[simp] theorem Lane.onMirror_log (L : Lane) f : (L.onMirror f).log = L.log := (rfl)
@[simp] theorem Lane.onMirror_chr (L : Lane) f : (L.onMirror f).chr = L.chr := (rfl)
@[simp] theorem Lane.onMirror_clk (L : Lane) f : (L.onMirror f).clk = L.clk := (rfl)
@[simp] theorem Lane.onMirror_pwr (L : Lane) f : (L.onMirror f).pwr = L.pwr := (rfl)
@[simp] theorem Lane.onMirror_sf (L : Lane) f : (L.onMirror f).sf = L.sf := (rfl)
@[simp] theorem Lane.onMirror_rap (L : Lane) f : (L.onMirror f).rap = L.rap := (rfl)
@[simp] theorem Lane.onMirror_ethA (L : Lane) f : (L.onMirror f).ethA = L.ethA := (rfl)
@[simp] theorem Lane.onMirror_ethB (L : Lane) f : (L.onMirror f).ethB = L.ethB := (rfl)
@[simp] theorem Lane.onMirror_l450 (L : Lane) f : (L.onMirror f).l450 = L.l450 := (rfl)
@[simp] theorem Lane.onMirror_ser (L : Lane) f : (L.onMirror f).ser = L.ser := (rfl)
@[simp] theorem Lane.onMirror_can (L : Lane) f : (L.onMirror f).can = L.can := (rfl)
@[simp] theorem Lane.onMirror_ana (L : Lane) f : (L.onMirror f).ana = L.ana := (rfl)
@[simp] theorem Lane.onMirror_ntk (L : Lane) f : (L.onMirror f).ntk = L.ntk := (rfl)
@[simp] theorem Lane.onMirror_plt (L : Lane) f : (L.onMirror f).plt = L.plt := (rfl)
@[simp] theorem Lane.onMirror_ctl (L : Lane) f : (L.onMirror f).ctl = L.ctl := (rfl)
@[simp] theorem Lane.onMirror_alc (L : Lane) f : (L.onMirror f).alc = L.alc := (rfl)
@[simp] theorem Lane.onMirror_sx (L : Lane) f : (L.onMirror f).sx = L.sx := (rfl)
@[simp] theorem Lane.onMirror_mirror (L : Lane) f : (L.onMirror f).mirror = f L.mirror := (rfl)
@[simp] theorem Lane.onMirror_work (L : Lane) f : (L.onMirror f).work = L.work := (rfl)
@[simp] theorem Lane.onMirror_free (L : Lane) f : (L.onMirror f).free = L.free := (rfl)
@[simp] theorem Lane.onMirror_word (L : Lane) f a : (L.onMirror f).word a = L.word a := (rfl)
@[simp] theorem Lane.onMirror_get (L : Lane) f g : (L.onMirror f).get g = L.get g := (rfl)
@[simp] theorem Lane.onMirror_bit (L : Lane) f g k : (L.onMirror f).bit g k = L.bit g k := (rfl)
@[simp] theorem Lane.onMirror_now (L : Lane) f : (L.onMirror f).now = L.now := (rfl)
@[simp] theorem Lane.onWork_id (L : Lane) f : (L.onWork f).id = L.id := (rfl)
@[simp] theorem Lane.onWork_variant (L : Lane) f : (L.onWork f).variant = L.variant := (rfl)
@[simp] theorem Lane.onWork_regs (L : Lane) f : (L.onWork f).regs = L.regs := (rfl)
@[simp] theorem Lane.onWork_found (L : Lane) f : (L.onWork f).found = L.found := (rfl)
@[simp] theorem Lane.onWork_evInfo (L : Lane) f : (L.onWork f).evInfo = L.evInfo := (rfl)
@[simp] theorem Lane.onWork_tk (L : Lane) f : (L.onWork f).tk = L.tk := (rfl)
@[simp] theorem Lane.onWork_boot (L : Lane) f : (L.onWork f).boot = L.boot := (rfl)
@[simp] theorem Lane.onWork_hw (L : Lane) f : (L.onWork f).hw = L.hw := (rfl)
@[simp] theorem Lane.onWork_red (L : Lane) f : (L.onWork f).red = L.red := (rfl)
@[simp] theorem Lane.onWork_chart (L : Lane) f : (L.onWork f).chart = L.chart := (rfl)
@[simp] theorem Lane.onWork_log (L : Lane) f : (L.onWork f).log = L.log := (rfl)
@[simp] theorem Lane.onWork_chr (L : Lane) f : (L.onWork f).chr = L.chr := (rfl)
@[simp] theorem Lane.onWork_clk (L : Lane) f : (L.onWork f).clk = L.clk := (rfl)
@[simp] theorem Lane.onWork_pwr (L : Lane) f : (L.onWork f).pwr = L.pwr := (rfl)
@[simp] theorem Lane.onWork_sf (L : Lane) f : (L.onWork f).sf = L.sf := (rfl)
@[simp] theorem Lane.onWork_rap (L : Lane) f : (L.onWork f).rap = L.rap := (rfl)
@[simp] theorem Lane.onWork_ethA (L : Lane) f : (L.onWork f).ethA = L.ethA := (rfl)
@[simp] theorem Lane.onWork_ethB (L : Lane) f : (L.onWork f).ethB = L.ethB := (rfl)
@[simp] theorem Lane.onWork_l450 (L : Lane) f : (L.onWork f).l450 = L.l450 := (rfl)
@[simp] theorem Lane.onWork_ser (L : Lane) f : (L.onWork f).ser = L.ser := (rfl)
@[simp] theorem Lane.onWork_can (L : Lane) f : (L.onWork f).can = L.can := (rfl)
@[simp] theorem Lane.onWork_ana (L : Lane) f : (L.onWork f).ana = L.ana := (rfl)
@[simp] theorem Lane.onWork_ntk (L : Lane) f : (L.onWork f).ntk = L.ntk := (rfl)
@[simp] theorem Lane.onWork_plt (L : Lane) f : (L.onWork f).plt = L.plt := (rfl)
@[simp] theorem Lane.onWork_ctl (L : Lane) f : (L.onWork f).ctl = L.ctl := (rfl)
@[simp] theorem Lane.onWork_alc (L : Lane) f : (L.onWork f).alc = L.alc := (rfl)
@[simp] theorem Lane.onWork_sx (L : Lane) f : (L.onWork f).sx = L.sx := (rfl)
@[simp] theorem Lane.onWork_mirror (L : Lane) f : (L.onWork f).mirror = L.mirror := (rfl)
@[simp] theorem Lane.onWork_work (L : Lane) f : (L.onWork f).work = f L.work := (rfl)
@[simp] theorem Lane.onWork_free (L : Lane) f : (L.onWork f).free = L.free := (rfl)
@[simp] theorem Lane.onWork_word (L : Lane) f a : (L.onWork f).word a = L.word a := (rfl)
@[simp] theorem Lane.onWork_get (L : Lane) f g : (L.onWork f).get g = L.get g := (rfl)
@[simp] theorem Lane.onWork_bit (L : Lane) f g k : (L.onWork f).bit g k = L.bit g k := (rfl)
@[simp] theorem Lane.onWork_now (L : Lane) f : (L.onWork f).now = L.now := (rfl)
@[simp] theorem Lane.onFree_id (L : Lane) f : (L.onFree f).id = L.id := (rfl)
@[simp] theorem Lane.onFree_variant (L : Lane) f : (L.onFree f).variant = L.variant := (rfl)
@[simp] theorem Lane.onFree_regs (L : Lane) f : (L.onFree f).regs = L.regs := (rfl)
@[simp] theorem Lane.onFree_found (L : Lane) f : (L.onFree f).found = L.found := (rfl)
@[simp] theorem Lane.onFree_evInfo (L : Lane) f : (L.onFree f).evInfo = L.evInfo := (rfl)
@[simp] theorem Lane.onFree_tk (L : Lane) f : (L.onFree f).tk = L.tk := (rfl)
@[simp] theorem Lane.onFree_boot (L : Lane) f : (L.onFree f).boot = L.boot := (rfl)
@[simp] theorem Lane.onFree_hw (L : Lane) f : (L.onFree f).hw = L.hw := (rfl)
@[simp] theorem Lane.onFree_red (L : Lane) f : (L.onFree f).red = L.red := (rfl)
@[simp] theorem Lane.onFree_chart (L : Lane) f : (L.onFree f).chart = L.chart := (rfl)
@[simp] theorem Lane.onFree_log (L : Lane) f : (L.onFree f).log = L.log := (rfl)
@[simp] theorem Lane.onFree_chr (L : Lane) f : (L.onFree f).chr = L.chr := (rfl)
@[simp] theorem Lane.onFree_clk (L : Lane) f : (L.onFree f).clk = L.clk := (rfl)
@[simp] theorem Lane.onFree_pwr (L : Lane) f : (L.onFree f).pwr = L.pwr := (rfl)
@[simp] theorem Lane.onFree_sf (L : Lane) f : (L.onFree f).sf = L.sf := (rfl)
@[simp] theorem Lane.onFree_rap (L : Lane) f : (L.onFree f).rap = L.rap := (rfl)
@[simp] theorem Lane.onFree_ethA (L : Lane) f : (L.onFree f).ethA = L.ethA := (rfl)
@[simp] theorem Lane.onFree_ethB (L : Lane) f : (L.onFree f).ethB = L.ethB := (rfl)
@[simp] theorem Lane.onFree_l450 (L : Lane) f : (L.onFree f).l450 = L.l450 := (rfl)
@[simp] theorem Lane.onFree_ser (L : Lane) f : (L.onFree f).ser = L.ser := (rfl)
@[simp] theorem Lane.onFree_can (L : Lane) f : (L.onFree f).can = L.can := (rfl)
@[simp] theorem Lane.onFree_ana (L : Lane) f : (L.onFree f).ana = L.ana := (rfl)
@[simp] theorem Lane.onFree_ntk (L : Lane) f : (L.onFree f).ntk = L.ntk := (rfl)
@[simp] theorem Lane.onFree_plt (L : Lane) f : (L.onFree f).plt = L.plt := (rfl)
@[simp] theorem Lane.onFree_ctl (L : Lane) f : (L.onFree f).ctl = L.ctl := (rfl)
@[simp] theorem Lane.onFree_alc (L : Lane) f : (L.onFree f).alc = L.alc := (rfl)
@[simp] theorem Lane.onFree_sx (L : Lane) f : (L.onFree f).sx = L.sx := (rfl)
@[simp] theorem Lane.onFree_mirror (L : Lane) f : (L.onFree f).mirror = L.mirror := (rfl)
@[simp] theorem Lane.onFree_work (L : Lane) f : (L.onFree f).work = L.work := (rfl)
@[simp] theorem Lane.onFree_free (L : Lane) f : (L.onFree f).free = f L.free := (rfl)
@[simp] theorem Lane.onFree_word (L : Lane) f a : (L.onFree f).word a = L.word a := (rfl)
@[simp] theorem Lane.onFree_get (L : Lane) f g : (L.onFree f).get g = L.get g := (rfl)
@[simp] theorem Lane.onFree_bit (L : Lane) f g k : (L.onFree f).bit g k = L.bit g k := (rfl)
@[simp] theorem Lane.onFree_now (L : Lane) f : (L.onFree f).now = L.now := (rfl)
@[simp] theorem Lane.set_id (L : Lane) f v : (L.set f v).id = L.id := (rfl)
@[simp] theorem Lane.set_variant (L : Lane) f v : (L.set f v).variant = L.variant := (rfl)
@[simp] theorem Lane.set_found (L : Lane) f v : (L.set f v).found = L.found := (rfl)
@[simp] theorem Lane.set_evInfo (L : Lane) f v : (L.set f v).evInfo = L.evInfo := (rfl)
@[simp] theorem Lane.set_tk (L : Lane) f v : (L.set f v).tk = L.tk := (rfl)
@[simp] theorem Lane.set_boot (L : Lane) f v : (L.set f v).boot = L.boot := (rfl)
@[simp] theorem Lane.set_hw (L : Lane) f v : (L.set f v).hw = L.hw := (rfl)
@[simp] theorem Lane.set_red (L : Lane) f v : (L.set f v).red = L.red := (rfl)
@[simp] theorem Lane.set_chart (L : Lane) f v : (L.set f v).chart = L.chart := (rfl)
@[simp] theorem Lane.set_log (L : Lane) f v : (L.set f v).log = L.log := (rfl)
@[simp] theorem Lane.set_chr (L : Lane) f v : (L.set f v).chr = L.chr := (rfl)
@[simp] theorem Lane.set_clk (L : Lane) f v : (L.set f v).clk = L.clk := (rfl)
@[simp] theorem Lane.set_pwr (L : Lane) f v : (L.set f v).pwr = L.pwr := (rfl)
@[simp] theorem Lane.set_sf (L : Lane) f v : (L.set f v).sf = L.sf := (rfl)
@[simp] theorem Lane.set_rap (L : Lane) f v : (L.set f v).rap = L.rap := (rfl)
@[simp] theorem Lane.set_ethA (L : Lane) f v : (L.set f v).ethA = L.ethA := (rfl)
@[simp] theorem Lane.set_ethB (L : Lane) f v : (L.set f v).ethB = L.ethB := (rfl)
@[simp] theorem Lane.set_l450 (L : Lane) f v : (L.set f v).l450 = L.l450 := (rfl)
@[simp] theorem Lane.set_ser (L : Lane) f v : (L.set f v).ser = L.ser := (rfl)
@[simp] theorem Lane.set_can (L : Lane) f v : (L.set f v).can = L.can := (rfl)
@[simp] theorem Lane.set_ana (L : Lane) f v : (L.set f v).ana = L.ana := (rfl)
@[simp] theorem Lane.set_ntk (L : Lane) f v : (L.set f v).ntk = L.ntk := (rfl)
@[simp] theorem Lane.set_plt (L : Lane) f v : (L.set f v).plt = L.plt := (rfl)
@[simp] theorem Lane.set_ctl (L : Lane) f v : (L.set f v).ctl = L.ctl := (rfl)
@[simp] theorem Lane.set_alc (L : Lane) f v : (L.set f v).alc = L.alc := (rfl)
@[simp] theorem Lane.set_sx (L : Lane) f v : (L.set f v).sx = L.sx := (rfl)
@[simp] theorem Lane.set_mirror (L : Lane) f v : (L.set f v).mirror = L.mirror := (rfl)
@[simp] theorem Lane.set_work (L : Lane) f v : (L.set f v).work = L.work := (rfl)
@[simp] theorem Lane.set_free (L : Lane) f v : (L.set f v).free = L.free := (rfl)
@[simp] theorem Lane.find_id (L : Lane) p b : (L.find p b).id = L.id := (rfl)
@[simp] theorem Lane.find_variant (L : Lane) p b : (L.find p b).variant = L.variant := (rfl)
@[simp] theorem Lane.find_regs (L : Lane) p b : (L.find p b).regs = L.regs := (rfl)
@[simp] theorem Lane.find_evInfo (L : Lane) p b : (L.find p b).evInfo = L.evInfo := (rfl)
@[simp] theorem Lane.find_tk (L : Lane) p b : (L.find p b).tk = L.tk := (rfl)
@[simp] theorem Lane.find_boot (L : Lane) p b : (L.find p b).boot = L.boot := (rfl)
@[simp] theorem Lane.find_hw (L : Lane) p b : (L.find p b).hw = L.hw := (rfl)
@[simp] theorem Lane.find_red (L : Lane) p b : (L.find p b).red = L.red := (rfl)
@[simp] theorem Lane.find_chart (L : Lane) p b : (L.find p b).chart = L.chart := (rfl)
@[simp] theorem Lane.find_log (L : Lane) p b : (L.find p b).log = L.log := (rfl)
@[simp] theorem Lane.find_chr (L : Lane) p b : (L.find p b).chr = L.chr := (rfl)
@[simp] theorem Lane.find_clk (L : Lane) p b : (L.find p b).clk = L.clk := (rfl)
@[simp] theorem Lane.find_pwr (L : Lane) p b : (L.find p b).pwr = L.pwr := (rfl)
@[simp] theorem Lane.find_sf (L : Lane) p b : (L.find p b).sf = L.sf := (rfl)
@[simp] theorem Lane.find_rap (L : Lane) p b : (L.find p b).rap = L.rap := (rfl)
@[simp] theorem Lane.find_ethA (L : Lane) p b : (L.find p b).ethA = L.ethA := (rfl)
@[simp] theorem Lane.find_ethB (L : Lane) p b : (L.find p b).ethB = L.ethB := (rfl)
@[simp] theorem Lane.find_l450 (L : Lane) p b : (L.find p b).l450 = L.l450 := (rfl)
@[simp] theorem Lane.find_ser (L : Lane) p b : (L.find p b).ser = L.ser := (rfl)
@[simp] theorem Lane.find_can (L : Lane) p b : (L.find p b).can = L.can := (rfl)
@[simp] theorem Lane.find_ana (L : Lane) p b : (L.find p b).ana = L.ana := (rfl)
@[simp] theorem Lane.find_ntk (L : Lane) p b : (L.find p b).ntk = L.ntk := (rfl)
@[simp] theorem Lane.find_plt (L : Lane) p b : (L.find p b).plt = L.plt := (rfl)
@[simp] theorem Lane.find_ctl (L : Lane) p b : (L.find p b).ctl = L.ctl := (rfl)
@[simp] theorem Lane.find_alc (L : Lane) p b : (L.find p b).alc = L.alc := (rfl)
@[simp] theorem Lane.find_sx (L : Lane) p b : (L.find p b).sx = L.sx := (rfl)
@[simp] theorem Lane.find_mirror (L : Lane) p b : (L.find p b).mirror = L.mirror := (rfl)
@[simp] theorem Lane.find_work (L : Lane) p b : (L.find p b).work = L.work := (rfl)
@[simp] theorem Lane.find_free (L : Lane) p b : (L.find p b).free = L.free := (rfl)
@[simp] theorem Lane.find_found (L : Lane) p b : (L.find p b).found = L.found ++ [⟨p, b, L.now⟩] := (rfl)
@[simp] theorem Lane.find_word (L : Lane) p b a : (L.find p b).word a = L.word a := (rfl)
@[simp] theorem Lane.find_get (L : Lane) p b g : (L.find p b).get g = L.get g := (rfl)
@[simp] theorem Lane.find_bit (L : Lane) p b g k : (L.find p b).bit g k = L.bit g k := (rfl)
@[simp] theorem Lane.find_now (L : Lane) p b : (L.find p b).now = L.now := (rfl)
@[simp] theorem Lane.set_now (L : Lane) f v : (L.set f v).now = L.now := (rfl)

@[simp] theorem State.lane_setLane (s : State) (l : LaneId) (M : Lane) : (s.setLane l M).lane l = M := by cases l <;> rfl
@[simp] theorem State.lane_setLane_other (s : State) (l : LaneId) (M : Lane) : (s.setLane l M).lane l.other = s.lane l.other := by cases l <;> rfl
@[simp] theorem State.sh_setLane (s : State) (l : LaneId) (M : Lane) : (s.setLane l M).sh = s.sh := by cases l <;> rfl
@[simp] theorem State.pending_setLane (s : State) (l : LaneId) (M : Lane) : (s.setLane l M).pending = s.pending := by cases l <;> rfl
@[simp] theorem State.setLane_lane (s : State) (l : LaneId) : s.setLane l (s.lane l) = s := by cases l <;> rfl
@[simp] theorem State.setLane_setLane (s : State) (l : LaneId) (M N : Lane) : (s.setLane l M).setLane l N = s.setLane l N := by cases l <;> rfl
@[simp] theorem State.lane_upd (s : State) (l : LaneId) (f : Lane → Lane) : (s.upd l f).lane l = f (s.lane l) := by cases l <;> rfl
@[simp] theorem State.lane_upd_other (s : State) (l : LaneId) (f : Lane → Lane) : (s.upd l f).lane l.other = s.lane l.other := by cases l <;> rfl
@[simp] theorem State.sh_upd (s : State) (l : LaneId) (f : Lane → Lane) : (s.upd l f).sh = s.sh := by cases l <;> rfl
@[simp] theorem State.pending_upd (s : State) (l : LaneId) (f : Lane → Lane) : (s.upd l f).pending = s.pending := by cases l <;> rfl

end Sys2Proof.Machine
end

