-- ==== Sys2Proof/Laws/Frame.lean ====
section
/-! SUPPORT. Laws of frames: what a chain of register writes and events leaves as it was. -/

namespace Sys2Proof.Machine

open Sys2Proof

theorem Fld.apart.symm {f g : Fld} (h : f.apart g) : g.apart f := by
  rcases h with h | h | h
  · exact .inl (Ne.symm h)
  · exact .inr (.inr h)
  · exact .inr (.inl h)

/-- A field that shares no bit with the one set keeps its value. -/
theorem Lane.get_set_apart (L : Lane) {f g : Fld} (v : Nat) (hf : f.lo + f.w ≤ 32) (hg : g.lo + g.w ≤ 32) (h : g.apart f) :
    (L.set f v).get g = L.get g := L.get_set_other g f v hg hf h

@[simp] theorem Lane.keepsBut_refl (L : Lane) (fs : List Fld) : L.keepsBut L fs := fun _ _ _ => rfl

/-- A listed field set keeps all but the fields listed. -/
theorem Lane.keepsBut_set {L M : Lane} {fs : List Fld} {f : Fld} (v : Nat) (hf : f.lo + f.w ≤ 32) (hm : f ∈ fs)
    (h : L.keepsBut M fs) : L.keepsBut (M.set f v) fs := fun g hg ha => by
  rw [M.get_set_apart v hf hg (ha f hm)]
  exact h g hg ha

/-- Lanes with the same registers keep the same fields. -/
theorem Lane.keepsBut_regs {L M N : Lane} {fs : List Fld} (e : N.regs = M.regs) (h : L.keepsBut M fs) : L.keepsBut N fs :=
  fun g hg ha => by
    have : N.get g = M.get g := by unfold Lane.get Lane.word; rw [e]
    rw [this]
    exact h g hg ha

theorem Lane.keepsBut_find {L M : Lane} {fs : List Fld} (p b : Nat) (h : L.keepsBut M fs) : L.keepsBut (M.find p b) fs := h

theorem Lane.keepsBut_findIf {L M : Lane} {fs : List Fld} (c : Bool) (p b : Nat) (h : L.keepsBut M fs) :
    L.keepsBut (M.findIf c p b) fs := by cases c <;> exact h

end Sys2Proof.Machine
end

