-- ==== Sys2Proof/Laws/Bits.lean ====
section
/-! SUPPORT. Laws of single bits of mask fields, of saturating counts and of lists changed at an index. -/

namespace Sys2Proof.Machine

open Sys2Proof

theorem half_add_even (v m : Nat) : (v + 2 * m) % 2 = v % 2 := by omega

/-- A bit other than `n` does not see 2^n added where bit `n` was clear. -/
theorem bit_add_pow {v n k : Nat} (hc : v / 2 ^ n % 2 = 0) (hk : k ≠ n) : (v + 2 ^ n) / 2 ^ k % 2 = v / 2 ^ k % 2 := by
  rcases Nat.lt_or_gt_of_ne hk with h | h
  · obtain ⟨j, rfl⟩ : ∃ j, n = k + 1 + j := ⟨n - (k + 1), by omega⟩
    have e : 2 ^ (k + 1 + j) = 2 ^ k * (2 * 2 ^ j) := by rw [pow_add, pow_succ]; ring
    rw [e, Nat.add_mul_div_left _ _ (by positivity)]
    omega
  · obtain ⟨j, rfl⟩ : ∃ j, k = n + 1 + j := ⟨k - (n + 1), by omega⟩
    have e : ∀ x, x / 2 ^ (n + 1 + j) = x / 2 ^ n / 2 / 2 ^ j := fun x => by
      rw [pow_add, pow_succ, ← Nat.div_div_eq_div_mul, ← Nat.div_div_eq_div_mul]
    rw [e, e, Nat.add_div_right _ (by positivity)]
    congr 2
    omega

/-- The bits of a number with one bit set or cleared. -/
theorem testBit_setBit (v n k : Nat) (b : Bool) : testBit (setBit v n b) k = if k = n then b else testBit v k := by
  unfold testBit setBit
  have hle : v / 2 ^ n % 2 ≠ 0 → 2 ^ n ≤ v := fun h => by
    by_contra hlt
    rw [Nat.div_eq_of_lt (by omega)] at h
    simp at h
  have hsub : v / 2 ^ n % 2 ≠ 0 → (v - 2 ^ n) / 2 ^ n % 2 = 0 := fun h => by
    have := hle h
    have e : v / 2 ^ n = (v - 2 ^ n) / 2 ^ n + 1 := by
      conv_lhs => rw [show v = v - 2 ^ n + 2 ^ n by omega]
      exact Nat.add_div_right _ (by positivity)
    omega
  by_cases hk : k = n
  · subst hk
    rw [if_pos rfl]
    cases b <;> by_cases hc : v / 2 ^ k % 2 = 0
    · simp [hc]
    · simp [hc, hsub hc]
    · simp only [hc, if_true]
      rw [Nat.add_div_right _ (by positivity)]
      simp
      omega
    · simp only [hc, if_false, if_true]
      simp
      omega
  · rw [if_neg hk]
    cases b <;> by_cases hc : v / 2 ^ n % 2 = 0
    · simp [hc]
    · have := hle hc
      have e := bit_add_pow (hsub hc) hk
      rw [show v - 2 ^ n + 2 ^ n = v by omega] at e
      simp [hc, e]
    · simp [hc, bit_add_pow hc hk]
    · simp [hc]

theorem Lane.get_lt (L : Lane) (f : Fld) : L.get f < 2 ^ f.w := Nat.mod_lt _ (by positivity)

/-- The bits of a mask field after one of them was set or cleared. -/
theorem Lane.bit_setBit (L : Lane) (f : Fld) (n k : Nat) (b : Bool) (h : f.lo + f.w ≤ 32) (hn : n < f.w) :
    (L.setBit f n b).bit f k = if k = n then b else L.bit f k := by
  have key : ∀ v, k < f.w → testBit (v % 2 ^ f.w) k = testBit v k := fun v hk => by
    have e : ∀ x, testBit x k = Nat.testBit x k := fun x => by
      unfold testBit
      rw [Nat.testBit_eq_decide_div_mod_eq]
      rcases Nat.mod_two_eq_zero_or_one (x / 2 ^ k) with h | h <;> rw [h] <;> rfl
    rw [e, e, Nat.testBit_mod_two_pow]
    simp [hk]
  show testBit ((L.setBit f n b).get f) k = _
  unfold Lane.setBit
  rw [L.get_set_same f _ h]
  by_cases hk : k < f.w
  · rw [key _ hk, testBit_setBit]
    rfl
  · have hz : ∀ v, v < 2 ^ f.w → testBit v k = false := fun v hv => by
      unfold testBit
      rw [Nat.div_eq_of_lt (lt_of_lt_of_le hv (Nat.pow_le_pow_right (by omega) (by omega)))]
      rfl
    rw [hz _ (Nat.mod_lt _ (by positivity)), if_neg (by omega)]
    exact (hz _ (L.get_lt f)).symm

/-- A saturating count after it was raised. -/
theorem Lane.get_incSat (L : Lane) (f : Fld) (n : Nat) (h : f.lo + f.w ≤ 32) :
    (L.incSat f n).get f = min (L.get f + n) (2 ^ f.w - 1) := by
  unfold Lane.incSat Lane.setSat
  rw [L.get_set_same f _ h]
  exact Nat.mod_eq_of_lt (lt_of_le_of_lt (min_le_right _ _) (by have : 0 < 2 ^ f.w := by positivity
                                                                omega))

/-- A list changed at an index, read at an index. -/
theorem getD_modAt {α : Type} (l : List α) (n k : Nat) (f : α → α) (d : α) :
    (modAt l n f).getD k d = if k = n ∧ n < l.length then f (l.getD n d) else l.getD k d := by
  induction l generalizing n k with
  | nil => simp [modAt]
  | cons x r ih =>
    cases n with
    | zero => cases k <;> simp [modAt]
    | succ n =>
      cases k with
      | zero => simp [modAt]
      | succ k => simpa [modAt] using ih n k

end Sys2Proof.Machine
end

