-- ==== Sys2Proof/Laws/Log.lean ====
section
/-! SUPPORT. What posting a record to the Logbook leaves as it was: everything but the Logbook, its counts and its events. -/

namespace Sys2Proof.Machine

open Sys2Proof

/-- Nothing differs but the Logbook, the counts of `postFlds` and events of the Logbook's page. -/
def Lane.logOnly (L M : Lane) : Prop :=
  L.keepsBut M postFlds ∧ offLog M.found = offLog L.found ∧ L.onlyRegs (M.onLog fun _ => L.log)

theorem Lane.logOnly_refl (L : Lane) : L.logOnly L := ⟨L.keepsBut_refl _, rfl, rfl⟩

theorem Lane.logOnly_trans {L M N : Lane} (h1 : L.logOnly M) (h2 : M.logOnly N) : L.logOnly N := by
  obtain ⟨a1, b1, c1⟩ := h1
  obtain ⟨a2, b2, c2⟩ := h2
  refine ⟨fun g hg ha => (a2 g hg ha).trans (a1 g hg ha), b2.trans b1, ?_⟩
  unfold Lane.onlyRegs at *
  rw [← c1]
  unfold Lane.onLog at *
  rw [← c2]

theorem Lane.logOnly_onLog (L : Lane) (f : LogSt → LogSt) : L.logOnly (L.onLog f) := ⟨fun _ _ _ => rfl, rfl, rfl⟩

theorem Lane.logOnly_set (L : Lane) (f : Fld) (v : Nat) (hf : f ∈ postFlds) : L.logOnly (L.set f v) := by
  have h32 : ∀ f ∈ postFlds, f.lo + f.w ≤ 32 := by decide
  exact ⟨Lane.keepsBut_set v (h32 f hf) hf (L.keepsBut_refl _), rfl, rfl⟩

theorem Lane.logOnly_find (L : Lane) (b : Nat) : L.logOnly (L.find 0x5C b) := by
  refine ⟨fun _ _ _ => rfl, ?_, rfl⟩
  simp [offLog]

theorem Lane.logOnly_findIf (L : Lane) (c : Bool) (b : Nat) : L.logOnly (L.findIf c 0x5C b) := by
  cases c
  · exact L.logOnly_refl
  · exact L.logOnly_find b

theorem Lane.logOnly_logDrop (L : Lane) (c : DropCause) (r : LogRec) : L.logOnly (L.logDrop c r) := by
  unfold Lane.logDrop
  refine Lane.logOnly_trans ?_ (Lane.logOnly_findIf _ _ _)
  cases c
  · exact L.logOnly_refl
  all_goals exact Lane.logOnly_trans (L.logOnly_onLog _) (Lane.logOnly_set _ _ _ (by decide))

theorem Lane.logOnly_logRoom (n : Nat) : ∀ (L : Lane) (sev need : Nat) (M : Lane), L.logRoom sev need n = some M → L.logOnly M := by
  induction n with
  | zero =>
    intro L sev need M h
    unfold Lane.logRoom at h
    split at h
    · cases h; exact L.logOnly_refl
    · cases h
  | succ n ih =>
    intro L sev need M h
    unfold Lane.logRoom at h
    split at h
    · cases h; exact L.logOnly_refl
    · split at h
      · cases h
      · rename_i d q _
        refine Lane.logOnly_trans ?_ (ih _ _ _ _ h)
        refine Lane.logOnly_trans (L.logOnly_onLog fun g => { g with queue := q }) ?_
        split
        · exact Lane.logOnly_set _ _ _ (by decide)
        · exact Lane.logOnly_logDrop _ _ _

theorem Lane.logOnly_crossCopy (L : Lane) (r : LogRec) : L.logOnly (L.crossCopy r) := by
  unfold Lane.crossCopy
  split
  · exact Lane.logOnly_trans (L.logOnly_onLog _) (Lane.logOnly_set _ _ _ (by decide))
  · dsimp only
    split
    · exact Lane.logOnly_trans (L.logOnly_onLog _) (Lane.logOnly_set _ _ _ (by decide))
    · exact L.logOnly_onLog _

theorem Lane.logOnly_enqueue (L : Lane) (r : LogRec) (own : Bool) : L.logOnly (L.enqueue r own) := by
  unfold Lane.enqueue
  dsimp only
  have h1 : ∀ (c : Prop) [Decidable c] (M N : Lane), L.logOnly M → M.logOnly N → L.logOnly (if c then N else M) := by
    intro c _ M N h1 h2
    split
    · exact Lane.logOnly_trans h1 h2
    · exact h1
  refine h1 _ _ _ ?_ (Lane.logOnly_crossCopy _ _)
  refine h1 _ _ _ ?_ (Lane.logOnly_onLog _ _)
  refine Lane.logOnly_trans ?_ (Lane.logOnly_findIf _ _ _)
  exact h1 _ _ _ (L.logOnly_onLog _) (Lane.logOnly_set _ _ _ (by decide))

theorem Lane.logOnly_dropSummary (L : Lane) : L.logOnly L.dropSummary := by
  unfold Lane.dropSummary
  dsimp only
  exact Lane.logOnly_trans (L.logOnly_onLog _) (Lane.logOnly_enqueue _ _ _)

theorem Lane.logOnly_summaryFirst (L : Lane) (r : LogRec) : L.logOnly (L.summaryFirst r) := by
  unfold Lane.summaryFirst
  split
  · split
    · rename_i M h
      exact Lane.logOnly_trans (Lane.logOnly_logRoom _ _ _ _ _ h) (Lane.logOnly_dropSummary _)
    · exact L.logOnly_refl
  · exact L.logOnly_refl

/-- A record posted, filtered and accepted. -/
theorem Lane.logOnly_accept (L : Lane) (r : LogRec) (own : Bool) : L.logOnly (L.accept r own) := by
  unfold Lane.accept
  split
  · exact L.logOnly_logDrop _ _
  · split
    · exact L.logOnly_logDrop _ _
    · rename_i M h
      exact Lane.logOnly_trans (Lane.logOnly_logRoom _ _ _ _ _ h)
        (Lane.logOnly_trans (Lane.logOnly_summaryFirst _ _) (Lane.logOnly_enqueue _ _ _))

/-- What posting a record leaves as it was. -/
theorem Lane.logOnly_post (L : Lane) (sev code : Nat) (payload : List Nat) : L.logOnly (L.post sev code payload) :=
  L.logOnly_accept _ _

end Sys2Proof.Machine
end

