-- ==== Sys2Proof/WellFormed.lean ====
section
/-! DEFINITION. Well-formed commands: every number that names a unit, a register's field or bytes lies in its range. -/

namespace Sys2Proof

/-- Numbers that all lie below a bound. -/
def allBelow (l : List Nat) (n : Nat) : List (Nat × Nat) := l.map fun x => (x, n)

/-- What a command's operands must lie below (the ranges of the chapters that define them). -/
def Instr.bounds : Instr → List (Nat × Nat)
  | .laneStart _ _ => []
  | .capabilityExchangeTimeout _ => []
  | .roleWaitExpiry _ => []
  | .contestReassert _ => []
  | .driveNotGranted _ => []
  | .bootWindowTimeout _ => []
  | .lubberPeerSilence _ => []
  | .lubberRelease _ => []
  | .laneFailRestart _ => []
  | .tickStart _ _ => []
  | .allocNotConverged _ => []
  | .allocNcEvt _ => []
  | .limitHoldExpiry _ n => [(n, 16)]
  | .channelReady _ n => [(n, 16)]
  | .channelNotReady _ n => [(n, 16)]
  | .followFault _ n => [(n, 16)]
  | .fbGraceExpiry _ n => [(n, 16)]
  | .leverStale _ n => [(n, 16)]
  | .pmStale _ b => [(b, 4)]
  | .loadReduction _ b => [(b, 4)]
  | .commitPoint _ _ => []
  | .chanMigrated _ => []
  | .migrationComplete _ => []
  | .engineStop _ n => [(n, 16)]
  | .mirrorFrameReceived _ _ _ => []
  | .healthWordReceived _ _ _ _ => []
  | .healthWordTimeout _ => []
  | .xlinkLost _ => []
  | .lockstepMismatch _ _ => []
  | .eccCorr _ mem => [(mem, 3)]
  | .eccUncorr _ r word => [(word, if r = .mram then 2 ^ 23 else 2 ^ 28)]
  | .memoryScrub _ mem _ _ => [(mem, 3)]
  | .snapshotWrite _ => []
  | .driveAssert _ => []
  | .driveRelease _ => []
  | .grantResolve => []
  | .deadTimeEnd => []
  | .claim _ => []
  | .claimInhibitEnd _ => []
  | .commitWatchdogExpiry _ => []
  | .takeover _ _ => []
  | .plannedHandover _ => []
  | .coldTakeover _ => []
  | .takeBackRequest _ => []
  | .holdoffReset _ => []
  | .suspensionEnd _ => []
  | .laneDisagree _ => []
  | .gridSkew _ => []
  | .resyncStageEnd _ => []
  | .modeReq _ mode tag => [(mode, 16), (tag, 256)]
  | .drExpired _ => []
  | .schedWriteSubmit _ tag => [(tag, 256)]
  | .schedModeSubmit _ tag => [(tag, 256)]
  | .schedFlush _ => []
  | .schedActionDue _ => []
  | .tickRenumber _ => []
  | .sentenceReceived _ _ _ => []
  | .binaryFrameReceived _ _ _ => []
  | .l450Datagram _ _ => []
  | .refAdmitted _ n => [(n, 30)]
  | .refRejected _ n => [(n, 30)]
  | .slotTimeout _ n => [(n, 30)]
  | .qualityExpiry _ n => [(n, 30)]
  | .timeModelUpdate _ => []
  | .learningEnd _ n => [(n, 30)]
  | .timeDegraded _ n => [(n, 30)]
  | .timeRestored _ n => [(n, 30)]
  | .refDisagree _ _ => []
  | .weightRampStep _ n => [(n, 30)]
  | .intDeselectWrite _ mask => [(mask, 2 ^ 30)]
  | .clearCounts _ n => [(n, 30)]
  | .restartTimeModel _ n => [(n, 30)]
  | .reAnchor _ n => [(n, 30)]
  | .envValid _ => []
  | .rerunAdopt _ => []
  | .reinit _ => []
  | .tgtSelWrite _ v => [(v, 32)]
  | .tgtCoasting _ k => [(k, 16)]
  | .tgtLost _ k => [(k, 16)]
  | .setPos _ tag dir => [(tag, 256), (dir, 4)]
  | .setHdg _ tag dir => [(tag, 256), (dir, 4)]
  | .setPosHdg _ tag dir => [(tag, 256), (dir, 4)]
  | .capture _ tag dir => [(tag, 256), (dir, 4)]
  | .setSpeed _ tag dir => [(tag, 256), (dir, 4)]
  | .setLeg _ tag dir => [(tag, 256), (dir, 4)]
  | .setCourse _ tag dir => [(tag, 256), (dir, 4)]
  | .setFtOfs _ tag dir => [(tag, 256), (dir, 4)]
  | .stopRamp _ tag dir => [(tag, 256), (dir, 4)]
  | .ctrlJoyWrite _ x y n => [(x, 1024), (y, 1024), (n, 1024)]
  | .joyStale _ => []
  | .ctrlBlendDone _ => []
  | .ctrlRebase _ _ => []
  | .online _ n tag => [(n, 16), (tag, 256)]
  | .offline _ n tag => [(n, 16), (tag, 256)]
  | .reset _ n tag => [(n, 16), (tag, 256)]
  | .epochStrobe _ e => (e.lag, 49) :: e.caps.map fun m => (m.chan, 216)
  | .epochSolution _ _ => []
  | .epochSkipped _ => []
  | .acquisitionPass _ _ => []
  | .pullInTimeout _ c => [(c, 216)]
  | .channelLockChange _ c => [(c.chan, 216)]
  | .trackingLost _ c => [(c.chan, 216)]
  | .reacquisitionExpiry _ _ => []
  | .lowerBandRetry _ _ => []
  | .sidePeakCorrection _ c _ => [(c, 216)]
  | .attFixed _ => []
  | .baselineFault _ => []
  | .sextantDataReceived _ => []
  | .antBiasFault _ k _ _ => [(k, 3)]
  | .agcLimit _ k upper lower _ => [(k, 3), (upper, 601), (lower, 601)]
  | .antNoSignal _ k => [(k, 3)]
  | .restartAcq _ tag => [(tag, 256)]
  | .coldRestart _ tag => [(tag, 256)]
  | .refixAtt _ tag => [(tag, 256)]
  | .sxExclWrite _ g mask => [(g, 5), (mask, 2 ^ 32)]
  | .antDelayChanged _ k => [(k, 3)]
  | .coarseSample _ n _ _ => [(n, 32)]
  | .fineOutput _ n _ _ _ _ => [(n, 32)]
  | .aiFault _ n => [(n, 32)]
  | .aiFaultClear _ n => [(n, 32)]
  | .aiStep _ n => [(n, 32)]
  | .aiLaneDiff _ n => [(n, 32)]
  | .aiCfgWrite _ n v => [(n, 32), (v, 2 ^ 32)]
  | .aiFreezeWrite _ v => [(v, 2 ^ 32)]
  | .aiRestart _ v => [(v, 2 ^ 32)]
  | .aoHostWrite _ m _ => [(m, 16)]
  | .aoFault _ m => [(m, 16)]
  | .openWireTest n _ _ => [(n, 32)]
  | .aiTerminalFinding _ n _ _ => [(n, 32)]
  | .snap _ => []
  | .offsetReceived _ _ _ => []
  | .sourceLoss _ k => [(k, 5)]
  | .sourceRevert _ k => [(k, 5)]
  | .timeStep _ => []
  | .holdLimit _ => []
  | .leapSecond _ => []
  | .setTime _ tag => [(tag, 256)]
  | .setTimeSlewEnd _ => []
  | .chrSrcDisWrite _ mask => [(mask, 8)]
  | .ppsCfgWrite _ p _ v => [(p, 2), (v, 2 ^ 32)]
  | .ptpAsymWrite _ q v => [(q, 2), (v, 2 ^ 32)]
  | .ptpMessageReceived _ d port _ => [(d, 2), (port, 2)]
  | .announceTimeout _ d port => [(d, 2), (port, 2)]
  | .ptpMessageTx _ d _ => [(d, 2)]
  | .ppsEdge _ p => [(p, 2)]
  | .canFrameReceived _ p _ => [(p, 8)]
  | .canSlotTrigger _ p k => [(p, 8), (k, 64)]
  | .canColumnEnd _ p => [(p, 8)]
  | .canTxComplete _ p n _ _ => [(p, 8), (n, 256)]
  | .canArbitrationLost _ p n => [(p, 8), (n, 256)]
  | .canError _ p _ _ _ => [(p, 8)]
  | .busOn _ p _ => [(p, 8)]
  | .canIntegrationDone _ p => [(p, 8)]
  | .commit _ p tag => [(p, 8), (tag, 256)]
  | .send _ p tag => [(p, 8), (tag, 256)]
  | .cancel _ p tag _ => [(p, 8), (tag, 256)]
  | .serialCharReceived _ n ch _ => [(n, 12), (ch, 256)]
  | .serLine _ n _ => [(n, 12)]
  | .serialEntryDue _ n e => [(n, 12), (e, 8)]
  | .serialSentenceSent _ n => [(n, 12)]
  | .ethFrameReceived _ net _ => [(net, 2)]
  | .ethLinkChange _ net _ speed => [(net, 2), (speed, 3)]
  | .rapRequest _ net src b => [(net, 2), (src, 2 ^ 32)] ++ allBelow b 256
  | .read _ client seq count addr => [(client, 255), (seq, 2 ^ 32), (count, 65536), (addr, 2 ^ 32)]
  | .write _ client seq addr data => [(client, 255), (seq, 2 ^ 32), (addr, 2 ^ 32)] ++ allBelow data (2 ^ 32)
  | .laneRestart _ client seq _ => [(client, 255), (seq, 2 ^ 32)]
  | .safetyChallenge _ client seq => [(client, 255), (seq, 2 ^ 32)]
  | .safetyOpen _ client seq hmac => [(client, 255), (seq, 2 ^ 32)] ++ allBelow hmac 256
  | .lockoutEnd _ => []
  | .safetyClose _ client seq => [(client, 255), (seq, 2 ^ 32)]
  | .sessionIdleEnd _ => []
  | .nonceExpiry _ client => [(client, 255)]
  | .clientEntryExpiry _ client => [(client, 255)]
  | .chartBegin _ client seq sect total digest => [(client, 255), (seq, 2 ^ 32), (sect, 2 ^ 32), (total, 2 ^ 32)] ++ allBelow digest 256
  | .chartData _ client seq ofs b => [(client, 255), (seq, 2 ^ 32), (ofs, 2 ^ 32)] ++ allBelow b 256
  | .chartEnd _ client seq => [(client, 255), (seq, 2 ^ 32)]
  | .chartTransferAbandon _ => []
  | .chartCheckDone _ _ => []
  | .chartCurrent _ => []
  | .serSend _ client seq port text => [(client, 255), (seq, 2 ^ 32), (port, 2 ^ 32)] ++ allBelow text 256
  | .switchover _ tag => [(tag, 256)]
  | .suspendTb _ tag => [(tag, 256)]
  | .resumeTb _ tag => [(tag, 256)]
  | .resync _ tag => [(tag, 256)]
  | .fwBegin _ tag => [(tag, 256)]
  | .redFwDataWrite _ w _ => [(w, 64)]
  | .fwCheck _ tag => [(tag, 256)]
  | .fwActivate _ tag => [(tag, 256)]
  | .safetyInputChange _ _ _ => []
  | .binnacleInputChange _ _ => []
  | .discLatched _ n => [(n, 16)]
  | .binnacleDiscLatch n => [(n, 16)]
  | .runDelayExpiry _ k => [(k, 8)]
  | .feedbackReleasedExpiry _ k => [(k, 8)]
  | .resetRelease _ n _ => [(n, 16)]
  | .fbFault _ k => [(k, 8)]
  | .testPulseStart _ k _ => [(k, 8)]
  | .testPulseEnd _ k _ => [(k, 8)]
  | .binnacleSwitchCheck k _ => [(k, 8)]
  | .testAsStop k => [(k, 8)]
  | .binnacleWrite _ => []
  | .binnacleWriteEnd _ => []
  | .checkWordCompare _ => []
  | .safetyDiffExpiry _ => []
  | .sfTpWrite _ client _ => [(client, 255)]
  | .soOverloadOff k => [(k, 8)]
  | .soOverloadRetry k => [(k, 8)]
  | .sourcePulseTest _ _ => []
  | .recordPost _ _ sev code payload => [(sev, 8), (code, 256)] ++ allBelow payload 256
  | .logDrain _ _ => []
  | .crossRecordReceived _ => []
  | .crossCopyResend _ => []
  | .drainStuck _ => []
  | .logScanDone _ _ => []
  | .logRdSelect _ _ _ => []
  | .hostNote _ tag sev words => [(tag, 256), (sev, 8), (words, 32)]
  | .logLevelWrite _ v => [(v, 8)]
  | .refQualified _ _ _ => []
  | .refLost _ _ _ _ => []
  | .stopWindowEnd _ => []
  | .refRevert _ => []
  | .switchRef _ tag => [(tag, 256)]
  | .clkGateForced _ block => [(block, 32)]
  | .refRelAvailable _ _ => []
  | .supplyFault _ _ _ => []
  | .supplyReturn _ _ => []
  | .thermalSample _ _ _ => []
  | .thresholdCrossing _ _ => []
  | .graceExpiry _ => []
  | .sensorFault _ k => [(k, 12)]
  | .substitutionZone _ k => [(k, 12)]
  | .sensorRecovered _ k => [(k, 12)]
  | .thermRetireWrite _ mask => [(mask, 4096)]
  | .cntClr _ p => [(p, 256)]
  | .absentWrite _ addr => [(addr, 2 ^ 32)]
  | .absentClear _ => []
  | .evtPendClear _ p mask => [(p, 256), (mask, 256)]
  | .evtEnWrite _ p v => [(p, 256), (v, 256)]
  | .evcClear _ _ e => [(e, 256)]
  | .reservedWrite _ addr _ => [(addr, 2 ^ 32)]
  | .registerWrite _ client addr _ => [(client, 255), (addr, 2 ^ 32)]
  | .navigationMessageDecoded _ c _ => [(c, 216)]
  | .codeLock _ c => [(c.chan, 216)]
  | .refQualifying _ _ _ _ => []
  | .cfgBad => []
  | .lubberReassert _ => []
  | .holdStageExpiry => []

/-- A well-formed command. -/
def Instr.wellFormed (i : Instr) : Bool := i.bounds.all fun p => decide (p.1 < p.2)

end Sys2Proof
end

