-- ==== Sys2Proof/Tests/Slice0.lean ====
section
/-! SUPPORT. Tests: well-formedness refuses ill-formed terms; single steps with results taken from the spec; witnesses that the
hypotheses of the statements can be met together, clause by clause. -/

namespace Sys2Proof.Tests

open Sys2Proof Sys2Proof.Machine

set_option Elab.async false

/-- A running lane with some fields set. -/
def ln (r : List (Fld × Nat)) : Lane := ({ boot := { phase := .running } } : Lane).setAll r

/-- A running active lane in mode `m` with some fields set. -/
def act (m : Nat) (r : List (Fld × Nat)) : Lane :=
  ln ((Reg.LANE_STAT_ACTIVE, 1) :: (Reg.RED_ROLE_ROLE, 2) :: (Reg.MODE_CUR_MODE, m) :: r)

/-- The module with these lanes and this interlock. -/
def md (a b : Lane) (k : InterlockSt) : State := { a := a, b := { b with id := .b }, sh := { lock := k }, pending := [] }

/-- The module with lane A as given. -/
def mdA (a : Lane) : State := md a {} {}

/-- An interlock that lane A holds. -/
def heldA : InterlockSt := { grant := .held .a, driveA := true }

/-! ### Witnesses: the interlock -/

theorem wit_CommandQueue : { State.reset with pending := [.grantResolve] }.pending = [Instr.grantResolve] ∧ State.reset.pending = [] := by
  decide +kernel

theorem wit_LaneIsolation : soleLane (.snap .a) = some .a ∧ soleLane (.redFwDataWrite .b 63 0) = some .b ∧ soleLane .grantResolve = none := by
  decide +kernel

/-- The module with its shared section powered by lane A's IO_IN, and this interlock. -/
def lit (k : InterlockSt) : State := md (ln [(Reg.PWR_IN_STATE 1, 2)]) {} k

theorem wit_SharedPower : (lit {}).sharedPower = true ∧ (lit heldA).sh.lock = heldA ∧ (mdA {}).sharedPower = false := by decide +kernel

theorem wit_DriveRequests :
    heldA.drive .a = true ∧ ({} : InterlockSt).drive .a = false ∧ ({} : InterlockSt).grant = .free ∧
    ({ grant := .window .b, driveB := true } : InterlockSt).drive .a = false ∧ heldA.drive .b = false ∧ heldA.grant = .held (LaneId.other .b) ∧
    ({ grant := .deadTime .a } : InterlockSt).drive .a = false ∧ ({ grant := .deadTime .a } : InterlockSt).drive .b = false := by decide +kernel

theorem wit_GrantMoves :
    heldA.grant = .held .a ∧ ({ grant := .window .a, driveA := true } : InterlockSt).drive .a = true ∧
    ({ grant := .deadTime .a, driveB := true } : InterlockSt).drive (LaneId.other .a) = true ∧
    ({ grant := .deadTime .a, driveB := true } : InterlockSt).spent .b = false ∧
    ({ grant := .deadTime .a, driveB := true, spentB := true } : InterlockSt).spent .b = true ∧
    ({ grant := .deadTime .a } : InterlockSt).drive .b = false ∧ ({} : InterlockSt).held = false ∧ heldA.held = true := by decide +kernel

theorem wit_ClaimAndWatchdog :
    ({ armA := true } : InterlockSt).arm .a = true ∧ ({ armA := true } : InterlockSt).grant = .free ∧ ({ armA := true } : InterlockSt).drive .a = false ∧
    ({ armA := true } : InterlockSt).drive .b = false ∧ ({ armA := true } : InterlockSt).inhibit .a = false ∧ heldA.held = true ∧
    ({} : InterlockSt).arm .a = false ∧ ({ driveB := true } : InterlockSt).drive (LaneId.other .a) = true ∧
    ({ inhibitA := true } : InterlockSt).inhibit .a = true ∧ ({ heldA with armB := true }).arm .b = true ∧
    ({ heldA with armB := true }).grant = .held .a := by decide +kernel

theorem wit_InterlockSound :
    LockInv heldA ∧ LockInv { grant := .window .b, driveB := true } ∧ LockInv { grant := .deadTime .a, driveA := true, spentA := true } := by
  refine ⟨⟨?_, ?_, ?_⟩, ⟨?_, ?_, ?_⟩, ?_, ?_, ?_⟩ <;> intro l h <;> cases l <;> revert h <;> decide

theorem wit_InterlockSound_step : step (mdA {}) = .next (mdA {}) := rfl

/-! ### Witnesses: the tick and the modes -/

/-- A transition table with one entry, (4, m): triggered by condition 0, which it also requires; by the host, automatic, or both. -/
def mode4 (m : Nat) (auto host : Bool) : ChartSt :=
  { now := { modes := { table := List.replicate ((4 * 12 + m) * 8) 0 ++ [1, 0, 1, 0, (if auto then 2 else 0) + (if host then 1 else 0), 7, 0, 0] } } }

theorem test_mode_entry : (mode4 5 true false).now.modes.entry 4 5 = ⟨1, 1, 7, true, false⟩ ∧ (mode4 5 true false).now.modes.entry 4 6 = default := by
  decide +kernel

/-- An active lane in mode 4 with a request pending. -/
def reqLane (c : ChartSt) (m : Nat) (r : List (Fld × Nat)) : Lane := { act 4 r with chart := c, tk := { pendMode := some { mode := m, tag := 255 } } }

theorem wit_ModeRequest :
    (act 4 []).active = true ∧ (act 4 []).tk.pendMode = none ∧ (reqLane {} 15 []).active = true ∧
    (reqLane {} 15 []).tk.pendMode = some { mode := 15, tag := 255 } ∧ (ln []).active = false := by decide +kernel

theorem wit_ModeEvaluation :
    (reqLane {} 4 []).active = true ∧ 3 ≤ (reqLane {} 4 []).mode ∧ (reqLane {} 4 []).autoMode = none ∧
    (reqLane {} 11 []).autoMode = none ∧ ((reqLane {} 11 []).chart.now.modes.entry 4 11).host = false ∧ ((reqLane {} 11 []).chart.now.modes.entry 4 11).auto = false ∧
    (reqLane {} 12 []).autoMode = none ∧ (reqLane {} 12 []).mode ≠ 12 ∧
    (reqLane (mode4 5 false true) 5 [(Reg.MODE_COND_COND, 1)]).autoMode = none ∧
    ((mode4 5 false true).now.modes.entry 4 5).host = true ∧ ((mode4 5 true false).now.modes.entry 4 5).auto = true ∧
    (reqLane (mode4 5 false true) 5 [(Reg.MODE_COND_COND, 1)]).coasting = false ∧
    (reqLane (mode4 5 false true) 5 [(Reg.CLK_PLL_STATE, 4)]).coasting = true ∧ (reqLane (mode4 5 false true) 5 [(Reg.CLK_PLL_STATE, 4)]).autoMode = none ∧
    holdsAll ((mode4 5 false true).now.modes.entry 4 5).require ((reqLane (mode4 5 false true) 5 [(Reg.MODE_COND_COND, 1)]).get Reg.MODE_COND_COND) = true ∧
    holdsAll ((mode4 5 false true).now.modes.entry 4 5).require ((reqLane (mode4 5 false true) 5 []).get Reg.MODE_COND_COND) = false ∧
    (reqLane (mode4 5 false true) 5 []).autoMode = none ∧
    (reqLane (mode4 5 true false) 4 [(Reg.MODE_COND_COND, 1)]).autoMode = some 5 ∧ (reqLane (mode4 2 true false) 4 [(Reg.MODE_COND_COND, 1)]).autoMode = some 2 := by
  decide +kernel

theorem wit_ModeEvaluation_lubber :
    let L := reqLane (mode4 2 false true) 2 [(Reg.MODE_COND_COND, 1)]
    L.active = true ∧ L.tk.goLubber = none ∧ L.autoMode = none ∧ ((mode4 2 false true).now.modes.entry 4 2).host = true ∧ L.mode = 4 ∧
    holdsAll ((mode4 2 false true).now.modes.entry 4 2).require (L.get Reg.MODE_COND_COND) = true ∧ L.red.peerAble = false ∧
    ({ L with red := { peerAble := true } } : Lane).red.peerAble = true := by decide +kernel

theorem wit_DeadReckoningExpires :
    (act 11 []).mode = 11 ∧ ({ act 11 [] with ctl := { drTime := 120 } }).kc.drLimit ≤ ({ act 11 [] with ctl := { drTime := 120 } } : Lane).ctl.drTime ∧
    (act 10 []).mode ≠ 11 ∧ ({ act 11 [] with ctl := { drTime := 119 } } : Lane).ctl.drTime < (act 11 []).kc.drLimit := by decide +kernel

/-- An active lane with a valid time of 1 s, at a position-cycle boundary, with these actions queued. -/
def schedLane (q : List SchedAct) (r : List (Fld × Nat)) : Lane :=
  { act 4 ((Reg.CHR_STAT_TIME_VALID, 1) :: r) with tk := { sched := q, posTick := true }, chr := { ns := 2000000000 } }

/-- An action of a register write or a mode request at a time. -/
def sa (m : Bool) (t : Rat) : SchedAct := ⟨t, m, 0, 4, 7⟩

theorem wit_ScheduledActions :
    (schedLane (List.replicate 31 (sa true 0)) []).tk.sched.length < 32 ∧ (schedLane [] [(Reg.SCHED_ADDR_ADDR, 0x4028)]).active = true ∧
    (schedLane [] [(Reg.SCHED_ADDR_ADDR, 0x4028)]).schedAddrOk ((schedLane [] [(Reg.SCHED_ADDR_ADDR, 0x4028)]).get Reg.SCHED_ADDR_ADDR) = true ∧
    (schedLane [] []).timeValid = true ∧
    (schedLane [] [(Reg.SCHED_SEC_LO_SEC, 1)]).now - ((schedLane [] [(Reg.SCHED_SEC_LO_SEC, 1)]).stagedAct true 7).time ≤
      ((schedLane [] [(Reg.SCHED_SEC_LO_SEC, 1)]).get Reg.SCHED_LIMIT_MS : Rat) * 1000000 ∧
    32 ≤ (schedLane (List.replicate 32 (sa true 0)) []).tk.sched.length ∧
    (schedLane [] [(Reg.SCHED_ADDR_ADDR, 0x820)]).schedAddrOk ((schedLane [] [(Reg.SCHED_ADDR_ADDR, 0x820)]).get Reg.SCHED_ADDR_ADDR) = false ∧
    ((schedLane [] []).set Reg.CHR_STAT_TIME_VALID 0).timeValid = false ∧
    ((schedLane [] []).get Reg.SCHED_LIMIT_MS : Rat) * 1000000 < (schedLane [] []).now - ((schedLane [] []).stagedAct true 7).time ∧
    (∀ a ∈ (schedLane [sa true 2000000001] []).tk.sched, (schedLane [] []).now < a.time) ∧
    (sa false 0).mode = false ∧ (sa true 0).mode = true ∧ (schedLane [sa true 2000000000] []).tk.pendMode = none := by decide +kernel

/-- That lane with its latest boundary before this one known. -/
def boundLane (p : Rat) (a : SchedAct) : Lane := (schedLane [a] []).onTk fun k => { k with prevBound := some p }

theorem wit_ScheduledActions_due :
    (boundLane 1990000000 (sa true 1990000001)).tk.posTick = true ∧ (boundLane 1990000000 (sa true 1990000001)).tk.sched = [sa true 1990000001] ∧
    (1990000001 : Rat) ≤ (boundLane 1990000000 (sa true 1990000001)).now ∧
    (boundLane 1990000000 (sa true 1990000001)).tk.prevBound = some 1990000000 ∧ (1990000000 : Rat) < (sa true 1990000001).time ∧
    (sa true 1990000000).time ≤ (1990000000 : Rat) ∧
    (boundLane 1990000000 (sa true 1000000000)).now - (sa true 1000000000).time ≤
      ((boundLane 1990000000 (sa true 1000000000)).get Reg.SCHED_LIMIT_MS : Rat) * 1000000 ∧
    ((boundLane 1990000000 (sa true 999999999)).get Reg.SCHED_LIMIT_MS : Rat) * 1000000 <
      (boundLane 1990000000 (sa true 999999999)).now - (sa true 999999999).time ∧ (schedLane [sa true 0] []).tk.prevBound = none := by decide +kernel

theorem wit_TickGrid :
    (ln []).tk.count = 0 ∧ ({ ln [] with tk := { count := 1 } } : Lane).tk.count ≠ 0 ∧
    ({ ln [] with tk := { count := 1, realigning := true, realign := 50000 } } : Lane).tk.realign ≤ 50000 ∧
    50000 < ({ ln [] with tk := { count := 1, realigning := true, realign := 50001 } } : Lane).tk.realign ∧
    (ln [(Reg.CLK_PLL_STATE, 4)]).coasting = true := by decide +kernel

theorem wit_TickStart :
    ({} : Lane).running = false ∧ (ln []).running = true ∧ (ln []).rap.restart = false ∧
    ({ ln [] with rap := { restart := true } } : Lane).rap.restart = true ∧ (ln []).tickClock.1.coasting = false := by decide +kernel

/-- What a tick brings: nothing. -/
def noIn : TickIn := ⟨[], [], [], [], false, false, 0, 0, 0, 0⟩

theorem wit_TickStart_role :
    ((ln [(Reg.RED_ROLE_ROLE, 5)]).tickClock.1.tickInfra noIn).role = 5 ∧ ((ln [(Reg.RED_ROLE_ROLE, 3)]).tickClock.1.tickInfra noIn).role = 3 := by
  decide +kernel

theorem wit_CommitEndsTick :
    ({ ln [] with tk := { inTick := true } } : Lane).running = true ∧ ({ ln [] with tk := { inTick := true } } : Lane).tk.inTick = true ∧
    (ln []).tk.inTick = false := by decide +kernel

theorem wit_FrameFault :
    (ln []).tk.schedWrote = [] ∧ hostMask 0x4028 ≠ 0 ∧
    2 ≤ (ln [(Reg.FRAME_CNT_CONSEC, 2)]).get Reg.FRAME_CNT_CONSEC ∧ (ln [(Reg.FRAME_CNT_CONSEC, 2)]).tk.escalated = false ∧
    hostMask 0x200C = 0 ∧ workReg 0x200C = true ∧ workReg 0x10020 = false := by decide +kernel

theorem wit_EnginesAndMemory :
    (ln [(Reg.LANE_ENG_HEALTHY_w, 32)]).engOk 5 = true ∧ ({ ln [] with tk := { inTick := true } } : Lane).tk.inTick = true ∧
    ({ ln [] with work := some default } : Lane).work = some default ∧ mramPart (8 * 0x700000) = .snapshot ∧
    mramPart (8 * 0x400000) = .chart (ln []).chart.cur ∧ ({ ln [] with tk := { realigning := true } } : Lane).tk.realigning = true ∧
    ({ ln [] with tk := { realigning := true } } : Lane).tk.realign = 0 := by decide +kernel

/-! ### Witnesses: the intake -/

/-- A slot entry. -/
def slotC (m : TimeMode) (f : PosForm) : SlotEntry := { source := 0, group := some 1, mode := some m, sigma := some 1, form := f }

/-- That entry with the defaults of a position slot. -/
def slotD (m : TimeMode) (f : PosForm) : SlotChart := (slotC m f).resolve {} 0

/-- 03 R114: what a Chart leaves out has the default of the slot's kind. -/
theorem test_slot_defaults :
    (slotD .arrival .laser).gate = 69 / 5 ∧ ((slotC .arrival .absolute).resolve {} 12).gate = 54 / 5 ∧
    ((slotC .arrival .absolute).resolve {} 20).admitTime = 10 ∧ (slotD .arrival .laser).admitTime = 30 := by decide +kernel

/-- A lane at 2 s with slot 0 configured and in a state. -/
def slotLane (c : Option SlotEntry) (x : SlotSt) : Lane :=
  { act 4 [(Reg.CHR_STAT_TIME_VALID, 1)] with
    chart := { now := { refs := { slots := [c] } } }, ntk := { slots := x :: List.replicate 29 {} }, chr := { ns := 2000000000 } }

theorem wit_TimeModels :
    (slotLane (some (slotC .sensor .absolute)) { tm := { resid := [(0, 4)] } }).rc.slot 0 = some (slotD .sensor .absolute) ∧
    (slotLane (some (slotC .sensor .absolute)) { tm := { resid := [(0, 4)] } }).timeValid = true ∧
    ((slotLane (some (slotC .sensor .absolute)) { tm := { resid := [(0, 4)] } }).slotSt 0).tm.resid = [(0, 4)] ∧
    ((slotLane none { tm := { updates := 8 } }).slotSt 0).tm.learning = true ∧ 8 ≤ ((slotLane none { tm := { updates := 8 } }).slotSt 0).tm.updates ∧
    ((slotLane none { tm := { updates := 7 } }).slotSt 0).tm.updates < 8 ∧
    ((slotLane none { tm := { learning := false, above := 8 } }).slotSt 0).tm.degraded = false ∧
    8 ≤ ((slotLane none { tm := { learning := false, above := 8 } }).slotSt 0).tm.above ∧
    8 ≤ ((slotLane none { tm := { degraded := true, within := 8 } }).slotSt 0).tm.within ∧
    (slotD .arrival .absolute).mode ≠ .sensor ∧ (0 : Nat) ≤ 0 + 1000 ∧ (∀ r ∈ ([] : List (Nat × Rat)), r.1 + 1000 < 0) ∧ (slotLane none {}).rc.slot 0 = none ∧ (slotLane none {}).rc.slot 29 = none := by decide +kernel

theorem wit_ReferenceSlots :
    (slotLane (some (slotC .arrival .absolute)) { st := .rejected, passes := 3 }).admissionDone 0 = true ∧
    (slotLane (some (slotC .arrival .absolute)) { st := .admitting, passes := 2 }).admissionDone 0 = false ∧
    ((slotLane (some (slotC .arrival .absolute)) { st := .suspect, fails := 5 }).slotSt 0).st = .suspect ∧
    (slotD .arrival .absolute).rejectCnt ≤ ((slotLane none { st := .suspect, fails := 5 }).slotSt 0).fails ∧
    ((slotD .arrival .absolute).timeout : Rat) * 1000000 ≤ (slotLane none { st := .admitted, lastValid := some 0 }).now - 0 ∧
    ((slotLane none { st := .admitted, lastValid := some 0 }).slotSt 0).lastValid = some 0 ∧
    (slotLane none {}).now - 1 < ((slotD .arrival .absolute).timeout : Rat) * 1000000 ∧
    1000 ≤ ({ rampTicks := 1000, ramp := 100 } : SlotSt).rampTicks ∧ ({ rampTicks := 1000, ramp := 100 } : SlotSt).ramp ≠ 1 ∧
    5 ≤ ({ run := 5 } : TwoGroup).run ∧ ({ run := 4 } : TwoGroup).run < 5 ∧ 0 < (slotLane (some (slotC .arrival .laser)) {}).ntk.slots.length ∧
    (slotLane (some (slotC .arrival .laser)) {}).rc.slot 0 ≠ none ∧ (slotD .arrival .laser).form ≠ .absolute ∧ (slotD .arrival .laser).origin = none ∧
    SlotState.waiting ∈ [SlotState.waiting, .rejected, .deselected] ∧ SlotState.admitted ∈ [SlotState.admitted, .suspect, .admitting] := by decide +kernel

/-! ### Witnesses: channels -/

/-- A channel entry. -/
def chanE : ChanEntry :=
  { ty := some .azimuth, nMax := some 100, nMin := some (-100), rateUp := some 1, rateDown := some 2, bus := some 0, cmdPath := some 0, fbPath := some 0 }

/-- The entry in force. -/
def chanC : ChanChart := chanE.resolve

/-- 06 R222: FE_DEM 10 % and TRACK_MARGIN 2 % of N_ABS, RATE_FAST ten times RATE_DOWN, where the Chart leaves them out. -/
theorem test_channel_defaults : chanC.feDem = 10 ∧ chanC.trackMargin = 2 ∧ chanC.rateFast = 20 := by decide +kernel

/-- An active lane in mode 5 with channel 0 configured and in a state. -/
def chLane (x : ChanSt) (r : List (Fld × Nat)) : Lane :=
  { act 5 r with chart := { now := { alloc := { chans := [some chanE], buses := [{ pAv := some (.ana { input := 0 }) }] } } },
                 alc := { chans := x :: List.replicate 15 {} } }

theorem wit_AllocationSupervision :
    ({ act 5 [] with alc := { ncPend := true } } : Lane).alc.ncPend = true ∧ 10 ≤ (act 5 [(Reg.ALLOC_NC_CONSEC, 10)]).get Reg.ALLOC_NC_CONSEC ∧
    (act 5 []).alc.ncRaised = false ∧ (chLane {} []).pmLate 0 = true ∧ ((chLane {} []).bus 0).stale = false ∧
    ({ lrRaw := true } : BusSt).lrRaw = true ∧ ({ lrRaw := true } : BusSt).loadRed = false := by decide +kernel

theorem wit_ChannelReadiness :
    (chLane { st := .notReady, readyRun := 100 } []).mode ≠ 2 ∧ ((chLane { st := .notReady, readyRun := 100 } []).ch 0).stepped = false ∧
    ((chLane { st := .notReady, readyRun := 100 } []).ch 0).st = .notReady ∧
    100 ≤ ((chLane { st := .notReady, readyRun := 100 } []).ch 0).readyRun ∧ ((chLane { st := .draining, badRun := 10 } []).ch 0).st.delivers = true ∧
    10 ≤ ((chLane { st := .draining, badRun := 10 } []).ch 0).badRun ∧ (chLane { st := .draining, badRun := 10 } []).followDue 0 = none ∧
    (chLane { st := .draining, badRun := 10 } []).graceDue 0 = false := by decide +kernel

theorem wit_ChannelFaults :
    (chLane { st := .online } []).chCfg 0 = some chanC ∧ (chLane { st := .online } []).chStopped chanC = false ∧
    ChState.online.delivers = true ∧ chanC.feTime * 1000 ≤ ((5000 : Nat) : Rat) ∧ ((4999 : Nat) : Rat) < chanC.feTime * 1000 ∧
    ((chLane { st := .online, loop := { feDem := 5000 } } []).ch 0).loop.feDem = 5000 ∧
    ((chLane { st := .online, loop := { feDem := 4999, feAng := 5000 } } []).ch 0).loop.feAng = 5000 ∧
    ((chLane { st := .online, fbLost := 5000 } []).ch 0).fbValid = false ∧ chanC.fbGrace * 1000 ≤ ((5000 : Nat) : Rat) ∧ chanC.fbKeep = false := by
  decide +kernel

theorem wit_ChannelCommands :
    pagePresent .kx922 (0x20 + 8) = false ∧ pagePresent (chLane {} []).variant (0x20 + 0) = true ∧
    (chLane {} []).active = true ∧ (chLane {} []).chCfg 0 ≠ none ∧ (chLane {} []).chCfg 1 = none ∧ (ln []).active = false ∧
    ((chLane {} []).ch 0).leverOk = false ∧ ((chLane {} []).ch 0).leverStale = false ∧
    ((chLane { leverOk := true, leverAngOk := false } []).ch 0).leverAngOk = false ∧ ((chLane {} []).ch 0).leverAngStale = false ∧
    ((chLane { loop := { limited := true, limCnt := 500 } } []).ch 0).loop.limited = true ∧
    (chLane {} []).ac.limitHold ≤ ((chLane { loop := { limited := true, limCnt := 500 } } []).ch 0).loop.limCnt := by decide +kernel

theorem wit_ChannelMigration :
    (chLane { st := .online, migr := some 1 } []).orphans = [0] ∧
    (let L := chLane { migr := some 3 } []
     (L.chList.filter fun n => decide ((L.ch n).migr = some 3)) = [0]) := by decide +kernel

/-! ### Witnesses: Plotter and control -/

/-- An active lane with track 0 configured and in a state. -/
def trkLane (m : Nat) (x : TrackSt) : Lane :=
  { act m [] with chart := { now := { targets := { tracks := [some { feed := 0 }] } } }, plt := { tracks := x :: List.replicate 15 {} } }

/-- A KX922's lane. -/
def lane922 : Lane := { act 4 [] with variant := .kx922 }

theorem wit_TargetsAndEstimate :
    (trkLane 5 {}).trkCfg 0 = some { feed := 0 } ∧ ((trkLane 5 { idle := 5000000000, st := 2 }).trk 0).idle = 5000000000 ∧
    (({ feed := 0 } : TrackChart).coast * 1000000000 ≤ 5000000000) ∧ (({ feed := 0 } : TrackChart).lost * 1000000000 ≤ 30000000000) ∧
    3 ∈ [1, 2, 3] ∧ (4999999999 < ({ feed := 0 } : TrackChart).coast * 1000000000) ∧ (29999999999 < ({ feed := 0 } : TrackChart).lost * 1000000000) ∧
    (trkLane 10 {}).mode = 10 ∧ (trkLane 5 {}).trkCfg 30 = none ∧ (trkLane 9 {}).mode ≠ 10 ∧ (trkLane 9 {}).trkCfg 0 ≠ none ∧
    lane922.variant = .kx922 ∧ lane922.trkCfg 15 = none ∧ (trkLane 9 {}).variant ≠ .kx922 ∧
    (({ st := 1, envTime := 120 } : PlotSt).st = 1) ∧ ((act 5 []).vc.envSettle ≤ ({ st := 1, envTime := 120 } : PlotSt).envTime) ∧
    (({ st := 1, envTime := 119 } : PlotSt).envTime < (act 5 []).vc.envSettle) ∧ (3 ≤ (act 3 []).mode) ∧ (act 6 []).mode ≤ 6 ∧ 6 < (act 7 []).mode ∧
    (act 2 []).mode < 3 ∧ ({ rerun := some { x := [], p := [], pT := 0, next := 0, live := true } } : PlotSt).rerun = some { x := [], p := [], pT := 0, next := 0, live := true } ∧
    ({ x := [], p := [], pT := 0, next := 0 } : Rerun).live = false := by decide +kernel

theorem wit_SetPoints :
    (act 4 []).active = true ∧ (act 4 []).ctl.pend = none ∧ ({ act 4 [] with ctl := { pend := some ⟨9, 255, 3⟩ } } : Lane).ctl.pend = some ⟨9, 255, 3⟩ ∧
    ({ act 4 [] with ctl := { pend := some ⟨9, 255, 3⟩ } } : Lane).active = true ∧ (ln []).active = false := by decide +kernel

theorem wit_ControlInputs :
    (act 5 []).active = true ∧ (act 5 []).kc.joySrc = none ∧ (ln []).active = false ∧ ({} : CtlSt).joyGiven = false ∧
    (((act 5 []).kc.joyTimeout : Rat) * 1000000 < ({ joyAge := 200000001 } : CtlSt).joyAge) ∧ ({} : CtlSt).joyStale = false ∧
    (act 5 [(Reg.CTRL_STAT_BLENDING, 1)]).flag Reg.CTRL_STAT_BLENDING = true ∧ ({} : CtlSt).rx.left = 0 ∧
    ({ hold := true, okRun := 3 } : PlausGrp).hold = true ∧ (act 5 []).kc.plausOk ≤ ({ hold := true, okRun := 3 } : PlausGrp).okRun ∧
    (act 5 []).kc.plausHold ≤ ({ hold := true, time := 10 } : PlausGrp).time ∧ ({ hold := true, time := 10 } : PlausGrp).okRun < (act 5 []).kc.plausOk ∧
    ({} : PlausGrp).hold = false := by decide +kernel

/-! ### Witnesses: Sextant -/

/-- A running lane of a KX960 with this Sextant. -/
def sxLane (x : SextantSt) (r : List (Fld × Nat)) : Lane := { ln r with sx := x }

/-- GPS satellite 1, Galileo satellite 2. -/
def g1 : Sat := ⟨.gps, 1⟩
def e2 : Sat := ⟨.gal, 2⟩

/-- Correlator sums of an update with this prompt and these very-early and very-late taps. -/
def tapsV (p ve vl : Rat) : Taps := ⟨p, 0, 0, 0, ve, vl, 0, 0⟩

/-- A capture of channel 0. -/
def cap0 : StrobeCap := ⟨0, [tapsV 2 1 1], 1 / 1000, 0, 0, 45, 30, (0, 0, 0)⟩

theorem wit_SextantEpochs :
    (sxLane {} []).sxOn = false ∧ (sxLane { run := true } []).sx.strobeDue = false ∧ (sxLane { run := true, strobeDue := true } []).sxOn = true ∧
    (sxLane { run := true, strobeDue := true } []).sx.pendCmd = none ∧ (sxLane { run := true, strobeDue := true, pendCmd := some 2 } []).sx.pendCmd = some 2 ∧
    (sxLane { run := true, strobeDue := true, pendCmd := some 3, att := 2 } []).sx.att ≠ 0 ∧
    [cap0].find? (fun k => decide (k.chan = cap0.chan)) = some cap0 ∧ ({ st := .codeLock } : SxChan).locked = true ∧
    (sxLane { withheld := true } []).sx.withheld = true ∧ (sxLane { open_ := true, strobeDue := true } []).sx.open_ = true ∧
    (sxLane { run := true, open_ := true } []).sxOn = true ∧ (sxLane { att := 1, run12 := 3, run13 := 3 } []).sx.att = 1 ∧
    3 ≤ (sxLane { att := 1, run12 := 3, run13 := 3 } []).sx.run13 ∧ (sxLane { att := 1, run12 := 2, run13 := 3 } []).sx.run12 < 3 ∧
    (sxLane { att := 2, bad13 := 3 } []).sx.att = 2 ∧ 3 ≤ (sxLane { att := 2, bad13 := 3 } []).sx.bad13 := by decide +kernel

/-- A Sextant whose channel 0 is as given, searching for `g1` with `n` passes left, a pass having run its time. -/
def sxc0 (x : SxChan) (n : Nat) : SextantSt :=
  { run := true, search := some (g1, n, false), passNs := (gridOf .gps).passNs, chans := x :: List.replicate 215 {},
    sats := [{ sat := e2, research := true, researchNs := 10000000000, singleBand := true, singleNs := 60000000000 }] }

theorem wit_SextantTracking_acquisition :
    (sxLane (sxc0 {} 2) []).sxOn = true ∧ (sxLane (sxc0 {} 2) []).bankPaused = false ∧ (sxLane {} [(Reg.PWR_STAT_ENFORCE, 1)]).bankPaused = true ∧
    (sxLane (sxc0 {} 2) []).sx.search = some (g1, 2, false) ∧ 1 < 2 ∧ (sxLane (sxc0 {} 1) []).sx.search = some (g1, 1, false) ∧
    (sxLane {} []).sx.passNs < (gridOf .gps).passNs ∧ (gridOf .gps).detects ⟨2048, 0, 1, 1⟩ = false ∧
    (sxLane (sxc0 {} 1) []).freeChan (sxLane (sxc0 {} 1) []).searchAnt false 0 = some 0 ∧ (∀ y ∈ (sxLane (sxc0 {} 1) []).sx.chans, y.sat ≠ some g1) ∧
    ((sxLane (sxc0 {} 1) []).sxc 0).st = .idle ∧ (sxLane (sxc0 {} 1) []).xc.enabled g1.sys = true ∧ g1.trackable = true ∧
    0 < (sxLane (sxc0 {} 1) []).sx.chans.length := by decide +kernel

/-- The strongest bin of a pass that a bin's power reaches, whatever the threshold. -/
theorem wit_SextantTracking_detects :
    (gridOf .gps).detects ⟨0, 0, Config.acqThreshold ((gridOf .gps).codes * (gridOf .gps).dops) (gridOf .gps).sums + 1, 1⟩ = true := by
  simp only [Grid.detects, Bool.and_eq_true, decide_eq_true_eq]
  exact ⟨⟨by decide, by decide⟩, by linarith⟩

/-- Twenty updates on a side peak, and one that is on none, whatever the prompt. -/
theorem wit_SextantTracking_sidePeak :
    (List.replicate 20 (tapsV 1 ((tapsV 1 0 0).p + 1) 0)).all Taps.sidePeak = true ∧
    [tapsV 1 (tapsV 1 0 0).p (tapsV 1 0 0).p].all Taps.sidePeak = false := by
  constructor <;> simp [Taps.sidePeak, Taps.p, tapsV]

theorem wit_SextantTracking :
    ((sxLane (sxc0 { st := .pullIn, sat := some e2, lower := true, pullNs := 1000000000 } 1) []).sxc 0).st = .pullIn ∧
    1000000000 ≤ ((sxLane (sxc0 { st := .pullIn, sat := some e2, lower := true, pullNs := 1000000000 } 1) []).sxc 0).pullNs ∧
    ((sxLane (sxc0 { st := .pullIn, pullNs := 999999999 } 1) []).sxc 0).pullNs < 1000000000 ∧
    ((sxLane (sxc0 { st := .pullIn, sat := some e2, lower := true } 1) []).sxc 0).lower = true ∧ ((sxLane (sxc0 {} 1) []).sxc 0).st ≠ .pullIn ∧
    ({ st := .pullIn, placed := true } : SxChan).placed = true ∧ absQ (-3) ≤ 3 ∧ (3 : Rat) < absQ (-4) ∧ ({ st := .pullIn } : SxChan).placed = false ∧
    ((sxLane (sxc0 { st := .codeLock } 1) []).sxc 0).st = .codeLock ∧ ((sxLane (sxc0 { st := .phaseLock } 1) []).sxc 0).st = .phaseLock ∧
    (8 / 10 : Rat) ≤ 8 / 10 ∧ (59 / 100 : Rat) < 6 / 10 ∧ (24 : Rat) < (sxLane {} []).xc.cn0Track ∧ ((sxLane {} []).xc.cn0Track : Rat) ≤ 25 ∧
    ({ st := .codeLock, sat := some e2 } : SxChan).locked = true ∧ ({ st := .pullIn } : SxChan).locked = false ∧
    ((sxLane (sxc0 {} 1) []).satData e2).any SatData.research = true ∧ ((sxLane (sxc0 {} 1) []).satData g1) = none ∧
    (sxLane (sxc0 {} 1) []).satData e2 = some { sat := e2, research := true, researchNs := 10000000000, singleBand := true, singleNs := 60000000000 } ∧
    e2.sys ≠ .gps ∧ (List.replicate 20 (tapsV 1 2 3)).getLast? = some (tapsV 1 2 3) ∧ [tapsV 2 1 1].length ≠ 20 ∧
    (⟨true, false, true, true, none, [], true, none, none⟩ : NavMsg).utc = none ∧ (⟨true, false, true, true, none, [], true, none, none⟩ : NavMsg).almanacs = [] := by
  decide +kernel

theorem wit_SextantInputs_data :
    let s := md (sxLane { run := true } []) (sxLane { run := true, posKnown := true } []) {}
    (s.lane .a).sxOn = true ∧ (s.lane .b).sxOn = true ∧ (s.lane .a).sx.askAge ≤ 200 ∧ (s.lane .a).flag Reg.SX_STAT_LANE_DATA = false ∧
    (s.lane .b).sx.posKnown = true ∧ ((mdA {}).lane .b).sxOn = false := by decide +kernel

theorem wit_SextantInputs :
    200 < (sxLane { askAge := 201 } []).sx.askAge ∧ (sxLane {} []).variant = .kx960 ∧
    (mdA (ln [])).biasOn 0 = true ∧ (mdA (ln [])).biasOn 2 = true ∧
    (sxLane { gain := [some 600] } []).sx.gain.getD 0 none = some 600 ∧
    4 ≤ (sxLane { chans := List.replicate 72 {} ++ [1, 2, 3, 4].map (fun n => { st := .codeLock, sat := some ⟨.gps, n⟩ }) } []).trackedOn 1 ∧
    10000000000 ≤ (sxLane { noSignal := [10000000000, 0, 0] } []).sx.noSignal.getD 0 0 ∧ (sxLane {} []).flag (Reg.ANT_STAT_NO_SIGNAL 1) = false ∧
    (sxLane { delayNew := [false, false, true] } []).sx.delayNew.getD 2 false = true ∧ ({ variant := .kx922 } : Lane).variant ≠ .kx960 ∧
    (slotLane (some { slotC .arrival .absolute with source := 1 }) { st := .suspect }).sxInUse = true ∧
    (slotLane (some { slotC .arrival .absolute with source := 1 }) { st := .suspect }).active = true ∧
    (sxLane {} []).attConfigured = false ∧ (sxLane {} []).active = false ∧ (act 4 []).sxInUse = false ∧
    ({ chart := { now := { sx := { b12 := some (1, 0, 0), b13 := some (0, 1, 0) } } } } : Lane).attConfigured = true := by decide +kernel

/-! ### Witnesses: the analogue chain -/

/-- A lane with the ADC running and input 0 in a state. -/
def aiLane (x : AiSt) (r : List (Fld × Nat)) : Lane := { act 4 r with ana := { ins := x :: List.replicate 31 {}, run := true } }

theorem wit_AnalogInputs :
    (aiLane {} []).get (Reg.AI_CFG_MODE 0) = 0 ∧ (ln []).ana.run = false ∧ (aiLane { st := .valid } [(Reg.AI_CFG_MODE 0, 1)]).get (Reg.AI_CFG_MODE 0) = 1 ∧
    (aiLane { st := .valid, coarse := 2 } [(Reg.AI_CFG_MODE 0, 2)]).get (Reg.AI_CFG_MODE 0) = 2 ∧ ((aiLane { st := .valid, coarse := 2 } []).ai 0).st ≠ .off ∧
    (aiLane { st := .valid } [(Reg.AI_CFG_MODE 0, 1)]).ana.run = true ∧ (aiLane {} []).flag (Reg.AI_CFG_DCB_EN 0) = false ∧
    ((aiLane { st := .valid, above := ⟨false, 8⟩ } []).ai 0).above.on = false ∧ 8 ≤ ((aiLane { st := .valid, above := ⟨false, 8⟩ } []).ai 0).above.cnt ∧
    (aiLane { st := .valid, term := { openWire := true } } [(Reg.AI_CFG_MODE 0, 1)]).termBad 0 = true ∧
    (aiLane { above := ⟨true, 7⟩ } [(Reg.AI_CFG_MODE 0, 1)]).termBad 0 = false ∧
    ((aiLane { st := .fault, above := ⟨true, 8⟩ } []).ai 0).st = .fault ∧ 8 ≤ ((aiLane { st := .fault, above := ⟨true, 8⟩ } []).ai 0).above.cnt ∧
    ((aiLane { st := .fault, above := ⟨true, 7⟩ } []).ai 0).above.cnt < 8 ∧ 8 ≤ ({ step := ⟨false, 8⟩ } : AiSt).step.cnt ∧
    (aiLane { diffOver := 3 } []).bit Reg.AI_DIFF_MASK 0 = false ∧ 3 ≤ ((aiLane { diffOver := 3 } []).ai 0).diffOver ∧
    (aiLane { diffIn := 3 } [(Reg.AI_DIFF_MASK, 1)]).bit Reg.AI_DIFF_MASK 0 = true ∧ 3 ≤ ((aiLane { diffIn := 3 } []).ai 0).diffIn := by decide +kernel

theorem wit_AnalogWrites :
    (ln []).active = false ∧ (aiLane {} []).active = true ∧ (aiLane {} []).aiInUse 0 = false ∧
    ({ act 5 [] with chart := { now := { ctl := { joySrc := some ({ input := 0 }, { input := 1 }, { input := 2 }) } } } } : Lane).aiInUse 0 = true ∧
    (aiLane { st := .valid } [(Reg.AI_CFG_MODE 0, 1)]).get (Reg.AI_CFG_MODE 0) ≠ 0 ∧ 0 < (aiLane {} []).ana.ins.length ∧
    (act 4 [(Reg.AO_CFG_SOURCE 15, 3)]).get (Reg.AO_CFG_SOURCE 15) = 3 ∧ (act 4 []).get (Reg.AO_CFG_SOURCE 15) ≠ 3 ∧
    (act 4 []).flag (Reg.AO_CFG_FAULT 0) = false ∧ 20 ≤ (({ act 4 [] with ana := { outs := [{ out := 20 }] } } : Lane).ao 0).out ∧
    (act 4 [(Reg.AO_CFG_FAULT 0, 1)]).flag (Reg.AO_CFG_FAULT 0) = true ∧
    20 ≤ (({ act 4 [(Reg.AO_CFG_FAULT 0, 1)] with ana := { outs := [{ back := 20 }] } } : Lane).ao 0).back := by decide +kernel

theorem wit_FieldTerminals :
    (mdA {}).driver = none ∧ (md (aiLane { st := .valid } [(Reg.AI_CFG_MODE 0, 1), (Reg.TICK_CNT_COUNT, 1007)]) {} heldA).driver = some .a ∧
    (aiLane { st := .valid } [(Reg.AI_CFG_MODE 0, 1), (Reg.TICK_CNT_COUNT, 1007)]).coasting = false ∧
    (aiLane { st := .valid } [(Reg.AI_CFG_MODE 0, 1), (Reg.TICK_CNT_COUNT, 1007)]).get Reg.TICK_CNT_COUNT % 1000 = 30 * 0 + 7 ∧
    (aiLane { st := .valid } [(Reg.AI_CFG_MODE 0, 2)]).get (Reg.AI_CFG_MODE 0) = 2 ∧ ((aiLane { st := .valid } []).ai 0).st ≠ .off := by decide +kernel

/-! ### Witnesses: chronometer -/

/-- A lane with this chronometer. -/
def chrLane (c : ChronSt) (r : List (Fld × Nat)) : Lane := { ln r with chr := c }

theorem wit_TimeSources :
    (ln [(Reg.CHR_SYNC_STATE, 5)]).servo = 5 ∧ (ln [(Reg.CHR_SRC_DIS_MASK, 1)]).srcAbsent 1 = true ∧ (ln []).srcAbsent 1 = false ∧ (100 : Rat) < 101 ∧
    (let L := chrLane {} [(Reg.CHR_SRC_STAT_STATE 1, 1)]
     L.servo = 0 ∧ L.selected = 0 ∧ L.srcAbsent 1 = false ∧ L.chr.src 1 = {} ∧ L.srcState 1 = 1 ∧ 2 ≤ L.cc.qualN ∧
     L.get (Reg.CHR_SRC_STAT_QUAL 1) = 0 ∧ L.chr.stepNext = none) ∧
    (let L := chrLane ({ gnss := { prev := some (0, 0, 0, 0) } }) [(Reg.CHR_SYNC_STATE, 3), (Reg.CHR_SYNC_SRC, 1), (Reg.CHR_SRC_STAT_STATE 1, 3)]
     L.servo = 3 ∧ L.selected = 1 ∧ L.srcAbsent 1 = false ∧ L.srcState 1 = 3 ∧ absQ 10000 < 1000000 ∧ L.deviation 1 10000 1000000000 = some 10000 ∧
     10000 ≤ L.cc.gate ∧ (L.chr.src 1).prev = some (0, 0, 0, 0) ∧ L.chr.stepNext = none) ∧
    (let L := ln [(Reg.CHR_SRC_STAT_STATE 4, 2), (Reg.CHR_SRC_STAT_AGE 4, 20)]
     L.srcState 4 = 2 ∧ L.cc.loss 4 ≤ 1000000 * (L.get (Reg.CHR_SRC_STAT_AGE 4) : Rat) ∧ L.selected ≠ 4) ∧
    (let L := { act 4 [(Reg.CHR_SRC_STAT_STATE 1, 3), (Reg.CHR_SYNC_SRC, 2)] with
       chr := { ns := 60000000000, gnss := { qualSince := some 0 }, lastSel := 2 } }
     (L.chr.src 1).qualSince = some 0 ∧ L.srcState 1 = 3 ∧ L.selected ≠ 0 ∧ L.active = true ∧ L.cc.rank 1 < L.cc.rank L.selected ∧
     0 + L.cc.revertHold ≤ L.now ∧ L.chr.lastSel = L.selected) ∧
    (act 4 []).active = true ∧ (ln []).active = false := by decide +kernel

theorem wit_TimeSetting :
    (let L := chrLane { pend := some ⟨-2000000000, 1⟩, ns := 1500000000 } []
     L.chr.pend = some ⟨-2000000000, 1⟩ ∧ L.chr.lastStep = none ∧ L.coasting = false ∧ absQ (-2000000000) < 2 ^ 30 * 1000000000) ∧
    (act 4 []).chr.pend = none ∧ (act 4 []).active = true ∧
    (let L := chrLane { hold := some ⟨0, 10001, 0, none, false⟩ } [(Reg.CHR_SYNC_STATE, 4), (Reg.CHR_STAT_HOLD_OK, 1)]
     L.chr.hold = some ⟨0, 10001, 0, none, false⟩ ∧ L.servo = 4 ∧ L.cc.holdLimit < L.holdEst ⟨0, 10001, 0, none, false⟩ ∧ L.flag Reg.CHR_STAT_HOLD_OK = true) ∧
    (let L := chrLane { leap := some ⟨true, 1, false⟩, ns := 1000000000 } [(Reg.CHR_UTC_OFS, 254)]
     L.chr.leap = some ⟨true, 1, false⟩ ∧ 1 ≤ secOf L.now ∧ 0 < L.get Reg.CHR_UTC_OFS ∧ L.get Reg.CHR_UTC_OFS < 255 ∧ secOf (chrLane {} []).now < 1) ∧
    (let L := act 4 [(Reg.CHR_SYNC_STATE, 6)]
     L.active = true ∧ (L.srcState 1 ≠ 3 ∧ L.srcState 2 ≠ 3 ∧ L.srcState 3 ≠ 3 ∧ L.srcState 4 ≠ 3) ∧ L.servo = 6) ∧
    (act 4 [(Reg.CHR_SRC_STAT_STATE 4, 3)]).srcState 4 = 3 ∧ (act 4 [(Reg.CHR_SYNC_STATE, 5)]).servo ∈ [2, 3, 5] ∧
    (let L := { act 4 [(Reg.CHR_SYNC_STATE, 4)] with chr := { ns := 1000000 } }
     L.servo = 4 ∧ 1000000 ≤ absQ (L.now - (1000000000 * ((L.get Reg.CHR_ARG_SEC_LO_SEC + 2 ^ 32 * L.get Reg.CHR_ARG_SEC_HI_SEC : Nat) : Rat) + (L.get Reg.CHR_ARG_NS_NS : Rat)))) ∧
    (let L := chrLane { setSlew := some 5, s := 200000, slewInt := 5 } []
     L.chr.setSlew = some 5 ∧ 0 ≤ L.chr.s ∧ 5 ≤ L.chr.slewAt L.now) ∧ (ln []).chr.setSlew = none ∧ (ln []).active = false := by decide +kernel

theorem wit_PtpAndPps :
    ((ln []).cc.dom 1).enable = false ∧ (ln [(Reg.CLK_PLL_STATE, 4)]).coasting = true ∧ ((ln []).cc.dom 0).enable = true ∧ (ln []).coasting = false ∧
    (act 4 []).active = true ∧ (ln []).active = false ∧ (ln [(Reg.PPS_CFG_MODE 0, 1), (Reg.CHR_STAT_TIME_VALID, 1)]).ppsMay 0 = true ∧
    ((ln [(Reg.PPS_CFG_MODE 0, 1), (Reg.CHR_STAT_TIME_VALID, 1)]).chr.pps0).newAt = none ∧ (ln [(Reg.PPS_CFG_MODE 1, 0)]).ppsMay 1 = false := by
  decide +kernel

/-! ### Witnesses: CAN -/

/-- A lane with port 0 as given. -/
def canLane (c : CanPort) (r : List (Fld × Nat)) : Lane :=
  { act 4 r with can := { ports := c :: List.replicate 7 {} }, pwr := { fieldRail := true } }

/-- A transmit object of a source, a frame of identifier 5 with `dlc` bytes. -/
def txO (n : Nat) (s : TxSource) : TxObj := ⟨n, 5, false, false, false, 8, s⟩
def frm (fd : Bool) (dlc : Nat) : CanFrame := { id := 5, ide := false, fdf := fd, dlc := dlc, data := [], time := 0 }

theorem wit_CanReception :
    (let c : CanPort := { cfg := { role := .normal, rx := [⟨63, 5, false, 8⟩] }, rx := [{ num := 63 }] }
     let L := canLane c []
     (L.canDeaf 0 = false ∧ (frm true 8).own = false) ∧ (frm true 8).fdf = true ∧ c.cfg.fd = false ∧
     (frm false 8).rtr = false ∧ (frm false 8).fdf = false ∧ (8 ≤ canDlcLen (frm false 8).fdf (frm false 8).dlc) ∧
     c.rx.find? (fun r => decide (r.num = 63)) = some { num := 63 } ∧ canDlcLen (frm false 7).fdf (frm false 7).dlc < 8) ∧
    (canLane {} []).canDeaf 0 = true ∧
    ((mdA (canLane {} [(Reg.CAN_ERR_STATE 0, 3)])).sh.lock.holds .a = false ∧ 2 ≤ (canLane {} [(Reg.CAN_ERR_STATE 0, 3)]).canState 0) ∧
    (∀ o ∈ ({ rx := [⟨0, 4, false, 8⟩] } : CanCfg).rx, o.id ≠ (frm false 8).id ∨ o.ide ≠ (frm false 8).ide) ∧
    (md (canLane { cfg := { tx := [txO 63 .hostEvent] } } []) {} heldA).sh.lock.holds .a = true ∧ (txO 63 .hostEvent).id = (frm false 8).id ∧
    (txO 63 .hostEvent).num < 64 ∧
    (let L := canLane { cfg := { role := .normal } } [(Reg.CAN_ERR_TEC 0, 248), (Reg.CAN_ERR_STATE 0, 1)]
     L.canDeaf 0 = false ∧ L.canState 0 < 2 ∧ 255 < L.get (Reg.CAN_ERR_TEC 0) + 8 ∧ L.get (Reg.CAN_ERR_TEC 0) + 7 ≤ 255) ∧
    (canLane {} [(Reg.CAN_ERR_STATE 0, 2)]).canState 0 = 2 ∧ (canLane {} [(Reg.CAN_ERR_STATE 0, 1)]).canState 0 ≠ 2 := by decide +kernel

theorem wit_CanTransmission :
    (mdA (canLane {} [])).sh.lock.holds .a = false ∧
    (let L := canLane { cfg := { cols := [(0, 100), (1, 200), (2, 300)], matrix := [0xFD, 0xFE] }, tx := [{ num := 0xFD }] }
       [(Reg.LANE_STAT_DRIVE_HELD, 1), (Reg.CAN_ERR_STATE 0, 0)]
     let c := L.port 0
     L.flag Reg.LANE_STAT_DRIVE_HELD = true ∧ L.canState 0 ≠ 3 ∧ c.cfg.cols.lookup 0 ≠ none ∧ c.waitMatrix = false ∧
     c.cfg.entry L.can.cyc 0 = 0xFD ∧ 0xFD < 0xFE ∧ c.txs 0xFD = some { num := 0xFD } ∧ L.flag (Reg.CAN_SCHED_WAIT_START 0) = false ∧
     c.cfg.entry L.can.cyc 1 = 0xFE ∧ c.cfg.cols.lookup 1 ≠ none ∧ c.cfg.entry L.can.cyc 2 = 0xFF ∧ c.cfg.cols.lookup 2 ≠ none) ∧
    (canLane {} [(Reg.CAN_SCHED_WAIT_START 0, 1)]).flag (Reg.CAN_SCHED_WAIT_START 0) = true ∧ (canLane {} [(Reg.CAN_ERR_STATE 0, 2)]).canState 0 = 2 ∧
    (let c : CanPort := { tx := [{ num := 3, pending := some [] }] }
     c.txs 3 = some { num := 3, pending := some [] } ∧ (some ([] : List Nat)) ≠ none) ∧
    (let L := canLane { cfg := { role := .normal, tx := [txO 3 .hostEvent] }, tx := [{ num := 3, pending := some [1] }] } [(Reg.CAN_ERR_STATE 0, 0)]
     (L.port 0).txs 3 = some { num := 3, pending := some [1] } ∧ (L.port 0).obj 3 = some (txO 3 .hostEvent) ∧ L.canDeaf 0 = false ∧ L.canState 0 < 2) ∧
    2 ≤ (canLane {} [(Reg.CAN_ERR_STATE 0, 2)]).canState 0 ∧ (txO 63 (.channel 15)).source = .channel 15 ∧
    (ln []).active = false ∧ (canLane {} []).active = true ∧ ({} : CanPort).obj 0 = none ∧
    (let c : CanPort := { cfg := { tx := [txO 0 .hostSched] }, tx := [{ num := 0 }] }
     c.obj 0 = some (txO 0 .hostSched) ∧ c.txs 0 = some { num := 0 } ∧ (txO 0 .hostSched).source = .hostSched ∧ c.cmdThisTick = false) ∧
    ({ cmdThisTick := true } : CanPort).cmdThisTick = true ∧ (txO 0 .hostEvent).source = .hostEvent ∧ ({ num := 0 } : TxState).pending = none ∧
    ({ num := 0, pending := some [1] } : TxState).begun = false := by decide +kernel

/-! ### Witnesses: networks, serial ports, RAP -/

theorem wit_Networks :
    (ln [(Reg.CLK_PLL_STATE, 4)]).coasting = true ∧ (ln []).coasting = false ∧ (ln []).flag (Reg.ETH_LINK_UP 1) = false ∧ (ln [(Reg.ETH_LINK_UP 0, 1)]).flag (Reg.ETH_LINK_UP 0) = true ∧
    ({ ln [] with ethA := { inTick := 63 } } : Lane).ethA.inTick < 64 ∧ 64 ≤ (({ ln [] with ethA := { inTick := 64 } } : Lane).eth 0).inTick ∧
    (ln []).running = true ∧
    (let d : L450Dgram := ⟨true, some [71, 78], false, [[1]], 100000000⟩
     let L := { ln [] with chart := { now := { net := { sources := [⟨[71, 78], none⟩] } } }, l450 := { recent := [([71, 78], [[1]], 0)] } }
     d.sentences = true ∧ d.src = some [71, 78] ∧ d.dstOther = false ∧ L.nc.sources = [⟨[71, 78], none⟩] ∧
     (∃ r ∈ L.l450.recent, r.1 = [71, 78] ∧ r.2.1 = d.body ∧ d.time - r.2.2 ≤ 100000000)) ∧
    (⟨false, none, false, [], 0⟩ : L450Dgram).sentences = false ∧ (⟨true, none, false, [], 0⟩ : L450Dgram).src = none ∧
    (∀ e ∈ (ln []).nc.sources, e.sfi ≠ [71, 78]) ∧ (ln []).l450.recent = [] := by decide +kernel

/-- A sentence `$IIHDT,,T` without its leading `$`, and the sentence with checksum. -/
def hdtBody : List Nat := [73, 73, 72, 68, 84, 44, 44, 84]
def hdt : List Nat := [36] ++ hdtBody ++ [42, 48, 67, 13, 10]

/-- A running lane whose field rail feeds its serial receivers. -/
def serLane (x : SerSt) (r : List (Fld × Nat)) : Lane := { ln r with ser := x :: List.replicate 11 {}, pwr := { fieldRail := true } }

/-- A sentence table entry of 48 bytes for `--HDT` on port 0 and the network, its field 0 a heading; a binary table entry of 64 bytes
for UDP on ETH0, key 5, two bytes with check byte. -/
def hdtRow : List Nat := [42, 42, 72, 68, 84, 32, 1, 16, 12, 255, 0, 255, 1, 0, 0, 0] ++ [0, 4, 1, 0] ++ List.replicate 28 0
def udpRow : List Nat := [5, 0, 0, 0, 0, 2, 2, 12, 1, 1, 0, 1, 0, 0, 0, 0] ++ [0, 4, 0, 0, 0, 0, 128, 63] ++ List.replicate 40 0

theorem test_sentence_entry : SentEntry.ofBytes hdtRow = some ⟨[42, 42, 72, 68, 84, 32], 4097, 12, none, 0, none, [(0, 4, 1)]⟩ ∧
    SentEntry.ofBytes (hdtRow.set 8 30) = none := by decide +kernel

theorem test_binary_entry :
    BinEntry.ofBytes udpRow = some { key := 5, frameLen := 2, check := 2, slot := 12, transport := 1, ports := 1, maps := [⟨0, 4, 0, 1⟩] } ∧
    BinEntry.ofBytes (udpRow.set 4 5) = none := by decide +kernel

theorem wit_SerialPorts :
    ({} : Lane).serListens = false ∧ (serLane {} []).serListens = true ∧ (ln []).get (Reg.SER_CFG_MODE 0) = 0 ∧
    (serLane {} [(Reg.SER_CFG_MODE 0, 2)]).get (Reg.SER_CFG_MODE 0) = 2 ∧ ((serLane {} []).serSt 0).buf.length < 4096 ∧ ((serLane {} []).serSt 0).bad = false ∧
    4096 ≤ ((serLane { buf := List.replicate 4096 0 } []).serSt 0).buf.length ∧
    (ln [(Reg.SER_STAT_LINE 0, 2)]).get (Reg.SER_STAT_LINE 0) = 2 ∧ (ln []).get (Reg.SER_STAT_LINE 0) ≠ 2 ∧
    (ln []).running = true := by decide +kernel

theorem wit_SerialPorts_sentences :
    ({ ln [] with l450 := { out := [(hdt, 0, none)] } } : Lane).l450.out = [(hdt, 0, none)] ∧ ([33] : List Nat).head? = some 33 ∧
    hdt.head? ≠ some 33 ∧ hdt.length ≤ 82 ∧ sentenceBody hdt = some hdtBody ∧ sentenceBody [36] = none ∧ 82 < (List.replicate 83 36).length ∧
    (let e : SentEntry := ⟨[42, 42, 72, 68, 84, 32], 4097, 12, none, 0, none, [(0, 4, 1)]⟩
     ({ sentTable := [hdtRow] } : RefChart).sentences = [e] ∧ testBit e.ports 12 = true ∧ testBit e.ports 0 = true ∧
     addrFits e.pat ((splitAt 44 hdtBody).headD []) = true ∧ qualityOnly (e.maps.map (·.2.1)) = false) ∧
    ((serLane { buf := hdt } [(Reg.SER_CFG_MODE 0, 1)]).serSt 0).buf = hdt.take (hdt.length - 1) ++ 10 :: [] ∧ 10 ∉ hdt.take (hdt.length - 1) ∧
    (ln []).running = true := by decide +kernel

theorem wit_SerialPorts_frames :
    (let x : BinEntry := { key := 5, frameLen := 2, check := 2, slot := 12, transport := 1, ports := 1, maps := [⟨0, 4, 0, 1⟩] }
     ({ binTable := [udpRow] } : RefChart).binary = [x] ∧ x.transport = 1 ∧ testBit x.ports 0 = true ∧ frameCheck x.check 0 [7, 7] = true ∧
     qualityOnly (x.maps.map ByteMap.qty) = false ∧ frameCheck x.check 0 [7, 8] = false ∧ ([7, 8] : List Nat).length = x.frameLen) ∧
    (let L := { ln [] with chart := { now := { net := { serial := [{ mode := 1, entries := [{ kind := .hdt, period := 1 }] }] } } },
                           tk := { posTick := true }, ser := [{ due := [0] }] }
     (L.serCfg 0).entries[0]? = some { kind := .hdt, period := 1 } ∧ (L.serCfg 0).mode = 1 ∧ SerKind.hdt ≠ .host ∧ L.tk.posTick = true ∧
     (L.serSt 0).due.getD 0 0 = 0 ∧ 0 < L.ser.length ∧ L.running = true) ∧
    (let L := serLane { sending := some ⟨none, .host, (73, 73), true, [], []⟩ } [(Reg.SER_STAT_DRIVING 0, 1)]
     (L.serSt 0).sending = some ⟨none, .host, (73, 73), true, [], []⟩ ∧ L.flag (Reg.SER_STAT_DRIVING 0) = true ∧ (L.serSt 0).host = []) := by decide +kernel

/-- Bytes with their CRC-32 after them. -/
def sealed (b : List Nat) : List Nat := b ++ beBytes 4 (crc32 b)

theorem wit_RapOperations :
    (ln []).running = true ∧ (ln []).coasting = false ∧ ([1, 2, 3] : List Nat).length < 4 ∧
    (crc32 (([1, 2, 3, 4, 5] : List Nat).take 1) ≠ ofBe (([1, 2, 3, 4, 5] : List Nat).drop 1)) ∧
    (let b := sealed (List.replicate 11 0); b.length < 16 ∧ 4 ≤ b.length ∧ crc32 (b.take (b.length - 4)) = ofBe (b.drop (b.length - 4))) ∧
    (let b := sealed (List.replicate 12 0)
     16 ≤ b.length ∧ crc32 (b.take (b.length - 4)) = ofBe (b.drop (b.length - 4)) ∧ ofBe ((b.drop 0).take 2) ≠ 0x4B58) ∧
    (ln []).rap.queue.length < 72 ∧ ({} : Lane).running = false ∧ (act 4 []).mode ≠ 2 ∧ (act 4 []).active = true ∧ (act 4 []).red.peerAble = false ∧
    (let L := act 4 [(Reg.SER_CFG_MODE 11, 1)]
     L.get (Reg.SER_CFG_MODE 11) = 1 ∧ (L.serSt 11).host.length < 4 ∧ 11 < L.ser.length ∧ (List.replicate 77 65).length ≤ 77) ∧
    exec (.registerWrite .a 1 0x4028 (BitVec.ofNat 32 5)) (mdA (act 4 [])) =
      .next ((mdA (act 4 [])).setLane .a ((act 4 []).writeReg (some 1) 0x4028 (BitVec.ofNat 32 5)).1) := by
  repeat' apply And.intro
  all_goals first | decide +kernel | rfl

/-- An active lane in mode 3 with this RAP state and a known password. -/
def rapLane (x : RapSt) (r : List (Fld × Nat)) : Lane := { act 3 r with rap := x, sf := { initial := false, password := [65] } }

theorem wit_RapSessions :
    (rapLane {} []).running = true ∧ (rapLane {} []).mode ≠ 2 ∧ (List.replicate 32 0).length = 32 ∧ (ln []).active = false ∧
    (rapLane { session := some (2, 59999) } []).rap.session = some (2, 59999) ∧ (rapLane { session := some (1, 60000) } []).rap.session = some (1, 60000) ∧
    (rapLane { lockMs := 1 } []).rap.lockMs ≠ 0 ∧ (rapLane { nonces := [(1, [9], 10000)] } []).rap.nonces = [(1, [9], 10000)] ∧
    (rapLane { nonces := [(1, [9], 10000)] } []).rap.session = none ∧ (rapLane {} []).mode = 3 ∧ (rapLane {} []).rap.lockMs = 0 ∧
    (hmac256 (rapLane {} []).passwordNow ([9] ++ [1, 0])).length = 32 ∧
    List.replicate 32 0 ≠ hmac256 (rapLane {} []).passwordNow ([9] ++ [1, 0]) ∧ 2 ≤ (rapLane {} [(Reg.RAP_AUTH_CONSEC, 2)]).get Reg.RAP_AUTH_CONSEC ∧
    (rapLane {} [(Reg.RAP_STAT_LOCKOUT, 1)]).flag Reg.RAP_STAT_LOCKOUT = true ∧
    (∃ c ∈ (rapLane { clients := [⟨0, 1, 5, 600000⟩] } []).rap.clients, c.client = 1 ∧ 600000 ≤ c.idleMs) ∧
    (∀ c ∈ (rapLane { clients := [⟨0, 1, 5, 599999⟩] } []).rap.clients, c.client = 1 → c.idleMs < 600000) := by decide +kernel

/-- Container of an empty section 15. -/
def sect15 : List Nat := [15, 0, 0, 0] ++ List.replicate 12 0

/-- A transfer of that section. -/
def xfer15 (e : Option (Nat × Nat)) (d : List Nat) : ChartXfer :=
  { client := 1, sect := 15, total := 16, digest := d, blocks := [(0, sect15)], idleMs := 30000, ended := e }

/-- A valid Chart: the transitions to READY, network addresses, defaults. -/
def chartX : Chart :=
  { modes := { table := (List.range 144).flatMap fun i => [0, 0, 0, 0, if 5 ≤ i / 12 && decide (i % 12 = 4) then 1 else 0, 0, 0, 0] },
    net := { ip := [(1, 24), (2, 24), (3, 24), (4, 24)] } }

theorem wit_ChartTransfers :
    (let L := rapLane {} [(Reg.THERM_WINDOW_OPEN, 1)]
     L.running = true ∧ L.mode ≠ 2 ∧ L.active = true ∧ L.flag Reg.THERM_WINDOW_OPEN = true ∧ L.rap.xfer = none) ∧
    (rapLane {} []).flag Reg.THERM_WINDOW_OPEN = false ∧ (xfer15 none []).client ≠ 2 ∧ (xfer15 (some (1, 0)) []).ended ≠ none ∧
    (xfer15 none []).client = 1 ∧ (xfer15 none []).ended = none ∧ (List.replicate 1024 0).length ≤ 1024 ∧ (List.replicate 4 0).length % 4 = 0 ∧
    30000 ≤ (xfer15 none []).idleMs ∧ ({ xfer15 none [] with idleMs := 29999 }).idleMs < 30000 ∧
    ({ xfer15 (some (1, 0)) [] with idleMs := 30000 }).ended ≠ none ∧ (xfer15 (some (1, 0)) []).digestOk = false ∧
    (xfer15 (some (1, 0)) []).total ≤ 0x400000 ∧ (rapLane {} []).rap.staged = none ∧
    (let L := { rapLane { xfer := some (xfer15 (some (1, 0)) (sha256 sect15)) } [] with chart := { now := chartX, ok := true } }
     L.checkReason (xfer15 (some (1, 0)) (sha256 sect15)) (some { L.chart.now.withSection {} 15 with digest := 0 }) = none ∧
     L.portionNew { L.chart.now.withSection {} 15 with digest := 0 } 15 = false) ∧
    (ln []).active = false ∧ (act 4 []).tk.posTick = false ∧
    (let L := { rapLane { staged := some 1 } [] with tk := { posTick := true }, chart := { next := some ({}, 15) } }
     L.active = true ∧ L.tk.posTick = true ∧ L.rap.staged = some 1 ∧ L.chart.next = some ({}, 15) ∧ L.sf.newPortion = none ∧ L.sf.refused = false) := by
  decide +kernel

/-! ### Witnesses: redundancy and start-up -/

/-- A health word of a role. -/
def hw (r : Role) : HealthWord := ⟨r, 4, true, true, false, false, true, 0, 0, 7, 0, 1, 1, none, none, false, 0, 0, []⟩

/-- A lane with its IO_IN in limits. -/
def fed (L : Lane) : Lane := L.set (Reg.PWR_IN_STATE 1) 2

theorem wit_Takeover :
    (md (ln [(Reg.RED_ROLE_ROLE, 3), (Reg.MODE_CUR_MODE, 5)]) {} heldA).sh.lock.grant = .held .a ∧
    (let L := ln [(Reg.RED_ROLE_ROLE, 3), (Reg.MODE_CUR_MODE, 5)]
     L.running = true ∧ L.active = false ∧ L.mode ≠ 2 ∧ L.role ≠ 5 ∧ L.role ≠ 1) ∧
    (ln [(Reg.RED_ROLE_ROLE, 1)]).role = 1 ∧ ({ ln [] with red := { cold := true } } : Lane).takeCause none = .cold ∧
    (ln []).takeCause none ≠ .cold ∧ ((ln []).takeCause (some .peerStall)).shows.2 = 0 := by decide +kernel

theorem wit_Handovers :
    (let L := fed { act 5 [(Reg.TICK_CNT_COUNT, 19)] with red := { plan := some (19, .hostSwitchover) } }
     (md L {} heldA).sharedPower = true ∧ L.red.plan = some (19, .hostSwitchover) ∧ L.active = true ∧ L.tk.inTick = false ∧ L.get Reg.TICK_CNT_COUNT = 19) ∧
    heldA.grant = .held .a ∧ ({ heldA with armB := true }).arm .b = true ∧ heldA.arm .b = false ∧
    (let L := { act 5 [(Reg.TICK_CNT_COUNT, 19)] with red := { plan := some (19, .peerLubber) }, tk := { lubberAfter := true } }
     L.active = true ∧ L.tk.inTick = false ∧ L.tk.lubberAfter = true) ∧ ({} : TickSt).lubberAfter = false ∧
    (let L := fed { ln [(Reg.RED_ROLE_ROLE, 4), (Reg.MODE_CUR_MODE, 3)] with red := { noHolder := 3 } }
     (md L {} {}).sharedPower = true ∧ L.running = true ∧ L.active = false ∧ L.coasting = false ∧ L.role = 4 ∧ 3 ≤ L.mode ∧ 3 ≤ L.red.noHolder) ∧
    ({} : InterlockSt).grant = .free ∧ ({} : InterlockSt).drive .a = false ∧
    (let L := fed { ln [(Reg.MODE_CUR_MODE, 2)] with red := { armedSeen := 10 } }; (md L {} heldA).sharedPower = true ∧ L.mode = 2 ∧ 10 ≤ L.red.armedSeen ∧ L.tk.inTick = false) := by
  decide +kernel

theorem wit_RedundancyCommands :
    (let L := { act 5 [(Reg.RED_ARG_SECONDS, 3600)] with red := { peerAble := true } }
     L.active = true ∧ L.red.peerAble = true ∧ L.red.plan = none ∧ L.red.outgoing = none ∧ 1 ≤ L.get Reg.RED_ARG_SECONDS ∧ L.get Reg.RED_ARG_SECONDS ≤ 3600) ∧
    (ln []).active = false ∧ (act 5 []).red.peerAble = false ∧
    (let r : RedSt := { outgoing := some 1 }; (r.plan.isSome || r.outgoing.isSome) = true) ∧
    (ln [(Reg.RED_ROLE_ROLE, 3)]).isStandby = true ∧ (ln [(Reg.RED_ROLE_ROLE, 3)]).boot.waiting = false ∧ (act 5 []).isStandby = false ∧
    (let L := { ln [(Reg.RED_ROLE_ROLE, 3), (Reg.RED_ABLE_ABLE, 1), (Reg.RED_TB_HOLDOFF, 60)] with red := { tbCount := 60000, awaySince := some 86400000 } }
     L.preferred = true ∧ L.role = 3 ∧ L.flag Reg.RED_ABLE_ABLE = true ∧ 1000 * L.get Reg.RED_TB_HOLDOFF ≤ L.red.tbCount ∧
     L.red.awaySince = some 86400000) ∧ (ln []).red.suspTicks = 0 := by decide +kernel

theorem wit_PeerSupervision :
    (let L := ln [(Reg.RED_PEER_AGE, 3), (Reg.RED_ROLE_PEER_ROLE, 2)]; 3 ≤ L.get Reg.RED_PEER_AGE ∧ L.get Reg.RED_ROLE_PEER_ROLE ≠ 0) ∧
    (let L := { ln [] with hw := { mirrorMiss := 3 } }; L.running = true ∧ L.red.lost = false ∧ 3 ≤ L.hw.mirrorMiss) ∧
    (let L := { ln [(Reg.RED_ROLE_PEER_ROLE, 2)] with red := { missed := 3, peer := some (hw .active) } }; L.running = true ∧ L.red.lost = false ∧ 3 ≤ L.red.missed ∧
     L.peerIs .active = true ∧ L.active = false) ∧
    3 ≤ (ln [(Reg.RED_MISMATCH_CONSEC, 3)]).get Reg.RED_MISMATCH_CONSEC ∧ ({} : RedSt).disagree = false ∧ ({ disagree := true, matchRun := 100 } : RedSt).disagree = true ∧
    100 ≤ ({ matchRun := 100 } : RedSt).matchRun ∧ ({ skewOut := 10 } : RedSt).skew = false ∧ 10 ≤ ({ skewOut := 10 } : RedSt).skewOut ∧
    ({ skew := true, skewIn := 100 } : RedSt).skew = true ∧ 100 ≤ ({ skewIn := 100 } : RedSt).skewIn ∧
    (let L := { ln [] with hw := { failed := some (1, 0, 5) }, tk := { count := 105 } }; L.hw.failed = some (1, 0, 5) ∧ 5 + 100 ≤ L.tk.count) ∧
    (let L := { ln [(Reg.RED_ROLE_ROLE, 4), (Reg.RED_RESYNC_STAGE, 2), (Reg.CHR_SRC_STAT_STATE 4, 3)] with red := { syncCnt := 100, settle := 1000 } }
     L.running = true ∧ L.role = 4 ∧ L.coasting = false ∧ (md L (act 5 []) {}).b.active = true ∧ L.get Reg.RED_RESYNC_STAGE = 2 ∧ 100 ≤ L.red.syncCnt ∧
     L.srcState 4 = 3 ∧ 1000 ≤ L.red.settle ∧ L.chart.now.digest = (act 5 []).chart.now.digest) ∧
    (ln [(Reg.RED_RESYNC_STAGE, 1)]).get Reg.RED_RESYNC_STAGE = 1 ∧ (ln [(Reg.RED_RESYNC_STAGE, 3)]).get Reg.RED_RESYNC_STAGE = 3 ∧
    (ln [(Reg.RED_RESYNC_STAGE, 4)]).get Reg.RED_RESYNC_STAGE = 4 := by decide +kernel

theorem wit_WordsBetweenLanes :
    (ln []).running = true ∧ LinkRx.intact = .intact ∧ (md (fed (ln [])) (act 5 []) {}).sharedPower = true ∧ ({ act 5 [] with red := { hwOut := some (hw .active) } } : Lane).red.hwOut = some (hw .active) ∧
    (ln []).mode ≠ 2 ∧ (ln [(Reg.RED_ROLE_ROLE, 3)]).role = 3 ∧ (ln []).boot.waiting = false ∧
    (decide (({ hw .active with digest := 5 }).digest = if (ln []).chart.ok then (ln []).chart.now.digest else 0) = false) ∧ (hw .active).mode < 16 ∧ (hw .active).epoch < 2 ^ 32 ∧ (hw .active).role = .active ∧ (ln []).active = false ∧ (act 5 []).active = true ∧
    (ln [(Reg.RED_ROLE_ROLE, 3)]).mirrors = true ∧ (act 5 []).mirrors = false ∧ ({ ln [(Reg.RED_ROLE_ROLE, 3)] with red := { lost := true } } : Lane).red.lost = true := by
  decide +kernel

theorem wit_WordsBetweenLanes_mirror (m : MirrorFrame) : ({ act 5 [] with mirror := some m } : Lane).mirror = some m := rfl

theorem wit_FirmwareCommands :
    (ln []).isStandby = false ∧ (ln [(Reg.RED_ROLE_ROLE, 3)]).isStandby = true ∧ (ln [(Reg.RED_ROLE_ROLE, 3)]).flag Reg.THERM_WINDOW_OPEN = false ∧
    (ln [(Reg.THERM_WINDOW_OPEN, 1)]).flag Reg.THERM_WINDOW_OPEN = true ∧ (ln [(Reg.RED_FW_STAT_STATE, 2)]).get Reg.RED_FW_STAT_STATE = 2 ∧
    (ln []).get Reg.RED_FW_STAT_STATE ≠ 2 ∧ (ln []).red.peer = none ∧ (ln [(Reg.RED_FW_STAT_STATE, 1)]).get Reg.RED_FW_STAT_STATE = 1 ∧
    (ln []).boot.bootSlot ≤ 1 ∧ (ln []).get Reg.RED_FW_STAT_STATE ≠ 1 := by decide +kernel

/-- What a good start finds. -/
def good : StartFindings := ⟨true, true, true, true, true, true, 300, true, true, true, true, true⟩

theorem wit_StartUp :
    ({} : Lane).boot.phase = .reset ∧ (ln []).boot.phase ≠ .reset ∧
    ({ boot := { phase := .exchange, findings := good } } : Lane).boot.phase = .exchange ∧ ({ boot := { findings := good } } : Lane).boot.findings.selfTestOk = true ∧
    (md (fed { boot := { roleWait := some 2000 } }) {} {}).sharedPower = true ∧ (fed { boot := { roleWait := some 2000 } }).mode = 1 ∧
    ({ boot := { roleWait := some 2000 } } : Lane).boot.roleWait = some 2000 ∧ (ln []).mode = 1 ∧ (ln []).peerIs .active = false ∧
    ({} : InterlockSt).grant = .free ∧ ({} : InterlockSt).drive .a = false ∧ ({ boot := { contestWait := some 10 } } : Lane).boot.contestWait = some 10 ∧
    ({ boot := { driveWait := some 11 } } : Lane).boot.driveWait = some 11 ∧ ({} : InterlockSt).grant ≠ .held .a := by decide +kernel

theorem wit_FailedStartAndLubber :
    ({ boot := { phase := .clock } } : Lane).inStart = true ∧ ({ boot := { phase := .clock, mem := { failCount := 1 } } } : Lane).startRecord.boot.mem.countAfter < 3 ∧ ({} : BootSt).trial = none ∧
    ({} : InterlockSt).drive .a = false ∧ ({ boot := { phase := .clock, mem := { failCount := 1 } } } : Lane).inStart = true ∧
    3 ≤ ({ boot := { phase := .exchange, recorded := true, mem := { failCount := 2 } } } : Lane).startRecord.boot.mem.countAfter ∧
    ({ boot := { phase := .exchange, recorded := true, mem := { failCount := 2 } } } : Lane).inStart = true ∧ (act 4 []).inStart = false ∧
    (let L := fed { ln [(Reg.MODE_CUR_MODE, 2), (Reg.RED_PEER_AGE, 2000)] with tk := { count := 2000 } }
     (md {} L {}).sharedPower = true ∧ L.peerSilent = true ∧ L.running = true ∧ L.mode = 2 ∧ L.peerIs .active = false ∧ 2000 ≤ L.get Reg.RED_PEER_AGE ∧ 2000 ≤ L.tk.count ∧ L.red.lubberWait = none) ∧
    (let L := fed { ln [(Reg.MODE_CUR_MODE, 2)] with red := { lubberWait := some 2000 } }
     (md L {} {}).sharedPower = true ∧ L.running = true ∧ L.peerIs .active = false ∧ L.lubberFirst = true ∧ L.red.lubberWait = some 2000) := by decide +kernel

/-! ### Witnesses: the safety channel -/

/-- An image whose output 0 is configured with stop input 0, reset input 1 and, if asked, feedback. -/
def img (fb : Bool) : BinImage :=
  { ins := [{ mode := .equivalent }, { mode := .reset }], outs := [{ configured := true, stopMask := [0], resetSi := some 1, fbEn := fb }] }

/-- A powered Binnacle with that image, input 0 in RUN, input 1 released. -/
def bin (fb : Bool) (o : SoBin) : BinnacleSt :=
  { power := true, image := some (img fb), cfgBad := false, ins := { a := true, b := true } :: List.replicate 15 {}, outs := o :: List.replicate 7 {} }

/-- The module with that Binnacle, its shared section powered by lane A. -/
def binMd (b : BinnacleSt) : State := { mdA (ln [(Reg.PWR_IN_STATE 1, 2)]) with sh := { bin := b } }

/-- A lane with that image in force, and its input 0, input 1 and output 0. -/
def sfLane (fb : Bool) (i0 i1 : SiProc) (o : SoProc) (r : List (Fld × Nat)) : Lane :=
  { act 5 r with sf := { portion := some { image := img fb }, ins := i0 :: i1 :: List.replicate 14 {}, outs := o :: List.replicate 7 {} } }

theorem wit_SafetyInputs :
    0 < (ln []).sf.ins.length ∧ 7 < (ln []).sf.outs.length ∧
    (let L := sfLane false { st := .discrepant, timer := 101 } {} {} []
     (L.si 0).st = .discrepant ∧ (L.si 0).disc = false ∧ ((L.siCfg 0).discTime : Rat) < (L.si 0).timer) ∧
    (let L := sfLane false { timer := 100 } {} {} []; (L.si 0).timer ≤ ((L.siCfg 0).discTime : Rat)) ∧
    (let L := sfLane false { st := .run, runMs := 50 } {} {} []; ∀ j ∈ (L.soCfg 0).stopMask, (L.si j).st = .run ∧ 50 ≤ (L.si j).runMs) ∧
    (let L := sfLane false {} {} {} []; ∃ j ∈ (L.soCfg 0).stopMask, (L.si j).st ≠ .run) ∧
    (let b := bin false {}; (∀ j ∈ (b.cfg.so 0).stopMask, b.siSt j = .run) ∧ b.power = true ∧ (binMd b).sharedPower = true ∧ 0 < b.outs.length) ∧
    (let b : BinnacleSt := { bin false {} with ins := [] }; ∃ j ∈ (b.cfg.so 0).stopMask, b.siSt j ≠ .run) ∧
    10 ≤ ({ released := true, relMs := 10 } : SoProc).relMs ∧ ({} : SoProc).released = false ∧
    fbShows ((bin true { fbHigh := true }).cfg.so 0) ((bin true { fbHigh := true }).so 0).fbHigh = true ∧
    (let L := sfLane false {} { release := some 99 } {} []; (L.si 1).release = some 99 ∧ (99 : Rat) < 100 ∧ L.judgedOuts 1 = [0]) ∧
    (let L := sfLane false {} { release := some 5000 } { runDone := true } [(Reg.SF_BIN_POWER_OK, 1)]
     (L.si 1).release = some 5000 ∧ (L.si 1).disc = false ∧ L.judgedOuts 1 = [0] ∧ L.cond13 0 = true ∧ (L.so 0).fbFault = false) ∧
    ({} : SiProc).release = none ∧
    (let b := bin false { runDone := true }; let c := b.cfg.so 0; let o := b.so 0
     (b.cfg.si 1).mode = .reset ∧ b.siSt 1 = .safe ∧ (b.si 1).disc = false ∧ c.configured = true ∧ c.resetSi = some 1 ∧ c.manual = true ∧ c.fbEn = false ∧
     o.interlock = true ∧ o.runDone = true ∧ b.blocked 0 = false ∧ (∀ j ∈ c.stopMask, b.siSt j = .run) ∧ (binMd b).driver = none) ∧
    (let L := sfLane true {} {} { energised := true, sinceMs := 101 } []
     (L.soCfg 0).configured = true ∧ (L.soCfg 0).fbEn = true ∧ (L.so 0).fbFault = false ∧ (L.so 0).energised = true ∧ (L.so 0).pulled = false ∧
     ((L.soCfg 0).fbPull : Rat) < (L.so 0).sinceMs) ∧ ({ fbFault := true } : SoProc).fbFault = true ∧
    (let b := bin true { fbHigh := false }
     (b.cfg.so 0).configured = true ∧ (b.cfg.so 0).fbEn = true ∧ b.power = true ∧ (binMd b).sharedPower = true ∧
     (binMd b).terminalOn 0 = fbShows (b.cfg.so 0) (b.so 0).fbHigh) := by decide +kernel

theorem wit_BinnacleOpens :
    (binMd (bin false {})).sh.bin.power = true ∧ (binMd (bin false {})).sharedPower = true ∧ 0 < (bin false {}).ins.length ∧
    ({ bin false {} with ins := [{ a := true }] }).siSt 0 = .discrepant ∧ (bin false {}).siSt 0 ≠ .discrepant ∧ (bin false {}).closed 0 = false ∧
    ((bin false {}).so 0).swFault = false ∧ ((bin false { test := true }).so 0).test = true ∧ ((bin false {}).so 0).test = false ∧
    (let L := { act 5 [(Reg.PWR_IN_STATE 1, 2)] with sf := { newPortion := some {}, rejects := 2 } }
     L.sf.newPortion = some {} ∧ L.sf.rejects < 3 ∧ 2 ≤ L.sf.rejects ∧ (md L {} heldA).sh.lock.holds .a = true ∧ (md L {} heldA).sh.bin.write = none) ∧
    (ln []).sf.newPortion = none ∧ ({ bin false {} with write := some ⟨.a, {}, 0⟩ }).write = some ⟨.a, {}, 0⟩ ∧ (ln []).sf.rejects < 2 := by decide +kernel

theorem wit_SafetyTests :
    (let L := sfLane false {} {} { energised := true, interlock := false } [(Reg.SF_TP_EN, 1), (Reg.SF_TP_PERIOD, 10), (Reg.SF_BIN_POWER_OK, 1), (Reg.TICK_CNT_COUNT, 20050)]
     (md L {} heldA).sh.lock.holds .a = true ∧ L.coasting = false ∧ (md L {} heldA).sh.bin.write = none ∧ L.bit Reg.SF_TP_EN 0 = true ∧
     (L.soCfg 0).configured = true ∧ (L.so 0).energised = true ∧ (L.so 0).pulse = none ∧ L.get Reg.SF_TP_PERIOD ≠ 0 ∧ L.holdCause 0 = .none ∧
     L.get Reg.TICK_CNT_COUNT % (L.get Reg.SF_TP_PERIOD * 1000) = (if TestSwitch.bin = .bin then 100 * 0 + 50 else 100 * 0)) ∧
    (mdA {}).sh.lock.holds .a = false ∧ ({ pulse := some ⟨.bin, 0, none, false⟩ } : SoProc).pulse = some ⟨.bin, 0, none, false⟩ ∧
    (let L := sfLane false { a := true } {} {} [(Reg.TICK_CNT_COUNT, 1005)]
     (md L {} heldA).driver = some .a ∧ (L.siCfg 0).mode ≠ .off ∧ (L.si 0).a = true ∧ L.get Reg.TICK_CNT_COUNT % 1000 = srcTick (.siA 0)) ∧
    (mdA {}).driver = none ∧
    (let L := { sfLane false {} {} {} [(Reg.SF_BIN_CHECK_CRC, 1)] with sf := { portion := some {}, misRun := 1 } }
     L.sf.newPortion = none ∧ L.sf.portion.isSome = true ∧ ¬ (L.get Reg.SF_BIN_CHECK_CRC = L.get Reg.SF_CFG_CHECK_CRC) ∧ 1 ≤ L.sf.misRun ∧
     L.flag Reg.SF_BIN_MISMATCH = false) ∧
    (let L := { sfLane false {} {} {} [(Reg.SF_BIN_MISMATCH, 1)] with sf := { portion := some {}, okRun := 1 } }
     L.get Reg.SF_BIN_CHECK_CRC = L.get Reg.SF_CFG_CHECK_CRC ∧ 1 ≤ L.sf.okRun ∧ L.flag Reg.SF_BIN_MISMATCH = true) ∧
    (ln []).sf.misRun = 0 ∧ (ln []).sf.portion = none ∧ (ln [(Reg.SF_STAT_LANE_DIFF, 1)]).flag Reg.SF_STAT_LANE_DIFF = true ∧
    1000 ≤ ({ diffTicks := 1000 } : SafetySt).diffTicks ∧ ({ diffTicks := 999 } : SafetySt).diffTicks < 1000 := by decide +kernel

/-! ### Witnesses: Logbook, references, supplies, temperatures, registers -/

/-- A record. -/
def rec0 (seq : Nat) : LogRec := ⟨3, .b, false, true, true, 3, seq, 0, 0, [1]⟩

theorem wit_Logbook :
    ({} : Lane).boot.phase = .reset ∧ (ln []).boot.phase ≠ .reset ∧ (ln []).mayDrain = false ∧
    (let L := { ln [(Reg.THERM_WINDOW_OPEN, 1), (Reg.LOG_STAT_INDEXING, 0)] with log := { queue := [rec0 0] } }; L.log.queue ≠ [] ∧ L.mayDrain = true) ∧
    (ln [(Reg.LOG_STAT_INDEXING, 0)]).flag Reg.LOG_STAT_INDEXING = false ∧ ((ln []).log.ctl0Bad && (ln []).log.ctl1Bad) = false ∧
    (let L := ln []; L.logLevel ≤ 1 ∧ L.log.queued + (16 + 4 * ((1008 + 3) / 4)) ≤ L.logCap ∧ L.summaryDue = false ∧ 0 < L.logLevel ∧ L.logLevel ≤ 3) ∧
    16 ≤ ({ rate := [(0xD3, 16)] } : LogSt).rateOf (secOf (ln []).now) 0xD3 ∧ (ln [(Reg.LOG_STAT_SRAM_ONLY, 1)]).flag Reg.LOG_STAT_SRAM_ONLY = true ∧
    (ln []).flag Reg.LOG_STAT_INDEXING = true ∧ (ln []).flag Reg.THERM_WINDOW_OPEN = false ∧
    (let L := { ln [(Reg.THERM_WINDOW_OPEN, 1), (Reg.LOG_STAT_INDEXING, 0)] with log := { queue := [rec0 0], blocks := [⟨0, 3, 0, 0, .isOpen, []⟩] } }
     L.flag Reg.LOG_STAT_SRAM_ONLY = false ∧ L.flag Reg.LOG_STAT_INDEXING = false ∧ L.flag Reg.THERM_WINDOW_OPEN = true ∧ L.log.queued ≤ 8192 ∧
     L.log.queue = [rec0 0] ∧ (⟨0, 3, 0, 0, .isOpen, []⟩ : LogBlock).used + (rec0 0).bytes ≤ 4080 ∧ L.log.damaged = [] ∧
     L.log.queue.find? (fun r => decide (r.seq = 0)) = some (rec0 0) ∧ 256 * L.get Reg.LOG_RD_OFS_OFS < (rec0 0).bytes) ∧
    ({ crossWire := [rec0 7] } : LogSt).crossWire = [rec0 7] ∧ (ln []).log.crossWire = [] ∧ (ln [(Reg.LANE_STAT_XL1_UP, 1)]).linkUp = true ∧
    (ln []).linkUp = false ∧ (ln []).log.queue = [] ∧ (ln []).log.noteThisTick = false ∧ ({ noteThisTick := true } : LogSt).noteThisTick = true := by
  decide +kernel

theorem wit_ReferenceInputs :
    (let L := { ln [(Reg.CLK_REF_STATE 0, 1), (Reg.CLK_REF_CAUSE 0, 4)] with chart := { ok := true, now := { clock := { expectA := .mhz10 } } } }
     L.refOff .refA = false ∧ L.expectDiffers .refA 2 = true ∧ L.refState .refA = 1 ∧ L.get (Reg.CLK_REF_CAUSE (RefIn.idx .refA)) = 4) ∧
    (let L := { ln [(Reg.CLK_REF_STATE 0, 2)] with chart := { ok := true, now := { clock := { expectA := .mhz10 } } } }
     L.refOff .refA = false ∧ L.expectDiffers .refA 2 = true ∧ L.refState .refA = 2) ∧ (ln [(Reg.CLK_REF_STATE 0, 3)]).refState .refA = 3 ∧
    (ln []).refOff .refA = false ∧ (ln []).expectDiffers .refA 1 = false ∧ (ln []).refState .refA ≠ 3 ∧
    (ln [(Reg.CLK_REF_STATE 0, 2), (Reg.CLK_PLL_STATE, 2)]).awaitsRef = false ∧ (ln [(Reg.CLK_REF_STATE 0, 2), (Reg.CLK_PLL_STATE, 4)]).awaitsRef = true ∧
    (ln [(Reg.CLK_REF_STATE 0, 2)]).refState .refA = 2 ∧
    (let L := ln [(Reg.CLK_REF_STATE 0, 3), (Reg.CLK_REF_STATE 1, 3), (Reg.CLK_REF_SELECTED 1, 1), (Reg.CLK_PLL_STATE, 2)]
     2 ≤ L.refState .refA ∧ 2 ≤ L.refState .refB ∧ L.clkChart.preferred = .refA ∧ L.refState .refA = 3 ∧ L.refSelected = some (RefIn.other .refA) ∧ L.pll = 2 ∧
     L.clkChart.revert ≠ 0 ∧ L.refSelected = some .refB ∧ L.refState (RefIn.other .refB) = 3) ∧ (ln []).refSelected = none := by decide +kernel

theorem wit_ReferenceLost :
    (let L := ln [(Reg.CLK_REF_STATE 0, 3), (Reg.CLK_REF_STATE 1, 3), (Reg.CLK_REF_SELECTED 0, 1), (Reg.CLK_PLL_STATE, 2), (Reg.PWR_IN_STATE 1, 2)]
     (md L {} {}).sharedPower = true ∧ L.mayTrip .refA .edge 0 = true ∧ L.refSelected = some .refA ∧ L.clk.stopWin = none ∧ L.clk.switching = none ∧ L.refState (RefIn.other .refA) = 3) ∧
    (let L := ln [(Reg.CLK_REF_STATE 0, 3), (Reg.CLK_REF_SELECTED 0, 1), (Reg.CLK_PLL_STATE, 2), (Reg.PWR_IN_STATE 1, 2)]
     (md L {} {}).sharedPower = true ∧ L.mayTrip .refA .edge 0 = true ∧ L.refState (RefIn.other .refA) ≠ 3 ∧ (md L {} heldA).b.coasting = false ∧ heldA.grant = .held .a ∧
     ({ heldA with armB := true }).arm (LaneId.other .a) = true) ∧ (fed (ln [])).mayTrip .refA .edge 0 = false ∧ (md (fed (ln [])) {} {}).sharedPower = true ∧
    (let L := { act 5 [(Reg.CLK_PLL_STATE, 4)] with clk := { stopWin := some ⟨.refA, false⟩ } }
     L.clk.stopWin = some ⟨.refA, false⟩ ∧ L.clk.starting = false ∧ L.active = true ∧ L.clk.dualCoast = false) := by decide +kernel

theorem wit_Supplies :
    ((md (ln []) (fed (ln [])) heldA).lane (LaneId.other .a)).supplyOk .io = true ∧ ((md (ln []) (ln []) {}).lane (LaneId.other .a)).supplyOk .io = false ∧
    (md (fed (ln [])) (ln []) {}).sharedPower = true ∧ (mdA (ln [])).sharedPower = false ∧ (⟨3, true, 0⟩ : SupplyLoss).state ≠ 2 ∧
    (⟨3, true, 0⟩ : SupplyLoss).state < 4 ∧ heldA.grant = .held .a ∧ ({} : InterlockSt).grant ≠ .held .a ∧ (act 5 []).active = true ∧
    (ln []).supplyOk .ana = false := by decide +kernel

theorem wit_Temperatures :
    8 ≤ ({ reqCnt := 8 } : SensorSt).reqCnt ∧ 8 ≤ ({ critCnt := 8 } : SensorSt).critCnt ∧ (ln []).get (Reg.THERM_T_CRIT 11) = 0 ∧ (ln []).tsState 11 ≠ 4 ∧
    (let L := { ln [(Reg.THERM_STATE_LEVEL, 1)] with pwr := { reqAt := some 0, clock := 10000 } }
     L.pwr.reqAt = some 0 ∧ L.get Reg.THERM_STATE_LEVEL = 1 ∧ 0 + 100 * L.thermChart.grace ≤ L.pwr.clock) ∧
    (ln [(Reg.THERM_T_STATE 0, 0)]).tsState 0 = 0 ∧ 3 ≤ ({ implausible := 3 } : SensorSt).implausible ∧
    (let L := { ln [(Reg.THERM_T_STATE 0, 2), (Reg.THERM_T_STATE 1, 0)] with
       pwr := { sensors := [{ faultAt := some 0, plausible := 8 }, { last := some (250, 0) }], clock := 60000 } }
     (L.ts 0).faultAt = some 0 ∧ L.tsState 0 = 2 ∧ 0 + 60000 ≤ L.pwr.clock ∧ L.zoneValid (zoneOf 0) ≠ [] ∧ 8 ≤ (L.ts 0).plausible) ∧
    (ln [(Reg.THERM_WINDOW_OPEN, 1)]).flag Reg.THERM_WINDOW_OPEN = true ∧ (ln []).flag Reg.THERM_WINDOW_OPEN = false := by decide +kernel

theorem wit_RegisterWrites :
    0x4028 % 4 = 0 ∧ 0x4029 % 4 ≠ 0 ∧ 0x40000 ≤ 0x40000 ∧ pagePresent .kx944 0x30 = false ∧ pagePresent .kx922 0x27 = true ∧ rowAt 0x9C = none ∧
    (rowAt 0).any (fun r => decide (r.rw = 0 ∧ r.w1c = 0 ∧ r.wo = 0 ∧ r.rws = 0)) = true ∧
    (rowAt 0x402C).any (fun r => decide (r.rw ≠ 0 ∧ r.rws = 0)) = true ∧ (ln []).ownWrite 0x402C 5 = none ∧
    (ln []).rap.session.map Prod.fst ≠ some 1 ∧ (rapLane { session := some (1, 0) } []).rap.session.map Prod.fst = some 1 ∧
    (rapLane {} []).active = true ∧ (rapLane {} []).sf.log.length < 256 ∧ (rapLane {} [(Reg.THERM_WINDOW_OPEN, 1)]).flag Reg.THERM_WINDOW_OPEN = true ∧
    256 ≤ ({ log := List.replicate 256 ⟨1, 1, false, false, 0, 0, []⟩ } : SafetySt).log.length ∧ (rapLane {} []).flag Reg.THERM_WINDOW_OPEN = false ∧
    pagePresent .kx960 255 = false ∧ pagePresent .kx960 0x70 = true ∧ evDefined 0x58 ≠ 0 ∧ 0x58 ∈ (ln []).evPagesHere := by decide +kernel

/-- A number of 16 or more where a command names unit or mode: not well-formed. -/
theorem test_wf_refuses_unit_and_mode :
    ([.limitHoldExpiry default 16, .channelReady default 16, .channelNotReady default 16, .followFault default 16, .fbGraceExpiry default 16,
    .leverStale default 16, .engineStop default 16, .modeReq default 16 0, .tgtCoasting default 16, .tgtLost default 16, .online default 16 0,
    .offline default 16 0, .reset default 16 0, .aoHostWrite default 16 default, .aoFault default 16, .discLatched default 16, .binnacleDiscLatch 16,
    .resetRelease default 16 default] : List Instr).all (fun i => !i.wellFormed) = true := by decide +kernel

/-- A number of 4 or more where a command names bus or direction: not well-formed. -/
theorem test_wf_refuses_bus_and_direction :
    ([.pmStale default 4, .loadReduction default 4, .setPos default 0 4, .setHdg default 0 4, .setPosHdg default 0 4, .capture default 0 4,
    .setSpeed default 0 4, .setLeg default 0 4, .setCourse default 0 4, .setFtOfs default 0 4, .stopRamp default 0 4] : List Instr).all (fun i => !i.wellFormed) = true := by decide +kernel

/-- A number of 3 or more where a command names antenna or memory: not well-formed. -/
theorem test_wf_refuses_antenna_and_memory :
    ([.eccCorr default 3, .memoryScrub default 3 default default, .antBiasFault default 3 default default, .agcLimit default 3 0 0 default,
    .antNoSignal default 3, .antDelayChanged default 3, .ethLinkChange default 0 default 3] : List Instr).all (fun i => !i.wellFormed) = true := by decide +kernel

/-- A number of 2 ^ 23 in MRAM, 2 ^ 28 elsewhere, or more where a command names word of memory: not well-formed. -/
theorem test_wf_refuses_word_of_memory :
    ([.eccUncorr .a .mram (2 ^ 23), .eccUncorr .b .dram (2 ^ 28)] : List Instr).all (fun i => !i.wellFormed) = true := by decide +kernel

/-- A number of 256 or more where a command names byte tag page: not well-formed. -/
theorem test_wf_refuses_byte_tag_page :
    ([.modeReq default 0 256, .schedWriteSubmit default 256, .schedModeSubmit default 256, .setPos default 256 0, .setHdg default 256 0,
    .setPosHdg default 256 0, .capture default 256 0, .setSpeed default 256 0, .setLeg default 256 0, .setCourse default 256 0,
    .setFtOfs default 256 0, .stopRamp default 256 0, .online default 0 256, .offline default 0 256, .reset default 0 256, .restartAcq default 256,
    .coldRestart default 256, .refixAtt default 256, .setTime default 256, .canTxComplete default 0 256 default default,
    .canArbitrationLost default 0 256, .commit default 0 256, .send default 0 256, .cancel default 0 256 default,
    .serialCharReceived default 0 256 default, .rapRequest default 0 0 [0, 256], .safetyOpen default 0 0 [0, 256],
    .chartBegin default 0 0 0 0 [0, 256], .chartData default 0 0 0 [0, 256], .serSend default 0 0 0 [0, 256], .switchover default 256,
    .suspendTb default 256, .resumeTb default 256, .resync default 256, .fwBegin default 256, .fwCheck default 256, .fwActivate default 256,
    .recordPost default default 0 256 [], .recordPost default default 0 0 [0, 256], .hostNote default 256 0 0, .switchRef default 256,
    .cntClr default 256, .evtPendClear default 256 0, .evtPendClear default 0 256, .evtEnWrite default 256 0, .evtEnWrite default 0 256,
    .evcClear default default 256] : List Instr).all (fun i => !i.wellFormed) = true := by decide +kernel

/-- A number of 30 or more where a command names slot: not well-formed. -/
theorem test_wf_refuses_slot :
    ([.refAdmitted default 30, .refRejected default 30, .slotTimeout default 30, .qualityExpiry default 30, .learningEnd default 30,
    .timeDegraded default 30, .timeRestored default 30, .weightRampStep default 30, .clearCounts default 30, .restartTimeModel default 30,
    .reAnchor default 30] : List Instr).all (fun i => !i.wellFormed) = true := by decide +kernel

/-- A number of 2 ^ 30 or more where a command names slot mask: not well-formed. -/
theorem test_wf_refuses_slot_mask :
    ([.intDeselectWrite default (2 ^ 30)] : List Instr).all (fun i => !i.wellFormed) = true := by decide +kernel

/-- A number of 32 or more where a command names input or block: not well-formed. -/
theorem test_wf_refuses_input_and_block :
    ([.tgtSelWrite default 32, .coarseSample default 32 default default, .fineOutput default 32 default default default default,
    .aiFault default 32, .aiFaultClear default 32, .aiStep default 32, .aiLaneDiff default 32, .aiCfgWrite default 32 0,
    .openWireTest 32 default default, .aiTerminalFinding default 32 default default, .hostNote default 0 0 32, .clkGateForced default 32] : List Instr).all (fun i => !i.wellFormed) = true := by decide +kernel

/-- A number of 1024 or more where a command names lever: not well-formed. -/
theorem test_wf_refuses_lever :
    ([.ctrlJoyWrite default 1024 0 0, .ctrlJoyWrite default 0 1024 0, .ctrlJoyWrite default 0 0 1024] : List Instr).all (fun i => !i.wellFormed) = true := by decide +kernel

/-- A number of 2 ^ 23 in MRAM, 2 ^ 28 elsewhere, or more where a command names 49: not well-formed. -/
theorem test_wf_refuses_49 :
    ([.epochStrobe default ⟨49, []⟩, .epochStrobe default ⟨0, [{ (default : Sys2Proof.Machine.StrobeCap) with chan := 216 }]⟩] : List Instr).all (fun i => !i.wellFormed) = true := by decide +kernel

/-- A number of 216 or more where a command names satellite channel: not well-formed. -/
theorem test_wf_refuses_satellite_channel :
    ([.pullInTimeout default 216, .channelLockChange default ⟨216, 0, 0⟩, .trackingLost default ⟨216, 0, 0⟩,
    .sidePeakCorrection default 216 default, .navigationMessageDecoded default 216 default, .codeLock default ⟨216, 0⟩] : List Instr).all (fun i => !i.wellFormed) = true := by decide +kernel

/-- A number of 2 ^ 23 in MRAM, 2 ^ 28 elsewhere, or more where a command names 601: not well-formed. -/
theorem test_wf_refuses_601 :
    ([.agcLimit default 0 601 0 default, .agcLimit default 0 0 601 default] : List Instr).all (fun i => !i.wellFormed) = true := by decide +kernel

/-- A number of 5 or more where a command names source: not well-formed. -/
theorem test_wf_refuses_source :
    ([.sxExclWrite default 5 0, .sourceLoss default 5, .sourceRevert default 5] : List Instr).all (fun i => !i.wellFormed) = true := by decide +kernel

/-- A number of 2 ^ 32 or more where a command names word: not well-formed. -/
theorem test_wf_refuses_word :
    ([.sxExclWrite default 0 (2 ^ 32), .aiCfgWrite default 0 (2 ^ 32), .aiFreezeWrite default (2 ^ 32), .aiRestart default (2 ^ 32),
    .ppsCfgWrite default 0 default (2 ^ 32), .ptpAsymWrite default 0 (2 ^ 32), .rapRequest default 0 (2 ^ 32) [], .read default 0 (2 ^ 32) 0 0,
    .read default 0 0 0 (2 ^ 32), .write default 0 (2 ^ 32) 0 [], .write default 0 0 (2 ^ 32) [], .write default 0 0 0 [0, 2 ^ 32],
    .laneRestart default 0 (2 ^ 32) default, .safetyChallenge default 0 (2 ^ 32), .safetyOpen default 0 (2 ^ 32) [], .safetyClose default 0 (2 ^ 32),
    .chartBegin default 0 (2 ^ 32) 0 0 [], .chartBegin default 0 0 (2 ^ 32) 0 [], .chartBegin default 0 0 0 (2 ^ 32) [],
    .chartData default 0 (2 ^ 32) 0 [], .chartData default 0 0 (2 ^ 32) [], .chartEnd default 0 (2 ^ 32), .serSend default 0 (2 ^ 32) 0 [],
    .serSend default 0 0 (2 ^ 32) [], .absentWrite default (2 ^ 32), .reservedWrite default (2 ^ 32) default,
    .registerWrite default 0 (2 ^ 32) default] : List Instr).all (fun i => !i.wellFormed) = true := by decide +kernel

/-- A number of 8 or more where a command names port or zone: not well-formed. -/
theorem test_wf_refuses_port_and_zone :
    ([.chrSrcDisWrite default 8, .canFrameReceived default 8 default, .canSlotTrigger default 8 0, .canColumnEnd default 8,
    .canTxComplete default 8 0 default default, .canArbitrationLost default 8 0, .canError default 8 default default default,
    .busOn default 8 default, .canIntegrationDone default 8, .commit default 8 0, .send default 8 0, .cancel default 8 0 default,
    .serialEntryDue default 0 8, .runDelayExpiry default 8, .feedbackReleasedExpiry default 8, .fbFault default 8, .testPulseStart default 8 default,
    .testPulseEnd default 8 default, .binnacleSwitchCheck 8 default, .testAsStop 8, .soOverloadOff 8, .soOverloadRetry 8,
    .recordPost default default 8 0 [], .hostNote default 0 8 0, .logLevelWrite default 8] : List Instr).all (fun i => !i.wellFormed) = true := by decide +kernel

/-- A number of 2 or more where a command names network or domain: not well-formed. -/
theorem test_wf_refuses_network_and_domain :
    ([.ppsCfgWrite default 2 default 0, .ptpAsymWrite default 2 0, .ptpMessageReceived default 2 0 default, .ptpMessageReceived default 0 2 default,
    .announceTimeout default 2 0, .announceTimeout default 0 2, .ptpMessageTx default 2 default, .ppsEdge default 2,
    .ethFrameReceived default 2 default, .ethLinkChange default 2 default 0, .rapRequest default 2 0 []] : List Instr).all (fun i => !i.wellFormed) = true := by decide +kernel

/-- A number of 64 or more where a command names buffer word: not well-formed. -/
theorem test_wf_refuses_buffer_word :
    ([.canSlotTrigger default 0 64, .redFwDataWrite default 64 default] : List Instr).all (fun i => !i.wellFormed) = true := by decide +kernel

/-- A number of 12 or more where a command names serial or sensor: not well-formed. -/
theorem test_wf_refuses_serial_and_sensor :
    ([.serialCharReceived default 12 0 default, .serLine default 12 default, .serialEntryDue default 12 0, .serialSentenceSent default 12,
    .sensorFault default 12, .substitutionZone default 12, .sensorRecovered default 12] : List Instr).all (fun i => !i.wellFormed) = true := by decide +kernel

/-- A number of 255 or more where a command names client: not well-formed. -/
theorem test_wf_refuses_client :
    ([.read default 255 0 0 0, .write default 255 0 0 [], .laneRestart default 255 0 default, .safetyChallenge default 255 0,
    .safetyOpen default 255 0 [], .safetyClose default 255 0, .nonceExpiry default 255, .clientEntryExpiry default 255,
    .chartBegin default 255 0 0 0 [], .chartData default 255 0 0 [], .chartEnd default 255 0, .serSend default 255 0 0 [],
    .sfTpWrite default 255 default, .registerWrite default 255 0 default] : List Instr).all (fun i => !i.wellFormed) = true := by decide +kernel

/-- A number of 65536 or more where a command names count: not well-formed. -/
theorem test_wf_refuses_count :
    ([.read default 0 0 65536 0] : List Instr).all (fun i => !i.wellFormed) = true := by decide +kernel

/-- A number of 4096 or more where a command names sensor mask: not well-formed. -/
theorem test_wf_refuses_sensor_mask :
    ([.thermRetireWrite default 4096] : List Instr).all (fun i => !i.wellFormed) = true := by decide +kernel

/-- Commands with every number in its range are well-formed. -/
theorem test_wf_accepts :
    (Instr.modeReq .a 15 255).wellFormed = true ∧ (Instr.read .b 254 0 65535 0).wellFormed = true ∧
    (Instr.serSend .a 0 1 2 [255, 0]).wellFormed = true ∧ (Instr.grantResolve).wellFormed = true := by decide

end Sys2Proof.Tests
end

section
/-! Lemmas on commands of one lane: from the effect on the lane to what the command answers, and the frames of chains of
register writes and events. -/

namespace Sys2Proof.Machine

open Sys2Proof

/-! ### Commands of one lane -/

section

variable {i : Instr} {l : LaneId} {s : State} {f : Lane → Lane}

/-- A command that is an operation on lane `l` changes nothing but that lane. -/
theorem onLane_of_exec {P : Lane → Lane → Prop} (he : exec i s = onLane l f s) (h : P (s.lane l) (f (s.lane l))) : OnLane i l s P :=
  ⟨_, he, h⟩

/-- A command that is an operation on lane `l` which leaves the lane as it is, leaves the module as it is. -/
theorem idle_of_exec (he : exec i s = onLane l f s) (h : f (s.lane l) = s.lane l) : Idle i s := by
  unfold Idle
  rw [he]
  unfold onLane State.upd
  rw [h, State.setLane_lane]

end

/-! ### Reading a field that was set -/

/-- A field that was set to a value of its width reads that value. -/
theorem Lane.get_set_fit (L : Lane) (f : Fld) {v : Nat} (h : f.lo + f.w ≤ 32) (hv : v < 2 ^ f.w) : (L.set f v).get f = v := by
  rw [L.get_set_same f v h, Nat.mod_eq_of_lt hv]

/-- A flag that was set reads it. -/
theorem Lane.get_setb (L : Lane) (f : Fld) (b : Bool) (h : f.lo + 1 ≤ 32) (hw : f.w = 1) : (L.setb f b).get f = if b then 1 else 0 := by
  unfold Lane.setb
  exact L.get_set_fit f (hw ▸ h) (by rw [hw]; split <;> decide)

theorem Lane.findIf_get (L : Lane) (c : Bool) (p b : Nat) (g : Fld) : (L.findIf c p b).get g = L.get g := by cases c <;> rfl

theorem Lane.findIf_sf (L : Lane) (c : Bool) (p b : Nat) : (L.findIf c p b).sf = L.sf := by cases c <;> rfl

theorem Lane.findIf_sx (L : Lane) (c : Bool) (p b : Nat) : (L.findIf c p b).sx = L.sx := by cases c <;> rfl

/-- An event found stays found where another may be. -/
theorem Lane.mem_findIf {L : Lane} {e : Found} (c : Bool) (p b : Nat) (h : e ∈ L.found) : e ∈ (L.findIf c p b).found := by
  cases c
  · exact h
  · exact List.mem_append_left _ h

theorem Lane.setAll_nil (L : Lane) : L.setAll [] = L := (rfl)
theorem Lane.setAll_cons (L : Lane) (f : Fld) (v : Nat) (r : List (Fld × Nat)) : L.setAll ((f, v) :: r) = (L.set f v).setAll r := (rfl)

/-! ### Lanes that differ in registers and events only -/

theorem Lane.onlyRegs_refl (L : Lane) : L.onlyRegs L := rfl

theorem Lane.onlyRegs_setWord {L M : Lane} (a : Nat) (v : Word) (h : L.onlyRegs M) : L.onlyRegs (M.setWord a v) := h

theorem Lane.onlyRegs_set {L M : Lane} (f : Fld) (v : Nat) (h : L.onlyRegs M) : L.onlyRegs (M.set f v) := h

/-- What is read of a lane without its registers and events reads the same on such a lane. -/
theorem Lane.read_of_onlyRegs {α : Type} (g : Lane → α) (hg : ∀ (N : Lane) r e, g { N with regs := r, found := e } = g N) {L M : Lane}
    (h : L.onlyRegs M) : g M = g L := (hg M L.regs L.found).symm.trans (congrArg g h)

/-- The chronometer of such a lane stands where it stood. -/
theorem Lane.now_of_onlyRegs {L M : Lane} (h : L.onlyRegs M) : M.now = L.now := Lane.read_of_onlyRegs Lane.now (fun _ _ _ => rfl) h

/-! ### Frames -/

theorem Lane.framed_refl (L : Lane) (fs : List Fld) : L.framed L fs [] := ⟨L.keepsBut_refl fs, by simp, rfl⟩

/-- A listed field set keeps the frame. -/
theorem Lane.framed_set {L M : Lane} {fs : List Fld} {es : List (Nat × Nat)} {f : Fld} (v : Nat) (hm : f ∈ fs) (hf : f.lo + f.w ≤ 32)
    (h : L.framed M fs es) : L.framed (M.set f v) fs es :=
  ⟨Lane.keepsBut_set v hf hm h.1, h.2.1, h.2.2⟩

theorem Lane.framed_setb {L M : Lane} {fs : List Fld} {es : List (Nat × Nat)} {f : Fld} (b : Bool) (hm : f ∈ fs) (hf : f.lo + f.w ≤ 32)
    (h : L.framed M fs es) : L.framed (M.setb f b) fs es := Lane.framed_set _ hm hf h

/-- Listed fields set keep the frame. -/
theorem Lane.framed_setAll {L : Lane} {fs : List Fld} {es : List (Nat × Nat)} (r : List (Fld × Nat)) :
    ∀ {M : Lane}, (∀ p ∈ r, p.1 ∈ fs ∧ p.1.lo + p.1.w ≤ 32) → L.framed M fs es → L.framed (M.setAll r) fs es := by
  induction r with
  | nil => exact fun _ h => h
  | cons p r ih =>
    intro M hr h
    obtain ⟨⟨hm, hf⟩, hr⟩ := List.forall_mem_cons.1 hr
    exact ih hr (Lane.framed_set p.2 hm hf h)

/-- An event found is one more event of the frame. -/
theorem Lane.framed_find {L M : Lane} {fs : List Fld} {es : List (Nat × Nat)} (p b : Nat) (h : L.framed M fs es) :
    L.framed (M.find p b) fs (es ++ [(p, b)]) := by
  obtain ⟨hk, hf, ho⟩ := h
  refine ⟨Lane.keepsBut_find p b hk, ?_, ho⟩
  simp [hf, Lane.ev, Lane.now_of_onlyRegs ho]

/-- A write to an absent page or unit is counted (00 R8, R11). -/
theorem Lane.countsAbsent_absentWrite (L : Lane) {a : Nat} (ha : a < 2 ^ 32) : L.countsAbsent (L.absentWrite a) a := by
  refine ⟨?_, ?_, ?_⟩
  · show ((L.incSat Reg.MOD_ABSENT_CNT).set Reg.MOD_ABSENT_ADDR_w a).get Reg.MOD_ABSENT_CNT = _
    rw [Lane.get_set_addr _ _ (by decide)]
    exact L.get_incSat Reg.MOD_ABSENT_CNT 1 (by decide)
  · exact Lane.get_set_fit _ Reg.MOD_ABSENT_ADDR_w (by decide) ha
  · exact Lane.framed_find 0 0 (Lane.framed_set _ (by decide) (by decide) (Lane.framed_set _ (by decide) (by decide) (L.framed_refl _)))

/-- A command that writes a register of a present page has its effect. -/
theorem Lane.atReg_present {L : Lane} {a : Nat} (f : Lane → Lane) (h : pagePresent L.variant (a / 0x400) = true) : L.atReg a f = f L :=
  if_pos h

/-- A command that writes a register of an absent page is a write to that page. -/
theorem Lane.atReg_absent {L : Lane} {a : Nat} (f : Lane → Lane) (h : pagePresent L.variant (a / 0x400) = false) :
    L.atReg a f = L.absentWrite a := if_neg (by rw [h]; decide)

/-- The Sextant's pages are those of the KX960 (18 R609). -/
theorem pagePresent_sextant (v : Variant) : pagePresent v 0x30 = decide (v = .kx960) := by cases v <;> decide

end Sys2Proof.Machine
end

section
/-! Masks over small numbers, and the bits of a field that was set to one. -/

namespace Sys2Proof.Machine

open Sys2Proof

theorem testBit_eq_natTestBit (v n : Nat) : testBit v n = Nat.testBit v n := by
  unfold testBit
  rw [Nat.testBit_eq_decide_div_mod_eq]
  rcases Nat.mod_two_eq_zero_or_one (v / 2 ^ n) with h | h <;> rw [h] <;> rfl

theorem maskOf_succ (n : Nat) (p : Nat → Bool) : maskOf (n + 1) p = if p n then maskOf n p + 2 ^ n else maskOf n p := by
  simp only [maskOf, List.range_succ, List.foldl_append, List.foldl_cons, List.foldl_nil]

theorem maskOf_lt (n : Nat) (p : Nat → Bool) : maskOf n p < 2 ^ n := by
  induction n with
  | zero => exact Nat.one_pos
  | succ n ih => rw [maskOf_succ, pow_succ]; split <;> omega

/-- The bits of a mask are the numbers it is made of. -/
theorem testBit_maskOf (n : Nat) (p : Nat → Bool) (k : Nat) : testBit (maskOf n p) k = (decide (k < n) && p k) := by
  rw [testBit_eq_natTestBit]
  induction n with
  | zero => simp [maskOf]
  | succ n ih =>
    rw [maskOf_succ]
    by_cases hk : k = n
    · subst hk
      have hlow : Nat.testBit (maskOf k p) k = false := Nat.testBit_lt_two_pow (maskOf_lt k p)
      cases hp : p k
      · simpa using hlow
      · simp [add_comm _ (2 ^ k), Nat.testBit_two_pow_add_eq, hlow]
    · have hlt : decide (k < n + 1) = decide (k < n) := by simp only [decide_eq_decide]; omega
      rw [hlt, ← ih]
      cases p n
      · rfl
      · have hor := Nat.two_pow_add_eq_or_of_lt (maskOf_lt n p) 1
        rw [if_pos rfl, add_comm, ← Nat.mul_one (2 ^ n), hor, Nat.testBit_or, Nat.mul_one, Nat.testBit_two_pow]
        simp [Ne.symm hk]

/-- The bits of a mask field that was set. -/
theorem Lane.bit_set_same (L : Lane) (f : Fld) (v n : Nat) (h : f.lo + f.w ≤ 32) (hn : n < f.w) : (L.set f v).bit f n = testBit v n := by
  show testBit ((L.set f v).get f) n = _
  rw [L.get_set_same f v h, testBit_eq_natTestBit, testBit_eq_natTestBit, Nat.testBit_mod_two_pow]
  simp [hn]

end Sys2Proof.Machine
end

section
/-! Register writes (18 R601-R605, R607, R615, R618, R619): what each kind of write does to the lane. -/

namespace Sys2Proof.Machine

open Sys2Proof

/-! ### A write by address (R601-R605) -/

section

variable {L : Lane} {client : Option Nat} {a : Nat} {v : Word}

/-- A misaligned write is ignored. -/
theorem Lane.writeReg_misaligned (h : a % 4 ≠ 0) : (L.writeReg client a v).1 = L := by
  simp [Lane.writeReg, h]

/-- A write outside the map or to an absent page is counted. -/
theorem Lane.writeReg_absent (h4 : a % 4 = 0) (h : 0x40000 ≤ a ∨ pagePresent L.variant (a / 0x400) = false) :
    (L.writeReg client a v).1 = L.absentWrite a := by
  simp [Lane.writeReg, h4, h]

/-- A write of a reserved register is ignored. -/
theorem Lane.writeReg_reserved (ha : a < 0x40000) (hp : pagePresent L.variant (a / 0x400) = true) (hr : rowAt a = none) :
    (L.writeReg client a v).1 = L := by
  by_cases h4 : a % 4 = 0
  · simp [Lane.writeReg, h4, hp, hr, Nat.not_le.2 ha]
  · exact Lane.writeReg_misaligned h4

variable {r : RegRow} (h4 : a % 4 = 0) (ha : a < 0x40000) (hp : pagePresent L.variant (a / 0x400) = true) (hr : rowAt a = some r)
include h4 ha hp hr

/-- A write of a word without a writable field is ignored. -/
theorem Lane.writeReg_readOnly (hw : r.writable = false) : (L.writeReg client a v).1 = L := by
  simp [Lane.writeReg, h4, hp, hr, Nat.not_le.2 ha, hw]

/-- A write of a word with writable fields, none of them RWS, is the register's own. -/
theorem Lane.writeReg_present (hw : r.writable = true) (hs : r.rws = 0) : (L.writeReg client a v).1 = L.presentWrite r a v := by
  simp [Lane.writeReg, h4, hp, hr, Nat.not_le.2 ha, hw, hs]

/-- A write of an RWS field outside a session of the client is ignored. -/
theorem Lane.writeReg_noSession {c : Nat} (hs : r.rws ≠ 0) (hc : L.sessionOf c = false) : (L.writeReg (some c) a v).1 = L := by
  have hw : r.writable = true := by simp [RegRow.writable, hs]
  simp [Lane.writeReg, h4, hp, hr, Nat.not_le.2 ha, hw, hs, hc]

/-- A write of an RWS field in a session of the client. -/
theorem Lane.writeReg_session {c : Nat} (hs : r.rws ≠ 0) (hc : L.sessionOf c = true) :
    (L.writeReg (some c) a v).1 = (L.sfTpWrite c true v.toNat).1 := by
  have hw : r.writable = true := by simp [RegRow.writable, hs]
  simp [Lane.writeReg, h4, hp, hr, Nat.not_le.2 ha, hw, hs, hc]

end

/-- A write of a plain word, its value below 2^31, takes the RW fields. -/
theorem Lane.presentWrite_plain {L : Lane} {r : RegRow} {a : Nat} {v : Word} (hoff : a % 0x400 ∉ [0x08, 0x14, 0x18]) (hv : v.toNat < 2 ^ 31)
    (ho : L.ownWrite a v = none) : L.presentWrite r a v = L.plainWrite r a v := by
  simp only [List.mem_cons, List.not_mem_nil, or_false, not_or] at hoff
  obtain ⟨h8, h14, h18⟩ := hoff
  have hgo : ¬2 ^ 31 ≤ v.toNat := Nat.not_le.2 hv
  simp only [Lane.presentWrite, h8, h14, h18, hgo, ho, if_false]

/-! ### The test pulse settings (R619; 13 R510, R516) -/

/-- The row of SF_TP, whose fields are RWS. -/
theorem rowAt_sfTp : rowAt Reg.SF_TP_PERIOD.addr = some ⟨0x3c, 0, 1, 0x0, 0x0, 0x0, 0xffff00ff, 0x0⟩ := by decide

/-- The page of SF_TP is present on every variant. -/
theorem pagePresent_sfTp (v : Variant) : pagePresent v (Reg.SF_TP_PERIOD.addr / 0x400) = true := by cases v <;> decide

/-- Without a session of the client SF_TP keeps its value (R619). -/
theorem Lane.writeSfTp_noSession {L : Lane} {c : Nat} (v : Word) (h : L.rap.session.map Prod.fst ≠ some c) :
    (L.writeReg (some c) Reg.SF_TP_PERIOD.addr v).1 = L :=
  Lane.writeReg_noSession (by decide) (by decide) (pagePresent_sfTp _) rowAt_sfTp (by decide) (decide_eq_false h)

/-- In a session of the client the write of SF_TP is that of the Safety channel. -/
theorem Lane.writeSfTp_session {L : Lane} {c : Nat} (v : Word) (h : L.rap.session.map Prod.fst = some c) :
    (L.writeReg (some c) Reg.SF_TP_PERIOD.addr v).1 = (L.sfTpWrite c true v.toNat).1 :=
  Lane.writeReg_session (by decide) (by decide) (pagePresent_sfTp _) rowAt_sfTp (by decide) (decide_eq_true h)

/-- The test pulse settings with this period, width and outputs enabled, as the word of SF_TP. -/
def sfTpWord (p d en : Nat) : Word := BitVec.ofNat 32 (p * 2 ^ 22 + d * 2 ^ 16 + en)

section

variable {p d en : Nat} (hp : p ≤ 600) (hd : d ≤ 45) (hen : en < 256)
include hp hd hen

theorem toNat_sfTpWord : (sfTpWord p d en).toNat = p * 2 ^ 22 + d * 2 ^ 16 + en := by
  unfold sfTpWord
  rw [BitVec.toNat_ofNat]
  omega

theorem period_sfTpWord : Reg.SF_TP_PERIOD.of (sfTpWord p d en) = p := by
  simp only [Fld.of, toNat_sfTpWord hp hd hen]
  omega

theorem width_sfTpWord : Reg.SF_TP_WIDTH.of (sfTpWord p d en) = d := by
  simp only [Fld.of, toNat_sfTpWord hp hd hen]
  omega

theorem enable_sfTpWord : Reg.SF_TP_EN.of (sfTpWord p d en) = en := by
  simp only [Fld.of, toNat_sfTpWord hp hd hen]
  omega

end

/-- A change of the test pulse settings with values in range: logged where the change log takes an entry, else an event (R510, R516). -/
theorem Lane.sfTpWrite_inRange {L : Lane} {p d en : Nat} (c : Nat) (hact : L.active = true) (hp1 : 1 ≤ p) (hp : p ≤ 600) (hd10 : 10 ≤ d)
    (hd : d ≤ 45) (hen : en < 256) :
    (L.sfTpWrite c true (sfTpWord p d en).toNat).1 =
      if L.mayLogChange then
        let N := L.setAll [(Reg.SF_TP_PERIOD, p), (Reg.SF_TP_WIDTH, d), (Reg.SF_TP_EN, en)]
        N.logChange 4 c [Reg.SF_TP_PERIOD.addr, (L.word Reg.SF_TP_PERIOD.addr).toNat, (N.word Reg.SF_TP_PERIOD.addr).toNat, 0, 0, 0, 0, 0]
      else L.find 0x59 2 := by
  have h1 : ¬p < 1 := Nat.not_lt.2 hp1
  have h2 : ¬600 < p := Nat.not_lt.2 hp
  have h3 : ¬d < 10 := Nat.not_lt.2 hd10
  have h4 : ¬45 < d := Nat.not_lt.2 hd
  simp only [Lane.sfTpWrite, BitVec.ofNat_toNat, BitVec.setWidth_eq, period_sfTpWord hp hd hen, width_sfTpWord hp hd hen,
    enable_sfTpWord hp hd hen, hact, h1, h2, h3, h4]
  cases L.mayLogChange <;> rfl

/-- The change log's registers: its count, its page's STAT, and the password's changes. -/
def changeLogAddrs : List Nat := [Reg.SF_LOG_CNT_USED.addr, Reg.SFL_STAT_LOG_LOW.addr, Reg.SF_PW_INITIAL.addr]

/-- A field outside the change log's registers does not see the change log shown. -/
theorem Lane.get_sfLogShow (L : Lane) {f : Fld} (hf : f.addr ∉ changeLogAddrs) : L.sfLogShow.get f = L.get f := by
  simp only [changeLogAddrs, List.mem_cons, List.not_mem_nil, or_false, not_or] at hf
  obtain ⟨hcnt, hstat, hpw⟩ := hf
  simp only [Lane.sfLogShow, Lane.setSat, Lane.setAll_cons, Lane.setAll_nil, Lane.get_set_addr, ne_eq, hcnt, hstat, hpw, not_false_eq_true]

/-- A field outside the change log's registers does not see an entry written. -/
theorem Lane.get_logChange (L : Lane) (kind client : Nat) (data : List Nat) {f : Fld} (hf : f.addr ∉ changeLogAddrs) :
    (L.logChange kind client data).get f = L.get f := by
  unfold Lane.logChange
  rw [Lane.findIf_get, Lane.find_get, Lane.get_sfLogShow _ hf]
  rfl

/-- An entry written is the last of the change log. -/
theorem Lane.log_logChange (L : Lane) (kind client : Nat) (data : List Nat) :
    (L.logChange kind client data).sf.log = L.sf.log ++ [⟨L.sf.log.length + 1, kind, L.timeValid, decide (L.id = .b), client, L.now, data⟩] := by
  unfold Lane.logChange
  rw [Lane.findIf_sf]
  rfl

/-- An entry written is an event. -/
theorem Lane.ev_mem_logChange (L : Lane) (kind client : Nat) (data : List Nat) : L.ev 0x59 0 ∈ (L.logChange kind client data).found := by
  unfold Lane.logChange
  refine Lane.mem_findIf _ _ _ ?_
  rw [Lane.find_found]
  exact List.mem_append_right _ (List.mem_singleton_self _)

/-! ### Events of a page (R607, R615, R618) -/

theorem evEn_fits (p : Nat) : (evEn p).lo + (evEn p).w ≤ 32 := show 0 + 8 ≤ 32 by decide

theorem evPend_fits (p : Nat) : (evPend p).lo + (evPend p).w ≤ 32 := show 0 + 8 ≤ 32 by decide

/-- EVT_EN takes the bits of the events defined. -/
theorem Lane.bit_evtEnable (L : Lane) (p v n : Nat) (hn : n < 8) :
    (L.evtEnable p v).bit (evEn p) n = (testBit v n && testBit (evDefined p) n) := by
  unfold Lane.evtEnable
  rw [L.bit_set_same _ _ _ (evEn_fits p) hn]
  simp only [testBit_eq_natTestBit, Nat.testBit_and]

theorem Lane.framed_evtEnable (L : Lane) (p v : Nat) : L.framed (L.evtEnable p v) [evEn p] [] :=
  Lane.framed_set _ (List.mem_singleton_self _) (evEn_fits p) (L.framed_refl _)

/-- EVT_PEND drops the bits written 1 whose event's condition is not unmet. -/
theorem Lane.bit_pendClear (L : Lane) (p mask n : Nat) (hn : n < 8) :
    (L.pendClear p mask).bit (evPend p) n = (L.bit (evPend p) n && !(testBit mask n && decide (L.causeHolds p n ≠ some true))) := by
  unfold Lane.pendClear
  rw [L.bit_set_same _ _ _ (evPend_fits p) hn, testBit_maskOf]
  simp [hn]

theorem Lane.framed_pendClear (L : Lane) (p mask : Nat) : L.framed (L.pendClear p mask) [evPend p] [] :=
  Lane.framed_set _ (List.mem_singleton_self _) (evPend_fits p) (L.framed_refl _)

/-- The causes of events are read outside EVT_PEND and EVC_CLEAR: a lane that differs only in registers at their offsets has the same. -/
theorem Lane.causeHolds_congr {L M : Lane} (ho : L.onlyRegs M)
    (hg : ∀ f : Fld, f.addr % 0x400 ≠ 0x18 → f.addr % 0x400 ≠ 0x64 → M.get f = L.get f) (p n : Nat) : M.causeHolds p n = L.causeHolds p n := by
  have hlog : M.log = L.log := Lane.read_of_onlyRegs Lane.log (fun _ _ _ => rfl) ho
  have hctl : M.ctl = L.ctl := Lane.read_of_onlyRegs Lane.ctl (fun _ _ _ => rfl) ho
  have hrap : M.rap = L.rap := Lane.read_of_onlyRegs Lane.rap (fun _ _ _ => rfl) ho
  have hred : M.red = L.red := Lane.read_of_onlyRegs Lane.red (fun _ _ _ => rfl) ho
  have hflag : ∀ f : Fld, f.addr % 0x400 ≠ 0x18 → f.addr % 0x400 ≠ 0x64 → M.flag f = L.flag f := fun f h1 h2 => by
    unfold Lane.flag
    rw [hg f h1 h2]
  unfold Lane.causeHolds
  dsimp only
  repeat' refine ite_congr rfl (fun _ => ?_) (fun _ => ?_)
  all_goals simp (disch := (simp only [ne_eq] <;> omega)) only [Lane.active, Lane.timeValid, Lane.pll, Lane.refState, Lane.supplyOk,
    Lane.canState, RefIn.idx, Supply.idx, hflag, hg, hlog, hctl, hrap, hred] <;> rfl

/-- EVT_PEND of another page, and every other register but it, does not see a page's bits cleared. -/
theorem Lane.get_pendClear_other (L : Lane) {p mask : Nat} {f : Fld} (h : f.addr ≠ (evPend p).addr) : (L.pendClear p mask).get f = L.get f :=
  L.get_set_addr _ h

/-! ### EVC_CLEAR (R618) -/

/-- EVC_CLEAR on one page that raises events. -/
def Lane.evcClearPage (all : Bool) (e : Nat) (L : Lane) (p : Nat) : Lane :=
  if all then L.pendClear p 0xFF else if evBase p ≤ e ∧ e < evBase p + 8 then L.pendClear p (2 ^ (e - evBase p)) else L

/-- EVC_CLEAR with its number or ALL shown. -/
def Lane.evcShown (L : Lane) (all : Bool) (e : Nat) : Lane := 
  (L.set Reg.EVC_CLEAR_ALL (if all then 1 else 0)).set Reg.EVC_CLEAR_EVENT e

/-- EVC_CLEAR clears page by page. -/
theorem Lane.evcClear_eq (L : Lane) (all : Bool) (e : Nat) :
    L.evcClear all e = (L.evPagesHere.foldl (Lane.evcClearPage all e) (L.evcShown all e)) := rfl

/-- Whether EVC_CLEAR names bit `n` of page `p`. -/
def evcHits (all : Bool) (e p n : Nat) : Bool := all || decide (e = evBase p + n)

/-- On its page EVC_CLEAR drops the bits it names whose event's condition is not unmet. -/
theorem Lane.bit_evcClearPage (L : Lane) (all : Bool) (e p n : Nat) (hn : n < 8) :
    (L.evcClearPage all e p).bit (evPend p) n = (L.bit (evPend p) n && !(evcHits all e p n && decide (L.causeHolds p n ≠ some true))) := by
  unfold Lane.evcClearPage evcHits
  cases all
  · by_cases h : evBase p ≤ e ∧ e < evBase p + 8
    · have hbit : testBit (2 ^ (e - evBase p)) n = decide (e = evBase p + n) := by
        rw [testBit_eq_natTestBit, Nat.testBit_two_pow, decide_eq_decide]
        omega
      rw [if_neg Bool.false_ne_true, if_pos h, L.bit_pendClear p _ n hn, hbit, Bool.false_or]
    · have hne : ¬e = evBase p + n := by omega
      simp [h, hne]
  · have hbit : testBit 0xFF n = true := by interval_cases n <;> rfl
    rw [if_pos rfl, L.bit_pendClear p _ n hn, hbit, Bool.true_or]

/-- EVC_CLEAR on a page reaches that page's EVT_PEND only. -/
theorem Lane.get_evcClearPage_other (L : Lane) (all : Bool) (e p : Nat) {f : Fld} (h : f.addr ≠ (evPend p).addr) :
    (L.evcClearPage all e p).get f = L.get f := by
  unfold Lane.evcClearPage
  split_ifs
  · exact L.get_pendClear_other h
  · exact L.get_pendClear_other h
  · rfl

/-- EVC_CLEAR on a page finds no event. -/
theorem Lane.found_evcClearPage (L : Lane) (all : Bool) (e p : Nat) : (L.evcClearPage all e p).found = L.found := by
  unfold Lane.evcClearPage
  split_ifs <;> rfl

theorem Lane.onlyRegs_evcClearPage (L : Lane) (all : Bool) (e p : Nat) : L.onlyRegs (L.evcClearPage all e p) := by
  unfold Lane.evcClearPage
  split_ifs <;> rfl

/-- EVC_CLEAR on a page changes no event's cause. -/
theorem Lane.causeHolds_evcClearPage (L : Lane) (all : Bool) (e p q n : Nat) : (L.evcClearPage all e p).causeHolds q n = L.causeHolds q n :=
  Lane.causeHolds_congr (L.onlyRegs_evcClearPage all e p) (fun f h _ => L.get_evcClearPage_other all e p fun hf => by
    rw [hf] at h
    simp only [evPend] at h
    omega) q n

/-- EVT_PEND of different pages are different registers. -/
theorem evPend_addr_inj {p q : Nat} (h : (evPend p).addr = (evPend q).addr) : p = q := by
  simp only [evPend] at h
  omega

/-- The bits of a page after EVC_CLEAR on a list of pages. -/
theorem Lane.bit_evcClear_foldl (all : Bool) (e p n : Nat) (hn : n < 8) (ps : List Nat) : ∀ L : Lane,
    (ps.foldl (Lane.evcClearPage all e) L).bit (evPend p) n =
      (L.bit (evPend p) n && !(decide (p ∈ ps) && (evcHits all e p n && decide (L.causeHolds p n ≠ some true)))) := by
  induction ps with
  | nil => simp
  | cons q ps ih =>
    intro L
    rw [List.foldl_cons, ih, L.causeHolds_evcClearPage]
    by_cases hq : p = q
    · subst hq
      rw [L.bit_evcClearPage all e p n hn]
      cases L.bit (evPend p) n <;> cases evcHits all e p n && decide (L.causeHolds p n ≠ some true) <;> simp
    · have hkeep : (L.evcClearPage all e q).bit (evPend p) n = L.bit (evPend p) n := by
        unfold Lane.bit
        rw [L.get_evcClearPage_other all e q (mt evPend_addr_inj hq)]
      simp [hkeep, hq]

/-- Registers at other offsets than EVT_PEND's, and the events found, after EVC_CLEAR on a list of pages. -/
theorem Lane.get_evcClear_foldl (all : Bool) (e : Nat) {f : Fld} (hf : f.addr % 0x400 ≠ 0x18) (ps : List Nat) : ∀ L : Lane,
    (ps.foldl (Lane.evcClearPage all e) L).get f = L.get f := by
  induction ps with
  | nil => exact fun _ => rfl
  | cons q ps ih =>
    intro L
    rw [List.foldl_cons, ih]
    exact L.get_evcClearPage_other all e q fun h => hf (by rw [h]; simp only [evPend]; omega)

theorem Lane.found_evcClear_foldl (all : Bool) (e : Nat) (ps : List Nat) : ∀ L : Lane, (ps.foldl (Lane.evcClearPage all e) L).found = L.found := by
  induction ps with
  | nil => exact fun _ => rfl
  | cons q ps ih =>
    intro L
    rw [List.foldl_cons, ih, L.found_evcClearPage]

/-- EVC_CLEAR shown is EVC_CLEAR's own register changed. -/
theorem Lane.get_evcShown_other (L : Lane) (all : Bool) (e : Nat) {f : Fld} (h : f.addr ≠ 0x1C064) : (L.evcShown all e).get f = L.get f := by
  rw [Lane.evcShown, Lane.get_set_addr _ (g := Reg.EVC_CLEAR_EVENT) _ h, Lane.get_set_addr _ (g := Reg.EVC_CLEAR_ALL) _ h]

theorem Lane.causeHolds_evcShown (L : Lane) (all : Bool) (e p n : Nat) : (L.evcShown all e).causeHolds p n = L.causeHolds p n :=
  Lane.causeHolds_congr (Lane.onlyRegs_set _ _ (Lane.onlyRegs_set _ _ L.onlyRegs_refl)) (fun f _ h => L.get_evcShown_other all e fun hf => h (by rw [hf])) p n

/-- The bits of a page after EVC_CLEAR. -/
theorem Lane.bit_evcClear (L : Lane) (all : Bool) (e : Nat) {p n : Nat} (hp : p ∈ L.evPagesHere) (hn : n < 8) :
    (L.evcClear all e).bit (evPend p) n = (L.bit (evPend p) n && !(evcHits all e p n && decide (L.causeHolds p n ≠ some true))) := by
  have hkeep : (L.evcShown all e).bit (evPend p) n = L.bit (evPend p) n := by
    unfold Lane.bit
    rw [L.get_evcShown_other all e (by simp only [evPend]; omega)]
  rw [L.evcClear_eq, Lane.bit_evcClear_foldl all e p n hn, hkeep, L.causeHolds_evcShown, decide_eq_true hp, Bool.true_and]

theorem Lane.found_evcClear (L : Lane) (all : Bool) (e : Nat) : (L.evcClear all e).found = L.found := by
  rw [L.evcClear_eq, Lane.found_evcClear_foldl]
  rfl

theorem Lane.get_evcClear_all (L : Lane) (all : Bool) (e : Nat) : (L.evcClear all e).get Reg.EVC_CLEAR_ALL = if all then 1 else 0 := by
  rw [L.evcClear_eq, Lane.get_evcClear_foldl all e (by decide), Lane.evcShown,
    Lane.get_set_other _ _ _ _ (by decide) (by decide) (by decide), Lane.get_set_fit _ _ (by decide) (by cases all <;> decide)]

theorem Lane.get_evcClear_event (L : Lane) (all : Bool) {e : Nat} (he : e < 256) : (L.evcClear all e).get Reg.EVC_CLEAR_EVENT = e := by
  rw [L.evcClear_eq, Lane.get_evcClear_foldl all e (by decide), Lane.evcShown,
    Lane.get_set_fit _ _ (by decide) he]

/-! ### Counters cleared (01 R54) -/

/-- The counters of page 0x01. -/
def laneCounters : List Fld :=
  [Reg.LANE_ECC_DRAM_w, Reg.LANE_ECC_SRAM_w, Reg.LANE_ECC_MRAM_w, Reg.LANE_LOCKSTEP_CNT_w, Reg.LANE_XLINK_ERR_w]

/-- The counters of page 0x43. -/
def rapCounters : List Fld := [Reg.RAP_REQ_w, Reg.RAP_DISCARD_w, Reg.RAP_AUTH_TOTAL]

/-- Fields set to 0. -/
def Lane.zero (L : Lane) (fs : List Fld) : Lane := L.setAll (fs.map fun f => (f, 0))

theorem Lane.cntClr_lane (L : Lane) : L.cntClr 0x01 = L.zero laneCounters := rfl

theorem Lane.cntClr_rap (L : Lane) : L.cntClr 0x43 = L.zero rapCounters := rfl

theorem Lane.framed_zero (L : Lane) {fs : List Fld} (hfit : ∀ f ∈ fs, f.lo + f.w ≤ 32) : L.framed (L.zero fs) fs [] := by
  refine Lane.framed_setAll _ (fun p hp => ?_) (L.framed_refl fs)
  obtain ⟨f, hf, rfl⟩ := List.mem_map.1 hp
  exact ⟨hf, hfit f hf⟩

/-- A field apart from the fields set to 0 keeps its value. -/
theorem Lane.get_zero_apart (L : Lane) {fs : List Fld} {g : Fld} (hfit : ∀ f ∈ fs, f.lo + f.w ≤ 32) (hg : g.lo + g.w ≤ 32)
    (ha : ∀ f ∈ fs, g.apart f) : (L.zero fs).get g = L.get g := (L.framed_zero hfit).1 g hg ha

/-- Fields with no bit in common that were set to 0 read 0. -/
theorem Lane.get_zero (fs : List Fld) : ∀ L : Lane, (∀ f ∈ fs, f.lo + f.w ≤ 32) → fs.Pairwise Fld.apart → ∀ f ∈ fs, (L.zero fs).get f = 0 := by
  induction fs with
  | nil => exact fun _ _ _ f hf => absurd hf List.not_mem_nil
  | cons g gs ih =>
    intro L hfit hap f hf
    obtain ⟨hg, hgs⟩ := List.forall_mem_cons.1 hfit
    obtain ⟨hapg, hapgs⟩ := List.pairwise_cons.1 hap
    rcases List.mem_cons.1 hf with rfl | hf
    · exact ((L.set f 0).get_zero_apart hgs hg hapg).trans (L.get_set_fit f hg (by positivity))
    · exact ih (L.set g 0) hgs hapgs f hf

/-- MOD_ABSENT and its address after the clear (00 R9). -/
theorem Lane.framed_absentClear (L : Lane) : L.framed L.absentClear [Reg.MOD_ABSENT_CNT, Reg.MOD_ABSENT_ADDR_w] [] :=
  L.framed_zero (fs := [Reg.MOD_ABSENT_CNT, Reg.MOD_ABSENT_ADDR_w]) (by decide)

/-! ### The commands -/

section

variable (s : State) (l : LaneId)

/-- A word of a present page that has RW fields and no effect of its own takes the RW fields of the value written (R604, R605). -/
theorem onLane_registerWrite_plain {c a : Nat} {v : Word} {r : RegRow} (h4 : a % 4 = 0) (ha : a < 0x40000)
    (hp : pagePresent (s.lane l).variant (a / 0x400) = true) (hr : rowAt a = some r) (hrw : r.rw ≠ 0) (hrws : r.rws = 0)
    (hoff : a % 0x400 ∉ [0x08, 0x14, 0x18]) (hv : v.toNat < 2 ^ 31) (ho : (s.lane l).ownWrite a v = none) :
    OnLane (.registerWrite l c a v) l s fun L M =>
      M.word a = ((L.word a &&& ~~~(BitVec.ofNat 32 r.rw)) ||| (v &&& BitVec.ofNat 32 r.rw)) ∧ (∀ b, b ≠ a → M.word b = L.word b) ∧
      M.found = L.found ∧ L.onlyRegs M := by
  refine onLane_of_exec rfl ?_
  have hw : r.writable = true := by simp [RegRow.writable, hrw]
  rw [Lane.writeReg_present h4 ha hp hr hw hrws, Lane.presentWrite_plain hoff hv ho]
  exact ⟨Lane.word_setWord_same .., fun b hb => Lane.word_setWord_other _ _ hb, rfl, Lane.onlyRegs_setWord _ _ (Lane.onlyRegs_refl _)⟩

/-- New test pulse settings in a session of the client, the change log with room and the MRAM window open (R510, R516, R619). -/
theorem onLane_sfTpWrite_taken {c p d en : Nat} (hs : (s.lane l).rap.session.map Prod.fst = some c) (hact : (s.lane l).active = true)
    (hp1 : 1 ≤ p) (hp : p ≤ 600) (hd10 : 10 ≤ d) (hd : d ≤ 45) (hen : en < 256) (hroom : (s.lane l).sf.log.length < 256)
    (hopen : (s.lane l).flag Reg.THERM_WINDOW_OPEN = true) :
    OnLane (.sfTpWrite l c (sfTpWord p d en)) l s fun L M =>
      M.get Reg.SF_TP_PERIOD = p ∧ M.get Reg.SF_TP_WIDTH = d ∧ M.get Reg.SF_TP_EN = en ∧ L.ev 0x59 0 ∈ M.found ∧
      ∃ e, M.sf.log = L.sf.log ++ [e] ∧ e.kind = 4 ∧ e.client = c ∧ e.number = L.sf.log.length + 1 := by
  refine onLane_of_exec rfl ?_
  have hmay : (s.lane l).mayLogChange = true := by simp [Lane.mayLogChange, hroom, hopen]
  rw [Lane.writeSfTp_session _ hs, Lane.sfTpWrite_inRange c hact hp1 hp hd10 hd hen, if_pos hmay]
  refine ⟨?_, ?_, ?_, Lane.ev_mem_logChange _ _ _ _, _, Lane.log_logChange _ _ _ _, rfl, rfl, rfl⟩
  · rw [Lane.get_logChange _ _ _ _ (by decide)]
    simp (disch := decide) only [Lane.setAll_cons, Lane.setAll_nil, Lane.get_set_other]
    exact Lane.get_set_fit _ _ (by decide) (by show p < 1024; omega)
  · rw [Lane.get_logChange _ _ _ _ (by decide)]
    simp (disch := decide) only [Lane.setAll_cons, Lane.setAll_nil, Lane.get_set_other]
    exact Lane.get_set_fit _ _ (by decide) (by show d < 64; omega)
  · rw [Lane.get_logChange _ _ _ _ (by decide)]
    exact Lane.get_set_fit _ Reg.SF_TP_EN (by decide) hen

/-- New test pulse settings that the change log cannot take (R510). -/
theorem onLane_sfTpWrite_logFull {c p d en : Nat} (hs : (s.lane l).rap.session.map Prod.fst = some c) (hact : (s.lane l).active = true)
    (hp1 : 1 ≤ p) (hp : p ≤ 600) (hd10 : 10 ≤ d) (hd : d ≤ 45) (hen : en < 256)
    (hfull : 256 ≤ (s.lane l).sf.log.length ∨ (s.lane l).flag Reg.THERM_WINDOW_OPEN = false) :
    OnLane (.sfTpWrite l c (sfTpWord p d en)) l s fun L M => L.framed M [] [(0x59, 2)] := by
  refine onLane_of_exec rfl ?_
  have hmay : ¬(s.lane l).mayLogChange = true := by
    simp only [Lane.mayLogChange, Bool.and_eq_true, decide_eq_true_eq, not_and]
    rcases hfull with h | h
    · exact fun hlt => absurd hlt (by omega)
    · exact fun _ => by simp [h]
  rw [Lane.writeSfTp_session _ hs, Lane.sfTpWrite_inRange c hact hp1 hp hd10 hd hen, if_neg hmay]
  exact Lane.framed_find 0x59 2 (Lane.framed_refl _ _)

/-- A write of a header register or counter clear of an absent page is counted. -/
theorem countsAbsent_atReg {p off : Nat} {L : Lane} (f : Lane → Lane) (hp : p < 256) (hoff : off < 0x400) (ha : pagePresent L.variant p = false) :
    L.countsAbsent (L.atReg (p * 0x400 + off) f) (p * 0x400 + off) := by
  have hdiv : (p * 0x400 + off) / 0x400 = p := by omega
  rw [Lane.atReg_absent f (by rw [hdiv]; exact ha)]
  exact L.countsAbsent_absentWrite (by omega)

/-- A write of a header register of a present page. -/
theorem atReg_header {p off : Nat} {L : Lane} (f : Lane → Lane) (hoff : off < 0x400) (hp : pagePresent L.variant p = true) :
    L.atReg (p * 0x400 + off) f = f L := by
  have hdiv : (p * 0x400 + off) / 0x400 = p := by omega
  exact Lane.atReg_present f (by rw [hdiv]; exact hp)

end

/-- Settles O60: each kind of write is one case of the write by address, of the header's event registers or of EVC_CLEAR. -/
theorem registerWrites : Obligations.RegisterWrites := by
  unfold Obligations.RegisterWrites
  intro s l
  refine ⟨fun a ha => onLane_of_exec rfl (Lane.countsAbsent_absentWrite _ ha), ?_, fun c a v ha => ⟨?_, ?_, ?_, ?_⟩, ?_, ?_, ?_, ?_, ?_, ?_, ?_, ?_⟩
  · exact onLane_of_exec rfl ⟨Lane.get_zero [Reg.MOD_ABSENT_CNT, Reg.MOD_ABSENT_ADDR_w] _ (by decide) (by decide) _ (by decide),
      Lane.get_zero [Reg.MOD_ABSENT_CNT, Reg.MOD_ABSENT_ADDR_w] _ (by decide) (by decide) _ (by decide), Lane.framed_absentClear _⟩
  · exact fun h => idle_of_exec rfl (Lane.writeReg_misaligned h)
  · intro h4 h
    refine onLane_of_exec rfl ?_
    rw [Lane.writeReg_absent h4 h]
    exact Lane.countsAbsent_absentWrite _ ha
  · intro hlt hp hr
    refine ⟨idle_of_exec rfl (Lane.writeReg_reserved hlt hp hr), idle_of_exec rfl ?_⟩
    split
    · exact Lane.writeReg_reserved hlt hp hr
    · rfl
  · intro r h4 hlt hp hr
    refine ⟨fun hrw hw1c hwo hrws => idle_of_exec rfl ?_, fun hrw hrws hoff hv ho => ?_⟩
    · exact Lane.writeReg_readOnly h4 hlt hp hr (by simp [RegRow.writable, hrw, hw1c, hwo, hrws])
    · exact onLane_registerWrite_plain s l h4 hlt hp hr hrw hrws hoff hv ho
  · exact fun c v h => idle_of_exec rfl (Lane.writeSfTp_noSession v h)
  · exact fun c p d en hs hact hp1 hp hd10 hd hen =>
      ⟨onLane_sfTpWrite_taken s l hs hact hp1 hp hd10 hd hen, onLane_sfTpWrite_logFull s l hs hact hp1 hp hd10 hd hen⟩
  · intro p hp hdef
    refine ⟨fun v => onLane_of_exec rfl ?_, fun mask => onLane_of_exec rfl ?_⟩
    · rw [atReg_header _ (by decide) hp, if_pos hdef]
      exact ⟨fun n hn => Lane.bit_evtEnable _ p v n hn, Lane.framed_evtEnable _ p v⟩
    · rw [atReg_header _ (by decide) hp, if_pos hdef]
      exact ⟨fun n hn => Lane.bit_pendClear _ p mask n hn, Lane.framed_pendClear _ p mask⟩
  · exact fun p v hp ha => ⟨onLane_of_exec rfl (countsAbsent_atReg _ hp (by decide) ha), onLane_of_exec rfl (countsAbsent_atReg _ hp (by decide) ha),
      onLane_of_exec rfl (countsAbsent_atReg _ hp (by decide) ha)⟩
  · intro e he
    refine onLane_of_exec rfl ⟨Lane.get_evcClear_event _ false he, Lane.get_evcClear_all _ false e, Lane.found_evcClear _ false e, fun p n hp hn => ?_⟩
    rw [Lane.bit_evcClear _ false e hp hn, evcHits, Bool.false_or]
  · intro e he
    refine onLane_of_exec rfl ⟨Lane.get_evcClear_all _ true e, Lane.found_evcClear _ true e, fun p n hp hn => ?_⟩
    rw [Lane.bit_evcClear _ true e hp hn, evcHits, Bool.true_or, Bool.true_and]
    simp only [ne_eq, decide_not, Bool.not_not]
  · refine onLane_of_exec rfl ?_
    rw [atReg_header _ (by decide) (by cases (s.lane l).variant <;> decide), Lane.cntClr_rap]
    have hzero := Lane.get_zero rapCounters (s.lane l) (by decide) (by decide)
    exact ⟨hzero _ (by decide), hzero _ (by decide), hzero _ (by decide), Lane.get_zero_apart _ (by decide) (by decide) (by decide),
      Lane.framed_zero _ (by decide)⟩
  · refine onLane_of_exec rfl ?_
    rw [atReg_header _ (by decide) (by cases (s.lane l).variant <;> decide), Lane.cntClr_lane]
    exact ⟨Lane.get_zero laneCounters _ (by decide) (by decide), Lane.framed_zero _ (by decide)⟩

end Sys2Proof.Machine
end

section
/-! What reaches the Sextant from outside (07 R264, R265, R270, R288, R300, R302): the lane after each command. -/

namespace Sys2Proof.Machine

open Sys2Proof

/-! ### The Sextant's record changed -/

/-- A change of the Sextant's record on top of a frame. -/
theorem Lane.framedUpTo_onSx {L M : Lane} {fs : List Fld} {es : List (Nat × Nat)} (g : SextantSt → SextantSt) (h : L.framed M fs es) :
    L.framedUpTo (M.onSx g) fs es fun N => N.onSx fun _ => L.sx := by
  obtain ⟨hk, hf, ho⟩ := h
  have hback := congrArg (fun N : Lane => N.onSx fun _ => L.sx) (show { M with regs := L.regs, found := L.found } = L from ho)
  exact ⟨Lane.keepsBut_regs (M.onSx_regs g) hk, hf, hback⟩

theorem Lane.set_onSx (L : Lane) (f : Fld) (v : Nat) (g : SextantSt → SextantSt) : (L.onSx g).set f v = (L.set f v).onSx g := (rfl)

theorem Lane.setb_onSx (L : Lane) (f : Fld) (b : Bool) (g : SextantSt → SextantSt) : (L.onSx g).setb f b = (L.setb f b).onSx g := (rfl)

theorem Lane.flag_onSx (L : Lane) (f : Fld) (g : SextantSt → SextantSt) : (L.onSx g).flag f = L.flag f := (rfl)

theorem Lane.findIf_onSx (L : Lane) (c : Bool) (p b : Nat) (g : SextantSt → SextantSt) : (L.onSx g).findIf c p b = (L.findIf c p b).onSx g := by
  cases c <;> rfl

/-! ### What a lane holds of the satellites -/

/-- A list of satellites' data with the data of one changed. -/
def satPut (l : List SatData) (s : Sat) (f : SatData → SatData) : List SatData :=
  if l.any (fun d => decide (d.sat = s)) then l.map fun d => if d.sat = s then f d else d else l ++ [f { sat := s }]

theorem Lane.onSat_eq (L : Lane) (s : Sat) (f : SatData → SatData) : L.onSat s f = L.onSx fun x => { x with sats := satPut x.sats s f } := rfl

section

variable {f : SatData → SatData} (hf : ∀ d, (f d).sat = d.sat)
include hf

/-- The data of the satellite changed. -/
theorem find?_satPut_same (l : List SatData) (s : Sat) :
    (satPut l s f).find? (fun d => decide (d.sat = s)) = some (f ((l.find? fun d => decide (d.sat = s)).getD { sat := s })) := by
  unfold satPut
  induction l with
  | nil => simp [hf]
  | cons d l ih =>
    by_cases hd : d.sat = s
    · simp [hd, hf]
    · simp only [List.any_cons, hd, decide_false, Bool.false_or, List.map_cons, List.cons_append, if_false, List.find?_cons_of_neg,
        Bool.false_eq_true, not_false_eq_true] at ih ⊢
      rw [← ih]
      split <;> simp [hd]

/-- The data of every other satellite. -/
theorem find?_satPut_other (l : List SatData) {s t : Sat} (ht : t ≠ s) :
    (satPut l s f).find? (fun d => decide (d.sat = t)) = l.find? fun d => decide (d.sat = t) := by
  unfold satPut
  split
  · clear * - hf ht
    induction l with
    | nil => rfl
    | cons d l ih =>
      by_cases hd : d.sat = s
      · simp [hd, hf, ht.symm, ih]
      · by_cases hdt : d.sat = t
        · simp [hdt, ht]
        · simp [hd, hdt, ih]
  · simp [List.find?_append, hf, ht.symm]

/-- The data of every satellite after one's changed. -/
theorem Lane.satData_onSat (L : Lane) (s t : Sat) :
    (L.onSat s f).satData t = if t = s then some (f ((L.satData s).getD { sat := s })) else L.satData t := by
  rw [L.onSat_eq]
  split
  · next h => subst h; exact find?_satPut_same hf _ _
  · next h => exact find?_satPut_other hf _ h

end

/-- A satellite's data `e` with those of the other lane, `d`, taken in (R270). -/
def SatData.taking (d e : SatData) : SatData :=
  let e := { e with almanac := e.almanac || d.almanac, eph := e.eph || d.eph }
  { e with healthy := if d.eph then d.healthy else e.healthy, elev := if d.elev.isSome then d.elev else e.elev }

/-- A lane with a list of satellites' data taken in. -/
def Lane.takeSats (L : Lane) (ds : List SatData) : Lane := ds.foldl (fun L d => L.onSat d.sat (SatData.taking d)) L

/-- Taking in satellites' data changes the list of satellites and nothing else. -/
theorem Lane.takeSats_eq (ds : List SatData) : ∀ L : Lane, ∃ sats, L.takeSats ds = L.onSx fun x => { x with sats := sats } := by
  induction ds with
  | nil => exact fun L => ⟨L.sx.sats, rfl⟩
  | cons d ds ih =>
    intro L
    obtain ⟨sats, h⟩ := ih (L.onSat d.sat (SatData.taking d))
    exact ⟨sats, h⟩

/-- What is held of a satellite, in ephemeris or almanac, after data were taken in: what was held, and what the data hold. -/
theorem Lane.any_satData_takeSats {p : SatData → Bool} (hp : ∀ d e, p (SatData.taking d e) = (p e || p d)) (hp0 : ∀ s, p { sat := s } = false)
    (ds : List SatData) (t : Sat) : ∀ L : Lane,
    ((L.takeSats ds).satData t).any p = ((L.satData t).any p || ds.any fun d => decide (d.sat = t) && p d) := by
  induction ds with
  | nil => intro L; simp [Lane.takeSats]
  | cons d ds ih =>
    intro L
    have hstep : ((L.onSat d.sat (SatData.taking d)).satData t).any p = ((L.satData t).any p || (decide (d.sat = t) && p d)) := by
      rw [L.satData_onSat (f := SatData.taking d) fun _ => rfl]
      by_cases h : t = d.sat
      · subst h
        cases L.satData d.sat <;> simp [hp, hp0]
      · simp [h, Ne.symm h]
    show (((L.onSat d.sat (SatData.taking d)).takeSats ds).satData t).any p = _
    rw [ih, hstep, List.any_cons, Bool.or_assoc]

/-! ### The other lane's data (R270) -/

/-- A lane with the Sextant's data of the other lane taken in. -/
def Lane.takeSextant (L : Lane) (o : SextantSt) : Lane :=
  ((L.takeSats o.sats).onSx fun x =>
    { x with gpsTime := x.gpsTime || o.gpsTime, posKnown := x.posKnown || o.posKnown, pos := if x.posKnown then x.pos else o.pos }).setb
    Reg.SX_STAT_LANE_DATA true

theorem exec_sextantDataReceived {s : State} {l : LaneId} (hon : (s.lane l).sxOn = true) (hother : (s.lane l.other).sxOn = true)
    (hage : (s.lane l).sx.askAge ≤ 200) (hflag : (s.lane l).flag Reg.SX_STAT_LANE_DATA = false)
    (hdata : (s.lane l.other).sx.sats ≠ [] ∨ (s.lane l.other).sx.posKnown = true) :
    exec (.sextantDataReceived l) s = onLane l (fun L => L.takeSextant (s.lane l.other).sx) s :=
  if_pos ⟨hon, hage, by rw [hflag]; rfl, hother, hdata⟩

theorem Lane.takeSextant_spec (L : Lane) (o : SextantSt) :
    let M := L.takeSextant o
    M.get Reg.SX_STAT_LANE_DATA = 1 ∧ M.sx.posKnown = (L.sx.posKnown || o.posKnown) ∧ M.sx.gpsTime = (L.sx.gpsTime || o.gpsTime) ∧
    M.sx.pos = (if L.sx.posKnown then L.sx.pos else o.pos) ∧ M.sx.chans = L.sx.chans ∧
    (∀ d ∈ o.sats, (d.eph = true → (M.satData d.sat).any SatData.eph = true) ∧ (d.almanac = true → (M.satData d.sat).any SatData.almanac = true)) ∧
    L.framedUpTo M [Reg.SX_STAT_LANE_DATA] [] fun N => N.onSx fun _ => L.sx := by
  intro M
  have hsats : ∀ t, M.satData t = (L.takeSats o.sats).satData t := fun _ => rfl
  have heph := Lane.any_satData_takeSats (p := SatData.eph) (fun _ _ => rfl) (fun _ => rfl) o.sats
  have halm := Lane.any_satData_takeSats (p := SatData.almanac) (fun _ _ => rfl) (fun _ => rfl) o.sats
  have hget : M.get Reg.SX_STAT_LANE_DATA = 1 := Lane.get_setb _ _ true (by decide) rfl
  obtain ⟨sats, h⟩ := L.takeSats_eq o.sats
  have hM : M = (L.setb Reg.SX_STAT_LANE_DATA true).onSx fun x =>
      { x with sats := sats, gpsTime := x.gpsTime || o.gpsTime, posKnown := x.posKnown || o.posKnown, pos := if x.posKnown then x.pos else o.pos } := by
    show Lane.takeSextant L o = _
    unfold Lane.takeSextant
    rw [h]
    rfl
  refine ⟨hget, by rw [hM]; rfl, by rw [hM]; rfl, by rw [hM]; rfl, by rw [hM]; rfl, fun d hd => ⟨fun he => ?_, fun ha => ?_⟩, ?_⟩
  · rw [hsats, heph, Bool.or_eq_true, List.any_eq_true]
    exact .inr ⟨d, hd, by simp [he]⟩
  · rw [hsats, halm, Bool.or_eq_true, List.any_eq_true]
    exact .inr ⟨d, hd, by simp [ha]⟩
  · rw [hM]
    exact Lane.framedUpTo_onSx _ (Lane.framed_setb true (by decide) (by decide) (L.framed_refl _))

/-! ### The bias of an antenna (R265) -/

/-- The registers of antenna `k` after a measurement of its bias current that finds the feed in state `st`. -/
def Lane.biasShown (L : Lane) (k cur st : Nat) : Lane :=
  ((L.setSat (Reg.ANT_BIAS_CURRENT (k + 1)) cur).set (Reg.ANT_BIAS_STATUS (k + 1)) st).set (Reg.ANT_STAT_BIAS (k + 1)) st

theorem Lane.get_biasShown (L : Lane) {k cur st : Nat} (hcur : cur < 4096) (hst : st < 4) :
    (L.biasShown k cur st).get (Reg.ANT_BIAS_CURRENT (k + 1)) = cur ∧ (L.biasShown k cur st).get (Reg.ANT_BIAS_STATUS (k + 1)) = st ∧
    (L.biasShown k cur st).get (Reg.ANT_STAT_BIAS (k + 1)) = st := by
  unfold Lane.biasShown Lane.setSat
  have hmin : min cur (2 ^ (Reg.ANT_BIAS_CURRENT (k + 1)).w - 1) = cur := by simp only; omega
  rw [hmin]
  have hcs : (Reg.ANT_BIAS_CURRENT (k + 1)).addr ≠ (Reg.ANT_STAT_BIAS (k + 1)).addr := by simp only [ne_eq]; omega
  have hss : (Reg.ANT_BIAS_STATUS (k + 1)).addr ≠ (Reg.ANT_STAT_BIAS (k + 1)).addr := by simp only [ne_eq]; omega
  have hap : (Reg.ANT_BIAS_CURRENT (k + 1)).apart (Reg.ANT_BIAS_STATUS (k + 1)) := .inr (.inr (by simp only; omega))
  rw [Lane.get_set_addr _ _ hcs, Lane.get_set_addr _ _ hss, Lane.get_set_apart _ _ (by simp only; omega) (by simp only; omega) hap]
  exact ⟨Lane.get_set_fit _ _ (by simp only; omega) hcur, Lane.get_set_fit _ _ (by simp only; omega) hst,
    Lane.get_set_fit _ _ (by simp only; omega) hst⟩

theorem Lane.get_biasShown_fault (L : Lane) (k cur st : Nat) :
    (L.biasShown k cur st).get (Reg.ANT_FAULT_BIAS_FAULT (k + 1)) = L.get (Reg.ANT_FAULT_BIAS_FAULT (k + 1)) := by
  unfold Lane.biasShown Lane.setSat
  rw [Lane.get_set_addr _ _ (by simp only; omega), Lane.get_set_addr _ _ (by simp only; omega), Lane.get_set_addr _ _ (by simp only; omega)]

/-- The fields that a measurement of an antenna's bias may change. -/
def biasFlds (k : Nat) : List Fld :=
  [Reg.ANT_BIAS_CURRENT (k + 1), Reg.ANT_BIAS_STATUS (k + 1), Reg.ANT_STAT_BIAS (k + 1), Reg.ANT_FAULT_BIAS_FAULT (k + 1)]

theorem Lane.framed_biasShown (L : Lane) (k cur st : Nat) : L.framed (L.biasShown k cur st) (biasFlds k) [] :=
  Lane.framed_set _ (by simp [biasFlds]) (by simp only; omega) <| Lane.framed_set _ (by simp [biasFlds]) (by simp only; omega) <|
    Lane.framed_set _ (by simp [biasFlds]) (by simp only; omega) (L.framed_refl _)

/-- A lane after a measurement of antenna `k`'s bias current that finds the feed in state `st`. -/
def Lane.biasMeasured (L : Lane) (k cur st : Nat) : Lane :=
  if 2 ≤ st ∧ st ≠ L.get (Reg.ANT_BIAS_STATUS (k + 1)) then
    ((L.biasShown k cur st).setb (Reg.ANT_FAULT_BIAS_FAULT (k + 1)) true).find (0x31 + k) 0
  else L.biasShown k cur st

/-- The state of a bias feed that is on or off, by its current in 0.1 mA and whether the limit is reached. -/
def biasState (on limited : Bool) (cur : Nat) : Nat := if on = false then 0 else if limited then 3 else if cur < 20 then 2 else 1

theorem biasState_lt (on limited : Bool) (cur : Nat) : biasState on limited cur < 4 := by
  unfold biasState
  split_ifs <;> decide

theorem exec_antBiasFault {s : State} {l : LaneId} {k cur : Nat} {limited : Bool} (hk : k < 3) (hv : (s.lane l).variant = .kx960) :
    exec (.antBiasFault l k cur limited) s = onLane l (fun L => L.biasMeasured k cur (biasState (s.biasOn k) limited cur)) s := by
  have hguard : ¬(3 ≤ k ∨ (s.lane l).variant ≠ .kx960) := by simp [hv, hk]
  show execAntBiasFault l k cur limited s = _
  unfold execAntBiasFault biasState
  rw [if_neg hguard]
  cases s.biasOn k <;> rfl

theorem Lane.biasMeasured_spec (L : Lane) {k cur st : Nat} (hcur : cur < 4096) (hst : st < 4) :
    let M := L.biasMeasured k cur st
    M.get (Reg.ANT_BIAS_CURRENT (k + 1)) = cur ∧ M.get (Reg.ANT_BIAS_STATUS (k + 1)) = st ∧ M.get (Reg.ANT_STAT_BIAS (k + 1)) = st ∧
    (2 ≤ st ∧ st ≠ L.get (Reg.ANT_BIAS_STATUS (k + 1)) →
      M.get (Reg.ANT_FAULT_BIAS_FAULT (k + 1)) = 1 ∧ M.found = L.found ++ [L.ev (0x31 + k) 0]) ∧
    (st < 2 ∨ st = L.get (Reg.ANT_BIAS_STATUS (k + 1)) → M.found = L.found ∧
      M.get (Reg.ANT_FAULT_BIAS_FAULT (k + 1)) = L.get (Reg.ANT_FAULT_BIAS_FAULT (k + 1))) ∧
    L.keepsBut M [Reg.ANT_BIAS_CURRENT (k + 1), Reg.ANT_BIAS_STATUS (k + 1), Reg.ANT_STAT_BIAS (k + 1), Reg.ANT_FAULT_BIAS_FAULT (k + 1)] ∧
    L.onlyRegs M := by
  have hframe := L.framed_biasShown k cur st
  obtain ⟨hcurrent, hstatus, hstat⟩ := L.get_biasShown (k := k) hcur hst
  have hfault := L.get_biasShown_fault k cur st
  unfold Lane.biasMeasured
  by_cases h : 2 ≤ st ∧ st ≠ L.get (Reg.ANT_BIAS_STATUS (k + 1))
  · have hmem : Reg.ANT_FAULT_BIAS_FAULT (k + 1) ∈ biasFlds k := by simp [biasFlds]
    have hk := Lane.framed_find (0x31 + k) 0 (Lane.framed_setb true hmem (by simp only; omega) hframe)
    have hset : ((L.biasShown k cur st).setb (Reg.ANT_FAULT_BIAS_FAULT (k + 1)) true).get (Reg.ANT_FAULT_BIAS_FAULT (k + 1)) = 1 :=
      Lane.get_setb _ _ true (by simp only; omega) rfl
    have hother : ∀ f : Fld, f.addr ≠ 0xc01c + 0x400 * (k + 1) →
        ((L.biasShown k cur st).setb (Reg.ANT_FAULT_BIAS_FAULT (k + 1)) true).get f = (L.biasShown k cur st).get f := fun f hf => Lane.get_set_addr _ _ hf
    obtain ⟨hkeep, hfound, honly⟩ := hk
    rw [if_pos h]
    simp only [Lane.find_get]
    refine ⟨(hother _ (by simp only; omega)).trans hcurrent, (hother _ (by simp only; omega)).trans hstatus,
      (hother _ (by simp only; omega)).trans hstat, fun _ => ⟨hset, hfound⟩, fun hn => absurd h (by omega), hkeep, honly⟩
  · obtain ⟨hkeep, hfound, honly⟩ := hframe
    rw [if_neg h]
    exact ⟨hcurrent, hstatus, hstat, fun hp => absurd hp h, fun _ => ⟨hfound.trans (List.append_nil _), hfault⟩, hkeep, honly⟩

/-! ### The gain of an antenna's chains (R264) -/

/-- A chain stays where it was read last, at an end of its range. -/
def SextantSt.staysAtEnd (x : SextantSt) (i g : Nat) (still : Bool) : Prop := still = true ∧ x.gain.getD i none = some g ∧ (g = 0 ∨ g = 600)

theorem gainEnd_iff (g : Nat) : gainEnd g = true ↔ g = 0 ∨ g = 600 := by simp [gainEnd]

/-- The time of a chain that stays at an end of its range runs on; else it begins anew. -/
theorem SextantSt.gainNs_gainRead_same (x : SextantSt) (i g : Nat) (still : Bool) :
    (x.staysAtEnd i g still → (x.gainRead i g still).gainNs.getD i 0 = x.gainNs.getD i 0) ∧
    (¬x.staysAtEnd i g still → (x.gainRead i g still).gainNs.getD i 0 = 0) := by
  unfold SextantSt.staysAtEnd SextantSt.gainRead
  rw [← gainEnd_iff]
  refine ⟨fun h => by simp only [if_pos h], fun h => ?_⟩
  simp only [if_neg h, getD_modAt, true_and]
  split
  · rfl
  · next hlen => exact List.getD_eq_default _ _ (Nat.not_lt.1 hlen)

/-- A chain read leaves the other chains' times and gains. -/
theorem SextantSt.gainNs_gainRead_other (x : SextantSt) {i j : Nat} (g : Nat) (still : Bool) (h : j ≠ i) :
    (x.gainRead i g still).gainNs.getD j 0 = x.gainNs.getD j 0 := by
  unfold SextantSt.gainRead
  dsimp only
  split
  · rfl
  · simp only [getD_modAt, h, false_and, if_false]

theorem SextantSt.gain_gainRead_other (x : SextantSt) {i j : Nat} (g : Nat) (still : Bool) (h : j ≠ i) :
    (x.gainRead i g still).gain.getD j none = x.gain.getD j none := by
  simp only [SextantSt.gainRead, getD_modAt, h, false_and, if_false]

/-- The Sextant after the gains of antenna `k`'s chains are read. -/
def SextantSt.gainsRead (x : SextantSt) (k up lo : Nat) (still : Bool × Bool) : SextantSt :=
  (x.gainRead (2 * k) up still.1).gainRead (2 * k + 1) lo still.2

theorem SextantSt.upper_gainsRead (x : SextantSt) (k up lo : Nat) (still : Bool × Bool) :
    (x.staysAtEnd (2 * k) up still.1 → (x.gainsRead k up lo still).gainNs.getD (2 * k) 0 = x.gainNs.getD (2 * k) 0) ∧
    (¬x.staysAtEnd (2 * k) up still.1 → (x.gainsRead k up lo still).gainNs.getD (2 * k) 0 = 0) := by
  unfold SextantSt.gainsRead
  rw [SextantSt.gainNs_gainRead_other _ _ _ (by omega)]
  exact x.gainNs_gainRead_same _ _ _

theorem SextantSt.lower_gainsRead (x : SextantSt) (k up lo : Nat) (still : Bool × Bool) :
    (x.staysAtEnd (2 * k + 1) lo still.2 → (x.gainsRead k up lo still).gainNs.getD (2 * k + 1) 0 = x.gainNs.getD (2 * k + 1) 0) ∧
    (¬x.staysAtEnd (2 * k + 1) lo still.2 → (x.gainsRead k up lo still).gainNs.getD (2 * k + 1) 0 = 0) := by
  have h := (x.gainRead (2 * k) up still.1).gainNs_gainRead_same (2 * k + 1) lo still.2
  unfold SextantSt.staysAtEnd at h
  have hne : 2 * k + 1 ≠ 2 * k := by omega
  rw [x.gain_gainRead_other _ _ hne, x.gainNs_gainRead_other _ _ hne] at h
  exact h

/-- The registers of antenna `k` after its gains were read, its flag at `lim`. -/
def Lane.gainsShown (L : Lane) (k up lo : Nat) (lim : Bool) : Lane :=
  ((L.set (Reg.ANT_AGC_UPPER (k + 1)) up).set (Reg.ANT_AGC_LOWER (k + 1)) lo).setb (Reg.ANT_STAT_AGC_LIMIT (k + 1)) lim

/-- A chain of antenna `k` has been at an end of its range for 1 s. -/
def SextantSt.atLimit (x : SextantSt) (k : Nat) : Bool := x.agcHeld (2 * k) || x.agcHeld (2 * k + 1)

theorem SextantSt.atLimit_iff (x : SextantSt) (k : Nat) :
    x.atLimit k = true ↔ 1000000000 ≤ x.gainNs.getD (2 * k) 0 ∨ 1000000000 ≤ x.gainNs.getD (2 * k + 1) 0 := by
  rw [SextantSt.atLimit, Bool.or_eq_true, SextantSt.agcHeld, SextantSt.agcHeld, decide_eq_true_eq, decide_eq_true_eq]

/-- The registers and events of antenna `k` after its gains were read, its flag to stand at `lim`: an event where the flag rises. -/
def Lane.gainsReported (L : Lane) (k up lo : Nat) (lim : Bool) : Lane :=
  (L.gainsShown k up lo lim).findIf (lim && !L.flag (Reg.ANT_STAT_AGC_LIMIT (k + 1))) (0x31 + k) 4

/-- A lane after the gains of antenna `k`'s chains are read. -/
def Lane.gainsRead (L : Lane) (k up lo : Nat) (still : Bool × Bool) : Lane :=
  (L.gainsReported k up lo ((L.sx.gainsRead k up lo still).atLimit k)).onSx fun x => x.gainsRead k up lo still

theorem exec_agcLimit {s : State} {l : LaneId} {k up lo : Nat} {still : Bool × Bool} (hk : k < 3) (hv : (s.lane l).variant = .kx960)
    (hup : up ≤ 600) (hlo : lo ≤ 600) : exec (.agcLimit l k up lo still) s = .next (s.setLane l ((s.lane l).gainsRead k up lo still)) := by
  have hguard : ¬(3 ≤ k ∨ (s.lane l).variant ≠ .kx960) := by simp [hv, hk]
  show execAgcLimit l k up lo still s = _
  unfold execAgcLimit onLane State.upd
  beta_reduce
  rw [if_neg hguard, Nat.min_eq_right hup, Nat.min_eq_right hlo]
  unfold Lane.gainsRead Lane.gainsReported Lane.gainsShown SextantSt.atLimit SextantSt.gainsRead antPage
  simp only [Lane.setAll_cons, Lane.setAll_nil, Lane.set_onSx, Lane.setb_onSx, Lane.findIf_onSx, Lane.flag_onSx, Lane.onSx_sx]

/-- The fields that a reading of an antenna's gains may change. -/
def gainFlds (k : Nat) : List Fld := [Reg.ANT_AGC_UPPER (k + 1), Reg.ANT_AGC_LOWER (k + 1), Reg.ANT_STAT_AGC_LIMIT (k + 1)]

theorem Lane.framed_gainsShown (L : Lane) (k up lo : Nat) (lim : Bool) : L.framed (L.gainsShown k up lo lim) (gainFlds k) [] :=
  Lane.framed_setb _ (by simp [gainFlds]) (by simp only; omega) <| Lane.framed_set _ (by simp [gainFlds]) (by simp only; omega) <|
    Lane.framed_set _ (by simp [gainFlds]) (by simp only; omega) (L.framed_refl _)

theorem Lane.get_gainsShown (L : Lane) {k up lo : Nat} (lim : Bool) (hup : up ≤ 600) (hlo : lo ≤ 600) :
    (L.gainsShown k up lo lim).get (Reg.ANT_AGC_UPPER (k + 1)) = up ∧ (L.gainsShown k up lo lim).get (Reg.ANT_AGC_LOWER (k + 1)) = lo ∧
    (L.gainsShown k up lo lim).get (Reg.ANT_STAT_AGC_LIMIT (k + 1)) = if lim then 1 else 0 := by
  unfold Lane.gainsShown
  have hupflag : (Reg.ANT_AGC_UPPER (k + 1)).addr ≠ (Reg.ANT_STAT_AGC_LIMIT (k + 1)).addr := by simp only [ne_eq]; omega
  have hloflag : (Reg.ANT_AGC_LOWER (k + 1)).addr ≠ (Reg.ANT_STAT_AGC_LIMIT (k + 1)).addr := by simp only [ne_eq]; omega
  have hap : (Reg.ANT_AGC_UPPER (k + 1)).apart (Reg.ANT_AGC_LOWER (k + 1)) := .inr (.inr (by simp only; omega))
  refine ⟨?_, ?_, Lane.get_setb _ _ lim (by simp only; omega) rfl⟩
  · rw [Lane.setb, Lane.get_set_addr _ _ hupflag, Lane.get_set_apart _ _ (by simp only; omega) (by simp only; omega) hap]
    exact Lane.get_set_fit _ _ (by simp only; omega) (show up < 65536 by omega)
  · rw [Lane.setb, Lane.get_set_addr _ _ hloflag]
    exact Lane.get_set_fit _ _ (by simp only; omega) (show lo < 65536 by omega)

/-- A frame with one more event where a condition holds. -/
theorem Lane.framed_findIf {L M : Lane} {fs : List Fld} {es : List (Nat × Nat)} (c : Bool) (p b : Nat) (h : L.framed M fs es) :
    L.framed (M.findIf c p b) fs (es ++ if c then [(p, b)] else []) := by
  cases c
  · simpa [Lane.findIf] using h
  · exact Lane.framed_find p b h

theorem Lane.framed_gainsReported (L : Lane) (k up lo : Nat) (lim : Bool) :
    L.framed (L.gainsReported k up lo lim) (gainFlds k) (if lim && !L.flag (Reg.ANT_STAT_AGC_LIMIT (k + 1)) then [(0x31 + k, 4)] else []) :=
  Lane.framed_findIf _ (0x31 + k) 4 (L.framed_gainsShown k up lo lim)

theorem Lane.gainsRead_sx (L : Lane) (k up lo : Nat) (still : Bool × Bool) : (L.gainsRead k up lo still).sx = L.sx.gainsRead k up lo still := by
  rw [Lane.gainsRead, Lane.onSx_sx, Lane.gainsReported, Lane.findIf_sx]
  rfl

theorem Lane.get_gainsRead (L : Lane) (k up lo : Nat) (still : Bool × Bool) (f : Fld) :
    (L.gainsRead k up lo still).get f = (L.gainsShown k up lo ((L.sx.gainsRead k up lo still).atLimit k)).get f := by
  rw [Lane.gainsRead, Lane.onSx_get, Lane.gainsReported, Lane.findIf_get]

theorem Lane.gainsRead_spec (L : Lane) {k up lo : Nat} (still : Bool × Bool) (hup : up ≤ 600) (hlo : lo ≤ 600) :
    let M := L.gainsRead k up lo still
    let ran (i g : Nat) (b : Bool) : Prop :=
      (L.sx.staysAtEnd i g b → M.sx.gainNs.getD i 0 = L.sx.gainNs.getD i 0) ∧ (¬L.sx.staysAtEnd i g b → M.sx.gainNs.getD i 0 = 0)
    let held := 1000000000 ≤ M.sx.gainNs.getD (2 * k) 0 ∨ 1000000000 ≤ M.sx.gainNs.getD (2 * k + 1) 0
    ran (2 * k) up still.1 ∧ ran (2 * k + 1) lo still.2 ∧
    M.get (Reg.ANT_AGC_UPPER (k + 1)) = up ∧ M.get (Reg.ANT_AGC_LOWER (k + 1)) = lo ∧ (M.get (Reg.ANT_STAT_AGC_LIMIT (k + 1)) = 1 ↔ held) ∧
    (held ∧ L.flag (Reg.ANT_STAT_AGC_LIMIT (k + 1)) = false → M.found = L.found ++ [L.ev (0x31 + k) 4]) ∧
    (¬held ∨ L.flag (Reg.ANT_STAT_AGC_LIMIT (k + 1)) = true → M.found = L.found) ∧
    L.keepsBut M [Reg.ANT_AGC_UPPER (k + 1), Reg.ANT_AGC_LOWER (k + 1), Reg.ANT_STAT_AGC_LIMIT (k + 1)] ∧ L.onlyRegs (M.onSx fun _ => L.sx) := by
  intro M ran held
  have hsx : M.sx = L.sx.gainsRead k up lo still := L.gainsRead_sx k up lo still
  have hget : ∀ f, M.get f = (L.gainsShown k up lo ((L.sx.gainsRead k up lo still).atLimit k)).get f := L.get_gainsRead k up lo still
  have hheld : (L.sx.gainsRead k up lo still).atLimit k = true ↔ held := by
    rw [SextantSt.atLimit_iff, ← hsx]
  obtain ⟨hkeep, hfound, honly⟩ := Lane.framedUpTo_onSx (fun x => x.gainsRead k up lo still)
    (L.framed_gainsReported k up lo ((L.sx.gainsRead k up lo still).atLimit k))
  have hfound : M.found = _ := hfound
  generalize (L.sx.gainsRead k up lo still).atLimit k = lim at hget hheld hfound
  obtain ⟨hupper, hlower, hlimit⟩ := L.get_gainsShown (k := k) lim hup hlo
  refine ⟨?_, ?_, (hget _).trans hupper, (hget _).trans hlower, ?_, fun h => ?_, fun h => ?_, hkeep, honly⟩
  · simp only [ran, hsx]
    exact L.sx.upper_gainsRead k up lo still
  · simp only [ran, hsx]
    exact L.sx.lower_gainsRead k up lo still
  · rw [hget, hlimit, ← hheld]
    cases lim <;> simp
  · rw [hheld.2 h.1, h.2] at hfound
    exact hfound
  · have hno : (lim && !L.flag (Reg.ANT_STAT_AGC_LIMIT (k + 1))) = false := by
      rcases h with h | h
      · rw [Bool.eq_false_iff.2 (mt hheld.1 h), Bool.false_and]
      · rw [h, Bool.not_true, Bool.and_false]
    rw [hno] at hfound
    exact hfound.trans (List.append_nil _)

/-! ### An antenna without signal, a new delay, the exclusions (R288, R302) -/

/-- An antenna has no signal for 10 s while another tracks four satellites. -/
theorem onLane_antNoSignal (s : State) (l : LaneId) {k j : Nat} (hk : k < 3) (hj : j < 3) (hjk : j ≠ k) (htr : 4 ≤ (s.lane l).trackedOn j)
    (hns : 10000000000 ≤ (s.lane l).sx.noSignal.getD k 0) (hfl : (s.lane l).flag (Reg.ANT_STAT_NO_SIGNAL (k + 1)) = false)
    (hon : (s.lane l).sxOn = true) :
    OnLane (.antNoSignal l k) l s fun L M =>
      M.get (Reg.ANT_STAT_NO_SIGNAL (k + 1)) = 1 ∧ L.framed M [Reg.ANT_STAT_NO_SIGNAL (k + 1)] [(0x31 + k, 1)] := by
  refine onLane_of_exec rfl ?_
  have hother : (s.lane l).otherTracks k = true := List.any_eq_true.2 ⟨j, List.mem_range.2 hj, by simp [hjk, htr]⟩
  rw [if_pos ⟨hk, hother, hns, by rw [antPage, hfl]; rfl, hon⟩]
  exact ⟨Lane.get_setb _ _ true (by simp only; omega) rfl,
    Lane.framed_find (0x31 + k) 1 (Lane.framed_setb true (List.mem_singleton_self _) (by simp only; omega) (Lane.framed_refl _ _))⟩

/-- A new delay applies in the epoch, and is an event. -/
theorem onLane_antDelayChanged (s : State) (l : LaneId) {k : Nat} (h : (s.lane l).sx.delayNew.getD k false = true) :
    OnLane (.antDelayChanged l k) l s fun L M =>
      M.sx.delayNew.getD k false = false ∧ L.framedUpTo M [] [(0x31 + k, 3)] fun N => N.onSx fun _ => L.sx := by
  refine onLane_of_exec rfl ?_
  rw [if_pos h]
  refine ⟨?_, Lane.framedUpTo_onSx (fun x => { x with delayNew := modAt x.delayNew k fun _ => false })
    (Lane.framed_find (0x31 + k) 3 (Lane.framed_refl _ _))⟩
  show (modAt (s.lane l).sx.delayNew k fun _ => false).getD k false = false
  rw [getD_modAt]
  split
  · rfl
  · next hlen => exact List.getD_eq_default _ _ (by simpa using hlen)

/-- The exclusion registers are of page 0x30 and within their words. -/
theorem exclReg_fits (i : Nat) : (exclReg i).addr / 0x400 = 0x30 ∧ (exclReg i).lo + (exclReg i).w ≤ 32 := by
  unfold exclReg
  split_ifs <;> decide

theorem onLane_sxExclWrite (s : State) (l : LaneId) {i mask : Nat} (hi : i < 5) (hm : mask < 2 ^ (exclReg i).w) (hv : (s.lane l).variant = .kx960) :
    OnLane (.sxExclWrite l i mask) l s fun L M => M.get (exclReg i) = mask ∧ M.sx.exclNow = L.sx.exclNow ∧ L.framed M [exclReg i] [] := by
  refine onLane_of_exec rfl ?_
  obtain ⟨hpage, hfit⟩ := exclReg_fits i
  rw [if_pos hi, Lane.atReg_present _ (by rw [hpage, pagePresent_sextant, hv]; rfl)]
  exact ⟨Lane.get_set_fit _ _ hfit hm, rfl, Lane.framed_set _ (List.mem_singleton_self _) hfit (Lane.framed_refl _ _)⟩

theorem onLane_sxExclWrite_absent (s : State) (l : LaneId) {i mask : Nat} (hi : i < 5) (hv : (s.lane l).variant ≠ .kx960) :
    OnLane (.sxExclWrite l i mask) l s fun L M => L.countsAbsent M (exclReg i).addr := by
  refine onLane_of_exec rfl ?_
  obtain ⟨hpage, -⟩ := exclReg_fits i
  rw [if_pos hi, Lane.atReg_absent _ (by rw [hpage, pagePresent_sextant]; exact decide_eq_false hv)]
  exact Lane.countsAbsent_absentWrite _ (by omega)

/-! ### The host's commands (R300) -/

/-- The fields of the Sextant's command register. -/
def sxCmdFlds : List Fld := [Reg.SX_CMD_TAG, Reg.SX_CMD_CMD, Reg.SX_CMD_RESULT]

/-- A command shown with its result. -/
def Lane.sxCmdShown (L : Lane) (tag cmd result : Nat) : Lane :=
  ((L.set Reg.SX_CMD_TAG tag).set Reg.SX_CMD_CMD cmd).set Reg.SX_CMD_RESULT result

theorem Lane.framed_sxCmdShown (L : Lane) (tag cmd result : Nat) : L.framed (L.sxCmdShown tag cmd result) sxCmdFlds [] :=
  Lane.framed_set _ (by decide) (by decide) <| Lane.framed_set _ (by decide) (by decide) <| Lane.framed_set _ (by decide) (by decide) (L.framed_refl _)

theorem Lane.get_sxCmdShown (L : Lane) {tag cmd result : Nat} (ht : tag < 256) (hc : cmd < 16) (hr : result < 256) :
    (L.sxCmdShown tag cmd result).get Reg.SX_CMD_TAG = tag ∧ (L.sxCmdShown tag cmd result).get Reg.SX_CMD_CMD = cmd ∧
    (L.sxCmdShown tag cmd result).get Reg.SX_CMD_RESULT = result := by
  unfold Lane.sxCmdShown
  refine ⟨?_, ?_, Lane.get_set_fit _ _ (by decide) hr⟩
  · rw [Lane.get_set_other _ _ _ _ (by decide) (by decide) (by decide), Lane.get_set_other _ _ _ _ (by decide) (by decide) (by decide),
      Lane.get_set_fit _ _ (by decide) ht]
  · rw [Lane.get_set_other _ _ _ _ (by decide) (by decide) (by decide), Lane.get_set_fit _ _ (by decide) hc]

/-- A restart is refused while the active lane uses the Sextant, else kept for the next strobe. -/
theorem Lane.sxCmd_restart (L : Lane) (tag : Nat) {cmd : Nat} (hc : cmd = 1 ∨ cmd = 2) :
    L.sxCmd tag cmd = if L.active = true ∧ L.sxInUse = true then (L.sxCmdShown tag cmd 2).find 0x30 7
      else (L.sxCmdShown tag cmd 0).onSx fun x => { x with pendCmd := some cmd } := by
  have hact : ((L.set Reg.SX_CMD_TAG tag).set Reg.SX_CMD_CMD cmd).active = L.active := by
    unfold Lane.active Lane.flag
    rw [Lane.get_set_addr _ _ (by decide), Lane.get_set_addr _ _ (by decide)]
  have huse : ((L.set Reg.SX_CMD_TAG tag).set Reg.SX_CMD_CMD cmd).sxInUse = L.sxInUse := (rfl)
  unfold Lane.sxCmd
  rw [Lane.setAll_cons, Lane.setAll_cons, Lane.setAll_nil, if_pos hc, hact, huse]
  rfl

/-- A new attitude fix is refused where none is configured, else kept for the next strobe. -/
theorem Lane.sxCmd_refix (L : Lane) (tag : Nat) :
    L.sxCmd tag 3 = if (!L.attConfigured) = true then (L.sxCmdShown tag 3 3).find 0x30 7
      else (L.sxCmdShown tag 3 0).onSx fun x => { x with pendCmd := some 3 } := rfl

section

variable {s : State} {l : LaneId} {i : Instr} {tag n : Nat}
  (he : exec i s = onLane l (fun L => L.atReg Reg.SX_CMD_CMD.addr fun L => L.sxCmd tag n) s)
include he

/-- A module without a Sextant counts the command as a write to an absent page. -/
theorem onLane_sxCmd_absent (hv : (s.lane l).variant ≠ .kx960) : OnLane i l s fun L M => L.countsAbsent M Reg.SX_CMD_CMD.addr := by
  refine onLane_of_exec he ?_
  rw [Lane.atReg_absent _ ((pagePresent_sextant _).trans (decide_eq_false hv))]
  exact Lane.countsAbsent_absentWrite _ (by decide)

variable (hv : (s.lane l).variant = .kx960) (ht : tag < 256) (hn : n < 16)
include hv ht hn

/-- A command refused shows its result and is an event. -/
theorem onLane_sxCmd_refused {r : Nat} (hr : r < 256) (hc : (s.lane l).sxCmd tag n = ((s.lane l).sxCmdShown tag n r).find 0x30 7) :
    OnLane i l s fun L M => (M.get Reg.SX_CMD_TAG = tag ∧ M.get Reg.SX_CMD_CMD = n ∧ M.get Reg.SX_CMD_RESULT = r) ∧
      L.framed M [Reg.SX_CMD_TAG, Reg.SX_CMD_CMD, Reg.SX_CMD_RESULT] [(0x30, 7)] := by
  refine onLane_of_exec he ?_
  rw [Lane.atReg_present _ ((pagePresent_sextant _).trans (decide_eq_true hv)), hc]
  simp only [Lane.find_get]
  exact ⟨Lane.get_sxCmdShown _ ht hn hr, Lane.framed_find 0x30 7 (Lane.framed_sxCmdShown _ tag n r)⟩

/-- A command accepted is kept for the next strobe. -/
theorem onLane_sxCmd_accepted (hc : (s.lane l).sxCmd tag n = ((s.lane l).sxCmdShown tag n 0).onSx fun x => { x with pendCmd := some n }) :
    OnLane i l s fun L M => (M.get Reg.SX_CMD_TAG = tag ∧ M.get Reg.SX_CMD_CMD = n ∧ M.get Reg.SX_CMD_RESULT = 0) ∧
      M.sx = { L.sx with pendCmd := some n } ∧
      L.framedUpTo M [Reg.SX_CMD_TAG, Reg.SX_CMD_CMD, Reg.SX_CMD_RESULT] [] fun N => N.onSx fun _ => L.sx := by
  refine onLane_of_exec he ?_
  rw [Lane.atReg_present _ ((pagePresent_sextant _).trans (decide_eq_true hv)), hc]
  simp only [Lane.onSx_get]
  exact ⟨Lane.get_sxCmdShown _ ht hn (by decide), rfl, Lane.framedUpTo_onSx _ (Lane.framed_sxCmdShown _ tag n 0)⟩

end

/-- The three commands are writes of SX_CMD with their numbers. -/
theorem exec_sxCommand {s : State} {l : LaneId} {tag : Nat} {i : Instr} {n : Nat}
    (hi : (i, n) ∈ [(Instr.restartAcq l tag, 1), (.coldRestart l tag, 2), (.refixAtt l tag, 3)]) :
    exec i s = onLane l (fun L => L.atReg Reg.SX_CMD_CMD.addr fun L => L.sxCmd tag n) s ∧ (n = 1 ∨ n = 2 ∨ n = 3) := by
  simp only [List.mem_cons, List.not_mem_nil, or_false, Prod.mk.injEq] at hi
  rcases hi with ⟨rfl, rfl⟩ | ⟨rfl, rfl⟩ | ⟨rfl, rfl⟩
  · exact ⟨rfl, .inl rfl⟩
  · exact ⟨rfl, .inr (.inl rfl)⟩
  · exact ⟨rfl, .inr (.inr rfl)⟩

/-- Settles O30: each command's effect on the lane is named, and its registers, events and frame are read off the chain of writes. -/
theorem sextantInputs : Obligations.SextantInputs := by
  unfold Obligations.SextantInputs
  intro s l
  refine ⟨fun hon hother hage hflag hdata => ?_, fun h => ?_, fun k hk hv => ⟨fun cur limited hcur => ?_, fun up lo still hup hlo => ?_⟩,
    fun k j hk hj hjk htr hns hfl hon => ?_, fun k h => ?_, fun i mask hi hm hv => ?_, fun i mask hi hv => ?_, fun tag ht i n hi => ?_⟩
  · exact onLane_of_exec (exec_sextantDataReceived hon hother hage hflag hdata) (Lane.takeSextant_spec _ _)
  · refine if_neg fun hc => ?_
    obtain ⟨-, hage, hflag, hother, -⟩ := hc
    rcases h with h | h | h
    · omega
    · rw [h] at hflag
      exact absurd hflag (by decide)
    · exact absurd (h.symm.trans hother) (by decide)
  · exact onLane_of_exec (exec_antBiasFault hk hv) (Lane.biasMeasured_spec _ hcur (biasState_lt _ _ _))
  · exact ⟨_, exec_agcLimit hk hv hup hlo, Lane.gainsRead_spec _ still hup hlo⟩
  · exact onLane_antNoSignal s l hk hj hjk htr hns hfl hon
  · exact onLane_antDelayChanged s l h
  · exact onLane_sxExclWrite s l hi hm hv
  · exact onLane_sxExclWrite_absent s l hi hv
  · obtain ⟨he, hn⟩ := exec_sxCommand (s := s) hi
    refine ⟨onLane_sxCmd_absent he, fun hv => ⟨fun hle hact huse => ?_, fun h3 hatt => ?_, fun hok => ?_⟩⟩
    · have hc := (s.lane l).sxCmd_restart tag (cmd := n) (by omega)
      rw [if_pos ⟨hact, huse⟩] at hc
      exact onLane_sxCmd_refused he hv ht (by omega) (by decide) hc
    · subst h3
      have hc := (s.lane l).sxCmd_refix tag
      rw [if_pos (by rw [hatt]; rfl)] at hc
      exact onLane_sxCmd_refused he hv ht (by decide) (by decide) hc
    · refine onLane_sxCmd_accepted he hv ht (by omega) ?_
      by_cases h3 : n = 3
      · subst h3
        rw [if_pos rfl] at hok
        rw [Lane.sxCmd_refix, if_neg (by rw [hok]; decide)]
      · rw [if_neg h3] at hok
        have hno : ¬((s.lane l).active = true ∧ (s.lane l).sxInUse = true) := by
          rintro ⟨ha, hu⟩
          rcases hok with h | h
          · exact absurd (h.symm.trans ha) (by decide)
          · exact absurd (h.symm.trans hu) (by decide)
        rw [Lane.sxCmd_restart _ _ (by omega), if_neg hno]

end Sys2Proof.Machine
end

section
/-! The interlock's lines and requests: what each operation on them leaves as it was, and that each keeps the interlock sound (01 R29-R31,
R624, R625; 12 R452). -/

namespace Sys2Proof.Machine

open Sys2Proof

/-! ### Lines set and read -/

section

variable (k : InterlockSt) (l m : LaneId) (v : Bool)

theorem LaneId.eq_or_other : m = l ∨ m = l.other := by cases l <;> cases m <;> simp [LaneId.other]

@[simp] theorem LaneId.other_other : l.other.other = l := by cases l <;> rfl
@[simp] theorem LaneId.other_ne : l.other ≠ l := by cases l <;> decide
@[simp] theorem LaneId.ne_other : l ≠ l.other := by cases l <;> decide

@[simp] theorem InterlockSt.drive_setDrive_same : (k.setDrive l v).drive l = v := by cases l <;> rfl
@[simp] theorem InterlockSt.drive_setDrive_other : (k.setDrive l v).drive l.other = k.drive l.other := by cases l <;> rfl
@[simp] theorem InterlockSt.drive_setDrive_of_other : (k.setDrive l.other v).drive l = k.drive l := by cases l <;> rfl
@[simp] theorem InterlockSt.grant_setDrive : (k.setDrive l v).grant = k.grant := by cases l <;> rfl
@[simp] theorem InterlockSt.spent_setDrive : (k.setDrive l v).spent m = k.spent m := by cases l <;> rfl
@[simp] theorem InterlockSt.holding_setDrive : (k.setDrive l v).holding = k.holding := by cases l <;> rfl

@[simp] theorem InterlockSt.spent_setSpent_same : (k.setSpent l v).spent l = v := by cases l <;> rfl
@[simp] theorem InterlockSt.spent_setSpent_other : (k.setSpent l v).spent l.other = k.spent l.other := by cases l <;> rfl
@[simp] theorem InterlockSt.grant_setSpent : (k.setSpent l v).grant = k.grant := by cases l <;> rfl
@[simp] theorem InterlockSt.drive_setSpent : (k.setSpent l v).drive m = k.drive m := by cases l <;> rfl
@[simp] theorem InterlockSt.holding_setSpent : (k.setSpent l v).holding = k.holding := by cases l <;> rfl

@[simp] theorem InterlockSt.inhibit_setDrive : (k.setDrive l v).inhibit m = k.inhibit m := by cases l <;> rfl
@[simp] theorem InterlockSt.grant_setArm : (k.setArm l v).grant = k.grant := by cases l <;> rfl
@[simp] theorem InterlockSt.drive_setArm : (k.setArm l v).drive m = k.drive m := by cases l <;> rfl
@[simp] theorem InterlockSt.spent_setArm : (k.setArm l v).spent m = k.spent m := by cases l <;> rfl

@[simp] theorem InterlockSt.grant_setInhibit : (k.setInhibit l v).grant = k.grant := by cases l <;> rfl
@[simp] theorem InterlockSt.drive_setInhibit : (k.setInhibit l v).drive m = k.drive m := by cases l <;> rfl
@[simp] theorem InterlockSt.spent_setInhibit : (k.setInhibit l v).spent m = k.spent m := by cases l <;> rfl
@[simp] theorem InterlockSt.holding_setInhibit : (k.setInhibit l v).holding = k.holding := by cases l <;> rfl
@[simp] theorem InterlockSt.inhibit_setInhibit_same : (k.setInhibit l v).inhibit l = v := by cases l <;> rfl

end

/-- The grant moved, all else as it was. -/
def InterlockSt.setGrant (k : InterlockSt) (g : Grant) : InterlockSt := { k with grant := g }

/-- A lane granted: it drives, and nothing is held over (R31). -/
def InterlockSt.give (k : InterlockSt) (l : LaneId) : InterlockSt := { k with grant := .held l, holding := false, lastDriver := some l }

section

variable (k : InterlockSt) (g : Grant) (l m : LaneId)

@[simp] theorem InterlockSt.grant_setGrant : (k.setGrant g).grant = g := rfl
@[simp] theorem InterlockSt.drive_setGrant : (k.setGrant g).drive l = k.drive l := by cases l <;> rfl
@[simp] theorem InterlockSt.spent_setGrant : (k.setGrant g).spent l = k.spent l := by cases l <;> rfl
@[simp] theorem InterlockSt.holding_setGrant : (k.setGrant g).holding = k.holding := rfl

@[simp] theorem InterlockSt.grant_give : (k.give l).grant = .held l := rfl
@[simp] theorem InterlockSt.drive_give : (k.give l).drive m = k.drive m := by cases m <;> rfl
@[simp] theorem InterlockSt.spent_give : (k.give l).spent m = k.spent m := by cases m <;> rfl
@[simp] theorem InterlockSt.holding_give : (k.give l).holding = false := rfl
@[simp] theorem InterlockSt.lastDriver_give : (k.give l).lastDriver = some l := rfl

@[simp] theorem InterlockSt.grant_contest : k.contest.grant = .free := rfl
@[simp] theorem InterlockSt.drive_contest : k.contest.drive l = k.drive l := by cases l <;> rfl
@[simp] theorem InterlockSt.spent_contest : k.contest.spent l = true := by cases l <;> rfl
@[simp] theorem InterlockSt.holding_contest : k.contest.holding = false := rfl

end

/-! ### Sound interlocks, lane by lane -/

/-- What soundness asks of one lane: it asserts DRIVE on a fresh request where it holds the grant or waits in its window, and on a spent
one, if at all, in its own dead time. -/
def InterlockSt.soundFor (k : InterlockSt) (l : LaneId) : Prop :=
  (k.grant = .held l ∨ k.grant = .window l → k.drive l = true ∧ k.spent l = false) ∧
  (k.grant = .deadTime l → k.drive l = true → k.spent l = true)

section

variable {k j : InterlockSt} {l : LaneId}

theorem lockInv_iff : LockInv k ↔ ∀ l, k.soundFor l := by
  constructor
  · rintro ⟨hheld, hwin, hdead⟩ l
    exact ⟨fun h => h.elim (hheld l) (hwin l), hdead l⟩
  · intro h
    exact ⟨fun l hl => (h l).1 (.inl hl), fun l hl => (h l).1 (.inr hl), fun l => (h l).2⟩

theorem LockInv.soundFor (h : LockInv k) (l : LaneId) : k.soundFor l := lockInv_iff.1 h l

theorem lockInv_of_both (l : LaneId) (h : k.soundFor l) (ho : k.soundFor l.other) : LockInv k :=
  lockInv_iff.2 fun m => by rcases LaneId.eq_or_other l m with rfl | rfl <;> assumption

/-- A lane that neither holds, waits nor asserts DRIVE is no concern. -/
theorem InterlockSt.soundFor_of_quiet (hh : k.grant ≠ .held l) (hw : k.grant ≠ .window l) (hd : k.drive l = false) : k.soundFor l :=
  ⟨fun h => (h.elim hh hw).elim, fun _ h => by rw [hd] at h; cases h⟩

/-- A lane that asserts DRIVE on a fresh request may hold, wait or stand by; only its own dead time would be wrong. -/
theorem InterlockSt.soundFor_of_fresh (hd : k.drive l = true) (hs : k.spent l = false) (hg : k.grant ≠ .deadTime l) : k.soundFor l :=
  ⟨fun _ => ⟨hd, hs⟩, fun h => (hg h).elim⟩

/-- A change that gives a lane neither grant nor window nor dead time, and leaves its line and request, keeps it sound. -/
theorem InterlockSt.soundFor_mono (hh : j.grant = .held l → k.grant = .held l) (hw : j.grant = .window l → k.grant = .window l)
    (hx : j.grant = .deadTime l → k.grant = .deadTime l) (hd : j.drive l = k.drive l) (hs : j.spent l = k.spent l) (h : k.soundFor l) :
    j.soundFor l := by
  unfold InterlockSt.soundFor
  rw [hd, hs]
  exact ⟨fun hg => h.1 (hg.imp hh hw), fun hg => h.2 (hx hg)⟩

/-- Soundness is of the grant, the lines and the requests alone. -/
theorem lockInv_congr (hg : j.grant = k.grant) (hd : ∀ l, j.drive l = k.drive l) (hs : ∀ l, j.spent l = k.spent l) (h : LockInv k) :
    LockInv j :=
  lockInv_iff.2 fun l => InterlockSt.soundFor_mono (hg ▸ id) (hg ▸ id) (hg ▸ id) (hd l) (hs l) (h.soundFor l)

/-- An interlock that is free is sound. -/
theorem lockInv_of_free (h : k.grant = .free) : LockInv k := by
  refine ⟨fun l hl => ?_, fun l hl => ?_, fun l hl => ?_⟩ <;> rw [h] at hl <;> cases hl

theorem lockInv_setArm (v : Bool) (h : LockInv k) : LockInv (k.setArm l v) :=
  lockInv_congr (k.grant_setArm l v) (fun m => k.drive_setArm l m v) (fun m => k.spent_setArm l m v) h

theorem lockInv_setInhibit (v : Bool) (h : LockInv k) : LockInv (k.setInhibit l v) :=
  lockInv_congr (k.grant_setInhibit l v) (fun m => k.drive_setInhibit l m v) (fun m => k.spent_setInhibit l m v) h

/-! ### DRIVE asserted (R30, R624, R625) -/

/-- A line already asserted makes no new request. -/
theorem InterlockSt.assertDrive_asserted (h : k.drive l = true) : k.assertDrive l = (k, false) := if_pos h

/-- The interlock with a new request of a lane, before it is answered. -/
def InterlockSt.request (k : InterlockSt) (l : LaneId) : InterlockSt := (k.setDrive l true).setSpent l false

@[simp] theorem InterlockSt.grant_request : (k.request l).grant = k.grant := by simp [InterlockSt.request]
@[simp] theorem InterlockSt.holding_request : (k.request l).holding = k.holding := by simp [InterlockSt.request]
@[simp] theorem InterlockSt.drive_request : (k.request l).drive l = true := by simp [InterlockSt.request]
@[simp] theorem InterlockSt.spent_request : (k.request l).spent l = false := by simp [InterlockSt.request]
@[simp] theorem InterlockSt.drive_request_other : (k.request l).drive l.other = k.drive l.other := by simp [InterlockSt.request]
@[simp] theorem InterlockSt.spent_request_other : (k.request l).spent l.other = k.spent l.other := by simp [InterlockSt.request]

section

variable (hd : k.drive l = false)
include hd

/-- A request on a free interlock opens the lane's window. -/
theorem InterlockSt.assertDrive_free (hg : k.grant = .free) : k.assertDrive l = ((k.request l).setGrant (.window l), false) := by
  have hreq : ((k.setDrive l true).setSpent l false).grant = .free := (k.grant_request (l := l)).trans hg
  simp only [InterlockSt.assertDrive, hd, hreq]
  rfl

/-- A request in the other lane's window is a contest. -/
theorem InterlockSt.assertDrive_contest (hg : k.grant = .window l.other) : k.assertDrive l = ((k.request l).contest, true) := by
  simp [InterlockSt.assertDrive, InterlockSt.request, hd, hg]

/-- A request in the lane's own dead time is spent. -/
theorem InterlockSt.assertDrive_ownDeadTime (hg : k.grant = .deadTime l) : k.assertDrive l = ((k.request l).setSpent l true, false) := by
  simp [InterlockSt.assertDrive, InterlockSt.request, hd, hg]

/-- A request waits while a lane holds the grant, in the other lane's dead time, and in the lane's own window. -/
theorem InterlockSt.assertDrive_waits (hg : (∃ m, k.grant = .held m) ∨ k.grant = .deadTime l.other ∨ k.grant = .window l) :
    k.assertDrive l = (k.request l, false) := by
  rcases hg with ⟨m, hg⟩ | hg | hg <;> simp [InterlockSt.assertDrive, InterlockSt.request, hd, hg]

/-- A new request makes its lane's part of the interlock sound, and keeps the other's. -/
theorem lockInv_assertDrive_new (ho : k.soundFor l.other) : LockInv (k.assertDrive l).1 := by
  have hreq : (k.request l).soundFor l.other :=
    InterlockSt.soundFor_mono (k := k) (by simp) (by simp) (by simp) (by simp) (by simp) ho
  have hwait (hg : k.grant ≠ .deadTime l) : LockInv (k.request l) :=
    lockInv_of_both l (InterlockSt.soundFor_of_fresh (by simp) (by simp) (by simpa using hg)) hreq
  cases hg : k.grant with
  | free =>
    rw [InterlockSt.assertDrive_free hd hg]
    exact lockInv_of_both l (InterlockSt.soundFor_of_fresh (by simp) (by simp) (by simp)) (InterlockSt.soundFor_mono (by simp) (by simp) (by simp) (by simp) (by simp) hreq)
  | window m =>
    rcases LaneId.eq_or_other l m with rfl | rfl
    · rw [InterlockSt.assertDrive_waits hd (.inr (.inr hg))]
      exact hwait (by simp [hg])
    · rw [InterlockSt.assertDrive_contest hd hg]
      exact lockInv_of_free rfl
  | deadTime m =>
    rcases LaneId.eq_or_other l m with rfl | rfl
    · rw [InterlockSt.assertDrive_ownDeadTime hd hg]
      exact lockInv_of_both m ⟨by simp [hg], by simp⟩ (InterlockSt.soundFor_mono (by simp) (by simp) (by simp) (by simp) (by simp) hreq)
    · rw [InterlockSt.assertDrive_waits hd (.inr (.inl hg))]
      exact hwait (by simp [hg])
  | held m =>
    rw [InterlockSt.assertDrive_waits hd (.inl ⟨m, hg⟩)]
    exact hwait (by simp [hg])

end

theorem lockInv_assertDrive (l : LaneId) (h : LockInv k) : LockInv (k.assertDrive l).1 := by
  cases hd : k.drive l with
  | true => rwa [InterlockSt.assertDrive_asserted hd]
  | false => exact lockInv_assertDrive_new hd (h.soundFor _)

/-! ### DRIVE released or removed (R30, R31) -/

/-- A lane that drops the grant neither holds it nor waits in its window. -/
theorem InterlockSt.grant_dropGrant_ne (k : InterlockSt) (l : LaneId) (c : Option TakeCause) :
    (k.dropGrant l c).grant ≠ .held l ∧ (k.dropGrant l c).grant ≠ .window l := by
  unfold InterlockSt.dropGrant InterlockSt.holds
  split_ifs with hh hw
  · exact ⟨by simp, by simp⟩
  · exact ⟨by simp, by simp⟩
  · exact ⟨by simpa using hh, hw⟩

@[simp] theorem InterlockSt.drive_dropGrant (k : InterlockSt) (l m : LaneId) (c : Option TakeCause) : (k.dropGrant l c).drive m = k.drive m := by
  unfold InterlockSt.dropGrant
  split_ifs <;> cases m <;> rfl

@[simp] theorem InterlockSt.spent_dropGrant (k : InterlockSt) (l m : LaneId) (c : Option TakeCause) : (k.dropGrant l c).spent m = k.spent m := by
  unfold InterlockSt.dropGrant
  split_ifs <;> cases m <;> rfl

/-- The other lane is no worse off for a lane's drop of the grant. -/
theorem InterlockSt.soundFor_dropGrant_other (c : Option TakeCause) (h : k.soundFor l.other) : (k.dropGrant l c).soundFor l.other := by
  refine InterlockSt.soundFor_mono ?_ ?_ ?_ (by simp) (by simp) h <;>
  · unfold InterlockSt.dropGrant
    split_ifs <;> simp

/-- The line of a lane that has dropped the grant is let go: what both a release and a cut do. -/
theorem lockInv_letGo (c : Option TakeCause) (h : LockInv k) : LockInv (((k.dropGrant l c).setDrive l false).setSpent l false) := by
  obtain ⟨hh, hw⟩ := k.grant_dropGrant_ne l c
  refine lockInv_of_both l (InterlockSt.soundFor_of_quiet (by simpa using hh) (by simpa using hw) (by simp)) ?_
  exact InterlockSt.soundFor_mono (by simp) (by simp) (by simp) (by simp) (by simp) (InterlockSt.soundFor_dropGrant_other c (h.soundFor _))

theorem lockInv_release (l : LaneId) (c : Option TakeCause) (h : LockInv k) : LockInv (k.release l c) := by
  unfold InterlockSt.release
  dsimp only
  split_ifs
  · exact lockInv_setInhibit true (lockInv_letGo c h)
  · exact lockInv_letGo c h

theorem lockInv_cut (l : LaneId) (c : Option TakeCause) (h : LockInv k) : LockInv (k.cut l c) := lockInv_setArm false (lockInv_letGo c h)

/-! ### The interlock's own times (R30, R624) -/

/-- A lane that asserts DRIVE on a fresh request may be given the grant. -/
theorem lockInv_give (hd : k.drive l = true) (hs : k.spent l = false) : LockInv (k.give l) :=
  lockInv_of_both l (InterlockSt.soundFor_of_fresh (by simpa using hd) (by simpa using hs) (by simp)) ⟨by simp, by simp⟩

/-- At the end of its window a lane that still asserts DRIVE is granted. -/
theorem InterlockSt.resolve_asserted (hg : k.grant = .window l) (hd : k.drive l = true) : k.resolve = k.give l := by
  simp [InterlockSt.resolve, hg, hd, InterlockSt.give]

/-- Without a window there is nothing to resolve. -/
theorem InterlockSt.resolve_noWindow (hg : ∀ l, k.grant ≠ .window l) : k.resolve = k := by
  unfold InterlockSt.resolve
  split
  · next l h => exact absurd h (hg l)
  · rfl

theorem lockInv_resolve (h : LockInv k) : LockInv k.resolve := by
  by_cases hg : ∃ l, k.grant = .window l
  · obtain ⟨l, hg⟩ := hg
    obtain ⟨hd, hs⟩ := (h.soundFor l).1 (.inr hg)
    rw [InterlockSt.resolve_asserted hg hd]
    exact lockInv_give hd hs
  · rwa [InterlockSt.resolve_noWindow fun l hl => hg ⟨l, hl⟩]

/-- At the end of a dead time the other lane is granted if it asks with a fresh request. -/
theorem InterlockSt.endDeadTime_asked (hg : k.grant = .deadTime l) (hd : k.drive l.other = true) (hs : k.spent l.other = false) :
    k.endDeadTime = k.give l.other := by
  simp [InterlockSt.endDeadTime, hg, hd, hs, InterlockSt.give]

/-- At the end of a dead time in which the other lane does not ask, or asks with a spent request, nobody is granted. -/
theorem InterlockSt.endDeadTime_unasked (hg : k.grant = .deadTime l) (h : k.drive l.other = false ∨ k.spent l.other = true) :
    k.endDeadTime = k.setGrant .free := by
  rcases h with h | h <;> simp [InterlockSt.endDeadTime, hg, h, InterlockSt.setGrant]

/-- Without a dead time there is none to end. -/
theorem InterlockSt.endDeadTime_noDeadTime (hg : ∀ l, k.grant ≠ .deadTime l) : k.endDeadTime = k := by
  unfold InterlockSt.endDeadTime
  split
  · next l h => exact absurd h (hg l)
  · rfl

theorem lockInv_endDeadTime (h : LockInv k) : LockInv k.endDeadTime := by
  by_cases hg : ∃ l, k.grant = .deadTime l
  · obtain ⟨l, hg⟩ := hg
    by_cases hask : k.drive l.other = true ∧ k.spent l.other = false
    · rw [InterlockSt.endDeadTime_asked hg hask.1 hask.2]
      exact lockInv_give hask.1 hask.2
    · rw [InterlockSt.endDeadTime_unasked hg (by simpa [or_iff_not_imp_left] using hask)]
      exact lockInv_of_free rfl
  · rwa [InterlockSt.endDeadTime_noDeadTime fun l hl => hg ⟨l, hl⟩]

end

end Sys2Proof.Machine
end

section
/-! Every command keeps the interlock sound (01 R30, R624, R625): what each operation on the module does to the interlock, and what a command
of one lane leaves alone (01 R22, R23). -/

namespace Sys2Proof.Machine

open Sys2Proof

/-! ### Commands of one lane -/

/-- A command of one lane answers the module with that lane changed (01 R22, R23). -/
theorem exec_of_soleLane {c : Instr} {l : LaneId} (s : State) (h : soleLane c = some l) : ∃ M, exec c s = .next (s.setLane l M) := by
  cases c
  case canSlotTrigger m p k =>
    cases h
    change ∃ M, execCanSlotTrigger l p k s = _
    unfold execCanSlotTrigger
    split_ifs
    · exact ⟨_, rfl⟩
    · exact ⟨s.lane l, by rw [State.setLane_lane]⟩
  all_goals cases h
  all_goals exact ⟨_, rfl⟩

/-- Settles O3: the effect of each command of one lane is an operation on that lane. -/
theorem laneIsolation : Obligations.LaneIsolation := by
  unfold Obligations.LaneIsolation
  intro c s l h
  obtain ⟨M, hM⟩ := exec_of_soleLane s h
  exact ⟨M, hM, trivial⟩

/-! ### The interlock of the module -/

section

variable (s : State) (l : LaneId)

@[simp] theorem State.lock_onLock (f : InterlockSt → InterlockSt) : (s.onLock f).sh.lock = f s.sh.lock := rfl
@[simp] theorem State.lane_onLock (f : InterlockSt → InterlockSt) : (s.onLock f).lane l = s.lane l := by cases l <;> rfl
@[simp] theorem State.lock_setLane (M : Lane) : (s.setLane l M).sh.lock = s.sh.lock := by rw [State.sh_setLane]
@[simp] theorem State.lock_upd (f : Lane → Lane) : (s.upd l f).sh.lock = s.sh.lock := by rw [State.sh_upd]
@[simp] theorem State.lock_both (f : Lane → Lane) : (s.both f).sh.lock = s.sh.lock := rfl
@[simp] theorem State.lock_onBin (f : BinnacleSt → BinnacleSt) : (s.onBin f).sh.lock = s.sh.lock := rfl
@[simp] theorem State.lock_binEval : s.binEval.sh.lock = s.sh.lock := by unfold State.binEval; rw [State.lock_onBin]
@[simp] theorem State.lock_onStage (k : Nat) (f : SoStage → SoStage) : (s.onStage k f).sh.lock = s.sh.lock := rfl
@[simp] theorem State.lock_dropNext : s.dropNext.sh.lock = s.sh.lock := by simp [State.dropNext]

@[simp] theorem State.lock_sfGrantLost : (s.sfGrantLost l).sh.lock = s.sh.lock := by
  unfold State.sfGrantLost
  dsimp only
  rw [State.lock_binEval]
  split_ifs <;> simp only [State.lock_upd, State.lock_onBin]

@[simp] theorem State.lock_grantLost : (s.grantLost l).sh.lock = s.sh.lock := by simp [State.grantLost]
@[simp] theorem State.lock_grantGained : (s.grantGained l).sh.lock = s.sh.lock := by simp [State.grantGained]

@[simp] theorem State.lock_dualCoast : (s.dualCoast l).sh.lock = s.sh.lock := by
  unfold State.dualCoast
  split_ifs <;> simp

@[simp] theorem State.lock_binReset (n : Nat) (inLimits : Bool) : (s.binReset n inLimits).sh.lock = s.sh.lock := by
  unfold State.binReset
  dsimp only
  split_ifs <;> rfl

@[simp] theorem State.lock_driveUp : (s.driveUp l).sh.lock = (s.sh.lock.assertDrive l).1 := by
  unfold State.driveUp
  dsimp only
  split_ifs <;> rfl

@[simp] theorem State.lock_driveDown (c : Option TakeCause) : (s.driveDown l c).sh.lock = s.sh.lock.release l c := rfl

end

/-! ### The holder changes -/

section

variable {s o : State}

/-- A choice between two modules with sound interlocks. -/
theorem lockInv_ite {p : Prop} [Decidable p] {t : State} (hs : p → LockInv s.sh.lock) (ht : ¬p → LockInv t.sh.lock) :
    LockInv (if p then s else t).sh.lock := by
  split_ifs with hp
  · exact hs hp
  · exact ht hp

theorem lockInv_upd {l : LaneId} {f : Lane → Lane} (h : LockInv s.sh.lock) : LockInv (s.upd l f).sh.lock := by rwa [State.lock_upd]

/-- What a change of holder since the state `o` brings about for one lane. -/
def State.grantFromAt (s o : State) (l : LaneId) : State :=
  if o.sh.lock.holds l && !s.sh.lock.holds l then (s.onLock fun k => k.holdLevels (o.lane l)).grantLost l
  else if !o.sh.lock.holds l && s.sh.lock.holds l then s.grantGained l
  else s

theorem State.grantFrom_eq (s o : State) : s.grantFrom o = (s.grantFromAt o .a).grantFromAt o .b := rfl

theorem lockInv_grantFromAt (l : LaneId) (h : LockInv s.sh.lock) : LockInv (s.grantFromAt o l).sh.lock := by
  refine lockInv_ite (fun _ => ?_) fun _ => lockInv_ite (fun _ => by rwa [State.lock_grantGained]) fun _ => h
  rw [State.lock_grantLost, State.lock_onLock]
  exact lockInv_congr rfl (fun m => by cases m <;> rfl) (fun m => by cases m <;> rfl) h

/-- The effects of a change of holder touch nothing of the interlock but the levels held. -/
theorem lockInv_grantFrom (h : LockInv s.sh.lock) : LockInv (s.grantFrom o).sh.lock := lockInv_grantFromAt .b (lockInv_grantFromAt .a h)

/-- An interlock that loses its supply is free. -/
theorem lockInv_lockPower (h : LockInv s.sh.lock) : LockInv s.lockPower.sh.lock := by
  unfold State.lockPower
  split_ifs
  · exact h
  · exact lockInv_of_free rfl

/-- An operation keeps the interlock sound with the effects of the change of holder that it makes. -/
theorem lockInv_moving {f : State → State} (h : LockInv (f s).sh.lock) : LockInv (s.moving f).sh.lock :=
  lockInv_grantFrom (lockInv_lockPower h)

theorem lockInv_moving_driveUp (l : LaneId) (h : LockInv s.sh.lock) : LockInv (s.moving fun s => s.driveUp l).sh.lock :=
  lockInv_moving (by simpa using lockInv_assertDrive l h)

theorem lockInv_moving_driveDown (l : LaneId) (c : Option TakeCause) (h : LockInv s.sh.lock) :
    LockInv (s.moving fun s => s.driveDown l c).sh.lock := lockInv_moving (lockInv_release l c h)

/-- A lane that asserts DRIVE, and else does not, withdraws it. -/
theorem lockInv_withdraw (l : LaneId) (h : LockInv s.sh.lock) :
    LockInv (if s.sh.lock.drive l then s.moving fun s => s.driveDown l else s).sh.lock := by
  split_ifs
  · exact lockInv_moving_driveDown l none h
  · exact h

/-- With the shared section powered again each line that stands is a new request. -/
theorem lockInv_lockReturn (h : LockInv s.sh.lock) : LockInv s.lockReturn.sh.lock := by
  have hone (l : LaneId) {s : State} (h : LockInv s.sh.lock) :
      LockInv (if s.sh.lock.drive l then (s.onLock fun k => k.setDrive l false).driveUp l else s).sh.lock := by
    split_ifs
    · rw [State.lock_driveUp, State.lock_onLock]
      exact lockInv_assertDrive_new (by simp) (InterlockSt.soundFor_mono (by simp) (by simp) (by simp) (by simp) (by simp) (h.soundFor l.other))
    · exact h
  exact hone .b (hone .a h)

/-! ### Operations that move the interlock -/

variable (l : LaneId) (h : LockInv s.sh.lock)
include h

omit l in
/-- The hold stages let go where nobody holds the grant. -/
theorem lockInv_holdStageExpiry : LockInv (s.onLock fun k => if k.held then k else { k with holding := false }).sh.lock := by
  rw [State.lock_onLock]
  split_ifs
  · exact h
  · exact lockInv_congr rfl (fun m => by cases m <;> rfl) (fun m => by cases m <;> rfl) h

theorem lockInv_watchdog : LockInv (s.watchdog l).sh.lock := by
  unfold State.watchdog
  dsimp only
  split_ifs
  · rw [State.lock_upd]
    exact lockInv_cut l _ h
  · exact lockInv_cut l _ h
  · exact lockInv_setArm false h

theorem lockInv_supplyFault (i : Supply) (x : SupplyLoss) : LockInv (s.supplyFault l i x).sh.lock := by
  cases i with
  | core => simpa [State.supplyFault] using lockInv_cut l _ h
  | io =>
    unfold State.supplyFault
    dsimp only
    split_ifs
    · simpa using lockInv_cut l _ h
    · simpa using h
  | ana => simpa [State.supplyFault] using h

theorem lockInv_afterCoast (coast : Bool) : LockInv (s.afterCoast l coast).sh.lock := by
  have hdown : LockInv (if s.sh.lock.holds l && s.sh.lock.arm l.other then s.driveDown l (some .peerCoast) else s).sh.lock := by
    split_ifs
    · exact lockInv_release l _ h
    · exact h
  cases coast with
  | false => exact h
  | true =>
    unfold State.afterCoast
    rw [if_pos rfl]
    dsimp only
    split_ifs at hdown ⊢ <;> exact hdown

theorem lockInv_refLost (i : RefIn) (cause : TripCause) (det : Nat) : LockInv (s.refLost l i cause det).sh.lock :=
  lockInv_afterCoast l (by simpa using h) _

theorem lockInv_clkChart : LockInv (s.clkChart l).sh.lock := by
  unfold State.clkChart
  dsimp only
  have hone (i : RefIn) {s : State} (h : LockInv s.sh.lock) (A B : Lane × Bool) (p : Prop) [Decidable p] :
      LockInv (if p then (s.setLane l A.1).afterCoast l A.2 else (s.setLane l B.1).afterCoast l B.2).sh.lock := by
    split_ifs
    · exact lockInv_afterCoast l (by simpa using h) _
    · exact lockInv_afterCoast l (by simpa using h) _
  exact hone .refB (hone .refA h _ _ _) _ _ _

theorem lockInv_chartAdopt : LockInv (s.chartAdopt l).sh.lock := by
  unfold State.chartAdopt
  dsimp only
  split_ifs
  · exact lockInv_clkChart l (by simpa using h)
  · exact h

theorem lockInv_armRefresh : LockInv (s.armRefresh l).sh.lock := by
  unfold State.armRefresh
  simpa using lockInv_setArm _ h

theorem lockInv_failRelease : LockInv (s.failRelease l).sh.lock := by
  unfold State.failRelease
  split_ifs
  · exact lockInv_setArm false (lockInv_release l _ h)
  · exact h

/-! ### Start-up and LUBBER -/

theorem lockInv_lubberStart (reason : Nat) (time : Option (Rat × Bool)) : LockInv (s.lubberStart l reason time).sh.lock :=
  lockInv_clkChart l (lockInv_upd h)

theorem lockInv_startFail (code : Nat) : LockInv (s.startFail l code).sh.lock :=
  lockInv_ite (fun _ => lockInv_lubberStart l (lockInv_upd (lockInv_withdraw l h)) _ _) fun _ => lockInv_upd (lockInv_upd (lockInv_withdraw l h))

theorem lockInv_stepSeven (time : Option (Rat × Bool)) : LockInv (s.stepSeven l time).sh.lock :=
  lockInv_ite (fun _ => lockInv_upd h) fun _ => lockInv_startFail l (lockInv_upd h) _

theorem lockInv_capMismatch (time : Option (Rat × Bool)) : LockInv (s.capMismatch l time).sh.lock :=
  lockInv_ite (fun _ => lockInv_upd h) fun _ => lockInv_lubberStart l (lockInv_upd h) _ _

theorem lockInv_stepSix : LockInv (s.stepSix l).sh.lock :=
  lockInv_ite (fun _ => lockInv_stepSeven l (lockInv_upd h) _) fun _ => lockInv_capMismatch l (lockInv_upd h) _

theorem lockInv_exchange : LockInv (s.exchange l).sh.lock := by
  have h6 := lockInv_stepSix l h
  exact lockInv_ite
    (fun _ => lockInv_ite (fun _ => lockInv_stepSix l.other h6) fun _ => lockInv_ite (fun _ => h6) fun _ => lockInv_capMismatch l.other h6 _)
    fun _ => h

theorem lockInv_bootLoad : LockInv (s.bootLoad l).sh.lock := by
  have hrec {f : Lane → Lane} : LockInv (s.upd l f).sh.lock := lockInv_upd h
  exact lockInv_ite (fun _ => lockInv_startFail l hrec _) fun _ => lockInv_ite (fun _ => lockInv_startFail l hrec _) fun _ =>
    lockInv_exchange l (lockInv_clkChart l (lockInv_upd hrec))

theorem lockInv_contestTick : LockInv (s.contestTick l).sh.lock :=
  lockInv_ite (fun _ => lockInv_upd (lockInv_withdraw l h)) fun _ => h

theorem lockInv_roleTick : LockInv (s.roleTick l).sh.lock := by
  refine lockInv_ite (fun _ => h) fun _ => lockInv_ite (fun _ => lockInv_upd h) fun _ => lockInv_ite (fun _ => h) fun _ =>
    lockInv_ite (fun _ => lockInv_upd (lockInv_withdraw l h)) fun _ => lockInv_ite (fun _ => lockInv_upd (lockInv_withdraw l h)) fun _ =>
    lockInv_ite (fun _ => lockInv_upd h) fun _ => ?_
  split
  · exact lockInv_upd (lockInv_moving_driveUp l h)
  · exact lockInv_upd h
  · exact lockInv_upd h

theorem lockInv_lubberDrive : LockInv (s.lubberDrive l).sh.lock := lockInv_upd (lockInv_moving_driveUp l h)

theorem lockInv_lubberTick : LockInv (s.lubberTick l).sh.lock := by
  have hseen {f : Lane → Lane} : LockInv (s.upd l f).sh.lock := lockInv_upd h
  exact lockInv_ite (fun _ => h) fun _ => lockInv_ite
    (fun _ => lockInv_ite (fun _ => hseen) fun _ => lockInv_moving_driveDown l none hseen)
    fun _ => lockInv_ite (fun _ => lockInv_moving_driveUp l hseen) fun _ => hseen

/-! ### The tick -/

theorem lockInv_roleLatch (x : TickIn) : LockInv (s.roleLatch l x).sh.lock := by
  have hlost : ∀ (p : Prop) [Decidable p] (f g : Lane → Lane), LockInv (if p then (s.upd l f).upd l g else s.upd l f).sh.lock :=
    fun _ _ _ _ => lockInv_ite (fun _ => lockInv_upd (lockInv_upd h)) fun _ => lockInv_upd h
  refine lockInv_upd (lockInv_contestTick l (lockInv_lubberTick l (lockInv_roleTick l ?_)))
  exact lockInv_ite (fun _ => lockInv_setArm _ (lockInv_upd (hlost _ _ _))) fun _ => lockInv_upd (hlost _ _ _)

theorem lockInv_laneRestart (c : StartCause) : LockInv (s.laneRestart l c).sh.lock :=
  lockInv_moving (lockInv_upd (lockInv_setArm false (lockInv_release l none h)))

theorem lockInv_tickStart (x : TickIn) : LockInv (s.tickStart l x).sh.lock := by
  have hinfra : ∀ M, LockInv (s.setLane l M).sh.lock := fun M => by rwa [State.lock_setLane]
  exact lockInv_ite (fun _ => h) fun _ => lockInv_ite (fun _ => lockInv_laneRestart l h _) fun _ =>
    lockInv_ite (fun _ => lockInv_upd (hinfra _)) fun _ => lockInv_upd (lockInv_roleLatch l (lockInv_upd (hinfra _)) x)

theorem lockInv_commit (x : CommitIn) : LockInv (s.commit l x).sh.lock := by
  have hwork : ∀ M, LockInv (s.setLane l M).sh.lock := fun M => by rwa [State.lock_setLane]
  have harm (M : Lane) (p : Prop) [Decidable p] : LockInv (if p then s.setLane l M else (s.setLane l M).armRefresh l).sh.lock :=
    lockInv_ite (fun _ => hwork M) fun _ => lockInv_armRefresh l (hwork M)
  exact lockInv_ite (fun _ => h) fun _ =>
    lockInv_ite (fun _ => lockInv_moving (lockInv_failRelease l (lockInv_upd (harm _ _)))) fun _ => lockInv_upd (harm _ _)

end

/-! ### What a command answers -/

/-- An answer whose interlock is sound. -/
def SoundAnswer (o : Out) : Prop := ∀ t, o = .next t → LockInv t.sh.lock

theorem soundAnswer_next {t : State} (h : LockInv t.sh.lock) : SoundAnswer (.next t) := fun u hu => by
  cases hu
  exact h

theorem soundAnswer_ite {p : Prop} [Decidable p] {o q : Out} (ho : p → SoundAnswer o) (hq : ¬p → SoundAnswer q) :
    SoundAnswer (if p then o else q) := by
  split_ifs with hp
  · exact ho hp
  · exact hq hp

/-- An answer that leaves the interlock as it was. -/
theorem soundAnswer_of_lock {s t : State} (h : LockInv s.sh.lock) (ht : t.sh.lock = s.sh.lock) : SoundAnswer (.next t) :=
  soundAnswer_next (by rwa [ht])

theorem soundAnswer_onLane {s : State} {l : LaneId} {f : Lane → Lane} (h : LockInv s.sh.lock) : SoundAnswer (onLane l f s) :=
  soundAnswer_next (lockInv_upd h)

section

variable {s : State} (l : LaneId) (h : LockInv s.sh.lock)
include h

/-! The commands of start-up and of LUBBER. -/

theorem soundAnswer_laneStart (f : StartFindings) : SoundAnswer (execLaneStart l f s) :=
  soundAnswer_ite (fun _ => soundAnswer_of_lock h (by simp)) fun _ => soundAnswer_next h

theorem soundAnswer_capabilityExchangeTimeout : SoundAnswer (execCapabilityExchangeTimeout l s) :=
  soundAnswer_ite (fun _ => soundAnswer_next (lockInv_stepSeven l (lockInv_upd h) _)) fun _ => soundAnswer_next h

theorem soundAnswer_bootWindowTimeout : SoundAnswer (execBootWindowTimeout l s) :=
  soundAnswer_ite (fun _ => soundAnswer_next (lockInv_startFail l h _)) fun _ => soundAnswer_next h

theorem soundAnswer_roleWaitExpiry : SoundAnswer (execRoleWaitExpiry l s) := by
  unfold execRoleWaitExpiry
  dsimp only
  split
  · exact soundAnswer_ite (fun _ => soundAnswer_next (lockInv_upd (lockInv_moving_driveUp l h))) fun _ => soundAnswer_next h
  · exact soundAnswer_next h

theorem soundAnswer_contestReassert : SoundAnswer (execContestReassert l s) := by
  unfold execContestReassert
  dsimp only
  split
  · exact soundAnswer_ite (fun _ => soundAnswer_next (lockInv_upd (lockInv_moving_driveUp l h))) fun _ => soundAnswer_next h
  · exact soundAnswer_next h

theorem soundAnswer_driveNotGranted : SoundAnswer (execDriveNotGranted l s) := by
  unfold execDriveNotGranted
  dsimp only
  split
  · exact soundAnswer_ite (fun _ => soundAnswer_next (lockInv_upd (lockInv_moving_driveDown l none h))) fun _ => soundAnswer_next h
  · exact soundAnswer_next h

theorem soundAnswer_lubberPeerSilence : SoundAnswer (execLubberPeerSilence l s) :=
  soundAnswer_ite (fun _ => soundAnswer_next (lockInv_lubberDrive l h)) fun _ => soundAnswer_next h

theorem soundAnswer_lubberReassert : SoundAnswer (execLubberReassert l s) :=
  soundAnswer_ite (fun _ => soundAnswer_next (lockInv_lubberDrive l h)) fun _ => soundAnswer_next h

theorem soundAnswer_lubberRelease : SoundAnswer (execLubberRelease l s) :=
  soundAnswer_ite (fun _ => soundAnswer_next (lockInv_upd (lockInv_moving_driveDown l _ h))) fun _ => soundAnswer_next h

theorem soundAnswer_stopWindowEnd : SoundAnswer (execStopWindowEnd l s) :=
  soundAnswer_next <| lockInv_ite
    (fun _ => lockInv_ite (fun _ => lockInv_bootLoad l (lockInv_upd h)) fun _ => lockInv_upd h)
    fun _ => lockInv_ite (fun _ => lockInv_upd (by simpa using h)) fun _ => lockInv_upd h

/-! The commands between the lanes. -/

theorem soundAnswer_mirrorFrameReceived (x0 x1 : LinkRx) : SoundAnswer (execMirrorFrameReceived l x0 x1 s) := by
  unfold execMirrorFrameReceived
  split
  · exact soundAnswer_ite (fun _ => soundAnswer_next (lockInv_upd h)) fun _ => soundAnswer_next h
  · exact soundAnswer_next h

theorem soundAnswer_healthWordReceived (x0 x1 : LinkRx) (skew : Int) : SoundAnswer (execHealthWordReceived l x0 x1 skew s) := by
  unfold execHealthWordReceived
  dsimp only
  split
  · refine soundAnswer_ite (fun _ => soundAnswer_ite (fun _ => soundAnswer_next (lockInv_moving ?_)) fun _ => soundAnswer_next (lockInv_upd h))
      fun _ => soundAnswer_next h
    exact lockInv_ite (fun _ => lockInv_release .b none (lockInv_upd (lockInv_upd h))) fun _ => lockInv_upd (lockInv_upd h)
  · exact soundAnswer_next h

theorem soundAnswer_resyncStageEnd : SoundAnswer (execResyncStageEnd l s) := by
  unfold execResyncStageEnd
  dsimp only
  refine soundAnswer_ite (fun _ => ?_) fun _ => soundAnswer_next h
  split
  · exact soundAnswer_ite (fun _ => soundAnswer_next (lockInv_upd h)) fun _ =>
      soundAnswer_ite (fun _ => soundAnswer_next (lockInv_upd (lockInv_moving (lockInv_chartAdopt l h)))) fun _ => soundAnswer_next h
  · exact soundAnswer_ite (fun _ => soundAnswer_next (lockInv_upd h)) fun _ => soundAnswer_next h
  · exact soundAnswer_ite (fun _ => soundAnswer_next (lockInv_upd h)) fun _ => soundAnswer_next h
  · exact soundAnswer_ite (fun _ => soundAnswer_next (lockInv_upd h)) fun _ => soundAnswer_next h
  · exact soundAnswer_next h

theorem soundAnswer_takeover (gap : Nat) : SoundAnswer (execTakeover l gap s) := by
  refine soundAnswer_ite (fun _ => soundAnswer_ite (fun _ => soundAnswer_of_lock h (by simp)) fun _ => ?_) fun _ => soundAnswer_next h
  exact soundAnswer_ite (fun _ => soundAnswer_of_lock h (by simp)) fun _ => soundAnswer_of_lock h (by simp)

theorem soundAnswer_plannedHandover : SoundAnswer (execPlannedHandover l s) := by
  unfold execPlannedHandover
  dsimp only
  split
  · refine soundAnswer_ite (fun _ => soundAnswer_ite (fun _ => ?_) fun _ => soundAnswer_next (lockInv_upd h)) fun _ => soundAnswer_next h
    exact soundAnswer_next (lockInv_upd (lockInv_moving (lockInv_setArm true (lockInv_release l _ h))))
  · exact soundAnswer_next h

theorem soundAnswer_coldTakeover : SoundAnswer (execColdTakeover l s) :=
  soundAnswer_ite (fun _ => soundAnswer_next (lockInv_moving_driveUp l (lockInv_upd h))) fun _ => soundAnswer_next h

theorem soundAnswer_sextantDataReceived : SoundAnswer (execSextantDataReceived l s) :=
  soundAnswer_ite (fun _ => soundAnswer_onLane h) fun _ => soundAnswer_next h

theorem soundAnswer_antBiasFault (k cur : Nat) (limited : Bool) : SoundAnswer (execAntBiasFault l k cur limited s) :=
  soundAnswer_ite (fun _ => soundAnswer_next h) fun _ => soundAnswer_onLane h

theorem soundAnswer_crossRecordReceived : SoundAnswer (execCrossRecordReceived l s) := by
  unfold execCrossRecordReceived
  split
  · exact soundAnswer_next h
  · exact soundAnswer_next (lockInv_upd (lockInv_upd h))

theorem soundAnswer_supplyReturn (i : Supply) : SoundAnswer (execSupplyReturn l i s) :=
  soundAnswer_next (by simpa using lockInv_ite (fun _ => lockInv_lockReturn (lockInv_upd h)) fun _ => lockInv_upd h)

theorem soundAnswer_chartCheckDone (c : Option Chart) : SoundAnswer (execChartCheckDone l c s) := by
  unfold execChartCheckDone
  dsimp only
  split
  · refine soundAnswer_ite (fun _ => ?_) fun _ => soundAnswer_next h
    split
    · exact soundAnswer_next (lockInv_upd (lockInv_upd h))
    · exact soundAnswer_next (lockInv_upd h)
    · exact soundAnswer_next h
  · exact soundAnswer_next h

theorem soundAnswer_chartCurrent : SoundAnswer (execChartCurrent l s) := by
  have hdrop {t : State} (ht : LockInv t.sh.lock) : LockInv t.dropNext.sh.lock := by rwa [State.lock_dropNext]
  unfold execChartCurrent
  dsimp only
  split
  · refine soundAnswer_ite (fun _ => soundAnswer_next h) fun _ => soundAnswer_ite (fun _ => soundAnswer_next (hdrop (lockInv_upd h))) fun _ =>
      soundAnswer_ite (fun _ => soundAnswer_next (hdrop (lockInv_upd h))) fun _ =>
      soundAnswer_ite (fun _ => soundAnswer_next (hdrop (lockInv_upd h))) fun _ => soundAnswer_ite (fun _ => soundAnswer_next h) fun _ => ?_
    exact soundAnswer_next (hdrop (lockInv_clkChart .b (lockInv_clkChart .a (lockInv_upd (lockInv_upd h)))))
  · exact soundAnswer_next h

omit l in
theorem soundAnswer_openWireTest (n : Nat) (failA failB : Bool) : SoundAnswer (execOpenWireTest n failA failB s) := by
  unfold execOpenWireTest
  dsimp only
  split
  · exact soundAnswer_next h
  · exact soundAnswer_ite (fun _ => soundAnswer_next h) fun _ => soundAnswer_next h

omit l in
theorem soundAnswer_sourcePulseTest (c : SfChan) (high : Bool) : SoundAnswer (execSourcePulseTest c high s) := by
  unfold execSourcePulseTest
  dsimp only
  split
  · exact soundAnswer_next h
  · exact soundAnswer_ite (fun _ => soundAnswer_next (lockInv_upd h)) fun _ => soundAnswer_next h

/-! The commands of the safety channel leave the interlock alone. -/

/-- The Binnacle changed and its outputs judged anew. -/
theorem soundAnswer_bin {f : BinnacleSt → BinnacleSt} : SoundAnswer (.next (s.onBin f).binEval) :=
  soundAnswer_of_lock h (by simp)

omit l in
theorem soundAnswer_runDelayExpiry (d : Side) (k : Nat) : SoundAnswer (execRunDelayExpiry d k s) := by
  cases d with
  | proc l => exact soundAnswer_onLane h
  | bin => exact soundAnswer_ite (fun _ => soundAnswer_bin h) fun _ => soundAnswer_next h

omit l in
theorem soundAnswer_feedbackReleasedExpiry (d : Side) (k : Nat) : SoundAnswer (execFeedbackReleasedExpiry d k s) := by
  cases d with
  | proc l => exact soundAnswer_onLane h
  | bin => exact soundAnswer_ite (fun _ => soundAnswer_bin h) fun _ => soundAnswer_next h

omit l in
theorem soundAnswer_resetRelease (d : Side) (n : Nat) (inLimits : Bool) : SoundAnswer (execResetRelease d n inLimits s) := by
  cases d with
  | proc l => exact soundAnswer_onLane h
  | bin => exact soundAnswer_of_lock h (by simp)

omit l in
theorem soundAnswer_fbFault (d : Side) (k : Nat) : SoundAnswer (execFbFault d k s) := by
  cases d with
  | proc l => exact soundAnswer_onLane h
  | bin => exact soundAnswer_ite (fun _ => soundAnswer_bin h) fun _ => soundAnswer_next h

theorem soundAnswer_testPulseStart (k : Nat) (w : TestSwitch) : SoundAnswer (execTestPulseStart l k w s) :=
  soundAnswer_ite (fun _ => soundAnswer_next (lockInv_ite (fun _ => lockInv_upd h) fun _ => lockInv_upd h)) fun _ => soundAnswer_next h

theorem soundAnswer_testPulseEnd (k : Nat) (high : Bool) : SoundAnswer (execTestPulseEnd l k high s) := by
  unfold execTestPulseEnd
  dsimp only
  split
  · exact soundAnswer_ite (fun _ => soundAnswer_next (lockInv_ite (fun _ => lockInv_upd h) fun _ => lockInv_upd h)) fun _ => soundAnswer_next h
  · exact soundAnswer_next h

theorem soundAnswer_binnacleWrite : SoundAnswer (execBinnacleWrite l s) := by
  unfold execBinnacleWrite
  dsimp only
  split
  · exact soundAnswer_ite (fun _ => soundAnswer_bin (lockInv_upd h)) fun _ => soundAnswer_next h
  · exact soundAnswer_next h

omit l in
theorem soundAnswer_binnacleWriteEnd (taken : Bool) : SoundAnswer (execBinnacleWriteEnd taken s) := by
  unfold execBinnacleWriteEnd
  dsimp only
  split
  · exact soundAnswer_next h
  · exact soundAnswer_of_lock h (by rw [State.lock_binEval, State.lock_upd, State.lock_onBin])

/-- Every command answers a sound interlock where it finds one: those of one lane reach no interlock, the others move it by the
operations above. -/
theorem soundAnswer_exec (c : Instr) : SoundAnswer (exec c s) := by
  cases hc : soleLane c with
  | some l =>
    obtain ⟨M, hM⟩ := exec_of_soleLane s hc
    rw [hM]
    exact soundAnswer_of_lock h (by simp)
  | none =>
    cases c
    case laneStart l f => exact soundAnswer_laneStart l h f
    case capabilityExchangeTimeout l => exact soundAnswer_capabilityExchangeTimeout l h
    case roleWaitExpiry l => exact soundAnswer_roleWaitExpiry l h
    case contestReassert l => exact soundAnswer_contestReassert l h
    case driveNotGranted l => exact soundAnswer_driveNotGranted l h
    case bootWindowTimeout l => exact soundAnswer_bootWindowTimeout l h
    case lubberPeerSilence l => exact soundAnswer_lubberPeerSilence l h
    case lubberReassert l => exact soundAnswer_lubberReassert l h
    case lubberRelease l => exact soundAnswer_lubberRelease l h
    case stopWindowEnd l => exact soundAnswer_stopWindowEnd l h
    case tickStart l x => exact soundAnswer_next (lockInv_tickStart l h x)
    case commitPoint l x => exact soundAnswer_next (lockInv_commit l h x)
    case mirrorFrameReceived l x0 x1 => exact soundAnswer_mirrorFrameReceived l h x0 x1
    case healthWordReceived l x0 x1 skew => exact soundAnswer_healthWordReceived l h x0 x1 skew
    case resyncStageEnd l => exact soundAnswer_resyncStageEnd l h
    case takeover l gap => exact soundAnswer_takeover l h gap
    case plannedHandover l => exact soundAnswer_plannedHandover l h
    case coldTakeover l => exact soundAnswer_coldTakeover l h
    case driveAssert l => exact soundAnswer_next (lockInv_moving_driveUp l h)
    case driveRelease l => exact soundAnswer_next (lockInv_moving_driveDown l none h)
    case grantResolve => exact soundAnswer_next (lockInv_moving (lockInv_resolve h))
    case deadTimeEnd => exact soundAnswer_next (lockInv_moving (lockInv_endDeadTime h))
    case claim l => exact soundAnswer_next (lockInv_moving (lockInv_ite (fun _ => by simpa using lockInv_assertDrive l h) fun _ => h))
    case claimInhibitEnd l => exact soundAnswer_next (lockInv_setInhibit false h)
    case holdStageExpiry => exact soundAnswer_next (lockInv_holdStageExpiry h)
    case commitWatchdogExpiry l => exact soundAnswer_next (lockInv_moving (lockInv_watchdog l h))
    case supplyFault l i x => exact soundAnswer_next (lockInv_moving (by simpa using lockInv_supplyFault l h i x))
    case supplyReturn l i => exact soundAnswer_supplyReturn l h i
    case refLost l i cause det => exact soundAnswer_next (lockInv_moving (lockInv_refLost l h i cause det))
    case sextantDataReceived l => exact soundAnswer_sextantDataReceived l h
    case antBiasFault l k cur limited => exact soundAnswer_antBiasFault l h k cur limited
    case crossRecordReceived l => exact soundAnswer_crossRecordReceived l h
    case openWireTest n failA failB => exact soundAnswer_openWireTest h n failA failB
    case chartCheckDone l c => exact soundAnswer_chartCheckDone l h c
    case chartCurrent l => exact soundAnswer_chartCurrent l h
    case binnacleInputChange c high => exact soundAnswer_bin h
    case binnacleDiscLatch n => exact soundAnswer_ite (fun _ => soundAnswer_bin h) fun _ => soundAnswer_next h
    case binnacleSwitchCheck k high => exact soundAnswer_ite (fun _ => soundAnswer_of_lock h (by simp)) fun _ => soundAnswer_next h
    case testAsStop k => exact soundAnswer_ite (fun _ => soundAnswer_next h) fun _ => soundAnswer_next h
    case cfgBad => exact soundAnswer_bin h
    case binnacleWrite l => exact soundAnswer_binnacleWrite l h
    case binnacleWriteEnd taken => exact soundAnswer_binnacleWriteEnd h taken
    case runDelayExpiry d k => exact soundAnswer_runDelayExpiry h d k
    case feedbackReleasedExpiry d k => exact soundAnswer_feedbackReleasedExpiry h d k
    case resetRelease d n inLimits => exact soundAnswer_resetRelease h d n inLimits
    case fbFault d k => exact soundAnswer_fbFault h d k
    case testPulseStart l k w => exact soundAnswer_testPulseStart l h k w
    case testPulseEnd l k high => exact soundAnswer_testPulseEnd l h k high
    case sourcePulseTest c high => exact soundAnswer_sourcePulseTest h c high
    case soOverloadOff k => exact soundAnswer_next h
    case soOverloadRetry k => exact soundAnswer_next h
    all_goals cases hc

end

/-- Settles O8: a step carries out the front command, which keeps the interlock sound, or idles. -/
theorem interlockSound : Obligations.InterlockSound := by
  unfold Obligations.InterlockSound
  intro s t h hstep
  cases hp : s.pending with
  | nil =>
    have hidle : step s = .next s := by unfold step; rw [hp]
    exact soundAnswer_next h t (hidle.symm.trans hstep)
  | cons c rest =>
    have hfront : step s = exec c { s with pending := rest } := by unfold step; rw [hp]
    exact soundAnswer_exec (s := { s with pending := rest }) h c t (hfront.symm.trans hstep)

end Sys2Proof.Machine
end

section
/-! The interlock's commands (01 R26, R29-R31, R624, R625; 12 R452): what each answers, and the state right after reset. -/

namespace Sys2Proof.Machine

open Sys2Proof

/-- Settles O4: the interlock is free, and nothing has been written yet. -/
theorem resetState : Obligations.ResetState := by
  unfold Obligations.ResetState
  refine ⟨lockInv_of_free rfl, rfl, rfl, fun l => ?_⟩
  cases l <;> exact ⟨rfl, rfl, by decide⟩

/-! ### The holder before and after -/

theorem InterlockSt.holds_iff {k : InterlockSt} {l : LaneId} : k.holds l = true ↔ k.grant = .held l := decide_eq_true_iff

theorem InterlockSt.holds_congr {k j : InterlockSt} (h : j.grant = k.grant) (l : LaneId) : j.holds l = k.holds l := by
  unfold InterlockSt.holds
  rw [h]

/-- Nobody holds an interlock whose grant is none. -/
theorem InterlockSt.holds_of_noHolder {k : InterlockSt} (h : ∀ l, k.grant ≠ .held l) (l : LaneId) : k.holds l = false :=
  decide_eq_false (h l)

section

variable {s o : State} {l : LaneId}

/-- A lane that holds the grant as before sees no effect. -/
theorem State.grantFromAt_same (h : s.sh.lock.holds l = o.sh.lock.holds l) : s.grantFromAt o l = s := by
  unfold State.grantFromAt
  rw [h]
  cases o.sh.lock.holds l <;> rfl

/-- A lane that has lost the grant: the hold stages take its levels, and the lane lets go. -/
theorem State.grantFromAt_lost (ho : o.sh.lock.holds l = true) (hs : s.sh.lock.holds l = false) :
    s.grantFromAt o l = (s.onLock fun k => k.holdLevels (o.lane l)).grantLost l := by
  simp [State.grantFromAt, ho, hs]

/-- A lane that has gained the grant. -/
theorem State.grantFromAt_gained (ho : o.sh.lock.holds l = false) (hs : s.sh.lock.holds l = true) : s.grantFromAt o l = s.grantGained l := by
  simp [State.grantFromAt, ho, hs]

/-- The effects of a change of holder do not change the holder. -/
@[simp] theorem State.holds_grantFromAt (m : LaneId) : (s.grantFromAt o l).sh.lock.holds m = s.sh.lock.holds m := by
  unfold State.grantFromAt
  split_ifs
  · rw [State.lock_grantLost]
    rfl
  · rw [State.lock_grantGained]
  · rfl

/-- Only a lane whose hold of the grant changes sees an effect. -/
theorem State.grantFrom_at (h : s.sh.lock.holds l.other = o.sh.lock.holds l.other) : s.grantFrom o = s.grantFromAt o l := by
  rw [State.grantFrom_eq]
  cases l
  · exact State.grantFromAt_same (by rwa [State.holds_grantFromAt])
  · rw [State.grantFromAt_same (l := .a) h]

theorem State.grantFrom_same (h : ∀ l, s.sh.lock.holds l = o.sh.lock.holds l) : s.grantFrom o = s :=
  (State.grantFrom_at (l := .a) (h _)).trans (State.grantFromAt_same (h _))

/-! ### An operation with the change of holder it makes -/

variable {f : State → State}

theorem State.moving_powered (h : (f s).sharedPower = true) : s.moving f = (f s).grantFrom s := by
  unfold State.moving State.lockPower
  rw [if_pos h]

/-- An operation that leaves every lane's hold of the grant as it was, has no other effect. -/
theorem State.moving_same (h : (f s).sharedPower = true) (hh : ∀ l, (f s).sh.lock.holds l = s.sh.lock.holds l) : s.moving f = f s :=
  (State.moving_powered h).trans (State.grantFrom_same hh)

/-- With the shared section unpowered nobody holds the grant after an operation, and nothing is held over (R26); the lines stand. -/
theorem State.moving_unpowered (h : (f s).sharedPower = false) :
    (s.moving f).sh.lock.grant = .free ∧ (s.moving f).sh.lock.holding = false ∧ ∀ m, (s.moving f).sh.lock.drive m = (f s).sh.lock.drive m := by
  have hat (l : LaneId) (t : State) : (t.grantFromAt s l).sh.lock.grant = t.sh.lock.grant ∧
      (t.grantFromAt s l).sh.lock.holding = t.sh.lock.holding ∧ ∀ m, (t.grantFromAt s l).sh.lock.drive m = t.sh.lock.drive m := by
    unfold State.grantFromAt
    split_ifs
    · simp only [State.lock_grantLost, State.lock_onLock]
      exact ⟨rfl, rfl, fun m => by cases m <;> rfl⟩
    · simp
    · simp
  unfold State.moving State.lockPower
  rw [if_neg (by simp [h]), State.grantFrom_eq]
  obtain ⟨hga, hha, hda⟩ := hat .a ((f s).onLock fun k => { k with grant := .free, holding := false })
  obtain ⟨hgb, hhb, hdb⟩ := hat .b (((f s).onLock fun k => { k with grant := .free, holding := false }).grantFromAt s .a)
  exact ⟨hgb.trans hga, hhb.trans hha, fun m => (hdb m).trans ((hda m).trans (by cases m <;> rfl))⟩

@[simp] theorem State.sharedPower_onLock (g : InterlockSt → InterlockSt) : (s.onLock g).sharedPower = s.sharedPower := rfl

@[simp] theorem State.sharedPower_driveUp : (s.driveUp l).sharedPower = s.sharedPower := by
  unfold State.driveUp
  dsimp only
  split_ifs <;> rfl

/-! ### DRIVE asserted -/

/-- DRIVE asserted without a contest changes the interlock alone. -/
theorem State.driveUp_quiet {k : InterlockSt} (h : s.sh.lock.assertDrive l = (k, false)) : s.driveUp l = s.onLock fun _ => k := by
  unfold State.driveUp
  rw [h]
  rfl

/-- A contest is an event in both lanes. -/
def Lane.contested (L : Lane) : Lane := (L.find 0x01 7).onBoot fun b => { b with contest := true }

theorem State.driveUp_contest {k : InterlockSt} (h : s.sh.lock.assertDrive l = (k, true)) :
    s.driveUp l = (s.onLock fun _ => k).both Lane.contested := by
  unfold State.driveUp
  rw [h]
  rfl

/-- A new request is put to the interlock in one of four ways. -/
theorem InterlockSt.assertDrive_cases {k : InterlockSt} (hd : k.drive l = false) :
    (k.assertDrive l).1 = (k.request l).setGrant (.window l) ∨ (k.assertDrive l).1 = (k.request l).contest ∨
    (k.assertDrive l).1 = (k.request l).setSpent l true ∨ (k.assertDrive l).1 = k.request l := by
  cases hg : k.grant with
  | free => exact .inl (by rw [InterlockSt.assertDrive_free hd hg])
  | window m =>
    rcases LaneId.eq_or_other l m with rfl | rfl
    · exact .inr (.inr (.inr (by rw [InterlockSt.assertDrive_waits hd (.inr (.inr hg))])))
    · exact .inr (.inl (by rw [InterlockSt.assertDrive_contest hd hg]))
  | deadTime m =>
    rcases LaneId.eq_or_other l m with rfl | rfl
    · exact .inr (.inr (.inl (by rw [InterlockSt.assertDrive_ownDeadTime hd hg])))
    · exact .inr (.inr (.inr (by rw [InterlockSt.assertDrive_waits hd (.inr (.inl hg))])))
  | held m => exact .inr (.inr (.inr (by rw [InterlockSt.assertDrive_waits hd (.inl ⟨m, hg⟩)])))

/-- However the interlock answers, the line stands asserted, and the other lane's as it was. -/
theorem InterlockSt.drive_assertDrive (k : InterlockSt) (l : LaneId) :
    (k.assertDrive l).1.drive l = true ∧ (k.assertDrive l).1.drive l.other = k.drive l.other := by
  cases hd : k.drive l with
  | true => simpa [InterlockSt.assertDrive_asserted hd] using hd
  | false => rcases InterlockSt.assertDrive_cases hd with h | h | h | h <;> simp [h]

/-- DRIVE asserted where it opens no contest and gives nobody the grant: the interlock changes, and nothing else. -/
theorem exec_driveAssert_quiet {k : InterlockSt} (hp : s.sharedPower = true) (h : s.sh.lock.assertDrive l = (k, false))
    (hh : ∀ m, k.holds m = s.sh.lock.holds m) : exec (.driveAssert l) s = .next (s.onLock fun _ => k) := by
  have hmove : s.moving (fun s => s.driveUp l) = s.driveUp l :=
    State.moving_same (by simpa using hp) fun m => by rw [State.lock_driveUp, h]; exact hh m
  exact congrArg Host.Outcome.next (hmove.trans (State.driveUp_quiet h))

end

/-- A contest found is framed: one event, and the lane's note of it. -/
theorem Lane.framedUpTo_contested (L : Lane) : L.framedUpTo L.contested [] [(0x01, 7)] fun N => N.onBoot fun _ => L.boot :=
  ⟨L.keepsBut_refl [], rfl, rfl⟩

/-- Settles O5: the interlock answers the request by its grant, and no lane's hold of the grant changes, but with the shared section
unpowered. -/
theorem driveRequests : Obligations.DriveRequests := by
  unfold Obligations.DriveRequests
  intro s l
  refine ⟨fun hp hd => ?_, fun hp hd => ⟨fun hg => ?_, fun hg => ?_, fun hg => ?_, fun hg => ?_⟩, fun hp => ?_⟩
  · exact exec_driveAssert_quiet hp (InterlockSt.assertDrive_asserted hd) fun _ => rfl
  · refine ⟨_, exec_driveAssert_quiet hp (InterlockSt.assertDrive_free hd hg) fun m => ?_, ?_⟩
    · rw [InterlockSt.holds_of_noHolder (by simp), InterlockSt.holds_of_noHolder (by simp [hg])]
    · exact ⟨by simp, by simp, by simp, by simp, rfl, rfl, rfl, rfl⟩
  · have hlock : (s.driveUp l).sh.lock = (s.sh.lock.request l).contest := by
      rw [State.lock_driveUp, InterlockSt.assertDrive_contest hd hg]
    have hmove : s.moving (fun s => s.driveUp l) = s.driveUp l := State.moving_same (by simpa using hp) fun m => by
      rw [hlock, InterlockSt.holds_of_noHolder (by simp), InterlockSt.holds_of_noHolder (by simp [hg])]
    have hlane (m : LaneId) : (s.driveUp l).lane m = (s.lane m).contested := by
      rw [State.driveUp_contest (InterlockSt.assertDrive_contest hd hg)]
      cases m <;> rfl
    refine ⟨s.driveUp l, congrArg Host.Outcome.next hmove, ?_, ?_, ?_, ?_, fun m => ?_⟩
    · rw [hlock, InterlockSt.grant_contest]
    · rw [hlock, InterlockSt.drive_contest, InterlockSt.drive_request]
    · rw [hlock, InterlockSt.spent_contest]
    · rw [hlock, InterlockSt.spent_contest]
    · rw [hlane]
      exact ⟨(s.lane m).framedUpTo_contested, rfl⟩
  · have hwait : s.sh.lock.assertDrive l = (s.sh.lock.request l, false) :=
      InterlockSt.assertDrive_waits hd (hg.imp (fun h => ⟨_, h⟩) .inl)
    exact ⟨_, exec_driveAssert_quiet hp hwait (InterlockSt.holds_congr (by simp)), by simp, by simp, by simp, rfl, rfl⟩
  · exact ⟨_, exec_driveAssert_quiet hp (InterlockSt.assertDrive_ownDeadTime hd hg) (InterlockSt.holds_congr (by simp)), by simp [hg], by simp,
      by simp, rfl, rfl⟩
  · obtain ⟨hfree, hhold, hdrive⟩ := State.moving_unpowered (s := s) (f := fun s => s.driveUp l) (by simpa using hp)
    obtain ⟨hown, hother⟩ := s.sh.lock.drive_assertDrive l
    exact ⟨_, rfl, hfree, hhold, by simpa [hdrive] using hown, by simpa [hdrive] using hother⟩

/-! ### DRIVE released, and the interlock's own times -/

section

variable {s o : State} {l : LaneId}

@[simp] theorem State.lane_onBin (f : BinnacleSt → BinnacleSt) (m : LaneId) : (s.onBin f).lane m = s.lane m := by cases m <;> rfl
@[simp] theorem State.lane_binEval (m : LaneId) : s.binEval.lane m = s.lane m := by unfold State.binEval; rw [State.lane_onBin]

theorem State.lane_other_grantLost : (s.grantLost l).lane l.other = s.lane l.other := by
  unfold State.grantLost State.sfGrantLost
  dsimp only
  rw [State.lane_upd_other, State.lane_binEval]
  split_ifs <;> simp only [State.lane_upd_other, State.lane_onBin]

theorem State.lane_other_grantGained : (s.grantGained l).lane l.other = s.lane l.other := by
  rw [State.grantGained, State.lane_binEval, State.lane_upd_other]

/-- Two operations that make the same of the interlock. -/
theorem State.onLock_congr {f g : InterlockSt → InterlockSt} (h : f s.sh.lock = g s.sh.lock) : s.onLock f = s.onLock g := by
  unfold State.onLock
  rw [h]

@[simp] theorem InterlockSt.drive_holdLevels (k : InterlockSt) (L : Lane) (m : LaneId) : (k.holdLevels L).drive m = k.drive m := by
  cases m <;> rfl
@[simp] theorem InterlockSt.inhibit_holdLevels (k : InterlockSt) (L : Lane) (m : LaneId) : (k.holdLevels L).inhibit m = k.inhibit m := by
  cases m <;> rfl

/-- What the holder's release makes of the interlock. -/
theorem InterlockSt.release_holder {k : InterlockSt} (h : k.grant = .held l) (c : Option TakeCause) :
    (k.release l c).grant = .deadTime l ∧ (k.release l c).drive l = false ∧ (k.release l c).inhibit l = true ∧
    (k.release l c).holding = true ∧ (k.release l c).drive l.other = k.drive l.other := by
  have hgrant : (k.dropGrant l c).grant = .deadTime l := by simp [InterlockSt.dropGrant, InterlockSt.holds, h]
  have hhold : (k.dropGrant l c).holding = true := by simp [InterlockSt.dropGrant, InterlockSt.holds, h]
  simp [InterlockSt.release, InterlockSt.holds_iff.2 h, hgrant, hhold]

/-- A withdrawal in the lane's own window makes the interlock free. -/
theorem InterlockSt.release_window {k : InterlockSt} (h : k.grant = .window l) (c : Option TakeCause) :
    (k.release l c).grant = .free ∧ (k.release l c).drive l = false := by
  simp [InterlockSt.release, InterlockSt.dropGrant, InterlockSt.holds, h]

variable {f : InterlockSt → InterlockSt}

/-- An operation on the interlock that takes the grant from its holder. -/
theorem State.moving_onLock_lost (hp : s.sharedPower = true) (ho : s.sh.lock.grant = .held l) (hn : ∀ m, (f s.sh.lock).grant ≠ .held m) :
    s.moving (fun s => s.onLock f) = ((s.onLock f).onLock fun k => k.holdLevels (s.lane l)).grantLost l := by
  rw [State.moving_powered (by simpa using hp), State.grantFrom_at (l := l), State.grantFromAt_lost (InterlockSt.holds_iff.2 ho)
    (InterlockSt.holds_of_noHolder hn l)]
  rw [State.lock_onLock, InterlockSt.holds_of_noHolder hn, InterlockSt.holds, ho]
  simp

/-- An operation on the interlock that grants a lane where nobody held it. -/
theorem State.moving_onLock_gained (hp : s.sharedPower = true) (ho : ∀ m, s.sh.lock.grant ≠ .held m) (hn : (f s.sh.lock).grant = .held l) :
    s.moving (fun s => s.onLock f) = (s.onLock f).grantGained l := by
  rw [State.moving_powered (by simpa using hp), State.grantFrom_at (l := l), State.grantFromAt_gained (InterlockSt.holds_of_noHolder ho l)
    (InterlockSt.holds_iff.2 hn)]
  rw [State.lock_onLock, InterlockSt.holds_of_noHolder ho, InterlockSt.holds, hn]
  simp

/-- An operation on the interlock while nobody holds the grant, nor does after it. -/
theorem State.moving_onLock_noHolder (hp : s.sharedPower = true) (ho : ∀ m, s.sh.lock.grant ≠ .held m) (hn : ∀ m, (f s.sh.lock).grant ≠ .held m) :
    s.moving (fun s => s.onLock f) = s.onLock f :=
  State.moving_same (by simpa using hp) fun m => by rw [State.lock_onLock, InterlockSt.holds_of_noHolder ho, InterlockSt.holds_of_noHolder hn]

/-- A grant given where nobody held it: the lane drives, nothing is held over, and the other lane is not reached. -/
theorem State.moving_onLock_give (hp : s.sharedPower = true) (ho : ∀ m, s.sh.lock.grant ≠ .held m) (hf : f s.sh.lock = s.sh.lock.give l) :
    let t := s.moving fun s => s.onLock f
    t.sh.lock.grant = .held l ∧ t.sh.lock.holding = false ∧ t.sh.lock.lastDriver = some l ∧ t.lane l.other = s.lane l.other := by
  dsimp only
  rw [State.moving_onLock_gained (l := l) hp ho (by simp [hf]), State.lock_grantGained, State.lock_onLock, hf, State.lane_other_grantGained,
    State.lane_onLock]
  exact ⟨rfl, rfl, rfl, rfl⟩

end

/-- Settles O6: each command is an operation on the interlock, and what else it does is the effect of the change of holder it makes. -/
theorem grantMoves : Obligations.GrantMoves := by
  unfold Obligations.GrantMoves
  intro s l
  refine ⟨fun hp => ⟨fun hg => ?_, fun hg => ?_, fun hg hd => ?_, fun hg hd hs => ?_, fun hg h => ?_⟩, fun hp i hi => ?_, fun h => ?_, fun h => ?_⟩
  · obtain ⟨hgrant, hdrive, hinh, hhold, hother⟩ := InterlockSt.release_holder hg none
    have ht := State.moving_onLock_lost (f := fun k => k.release l none) hp hg (by simp [hgrant])
    refine ⟨_, congrArg Host.Outcome.next ht, ?_⟩
    dsimp only
    rw [State.lock_grantLost, State.lock_onLock, State.lock_onLock, State.lane_other_grantLost, State.lane_onLock, State.lane_onLock]
    simp only [InterlockSt.drive_holdLevels, InterlockSt.inhibit_holdLevels]
    exact ⟨hgrant, hdrive, hinh, hhold, rfl, rfl, hother, trivial⟩
  · obtain ⟨hgrant, hdrive⟩ := InterlockSt.release_window hg none
    have ht := State.moving_onLock_noHolder (f := fun k => k.release l none) hp (by simp [hg]) (by simp [hgrant])
    exact ⟨_, congrArg Host.Outcome.next ht, hgrant, hdrive, rfl, rfl⟩
  · exact ⟨_, rfl, State.moving_onLock_give hp (by simp [hg]) (InterlockSt.resolve_asserted hg hd)⟩
  · obtain ⟨hgrant, hhold, hlast, hother⟩ := State.moving_onLock_give hp (by simp [hg]) (InterlockSt.endDeadTime_asked hg hd hs)
    exact ⟨_, rfl, hgrant, hhold, hlast, by simpa using hother⟩
  · have hfree := InterlockSt.endDeadTime_unasked hg h
    have ht := State.moving_onLock_noHolder (f := InterlockSt.endDeadTime) hp (by simp [hg]) (by simp [hfree])
    exact congrArg Host.Outcome.next (ht.trans (State.onLock_congr hfree))
  · have hun (f : InterlockSt → InterlockSt) : (s.moving fun s => s.onLock f).sh.lock.grant = .free ∧
        (s.moving fun s => s.onLock f).sh.lock.holding = false := by
      obtain ⟨hgrant, hhold, -⟩ := State.moving_unpowered (s := s) (f := fun s => s.onLock f) (by simpa using hp)
      exact ⟨hgrant, hhold⟩
    simp only [List.mem_cons, List.not_mem_nil, or_false] at hi
    rcases hi with rfl | rfl | rfl
    · exact ⟨_, rfl, hun fun k => k.release l none⟩
    · exact ⟨_, rfl, hun InterlockSt.resolve⟩
    · exact ⟨_, rfl, hun InterlockSt.endDeadTime⟩
  · exact congrArg Host.Outcome.next (State.onLock_congr (if_neg (by simp [h])))
  · exact congrArg Host.Outcome.next (State.onLock_congr (g := id) (if_pos h))

end Sys2Proof.Machine
end

section
/-! Engines and memories (01 R34, R43, R44; 02 R67, R71): the lane after each of their commands. -/

namespace Sys2Proof.Machine

open Sys2Proof

/-- A change of the record of the hardware's states on top of a frame. -/
theorem Lane.framedUpTo_onHw {L M : Lane} {fs : List Fld} {es : List (Nat × Nat)} (g : LaneHw → LaneHw) (h : L.framed M fs es) :
    L.framedUpTo (M.onHw g) fs es fun N => N.onHw fun _ => L.hw := by
  obtain ⟨hk, hf, ho⟩ := h
  have hback := congrArg (fun N : Lane => N.onHw fun _ => L.hw) (show { M with regs := L.regs, found := L.found } = L from ho)
  exact ⟨Lane.keepsBut_regs (M.onHw_regs g) hk, hf, hback⟩

theorem Lane.framed_incSat {L M : Lane} {fs : List Fld} {es : List (Nat × Nat)} {f : Fld} (n : Nat) (hm : f ∈ fs) (hf : f.lo + f.w ≤ 32)
    (h : L.framed M fs es) : L.framed (M.incSat f n) fs es := Lane.framed_set _ hm hf h

/-- A count that saturates, raised by nothing. -/
theorem Lane.get_eq_min_add_zero (L : Lane) (f : Fld) : L.get f = min (L.get f + 0) (2 ^ f.w - 1) := by
  have := L.get_lt f
  omega

/-! ### Lockstep (01 R34) -/

section

variable (L : Lane) (safe : Bool)

/-- The count of mismatches of a pair, and the field that shows one. -/
def lockstepCnt : Fld := if safe then Reg.LANE_LOCKSTEP_CNT_SAFE else Reg.LANE_LOCKSTEP_CNT_SUP
def lockstepSeen : Fld := if safe then Reg.LANE_FAULT_LOCKSTEP_SAFE else Reg.LANE_FAULT_LOCKSTEP_SUP

/-- What a mismatch shows in the lane's page. -/
def Lane.lockstepShown : Lane := ((L.incSat (lockstepCnt safe)).setb (lockstepSeen safe) true).find 0x01 2

/-- A mismatch halts its pair and shows. -/
theorem Lane.lockstep_eq : L.lockstep safe = (L.lockstepShown safe).onHw fun h =>
    { h with halt := h.halt ||| (if safe then 0xC else 3), mismatch := h.mismatch ||| (if safe then 0xC else 3) } := (rfl)

theorem Lane.hw_lockstepShown : (L.lockstepShown safe).hw = L.hw := (rfl)

theorem lockstepFlds_fit : (lockstepCnt safe).lo + (lockstepCnt safe).w ≤ 32 ∧ (lockstepSeen safe).lo + 1 ≤ 32 ∧ (lockstepSeen safe).w = 1 ∧
    (lockstepCnt safe).apart (lockstepSeen safe) := by cases safe <;> decide

theorem Lane.framed_lockstepShown : L.framed (L.lockstepShown safe) [lockstepCnt safe, lockstepSeen safe] [(0x01, 2)] := by
  obtain ⟨hcnt, hseen, hw, -⟩ := lockstepFlds_fit safe
  exact Lane.framed_find _ _ (Lane.framed_setb _ (by simp) (by omega) (Lane.framed_incSat _ (by simp) hcnt (L.framed_refl _)))

theorem Lane.get_lockstepShown :
    (L.lockstepShown safe).get (lockstepCnt safe) = min (L.get (lockstepCnt safe) + 1) 65535 ∧ (L.lockstepShown safe).get (lockstepSeen safe) = 1 := by
  obtain ⟨hcnt, hseen, hw, hap⟩ := lockstepFlds_fit safe
  constructor
  · have hmax : 2 ^ (lockstepCnt safe).w - 1 = 65535 := by cases safe <;> rfl
    rw [Lane.lockstepShown, Lane.find_get, Lane.setb, Lane.get_set_apart _ _ (by omega) hcnt hap, Lane.get_incSat _ _ _ hcnt, hmax]
  · rw [Lane.lockstepShown, Lane.find_get, Lane.get_setb _ _ _ hseen hw, if_pos rfl]

end

/-! ### Memory errors (01 R43, R44) -/

theorem corrFld_fits (mem : Nat) : (corrFld mem).lo + (corrFld mem).w ≤ 32 := by unfold corrFld; split_ifs <;> decide

/-- A count of corrected errors raised, and its event. -/
theorem Lane.corrCounted_spec (L : Lane) (mem n : Nat) :
    ((L.incSat (corrFld mem) n).find 0x01 0).get (corrFld mem) = min (L.get (corrFld mem) + n) (2 ^ (corrFld mem).w - 1) ∧
    L.framed ((L.incSat (corrFld mem) n).find 0x01 0) [corrFld mem] [(0x01, 0)] :=
  ⟨by rw [Lane.find_get, Lane.get_incSat _ _ _ (corrFld_fits mem)],
    Lane.framed_find _ _ (Lane.framed_incSat _ (by simp) (corrFld_fits mem) (L.framed_refl _))⟩

/-- What the scrubber shows of the corrected errors it met. -/
def Lane.scrubShown (L : Lane) (mem corr : Nat) : Lane := if corr = 0 then L else (L.incSat (corrFld mem) corr).find 0x01 0

theorem Lane.scrubShown_spec (L : Lane) (mem corr : Nat) :
    (L.scrubShown mem corr).get (corrFld mem) = min (L.get (corrFld mem) + corr) (2 ^ (corrFld mem).w - 1) ∧
    L.framed (L.scrubShown mem corr) [corrFld mem] (if corr = 0 then [] else [(0x01, 0)]) := by
  unfold Lane.scrubShown
  split_ifs with h
  · exact ⟨h ▸ L.get_eq_min_add_zero _, L.framed_refl _⟩
  · exact L.corrCounted_spec mem corr

/-- The addresses of the scrubber after `words` words. -/
def LaneHw.scrubbed (h : LaneHw) (mem words : Nat) : LaneHw :=
  if mem = 0 then { h with scrubDram := (h.scrubDram + words) % 2 ^ 28 }
  else if mem = 1 then { h with scrubSram := (h.scrubSram + words) % 2 ^ 20 }
  else { h with scrubMram := (h.scrubMram + words) % 2 ^ 23 }

theorem Lane.scrub_eq (L : Lane) (mem words corr : Nat) :
    L.scrub mem words corr = (L.scrubShown mem corr).onHw fun h => h.scrubbed mem words := by
  unfold Lane.scrub Lane.scrubShown
  by_cases h : corr = 0
  · rw [if_pos h, if_pos h]
    rfl
  · rw [if_neg h, if_neg h]
    rfl

theorem Lane.hw_scrubShown (L : Lane) (mem corr : Nat) : (L.scrubShown mem corr).hw = L.hw := by
  unfold Lane.scrubShown
  split_ifs <;> rfl

/-! ### The Logbook partition (14 R532) -/

/-- What is outside the Logbook's page keeps its value: the fields and the events of the other pages. -/
def Lane.keepsOffLog (L M : Lane) : Prop :=
  (∀ g : Fld, g.lo + g.w ≤ 32 → g.addr / 0x400 ≠ 0x5C → M.get g = L.get g) ∧ offLog M.found = offLog L.found

section

variable {L M N : Lane}

theorem Lane.keepsOffLog_refl (L : Lane) : L.keepsOffLog L := ⟨fun _ _ _ => rfl, rfl⟩

theorem Lane.keepsOffLog_trans (h1 : L.keepsOffLog M) (h2 : M.keepsOffLog N) : L.keepsOffLog N :=
  ⟨fun g hg ha => (h2.1 g hg ha).trans (h1.1 g hg ha), h2.2.trans h1.2⟩

theorem Lane.keepsOffLog_if {p : Prop} [Decidable p] (hM : L.keepsOffLog M) (hN : M.keepsOffLog N) : L.keepsOffLog (if p then N else M) := by
  split_ifs
  · exact Lane.keepsOffLog_trans hM hN
  · exact hM

theorem Lane.keepsOffLog_set {f : Fld} (v : Nat) (hf : f.lo + f.w ≤ 32) (hp : f.addr / 0x400 = 0x5C) (h : L.keepsOffLog M) :
    L.keepsOffLog (M.set f v) :=
  ⟨fun g hg ha => (M.get_set_apart v hf hg (.inl fun e => ha (e ▸ hp))).trans (h.1 g hg ha), h.2⟩

theorem Lane.keepsOffLog_find (b : Nat) (h : L.keepsOffLog M) : L.keepsOffLog (M.find 0x5C b) :=
  ⟨h.1, (M.logOnly_find b).2.1.trans h.2⟩

theorem Lane.keepsOffLog_onLog (f : LogSt → LogSt) (h : L.keepsOffLog M) : L.keepsOffLog (M.onLog f) := h

/-- The counts that posting a record may change stand in the Logbook's page. -/
theorem Lane.keepsOffLog_post (sev code : Nat) (payload : List Nat) (h : L.keepsOffLog M) : L.keepsOffLog (M.post sev code payload) := by
  obtain ⟨hkeep, hfound, -⟩ := M.logOnly_post sev code payload
  have hpage : ∀ f ∈ postFlds, f.addr / 0x400 = 0x5C := by decide
  exact Lane.keepsOffLog_trans h ⟨fun g hg ha => hkeep g hg fun f hf => .inl fun e => ha (e ▸ hpage f hf), hfound⟩

theorem Lane.keepsOffLog_logFail (kind block offset : Nat) (h : L.keepsOffLog M) : L.keepsOffLog (M.logFail kind block offset) := by
  unfold Lane.logFail
  refine Lane.keepsOffLog_post _ _ _ ?_
  rw [← apply_ite (Lane.find _ 0x5C)]
  refine Lane.keepsOffLog_find _ (Lane.keepsOffLog_find 0 (Lane.keepsOffLog_set _ (by decide) (by decide) ?_))
  refine Lane.keepsOffLog_if (Lane.keepsOffLog_onLog _ ?_) (Lane.keepsOffLog_set _ (by decide) (by decide) (Lane.keepsOffLog_refl _))
  exact Lane.keepsOffLog_if (Lane.keepsOffLog_set _ (by decide) (by decide) h) (Lane.keepsOffLog_set _ (by decide) (by decide) (Lane.keepsOffLog_refl _))

theorem Lane.keepsOffLog_retire (kind n offset : Nat) (h : L.keepsOffLog M) : L.keepsOffLog (M.retire kind n offset) := by
  unfold Lane.retire
  exact Lane.keepsOffLog_if (Lane.keepsOffLog_logFail _ _ _ (Lane.keepsOffLog_onLog _ h)) (Lane.keepsOffLog_logFail _ _ _ (Lane.keepsOffLog_refl _))

theorem Lane.keepsOffLog_logEcc (L : Lane) (ofs : Nat) : L.keepsOffLog (L.logEcc ofs) := by
  unfold Lane.logEcc
  split
  · exact L.keepsOffLog_refl
  · split
    · exact Lane.keepsOffLog_if (Lane.keepsOffLog_onLog _ L.keepsOffLog_refl) (Lane.keepsOffLog_logFail _ _ _ (Lane.keepsOffLog_refl _))
    · exact Lane.keepsOffLog_retire _ _ _ L.keepsOffLog_refl

/-- An event of another page stays. -/
theorem Lane.mem_found_of_keepsOffLog {e : Found} (h : L.keepsOffLog M) (hp : e.page ≠ 0x5C) (he : e ∈ L.found) : e ∈ M.found := by
  have : e ∈ offLog M.found := by
    rw [h.2]
    exact List.mem_filter.2 ⟨he, decide_eq_true hp⟩
  exact (List.mem_filter.1 this).1

end

/-! ### Uncorrectable errors (01 R44) -/

section

variable {L M N : Lane} {r : EccRegion} {word : Nat}

/-- The fields that show an uncorrectable error. -/
def eccFlds (r : EccRegion) : List Fld :=
  [uncorrFld r.mem, Reg.LANE_ECC_LAST_MEM, Reg.LANE_ECC_LAST_WORD, Reg.LANE_FAULT_ECC_UNCORR_SEEN]

/-- They fit their words, stand in the lane's page, share no bit with one another nor with DEGRADED. -/
theorem eccFlds_fit (r : EccRegion) : (∀ f ∈ eccFlds r, f.lo + f.w ≤ 32 ∧ f.addr / 0x400 = 1 ∧ f.apart Reg.LANE_STAT_DEGRADED) ∧
    (eccFlds r).Pairwise Fld.apart := by cases r <;> decide

/-- The count, the address and the mark that an uncorrectable error leaves, and its event. -/
def Lane.showsEcc (L M : Lane) (r : EccRegion) (word : Nat) : Prop :=
  M.get (uncorrFld r.mem) = min (L.get (uncorrFld r.mem) + 1) (2 ^ (uncorrFld r.mem).w - 1) ∧ M.get Reg.LANE_ECC_LAST_MEM = r.mem ∧
  M.get Reg.LANE_ECC_LAST_WORD = word ∧ M.get Reg.LANE_FAULT_ECC_UNCORR_SEEN = 1 ∧ L.ev 0x01 1 ∈ M.found

/-- What keeps those fields and the events found goes on showing the error. -/
theorem Lane.showsEcc_mono (hget : ∀ f ∈ eccFlds r, N.get f = M.get f) (hfound : L.ev 0x01 1 ∈ M.found → L.ev 0x01 1 ∈ N.found)
    (h : L.showsEcc M r word) : L.showsEcc N r word := by
  obtain ⟨hcnt, hmem, hword, hseen, hev⟩ := h
  simp only [eccFlds, List.forall_mem_cons] at hget
  obtain ⟨gcnt, gmem, gword, gseen, -⟩ := hget
  exact ⟨gcnt.trans hcnt, gmem.trans hmem, gword.trans hword, gseen.trans hseen, hfound hev⟩

theorem Lane.showsEcc_regs (hr : N.regs = M.regs) (hf : N.found = M.found) (h : L.showsEcc M r word) : L.showsEcc N r word :=
  Lane.showsEcc_mono (fun f _ => by rw [Lane.get, Lane.word, hr]; rfl) (fun he => hf ▸ he) h

theorem Lane.showsEcc_degrade (h : L.showsEcc M r word) : L.showsEcc M.degrade r word :=
  Lane.showsEcc_mono (M := M) (N := M.degrade) (fun f hf => by
    obtain ⟨hfit, -, hap⟩ := (eccFlds_fit r).1 f hf
    exact M.get_set_apart _ (by decide) hfit hap) (fun he => he) h

theorem Lane.showsEcc_keepsOffLog (hk : M.keepsOffLog N) (h : L.showsEcc M r word) : L.showsEcc N r word :=
  Lane.showsEcc_mono (fun f hf => by
    obtain ⟨hfit, hpage, -⟩ := (eccFlds_fit r).1 f hf
    exact hk.1 f hfit (by rw [hpage]; decide)) (Lane.mem_found_of_keepsOffLog hk (show (0x01 : Nat) ≠ 0x5C by decide)) h

/-- What every region's error shows. -/
def Lane.eccShown (L : Lane) (r : EccRegion) (word : Nat) : Lane :=
  (((L.incSat (uncorrFld r.mem)).setAll [(Reg.LANE_ECC_LAST_MEM, r.mem), (Reg.LANE_ECC_LAST_WORD, word)]).setb
    Reg.LANE_FAULT_ECC_UNCORR_SEEN true).find 0x01 1

theorem Lane.showsEcc_eccShown (L : Lane) (r : EccRegion) (hw : word < 2 ^ 28) : L.showsEcc (L.eccShown r word) r word := by
  obtain ⟨hfit, hap⟩ := eccFlds_fit r
  obtain ⟨hcnt, -, -⟩ := hfit (uncorrFld r.mem) (by simp [eccFlds])
  simp only [eccFlds, List.pairwise_cons, List.forall_mem_cons] at hap
  obtain ⟨⟨hmem, hword, hseen, -⟩, -⟩ := hap
  have hr : r.mem < 2 ^ 2 := by cases r <;> decide
  simp only [Lane.showsEcc, Lane.eccShown, Lane.find_get, Lane.setAll_cons, Lane.setAll_nil, Lane.setb]
  refine ⟨?_, ?_, ?_, ?_, List.mem_append_right _ (List.mem_singleton.2 rfl)⟩
  · rw [Lane.get_set_apart _ _ (by decide) hcnt hseen, Lane.get_set_apart _ _ (by decide) hcnt hword,
      Lane.get_set_apart _ _ (by decide) hcnt hmem, Lane.get_incSat _ _ _ hcnt]
  · rw [Lane.get_set_apart _ _ (by decide) (by decide) (by decide), Lane.get_set_apart _ _ (by decide) (by decide) (by decide),
      Lane.get_set_fit _ _ (by decide) hr]
  · rw [Lane.get_set_apart _ _ (by decide) (by decide) (by decide), Lane.get_set_fit _ _ (by decide) hw]
  · exact Lane.get_set_fit _ _ (by decide) (by decide)

theorem Lane.showsEcc_mramEcc (ofs : Nat) (h : L.showsEcc M r word) : L.showsEcc (M.mramEcc ofs) r word := by
  unfold Lane.mramEcc
  split
  · exact Lane.showsEcc_keepsOffLog (M.keepsOffLog_logEcc ofs) h
  · split
    · exact Lane.showsEcc_degrade (Lane.showsEcc_regs (M.onHw_regs _) (M.onHw_found _) h)
    · exact h
  · exact Lane.showsEcc_regs (M.onHw_regs _) (M.onHw_found _) h
  · split
    · exact Lane.showsEcc_regs (M.onBoot_regs _) (M.onBoot_found _) h
    · exact h

/-- An error in LPDDR4 or SRAM discards the tick and degrades the lane. -/
theorem Lane.eccUncorr_ram (h : r = .dram ∨ r = .sram) :
    L.eccUncorr r word = ((L.eccShown r word).onTk fun k => { k with discard := true }).degrade := by
  rcases h with rfl | rfl <;> rfl

theorem Lane.eccUncorr_safety :
    L.eccUncorr .safety word = (L.eccShown .safety word).onHw fun h => { h with halt := h.halt ||| 0xC, haltMem := true } := (rfl)

theorem Lane.eccUncorr_mram : L.eccUncorr .mram word = (L.eccShown .mram word).mramEcc (8 * word) := (rfl)

theorem Lane.showsEcc_eccUncorr (L : Lane) (r : EccRegion) (hw : word < 2 ^ 28) : L.showsEcc (L.eccUncorr r word) r word := by
  have h := L.showsEcc_eccShown r hw
  cases r with
  | dram | sram =>
    rw [Lane.eccUncorr_ram (by simp)]
    exact Lane.showsEcc_degrade (Lane.showsEcc_regs (Lane.onTk_regs _ _) (Lane.onTk_found _ _) h)
  | safety => exact Lane.eccUncorr_safety ▸ Lane.showsEcc_regs (Lane.onHw_regs _ _) (Lane.onHw_found _ _) h
  | mram => exact Lane.eccUncorr_mram ▸ Lane.showsEcc_mramEcc _ h

theorem Lane.degrade_degraded (L : Lane) : L.degrade.get Reg.LANE_STAT_DEGRADED = 1 := Lane.get_set_fit _ _ (by decide) (by decide)

theorem Lane.mramEcc_snapshot {ofs : Nat} (h : mramPart ofs = .snapshot) : L.mramEcc ofs = L.onHw fun h => { h with snapshotBad := true } := by
  unfold Lane.mramEcc
  rw [h]

theorem Lane.mramEcc_chart {ofs : Nat} (h : mramPart ofs = .chart L.chart.cur) :
    L.mramEcc ofs = (L.onHw fun h => { h with chartDamaged := true }).degrade := by
  unfold Lane.mramEcc
  rw [h]
  exact if_pos rfl

end

/-! ### An engine stopped (02 R71) -/

section

variable {L : Lane} {n : Nat}

/-- The lane with an engine counted as stopped. -/
def Lane.stopCounted (L : Lane) (n : Nat) : Lane := L.onTk fun k => { k with stopped := n :: k.stopped.filter fun m => m ≠ n }

theorem Lane.engineStop_eq (h : L.engOk n = true) :
    L.engineStop n = if L.tk.inTick then (L.stopCounted n).engineBack n else L.stopCounted n := by
  unfold Lane.engineStop
  rw [if_pos h]
  rfl

theorem Lane.engineBack_tk : (L.engineBack n).tk = L.tk := by
  unfold Lane.engineBack
  split
  · rfl
  · split_ifs <;> rfl

theorem Lane.engineBack_plt {w : WorkSnap} (hw : L.work = some w) : (L.engineBack n).plt = if n = 13 ∨ n = 14 then w.plt else L.plt := by
  unfold Lane.engineBack
  rw [hw]
  dsimp only
  by_cases hfe : n = 13 ∨ n = 14
  · rw [if_neg (by omega), if_neg (by omega), if_pos hfe, if_pos hfe]
    rfl
  · rw [if_neg hfe, if_neg hfe]
    split_ifs <;> rfl

theorem Lane.engineBack_alc {w : WorkSnap} (hw : L.work = some w) : (L.engineBack 4).alc = { w.alc with chans := L.alc.chans } := by
  unfold Lane.engineBack
  rw [hw]
  rfl

end

/-! ### The tick renumbered (02 R67) -/

/-- Less than a second is left of a time once its whole seconds are taken away. -/
theorem nsOf_lt (t : Rat) : nsOf t < 10 ^ 9 := by
  have hsec := Rat.lt_floor_add_one (t / 1000000000)
  have hns : (t - 1000000000 * ((t / 1000000000).floor : Rat)).floor < 1000000000 := Rat.floor_lt_iff.2 (by
    rw [div_lt_iff₀ (by norm_num)] at hsec
    push_cast at hsec ⊢
    linarith)
  unfold nsOf
  omega

/-- The number of the tick at a time of the chronometer, as the register holds it. -/
theorem tickOf_lt (t : Rat) : nsOf t / 1000000 < 2 ^ 10 := by
  have := nsOf_lt t
  omega

section

variable (L : Lane)

/-- The lane with its tick numbered anew and the marks of the realignment gone. -/
def Lane.renumbered : Lane :=
  ((L.onTk fun k => { k with realigning := false }).tickNumber (nsOf L.now / 1000000)).setAll
    [(Reg.TICK_POS_REALIGN, 0), (Reg.TICK_STAT_REALIGN, 0)]

theorem Lane.renumber_eq (h : L.tk.realigning = true) (h0 : L.tk.realign = 0) :
    L.renumber = if nsOf L.now / 1000000 % 50 = L.get Reg.TICK_POS_TICK % 50 then L.renumbered
      else L.renumbered.onSx fun x => { x with partialEpoch := true } := by
  unfold Lane.renumber
  rw [if_pos (by simp [h, h0])]
  rfl

/-- What the renumbering leaves of a lane: its number, no realignment, all other fields, the events. -/
def Lane.renumbersTo (M : Lane) : Prop :=
  M.get Reg.TICK_POS_TICK = nsOf L.now / 1000000 ∧ (M.tk.posTick = true ↔ nsOf L.now / 1000000 % 10 = 0) ∧ M.tk.realigning = false ∧
  M.get Reg.TICK_POS_REALIGN = 0 ∧ M.get Reg.TICK_STAT_REALIGN = 0 ∧
  L.keepsBut M [Reg.TICK_POS_TICK, Reg.TICK_POS_REALIGN, Reg.TICK_STAT_REALIGN] ∧ M.found = L.found

theorem Lane.renumbersTo_renumbered : L.renumbersTo L.renumbered := by
  have hnum : ((L.onTk fun k => { k with realigning := false }).tickNumber (nsOf L.now / 1000000)).regs =
      (L.set Reg.TICK_POS_TICK (nsOf L.now / 1000000)).regs := rfl
  have hget (f : Fld) : ((L.onTk fun k => { k with realigning := false }).tickNumber (nsOf L.now / 1000000)).get f =
      (L.set Reg.TICK_POS_TICK (nsOf L.now / 1000000)).get f := by
    rw [Lane.get, Lane.word, hnum]
    rfl
  simp only [Lane.renumbersTo, Lane.renumbered, Lane.setAll_cons, Lane.setAll_nil]
  refine ⟨?_, decide_eq_true_iff, rfl, ?_, ?_, ?_, rfl⟩
  · rw [Lane.get_set_apart _ _ (by decide) (by decide) (by decide), Lane.get_set_apart _ _ (by decide) (by decide) (by decide), hget,
      Lane.get_set_fit _ _ (by decide) (tickOf_lt _)]
  · rw [Lane.get_set_apart _ _ (by decide) (by decide) (by decide), Lane.get_set_fit _ _ (by decide) (by decide)]
  · rw [Lane.get_set_fit _ _ (by decide) (by decide)]
  · have hkeep := Lane.keepsBut_set (fs := [Reg.TICK_POS_TICK, Reg.TICK_POS_REALIGN, Reg.TICK_STAT_REALIGN]) (f := Reg.TICK_POS_TICK)
      (nsOf L.now / 1000000) (by decide) (by simp) (L.keepsBut_refl _)
    exact Lane.keepsBut_set _ (by decide) (by simp) (Lane.keepsBut_set _ (by decide) (by simp) (Lane.keepsBut_regs hnum hkeep))

theorem Lane.renumbersTo_renumber (h : L.tk.realigning = true) (h0 : L.tk.realign = 0) : L.renumbersTo L.renumber := by
  rw [L.renumber_eq h h0]
  split
  · exact L.renumbersTo_renumbered
  · obtain ⟨hnum, hpos, hre, hmark, hstat, hkeep, hfound⟩ := L.renumbersTo_renumbered
    exact ⟨by rwa [Lane.onSx_get], by rwa [Lane.onSx_tk], by rwa [Lane.onSx_tk], by rwa [Lane.onSx_get], by rwa [Lane.onSx_get],
      Lane.keepsBut_regs (Lane.onSx_regs _ _) hkeep, by rwa [Lane.onSx_found]⟩

end

/-- Settles O17: command by command, from the lane that each leaves. -/
theorem enginesAndMemory : Obligations.EnginesAndMemory := by
  unfold Obligations.EnginesAndMemory
  intro s l
  refine ⟨fun safe => ?_, fun mem _ => ?_, fun r word hw => ?_, fun mem words corr _ => ?_, fun n hn => ?_, fun h h0 => ?_⟩
  · obtain ⟨hcnt, hseen⟩ := (s.lane l).get_lockstepShown safe
    refine onLane_of_exec rfl ?_
    simp only [Lane.lockstep_eq, Lane.onHw_hw, Lane.hw_lockstepShown, Lane.onHw_get]
    exact ⟨trivial, hcnt, hseen, Lane.framedUpTo_onHw _ ((s.lane l).framed_lockstepShown safe)⟩
  · exact onLane_of_exec rfl ((s.lane l).corrCounted_spec mem 1)
  · obtain ⟨hcnt, hmem, hword, hseen, hev⟩ := (s.lane l).showsEcc_eccUncorr r hw
    refine onLane_of_exec rfl ⟨hcnt, hmem, hword, hseen, hev, fun hr => ?_, ?_, ?_, ?_⟩
    · rw [Lane.eccUncorr_ram hr]
      exact ⟨rfl, Lane.degrade_degraded _⟩
    · rintro rfl
      exact ⟨rfl, rfl⟩
    · rintro rfl hp
      rw [Lane.eccUncorr_mram, Lane.mramEcc_snapshot hp]
      rfl
    · rintro rfl hp
      rw [Lane.eccUncorr_mram, Lane.mramEcc_chart (L := (s.lane l).eccShown .mram word) hp]
      exact ⟨rfl, Lane.degrade_degraded _⟩
  · obtain ⟨hcnt, hframe⟩ := (s.lane l).scrubShown_spec mem corr
    refine onLane_of_exec rfl ?_
    simp only [Lane.scrub_eq, Lane.onHw_hw, Lane.hw_scrubShown, Lane.onHw_get]
    refine ⟨?_, ?_, ?_, hcnt, Lane.framedUpTo_onHw _ hframe⟩ <;> rintro rfl <;> rfl
  · refine onLane_of_exec rfl ?_
    simp only [Lane.engineStop_eq hn]
    refine ⟨?_, fun ht => ?_, fun w hwork ht => ?_⟩
    · rw [apply_ite Lane.tk, Lane.engineBack_tk, ite_self]
      exact List.mem_cons_self
    · rw [if_neg (by simp [ht])]
      rfl
    · rw [if_pos ht]
      have hback := Lane.engineBack_plt (L := (s.lane l).stopCounted n) (n := n) hwork
      refine ⟨fun h => by rw [hback, if_pos h], ?_, fun h13 h14 => by rw [hback, if_neg (by omega)]; rfl⟩
      rintro rfl
      exact Lane.engineBack_alc hwork
  · exact onLane_of_exec rfl ((s.lane l).renumbersTo_renumber h h0)

end Sys2Proof.Machine
end

section
/-! Supervision of the other lane (12 R442, R445-R447, R467): the lane after each of its commands. -/

namespace Sys2Proof.Machine

open Sys2Proof

/-! ### Fields set together, registers dropped -/

/-- Fields with no bit in common, set together, read what was set. -/
theorem Lane.get_setAll (r : List (Fld × Nat)) : ∀ L : Lane, (∀ p ∈ r, p.1.lo + p.1.w ≤ 32) → (r.map Prod.fst).Pairwise Fld.apart →
    ∀ p ∈ r, (L.setAll r).get p.1 = p.2 % 2 ^ p.1.w := by
  induction r with
  | nil => exact fun _ _ _ p hp => absurd hp List.not_mem_nil
  | cons q r ih =>
    intro L hfit hap p hp
    obtain ⟨hq, hr⟩ := List.forall_mem_cons.1 hfit
    obtain ⟨hapq, hapr⟩ := List.pairwise_cons.1 hap
    rcases List.mem_cons.1 hp with rfl | hp
    · have hframe := Lane.framed_setAll (L := L.set p.1 p.2) (fs := r.map Prod.fst) r (fun x hx => ⟨List.mem_map_of_mem hx, hr x hx⟩) (Lane.framed_refl _ _)
      exact (hframe.1 p.1 hq hapq).trans (L.get_set_same p.1 p.2 hq)
    · exact ih (L.set q.1 q.2) hr hapr p hp

theorem Lane.found_setAll (r : List (Fld × Nat)) : ∀ L : Lane, (L.setAll r).found = L.found := by
  induction r with
  | nil => exact fun _ => rfl
  | cons p r ih => exact fun L => ih (L.set p.1 p.2)

/-- Entries of other addresses dropped from a sparse list. -/
theorem sparseGet_filter (p : Nat → Bool) (d : Word) {a : Nat} (ha : p a = true) (m : List (Nat × Word)) :
    sparseGet (m.filter fun e => p e.1) a d = sparseGet m a d := by
  induction m with
  | nil => rfl
  | cons e m ih =>
    obtain ⟨k, w⟩ := e
    by_cases hk : k = a
    · simp [sparseGet, hk, ha]
    · cases hp : p k <;> simp [sparseGet, hk, hp, ih]

/-! ### Records of the lane changed -/

/-- A change of the redundancy record on top of a frame. -/
theorem Lane.framedUpTo_onRed {L M : Lane} {fs : List Fld} {es : List (Nat × Nat)} (g : RedSt → RedSt) (h : L.framed M fs es) :
    L.framedUpTo (M.onRed g) fs es fun N => N.onRed fun _ => L.red := by
  obtain ⟨hk, hf, ho⟩ := h
  have hback := congrArg (fun N : Lane => N.onRed fun _ => L.red) (show { M with regs := L.regs, found := L.found } = L from ho)
  exact ⟨Lane.keepsBut_regs (M.onRed_regs g) hk, hf, hback⟩

theorem Lane.find_onRed (L : Lane) (p b : Nat) (g : RedSt → RedSt) : (L.onRed g).find p b = (L.find p b).onRed g := (rfl)

theorem Lane.setb_onRed (L : Lane) (f : Fld) (b : Bool) (g : RedSt → RedSt) : (L.onRed g).setb f b = (L.setb f b).onRed g := (rfl)

theorem Lane.ev_onRed (L : Lane) (p b : Nat) (g : RedSt → RedSt) : (L.onRed g).ev p b = L.ev p b := (rfl)

theorem Lane.framedUpTo_hold (L : Lane) (c : StartCause) : L.framedUpTo (L.hold c) [] [] fun N => N.onBoot fun _ => L.boot := by
  refine ⟨L.keepsBut_refl _, ?_, rfl⟩
  simp [Lane.hold]

/-! ### The other lane's health word missing (R442) -/

section

variable (L : Lane)

/-- The fields of page 0x60 that show the other lane's health word. -/
def peerFlds : List Fld :=
  [Reg.RED_ROLE_PEER_ROLE, Reg.RED_PEER_ROLE, Reg.RED_PEER_MODE, Reg.RED_PEER_ABLE, Reg.RED_PEER_ARMED, Reg.RED_PEER_DEGRADED,
    Reg.RED_PEER_COASTING, Reg.RED_PEER_TB_REQ]

theorem Lane.healthTimeout_eq (h3 : 3 ≤ L.get Reg.RED_PEER_AGE) (h0 : L.get Reg.RED_ROLE_PEER_ROLE ≠ 0) :
    L.healthTimeout = ((L.zero peerFlds).onRed fun r => { r with peer := none, peerAble := false, armedSeen := 0 }).findIf L.active 0x60 3 := by
  have hactive : (L.zero peerFlds).active = L.active := by
    unfold Lane.active Lane.flag
    rw [L.get_zero_apart (by decide) (by decide) (by decide)]
  unfold Lane.healthTimeout
  rw [if_pos ⟨h3, h0⟩, ← hactive]
  rfl

theorem Lane.found_findIf (c : Bool) (p b : Nat) : (L.findIf c p b).found = L.found ++ (if c then [L.ev p b] else []) := by
  cases c
  · exact (List.append_nil _).symm
  · rfl

theorem Lane.findIf_red (c : Bool) (p b : Nat) : (L.findIf c p b).red = L.red := by cases c <;> rfl

theorem Lane.ev_zero {fs : List Fld} (hfit : ∀ f ∈ fs, f.lo + f.w ≤ 32) (p b : Nat) : (L.zero fs).ev p b = L.ev p b := by
  rw [Lane.ev, Lane.now_of_onlyRegs (L.framed_zero hfit).2.2]
  rfl

/-- A health word missing for three ticks: the peer's standing reads NONE, and an active lane reports that it stands alone. -/
theorem Lane.healthTimeout_spec (h3 : 3 ≤ L.get Reg.RED_PEER_AGE) (h0 : L.get Reg.RED_ROLE_PEER_ROLE ≠ 0) :
    (∀ f ∈ peerFlds, L.healthTimeout.get f = 0) ∧ L.healthTimeout.red.peer = none ∧ L.healthTimeout.red.peerAble = false ∧
    L.healthTimeout.found = L.found ++ (if L.active then [L.ev 0x60 3] else []) := by
  rw [L.healthTimeout_eq h3 h0, Lane.findIf_red, Lane.found_findIf, Lane.onRed_red, Lane.onRed_found, Lane.ev_onRed,
    L.ev_zero (by decide), show (L.zero peerFlds).found = L.found from Lane.found_setAll _ _]
  refine ⟨fun f hf => ?_, rfl, rfl, rfl⟩
  rw [Lane.findIf_get, Lane.onRed_get]
  exact L.get_zero peerFlds (by decide) (by decide) f hf

end

/-! ### Links lost, outputs that disagree (01 R46; 12 R446) -/

section

variable {L : Lane}

/-- Both links shown down. -/
def Lane.linksDown (L : Lane) : Lane := ((L.setb Reg.LANE_STAT_XL0_UP false).setb Reg.LANE_STAT_XL1_UP false).find 0x01 6

theorem Lane.xlinkLost_eq (hrun : L.running = true) (hlost : L.red.lost = false)
    (hgone : 3 ≤ L.hw.mirrorMiss ∨ (3 ≤ L.red.missed ∧ L.peerIs .active = true ∧ L.active = false)) :
    L.xlinkLost = L.linksDown.onRed fun r => { r with lost := true } := by
  unfold Lane.xlinkLost
  dsimp only
  rw [if_pos (by simpa [hrun, hlost, and_assoc] using hgone), Lane.find_onRed]
  rfl

theorem Lane.linksDown_spec (L : Lane) : L.linksDown.get Reg.LANE_STAT_XL0_UP = 0 ∧ L.linksDown.get Reg.LANE_STAT_XL1_UP = 0 ∧
    L.framed L.linksDown [Reg.LANE_STAT_XL0_UP, Reg.LANE_STAT_XL1_UP] [(0x01, 6)] := by
  refine ⟨?_, ?_, Lane.framed_find _ _ (Lane.framed_setb _ (by simp) (by decide) (Lane.framed_setb _ (by simp) (by decide) (L.framed_refl _)))⟩
  · rw [Lane.linksDown, Lane.find_get, Lane.setb, Lane.get_set_apart _ _ (by decide) (by decide) (by decide)]
    exact Lane.get_setb _ _ _ (by decide) rfl
  · rw [Lane.linksDown, Lane.find_get]
    exact Lane.get_setb _ _ _ (by decide) rfl

/-- DISAGREE_SEEN shown, with its event. -/
def Lane.disagreeShown (L : Lane) : Lane := (L.setb Reg.RED_FAULT_DISAGREE_SEEN true).find 0x60 4

theorem Lane.laneDisagree_eq (hd : L.red.disagree = false) (h3 : 3 ≤ L.get Reg.RED_MISMATCH_CONSEC) :
    L.laneDisagree = L.disagreeShown.onRed fun r => { r with disagree := true } := by
  unfold Lane.laneDisagree
  rw [if_pos (by simp [hd, h3]), Lane.setb_onRed, Lane.find_onRed]
  rfl

theorem Lane.disagreeShown_spec (L : Lane) : L.disagreeShown.get Reg.RED_FAULT_DISAGREE_SEEN = 1 ∧
    L.framed L.disagreeShown [Reg.RED_FAULT_DISAGREE_SEEN] [(0x60, 4)] := by
  refine ⟨?_, Lane.framed_find _ _ (Lane.framed_setb _ (by simp) (by decide) (L.framed_refl _))⟩
  rw [Lane.disagreeShown, Lane.find_get]
  exact Lane.get_setb _ _ _ (by decide) rfl

theorem Lane.gridSkew_eq (hs : L.red.skew = false) (h10 : 10 ≤ L.red.skewOut) :
    L.gridSkew = (L.find 0x60 5).onRed fun r => { r with skew := true } := by
  unfold Lane.gridSkew
  rw [if_pos (by simp [hs, h10]), Lane.find_onRed]

end

/-! ### Stages of a re-synchronisation (R467) -/

section

variable {L : Lane} {s : State} {l : LaneId}

/-- The lane re-synchronises from an active lane, which is what every stage asks. -/
def State.resyncs (s : State) (l : LaneId) : Prop :=
  (s.lane l).running = true ∧ (s.lane l).role = 4 ∧ (s.lane l).coasting = false ∧ (s.lane l.other).active = true

theorem resyncs_guard (h : s.resyncs l) :
    ((s.lane l).running && decide ((s.lane l).role = 4) && !(s.lane l).coasting && (s.lane l.other).active) = true := by
  obtain ⟨hrun, hrole, hcoast, hact⟩ := h
  simp [hrun, hrole, hcoast, hact]

theorem exec_resyncStageEnd_one (h : s.resyncs l) (hst : (s.lane l).get Reg.RED_RESYNC_STAGE = 1)
    (hd : (s.lane l).chart.now.digest = (s.lane l.other).chart.now.digest) : exec (.resyncStageEnd l) s = onLane l (fun L => L.resyncTo 2) s := by
  show execResyncStageEnd l s = _
  unfold execResyncStageEnd
  dsimp only
  rw [if_pos (resyncs_guard h), hst]
  exact if_pos hd

theorem exec_resyncStageEnd_two (h : s.resyncs l) (hst : (s.lane l).get Reg.RED_RESYNC_STAGE = 2)
    (hc : 100 ≤ (s.lane l).red.syncCnt) (hsrc : (s.lane l).srcState 4 = 3) :
    exec (.resyncStageEnd l) s = onLane l (fun L => L.resyncTo 3) s := by
  show execResyncStageEnd l s = _
  unfold execResyncStageEnd
  dsimp only
  rw [if_pos (resyncs_guard h), hst]
  exact if_pos ⟨hc, hsrc⟩

theorem exec_resyncStageEnd_three (h : s.resyncs l) (hst : (s.lane l).get Reg.RED_RESYNC_STAGE = 3) (hc : 10 ≤ (s.lane l).red.syncCnt) :
    exec (.resyncStageEnd l) s = onLane l (fun L => L.resyncTo 4) s := by
  show execResyncStageEnd l s = _
  unfold execResyncStageEnd
  dsimp only
  rw [if_pos (resyncs_guard h), hst]
  exact if_pos hc

theorem exec_resyncStageEnd_four (h : s.resyncs l) (hst : (s.lane l).get Reg.RED_RESYNC_STAGE = 4) (hc : 1000 ≤ (s.lane l).red.settle) :
    exec (.resyncStageEnd l) s = onLane l Lane.resyncDone s := by
  show execResyncStageEnd l s = _
  unfold execResyncStageEnd
  dsimp only
  rw [if_pos (resyncs_guard h), hst]
  exact if_pos hc

/-- A stage begun: its number, its progress, the role as it was. -/
theorem Lane.get_resyncTo (L : Lane) {n : Nat} (hn : n < 16) :
    (L.resyncTo n).get Reg.RED_RESYNC_STAGE = n ∧ (L.resyncTo n).get Reg.RED_RESYNC_PROGRESS = (if n = 4 then 1000 else 0) ∧
    (L.resyncTo n).role = L.role := by
  unfold Lane.role Lane.resyncTo
  simp only [Lane.onRed_get]
  refine ⟨?_, ?_, ?_⟩
  · rw [Lane.get_set_apart _ _ (by decide) (by decide) (by decide), Lane.get_set_fit _ _ (by decide) (show n < 2 ^ 4 by omega)]
  · exact Lane.get_set_fit _ _ (by decide) (by split <;> decide)
  · rw [Lane.get_set_apart _ _ (by decide) (by decide) (by decide), Lane.get_set_apart _ _ (by decide) (by decide) (by decide)]

/-- FAULT registers apart, every field reads as before. -/
theorem Lane.get_faultsClear (L : Lane) {f : Fld} (hf : f.addr % 0x400 ≠ 0x1C) : L.faultsClear.get f = L.get f := by
  have hw : L.faultsClear.word f.addr = L.word f.addr :=
    sparseGet_filter (fun a => !decide (a % 0x400 = 0x1C)) _ (by simp [hf]) L.regs
  rw [Lane.get, hw]
  rfl

/-- The end of a re-synchronisation: the lane is standby. -/
theorem Lane.resyncDone_spec (L : Lane) :
    L.resyncDone.role = 3 ∧ L.resyncDone.get Reg.RED_RESYNC_STAGE = 0 ∧ L.resyncDone.get Reg.RED_STAT_RESYNC = 0 ∧
    L.ev 0x60 6 ∈ L.resyncDone.found := by
  have hget (f : Fld) (hf : f.addr % 0x400 ≠ 0x1C) : L.resyncDone.get f =
      ((L.setRole .standby).zero [Reg.RED_RESYNC_STAGE, Reg.RED_RESYNC_PROGRESS, Reg.RED_STAT_RESYNC]).get f :=
    Lane.get_faultsClear _ hf
  refine ⟨?_, ?_, ?_, List.mem_append_right _ (List.mem_singleton.2 rfl)⟩
  · rw [Lane.role, hget _ (by decide), Lane.get_zero_apart _ (by decide) (by decide) (by decide)]
    exact Lane.get_set_fit _ _ (by decide) (by decide)
  · rw [hget _ (by decide)]
    exact Lane.get_zero _ _ (by decide) (by decide) _ (by simp)
  · rw [hget _ (by decide)]
    exact Lane.get_zero _ _ (by decide) (by decide) _ (by simp)

end

/-- Settles O47: command by command, from the lane that each leaves. -/
theorem peerSupervision : Obligations.PeerSupervision := by
  unfold Obligations.PeerSupervision
  intro s l
  refine ⟨fun h3 h0 => ?_, fun hrun hlost hgone => ?_, fun hd h3 => ?_, fun hd h100 => ?_, fun hs h10 => ?_, fun hs h100 => ?_,
    fun k n m hf hm => ?_, fun hrun hrole hcoast hact => ?_⟩
  · refine onLane_of_exec rfl ?_
    obtain ⟨hzero, hred⟩ := (s.lane l).healthTimeout_spec h3 h0
    exact ⟨hzero _ (by simp [peerFlds]), hzero _ (by simp [peerFlds]), hzero _ (by simp [peerFlds]), hred⟩
  · obtain ⟨hxl0, hxl1, hframe⟩ := (s.lane l).linksDown_spec
    refine onLane_of_exec rfl ?_
    rw [Lane.xlinkLost_eq hrun hlost hgone, Lane.onRed_get, Lane.onRed_get, Lane.onRed_red]
    exact ⟨hxl0, hxl1, rfl, Lane.framedUpTo_onRed _ hframe⟩
  · obtain ⟨hseen, hframe⟩ := (s.lane l).disagreeShown_spec
    refine onLane_of_exec rfl ?_
    rw [Lane.laneDisagree_eq hd h3, Lane.onRed_get, Lane.onRed_red]
    exact ⟨rfl, hseen, Lane.framedUpTo_onRed _ hframe⟩
  · refine onLane_of_exec rfl ?_
    unfold Lane.laneDisagree
    rw [if_neg (by simp [hd]), if_pos (by simp [hd, h100])]
  · refine onLane_of_exec rfl ?_
    rw [Lane.gridSkew_eq hs h10, Lane.onRed_red]
    exact ⟨rfl, Lane.framedUpTo_onRed _ (Lane.framed_find _ _ (Lane.framed_refl _ _))⟩
  · refine onLane_of_exec rfl ?_
    unfold Lane.gridSkew
    rw [if_neg (by simp [hs]), if_pos (by simp [hs, h100])]
  · refine onLane_of_exec rfl ?_
    unfold Lane.failRestart
    rw [hf]
    dsimp only
    rw [if_pos hm]
    exact ⟨rfl, rfl, (s.lane l).framedUpTo_hold .laneFailRestart⟩
  · have h : s.resyncs l := ⟨hrun, hrole, hcoast, hact⟩
    refine ⟨fun hst hd => ?_, fun hst hc hsrc => ?_, fun hst hc => ?_, fun hst hc => ?_⟩
    · obtain ⟨hstage, hprog, hkeep⟩ := (s.lane l).get_resyncTo (n := 2) (by decide)
      exact onLane_of_exec (exec_resyncStageEnd_one h hst hd) ⟨hstage, hprog, hkeep.trans hrole⟩
    · obtain ⟨hstage, -, hkeep⟩ := (s.lane l).get_resyncTo (n := 3) (by decide)
      exact onLane_of_exec (exec_resyncStageEnd_two h hst hc hsrc) ⟨hstage, hkeep.trans hrole⟩
    · obtain ⟨hstage, hprog, hkeep⟩ := (s.lane l).get_resyncTo (n := 4) (by decide)
      exact onLane_of_exec (exec_resyncStageEnd_three h hst hc) ⟨hstage, hprog, hkeep.trans hrole⟩
    · exact onLane_of_exec (exec_resyncStageEnd_four h hst hc) (s.lane l).resyncDone_spec

end Sys2Proof.Machine
end

section
/-! The health word between the lanes (01 R46; 12 R442, R444, R467): what each step of taking it writes, and the lane after it. -/

namespace Sys2Proof.Machine

open Sys2Proof

/-! ### Operations that write registers alone -/

/-- Nothing differs but the fields listed and the events found. -/
def Lane.writesOnly (L M : Lane) (fs : List Fld) : Prop := L.keepsBut M fs ∧ L.onlyRegs M

section

variable {L M : Lane} {fs : List Fld}

theorem Lane.writesOnly_refl (L : Lane) (fs : List Fld) : L.writesOnly L fs := ⟨L.keepsBut_refl fs, L.onlyRegs_refl⟩

theorem Lane.writesOnly_set {f : Fld} (v : Nat) (hm : f ∈ fs) (hf : f.lo + f.w ≤ 32) (h : L.writesOnly M fs) : L.writesOnly (M.set f v) fs :=
  ⟨Lane.keepsBut_set v hf hm h.1, Lane.onlyRegs_set f v h.2⟩

theorem Lane.writesOnly_setAll (r : List (Fld × Nat)) : ∀ {M : Lane}, (∀ p ∈ r, p.1 ∈ fs ∧ p.1.lo + p.1.w ≤ 32) → L.writesOnly M fs →
    L.writesOnly (M.setAll r) fs := by
  induction r with
  | nil => exact fun _ h => h
  | cons p r ih =>
    intro M hr h
    obtain ⟨⟨hm, hf⟩, hr⟩ := List.forall_mem_cons.1 hr
    exact ih hr (Lane.writesOnly_set p.2 hm hf h)

theorem Lane.writesOnly_findIf (c : Bool) (p b : Nat) (h : L.writesOnly M fs) : L.writesOnly (M.findIf c p b) fs := by cases c <;> exact h

theorem Lane.writesOnly_ite {N : Lane} {p : Prop} [Decidable p] (hM : L.writesOnly M fs) (hN : L.writesOnly N fs) :
    L.writesOnly (if p then M else N) fs := by split_ifs <;> assumption

/-- A field apart from those written reads as before. -/
theorem Lane.keepsBut.get_eq (h : L.keepsBut M fs) {g : Fld} (hg : g.lo + g.w ≤ 32 ∧ ∀ f ∈ fs, g.apart f) : M.get g = L.get g := h g hg.1 hg.2

end

/-! ### Copies on the links (01 R46) -/

section

variable (L : Lane) (x0 x1 : LinkRx)

/-- The fields that show the links' state and their errors. -/
def linkFlds : List Fld := [Reg.LANE_STAT_XL0_UP, Reg.LANE_STAT_XL1_UP, Reg.LANE_XLINK_ERR_XL0, Reg.LANE_XLINK_ERR_XL1]

/-- Both links' state shown. -/
def Lane.linksShown : Lane := (L.setb Reg.LANE_STAT_XL0_UP (decide (x0 ≠ .none))).setb Reg.LANE_STAT_XL1_UP (decide (x1 ≠ .none))

/-- A bad copy counted on link 0, and on both. -/
def Lane.badCounted0 : Lane := if x0 = .bad then (L.linksShown x0 x1).incSat Reg.LANE_XLINK_ERR_XL0 else L.linksShown x0 x1
def Lane.badCounted : Lane := if x1 = .bad then (L.badCounted0 x0 x1).incSat Reg.LANE_XLINK_ERR_XL1 else L.badCounted0 x0 x1

theorem Lane.linkRx_eq : L.linkRx x0 x1 = (L.badCounted x0 x1).findIf
    (decide (decide (x0 ≠ .none) ≠ decide (x1 ≠ .none)) && !decide (L.flag Reg.LANE_STAT_XL0_UP ≠ L.flag Reg.LANE_STAT_XL1_UP)) 0x01 5 := (rfl)

theorem Lane.writesOnly_linksShown : L.writesOnly (L.linksShown x0 x1) linkFlds :=
  Lane.writesOnly_set _ (by simp [linkFlds]) (by decide) (Lane.writesOnly_set _ (by simp [linkFlds]) (by decide) (L.writesOnly_refl _))

theorem Lane.writesOnly_linkRx : L.writesOnly (L.linkRx x0 x1) linkFlds := by
  have h0 : L.writesOnly (L.badCounted0 x0 x1) linkFlds :=
    Lane.writesOnly_ite (Lane.writesOnly_set _ (by simp [linkFlds]) (by decide) (L.writesOnly_linksShown x0 x1)) (L.writesOnly_linksShown x0 x1)
  have h1 : L.writesOnly (L.badCounted x0 x1) linkFlds :=
    Lane.writesOnly_ite (Lane.writesOnly_set _ (by simp [linkFlds]) (by decide) h0) h0
  rw [Lane.linkRx_eq]
  exact Lane.writesOnly_findIf _ _ _ h1

/-- The count of link 1 leaves the other fields of the links. -/
theorem Lane.get_linkRx {g : Fld} (hg : g.lo + g.w ≤ 32) (ha : g.apart Reg.LANE_XLINK_ERR_XL1) :
    (L.linkRx x0 x1).get g = (L.badCounted0 x0 x1).get g := by
  rw [Lane.linkRx_eq, Lane.findIf_get, Lane.badCounted]
  split
  · exact Lane.get_set_apart _ _ (by decide) hg ha
  · rfl

theorem Lane.get_badCounted0 {g : Fld} (hg : g.lo + g.w ≤ 32) (ha : g.apart Reg.LANE_XLINK_ERR_XL0) :
    (L.badCounted0 x0 x1).get g = (L.linksShown x0 x1).get g := by
  unfold Lane.badCounted0
  split
  · exact Lane.get_set_apart _ _ (by decide) hg ha
  · rfl

/-- What the copies leave in the fields of the links. -/
theorem Lane.linkRx_spec :
    (L.linkRx x0 x1).get Reg.LANE_STAT_XL0_UP = (if x0 = .none then 0 else 1) ∧
    (L.linkRx x0 x1).get Reg.LANE_STAT_XL1_UP = (if x1 = .none then 0 else 1) ∧
    (L.linkRx x0 x1).get Reg.LANE_XLINK_ERR_XL0 = (if x0 = .bad then min (L.get Reg.LANE_XLINK_ERR_XL0 + 1) (2 ^ Reg.LANE_XLINK_ERR_XL0.w - 1)
      else L.get Reg.LANE_XLINK_ERR_XL0) := by
  refine ⟨?_, ?_, ?_⟩
  · rw [Lane.get_linkRx _ _ _ (by decide) (by decide), Lane.get_badCounted0 _ _ _ (by decide) (by decide), Lane.linksShown,
      Lane.setb, Lane.get_set_apart _ _ (by decide) (by decide) (by decide), Lane.get_setb _ _ _ (by decide) rfl]
    cases x0 <;> rfl
  · rw [Lane.get_linkRx _ _ _ (by decide) (by decide), Lane.get_badCounted0 _ _ _ (by decide) (by decide), Lane.linksShown,
      Lane.get_setb _ _ _ (by decide) rfl]
    cases x1 <;> rfl
  · have hshown : (L.linksShown x0 x1).get Reg.LANE_XLINK_ERR_XL0 = L.get Reg.LANE_XLINK_ERR_XL0 := by
      rw [Lane.linksShown, Lane.setb, Lane.setb, Lane.get_set_apart _ _ (by decide) (by decide) (by decide),
        Lane.get_set_apart _ _ (by decide) (by decide) (by decide)]
    rw [Lane.get_linkRx _ _ _ (by decide) (by decide), Lane.badCounted0]
    split
    · rw [Lane.get_incSat _ _ _ (by decide), hshown]
    · exact hshown

end

/-! ### The word taken (R444) -/

section

variable {L M : Lane} {fs : List Fld} (h : HealthWord) (skew : Int)

/-- The fields of page 0x60 that show a health word. -/
def wordFlds : List Fld :=
  [Reg.RED_PEER_MODE, Reg.RED_PEER_ROLE, Reg.RED_PEER_ABLE, Reg.RED_PEER_ARMED, Reg.RED_PEER_DEGRADED, Reg.RED_PEER_COASTING,
    Reg.RED_PEER_TB_REQ, Reg.RED_PEER_AGE, Reg.RED_ROLE_PEER_ROLE, Reg.RED_ROLE_FMT]

/-- The fields of the grid skew, of a re-synchronisation's start, of the chronometer's STAT. -/
def skewFlds : List Fld := [Reg.RED_SKEW_LAST, Reg.RED_SKEW_MAX]
def resyncFlds : List Fld := [Reg.RED_ROLE_ROLE, Reg.RED_RESYNC_STAGE, Reg.RED_RESYNC_PROGRESS, Reg.RED_STAT_RESYNC]
def chrStatFlds : List Fld := [Reg.CHR_STAT_TIME_VALID, Reg.CHR_STAT_LOCKED, Reg.CHR_STAT_HOLDOVER, Reg.CHR_STAT_STEP_PENDING]

theorem Role.code_lt (r : Role) : r.code < 2 ^ 4 := by cases r <;> decide

theorem Lane.writesOnly_peerShow (L : Lane) : L.writesOnly (L.peerShow h) wordFlds :=
  Lane.writesOnly_setAll _ (by simp [wordFlds]) (L.writesOnly_refl _)

theorem Lane.peerShow_spec (L : Lane) (hm : h.mode < 16) :
    (L.peerShow h).get Reg.RED_PEER_AGE = 0 ∧ (L.peerShow h).get Reg.RED_PEER_ROLE = h.role.code ∧
    (L.peerShow h).get Reg.RED_ROLE_PEER_ROLE = h.role.code ∧ (L.peerShow h).get Reg.RED_PEER_MODE = h.mode ∧
    (L.peerShow h).get Reg.RED_PEER_ABLE = (if h.able then 1 else 0) ∧ (L.peerShow h).get Reg.RED_PEER_ARMED = (if h.armed then 1 else 0) := by
  have hget := Lane.get_setAll [(Reg.RED_PEER_MODE, h.mode), (Reg.RED_PEER_ROLE, h.role.code), (Reg.RED_PEER_ABLE, if h.able then 1 else 0),
    (Reg.RED_PEER_ARMED, if h.armed then 1 else 0), (Reg.RED_PEER_DEGRADED, if h.degraded then 1 else 0),
    (Reg.RED_PEER_COASTING, if h.coasting then 1 else 0), (Reg.RED_PEER_TB_REQ, if h.tbReq then 1 else 0), (Reg.RED_PEER_AGE, 0),
    (Reg.RED_ROLE_PEER_ROLE, h.role.code), (Reg.RED_ROLE_FMT, (commonFmt L.image.fmtMin L.image.fmtMax h.fmtMin h.fmtMax).getD 0)] L
    (by simp) (show wordFlds.Pairwise Fld.apart by decide)
  have hrole := Nat.mod_eq_of_lt h.role.code_lt
  simp only [List.forall_mem_cons] at hget
  obtain ⟨hmode, hprole, hable, harmed, -, -, -, hage, hpeer, -, -⟩ := hget
  refine ⟨hage, hprole.trans hrole, hpeer.trans hrole, hmode.trans (Nat.mod_eq_of_lt hm), hable.trans ?_, harmed.trans ?_⟩
  · cases h.able <;> rfl
  · cases h.armed <;> rfl

/-! Each step of taking the word keeps the fields that are not its own. -/

/-- The skew shown, and its runs counted. -/
def Lane.skewShown (L : Lane) (skew : Int) : Lane :=
  (L.setiSat Reg.RED_SKEW_LAST skew).setSat Reg.RED_SKEW_MAX (max skew.natAbs (L.get Reg.RED_SKEW_MAX))
def RedSt.skewCounted (r : RedSt) (m stage : Nat) : RedSt :=
  { r with
    skewOut := if 500 < m then min 10 (r.skewOut + 1) else 0,
    skewIn := if m ≤ 250 then min 100 (r.skewIn + 1) else 0,
    syncCnt := if stage = 2 then (if m ≤ 500 then min 100 (r.syncCnt + 1) else 0) else r.syncCnt }

theorem Lane.skewRead_eq (L : Lane) :
    L.skewRead skew = (L.skewShown skew).onRed fun r => r.skewCounted skew.natAbs ((L.skewShown skew).get Reg.RED_RESYNC_STAGE) := (rfl)

theorem Lane.keepsBut_skewRead (hs : skewFlds ⊆ fs) (hk : L.keepsBut M fs) : L.keepsBut (M.skewRead skew) fs := by
  have hshown : L.keepsBut (M.skewShown skew) fs := Lane.keepsBut_set (f := Reg.RED_SKEW_MAX) _ (by decide) (hs (by simp [skewFlds]))
    (Lane.keepsBut_set (f := Reg.RED_SKEW_LAST) _ (by decide) (hs (by simp [skewFlds])) hk)
  rw [Lane.skewRead_eq]
  exact Lane.keepsBut_regs (Lane.onRed_regs _ _) hshown

theorem Lane.keepsBut_peerFollow (hs : Reg.RAP_EPOCH_EPOCH ∈ fs) (hk : L.keepsBut M fs) : L.keepsBut (M.peerFollow h) fs := by
  unfold Lane.peerFollow
  split
  · exact Lane.keepsBut_set _ (by decide) hs hk
  · exact hk

theorem Lane.keepsBut_resyncStart (hs : resyncFlds ⊆ fs) (hk : L.keepsBut M fs) : L.keepsBut M.resyncStart fs := by
  have hrole := Lane.keepsBut_set (f := Reg.RED_ROLE_ROLE) Role.resync.code (by decide) (hs (by simp [resyncFlds])) hk
  have hstage := Lane.keepsBut_set (f := Reg.RED_RESYNC_STAGE) 1 (by decide) (hs (by simp [resyncFlds])) hrole
  have hprog := Lane.keepsBut_set (f := Reg.RED_RESYNC_PROGRESS) 0 (by decide) (hs (by simp [resyncFlds])) hstage
  exact Lane.keepsBut_regs (Lane.onRed_regs _ _) (Lane.keepsBut_set (f := Reg.RED_STAT_RESYNC) 1 (by decide) (hs (by simp [resyncFlds])) hprog)

theorem Lane.resyncStart_spec (L : Lane) : L.resyncStart.role = 4 ∧ L.resyncStart.get Reg.RED_RESYNC_STAGE = 1 := by
  unfold Lane.role Lane.resyncStart Lane.setb
  dsimp only
  rw [Lane.onRed_get, Lane.onRed_get]
  constructor
  · rw [Lane.get_set_apart _ _ (by decide) (by decide) (by decide), Lane.get_set_apart _ _ (by decide) (by decide) (by decide),
      Lane.get_set_apart _ _ (by decide) (by decide) (by decide)]
    exact Lane.get_set_fit _ _ (by decide) (by decide)
  · rw [Lane.get_set_apart _ _ (by decide) (by decide) (by decide), Lane.get_set_apart _ _ (by decide) (by decide) (by decide)]
    exact Lane.get_set_fit _ _ (by decide) (by decide)

theorem Lane.resyncStart_red (L : Lane) : L.resyncStart.red =
    { L.red with syncCnt := 0, settle := 0, tbCount := 0, tbReq := false, disagree := false, matchRun := 0 } := (rfl)

/-- The digest of the word agrees with the lane's own. -/
def Lane.digestAgrees (L : Lane) (h : HealthWord) : Bool := decide (h.digest = if L.chart.ok then L.chart.now.digest else 0)

/-- A standby whose Chart differs from the active lane's. -/
def Lane.digestParts (L : Lane) (h : HealthWord) : Bool :=
  !L.digestAgrees h && decide (h.role = .active) && decide (L.role = 3) && !L.boot.waiting

theorem Lane.digestTake_eq (L : Lane) : L.digestTake h = if L.digestParts h then (L.onRed fun r => { r with digestSame := L.digestAgrees h }).resyncStart
    else L.onRed fun r => { r with digestSame := L.digestAgrees h } := (rfl)

theorem Lane.keepsBut_digestTake (hs : resyncFlds ⊆ fs) (hk : L.keepsBut M fs) : L.keepsBut (M.digestTake h) fs := by
  have hred := Lane.keepsBut_regs (M.onRed_regs fun r => { r with digestSame := M.digestAgrees h }) hk
  rw [Lane.digestTake_eq]
  split
  · exact Lane.keepsBut_resyncStart hs hred
  · exact hred

/-- What the comparison leaves in the redundancy record. -/
theorem Lane.digestTake_red (L : Lane) : (L.digestTake h).red.peer = L.red.peer ∧ (L.digestTake h).red.peerAble = L.red.peerAble ∧
    (L.digestTake h).red.digestSame = L.digestAgrees h ∧ (L.digestTake h).red.lost = L.red.lost := by
  rw [Lane.digestTake_eq]
  split
  · rw [Lane.resyncStart_red, Lane.onRed_red]
    exact ⟨rfl, rfl, rfl, rfl⟩
  · rw [Lane.onRed_red]
    exact ⟨rfl, rfl, rfl, rfl⟩

theorem Lane.digestTake_hw (L : Lane) : (L.digestTake h).hw = L.hw := by
  rw [Lane.digestTake_eq]
  split <;> rfl

theorem Lane.writesOnly_chrStat (L : Lane) : L.writesOnly L.chrStat chrStatFlds := by
  unfold Lane.chrStat
  exact Lane.writesOnly_findIf _ _ _ (Lane.writesOnly_set _ (by simp [chrStatFlds]) (by decide) (Lane.writesOnly_set _ (by simp [chrStatFlds])
    (by decide) (Lane.writesOnly_set _ (by simp [chrStatFlds]) (by decide) (Lane.writesOnly_set _ (by simp [chrStatFlds]) (by decide)
      (L.writesOnly_refl _)))))

/-- The lane with the word in its records. -/
def Lane.wordHeld (L : Lane) (h : HealthWord) : Lane :=
  (L.onRed fun r => { r with peer := some h, peerAble := h.able, lost := false }).onHw fun w => { w with mirrorMiss := 0 }

/-- The word shown too. -/
def Lane.wordShown (L : Lane) (h : HealthWord) : Lane := ((L.wordHeld h).peerShow h).findIf (L.red.peerAble && !h.able && L.active) 0x60 3

/-- The grid skew read beside the word of an active lane. -/
def Lane.skewTaken (L : Lane) (h : HealthWord) (skew : Int) : Lane := if h.role = .active ∧ !L.active then L.skewRead skew else L

/-- The lane before the digests are compared. -/
def Lane.wordFollowed (L : Lane) (h : HealthWord) (skew : Int) : Lane := ((L.wordShown h).skewTaken h skew).peerFollow h

theorem Lane.healthTake_eq (L : Lane) : L.healthTake h skew = ((L.wordFollowed h skew).digestTake h).chrStat := (rfl)

theorem Lane.writesOnly_wordShown (L : Lane) : (L.wordHeld h).writesOnly (L.wordShown h) wordFlds :=
  Lane.writesOnly_findIf _ _ _ ((L.wordHeld h).writesOnly_peerShow h)

theorem Lane.keepsBut_skewTaken (hs : skewFlds ⊆ fs) (hk : L.keepsBut M fs) : L.keepsBut (M.skewTaken h skew) fs := by
  unfold Lane.skewTaken
  split
  · exact Lane.keepsBut_skewRead skew hs hk
  · exact hk

/-! ### Records beside the registers -/

/-- The records that the steps before the comparison of the digests leave: Chart, start-up, hardware, and the word held. -/
def Lane.sameWord (L M : Lane) : Prop :=
  M.chart = L.chart ∧ M.boot = L.boot ∧ M.hw = L.hw ∧ M.red.peer = L.red.peer ∧ M.red.peerAble = L.red.peerAble ∧ M.red.lost = L.red.lost

theorem Lane.sameWord_of_onlyRegs (ho : L.onlyRegs M) : L.sameWord M := by
  have hred := Lane.read_of_onlyRegs Lane.red (fun _ _ _ => rfl) ho
  exact ⟨Lane.read_of_onlyRegs Lane.chart (fun _ _ _ => rfl) ho, Lane.read_of_onlyRegs Lane.boot (fun _ _ _ => rfl) ho,
    Lane.read_of_onlyRegs Lane.hw (fun _ _ _ => rfl) ho, by rw [hred], by rw [hred], by rw [hred]⟩

theorem Lane.sameWord_trans {N : Lane} (h1 : L.sameWord M) (h2 : M.sameWord N) : L.sameWord N := by
  obtain ⟨a1, b1, c1, d1, e1, f1⟩ := h1
  obtain ⟨a2, b2, c2, d2, e2, f2⟩ := h2
  exact ⟨a2.trans a1, b2.trans b1, c2.trans c1, d2.trans d1, e2.trans e1, f2.trans f1⟩

theorem Lane.sameWord_onRed (L : Lane) (g : RedSt → RedSt) (hpeer : (g L.red).peer = L.red.peer) (hable : (g L.red).peerAble = L.red.peerAble)
    (hlost : (g L.red).lost = L.red.lost) : L.sameWord (L.onRed g) :=
  ⟨L.onRed_chart g, L.onRed_boot g, L.onRed_hw g, by rwa [L.onRed_red], by rwa [L.onRed_red], by rwa [L.onRed_red]⟩

theorem Lane.sameWord_skewRead (L : Lane) : L.sameWord (L.skewRead skew) := by
  have hset : L.sameWord (L.skewShown skew) :=
    Lane.sameWord_of_onlyRegs (Lane.onlyRegs_set _ _ (Lane.onlyRegs_set _ _ L.onlyRegs_refl))
  rw [Lane.skewRead_eq]
  exact Lane.sameWord_trans hset (Lane.sameWord_onRed _ _ rfl rfl rfl)

theorem Lane.onlyRegs_peerFollow (L : Lane) : L.onlyRegs (L.peerFollow h) := by
  unfold Lane.peerFollow
  split
  · exact Lane.onlyRegs_set _ _ L.onlyRegs_refl
  · exact L.onlyRegs_refl

theorem Lane.sameWord_wordFollowed (L : Lane) : (L.wordHeld h).sameWord (L.wordFollowed h skew) := by
  have hskew : (L.wordShown h).sameWord ((L.wordShown h).skewTaken h skew) := by
    unfold Lane.skewTaken
    split
    · exact Lane.sameWord_skewRead skew _
    · exact Lane.sameWord_of_onlyRegs (Lane.onlyRegs_refl _)
  exact Lane.sameWord_trans (Lane.sameWord_of_onlyRegs (L.writesOnly_wordShown h).2)
    (Lane.sameWord_trans hskew (Lane.sameWord_of_onlyRegs (Lane.onlyRegs_peerFollow h _)))

/-- The records once the word is taken. -/
theorem Lane.healthTake_records (L : Lane) :
    (L.healthTake h skew).red.peer = some h ∧ (L.healthTake h skew).red.peerAble = h.able ∧
    (L.healthTake h skew).red.digestSame = L.digestAgrees h ∧ (L.healthTake h skew).red.lost = false ∧ (L.healthTake h skew).hw.mirrorMiss = 0 := by
  obtain ⟨hchart, -, hhw, hpeer, hable, hlost⟩ := L.sameWord_wordFollowed h skew
  obtain ⟨dpeer, dable, dsame, dlost⟩ := (L.wordFollowed h skew).digestTake_red h
  have honly := ((L.wordFollowed h skew).digestTake h).writesOnly_chrStat.2
  have hagree : (L.wordFollowed h skew).digestAgrees h = L.digestAgrees h := by
    unfold Lane.digestAgrees
    rw [hchart]
    rfl
  rw [Lane.healthTake_eq, Lane.read_of_onlyRegs Lane.red (fun _ _ _ => rfl) honly, Lane.read_of_onlyRegs Lane.hw (fun _ _ _ => rfl) honly,
    Lane.digestTake_hw, hhw]
  exact ⟨dpeer.trans hpeer, dable.trans hable, dsame.trans hagree, dlost.trans hlost, rfl⟩

/-! ### Registers once the word is taken -/

/-- The fields that the steps after the word is shown may write. -/
def followFlds : List Fld := Reg.RAP_EPOCH_EPOCH :: skewFlds
def takeFlds : List Fld := resyncFlds ++ chrStatFlds

theorem Lane.keepsBut_wordFollowed (L : Lane) : (L.wordShown h).keepsBut (L.wordFollowed h skew) followFlds :=
  Lane.keepsBut_peerFollow h (by simp [followFlds]) (Lane.keepsBut_skewTaken h skew (by simp [followFlds]) (Lane.keepsBut_refl _ _))

theorem Lane.keepsBut_healthTake (L : Lane) : (L.wordFollowed h skew).keepsBut (L.healthTake h skew) takeFlds := by
  have hdig : (L.wordFollowed h skew).keepsBut ((L.wordFollowed h skew).digestTake h) takeFlds :=
    Lane.keepsBut_digestTake h (by simp [takeFlds]) (Lane.keepsBut_refl _ _)
  intro g hg ha
  have hchr := ((L.wordFollowed h skew).digestTake h).writesOnly_chrStat.1 g hg fun f hf => ha f (by simp [takeFlds, hf])
  rw [Lane.healthTake_eq, hchr]
  exact hdig g hg ha

/-- A field that neither the word nor what follows it writes. -/
theorem Lane.get_wordFollowed (L : Lane) {g : Fld} (hg : g.lo + g.w ≤ 32 ∧ ∀ f ∈ followFlds ++ wordFlds, g.apart f) :
    (L.wordFollowed h skew).get g = L.get g := by
  obtain ⟨hfit, hap⟩ := hg
  exact ((L.keepsBut_wordFollowed h skew) g hfit fun f hf => hap f (List.mem_append_left _ hf)).trans
    ((L.writesOnly_wordShown h).1 g hfit fun f hf => hap f (List.mem_append_right _ hf))

theorem Lane.get_healthTake (L : Lane) {g : Fld} (hg : g.lo + g.w ≤ 32 ∧ ∀ f ∈ followFlds ++ wordFlds, g.apart f)
    (ht : ∀ f ∈ takeFlds, g.apart f) : (L.healthTake h skew).get g = L.get g :=
  (L.keepsBut_healthTake h skew g hg.1 ht).trans (L.get_wordFollowed h skew hg)

/-- A field that shows the word. -/
theorem Lane.get_healthTake_word (L : Lane) {g : Fld} (hg : g.lo + g.w ≤ 32 ∧ ∀ f ∈ followFlds ++ takeFlds, g.apart f) :
    (L.healthTake h skew).get g = ((L.wordHeld h).peerShow h).get g := by
  obtain ⟨hfit, hap⟩ := hg
  refine (L.keepsBut_healthTake h skew g hfit fun f hf => hap f (List.mem_append_right _ hf)).trans ?_
  exact ((L.keepsBut_wordFollowed h skew) g hfit fun f hf => hap f (List.mem_append_left _ hf)).trans (Lane.findIf_get _ _ _ _ _)

/-- A standby whose Chart differs from the active lane's begins a re-synchronisation. -/
theorem Lane.healthTake_parts (L : Lane) (hd : L.digestAgrees h = false) (hr : h.role = .active) (h3 : L.role = 3) (hw : L.boot.waiting = false) :
    (L.healthTake h skew).role = 4 ∧ (L.healthTake h skew).get Reg.RED_RESYNC_STAGE = 1 := by
  obtain ⟨hchart, hboot, -⟩ := L.sameWord_wordFollowed h skew
  have hrole : (L.wordFollowed h skew).role = 3 := (L.get_wordFollowed h skew (by decide)).trans h3
  have hagree : (L.wordFollowed h skew).digestAgrees h = false := by
    unfold Lane.digestAgrees at hd ⊢
    rw [hchart]
    exact hd
  have hwait : (L.wordFollowed h skew).boot.waiting = false := by
    rw [hboot]
    exact hw
  have hchr (g : Fld) (hg : g.lo + g.w ≤ 32 ∧ ∀ f ∈ chrStatFlds, g.apart f) :
      (L.healthTake h skew).get g = ((L.wordFollowed h skew).digestTake h).get g :=
    ((L.wordFollowed h skew).digestTake h).writesOnly_chrStat.1.get_eq hg
  obtain ⟨srole, sstage⟩ := Lane.resyncStart_spec ((L.wordFollowed h skew).onRed fun r => { r with digestSame := (L.wordFollowed h skew).digestAgrees h })
  rw [Lane.role, hchr _ (by decide), hchr _ (by decide), Lane.digestTake_eq, if_pos (by simp [Lane.digestParts, hagree, hr, hrole, hwait])]
  exact ⟨srole, sstage⟩

/-- A lane that is not active takes the epoch of the active lane; an active lane keeps its own. -/
theorem Lane.healthTake_epoch (L : Lane) (he : h.epoch < 2 ^ 32) :
    (L.healthTake h skew).get Reg.RAP_EPOCH_EPOCH =
      if h.role = .active ∧ !L.active then h.epoch else L.get Reg.RAP_EPOCH_EPOCH := by
  have hbefore : ((L.wordShown h).skewTaken h skew).get Reg.RAP_EPOCH_EPOCH = L.get Reg.RAP_EPOCH_EPOCH :=
    ((Lane.keepsBut_skewTaken h skew (List.Subset.refl _) (Lane.keepsBut_refl _ _)).get_eq (by decide)).trans
      ((L.writesOnly_wordShown h).1.get_eq (by decide))
  have hactive : ((L.wordShown h).skewTaken h skew).active = L.active := by
    unfold Lane.active Lane.flag
    rw [(Lane.keepsBut_skewTaken h skew (List.Subset.refl _) (Lane.keepsBut_refl (L.wordShown h) skewFlds)).get_eq (by decide),
      (L.writesOnly_wordShown h).1.get_eq (by decide)]
    rfl
  rw [(L.keepsBut_healthTake h skew).get_eq (by decide), Lane.wordFollowed, Lane.peerFollow, hactive]
  split
  · exact Lane.get_set_fit _ _ (by decide) he
  · exact hbefore

end

/-! ### The command -/

section

variable {s : State} {l : LaneId} {x0 x1 : LinkRx} {h : HealthWord}

theorem State.upd_upd (s : State) (l : LaneId) (f g : Lane → Lane) : (s.upd l f).upd l g = s.upd l fun L => g (f L) := by cases l <;> rfl

/-- A lane whose 24 V input of the outputs reads as before leaves the shared section's power. -/
theorem State.sharedPower_upd {f : Lane → Lane} (hf : (f (s.lane l)).get (Reg.PWR_IN_STATE Supply.io.idx) = (s.lane l).get (Reg.PWR_IN_STATE Supply.io.idx)) :
    (s.upd l f).sharedPower = s.sharedPower := by
  have hs : (f (s.lane l)).supplyOk .io = (s.lane l).supplyOk .io := by
    unfold Lane.supplyOk
    simp only [hf]
  cases l
  · exact congrArg (· || s.b.supplyOk .io) hs
  · exact congrArg (s.a.supplyOk .io || ·) hs

theorem exec_healthWordReceived (skew : Int) (hp : s.sharedPower = true) (ho : (s.lane l.other).red.hwOut = some h) (hrun : (s.lane l).running = true)
    (hx : x0 = .intact ∨ x1 = .intact) (hm : (s.lane l).mode ≠ 2) :
    exec (.healthWordReceived l x0 x1 skew) s = onLane l (fun L => (L.linkRx x0 x1).healthTake h skew) s := by
  have hpower : (s.upd l fun L => (L.linkRx x0 x1).healthTake h skew).sharedPower = true := by
    rw [State.sharedPower_upd ?_, hp]
    exact (Lane.get_healthTake h skew _ (by decide) (by decide)).trans (((s.lane l).writesOnly_linkRx x0 x1).1.get_eq (by decide))
  show execHealthWordReceived l x0 x1 skew s = _
  unfold execHealthWordReceived
  simp only [ho, hrun, if_true, if_pos hx, State.upd_upd, hm, false_and, if_false]
  rw [State.moving_same (f := fun s => s) hpower fun _ => rfl]
  rfl

end

end Sys2Proof.Machine
end

section
/-! The mirror frame between the lanes (01 R46; 12 R449, R467): what its adoption leaves of a lane's mode, role, stage and schedule. -/

namespace Sys2Proof.Machine

open Sys2Proof

/-! ### What most of the adoption leaves alone -/

/-- The words of a lane's mode, of its role and of its re-synchronisation. -/
def standingWords : List Nat := [Reg.MODE_CUR_MODE.addr, Reg.RED_ROLE_ROLE.addr, Reg.RED_RESYNC_STAGE.addr]

/-- A lane's standing is as it was: those words, and the records of its tick, hardware, control and redundancy. -/
def Lane.keepsStanding (L M : Lane) : Prop :=
  (∀ a ∈ standingWords, M.word a = L.word a) ∧ M.tk = L.tk ∧ M.hw = L.hw ∧ M.ctl = L.ctl ∧ M.red = L.red

section

variable {L M N : Lane}

theorem Lane.keepsStanding_refl (L : Lane) : L.keepsStanding L := ⟨fun _ _ => rfl, rfl, rfl, rfl, rfl⟩

theorem Lane.keepsStanding_ite {p : Prop} [Decidable p] (hM : L.keepsStanding M) (hN : L.keepsStanding N) :
    L.keepsStanding (if p then M else N) := by split_ifs <;> assumption

theorem Lane.keepsStanding_setWord {a : Nat} (v : Word) (ha : a ∉ standingWords) (h : L.keepsStanding M) : L.keepsStanding (M.setWord a v) := by
  obtain ⟨hw, ht, hh, hc, hr⟩ := h
  exact ⟨fun b hb => (M.word_setWord_other v (ne_of_mem_of_not_mem hb ha)).trans (hw b hb), ht, hh, hc, hr⟩

theorem Lane.keepsStanding_set {f : Fld} (v : Nat) (hf : f.addr ∉ standingWords) (h : L.keepsStanding M) : L.keepsStanding (M.set f v) :=
  Lane.keepsStanding_setWord _ hf h

theorem Lane.keepsStanding_setAll (r : List (Fld × Nat)) : ∀ {M : Lane}, (∀ p ∈ r, p.1.addr ∉ standingWords) → L.keepsStanding M →
    L.keepsStanding (M.setAll r) := by
  induction r with
  | nil => exact fun _ h => h
  | cons p r ih =>
    intro M hr h
    obtain ⟨hp, hr⟩ := List.forall_mem_cons.1 hr
    exact ih hr (Lane.keepsStanding_set p.2 hp h)

theorem Lane.keepsStanding_find (p b : Nat) (h : L.keepsStanding M) : L.keepsStanding (M.find p b) := h

theorem Lane.keepsStanding_findIf (c : Bool) (p b : Nat) (h : L.keepsStanding M) : L.keepsStanding (M.findIf c p b) := by cases c <;> exact h

theorem Lane.keepsStanding_onChr (f : ChronSt → ChronSt) (h : L.keepsStanding M) : L.keepsStanding (M.onChr f) := h
theorem Lane.keepsStanding_onAna (f : AnaSt → AnaSt) (h : L.keepsStanding M) : L.keepsStanding (M.onAna f) := h
theorem Lane.keepsStanding_onCan (f : CanSt → CanSt) (h : L.keepsStanding M) : L.keepsStanding (M.onCan f) := h
theorem Lane.keepsStanding_onSf (f : SafetySt → SafetySt) (h : L.keepsStanding M) : L.keepsStanding (M.onSf f) := h
theorem Lane.keepsStanding_onRap (f : RapSt → RapSt) (h : L.keepsStanding M) : L.keepsStanding (M.onRap f) := h
theorem Lane.keepsStanding_onNtk (f : IntakeSt → IntakeSt) (h : L.keepsStanding M) : L.keepsStanding (M.onNtk f) := h
theorem Lane.keepsStanding_onPlt (f : PlotterSt → PlotterSt) (h : L.keepsStanding M) : L.keepsStanding (M.onPlt f) := h
theorem Lane.keepsStanding_onAlc (f : AllocSt → AllocSt) (h : L.keepsStanding M) : L.keepsStanding (M.onAlc f) := h

/-- A step done for each number below `n`. -/
theorem Lane.keepsStanding_forUpTo {f : Nat → Lane → Lane} (n : Nat) (hf : ∀ k, k < n → ∀ M, L.keepsStanding M → L.keepsStanding (f k M))
    (h : L.keepsStanding M) : L.keepsStanding (forUpTo n f M) := by
  induction n with
  | zero => exact h
  | succ n ih => exact hf n (Nat.lt_succ_self n) _ (ih fun k hk => hf k (Nat.lt_succ_of_lt hk))

end

/-! ### The shares of the frame -/

section

variable {L M : Lane}

/-- An address between those of the mode and of the role is none of theirs. -/
theorem not_mem_standingWords {a : Nat} (h : 0x820 < a) (h' : a < 0x18020) : a ∉ standingWords := by
  simp only [standingWords, List.mem_cons, List.not_mem_nil, or_false, not_or]
  omega

theorem Lane.keepsStanding_ppsMirrored (p : Nat) (m : List (Nat × Word)) (h : L.keepsStanding M) : L.keepsStanding (M.ppsMirrored p m) :=
  Lane.keepsStanding_ite (Lane.keepsStanding_onChr _ h) h

theorem Lane.keepsStanding_setWords (m : List (Nat × Word)) : ∀ {M : Lane}, (∀ e ∈ m, e.1 ∉ standingWords) → L.keepsStanding M →
    L.keepsStanding (m.foldl (fun L e => L.setWord e.1 e.2) M) := by
  induction m with
  | nil => exact fun _ h => h
  | cons e m ih =>
    intro M hm h
    obtain ⟨he, hm⟩ := List.forall_mem_cons.1 hm
    exact ih hm (Lane.keepsStanding_setWord e.2 he h)

/-- The frame carries none of those words. -/
theorem mirroredReg_standingWords : ∀ a ∈ standingWords, mirroredReg a = false := by decide

theorem Lane.keepsStanding_adoptRegs (m : List (Nat × Word)) (h : L.keepsStanding M) : L.keepsStanding (M.adoptRegs m) := by
  unfold Lane.adoptRegs
  refine Lane.keepsStanding_setWords _ (fun e he hs => ?_) ?_
  · have hmir := (List.mem_filter.1 he).2
    rw [mirroredReg_standingWords _ hs] at hmir
    cases hmir
  · obtain ⟨hw, ht, hh, hc, hr⟩ := h
    refine ⟨fun a ha => Eq.trans ?_ (hw a ha), ht, hh, hc, hr⟩
    exact sparseGet_filter (fun a => !mirroredReg a) _ (by rw [mirroredReg_standingWords a ha]; rfl) M.regs

theorem Lane.keepsStanding_availShow (h : L.keepsStanding M) : L.keepsStanding M.availShow :=
  Lane.keepsStanding_setAll _ (by simp [standingWords]) h

/-! The analogue share (08 R325, R326, R330). -/

theorem Lane.keepsStanding_aiRestart (n : Nat) (h : L.keepsStanding M) : L.keepsStanding (M.aiRestart n) :=
  Lane.keepsStanding_ite h (Lane.keepsStanding_ite (Lane.keepsStanding_onAna _ h) (Lane.keepsStanding_find _ _ (Lane.keepsStanding_onAna _ h)))

theorem Lane.keepsStanding_aiOff (n : Nat) (h : L.keepsStanding M) : L.keepsStanding (M.aiOff n) :=
  Lane.keepsStanding_onAna _ (Lane.keepsStanding_set _ (by decide) h)

theorem Lane.keepsStanding_setPhase {n : Nat} (hn : n < 32) (h : L.keepsStanding M) : L.keepsStanding (M.setPhase n) := by
  unfold Lane.setPhase
  have hphase : (Reg.AI_CFG_PHASE n).addr ∉ standingWords :=
    not_mem_standingWords (show 0x820 < 0xe100 + 0x10 * n by omega) (show 0xe100 + 0x10 * n < 0x18020 by omega)
  refine Lane.keepsStanding_ite (Lane.keepsStanding_onAna _ h) ?_
  have hset (p : Nat) : L.keepsStanding ((M.onAi n fun a => { a with p := p }).set (Reg.AI_CFG_PHASE n) p) :=
    Lane.keepsStanding_set _ hphase (Lane.keepsStanding_onAna _ h)
  exact Lane.keepsStanding_ite (Lane.keepsStanding_find _ _ (Lane.keepsStanding_set _ (by decide) (hset _))) (hset _)

theorem Lane.keepsStanding_showDelay {n : Nat} (hn : n < 32) (h : L.keepsStanding M) : L.keepsStanding (M.showDelay n) := by
  have hdelay : (Reg.AI_DELAY_w n).addr ∉ standingWords :=
    not_mem_standingWords (show 0x820 < 0xe080 + 0x4 * n by omega) (show 0xe080 + 0x4 * n < 0x18020 by omega)
  exact Lane.keepsStanding_ite (Lane.keepsStanding_set _ hdelay h) (Lane.keepsStanding_set (f := Reg.AI_DELAY_DELAY n) _ hdelay
    (Lane.keepsStanding_set (f := Reg.AI_DELAY_MINPHASE n) _ hdelay h))

theorem Lane.keepsStanding_align (h : L.keepsStanding M) : L.keepsStanding M.align :=
  Lane.keepsStanding_forUpTo 32 (fun _ hn _ h => Lane.keepsStanding_showDelay hn h) (Lane.keepsStanding_forUpTo 32 (fun _ hn _ h =>
    Lane.keepsStanding_ite (Lane.keepsStanding_setPhase hn h) (Lane.keepsStanding_aiRestart _ (Lane.keepsStanding_setPhase hn h))) h)

theorem Lane.keepsStanding_aiConfigure {n : Nat} (hn : n < 32) (w : Word) (h : L.keepsStanding M) : L.keepsStanding (M.aiConfigure n w) := by
  have hcfg : (Reg.AI_CFG_w n).addr ∉ standingWords :=
    not_mem_standingWords (show 0x820 < 0xe100 + 0x10 * n by omega) (show 0xe100 + 0x10 * n < 0x18020 by omega)
  have halign (v : Word) : L.keepsStanding (M.setWord (Reg.AI_CFG_w n).addr v).align :=
    Lane.keepsStanding_align (Lane.keepsStanding_setWord v hcfg h)
  unfold Lane.aiConfigure
  refine Lane.keepsStanding_ite (Lane.keepsStanding_aiOff n (halign _)) (Lane.keepsStanding_ite (Lane.keepsStanding_aiRestart n ?_) (halign _))
  exact Lane.keepsStanding_ite (Lane.keepsStanding_onAna _ (halign _)) (halign _)

theorem Lane.keepsStanding_compareMean (n : Nat) (x : Option Rat) (h : L.keepsStanding M) : L.keepsStanding (M.compareMean n x) := by
  unfold Lane.compareMean
  split
  · exact Lane.keepsStanding_onAna _ h
  · exact h

/-- A configuration of the frame put in force where it differs. -/
theorem Lane.keepsStanding_adoptCfg {n : Nat} (hn : n < 32) (w : Word) (h : L.keepsStanding M) :
    L.keepsStanding (if M.word (Reg.AI_CFG_w n).addr = w then M
      else (M.onAna fun x => { x with written := n :: x.written.filter fun k => k ≠ n }).aiConfigure n w) :=
  Lane.keepsStanding_ite h (Lane.keepsStanding_aiConfigure hn w (Lane.keepsStanding_onAna _ h))

theorem Lane.keepsStanding_adoptAna (m : MirrorFrame) (h : L.keepsStanding M) : L.keepsStanding (M.adoptAna m) := by
  unfold Lane.adoptAna
  have hcfg := Lane.keepsStanding_forUpTo 32 (fun n hn _ hM =>
    Lane.keepsStanding_adoptCfg hn (sparseGet m.regs (Reg.AI_CFG_w n).addr (resetWord (Reg.AI_CFG_w n).addr)) hM) h
  have hrestart := Lane.keepsStanding_forUpTo 32 (fun n _ _ hM =>
    Lane.keepsStanding_ite (p := testBit m.restartBits n = true) (Lane.keepsStanding_aiRestart n hM) hM) hcfg
  have hout := Lane.keepsStanding_forUpTo 16 (fun k _ M hM =>
    show L.keepsStanding (M.onAo k fun a => { a with committed := m.aoVals.getD k a.committed }) from Lane.keepsStanding_onAna _ hM) hrestart
  exact Lane.keepsStanding_ite (Lane.keepsStanding_forUpTo 32 (fun n _ _ hM => Lane.keepsStanding_compareMean n _ hM) hout) hout

/-! The chronometer's share (09 R349, R350, R356, R370). -/

theorem Lane.keepsStanding_chrStat (h : L.keepsStanding M) : L.keepsStanding M.chrStat :=
  Lane.keepsStanding_findIf _ _ _ (Lane.keepsStanding_set _ (by decide) (Lane.keepsStanding_set _ (by decide)
    (Lane.keepsStanding_set _ (by decide) (Lane.keepsStanding_set _ (by decide) h))))

theorem Lane.keepsStanding_enterHoldover (e u : Rat) (h : L.keepsStanding M) : L.keepsStanding (M.enterHoldover e u) := by
  unfold Lane.enterHoldover
  refine Lane.keepsStanding_chrStat (Lane.keepsStanding_find _ _ (Lane.keepsStanding_set _ (by decide) (Lane.keepsStanding_set _ (by decide) ?_)))
  exact Lane.keepsStanding_setAll _ (by simp [standingWords]) (Lane.keepsStanding_onChr _ (Lane.keepsStanding_onChr _ h))

theorem Lane.keepsStanding_loseTime (x : Rat) (h : L.keepsStanding M) : L.keepsStanding (M.loseTime x) :=
  Lane.keepsStanding_enterHoldover _ _ (Lane.keepsStanding_set _ (by decide) (Lane.keepsStanding_onChr _ (Lane.keepsStanding_onChr _ h)))

theorem Lane.keepsStanding_utcUpdate (h : L.keepsStanding M) : L.keepsStanding M.utcUpdate := by
  unfold Lane.utcUpdate
  split
  exact Lane.keepsStanding_findIf _ _ _ (Lane.keepsStanding_setAll _ (by simp [standingWords]) h)

theorem Lane.keepsStanding_takeSource (k : Nat) (h : L.keepsStanding M) : L.keepsStanding (M.takeSource k) := by
  unfold Lane.takeSource
  have hsel (f : ChronSt → ChronSt) :
      L.keepsStanding (((((M.dropStep.onChr f).set Reg.CHR_SYNC_SRC k).setb Reg.CHR_STAT_HOLD_OK false)).ptpSelected k) :=
    Lane.keepsStanding_utcUpdate (Lane.keepsStanding_onChr _ (Lane.keepsStanding_set _ (by decide) (Lane.keepsStanding_set _ (by decide)
      (Lane.keepsStanding_onChr _ (Lane.keepsStanding_onChr _ h)))))
  exact Lane.keepsStanding_ite h (Lane.keepsStanding_ite (Lane.keepsStanding_find _ _ (Lane.keepsStanding_set _ (by decide) (hsel _))) (hsel _))

theorem Lane.keepsStanding_reselect (x : Rat) (h : L.keepsStanding M) : L.keepsStanding (M.reselect x) := by
  unfold Lane.reselect
  split
  · exact Lane.keepsStanding_chrStat (Lane.keepsStanding_takeSource _ h)
  · exact Lane.keepsStanding_ite (Lane.keepsStanding_loseTime _ h) (Lane.keepsStanding_chrStat (Lane.keepsStanding_set _ (by decide) h))

/-- The registers of the four sources. -/
theorem srcStat_not_mem {k : Nat} (hk : k ≤ 4) : (Reg.CHR_SRC_STAT_STATE k).addr ∉ standingWords :=
  not_mem_standingWords (show 0x820 < 0x10080 + 0x10 * k by omega) (show 0x10080 + 0x10 * k < 0x18020 by omega)

theorem Lane.keepsStanding_dropSource {k : Nat} (hk : k ≤ 4) (st : Nat) (h : L.keepsStanding M) : L.keepsStanding (M.dropSource k st) := by
  unfold Lane.dropSource
  have hshown := Lane.keepsStanding_setAll [(Reg.CHR_SRC_STAT_STATE k, st), (Reg.CHR_SRC_STAT_QUAL k, 0)]
    (List.forall_mem_cons.2 ⟨srcStat_not_mem hk, List.forall_mem_cons.2 ⟨srcStat_not_mem hk, fun _ h => absurd h List.not_mem_nil⟩⟩)
    (Lane.keepsStanding_onChr (fun c => c.setSrc k {}) h)
  exact Lane.keepsStanding_ite (Lane.keepsStanding_reselect _ hshown) hshown

/-- One source after the mask of disabled sources has changed. -/
theorem Lane.keepsStanding_srcMasked {k : Nat} (hk : k ≤ 4) (h : L.keepsStanding M) :
    L.keepsStanding (if M.srcAbsent k then (if M.srcState k = 0 then M else M.dropSource k 0)
      else if M.srcState k = 0 then M.set (Reg.CHR_SRC_STAT_STATE k) 1 else M) :=
  Lane.keepsStanding_ite (Lane.keepsStanding_ite h (Lane.keepsStanding_dropSource hk 0 h))
    (Lane.keepsStanding_ite (Lane.keepsStanding_set _ (srcStat_not_mem hk) h) h)

theorem Lane.keepsStanding_applySrcDis (mask : Nat) (h : L.keepsStanding M) : L.keepsStanding (M.applySrcDis mask) :=
  Lane.keepsStanding_srcMasked (by decide) (Lane.keepsStanding_srcMasked (by decide) (Lane.keepsStanding_srcMasked (by decide)
    (Lane.keepsStanding_srcMasked (by decide) (Lane.keepsStanding_set _ (by decide) h))))

theorem Lane.keepsStanding_adoptChr (m : MirrorFrame) (h : L.keepsStanding M) : L.keepsStanding (M.adoptChr m) := by
  unfold Lane.adoptChr
  exact Lane.keepsStanding_ite (Lane.keepsStanding_onChr _ h) (Lane.keepsStanding_onChr _ (Lane.keepsStanding_applySrcDis _ (Lane.keepsStanding_onChr _ h)))

/-! The shares of CAN, of the safety inputs and outputs, of their change log, of the schedule. -/

theorem Lane.keepsStanding_canAdopt (cyc : Nat) (m : List CanMirror) (alive : List Nat) (h : L.keepsStanding M) :
    L.keepsStanding (M.canAdopt cyc m alive) := by
  unfold Lane.canAdopt
  refine Lane.keepsStanding_forUpTo 8 (fun p hp N hN => ?_) (Lane.keepsStanding_onCan _ h)
  split
  · exact hN
  · have hwait : (Reg.CAN_SCHED_WAIT_START p).addr ∉ standingWords :=
      not_mem_standingWords (show 0x820 < 0x12040 + 0x400 * p by omega) (show 0x12040 + 0x400 * p < 0x18020 by omega)
    exact Lane.keepsStanding_onCan _ (Lane.keepsStanding_set _ hwait hN)

theorem Lane.keepsStanding_sfAdopt (m : SafetySt) (resync : Bool) (h : L.keepsStanding M) : L.keepsStanding (M.sfAdopt m resync) := by
  unfold Lane.sfAdopt
  exact Lane.keepsStanding_ite (Lane.keepsStanding_onSf _ h) (Lane.keepsStanding_onSf _ (Lane.keepsStanding_findIf _ _ _
    (Lane.keepsStanding_set _ (by decide) (Lane.keepsStanding_onSf _ h))))

theorem Lane.keepsStanding_sfLogShow (h : L.keepsStanding M) : L.keepsStanding M.sfLogShow :=
  Lane.keepsStanding_set _ (by decide) (Lane.keepsStanding_setAll _ (by simp [standingWords]) h)

theorem Lane.keepsStanding_adoptLog (m : List ChangeEntry) (h : L.keepsStanding M) : L.keepsStanding (M.adoptLog m) := by
  unfold Lane.adoptLog
  have hdiff (p : Prop) [Decidable p] : L.keepsStanding (if p then M.setb Reg.SFL_FAULT_LOG_DIFF true else M) :=
    Lane.keepsStanding_ite (Lane.keepsStanding_set _ (by decide) h) h
  exact Lane.keepsStanding_ite (hdiff _) (Lane.keepsStanding_findIf _ _ _ (Lane.keepsStanding_find _ _ (Lane.keepsStanding_sfLogShow
    (Lane.keepsStanding_onSf _ (hdiff _)))))

theorem Lane.keepsStanding_schedShow (h : L.keepsStanding M) : L.keepsStanding M.schedShow :=
  Lane.keepsStanding_set _ (by decide) (Lane.keepsStanding_set _ (by decide) h)

end

/-! ### The frame adopted (R449) -/

section

variable {L M N : Lane} (m : MirrorFrame)

/-- A field of those words reads as before. -/
theorem Lane.keepsStanding.get_eq (h : L.keepsStanding M) {f : Fld} (hf : f.addr ∈ standingWords) : M.get f = L.get f :=
  congrArg f.of (h.1 _ hf)

/-- The words of a lane's standing are as they were. -/
def Lane.keepsWords (L M : Lane) : Prop := ∀ a ∈ standingWords, M.word a = L.word a

theorem Lane.keepsWords_ite {p : Prop} [Decidable p] (hM : L.keepsWords M) (hN : L.keepsWords N) : L.keepsWords (if p then M else N) := by
  split_ifs <;> assumption

theorem Lane.keepsWords_set {f : Fld} (v : Nat) (hf : f.addr ∉ standingWords) (h : L.keepsWords M) : L.keepsWords (M.set f v) := fun a ha =>
  (M.word_set_other v (ne_of_mem_of_not_mem ha hf)).trans (h a ha)

/-- A comparison that fails is counted and reported. -/
theorem Lane.keepsWords_counted {f : Fld} (c : Bool) (p b : Nat) (hf : f.addr ∉ standingWords) (h : L.keepsWords M) :
    L.keepsWords (if c then (M.incSat f).find p b else M) :=
  Lane.keepsWords_ite (Lane.keepsWords_set (f := f) _ hf h) h

theorem Lane.keepsWords_countMismatch (d : Bool × Bool × Bool) (h : L.keepsWords M) : L.keepsWords (M.countMismatch d) := by
  unfold Lane.countMismatch
  have hcounts := Lane.keepsWords_counted (f := Reg.RED_MISMATCH_ALLOC) d.2.2 0x11 6 (by decide)
    (Lane.keepsWords_counted (f := Reg.RED_MISMATCH_CTRL) d.2.1 0x10 7 (by decide)
      (Lane.keepsWords_counted (f := Reg.RED_MISMATCH_PLOT) d.1 0x0A 7 (by decide) h))
  exact Lane.keepsWords_ite (Lane.keepsWords_set (f := Reg.RED_MISMATCH_CONSEC) _ (by decide) hcounts)
    (Lane.keepsWords_set (f := Reg.RED_MISMATCH_CONSEC) _ (by decide) hcounts)

/-- The self-test of the CAN ports writes no register. -/
theorem Lane.regs_canSelfTest (L : Lane) (x : List CanMirror) : (L.canSelfTest x).regs = L.regs := by
  unfold Lane.canSelfTest
  generalize 8 = n
  induction n with
  | zero => rfl
  | succ n ih => exact ih

/-- The comparisons of a position cycle. -/
def Lane.cycleCompared (L : Lane) : Lane :=
  if decide (L.role = 3) && m.posTick && !m.again then (L.countMismatch (L.mirrorDiffs m)).canSelfTest m.can else L

theorem Lane.keepsWords_cycleCompared (L : Lane) : L.keepsWords (L.cycleCompared m) := by
  unfold Lane.cycleCompared
  refine Lane.keepsWords_ite (fun a ha => ?_) fun _ _ => rfl
  rw [← Lane.keepsWords_countMismatch (L.mirrorDiffs m) (fun _ _ => rfl : L.keepsWords L) a ha]
  unfold Lane.word
  rw [Lane.regs_canSelfTest]

/-- Mode, pending actions, and the counts of the redundancy record. -/
def Lane.modeAdopted (L : Lane) : Lane :=
  ((L.setAll [(Reg.MODE_CUR_MODE, m.mode), (Reg.MODE_CUR_PREV, m.prev), (Reg.MODE_CUR_LATE, if m.late then 1 else 0),
    (Reg.RED_TB_HOLDOFF, m.holdoff), (Reg.RAP_EPOCH_EPOCH, m.epoch)]).condSet m.cond).onTk fun k => { k with pendMode := m.pendMode, sched := m.sched }

def Lane.countsAdopted (L : Lane) : Lane :=
  (((L.onRed fun r =>
      { r with suspTicks := m.suspTicks, tbSince := m.tbSince, awaySince := m.awaySince, noMirror := 0, missed := 0, lost := false }).onHw
    fun h => { h with mirrorMiss := 0 }).set Reg.RED_TB_SUSP_REMAIN ((m.suspTicks + 999) / 1000)).setb Reg.RED_STAT_TB_SUSPENDED
      (decide (m.suspTicks ≠ 0))

/-- PPS values, registers, intake and Plotter. -/
def Lane.estimateAdopted (L : Lane) : Lane :=
  let L := ((((L.ppsMirrored 0 m.regs).ppsMirrored 1 m.regs).adoptRegs m.regs).onNtk fun k => k.adopt m.ntk).onPlt fun p => p.adopt m.plt m.posTick
  (L.setb Reg.PLOT_STAT_ENV_VALID L.plt.own.envOk).set Reg.PLOT_STAT_STATE L.plt.own.st

def Lane.controlAdopted (L : Lane) : Lane :=
  ((L.onCtl fun _ => m.ctl).onRed fun r => { r with ctl := some m.ctl }).setb Reg.CTRL_STAT_DR_ACTIVE (decide (m.mode = 11))

/-- Allocation, outputs, chronometer, networks, RAP, safety, change log, schedule; `resync`: not a standby. -/
def Lane.sharesAdopted (L : Lane) (resync : Bool) : Lane :=
  (((((((((L.onAlc fun a => a.adopt m.alc).availShow).adoptAna m).adoptChr m).canAdopt m.cyc m.can m.alive).chFrames fun _ => false).onRap
    fun r => r.adopt m).sfAdopt m.sf resync).adoptLog m.sf.log).schedShow

/-- A frame more towards the end of stage 3. -/
def Lane.syncCounted (L : Lane) : Lane :=
  if L.get Reg.RED_RESYNC_STAGE = 3 then L.onRed fun r => { r with syncCnt := min 10 (r.syncCnt + 1) } else L

theorem Lane.adopt_eq (L : Lane) : L.adopt m =
    (((((((L.cycleCompared m).modeAdopted m).countsAdopted m).estimateAdopted m).controlAdopted m).sharesAdopted m (!decide (L.role = 3)))).syncCounted :=
  (rfl)

theorem Lane.keepsStanding_estimateAdopted (L : Lane) : L.keepsStanding (L.estimateAdopted m) :=
  Lane.keepsStanding_set _ (by decide) (Lane.keepsStanding_set _ (by decide) (Lane.keepsStanding_onPlt _ (Lane.keepsStanding_onNtk _
    (Lane.keepsStanding_adoptRegs _ (Lane.keepsStanding_ppsMirrored _ _ (Lane.keepsStanding_ppsMirrored _ _ L.keepsStanding_refl))))))

theorem Lane.keepsStanding_sharesAdopted (L : Lane) (resync : Bool) : L.keepsStanding (L.sharesAdopted m resync) :=
  Lane.keepsStanding_schedShow (Lane.keepsStanding_adoptLog _ (Lane.keepsStanding_sfAdopt _ _ (Lane.keepsStanding_onRap _ (Lane.keepsStanding_onCan _
    (Lane.keepsStanding_canAdopt _ _ _ (Lane.keepsStanding_adoptChr _ (Lane.keepsStanding_adoptAna _ (Lane.keepsStanding_availShow
      (Lane.keepsStanding_onAlc _ L.keepsStanding_refl)))))))))

/-- What the frame brings of the mode, the pending actions and the counts stands in a lane whose role is still `role`. -/
def Lane.holdsFrame (M : Lane) (role : Nat) : Prop :=
  (m.mode < 16 → M.mode = m.mode) ∧ M.role = role ∧ M.tk.pendMode = m.pendMode ∧ M.tk.sched = m.sched ∧ M.red.suspTicks = m.suspTicks ∧
  M.red.tbSince = m.tbSince ∧ M.red.lost = false ∧ M.red.noMirror = 0 ∧ M.hw.mirrorMiss = 0

theorem Lane.holdsFrame_mono {role : Nat} (hw : M.keepsWords N) (ht : N.tk = M.tk) (hh : N.hw = M.hw) (hr : N.red.suspTicks = M.red.suspTicks ∧
    N.red.tbSince = M.red.tbSince ∧ N.red.lost = M.red.lost ∧ N.red.noMirror = M.red.noMirror) (h : M.holdsFrame m role) : N.holdsFrame m role := by
  obtain ⟨hmode, hrole, hpend, hsched, hsusp, hsince, hlost, hmir, hmiss⟩ := h
  obtain ⟨rsusp, rsince, rlost, rmir⟩ := hr
  have hget (f : Fld) (hf : f.addr ∈ standingWords) : N.get f = M.get f := congrArg f.of (hw _ hf)
  exact ⟨fun hm => (hget _ (by decide)).trans (hmode hm), (hget _ (by decide)).trans hrole, by rw [ht, hpend], by rw [ht, hsched], rsusp.trans hsusp,
    rsince.trans hsince, rlost.trans hlost, rmir.trans hmir, by rw [hh, hmiss]⟩

theorem Lane.holdsFrame_keepsStanding {role : Nat} (hk : M.keepsStanding N) (h : M.holdsFrame m role) : N.holdsFrame m role := by
  obtain ⟨hw, ht, hh, -, hr⟩ := hk
  exact Lane.holdsFrame_mono m hw ht hh ⟨by rw [hr], by rw [hr], by rw [hr], by rw [hr]⟩ h

/-- The fields written with the mode, and with the mode's condition. -/
def modeFlds : List Fld := [Reg.MODE_CUR_MODE, Reg.MODE_CUR_PREV, Reg.MODE_CUR_LATE, Reg.RED_TB_HOLDOFF, Reg.RAP_EPOCH_EPOCH]
def condFlds : List Fld :=
  [Reg.MODE_COND_COND, Reg.TICK_STAT_FUSION_VALID, Reg.INT_STAT_REF_LOSS, Reg.INT_STAT_HEADING_LOSS, Reg.CTRL_STAT_SP_DEF,
    Reg.CTRL_STAT_TRACK_DEF, Reg.ALLOC_STAT_THRUSTERS]

theorem Lane.writesOnly_condSet (L : Lane) (c : Nat) : L.writesOnly (L.condSet c) condFlds :=
  Lane.writesOnly_setAll _ (by simp [condFlds]) (L.writesOnly_refl _)

/-- The values that the frame brings for the fields of the mode. -/
def modeRegs : List (Fld × Nat) :=
  [(Reg.MODE_CUR_MODE, m.mode), (Reg.MODE_CUR_PREV, m.prev), (Reg.MODE_CUR_LATE, if m.late then 1 else 0), (Reg.RED_TB_HOLDOFF, m.holdoff),
    (Reg.RAP_EPOCH_EPOCH, m.epoch)]

theorem Lane.writesOnly_modeRegs (L : Lane) : L.writesOnly (L.setAll (modeRegs m)) modeFlds :=
  Lane.writesOnly_setAll _ (by simp [modeRegs, modeFlds]) (L.writesOnly_refl _)

theorem Lane.modeAdopted_eq (L : Lane) : L.modeAdopted m =
    ((L.setAll (modeRegs m)).condSet m.cond).onTk fun k => { k with pendMode := m.pendMode, sched := m.sched } := (rfl)

/-- The mode that the frame brings, and the role as it was. -/
theorem Lane.modeAdopted_spec (L : Lane) : (m.mode < 16 → (L.modeAdopted m).mode = m.mode) ∧ (L.modeAdopted m).role = L.role := by
  have hcond (g : Fld) (hg : g.lo + g.w ≤ 32 ∧ ∀ f ∈ condFlds, g.apart f) : (L.modeAdopted m).get g = (L.setAll (modeRegs m)).get g := by
    rw [Lane.modeAdopted_eq, Lane.onTk_get, ((L.setAll (modeRegs m)).writesOnly_condSet m.cond).1.get_eq hg]
  have hset := Lane.get_setAll (modeRegs m) L (by simp [modeRegs]) (show modeFlds.Pairwise Fld.apart by decide) (Reg.MODE_CUR_MODE, m.mode)
    List.mem_cons_self
  constructor
  · intro hm
    rw [Lane.mode, hcond _ (by decide), hset]
    exact Nat.mod_eq_of_lt hm
  · rw [Lane.role, hcond _ (by decide), (L.writesOnly_modeRegs m).1.get_eq (by decide)]
    rfl

theorem Lane.modeAdopted_tk (L : Lane) : (L.modeAdopted m).tk = { L.tk with pendMode := m.pendMode, sched := m.sched } := by
  have honly := Lane.read_of_onlyRegs Lane.tk (fun _ _ _ => rfl) ((L.setAll (modeRegs m)).writesOnly_condSet m.cond).2
  rw [Lane.modeAdopted_eq, Lane.onTk_tk, honly, Lane.read_of_onlyRegs Lane.tk (fun _ _ _ => rfl) (L.writesOnly_modeRegs m).2]

theorem Lane.countsAdopted_tk (L : Lane) : (L.countsAdopted m).tk = L.tk := (rfl)

theorem Lane.countsAdopted_hw (L : Lane) : (L.countsAdopted m).hw = { L.hw with mirrorMiss := 0 } := (rfl)

theorem Lane.countsAdopted_red (L : Lane) : (L.countsAdopted m).red =
    { L.red with suspTicks := m.suspTicks, tbSince := m.tbSince, awaySince := m.awaySince, noMirror := 0, missed := 0, lost := false } := (rfl)

theorem Lane.keepsWords_countsAdopted (L : Lane) : L.keepsWords (L.countsAdopted m) :=
  Lane.keepsWords_set (f := Reg.RED_STAT_TB_SUSPENDED) _ (by decide) (Lane.keepsWords_set (f := Reg.RED_TB_SUSP_REMAIN) _ (by decide) fun _ _ => rfl)

theorem Lane.holdsFrame_countsAdopted (L : Lane) : ((L.modeAdopted m).countsAdopted m).holdsFrame m L.role := by
  obtain ⟨hmode, hrole⟩ := L.modeAdopted_spec m
  have hget (f : Fld) (hf : f.addr ∈ standingWords) : ((L.modeAdopted m).countsAdopted m).get f = (L.modeAdopted m).get f :=
    congrArg f.of ((L.modeAdopted m).keepsWords_countsAdopted m _ hf)
  unfold Lane.holdsFrame
  rw [Lane.countsAdopted_tk, Lane.modeAdopted_tk, Lane.countsAdopted_red, Lane.countsAdopted_hw]
  exact ⟨fun hm => (hget _ (by decide)).trans (hmode hm), (hget _ (by decide)).trans hrole, rfl, rfl, rfl, rfl, rfl, rfl, rfl⟩

theorem Lane.holdsFrame_controlAdopted {role : Nat} (h : M.holdsFrame m role) : (M.controlAdopted m).holdsFrame m role :=
  Lane.holdsFrame_mono m (Lane.keepsWords_set (f := Reg.CTRL_STAT_DR_ACTIVE) _ (by decide) fun _ _ => rfl) rfl rfl ⟨rfl, rfl, rfl, rfl⟩ h

theorem Lane.holdsFrame_syncCounted {role : Nat} (h : M.holdsFrame m role) : M.syncCounted.holdsFrame m role := by
  unfold Lane.syncCounted
  split
  · exact Lane.holdsFrame_mono m (fun _ _ => rfl) rfl rfl ⟨rfl, rfl, rfl, rfl⟩ h
  · exact h

theorem Lane.ctl_controlAdopted (L : Lane) : (L.controlAdopted m).ctl = m.ctl := (rfl)

theorem Lane.ctl_syncCounted (L : Lane) : L.syncCounted.ctl = L.ctl := by
  unfold Lane.syncCounted
  split <;> rfl

/-- A frame adopted: its share stands in the lane, whose role is as it was. -/
theorem Lane.adopt_spec (L : Lane) : (L.adopt m).holdsFrame m L.role ∧ (L.adopt m).ctl = m.ctl := by
  have hrole : (L.cycleCompared m).role = L.role := congrArg Reg.RED_ROLE_ROLE.of (L.keepsWords_cycleCompared m _ (by decide))
  have hcounts := (L.cycleCompared m).holdsFrame_countsAdopted m
  rw [hrole] at hcounts
  have hctl := Lane.holdsFrame_controlAdopted m (Lane.holdsFrame_keepsStanding m (Lane.keepsStanding_estimateAdopted m _) hcounts)
  have hshares := Lane.keepsStanding_sharesAdopted m
    (((((L.cycleCompared m).modeAdopted m).countsAdopted m).estimateAdopted m).controlAdopted m) (!decide (L.role = 3))
  rw [Lane.adopt_eq, Lane.ctl_syncCounted]
  refine ⟨Lane.holdsFrame_syncCounted m (Lane.holdsFrame_keepsStanding m hshares hctl), ?_⟩
  obtain ⟨-, -, -, hkeep, -⟩ := hshares
  exact hkeep.trans (Lane.ctl_controlAdopted m _)

end

/-! ### The command -/

section

variable {L : Lane} {s : State} {l : LaneId} {x0 x1 : LinkRx} {m : MirrorFrame}

/-- The copies on the links decide nothing of whether a lane mirrors, nor of its role. -/
theorem Lane.role_linkRx (L : Lane) (x0 x1 : LinkRx) : (L.linkRx x0 x1).role = L.role := (L.writesOnly_linkRx x0 x1).1.get_eq (by decide)

theorem Lane.mirrors_linkRx (L : Lane) (x0 x1 : LinkRx) : (L.linkRx x0 x1).mirrors = L.mirrors := by
  obtain ⟨hkeep, honly⟩ := L.writesOnly_linkRx x0 x1
  unfold Lane.mirrors Lane.running Lane.coasting
  rw [L.role_linkRx, Lane.read_of_onlyRegs Lane.boot (fun _ _ _ => rfl) honly]
  simp only [hkeep.get_eq (g := Reg.CLK_PLL_STATE) (by decide), hkeep.get_eq (g := Reg.RED_RESYNC_STAGE) (by decide)]

/-- An intact frame taken: adopted by a lane that mirrors, where a standby whose links were lost begins a re-synchronisation. -/
def Lane.frameTaken (L : Lane) (m : MirrorFrame) : Lane :=
  if L.mirrors then if L.red.lost && decide (L.role = 3) then (L.adopt m).resyncStart else L.adopt m
  else (L.onHw fun h => { h with mirrorMiss := 0 }).onRed fun r => { r with noMirror := 0, missed := 0 }

theorem exec_mirrorFrameReceived (ho : (s.lane l.other).mirror = some m) (hrun : (s.lane l).running = true) (hx : x0 = .intact ∨ x1 = .intact) :
    exec (.mirrorFrameReceived l x0 x1) s = onLane l (fun L => (L.linkRx x0 x1).frameTaken m) s := by
  show execMirrorFrameReceived l x0 x1 s = _
  unfold execMirrorFrameReceived
  simp only [ho, hrun, if_true, if_pos hx]
  rfl

/-- A re-synchronisation begun leaves the mode, the tick's record, control and hardware. -/
theorem Lane.resyncStart_keeps (L : Lane) : L.resyncStart.mode = L.mode ∧ L.resyncStart.tk = L.tk ∧ L.resyncStart.ctl = L.ctl ∧
    L.resyncStart.hw = L.hw := ⟨(Lane.keepsBut_resyncStart (List.Subset.refl _) (L.keepsBut_refl _)).get_eq (by decide), rfl, rfl, rfl⟩

theorem Lane.frameTaken_mirrors (hm : L.mirrors = true) :
    (m.mode < 16 → (L.frameTaken m).mode = m.mode) ∧ (L.frameTaken m).tk.pendMode = m.pendMode ∧ (L.frameTaken m).tk.sched = m.sched ∧
    (L.frameTaken m).ctl = m.ctl ∧ (L.frameTaken m).red.suspTicks = m.suspTicks ∧ (L.frameTaken m).red.tbSince = m.tbSince ∧
    (L.frameTaken m).red.lost = false ∧ (L.frameTaken m).hw.mirrorMiss = 0 ∧
    (L.red.lost = false → (L.frameTaken m).red.noMirror = 0 ∧ (L.frameTaken m).role = L.role) ∧
    (L.red.lost = true → L.role = 3 → (L.frameTaken m).role = 4) := by
  obtain ⟨⟨hmode, hrole, hpend, hsched, hsusp, hsince, hlost, hmir, hmiss⟩, hctl⟩ := L.adopt_spec m
  unfold Lane.frameTaken
  rw [if_pos hm]
  by_cases hback : (L.red.lost && decide (L.role = 3)) = true
  · rw [if_pos hback]
    obtain ⟨kmode, ktk, kctl, khw⟩ := (L.adopt m).resyncStart_keeps
    obtain ⟨hwas, -⟩ := Bool.and_eq_true_iff.1 hback
    rw [kmode, ktk, kctl, khw, Lane.resyncStart_red]
    exact ⟨hmode, hpend, hsched, hctl, hsusp, hsince, hlost, hmiss, fun h => absurd (h.symm.trans hwas) (by decide),
      fun _ _ => (L.adopt m).resyncStart_spec.1⟩
  · rw [if_neg hback]
    exact ⟨hmode, hpend, hsched, hctl, hsusp, hsince, hlost, hmiss, fun _ => ⟨hmir, hrole⟩, fun hl h3 => absurd (by simp [hl, h3]) hback⟩

theorem Lane.frameTaken_other (hm : L.mirrors = false) :
    (L.frameTaken m).hw.mirrorMiss = 0 ∧ (L.frameTaken m).ctl = L.ctl ∧ (L.frameTaken m).tk = L.tk ∧
    (L.frameTaken m).red = { L.red with noMirror := 0, missed := 0 } := by
  unfold Lane.frameTaken
  rw [hm]
  exact ⟨rfl, rfl, rfl, rfl⟩

end

/-- Settles O48: the health word, then the mirror frame in a lane that mirrors and in one that does not. -/
theorem wordsBetweenLanes : Obligations.WordsBetweenLanes := by
  unfold Obligations.WordsBetweenLanes
  intro s l x0 x1 L hrun hx
  obtain ⟨hkeep, honly⟩ := L.writesOnly_linkRx x0 x1
  have hred := Lane.read_of_onlyRegs Lane.red (fun _ _ _ => rfl) honly
  refine ⟨fun h skew hp ho hm hmode hepoch => ?_, fun m ho hmir => ?_, fun m ho hmir => ?_⟩
  · refine onLane_of_exec (exec_healthWordReceived skew hp ho hrun hx hm) ?_
    obtain ⟨hpeer, hable, hsame, hlost, hmiss⟩ := (L.linkRx x0 x1).healthTake_records h skew
    obtain ⟨sage, srole, speer, smode, sable, sarmed⟩ := Lane.peerShow_spec h ((L.linkRx x0 x1).wordHeld h) hmode
    obtain ⟨hxl0, hxl1, herr⟩ := L.linkRx_spec x0 x1
    have hword := fun g hg => (L.linkRx x0 x1).get_healthTake_word h skew (g := g) hg
    have hlink := fun g hg ht => (L.linkRx x0 x1).get_healthTake h skew (g := g) hg ht
    have hdigest : (L.linkRx x0 x1).digestAgrees h = L.digestAgrees h := by
      unfold Lane.digestAgrees
      rw [Lane.read_of_onlyRegs Lane.chart (fun _ _ _ => rfl) honly]
    have hactive : (L.linkRx x0 x1).active = L.active := by
      unfold Lane.active Lane.flag
      rw [hkeep.get_eq (by decide)]
    have hcur := (L.linkRx x0 x1).healthTake_epoch h skew hepoch
    rw [hactive, hkeep.get_eq (by decide)] at hcur
    refine ⟨hpeer, hable, hsame.trans hdigest, hlost, hmiss, (hword _ (by decide)).trans sage, (hword _ (by decide)).trans srole,
      (hword _ (by decide)).trans speer, (hword _ (by decide)).trans smode, (hword _ (by decide)).trans sable, (hword _ (by decide)).trans sarmed,
      (hlink _ (by decide) (by decide)).trans hxl0, (hlink _ (by decide) (by decide)).trans hxl1, (hlink _ (by decide) (by decide)).trans herr,
      fun hd hr h3 hw => ?_, fun hr ha => ?_, fun ha => ?_⟩
    · refine (L.linkRx x0 x1).healthTake_parts h skew (hsame.symm.trans hd) hr ((L.role_linkRx x0 x1).trans h3) ?_
      rw [Lane.read_of_onlyRegs Lane.boot (fun _ _ _ => rfl) honly]
      exact hw
    · exact hcur.trans (if_pos ⟨hr, by simpa using ha⟩)
    · exact hcur.trans (if_neg (by simpa using fun _ => ha))
  · refine onLane_of_exec (exec_mirrorFrameReceived ho hrun hx) ?_
    have htaken := Lane.frameTaken_mirrors (m := m) ((L.mirrors_linkRx x0 x1).trans hmir)
    rwa [hred, L.role_linkRx] at htaken
  · refine onLane_of_exec (exec_mirrorFrameReceived ho hrun hx) ?_
    have htaken := Lane.frameTaken_other (m := m) ((L.mirrors_linkRx x0 x1).trans hmir)
    rwa [hred, Lane.read_of_onlyRegs Lane.ctl (fun _ _ _ => rfl) honly, Lane.read_of_onlyRegs Lane.tk (fun _ _ _ => rfl) honly] at htaken

end Sys2Proof.Machine
end

section
/-! Mode requests and the outcomes they are reported with (02 R81, R83, R106, R107): what a report writes, and what it leaves. -/

namespace Sys2Proof.Machine

open Sys2Proof

/-! ### What posting a record leaves -/

section

variable {L M N : Lane} {fs : List Fld} {es : List (Nat × Nat)}

/-- A field apart from the Logbook's counts reads as before. -/
theorem Lane.logOnly.get_eq (h : L.logOnly M) {g : Fld} (hg : g.lo + g.w ≤ 32 ∧ ∀ f ∈ postFlds, g.apart f) : M.get g = L.get g :=
  h.1 g hg.1 hg.2

/-- An event of another page than the Logbook's stays found. -/
theorem Lane.logOnly.mem_found (h : L.logOnly M) {e : Found} (hp : e.page ≠ 0x5C) (he : e ∈ L.found) : e ∈ M.found := by
  have : e ∈ offLog M.found := by
    rw [h.2.1]
    exact List.mem_filter.2 ⟨he, decide_eq_true hp⟩
  exact (List.mem_filter.1 this).1

/-- What is read of a lane without its registers, events and Logbook reads the same. -/
theorem Lane.logOnly.read {α : Type} (h : L.logOnly M) (g : Lane → α)
    (hg : ∀ (N : Lane) r e q, g { N with regs := r, found := e, log := q } = g N) : g M = g L :=
  calc g M = g { M with regs := L.regs, found := L.found, log := L.log } := (hg M _ _ _).symm
    _ = g L := congrArg g h.2.2

/-- A chain of register writes, events off the Logbook and records posted, after a framed start. -/
theorem Lane.framedPost_of_framed (hes : ∀ e ∈ es, e.1 ≠ 0x5C) (h : L.framed M fs es) : L.framedPost M fs es fun N => N := by
  obtain ⟨hk, hf, ho⟩ := h
  refine ⟨fun g hg ha => hk g hg fun f hf => ha f (List.mem_append_left _ hf), ?_, ?_⟩
  · rw [hf, offLog, List.filter_append]
    congr 1
    refine List.filter_eq_self.2 fun e he => ?_
    obtain ⟨p, hp, rfl⟩ := List.mem_map.1 he
    exact decide_eq_true (hes p hp)
  · exact congrArg (fun K : Lane => K.onLog fun _ => L.log) (show { M with regs := L.regs, found := L.found } = L from ho)

theorem Lane.framedPost_set {f : Fld} (v : Nat) (hm : f ∈ fs) (hf : f.lo + f.w ≤ 32) (h : L.framedPost M fs es fun N => N) :
    L.framedPost (M.set f v) fs es fun N => N :=
  ⟨Lane.keepsBut_set v hf (List.mem_append_left _ hm) h.1, h.2.1, h.2.2⟩

theorem Lane.framedPost_logOnly (h : L.framedPost M fs es fun N => N) (hp : M.logOnly N) : L.framedPost N fs es fun N => N := by
  obtain ⟨hk, hf, ho⟩ := h
  obtain ⟨hk', hf', ho'⟩ := hp
  refine ⟨fun g hg ha => (hk' g hg fun f h => ha f (List.mem_append_right _ h)).trans (hk g hg ha), hf'.trans hf, ?_⟩
  have hN : { N with regs := M.regs, found := M.found, log := M.log } = M := ho'
  have hM : { M with regs := L.regs, found := L.found, log := L.log } = L := ho
  exact (congrArg (fun K : Lane => { K with regs := L.regs, found := L.found, log := L.log }) hN).trans hM

/-- A change of the tick's record on top of a frame. -/
theorem Lane.framedUpTo_onTk (g : TickSt → TickSt) (h : L.framed M fs es) : L.framedUpTo (M.onTk g) fs es fun N => N.onTk fun _ => L.tk := by
  obtain ⟨hk, hf, ho⟩ := h
  exact ⟨Lane.keepsBut_regs (M.onTk_regs g) hk, hf,
    congrArg (fun N : Lane => N.onTk fun _ => L.tk) (show { M with regs := L.regs, found := L.found } = L from ho)⟩

theorem Lane.framedPost_onTk (g : TickSt → TickSt) (h : L.framedPost M fs es fun N => N) :
    L.framedPost (M.onTk g) fs es fun N => N.onTk fun _ => L.tk := by
  obtain ⟨hk, hf, ho⟩ := h
  exact ⟨Lane.keepsBut_regs (M.onTk_regs g) hk, hf,
    congrArg (fun N : Lane => N.onTk fun _ => L.tk) (show { M with regs := L.regs, found := L.found, log := L.log } = L from ho)⟩

end

/-! ### The report of an action, and of a request -/

section

variable (L : Lane)

/-- An action's outcome shown. -/
def Lane.outcomeShown (a : SchedAct) (code : Nat) : Lane := L.setAll [(Reg.SCHED_STAT_OUTCOME, code), (Reg.SCHED_STAT_TAG, a.tag)]

/-- The outcome of an action is shown, and posted unless the action was accepted or executed. -/
theorem Lane.logOnly_schedOutcome (a : SchedAct) (code : Nat) : (L.outcomeShown a code).logOnly (L.schedOutcome a code) := by
  unfold Lane.schedOutcome
  split
  · exact Lane.logOnly_refl _
  · exact Lane.logOnly_post _ _ _ _

theorem Lane.schedOutcome_unposted (a : SchedAct) {code : Nat} (h : code = 0 ∨ code = 1) : L.schedOutcome a code = L.outcomeShown a code :=
  if_pos h

theorem Lane.framed_outcomeShown {K : Lane} {fs : List Fld} {es : List (Nat × Nat)} (a : SchedAct) (code : Nat)
    (ho : Reg.SCHED_STAT_OUTCOME ∈ fs) (ht : Reg.SCHED_STAT_TAG ∈ fs) (h : K.framed L fs es) : K.framed (L.outcomeShown a code) fs es :=
  Lane.framed_set (f := Reg.SCHED_STAT_TAG) _ ht (by decide) (Lane.framed_set (f := Reg.SCHED_STAT_OUTCOME) _ ho (by decide) h)

/-- What the outcome of an action leaves in SCHED_STAT. -/
theorem Lane.get_schedOutcome (a : SchedAct) {code : Nat} (hc : code < 256) :
    (L.schedOutcome a code).get Reg.SCHED_STAT_OUTCOME = code ∧ (L.schedOutcome a code).get Reg.SCHED_STAT_TAG = a.tag % 256 := by
  have hlog := L.logOnly_schedOutcome a code
  rw [hlog.get_eq (by decide), hlog.get_eq (by decide)]
  refine ⟨?_, Lane.get_set_same _ Reg.SCHED_STAT_TAG _ (by decide)⟩
  exact ((L.set Reg.SCHED_STAT_OUTCOME code).get_set_apart (f := Reg.SCHED_STAT_TAG) _ (by decide) (by decide) (by decide)).trans
    (Lane.get_set_fit _ _ (by decide) hc)

/-- The fields of MODE_RESULT. -/
def resultFlds : List Fld := [Reg.MODE_RESULT_COND_SNAP, Reg.MODE_RESULT_TAG, Reg.MODE_RESULT_CODE]

/-- The outcome of a request shown, with the event of a refusal (R83). -/
def Lane.resultShown (r : ModeReqPend) (code : Nat) : Lane :=
  (L.setAll [(Reg.MODE_RESULT_COND_SNAP, L.get Reg.MODE_COND_COND), (Reg.MODE_RESULT_TAG, r.tag), (Reg.MODE_RESULT_CODE, code)]).findIf
    (decide (code ≠ 0) && decide (code ≠ 7)) 0x02 1

theorem Lane.modeResult_unscheduled {r : ModeReqPend} (h : r.sched = none) (code : Nat) : L.modeResult r code = L.resultShown r code := by
  unfold Lane.modeResult
  rw [h]
  rfl

/-- A request that came of a scheduled action reports that action too (R106). -/
theorem Lane.modeResult_scheduled {r : ModeReqPend} {a : SchedAct} {late : Bool} (h : r.sched = some (a, late)) (code : Nat) :
    L.modeResult r code =
      (L.resultShown r code).schedOutcome a (if decide (code ≠ 0) && decide (code ≠ 7) then 7 else if late then 2 else 1) := by
  unfold Lane.modeResult
  rw [h]
  rfl

theorem Lane.framed_resultShown (r : ModeReqPend) (code : Nat) :
    L.framed (L.resultShown r code) resultFlds (if decide (code ≠ 0) && decide (code ≠ 7) then [(0x02, 1)] else []) :=
  Lane.framed_findIf _ _ _ (Lane.framed_setAll _ (by simp [resultFlds]) (L.framed_refl _))

/-- What the outcome of a request leaves in MODE_RESULT. -/
theorem Lane.get_resultShown (r : ModeReqPend) {code : Nat} (hc : code < 256) :
    (L.resultShown r code).get Reg.MODE_RESULT_CODE = code ∧ (L.resultShown r code).get Reg.MODE_RESULT_TAG = r.tag % 256 ∧
    (L.resultShown r code).get Reg.MODE_RESULT_COND_SNAP = L.get Reg.MODE_COND_COND := by
  have hset := Lane.get_setAll
    [(Reg.MODE_RESULT_COND_SNAP, L.get Reg.MODE_COND_COND), (Reg.MODE_RESULT_TAG, r.tag), (Reg.MODE_RESULT_CODE, code)] L (by simp)
    (show resultFlds.Pairwise Fld.apart by decide)
  simp only [List.forall_mem_cons] at hset
  obtain ⟨hsnap, htag, hcode, -⟩ := hset
  simp only [Lane.resultShown, Lane.findIf_get]
  exact ⟨hcode.trans (Nat.mod_eq_of_lt hc), htag, hsnap.trans (Nat.mod_eq_of_lt (L.get_lt _))⟩

/-- A refusal is an event. -/
theorem Lane.mem_found_resultShown (r : ModeReqPend) {code : Nat} (h : code ≠ 0 ∧ code ≠ 7) : L.ev 0x02 1 ∈ (L.resultShown r code).found := by
  rw [(L.framed_resultShown r code).2.1, if_pos (by simpa using h)]
  exact List.mem_append_right _ (List.mem_singleton.2 rfl)

/-- A lane reports a request's outcome. `M` shows the outcome, and nothing but reports has been made since. -/
theorem Lane.modeResult_reported (r : ModeReqPend) (code : Nat) :
    ∃ M, L.framed M (resultFlds ++ [Reg.SCHED_STAT_OUTCOME, Reg.SCHED_STAT_TAG]) (if decide (code ≠ 0) && decide (code ≠ 7) then [(0x02, 1)] else []) ∧
      M.logOnly (L.modeResult r code) ∧ ∀ f ∈ resultFlds, M.get f = (L.resultShown r code).get f := by
  have hshown : L.framed (L.resultShown r code) (resultFlds ++ [Reg.SCHED_STAT_OUTCOME, Reg.SCHED_STAT_TAG])
      (if decide (code ≠ 0) && decide (code ≠ 7) then [(0x02, 1)] else []) :=
    Lane.framed_findIf _ _ _ (Lane.framed_setAll _ (by simp [resultFlds]) (L.framed_refl _))
  cases hs : r.sched with
  | none =>
    rw [L.modeResult_unscheduled hs]
    exact ⟨_, hshown, Lane.logOnly_refl _, fun _ _ => rfl⟩
  | some q =>
    rw [L.modeResult_scheduled (a := q.1) (late := q.2) hs]
    refine ⟨_, Lane.framed_outcomeShown _ _ _ (by simp) (by simp) hshown, Lane.logOnly_schedOutcome _ _ _, ?_⟩
    have hap : ∀ f ∈ resultFlds, f.lo + f.w ≤ 32 ∧ f.apart Reg.SCHED_STAT_OUTCOME ∧ f.apart Reg.SCHED_STAT_TAG := by decide
    intro f hf
    obtain ⟨h32, hout, htag⟩ := hap f hf
    exact (Lane.get_set_apart (f := Reg.SCHED_STAT_TAG) _ _ (by decide) h32 htag).trans
      (Lane.get_set_apart (f := Reg.SCHED_STAT_OUTCOME) _ _ (by decide) h32 hout)

end

/-! ### A request made (R81, R83) -/

/-- MODE_REQ as written. -/
def Lane.reqShown (L : Lane) (mode tag : Nat) : Lane := (L.set Reg.MODE_REQ_MODE mode).set Reg.MODE_REQ_TAG tag

theorem Lane.framed_reqShown (L : Lane) (mode tag : Nat) : L.framed (L.reqShown mode tag) [Reg.MODE_REQ_MODE, Reg.MODE_REQ_TAG] [] :=
  Lane.framed_set _ (by simp) (by decide) (Lane.framed_set _ (by simp) (by decide) (L.framed_refl _))

theorem Lane.get_reqShown (L : Lane) {mode tag : Nat} (hm : mode < 16) (ht : tag < 256) :
    (L.reqShown mode tag).get Reg.MODE_REQ_MODE = mode ∧ (L.reqShown mode tag).get Reg.MODE_REQ_TAG = tag :=
  ⟨(Lane.get_set_apart _ _ (by decide) (by decide) (by decide)).trans (L.get_set_fit _ (by decide) hm), Lane.get_set_fit _ _ (by decide) ht⟩

/-- A request of a mode is taken by an active lane, refused by another. -/
theorem Lane.modeReq_eq (L : Lane) {mode tag : Nat} (hm : mode < 16) (ht : tag < 256) :
    L.modeReq mode tag = if L.active then (L.reqShown mode tag).modePend { mode := mode, tag := tag }
      else (L.reqShown mode tag).resultShown { mode := mode, tag := tag } 5 := by
  have hact : (L.reqShown mode tag).active = L.active := by
    unfold Lane.active Lane.flag
    rw [(L.framed_reqShown mode tag).1.get_eq (by decide)]
  unfold Lane.modeReq
  dsimp only
  rw [Nat.mod_eq_of_lt hm, Nat.mod_eq_of_lt ht]
  exact if_congr (by rw [← hact]; rfl) rfl (Lane.modeResult_unscheduled _ rfl 5)

theorem Lane.modePend_none {L : Lane} (h : L.tk.pendMode = none) (r : ModeReqPend) : L.modePend r = L.onTk fun k => { k with pendMode := some r } := by
  unfold Lane.modePend
  rw [h]

theorem Lane.modePend_some {L : Lane} {p : ModeReqPend} (h : L.tk.pendMode = some p) (r : ModeReqPend) :
    L.modePend r = (L.modeResult p 3).onTk fun k => { k with pendMode := some r } := by
  unfold Lane.modePend
  rw [h]

/-- Settles O9: the request is the pending one, the one it replaces is reported, and a lane that is not active reports it refused. -/
theorem modeRequest : Obligations.ModeRequest := by
  unfold Obligations.ModeRequest
  intro s l mode tag hm ht
  set L := s.lane l with hL
  have hframe := L.framed_reqShown mode tag
  obtain ⟨hmode, htag⟩ := L.get_reqShown hm ht
  refine ⟨fun hact hp => ?_, fun p hact hp => ?_, fun hact => ?_⟩
  · refine onLane_of_exec rfl ?_
    rw [← hL, L.modeReq_eq hm ht, if_pos hact, Lane.modePend_none (L := L.reqShown mode tag) hp]
    exact ⟨rfl, hmode, htag, Lane.framedUpTo_onTk _ hframe⟩
  · refine onLane_of_exec rfl ?_
    rw [← hL, L.modeReq_eq hm ht, if_pos hact, Lane.modePend_some (L := L.reqShown mode tag) hp]
    obtain ⟨M, hfr, hlog, hres⟩ := (L.reqShown mode tag).modeResult_reported p 3
    obtain ⟨hcode, hptag, hsnap⟩ := (L.reqShown mode tag).get_resultShown p (code := 3) (by decide)
    simp only [Lane.onTk_get, Lane.onTk_found]
    refine ⟨rfl, ?_, ?_, ?_, ?_, ?_⟩
    · rw [hlog.get_eq (by decide), hres _ (by decide), hcode]
    · rw [hlog.get_eq (by decide), hres _ (by decide), hptag]
    · rw [hlog.get_eq (by decide), hres _ (by decide), hsnap, hframe.1.get_eq (by decide)]
    · refine hlog.mem_found (show 2 ≠ 0x5C by decide) ?_
      rw [hfr.2.1]
      exact List.mem_append_right _ (List.mem_singleton.2 rfl)
    · rw [hlog.get_eq (by decide), hfr.1.get_eq (by decide), hframe.1.get_eq (by decide)]
  · refine onLane_of_exec rfl ?_
    rw [← hL, L.modeReq_eq hm ht, if_neg (by simp [hact])]
    obtain ⟨hcode, hptag, hsnap⟩ := (L.reqShown mode tag).get_resultShown { mode := mode, tag := tag } (code := 5) (by decide)
    refine ⟨hcode, hptag.trans (Nat.mod_eq_of_lt ht), hsnap.trans (hframe.1.get_eq (by decide)), ?_⟩
    have hreq : L.framed (L.reqShown mode tag) [Reg.MODE_REQ_MODE, Reg.MODE_REQ_TAG, Reg.MODE_RESULT_CODE, Reg.MODE_RESULT_TAG, Reg.MODE_RESULT_COND_SNAP] [] :=
      Lane.framed_set _ (by simp) (by decide) (Lane.framed_set _ (by simp) (by decide) (L.framed_refl _))
    exact Lane.framed_findIf _ _ _ (Lane.framed_setAll _ (by simp) hreq)

end Sys2Proof.Machine
end

section
/-! The queue of scheduled actions (02 R103-R108): what a submission writes, what a flush reports, what a boundary executes. -/

namespace Sys2Proof.Machine

open Sys2Proof

/-! ### The queue shown -/

theorem Lane.set_onTk (L : Lane) (f : Fld) (v : Nat) (g : TickSt → TickSt) : (L.onTk g).set f v = (L.set f v).onTk g := (rfl)

theorem Lane.outcomeShown_onTk (L : Lane) (a : SchedAct) (code : Nat) (g : TickSt → TickSt) :
    (L.onTk g).outcomeShown a code = (L.outcomeShown a code).onTk g := by
  simp only [Lane.outcomeShown, Lane.setAll_cons, Lane.setAll_nil, Lane.set_onTk]

section

variable (L : Lane)

/-- A queue of `n` actions shown. -/
def Lane.queueShown (n : Nat) : Lane := (L.set Reg.SCHED_STAT_QUEUED n).setb Reg.TICK_STAT_SCHED_FULL (decide (32 ≤ n))

theorem Lane.schedShow_eq : L.schedShow = L.queueShown L.tk.sched.length := (rfl)

theorem Lane.schedShow_onTk (g : TickSt → TickSt) : (L.onTk g).schedShow = (L.queueShown (g L.tk).sched.length).onTk g := (rfl)

theorem Lane.schedShow_tk : L.schedShow.tk = L.tk := (rfl)

theorem Lane.schedShow_found : L.schedShow.found = L.found := (rfl)

theorem Lane.framed_queueShown (n : Nat) : L.framed (L.queueShown n) [Reg.SCHED_STAT_QUEUED, Reg.TICK_STAT_SCHED_FULL] [] :=
  Lane.framed_setb _ (by simp) (by decide) (Lane.framed_set _ (by simp) (by decide) (L.framed_refl _))

theorem Lane.get_queueShown (n : Nat) : (L.queueShown n).get Reg.SCHED_STAT_QUEUED = n % 64 ∧
    (L.queueShown n).get Reg.TICK_STAT_SCHED_FULL = if 32 ≤ n then 1 else 0 := by
  refine ⟨(Lane.get_set_apart (f := Reg.TICK_STAT_SCHED_FULL) _ _ (by decide) (by decide) (by decide)).trans (L.get_set_same _ n (by decide)), ?_⟩
  rw [Lane.queueShown, Lane.get_setb _ _ _ (by decide) rfl]
  simp only [decide_eq_true_eq]

end

/-! ### A submission (R103, R106) -/

section

variable (L : Lane) (m : Bool) (tag : Nat)

/-- SCHED_CMD as written. -/
def Lane.cmdShown : Lane := (L.set Reg.SCHED_CMD_TAG tag).setb Reg.SCHED_CMD_KIND m

theorem Lane.framed_cmdShown : L.framed (L.cmdShown m tag) [Reg.SCHED_CMD_TAG, Reg.SCHED_CMD_KIND] [] :=
  Lane.framed_setb _ (by simp) (by decide) (Lane.framed_set _ (by simp) (by decide) (L.framed_refl _))

theorem Lane.stagedAct_cmdShown : (L.cmdShown m tag).stagedAct m tag = L.stagedAct m tag := by
  have hk := (L.framed_cmdShown m tag).1
  unfold Lane.stagedAct
  rw [hk.get_eq (by decide), hk.get_eq (by decide), hk.get_eq (by decide), hk.get_eq (by decide), hk.get_eq (by decide)]

/-- The refusal of a submission: the first of four in their order (log entry 16). -/
def Lane.submitCode : Option Nat :=
  if 32 ≤ L.tk.sched.length then some 4
  else if !m && !L.schedAddrOk (L.get Reg.SCHED_ADDR_ADDR) then some 6
  else if !L.timeValid then some 8
  else if (L.get Reg.SCHED_LIMIT_MS : Rat) * 1000000 < L.now - (L.stagedAct m tag).time then some 9
  else none

/-- The action taken into the queue. -/
def Lane.submitted : Lane :=
  (((L.cmdShown m tag).outcomeShown (L.stagedAct m tag) 0).queueShown (L.tk.sched.length + 1)).onTk fun k =>
    { k with sched := k.sched ++ [L.stagedAct m tag] }

/-- The action taken, as the command puts it. -/
theorem Lane.submitted_eq :
    (((L.cmdShown m tag).onTk fun k => { k with sched := k.sched ++ [L.stagedAct m tag] }).schedOutcome (L.stagedAct m tag) 0).schedShow =
      L.submitted m tag := by
  have htk : ((L.cmdShown m tag).outcomeShown (L.stagedAct m tag) 0).tk = L.tk := rfl
  rw [Lane.schedOutcome_unposted _ _ (.inl rfl), Lane.outcomeShown_onTk, Lane.schedShow_onTk, htk, List.length_append]
  rfl

/-- A submission of the active lane is refused with a code, or taken. -/
theorem Lane.schedSubmit_eq (h : L.active = true) : L.schedSubmit m tag =
    match L.submitCode m tag with
    | some code => (L.cmdShown m tag).schedOutcome (L.stagedAct m tag) code
    | none => L.submitted m tag := by
  have hk := (L.framed_cmdShown m tag).1
  have hfold : ((L.set Reg.SCHED_CMD_TAG tag).setb Reg.SCHED_CMD_KIND m) = L.cmdShown m tag := rfl
  have htv : (L.cmdShown m tag).timeValid = L.timeValid := by
    unfold Lane.timeValid Lane.flag
    rw [hk.get_eq (by decide)]
  have hnow : (L.cmdShown m tag).now = L.now := rfl
  have htk : (L.cmdShown m tag).tk = L.tk := rfl
  have hok (a : Nat) : (L.cmdShown m tag).schedAddrOk a = L.schedAddrOk a := rfl
  have haddr : (L.stagedAct m tag).addr = L.get Reg.SCHED_ADDR_ADDR := rfl
  unfold Lane.schedSubmit Lane.submitCode
  rw [if_neg (by simp [h])]
  dsimp only
  rw [hfold, L.stagedAct_cmdShown, hk.get_eq (g := Reg.SCHED_LIMIT_MS) (by decide), htv, hnow, htk, hok, haddr, L.submitted_eq]
  generalize L.stagedAct m tag = a
  split_ifs
  all_goals rfl

/-- A submission refused: its outcome shown and reported. -/
theorem Lane.submitRefused_spec {code : Nat} (hc : code < 256) (ht : tag < 256) :
    let M := (L.cmdShown m tag).schedOutcome (L.stagedAct m tag) code
    M.get Reg.SCHED_STAT_OUTCOME = code ∧ M.get Reg.SCHED_STAT_TAG = tag ∧
    L.framedPost M [Reg.SCHED_CMD_TAG, Reg.SCHED_CMD_KIND, Reg.SCHED_STAT_OUTCOME, Reg.SCHED_STAT_TAG] [] fun N => N := by
  obtain ⟨hout, htag⟩ := (L.cmdShown m tag).get_schedOutcome (L.stagedAct m tag) hc
  have hstaged : (L.stagedAct m tag).tag % 256 = tag := by
    show tag % 256 % 256 = tag
    omega
  refine ⟨hout, htag.trans hstaged, Lane.framedPost_logOnly (Lane.framedPost_of_framed (by simp) ?_) (Lane.logOnly_schedOutcome _ _ _)⟩
  exact Lane.framed_outcomeShown _ _ _ (by simp) (by simp)
    (Lane.framed_setb _ (by simp) (by decide) (Lane.framed_set _ (by simp) (by decide) (L.framed_refl _)))

/-- A submission taken: the queue one longer, its outcome ACCEPTED. -/
theorem Lane.submitted_spec (hl : L.tk.sched.length < 32) (ht : tag < 256) :
    let M := L.submitted m tag
    M.tk.sched = L.tk.sched ++ [L.stagedAct m tag] ∧ M.get Reg.SCHED_STAT_OUTCOME = 0 ∧
    M.get Reg.SCHED_STAT_TAG = tag ∧ M.get Reg.SCHED_STAT_QUEUED = L.tk.sched.length + 1 ∧
    M.get Reg.TICK_STAT_SCHED_FULL = (if L.tk.sched.length = 31 then 1 else 0) ∧
    L.framedUpTo M [Reg.SCHED_CMD_TAG, Reg.SCHED_CMD_KIND, Reg.SCHED_STAT_OUTCOME, Reg.SCHED_STAT_TAG, Reg.SCHED_STAT_QUEUED,
      Reg.TICK_STAT_SCHED_FULL] [] fun N => N.onTk fun _ => L.tk := by
  obtain ⟨hout, htag⟩ := (L.cmdShown m tag).get_schedOutcome (L.stagedAct m tag) (code := 0) (by decide)
  rw [Lane.schedOutcome_unposted _ _ (.inl rfl)] at hout htag
  have hstaged : (L.stagedAct m tag).tag % 256 = tag := by
    show tag % 256 % 256 = tag
    omega
  have hkeep := ((L.cmdShown m tag).outcomeShown (L.stagedAct m tag) 0).framed_queueShown (L.tk.sched.length + 1)
  obtain ⟨hqueued, hfull⟩ := ((L.cmdShown m tag).outcomeShown (L.stagedAct m tag) 0).get_queueShown (L.tk.sched.length + 1)
  unfold Lane.submitted
  simp only [Lane.onTk_get]
  refine ⟨rfl, ?_, ?_, ?_, ?_, Lane.framedUpTo_onTk _ ?_⟩
  · rw [hkeep.1.get_eq (by decide), hout]
  · rw [hkeep.1.get_eq (by decide), htag, hstaged]
  · rw [hqueued]
    omega
  · rw [hfull]
    exact if_congr (by omega) rfl rfl
  · exact Lane.framed_setb _ (by simp) (by decide) (Lane.framed_set _ (by simp) (by decide) (Lane.framed_outcomeShown _ _ _ (by simp) (by simp)
      (Lane.framed_setb _ (by simp) (by decide) (Lane.framed_set _ (by simp) (by decide) (L.framed_refl _)))))

end

/-! ### A flush (R108) -/

section

variable (L : Lane)

/-- Each action of a list reported FLUSHED. -/
def Lane.flushed (l : List SchedAct) : Lane := l.foldl (fun L a => L.schedOutcome a 5) L

theorem Lane.schedFlush_eq : L.schedFlush = ((L.flushed L.tk.sched).onTk fun k => { k with sched := [] }).schedShow := (rfl)

theorem Lane.framedPost_flushed {fs : List Fld} (ho : Reg.SCHED_STAT_OUTCOME ∈ fs) (ht : Reg.SCHED_STAT_TAG ∈ fs) (l : List SchedAct) :
    ∀ {M : Lane}, L.framedPost M fs [] (fun N => N) → L.framedPost (M.flushed l) fs [] fun N => N := by
  induction l with
  | nil => exact fun h => h
  | cons a l ih =>
    intro M h
    exact ih (Lane.framedPost_logOnly (Lane.framedPost_set (f := Reg.SCHED_STAT_TAG) a.tag ht (by decide)
      (Lane.framedPost_set (f := Reg.SCHED_STAT_OUTCOME) 5 ho (by decide) h)) (M.logOnly_schedOutcome a 5))

/-- After a report of FLUSHED the outcome shown stays FLUSHED. -/
theorem Lane.outcome_flushed (l : List SchedAct) : ∀ M : Lane, M.get Reg.SCHED_STAT_OUTCOME = 5 ∨ l ≠ [] → (M.flushed l).get Reg.SCHED_STAT_OUTCOME = 5 := by
  induction l with
  | nil => exact fun M h => h.resolve_right fun h => h rfl
  | cons a l ih => exact fun M _ => ih (M.schedOutcome a 5) (.inl (M.get_schedOutcome a (by decide)).1)

theorem Lane.schedFlush_spec :
    L.schedFlush.tk.sched = [] ∧ L.schedFlush.get Reg.SCHED_STAT_QUEUED = 0 ∧ L.schedFlush.get Reg.TICK_STAT_SCHED_FULL = 0 ∧
    (L.tk.sched ≠ [] → L.schedFlush.get Reg.SCHED_STAT_OUTCOME = 5) ∧
    L.framedPost L.schedFlush [Reg.SCHED_STAT_OUTCOME, Reg.SCHED_STAT_TAG, Reg.SCHED_STAT_QUEUED, Reg.TICK_STAT_SCHED_FULL] []
      fun N => N.onTk fun _ => L.tk := by
  have hkeep := (L.flushed L.tk.sched).framed_queueShown 0
  obtain ⟨hqueued, hfull⟩ := (L.flushed L.tk.sched).get_queueShown 0
  rw [L.schedFlush_eq, Lane.schedShow_onTk]
  simp only [Lane.onTk_get]
  refine ⟨rfl, hqueued, hfull, fun h => ?_, Lane.framedPost_onTk _ ?_⟩
  · exact (hkeep.1.get_eq (by decide)).trans (Lane.outcome_flushed _ _ (.inr h))
  · exact Lane.framedPost_set (f := Reg.TICK_STAT_SCHED_FULL) _ (by simp) (by decide) (Lane.framedPost_set (f := Reg.SCHED_STAT_QUEUED) _ (by simp)
      (by decide) (L.framedPost_flushed (by simp) (by simp) _ (Lane.framedPost_of_framed (by simp) (L.framed_refl _))))

end

/-! ### Actions that fall due (R104-R106) -/

section

variable {L : Lane} {a : SchedAct} {b : Rat}

/-- An earlier boundary lay at or after the action's time (R105). -/
def Lane.actLate (L : Lane) (a : SchedAct) : Bool := L.tk.prevBound.any fun p => decide (a.time ≤ p)

theorem Lane.actLate_false (h : ∀ p ∈ L.tk.prevBound, p < a.time) : L.actLate a = false := by
  unfold Lane.actLate
  cases hp : L.tk.prevBound with
  | none => rfl
  | some p => simpa using h p (by simp [hp])

theorem Lane.actLate_true {p : Rat} (hp : p ∈ L.tk.prevBound) (h : a.time ≤ p) : L.actLate a = true := by
  unfold Lane.actLate
  rw [Option.mem_def.1 hp]
  exact decide_eq_true h

/-- A scheduled write made, and what a frame fault needs to take it back. -/
def Lane.actWritten (L : Lane) (a : SchedAct) : Lane :=
  let M := (L.writeReg none a.addr (BitVec.ofNat 32 a.data)).1
  M.onTk fun k => { k with schedWrote := k.schedWrote ++ [(a.addr, L.word a.addr, M.word a.addr)],
                           schedPend := k.schedPend || decide (M.ctl.pend ≠ L.ctl.pend) }

/-- A due action: STALE past the limit where it is late; else a mode request becomes the pending one, and a write is made and reported. -/
theorem Lane.schedExec_eq : L.schedExec b a =
    if L.actLate a && decide ((L.get Reg.SCHED_LIMIT_MS : Rat) * 1000000 < b - a.time) then (L.schedOutcome a 3).find 0x02 6
    else if a.mode then (L.findIf (L.actLate a) 0x02 5).modePend { mode := a.data % 16, tag := a.tag, sched := some (a, L.actLate a) }
    else ((L.findIf (L.actLate a) 0x02 5).actWritten a).schedOutcome a (if L.actLate a then 2 else 1) := by
  unfold Lane.schedExec Lane.actLate
  cases L.tk.prevBound <;> rfl

/-- A late action past the limit is STALE: reported, and not executed. -/
theorem Lane.schedExec_stale (hl : L.actLate a = true) (hs : (L.get Reg.SCHED_LIMIT_MS : Rat) * 1000000 < b - a.time) :
    L.schedExec b a = (L.schedOutcome a 3).find 0x02 6 := by
  rw [Lane.schedExec_eq, if_pos (by simp [hl, hs])]

/-- An action that is not STALE is executed. -/
theorem Lane.schedExec_executed (h : L.actLate a = false ∨ b - a.time ≤ (L.get Reg.SCHED_LIMIT_MS : Rat) * 1000000) :
    L.schedExec b a =
      if a.mode then (L.findIf (L.actLate a) 0x02 5).modePend { mode := a.data % 16, tag := a.tag, sched := some (a, L.actLate a) }
      else ((L.findIf (L.actLate a) 0x02 5).actWritten a).schedOutcome a (if L.actLate a then 2 else 1) := by
  have hns : ¬(L.actLate a && decide ((L.get Reg.SCHED_LIMIT_MS : Rat) * 1000000 < b - a.time)) = true := by
    rcases h with h | h
    · simp [h]
    · simp [not_lt.2 h]
  rw [Lane.schedExec_eq, if_neg hns]

/-- The lane without its queue. -/
def Lane.noSched (L : Lane) : Lane := L.onTk fun k => { k with sched := [] }

theorem Lane.actLate_noSched : L.noSched.actLate a = L.actLate a := rfl

/-- A boundary at which nothing is due leaves the queue. -/
theorem Lane.schedDue_none (h : ∀ a ∈ L.tk.sched, b < a.time) : L.schedDue b = L.schedShow := by
  have hnone : L.tk.sched.filter (SchedAct.due b) = [] := List.filter_eq_nil_iff.2 fun a ha => by simp [SchedAct.due, h a ha]
  have hall : L.tk.sched.filter (fun a => !SchedAct.due b a) = L.tk.sched := List.filter_eq_self.2 fun a ha => by simp [SchedAct.due, h a ha]
  have hsame : (L.onTk fun k => { k with sched := k.sched.filter fun a => !SchedAct.due b a }) = L := by
    unfold Lane.onTk
    dsimp only
    rw [hall]
  unfold Lane.schedDue
  dsimp only
  rw [hnone, hsame]
  rfl

/-- The one action of the queue is due. -/
theorem Lane.schedDue_one (hq : L.tk.sched = [a]) (h : a.time ≤ b) : L.schedDue b = (L.noSched.schedExec b a).schedShow := by
  have hdue : SchedAct.due b a = true := decide_eq_true h
  have hgone : (L.onTk fun k => { k with sched := k.sched.filter fun a => !SchedAct.due b a }) = L.noSched := by
    unfold Lane.onTk Lane.noSched Lane.onTk
    dsimp only
    rw [hq]
    simp [hdue]
  unfold Lane.schedDue
  dsimp only
  rw [hgone, hq]
  simp [hdue]

theorem Lane.get_schedShow (L : Lane) : L.schedShow.get Reg.SCHED_STAT_QUEUED = L.tk.sched.length % 64 := (L.get_queueShown _).1

theorem Lane.get_schedShow_apart (L : Lane) {g : Fld} (hg : g.lo + g.w ≤ 32 ∧ ∀ f ∈ [Reg.SCHED_STAT_QUEUED, Reg.TICK_STAT_SCHED_FULL], g.apart f) :
    L.schedShow.get g = L.get g := (L.framed_queueShown _).1.get_eq hg

/-- A write executed at the boundary: reported with its tag. -/
theorem Lane.schedDue_write (hq : L.tk.sched = [a]) (h : a.time ≤ b) (hm : a.mode = false)
    (hs : L.actLate a = false ∨ b - a.time ≤ (L.get Reg.SCHED_LIMIT_MS : Rat) * 1000000) :
    (L.schedDue b).get Reg.SCHED_STAT_OUTCOME = (if L.actLate a then 2 else 1) ∧ (L.schedDue b).get Reg.SCHED_STAT_TAG = a.tag % 256 ∧
    (L.schedDue b).get Reg.SCHED_STAT_QUEUED = (L.schedDue b).tk.sched.length % 64 := by
  obtain ⟨hout, htag⟩ := ((L.noSched.findIf (L.actLate a) 0x02 5).actWritten a).get_schedOutcome a (code := if L.actLate a then 2 else 1)
    (by split <;> decide)
  rw [Lane.schedDue_one hq h, Lane.schedExec_executed (L := L.noSched) hs, if_neg (by simp [hm]), Lane.actLate_noSched]
  exact ⟨(Lane.get_schedShow_apart _ (by decide)).trans hout, (Lane.get_schedShow_apart _ (by decide)).trans htag, Lane.get_schedShow _⟩

/-- A mode request executed at the boundary becomes the pending one. -/
theorem Lane.schedDue_mode (hq : L.tk.sched = [a]) (h : a.time ≤ b) (hm : a.mode = true) (hp : L.tk.pendMode = none)
    (hs : L.actLate a = false ∨ b - a.time ≤ (L.get Reg.SCHED_LIMIT_MS : Rat) * 1000000) :
    (L.schedDue b).tk.pendMode = some { mode := a.data % 16, tag := a.tag, sched := some (a, L.actLate a) } ∧ (L.schedDue b).tk.sched = [] ∧
    (L.schedDue b).get Reg.SCHED_STAT_QUEUED = 0 ∧ (L.schedDue b).found = (L.findIf (L.actLate a) 0x02 5).found := by
  have htk : (L.noSched.findIf (L.actLate a) 0x02 5).tk = L.noSched.tk := by cases L.actLate a <;> rfl
  have hfound : (L.noSched.findIf (L.actLate a) 0x02 5).found = (L.findIf (L.actLate a) 0x02 5).found := by cases L.actLate a <;> rfl
  rw [Lane.schedDue_one hq h, Lane.schedExec_executed (L := L.noSched) hs, if_pos hm, Lane.actLate_noSched,
    Lane.modePend_none (by rw [htk]; exact hp), Lane.schedShow_found, Lane.schedShow_tk, Lane.get_schedShow, Lane.onTk_tk, Lane.onTk_found, htk, hfound]
  exact ⟨rfl, rfl, rfl, rfl⟩

/-- A STALE action: reported, and gone from the queue. -/
theorem Lane.schedDue_stale (hq : L.tk.sched = [a]) (h : a.time ≤ b) (hl : L.actLate a = true)
    (hs : (L.get Reg.SCHED_LIMIT_MS : Rat) * 1000000 < b - a.time) :
    (L.schedDue b).get Reg.SCHED_STAT_OUTCOME = 3 ∧ (L.schedDue b).get Reg.SCHED_STAT_TAG = a.tag % 256 ∧ (L.schedDue b).tk.sched = [] ∧
    (L.schedDue b).get Reg.SCHED_STAT_QUEUED = 0 ∧ L.ev 0x02 6 ∈ (L.schedDue b).found := by
  obtain ⟨hout, htag⟩ := L.noSched.get_schedOutcome a (code := 3) (by decide)
  have hlog := L.noSched.logOnly_schedOutcome a 3
  have htk : (L.noSched.schedOutcome a 3).tk = L.noSched.tk := hlog.read Lane.tk fun _ _ _ _ => rfl
  have hnow : (L.noSched.schedOutcome a 3).now = L.now := hlog.read Lane.now fun _ _ _ _ => rfl
  rw [Lane.schedDue_one hq h, Lane.schedExec_stale (L := L.noSched) hl hs]
  refine ⟨(Lane.get_schedShow_apart _ (by decide)).trans hout, (Lane.get_schedShow_apart _ (by decide)).trans htag, ?_, ?_, ?_⟩
  · rw [Lane.schedShow_tk, Lane.find_tk, htk]
    rfl
  · rw [Lane.get_schedShow, Lane.find_tk, htk]
    rfl
  · rw [Lane.schedShow_found, Lane.find_found, hnow]
    exact List.mem_append_right _ (List.mem_singleton.2 rfl)

end

/-! ### The commands -/

section

variable {s : State} {l : LaneId}

theorem onLane_schedActionDue {P : Lane → Lane → Prop} (h : (s.lane l).active = true) (hp : (s.lane l).tk.posTick = true)
    (hP : P (s.lane l) ((s.lane l).schedDue (s.lane l).now)) : OnLane (.schedActionDue l) l s P := by
  refine onLane_of_exec rfl ?_
  rwa [if_pos ⟨h, hp⟩]

end

/-- Settles O12: submissions by the first refusal that applies, the flush by induction on the queue, the boundary by the one action that
falls due. -/
theorem scheduledActions : Obligations.ScheduledActions := by
  unfold Obligations.ScheduledActions
  intro s l tag ht hact
  refine ⟨fun i m hi => ?_, ?_, fun hpos hnone => ?_, fun a hpos hq hat htime => ⟨fun hfresh => ⟨fun hm => ?_, fun hm hp => ?_⟩,
    fun p hp hlate => ⟨fun hlim => ⟨fun hm => ?_, fun hm hpend => ?_⟩, fun hlim => ?_⟩⟩⟩
  · have hexec : exec i s = onLane l (fun L => L.schedSubmit m tag) s := by
      simp only [List.mem_cons, List.not_mem_nil, or_false, Prod.mk.injEq] at hi
      obtain ⟨rfl, rfl⟩ | ⟨rfl, rfl⟩ := hi <;> rfl
    refine ⟨fun hlen haddr hvalid hlim => onLane_of_exec hexec ?_, fun code hcode => onLane_of_exec hexec ?_⟩
    · have hnone : (s.lane l).submitCode m tag = none := by
        unfold Lane.submitCode
        rw [if_neg (by omega), if_neg (by rcases haddr with h | h <;> simp [h]), if_neg (by simp [hvalid]), if_neg (not_lt.2 hlim)]
      rw [Lane.schedSubmit_eq _ _ _ hact, hnone]
      exact (s.lane l).submitted_spec m tag hlen ht
    · have hsome : (s.lane l).submitCode m tag = some code ∧ code < 256 := by
        unfold Lane.submitCode
        obtain ⟨hlen, rfl⟩ | ⟨hlen, rfl, haddr, rfl⟩ | ⟨hlen, haddr, hvalid, rfl⟩ | ⟨hlen, haddr, hvalid, rfl, hlim⟩ := hcode
        · rw [if_pos hlen]
          exact ⟨rfl, by decide⟩
        · rw [if_neg (by omega), if_pos (by simp [haddr])]
          exact ⟨rfl, by decide⟩
        · rw [if_neg (by omega), if_neg (by rcases haddr with h | h <;> simp [h]), if_pos (by simp [hvalid])]
          exact ⟨rfl, by decide⟩
        · rw [if_neg (by omega), if_neg (by rcases haddr with h | h <;> simp [h]), if_neg (by simp [hvalid]), if_pos hlim]
          exact ⟨rfl, by decide⟩
      rw [Lane.schedSubmit_eq _ _ _ hact, hsome.1]
      exact (s.lane l).submitRefused_spec m tag hsome.2 ht
  · refine onLane_of_exec rfl ?_
    rw [if_pos hact]
    exact (s.lane l).schedFlush_spec
  · refine onLane_schedActionDue hact hpos ?_
    rw [Lane.schedDue_none hnone]
    exact ⟨rfl, (s.lane l).get_schedShow⟩
  · have hl := Lane.actLate_false hfresh
    obtain ⟨hout, htag, hqueue⟩ := Lane.schedDue_write hq htime hm (.inl hl)
    exact onLane_schedActionDue hact hpos ⟨by rw [hout, hl]; rfl, htag.trans (Nat.mod_eq_of_lt hat), hqueue⟩
  · have hl := Lane.actLate_false hfresh
    obtain ⟨hpend, hsched, hqueue, -⟩ := Lane.schedDue_mode hq htime hm hp (.inl hl)
    exact onLane_schedActionDue hact hpos ⟨by rw [hpend, hl], hsched, hqueue⟩
  · have hl := Lane.actLate_true hp hlate
    obtain ⟨hout, htag, hqueue⟩ := Lane.schedDue_write hq htime hm (.inr hlim)
    exact onLane_schedActionDue hact hpos ⟨by rw [hout, hl]; rfl, htag.trans (Nat.mod_eq_of_lt hat), hqueue⟩
  · have hl := Lane.actLate_true hp hlate
    obtain ⟨hmode, hsched, hqueue, hfound⟩ := Lane.schedDue_mode hq htime hm hpend (.inr hlim)
    refine onLane_schedActionDue hact hpos ⟨by rw [hmode, hl], hsched, hqueue, ?_⟩
    rw [hfound, hl]
    exact List.mem_append_right _ (List.mem_singleton.2 rfl)
  · obtain ⟨hout, htag, hsched, hqueue, hev⟩ := Lane.schedDue_stale hq htime (Lane.actLate_true hp hlate) hlim
    exact onLane_schedActionDue hact hpos ⟨hout, htag.trans (Nat.mod_eq_of_lt hat), hsched, hqueue, hev⟩

end Sys2Proof.Machine
end

section
/-! The evaluation of a mode request at a position-cycle boundary (02 R82-R84; 12 R461): the outcome reported, and the transition made. -/

namespace Sys2Proof.Machine

open Sys2Proof

/-! ### Operations off the tick's page -/

/-- Page 0x02 and the tick's record stand, and no event is lost. -/
def Lane.keepsTickPage (L M : Lane) : Prop := (∀ f : Fld, f.addr / 0x400 = 2 → M.get f = L.get f) ∧ M.tk = L.tk ∧ L.found ⊆ M.found

section

variable {L M N : Lane}

theorem Lane.keepsTickPage_refl (L : Lane) : L.keepsTickPage L := ⟨fun _ _ => rfl, rfl, List.Subset.refl _⟩

theorem Lane.keepsTickPage_ite {p : Prop} [Decidable p] (hM : L.keepsTickPage M) (hN : L.keepsTickPage N) :
    L.keepsTickPage (if p then M else N) := by split_ifs <;> assumption

theorem Lane.keepsTickPage_set {f : Fld} (v : Nat) (hf : f.addr / 0x400 ≠ 2) (h : L.keepsTickPage M) : L.keepsTickPage (M.set f v) :=
  ⟨fun g hg => (M.get_set_addr v fun e => hf (e ▸ hg)).trans (h.1 g hg), h.2⟩

theorem Lane.keepsTickPage_setAll (r : List (Fld × Nat)) : ∀ {M : Lane}, (∀ p ∈ r, p.1.addr / 0x400 ≠ 2) → L.keepsTickPage M →
    L.keepsTickPage (M.setAll r) := by
  induction r with
  | nil => exact fun _ h => h
  | cons p r ih =>
    intro M hr h
    obtain ⟨hp, hr⟩ := List.forall_mem_cons.1 hr
    exact ih hr (Lane.keepsTickPage_set p.2 hp h)

theorem Lane.keepsTickPage_find (p b : Nat) (h : L.keepsTickPage M) : L.keepsTickPage (M.find p b) :=
  ⟨h.1, h.2.1, fun _ he => List.mem_append_left _ (h.2.2 he)⟩

theorem Lane.keepsTickPage_onCtl (g : CtlSt → CtlSt) (h : L.keepsTickPage M) : L.keepsTickPage (M.onCtl g) := h
theorem Lane.keepsTickPage_onAlc (g : AllocSt → AllocSt) (h : L.keepsTickPage M) : L.keepsTickPage (M.onAlc g) := h

theorem Lane.keepsTickPage_ctlStat (h : L.keepsTickPage M) : L.keepsTickPage M.ctlStat := by
  unfold Lane.ctlStat
  exact Lane.keepsTickPage_setAll _ (by simp) h

theorem Lane.keepsTickPage_sessionShow (h : L.keepsTickPage M) : L.keepsTickPage M.sessionShow := by
  unfold Lane.sessionShow
  split <;> exact Lane.keepsTickPage_setAll _ (by simp) h

theorem Lane.keepsTickPage_sessionEnd (h : L.keepsTickPage M) : L.keepsTickPage M.sessionEnd := by
  unfold Lane.sessionEnd
  split
  · exact Lane.keepsTickPage_find _ _ (Lane.keepsTickPage_sessionShow h)
  · exact h

theorem Lane.keepsTickPage_ftRamp (n e vn ve : Rat) (h : L.keepsTickPage M) : L.keepsTickPage (M.ftRamp n e vn ve) := by
  unfold Lane.ftRamp
  split
  · exact Lane.keepsTickPage_onCtl _ h
  · exact h

/-- The ramps change the control's record alone. -/
theorem Lane.keepsTickPage_posEntry (f : HState) (fm dm dest : Nat) (h : L.keepsTickPage M) : L.keepsTickPage (M.posEntry f fm dm dest) := by
  unfold Lane.posEntry
  dsimp only
  split_ifs
  · exact h
  · exact Lane.keepsTickPage_onCtl _ (Lane.keepsTickPage_onCtl _ h)
  · exact Lane.keepsTickPage_onCtl _ h
  · exact Lane.keepsTickPage_ftRamp _ _ _ _ h
  · exact Lane.keepsTickPage_ftRamp _ _ _ _ h
  · exact Lane.keepsTickPage_onCtl _ h
  · exact h
  · exact Lane.keepsTickPage_onCtl _ h

theorem Lane.keepsTickPage_rampEntry (frm dest : Nat) (h : L.keepsTickPage M) : L.keepsTickPage (M.rampEntry frm dest) :=
  Lane.keepsTickPage_onCtl _ (Lane.keepsTickPage_posEntry _ _ _ _ (Lane.keepsTickPage_onCtl _ h))

end

/-! ### The transition made -/

section

variable (L : Lane)

/-- A transition shown in MODE_CUR. -/
def Lane.modeShown (dest : Nat) (late : Bool) : Lane :=
  L.setAll [(Reg.MODE_CUR_PREV, L.mode), (Reg.MODE_CUR_MODE, dest), (Reg.MODE_CUR_LATE, if late then 1 else 0)]

/-- The old mode left. -/
def Lane.modeLeft (dest : Nat) (late : Bool) : Lane := ((L.modeShown dest late).onTk fun k => { k with lateMode := false }).find 0x02 0

theorem Lane.modeGoto_keeps (dest : Nat) (late : Bool) : (L.modeLeft dest late).keepsTickPage (L.modeGoto dest late) := by
  unfold Lane.modeGoto
  extract_lets f M0 M1 M2 M3
  have hleft : L.modeLeft dest late = M1 := rfl
  rw [hleft]
  clear_value M1
  have hentered : M1.keepsTickPage M2 :=
    Lane.keepsTickPage_ctlStat (Lane.keepsTickPage_onCtl _ (Lane.keepsTickPage_rampEntry _ _ M1.keepsTickPage_refl))
  clear_value M2
  have hwarmed : M1.keepsTickPage M3 := Lane.keepsTickPage_ite (Lane.keepsTickPage_onAlc _ hentered) hentered
  clear_value M3
  exact Lane.keepsTickPage_ite hwarmed (Lane.keepsTickPage_sessionEnd hwarmed)

theorem Lane.get_modeLeft (dest : Nat) (late : Bool) (f : Fld) : (L.modeLeft dest late).get f = (L.modeShown dest late).get f := by
  rw [Lane.modeLeft, Lane.find_get, Lane.onTk_get]

theorem Lane.tk_modeLeft (dest : Nat) (late : Bool) : (L.modeLeft dest late).tk = { L.tk with lateMode := false } := by
  rw [Lane.modeLeft, Lane.find_tk, Lane.onTk_tk]
  rfl

theorem Lane.ev_mem_modeLeft (dest : Nat) (late : Bool) : L.ev 0x02 0 ∈ (L.modeLeft dest late).found := by
  rw [Lane.modeLeft, Lane.find_found]
  exact List.mem_append_right _ (List.mem_singleton.2 rfl)

/-- The fields of a transition. -/
def shownFlds : List Fld := [Reg.MODE_CUR_PREV, Reg.MODE_CUR_MODE, Reg.MODE_CUR_LATE]

theorem Lane.keepsBut_modeShown (dest : Nat) (late : Bool) : L.keepsBut (L.modeShown dest late) shownFlds :=
  (Lane.framed_setAll _ (by simp [shownFlds]) (L.framed_refl _)).1

theorem Lane.get_modeShown {dest : Nat} (hd : dest < 16) (late : Bool) :
    (L.modeShown dest late).get Reg.MODE_CUR_MODE = dest ∧ (L.modeShown dest late).get Reg.MODE_CUR_PREV = L.mode := by
  have hset := Lane.get_setAll [(Reg.MODE_CUR_PREV, L.mode), (Reg.MODE_CUR_MODE, dest), (Reg.MODE_CUR_LATE, if late then 1 else 0)] L (by simp)
    (show shownFlds.Pairwise Fld.apart by decide)
  simp only [List.forall_mem_cons] at hset
  obtain ⟨hprev, hmode, -, -⟩ := hset
  exact ⟨hmode.trans (Nat.mod_eq_of_lt hd), hprev.trans (Nat.mod_eq_of_lt (L.get_lt Reg.MODE_CUR_MODE))⟩

/-- A transition to another mode than 2: shown with the mode it left, an event, and nothing else of page 0x02. -/
theorem Lane.modeGoto_spec {dest : Nat} (hd : dest < 16) (late : Bool) :
    (L.modeGoto dest late).mode = dest ∧ (L.modeGoto dest late).get Reg.MODE_CUR_PREV = L.mode ∧
    L.ev 0x02 0 ∈ (L.modeGoto dest late).found ∧ (L.modeGoto dest late).tk = { L.tk with lateMode := false } ∧
    ∀ f ∈ resultFlds, (L.modeGoto dest late).get f = L.get f := by
  obtain ⟨hget, htk, hfound⟩ := L.modeGoto_keeps dest late
  obtain ⟨hmode, hprev⟩ := L.get_modeShown hd late
  have hread (f : Fld) (hf : f.addr / 0x400 = 2) : (L.modeGoto dest late).get f = (L.modeShown dest late).get f :=
    (hget f hf).trans (L.get_modeLeft dest late f)
  have hap : ∀ f ∈ resultFlds, f.addr / 0x400 = 2 ∧ f.lo + f.w ≤ 32 ∧ ∀ g ∈ shownFlds, f.apart g := by decide
  refine ⟨(hread _ (by decide)).trans hmode, (hread _ (by decide)).trans hprev, hfound (L.ev_mem_modeLeft dest late),
    htk.trans (L.tk_modeLeft dest late), fun f hf => ?_⟩
  obtain ⟨hpage, hfit⟩ := hap f hf
  exact (hread f hpage).trans ((L.keepsBut_modeShown dest late).get_eq hfit)

/-- A transition to mode 2 waits for the commit, or, beside an able standby, for a handover (12 R461). -/
theorem Lane.toLubber_spec (late : Bool) : (∀ f, (L.toLubber late).get f = L.get f) ∧ (L.toLubber late).tk.pendMode = L.tk.pendMode ∧
    (L.red.peerAble = false → (L.toLubber late).tk.goLubber = some late) ∧
    (L.red.peerAble = true → (L.toLubber late).tk.lubberAfter = true ∧ (L.toLubber late).red.plan.isSome = true ∧
      (L.toLubber late).tk.goLubber = L.tk.goLubber) := by
  unfold Lane.toLubber Lane.planHandover
  cases hable : L.red.peerAble with
  | false => exact ⟨fun _ => rfl, rfl, fun _ => rfl, fun h => absurd h (by decide)⟩
  | true =>
    cases hplan : L.red.plan.isSome with
    | false => exact ⟨fun _ => rfl, rfl, fun h => absurd h (by decide), fun _ => ⟨rfl, rfl, rfl⟩⟩
    | true => exact ⟨fun _ => rfl, rfl, fun h => absurd h (by decide), fun _ => ⟨rfl, hplan, rfl⟩⟩

end

/-! ### The evaluation -/

section

variable {L : Lane} {r : ModeReqPend}

/-- An automatic transition leads to one of the twelve modes. -/
theorem Lane.autoMode_lt {t : Nat} (h : L.autoMode = some t) : t < 12 := by
  have hfold (p : Nat → Nat → Prop) [∀ t u, Decidable (p t u)] (l : List Nat) : ∀ b : Option Nat, (∀ u ∈ b, u < 12) → (∀ u ∈ l, u < 12) →
      ∀ u ∈ l.foldl (fun (b : Option Nat) t => match b with | none => some t | some u => if p t u then some t else some u) b, u < 12 := by
    induction l with
    | nil => exact fun b hb _ => hb
    | cons x l ih =>
      intro b hb hl
      obtain ⟨hx, hl⟩ := List.forall_mem_cons.1 hl
      refine ih _ ?_ hl
      cases b with
      | none => simpa using hx
      | some u =>
        dsimp only
        split_ifs
        · simpa using hx
        · exact hb
  exact hfold (fun t u => (L.chart.now.modes.entry L.mode t).priority < (L.chart.now.modes.entry L.mode u).priority) _ none (by simp)
    (fun u hu => List.mem_range.1 (List.mem_filter.1 hu).1) t h

/-- The outcome of a request of another mode that the table permits. -/
theorem Lane.requestCode_permitted {m : Nat} (h2 : 2 ≤ m) (h11 : m ≤ 11) (hne : m ≠ L.mode)
    (hper : (L.chart.now.modes.entry L.mode m).host = true ∨ (L.chart.now.modes.entry L.mode m).auto = true) :
    L.requestCode m = if L.coasting ∧ m ≠ 2 ∧ m ≠ 4 then 6
      else if !holdsAll (L.chart.now.modes.entry L.mode m).require (L.get Reg.MODE_COND_COND) then 2 else 0 := by
  unfold Lane.requestCode
  dsimp only
  rw [if_neg hne, if_neg (by rcases hper with h | h <;> simp [h] <;> omega)]

/-- The lane with no request pending. -/
def Lane.noRequest (L : Lane) : Lane := L.onTk fun k => { k with pendMode := none, lateMode := false }

/-- An evaluation with a request pending: an automatic transition, or the request's outcome and, if it is accepted, its transition. -/
theorem Lane.modeEval_request (hact : L.active = true) (hmode : 3 ≤ L.mode) (hgo : L.tk.goLubber = none) (hp : L.tk.pendMode = some r)
    (hs : r.sched = none) :
    (∀ t, L.autoMode = some t → L.modeEval = (L.noRequest.resultShown r 4).transit t L.tk.lateMode) ∧
    (L.autoMode = none → L.modeEval = if L.requestCode r.mode = 0 then (L.noRequest.resultShown r 0).transit r.mode L.tk.lateMode
      else L.noRequest.resultShown r (L.requestCode r.mode)) := by
  have hres := fun code => L.noRequest.modeResult_unscheduled hs code
  have hauto : L.noRequest.autoMode = L.autoMode := rfl
  have hcode (m : Nat) : L.noRequest.requestCode m = L.requestCode m := rfl
  have hbegin : ¬((!L.active) = true ∨ L.mode < 3 ∨ L.tk.goLubber.isSome = true) := by simp [hact, hgo]; omega
  unfold Lane.modeEval
  rw [if_neg hbegin]
  dsimp only
  rw [← Lane.noRequest, hauto, hp]
  dsimp only
  rw [hcode, hres, hres]
  constructor
  · intro t ht
    rw [ht]
  · intro hn
    rw [hn]
    by_cases h0 : L.requestCode r.mode = 0
    · rw [h0]
    · rw [if_neg h0, if_neg h0]

/-- The lane with the outcome of its request: no request pends, and it is in the mode it was in. -/
theorem Lane.outcome_spec (L : Lane) (r : ModeReqPend) {code : Nat} (hc : code < 256) :
    let N := L.noRequest.resultShown r code
    N.get Reg.MODE_RESULT_CODE = code ∧ N.get Reg.MODE_RESULT_TAG = r.tag % 256 ∧ N.mode = L.mode ∧
    N.tk = { L.tk with pendMode := none, lateMode := false } ∧ N.red = L.red ∧ (∀ p b, N.ev p b = L.ev p b) := by
  obtain ⟨hkeep, -, honly⟩ := L.noRequest.framed_resultShown r code
  obtain ⟨hcode, htag, -⟩ := L.noRequest.get_resultShown r hc
  refine ⟨hcode, htag, hkeep.get_eq (by decide), ?_, ?_, fun p b => ?_⟩
  · exact Lane.read_of_onlyRegs Lane.tk (fun _ _ _ => rfl) honly
  · exact (Lane.read_of_onlyRegs Lane.red (fun _ _ _ => rfl) honly).trans (L.onTk_red _)
  · rw [Lane.ev, Lane.now_of_onlyRegs honly]
    rfl

/-- A transition after an outcome: the outcome stands, no request pends. -/
theorem Lane.transit_outcome (L : Lane) (r : ModeReqPend) {code dest : Nat} (hc : code < 256) (hd : dest < 16) (late : Bool) :
    let M := (L.noRequest.resultShown r code).transit dest late
    M.get Reg.MODE_RESULT_CODE = code ∧ M.get Reg.MODE_RESULT_TAG = r.tag % 256 ∧ M.tk.pendMode = none ∧
    (dest ≠ 2 → M.mode = dest ∧ M.get Reg.MODE_CUR_PREV = L.mode ∧ L.ev 0x02 0 ∈ M.found) ∧
    (dest = 2 → M.mode = L.mode ∧ (L.red.peerAble = false → M.tk.goLubber = some late) ∧
      (L.red.peerAble = true → M.tk.lubberAfter = true ∧ M.red.plan.isSome = true ∧ M.tk.goLubber = L.tk.goLubber)) := by
  obtain ⟨hcode, htag, hmode, htk, hred, hev⟩ := L.outcome_spec r hc
  by_cases h2 : dest = 2
  · obtain ⟨hget, hpend, hgo, hplan⟩ := (L.noRequest.resultShown r code).toLubber_spec late
    rw [hred, htk] at hplan
    rw [hred] at hgo
    unfold Lane.transit
    dsimp only
    rw [if_pos h2, hget, hget, hpend, htk]
    exact ⟨hcode, htag, rfl, fun h => absurd h2 h, fun _ => ⟨(hget _).trans hmode, hgo, hplan⟩⟩
  · obtain ⟨gmode, gprev, gev, gtk, gres⟩ := (L.noRequest.resultShown r code).modeGoto_spec hd late
    unfold Lane.transit
    dsimp only
    rw [if_neg h2, gres _ (by decide), gres _ (by decide), gtk, htk]
    exact ⟨hcode, htag, rfl, fun _ => ⟨gmode, gprev.trans hmode, hev 2 0 ▸ gev⟩, fun h => absurd h h2⟩

/-- A request refused: its code, its event, the mode as it was, no request pending. -/
theorem Lane.modeEval_refused (hact : L.active = true) (hmode : 3 ≤ L.mode) (hgo : L.tk.goLubber = none) (hp : L.tk.pendMode = some r)
    (hs : r.sched = none) (ha : L.autoMode = none) {code : Nat} (hcode : L.requestCode r.mode = code) (h0 : code ≠ 0) (hc : code < 256) :
    L.modeEval.get Reg.MODE_RESULT_CODE = code ∧ L.modeEval.mode = L.mode ∧ (code ≠ 7 → L.ev 0x02 1 ∈ L.modeEval.found) := by
  obtain ⟨rcode, -, rmode, -, -, rev⟩ := L.outcome_spec r hc
  rw [(Lane.modeEval_request hact hmode hgo hp hs).2 ha, hcode, if_neg h0]
  exact ⟨rcode, rmode, fun h7 => L.noRequest.mem_found_resultShown r ⟨h0, h7⟩⟩

end

/-- Settles O10: the four refusals in their order, and the transitions made, each read off the lane that `Lane.modeEval_request` names. -/
theorem modeEvaluation : Obligations.ModeEvaluation := by
  unfold Obligations.ModeEvaluation
  intro permits clocked met L r hact hmode hgo hp hrm hrt hs
  have hrefused := fun ha code h h0 hc => Lane.modeEval_refused hact hmode hgo hp hs ha (code := code) h h0 hc
  obtain ⟨hauto, hreq⟩ := Lane.modeEval_request hact hmode hgo hp hs
  have htag : r.tag % 256 = r.tag := Nat.mod_eq_of_lt hrt
  have hcode0 : permits L r.mode → clocked L r.mode → met L r.mode = true → L.requestCode r.mode = 0 := by
    rintro ⟨h2, h11, hne, hper⟩ hck hmet
    rw [Lane.requestCode_permitted h2 h11 hne hper, if_neg (by rcases hck with h | h | h <;> simp [h]), if_neg (by simpa using hmet)]
  have haccept (ha : L.autoMode = none) (h0 : L.requestCode r.mode = 0) :
      L.modeEval = (L.noRequest.resultShown r 0).transit r.mode L.tk.lateMode := by rw [hreq ha, if_pos h0]
  refine ⟨fun ha hsame => ?_, fun ha hne hnot => ?_, fun ha hper hck => ?_, fun ha hper hck hmet => ?_, fun ha hper hck hmet => ?_,
    fun t ht h2 => ?_, fun ht => ?_, fun h => ?_, ?_⟩
  · have hcode : L.requestCode r.mode = 7 := if_pos hsame
    obtain ⟨h1, h2, -⟩ := hrefused ha 7 hcode (by decide) (by decide)
    exact ⟨h1, h2⟩
  · have hcode : L.requestCode r.mode = 1 := by
      unfold Lane.requestCode
      dsimp only
      rw [if_neg hne, if_pos (by simpa using hnot)]
    obtain ⟨h1, h2, h3⟩ := hrefused ha 1 hcode (by decide) (by decide)
    exact ⟨h1, h2, h3 (by decide)⟩
  · obtain ⟨hlo, hhi, hne, hper⟩ := hper
    have hck' : L.coasting = true ∧ r.mode ≠ 2 ∧ r.mode ≠ 4 := by simpa [clocked, not_or] using hck
    have hcode : L.requestCode r.mode = 6 := by rw [Lane.requestCode_permitted hlo hhi hne hper, if_pos hck']
    obtain ⟨h1, h2, h3⟩ := hrefused ha 6 hcode (by decide) (by decide)
    exact ⟨h1, h2, h3 (by decide)⟩
  · obtain ⟨hlo, hhi, hne, hper⟩ := hper
    have hcode : L.requestCode r.mode = 2 := by
      rw [Lane.requestCode_permitted hlo hhi hne hper, if_neg (by rcases hck with h | h | h <;> simp [h]), if_pos (by simpa using hmet)]
    obtain ⟨h1, h2, h3⟩ := hrefused ha 2 hcode (by decide) (by decide)
    exact ⟨h1, h2, h3 (by decide)⟩
  · obtain ⟨h1, h2, -, h4, -⟩ := L.transit_outcome r (code := 0) (by decide) hrm L.tk.lateMode
    rw [haccept ha (hcode0 hper hck hmet)]
    exact ⟨h1, h2.trans htag, h4⟩
  · obtain ⟨h1, h2', -, h4, -⟩ := L.transit_outcome r (code := 4) (dest := t) (by decide) (lt_trans (Lane.autoMode_lt ht) (by decide)) L.tk.lateMode
    rw [hauto t ht]
    obtain ⟨hm, hprev, -⟩ := h4 h2
    exact ⟨h1, h2'.trans htag, hm, hprev⟩
  · obtain ⟨h1, -⟩ := L.transit_outcome r (code := 4) (dest := 2) (by decide) (by decide) L.tk.lateMode
    rwa [hauto 2 ht]
  · obtain ⟨code, hc, heval⟩ : ∃ code, code < 256 ∧ L.modeEval = (L.noRequest.resultShown r code).transit 2 L.tk.lateMode := by
      rcases h with ht | ⟨ha, hr2, hper, hmet⟩
      · exact ⟨4, by decide, hauto 2 ht⟩
      · exact ⟨0, by decide, by rw [haccept ha (hcode0 (hr2 ▸ hper) (.inr (.inl hr2)) (hr2 ▸ hmet)), hr2]⟩
    obtain ⟨-, -, -, -, hlub⟩ := L.transit_outcome r (dest := 2) hc (by decide) L.tk.lateMode
    rw [heval, ← hgo]
    exact hlub rfl
  · cases ha : L.autoMode with
    | some t =>
      obtain ⟨-, -, hpend, -⟩ := L.transit_outcome r (code := 4) (by decide) (lt_trans (Lane.autoMode_lt ha) (by decide)) L.tk.lateMode
      rwa [hauto t ha]
    | none =>
      by_cases h0 : L.requestCode r.mode = 0
      · obtain ⟨-, -, hpend, -⟩ := L.transit_outcome r (code := 0) (by decide) hrm L.tk.lateMode
        rwa [haccept ha h0]
      · rw [hreq ha, if_neg h0]
        have hlt : L.requestCode r.mode < 256 := by
          unfold Lane.requestCode
          dsimp only
          split_ifs <;> decide
        obtain ⟨-, -, -, htk, -⟩ := L.outcome_spec r hlt
        rw [htk]

end Sys2Proof.Machine
end

section
/-! The grid (02 R63, R64, R66, R67, R110): a tick start's number, count, time and multiples. -/

namespace Sys2Proof.Machine

open Sys2Proof

/-! ### A tick numbered -/

section

variable {L M N : Lane} {n : Nat}

/-- The fields of the grid, but the mark of a stretched tick. -/
def gridFlds : List Fld := [Reg.TICK_POS_TICK, Reg.TICK_CNT_COUNT, Reg.TICK_POS_REALIGN, Reg.TICK_STAT_REALIGN]

/-- The lane's tick has the number `n`, with the multiples that follow from it (R64); the boundaries noted, the events and all fields
off the grid are those of `L`. -/
def Lane.numberedAs (L M : Lane) (n : Nat) : Prop :=
  M.get Reg.TICK_POS_TICK = n ∧ (M.tk.posTick = true ↔ n % 10 = 0) ∧ (M.tk.epochTick = true ↔ n % 50 = 0) ∧ (M.tk.secTick = true ↔ n = 0) ∧
  M.tk.bound = L.tk.bound ∧ M.tk.prevBound = L.tk.prevBound ∧ M.tk.count = L.tk.count ∧ L.keepsBut M gridFlds ∧ M.found = L.found

theorem Lane.tickNumber_tk (L : Lane) (n : Nat) :
    (L.tickNumber n).tk = { L.tk with posTick := decide (n % 10 = 0), epochTick := decide (n % 50 = 0), secTick := decide (n = 0) } := (rfl)

theorem Lane.tickNumber_get (L : Lane) (n : Nat) (f : Fld) : (L.tickNumber n).get f = (L.set Reg.TICK_POS_TICK n).get f := (rfl)

theorem Lane.keepsBut_tickNumber (n : Nat) (h : L.keepsBut M gridFlds) : L.keepsBut (M.tickNumber n) gridFlds :=
  Lane.keepsBut_regs (Lane.onTk_regs _ _) (Lane.keepsBut_set _ (by decide) (by simp [gridFlds]) h)

/-- A tick numbered, whatever of the grid was written before. -/
theorem Lane.numberedAs_tickNumber (hn : n < 1024) (hk : L.keepsBut M gridFlds) (hf : M.found = L.found) (hb : M.tk.bound = L.tk.bound)
    (hp : M.tk.prevBound = L.tk.prevBound) (hc : M.tk.count = L.tk.count) : L.numberedAs (M.tickNumber n) n := by
  refine ⟨?_, ?_, ?_, ?_, hb, hp, hc, Lane.keepsBut_tickNumber n hk, hf⟩
  · rw [Lane.tickNumber_get]
    exact M.get_set_fit _ (by decide) hn
  all_goals
    rw [Lane.tickNumber_tk]
    exact decide_eq_true_iff

/-- The records that the end of a realignment leaves. -/
theorem Lane.renumber_records (h : L.tk.realigning = true) (h0 : L.tk.realign = 0) :
    L.renumber.tk = { L.tk with realigning := false, posTick := decide (nsOf L.now / 1000000 % 10 = 0),
                                epochTick := decide (nsOf L.now / 1000000 % 50 = 0), secTick := decide (nsOf L.now / 1000000 = 0) } ∧
    L.renumber.chr = L.chr := by
  rw [L.renumber_eq h h0]
  split
  · exact ⟨rfl, rfl⟩
  · exact ⟨rfl, rfl⟩

/-- A tick numbered by the end of a realignment. -/
theorem Lane.numberedAs_renumber (h : M.tk.realigning = true) (h0 : M.tk.realign = 0) (hk : L.keepsBut M gridFlds) (hf : M.found = L.found)
    (hb : M.tk.bound = L.tk.bound) (hp : M.tk.prevBound = L.tk.prevBound) (hc : M.tk.count = L.tk.count) :
    L.numberedAs M.renumber (nsOf M.now / 1000000) := by
  obtain ⟨hnum, -, -, -, -, hkeep, hfound⟩ := M.renumbersTo_renumber h h0
  obtain ⟨htk, -⟩ := Lane.renumber_records h h0
  unfold Lane.numberedAs
  rw [htk]
  refine ⟨hnum, decide_eq_true_iff, decide_eq_true_iff, decide_eq_true_iff, hb, hp, hc, fun g hg ha => ?_, hfound.trans hf⟩
  exact (hkeep g hg fun f h => ha f (by simp [gridFlds] at h ⊢; tauto)).trans (hk g hg ha)

/-- A realignment that has time left to add goes on. -/
theorem Lane.renumber_goesOn (h : M.tk.realign ≠ 0) : M.renumber = M := by
  unfold Lane.renumber
  rw [if_neg (by simp [h])]

end

/-! ### The tick on the chronometer (R63, R67) -/

section

variable (L : Lane) (slack : Rat)

/-- The lane with the tick's length on the chronometer, counted. -/
def Lane.tickCounted : Lane :=
  ((L.onChr fun c => { c with ns := c.ns + 1000000 + slack }).incWrap Reg.TICK_CNT_COUNT).onTk fun k => { k with realign := k.realign - slack }

theorem Lane.tickOn_eq : L.tickOn slack =
    if L.tk.realigning then ((L.tickCounted slack).tickNumber ((L.get Reg.TICK_POS_TICK + 1) % 1000)).renumber
    else (L.tickCounted slack).tickNumber (nsOf (L.tickCounted slack).now / 1000000) := by
  have hpos : (L.tickCounted slack).get Reg.TICK_POS_TICK = L.get Reg.TICK_POS_TICK :=
    (L.onChr fun c => { c with ns := c.ns + 1000000 + slack }).get_set_addr _ (by decide)
  unfold Lane.tickOn
  dsimp only
  rw [← Lane.tickCounted, hpos]
  rfl

theorem Lane.keepsBut_tickCounted : L.keepsBut (L.tickCounted slack) gridFlds := by
  have hset : L.keepsBut (L.set Reg.TICK_CNT_COUNT (L.get Reg.TICK_CNT_COUNT + 1)) gridFlds :=
    Lane.keepsBut_set _ (by decide) (by simp [gridFlds]) (L.keepsBut_refl _)
  exact Lane.keepsBut_regs (show (L.tickCounted slack).regs = (L.set Reg.TICK_CNT_COUNT (L.get Reg.TICK_CNT_COUNT + 1)).regs from rfl) hset

theorem Lane.tickCounted_count : (L.tickCounted slack).get Reg.TICK_CNT_COUNT = (L.get Reg.TICK_CNT_COUNT + 1) % 2 ^ 32 :=
  (L.onChr fun c => { c with ns := c.ns + 1000000 + slack }).get_set_same _ _ (by decide)

/-- What a tick's end leaves in the lane numbered `n`: its count and its time. -/
def Lane.tickedTo (M : Lane) (n : Nat) : Prop :=
  L.numberedAs M n ∧ M.chr = (L.tickCounted slack).chr ∧ M.tk.realign = L.tk.realign - slack ∧
  M.get Reg.TICK_CNT_COUNT = (L.get Reg.TICK_CNT_COUNT + 1) % 2 ^ 32

variable {L slack}

theorem Lane.tickedTo_tickNumber {n : Nat} (hn : n < 1024) : L.tickedTo slack ((L.tickCounted slack).tickNumber n) n := by
  refine ⟨Lane.numberedAs_tickNumber hn (L.keepsBut_tickCounted slack) rfl rfl rfl rfl, rfl, rfl, ?_⟩
  rw [Lane.tickNumber_get, Lane.get_set_addr _ _ (by decide), L.tickCounted_count]

/-- Without a realignment the tick's number is the chronometer's. -/
theorem Lane.tickOn_plain (h : L.tk.realigning = false) : L.tickedTo slack (L.tickOn slack) (nsOf (L.tickCounted slack).now / 1000000) := by
  rw [L.tickOn_eq, if_neg (by simp [h])]
  exact Lane.tickedTo_tickNumber (tickOf_lt _)

/-- A realignment that goes on counts the tick's number on. -/
theorem Lane.tickOn_counts (h : L.tk.realigning = true) (h0 : L.tk.realign - slack ≠ 0) :
    L.tickedTo slack (L.tickOn slack) ((L.get Reg.TICK_POS_TICK + 1) % 1000) ∧ (L.tickOn slack).tk.realigning = true := by
  rw [L.tickOn_eq, if_pos h, Lane.renumber_goesOn h0]
  exact ⟨Lane.tickedTo_tickNumber (lt_trans (Nat.mod_lt _ (by decide)) (by decide)), h⟩

/-- The realignment ends: the tick is numbered by the chronometer again. -/
theorem Lane.tickOn_ends (h : L.tk.realigning = true) (h0 : L.tk.realign - slack = 0) :
    L.tickedTo slack (L.tickOn slack) (nsOf (L.tickCounted slack).now / 1000000) ∧ (L.tickOn slack).tk.realigning = false ∧
    (L.tickOn slack).get Reg.TICK_POS_REALIGN = 0 ∧ (L.tickOn slack).get Reg.TICK_STAT_REALIGN = 0 := by
  set K := (L.tickCounted slack).tickNumber ((L.get Reg.TICK_POS_TICK + 1) % 1000) with hK
  have hre : K.tk.realigning = true := h
  have hz : K.tk.realign = 0 := h0
  obtain ⟨-, -, hoff, hmark, hstat, hkeep, -⟩ := K.renumbersTo_renumber hre hz
  obtain ⟨htk, hchr⟩ := Lane.renumber_records hre hz
  rw [L.tickOn_eq, if_pos h, ← hK]
  refine ⟨⟨Lane.numberedAs_renumber hre hz (Lane.keepsBut_tickNumber _ (L.keepsBut_tickCounted slack)) rfl rfl rfl rfl, hchr, ?_, ?_⟩, hoff, hmark, hstat⟩
  · rw [htk]
    rfl
  · rw [hkeep.get_eq (by decide), hK, Lane.tickNumber_get, Lane.get_set_addr _ _ (by decide), L.tickCounted_count]

/-- What a later tick than the first gets for its number: counted on while a realignment goes on, else the chronometer's; the realignment
ends once its whole delay has been added. -/
def Lane.gridNumber (L K : Lane) (n : Nat) : Prop :=
  (L.tk.realigning = true → 50000 < L.tk.realign → n = (L.get Reg.TICK_POS_TICK + 1) % 1000 ∧ K.tk.realigning = true) ∧
  (L.tk.realigning = true → L.tk.realign ≤ 50000 → n = nsOf K.now / 1000000 ∧ K.tk.realigning = false ∧
    K.get Reg.TICK_POS_REALIGN = 0 ∧ K.get Reg.TICK_STAT_REALIGN = 0) ∧
  (L.tk.realigning = false → n = nsOf K.now / 1000000)

/-- A tick adds its share of the delay, and its number follows. -/
theorem Lane.tickOn_spec (hs : slack = if L.tk.realigning then min 50000 L.tk.realign else 0) :
    ∃ n, L.tickedTo slack (L.tickOn slack) n ∧ L.gridNumber (L.tickOn slack) n := by
  have hnow {n : Nat} (h : L.tickedTo slack (L.tickOn slack) n) : (L.tickOn slack).now = (L.tickCounted slack).now := congrArg ChronSt.ns h.2.1
  by_cases hr : L.tk.realigning = true
  · have hnf : L.tk.realigning ≠ false := by simp [hr]
    by_cases hlong : 50000 < L.tk.realign
    · have h5 : slack = 50000 := hs.trans ((if_pos hr).trans (min_eq_left hlong.le))
      obtain ⟨ht, hgo⟩ := Lane.tickOn_counts (slack := slack) hr (by rw [h5]; linarith only [hlong])
      exact ⟨_, ht, fun _ _ => ⟨rfl, hgo⟩, fun _ hle => absurd hlong (not_lt.2 hle), fun hf => absurd hf hnf⟩
    · have hall : slack = L.tk.realign := hs.trans ((if_pos hr).trans (min_eq_right (not_lt.1 hlong)))
      obtain ⟨ht, hoff, hmark, hstat⟩ := Lane.tickOn_ends (slack := slack) hr (by rw [hall, sub_self])
      exact ⟨_, ht, fun _ hlt => absurd hlt hlong, fun _ _ => ⟨by rw [hnow ht], hoff, hmark, hstat⟩, fun hf => absurd hf hnf⟩
  · have ht := Lane.tickOn_plain (L := L) (slack := slack) (by simpa using hr)
    exact ⟨_, ht, fun hr' => absurd hr' hr, fun hr' => absurd hr' hr, fun _ => by rw [hnow ht]⟩

end

/-! ### The tick begun (R64, R66, R105) -/

section

variable (L : Lane)

/-- The tick in progress: counted, its boundary noted, its mark of a coast shown. -/
def Lane.tickBegun : Lane :=
  let t := L.now
  let L := L.onTk fun k =>
    { k with count := k.count + 1, inTick := true, stopped := [], schedWrote := [], schedPend := false,
             prevBound := if k.posTick then k.bound else k.prevBound, bound := if k.posTick then some t else k.bound }
  (L.setb Reg.TICK_POS_STRETCHED L.coasting).onBoot fun b => { b with snapAge := b.snapAge + 1 }

/-- The time that a tick start adds beyond a millisecond (R67). -/
def Lane.slackDue : Rat := if decide (L.tk.count = 0) || !L.tk.realigning then 0 else min 50000 L.tk.realign

theorem Lane.tickClock_eq : L.tickClock =
    ((if decide (L.tk.count = 0) then L.tickNumber (L.get Reg.TICK_POS_TICK) else L.tickOn L.slackDue).tickBegun, 1000000 + L.slackDue) := (rfl)

theorem Lane.tickBegun_tk : L.tickBegun.tk =
    { L.tk with count := L.tk.count + 1, inTick := true, stopped := [], schedWrote := [], schedPend := false,
                prevBound := if L.tk.posTick then L.tk.bound else L.tk.prevBound, bound := if L.tk.posTick then some L.now else L.tk.bound } := (rfl)

theorem Lane.tickBegun_get (f : Fld) : L.tickBegun.get f = (L.setb Reg.TICK_POS_STRETCHED L.coasting).get f := (rfl)

theorem Lane.keepsBut_tickBegun : L.keepsBut L.tickBegun [Reg.TICK_POS_STRETCHED] := fun g hg ha => by
  rw [L.tickBegun_get]
  exact L.get_set_apart _ (by decide) hg (ha _ (by simp))

end

/-- What a tick start leaves of the lane that was numbered `n` for it. -/
theorem Lane.tickBegun_spec {L K : Lane} {n : Nat} (h : L.numberedAs K n) :
    let M := K.tickBegun
    M.get Reg.TICK_POS_TICK = n ∧ M.get Reg.TICK_POS_STRETCHED = (if L.coasting then 1 else 0) ∧
    (M.tk.posTick = true ↔ n % 10 = 0) ∧ (M.tk.epochTick = true ↔ n % 50 = 0) ∧
    (M.tk.secTick = true ↔ n = 0) ∧ M.tk.inTick = true ∧ M.tk.count = L.tk.count + 1 ∧
    (M.tk.posTick = true → M.tk.bound = some M.now ∧ M.tk.prevBound = L.tk.bound) ∧
    (M.tk.posTick = false → M.tk.bound = L.tk.bound ∧ M.tk.prevBound = L.tk.prevBound) ∧
    L.keepsBut M [Reg.TICK_POS_TICK, Reg.TICK_CNT_COUNT, Reg.TICK_POS_STRETCHED, Reg.TICK_POS_REALIGN, Reg.TICK_STAT_REALIGN] ∧
    M.found = L.found := by
  obtain ⟨hnum, hpos, hepoch, hsec, hbound, hprev, hcount, hkeep, hfound⟩ := h
  have hcoast : K.coasting = L.coasting := by
    unfold Lane.coasting
    rw [hkeep.get_eq (by decide)]
  have hbegun := K.keepsBut_tickBegun
  dsimp only
  rw [K.tickBegun_tk]
  refine ⟨(hbegun.get_eq (by decide)).trans hnum, ?_, hpos, hepoch, hsec, rfl, congrArg (· + 1) hcount, fun hp => ?_, fun hp => ?_, fun g hg ha => ?_, hfound⟩
  · rw [K.tickBegun_get, Lane.get_setb _ _ _ (by decide) rfl, hcoast]
  · exact ⟨if_pos hp, (if_pos hp).trans hbound⟩
  · have hp' : ¬K.tk.posTick = true := by simpa using hp
    exact ⟨(if_neg hp').trans hbound, (if_neg hp').trans hprev⟩
  · exact (hbegun g hg fun f hf => ha f (by simp at hf ⊢; tauto)).trans (hkeep g hg fun f hf => ha f (by simp [gridFlds] at hf ⊢; tauto))

/-- Settles O13: the first tick of a start keeps its number and time, a later one gets them by `Lane.tickOn_spec`; what follows from the
number is the same for both. -/
theorem tickGrid : Obligations.TickGrid := by
  unfold Obligations.TickGrid
  intro L M slack
  have hmarks {K : Lane} (hM : M = K.tickBegun) : M.chr = K.chr ∧ M.now = K.now ∧ M.tk.realign = K.tk.realign ∧ M.tk.realigning = K.tk.realigning ∧
      ∀ f : Fld, f.lo + f.w ≤ 32 ∧ (∀ g ∈ [Reg.TICK_POS_STRETCHED], f.apart g) → M.get f = K.get f := by
    rw [hM]
    exact ⟨rfl, rfl, rfl, rfl, fun f hf => K.keepsBut_tickBegun.get_eq hf⟩
  by_cases h : L.tk.count = 0
  · have hM : M = (L.tickNumber (L.get Reg.TICK_POS_TICK)).tickBegun := by
      show L.tickClock.1 = _
      rw [L.tickClock_eq, if_pos (by simp [h])]
    have hnumbered := Lane.numberedAs_tickNumber (M := L) (L.get_lt Reg.TICK_POS_TICK) (L.keepsBut_refl _) rfl rfl rfl rfl
    obtain ⟨hnum, hrest⟩ := Lane.tickBegun_spec hnumbered
    obtain ⟨hchr, -, -, -, hget⟩ := hmarks hM
    rw [← hM] at hnum hrest
    rw [hnum]
    refine ⟨fun _ => ⟨hchr, rfl, ?_⟩, fun hn => absurd h hn, hrest⟩
    rw [hget _ (by decide), Lane.tickNumber_get, Lane.get_set_addr _ _ (by decide)]
  · have hslack : L.slackDue = slack := by
      unfold Lane.slackDue
      cases hr : L.tk.realigning <;> simp [slack, hr, h]
    have hclock : L.tickClock = ((L.tickOn slack).tickBegun, 1000000 + slack) := by rw [L.tickClock_eq, if_neg (by simp [h]), hslack]
    have hM : M = (L.tickOn slack).tickBegun := congrArg Prod.fst hclock
    obtain ⟨n, ⟨hnumbered, kchr, kre, kcnt⟩, hgoes, hends, hplain⟩ := Lane.tickOn_spec (L := L) (slack := slack) rfl
    obtain ⟨hnum, hrest⟩ := Lane.tickBegun_spec hnumbered
    obtain ⟨hchr, hnow, hre, hreing, hget⟩ := hmarks hM
    rw [← hM] at hnum hrest
    rw [hnum, hnow, hchr, hre, hreing, hget _ (by decide), hget Reg.TICK_POS_REALIGN (by decide), hget Reg.TICK_STAT_REALIGN (by decide)]
    exact ⟨fun h0 => absurd h0 h, fun _ => ⟨kchr, congrArg Prod.snd hclock, kre, kcnt, hgoes, hends, hplain⟩, hnow ▸ hrest⟩

end Sys2Proof.Machine
end

section
/-! ### What a change of holder and a coast leave alone (01 R31; 15 R551)

Whoever holds the grant, a lane's tick, its start-up, the state its tick would return to, its mode and its role go on. -/

namespace Sys2Proof.Machine

open Sys2Proof

/-- The words of a lane's mode, of its role and of its last start's cause. -/
def runWords : List Nat := [Reg.MODE_CUR_MODE.addr, Reg.RED_ROLE_ROLE.addr, Reg.BOOT_CAUSE_LUBBER.addr]

/-- The lane runs on: those words, its tick, its start-up and the state its tick would return to are as they were. -/
def Lane.keepsRun (L M : Lane) : Prop := (∀ a ∈ runWords, M.word a = L.word a) ∧ M.tk = L.tk ∧ M.boot = L.boot ∧ M.work = L.work

section

variable {L M N : Lane}

theorem Lane.keepsRun_refl (L : Lane) : L.keepsRun L := ⟨fun _ _ => rfl, rfl, rfl, rfl⟩

theorem Lane.keepsRun.running (h : L.keepsRun M) : M.running = L.running := by
  obtain ⟨-, -, hb, -⟩ := h
  unfold Lane.running
  rw [hb]

theorem Lane.keepsRun.get_eq {f : Fld} (h : L.keepsRun M) (hf : f.addr ∈ runWords) : M.get f = L.get f := congrArg f.of (h.1 f.addr hf)

theorem Lane.keepsRun_ite {p : Prop} [Decidable p] (hM : L.keepsRun M) (hN : L.keepsRun N) : L.keepsRun (if p then M else N) := by
  split_ifs <;> assumption

theorem Lane.keepsRun_set {f : Fld} (v : Nat) (hf : f.addr ∉ runWords) (h : L.keepsRun M) : L.keepsRun (M.set f v) := by
  obtain ⟨hw, hrest⟩ := h
  exact ⟨fun b hb => (M.word_setWord_other _ (ne_of_mem_of_not_mem hb hf)).trans (hw b hb), hrest⟩

theorem Lane.keepsRun_setAll (r : List (Fld × Nat)) : ∀ {M : Lane}, (∀ p ∈ r, p.1.addr ∉ runWords) → L.keepsRun M → L.keepsRun (M.setAll r) := by
  induction r with
  | nil => exact fun _ h => h
  | cons p r ih =>
    intro M hr h
    obtain ⟨hp, hr⟩ := List.forall_mem_cons.1 hr
    exact ih hr (Lane.keepsRun_set p.2 hp h)

theorem Lane.keepsRun_findIf (c : Bool) (p b : Nat) (h : L.keepsRun M) : L.keepsRun (M.findIf c p b) := by cases c <;> exact h

theorem Lane.keepsRun_onSer (f : List SerSt → List SerSt) (h : L.keepsRun M) : L.keepsRun (M.onSer f) := h
theorem Lane.keepsRun_onSf (f : SafetySt → SafetySt) (h : L.keepsRun M) : L.keepsRun (M.onSf f) := h
theorem Lane.keepsRun_onClk (f : ClockSt → ClockSt) (h : L.keepsRun M) : L.keepsRun (M.onClk f) := h
theorem Lane.keepsRun_onChr (f : ChronSt → ChronSt) (h : L.keepsRun M) : L.keepsRun (M.onChr f) := h
theorem Lane.keepsRun_onAna (f : AnaSt → AnaSt) (h : L.keepsRun M) : L.keepsRun (M.onAna f) := h
theorem Lane.keepsRun_onSx (f : SextantSt → SextantSt) (h : L.keepsRun M) : L.keepsRun (M.onSx f) := h

/-- A step done for each number below `n`. -/
theorem Lane.keepsRun_forUpTo {f : Nat → Lane → Lane} (n : Nat) (hf : ∀ k, k < n → ∀ M, L.keepsRun M → L.keepsRun (f k M)) (h : L.keepsRun M) :
    L.keepsRun (forUpTo n f M) := by
  induction n with
  | zero => exact h
  | succ n ih => exact hf n (Nat.lt_succ_self n) _ (ih fun k hk => hf k (Nat.lt_succ_of_lt hk))

/-- An address between those of the mode and of the role is none of theirs. -/
theorem not_mem_runWords {a : Nat} (h : 0x1000 ≤ a) (h' : a < 0x18020) : a ∉ runWords := by
  simp only [runWords, List.mem_cons, List.not_mem_nil, or_false, not_or]
  omega

/-! #### The grant in a lane -/

theorem Lane.keepsRun_onPort (p : Nat) (f : CanPort → CanPort) (h : L.keepsRun M) : L.keepsRun (M.onPort p f) := h
theorem Lane.keepsRun_onPortS (n : Nat) (f : SerSt → SerSt) (h : L.keepsRun M) : L.keepsRun (M.onPortS n f) := h

theorem canErr_not_mem_runWords {p : Nat} (hp : p < 8) : (Reg.CAN_ERR_STATE p).addr ∉ runWords :=
  not_mem_runWords (show 0x1000 ≤ 0x12030 + 0x400 * p by omega) (show 0x12030 + 0x400 * p < 0x18020 by omega)

theorem Lane.keepsRun_canErr {p : Nat} (hp : p < 8) (st : Nat) (h : L.keepsRun M) :
    L.keepsRun (M.setAll [(Reg.CAN_ERR_STATE p, st), (Reg.CAN_ERR_TEC p, 0), (Reg.CAN_ERR_REC p, 0), (Reg.CAN_ERR_WARN p, 0)]) :=
  Lane.keepsRun_setAll _ (by simpa using canErr_not_mem_runWords hp) h

theorem Lane.keepsRun_canLeave {p : Nat} (hp : p < 8) (h : L.keepsRun M) : L.keepsRun (M.canLeave p) :=
  Lane.keepsRun_onPort _ _ (Lane.keepsRun_canErr hp 3 h)

theorem Lane.keepsRun_canEnter {p : Nat} (hp : p < 8) (h : L.keepsRun M) : L.keepsRun (M.canEnter p) :=
  Lane.keepsRun_onPort _ _ (Lane.keepsRun_canErr hp 0 h)

theorem Lane.keepsRun_canFollow (holds : Bool) (h : L.keepsRun M) : L.keepsRun (M.canFollow holds) := by
  refine Lane.keepsRun_forUpTo 8 (fun p hp N hN => ?_) h
  have hstat : (Reg.CAN_STAT_DRIVING p).addr ∉ runWords :=
    not_mem_runWords (show 0x1000 ≤ 0x1200c + 0x400 * p by omega) (show 0x1200c + 0x400 * p < 0x18020 by omega)
  have hstate : L.keepsRun (if N.canMay holds && decide ((N.port p).cfg.role = .normal) then (if N.canState p = 3 then N.canEnter p else N)
      else (if N.canState p = 3 then N else N.canLeave p)) :=
    Lane.keepsRun_ite (Lane.keepsRun_ite (Lane.keepsRun_canEnter hp hN) hN) (Lane.keepsRun_ite hN (Lane.keepsRun_canLeave hp hN))
  exact Lane.keepsRun_set _ hstat (Lane.keepsRun_set _ hstat (Lane.keepsRun_ite (Lane.keepsRun_onPort _ _ hstate) hstate))

theorem Lane.keepsRun_canGrantLost (h : L.keepsRun M) : L.keepsRun M.canGrantLost := by
  refine Lane.keepsRun_canFollow _ (Lane.keepsRun_forUpTo 8 (fun p hp N hN => ?_) h)
  have hcmd : (Reg.CAN_TX_CMD_RESULT p).addr ∉ runWords :=
    not_mem_runWords (show 0x1000 ≤ 0x120ac + 0x400 * p by omega) (show 0x120ac + 0x400 * p < 0x18020 by omega)
  exact Lane.keepsRun_onPort _ _ (Lane.keepsRun_ite (Lane.keepsRun_set _ hcmd hN) hN)

theorem Lane.keepsRun_serStop (h : L.keepsRun M) : L.keepsRun M.serStop := by
  refine Lane.keepsRun_forUpTo 12 (fun n hn N hN => ?_) h
  have hcut : (Reg.SER_TX_CUT n).addr ∉ runWords :=
    not_mem_runWords (show 0x1000 ≤ 0x14108 + 0x10 * n by omega) (show 0x14108 + 0x10 * n < 0x18020 by omega)
  have hstat : (Reg.SER_STAT_DRIVING n).addr ∉ runWords :=
    not_mem_runWords (show 0x1000 ≤ 0x1410c + 0x10 * n by omega) (show 0x1410c + 0x10 * n < 0x18020 by omega)
  exact Lane.keepsRun_set _ hstat (Lane.keepsRun_onPortS _ _ (Lane.keepsRun_ite (Lane.keepsRun_set _ hcut hN) hN))

theorem Lane.keepsRun_serCut (h : L.keepsRun M) : L.keepsRun M.serCut := Lane.keepsRun_onSer _ (Lane.keepsRun_serStop h)

theorem Lane.keepsRun_serGranted (h : L.keepsRun M) : L.keepsRun M.serGranted := by
  refine Lane.keepsRun_forUpTo 12 (fun n hn N hN => Lane.keepsRun_set _ ?_ (Lane.keepsRun_onPortS _ _ hN)) h
  exact not_mem_runWords (show 0x1000 ≤ 0x1410c + 0x10 * n by omega) (show 0x1410c + 0x10 * n < 0x18020 by omega)

end

/-! #### The change of holder -/

section

variable {s o : State} {l m : LaneId} {L : Lane}

theorem State.lane_upd_keepsRun {f : Lane → Lane} (hf : ∀ M, L.keepsRun M → L.keepsRun (f M)) (h : L.keepsRun (s.lane m)) :
    L.keepsRun ((s.upd l f).lane m) := by
  rcases LaneId.eq_or_other (l := l) (m := m) with rfl | rfl
  · rw [State.lane_upd]
    exact hf _ h
  · rwa [State.lane_upd_other]

theorem State.keepsRun_sfGrantLost (h : L.keepsRun (s.lane m)) : L.keepsRun ((s.sfGrantLost l).lane m) := by
  unfold State.sfGrantLost
  have hvoid : L.keepsRun ((s.upd l fun N => N.onSf fun x => { x with outs := x.outs.map fun o =>
      { o with pulse := o.pulse.map fun q => { q with void := true, high := some (q.high.getD false) } } }).lane m) :=
    State.lane_upd_keepsRun (fun _ hM => Lane.keepsRun_onSf _ hM) h
  extract_lets t w b u
  have hb : L.keepsRun (b.lane m) := by rwa [State.lane_onBin]
  rw [State.lane_binEval]
  unfold u
  split_ifs
  · exact State.lane_upd_keepsRun (fun _ hM => Lane.keepsRun_onSf _ hM) hb
  · exact hb

theorem State.keepsRun_grantLost (h : L.keepsRun (s.lane m)) : L.keepsRun ((s.grantLost l).lane m) :=
  State.lane_upd_keepsRun (fun _ hM => Lane.keepsRun_serCut (Lane.keepsRun_canGrantLost hM)) (State.keepsRun_sfGrantLost h)

theorem State.keepsRun_grantGained (h : L.keepsRun (s.lane m)) : L.keepsRun ((s.grantGained l).lane m) := by
  unfold State.grantGained
  rw [State.lane_binEval]
  exact State.lane_upd_keepsRun (fun _ hM => Lane.keepsRun_findIf _ _ _ (Lane.keepsRun_serGranted (Lane.keepsRun_canFollow _ hM))) h

theorem State.keepsRun_grantFromAt (h : L.keepsRun (s.lane m)) : L.keepsRun ((s.grantFromAt o l).lane m) := by
  unfold State.grantFromAt
  split_ifs
  · exact State.keepsRun_grantLost (by rwa [State.lane_onLock])
  · exact State.keepsRun_grantGained h
  · exact h

theorem State.lane_lockPower : s.lockPower.lane m = s.lane m := by
  unfold State.lockPower
  split_ifs
  · rfl
  · exact State.lane_onLock _ _ _

/-- The lanes run on through a change of holder. -/
theorem State.keepsRun_moving {f : State → State} (h : L.keepsRun ((f s).lane m)) : L.keepsRun ((s.moving f).lane m) := by
  unfold State.moving
  rw [State.grantFrom_eq]
  exact State.keepsRun_grantFromAt (State.keepsRun_grantFromAt (by rwa [State.lane_lockPower]))

/-! #### The lines of the interlock -/

@[simp] theorem InterlockSt.arm_setDrive (k : InterlockSt) (v : Bool) : (k.setDrive l v).arm m = k.arm m := by cases l <;> cases m <;> rfl

/-- A change of holder leaves the lines, and the grant but for the loss of the shared section's power. -/
def InterlockSt.settlesTo (k j : InterlockSt) : Prop := (j.grant = k.grant ∨ j.grant = .free) ∧ (∀ m, j.drive m = k.drive m) ∧ ∀ m, j.arm m = k.arm m

theorem State.settlesTo_grantFromAt {k : InterlockSt} (h : k.settlesTo s.sh.lock) : k.settlesTo (s.grantFromAt o l).sh.lock := by
  unfold State.grantFromAt
  split_ifs
  · rw [State.lock_grantLost, State.lock_onLock]
    obtain ⟨hg, hd, ha⟩ := h
    exact ⟨hg, fun m => (hd m).symm ▸ by cases m <;> rfl, fun m => (ha m).symm ▸ by cases m <;> rfl⟩
  · rwa [State.lock_grantGained]
  · exact h

theorem State.settlesTo_moving (s : State) (f : State → State) : (f s).sh.lock.settlesTo (s.moving f).sh.lock := by
  unfold State.moving
  rw [State.grantFrom_eq]
  refine State.settlesTo_grantFromAt (State.settlesTo_grantFromAt ?_)
  unfold State.lockPower
  split_ifs
  · exact ⟨.inl rfl, fun _ => rfl, fun _ => rfl⟩
  · exact ⟨.inr rfl, fun m => by cases m <;> rfl, fun m => by cases m <;> rfl⟩

end

/-! ### TICK_START (02 R63; 01 R30, R34, R47; 12 R442)

A running lane that is not to restart takes one of two courses: a lane that declared itself failed, and every other lane. -/

section

variable {s : State} {l : LaneId} {x : TickIn}

theorem Lane.running_snapshotHold (L : Lane) (c : StartCause) : (L.snapshotWrite.hold c).running = false := (rfl)

/-- What a restarting lane does before its loss of the grant takes effect. -/
def State.restartLines (s : State) (l : LaneId) (c : StartCause) : State :=
  (s.onLock fun k => (k.release l none).setArm l false).upd l fun L => L.snapshotWrite.hold c

theorem State.lock_restartLines (c : StartCause) : (s.restartLines l c).sh.lock = (s.sh.lock.release l none).setArm l false := by
  rw [State.restartLines, State.lock_upd, State.lock_onLock]

@[simp] theorem InterlockSt.drive_release (k : InterlockSt) (l : LaneId) (c : Option TakeCause) : (k.release l c).drive l = false := by
  unfold InterlockSt.release
  dsimp only
  split_ifs <;> simp

theorem InterlockSt.grant_release (k : InterlockSt) (l : LaneId) (c : Option TakeCause) : (k.release l c).grant = (k.dropGrant l c).grant := by
  unfold InterlockSt.release
  dsimp only
  split_ifs <;> simp

theorem InterlockSt.grant_release_ne (k : InterlockSt) (l : LaneId) (c : Option TakeCause) : (k.release l c).grant ≠ .held l := by
  rw [InterlockSt.grant_release]
  exact (k.grant_dropGrant_ne l c).1

@[simp] theorem InterlockSt.arm_setArm_same (k : InterlockSt) (l : LaneId) (v : Bool) : (k.setArm l v).arm l = v := by cases l <;> rfl

/-- A lane that restarts itself neither drives, nor arms, nor holds the grant, nor runs. -/
theorem State.laneRestart_spec (s : State) (l : LaneId) (c : StartCause) :
    (s.laneRestart l c).sh.lock.drive l = false ∧ (s.laneRestart l c).sh.lock.arm l = false ∧ (s.laneRestart l c).sh.lock.grant ≠ .held l ∧
      ((s.laneRestart l c).lane l).running = false := by
  have hmove : s.laneRestart l c = s.moving fun s => s.restartLines l c := (rfl)
  obtain ⟨hgrant, hdrive, harm⟩ := s.settlesTo_moving fun s => s.restartLines l c
  have hrun := (State.keepsRun_moving (s := s) (f := fun s => s.restartLines l c) (m := l) (Lane.keepsRun_refl _)).running
  rw [hmove, hdrive l, harm l, hrun]
  simp only [State.lock_restartLines, InterlockSt.grant_setArm] at hgrant ⊢
  refine ⟨by simp, by simp, ?_, ?_⟩
  · rcases hgrant with h | h <;> rw [h]
    · exact InterlockSt.grant_release_ne _ _ _
    · simp
  · rw [State.restartLines, State.lane_upd]
    exact Lane.running_snapshotHold _ _

theorem State.tickStart_idle (hrun : (s.lane l).running = false) : s.tickStart l x = s := by
  unfold State.tickStart
  exact if_pos (by rw [hrun]; rfl)

theorem State.tickStart_restart (hrun : (s.lane l).running = true) (hre : (s.lane l).rap.restart = true) :
    s.tickStart l x = s.laneRestart l .hostRestart := by
  unfold State.tickStart
  exact (if_neg (by rw [hrun]; decide)).trans (if_pos hre)

/-- The module after clock and supplies of a lane's tick. -/
def State.tickSupplied (s : State) (l : LaneId) (x : TickIn) : State := s.setLane l ((s.lane l).tickClock.1.tickInfra x)

/-- The time that the tick spans, ns: in a coast as the analogue delay gives it. -/
def Lane.tickSpan (L : Lane) (x : TickIn) : Rat := if L.tickClock.1.coasting then x.coastNs else L.tickClock.2

/-- The clocks, Logbook and RAP of a lane that declared itself failed. -/
def Lane.rapAlone (N : Lane) : Lane := if N.pairUp 0 then N.rapExecute.windowLoad else N

/-- The work of a tick, from the state to which a frame fault returns. -/
def Lane.tickWork (N : Lane) (x : TickIn) (d : Rat) : Lane :=
  (if N.snapWork.pairUp 0 then N.snapWork.rapExecute.windowLoad.rapIntake else N.snapWork).workTick x d

/-- The latch, the roles, the Binnacle and the work of a tick. -/
def State.tickLatched (s : State) (l : LaneId) (x : TickIn) (d : Rat) : State :=
  ((s.upd l fun N => N.inputLatch (s.sh.lock.holds l) s.aoTerminal s.binStatus x d).roleLatch l x).binEval.upd l fun N => N.tickWork x d

theorem State.tickStart_run (hrun : (s.lane l).running = true) (hre : (s.lane l).rap.restart = false) :
    s.tickStart l x = if ((s.tickSupplied l x).lane l).role = 5 then (s.tickSupplied l x).upd l Lane.rapAlone
      else (s.tickSupplied l x).tickLatched l x ((s.lane l).tickSpan x) := by
  unfold State.tickStart
  exact (if_neg (by rw [hrun]; decide)).trans (if_neg (by rw [hre]; decide))

end

/-- Settles O14: the branches of a tick start, and the lines of the interlock after a restart. -/
theorem tickStart : Obligations.TickStart := by
  unfold Obligations.TickStart
  intro s l x
  refine ⟨fun hrun => ?_, fun hrun hre hrole => ?_, fun hrun hre hrole => ?_, fun hrun hre => ?_⟩
  · exact congrArg Host.Outcome.next (State.tickStart_idle hrun)
  · exact congrArg Host.Outcome.next ((State.tickStart_run hrun hre).trans (if_pos hrole))
  · exact congrArg Host.Outcome.next ((State.tickStart_run hrun hre).trans (if_neg hrole))
  · exact ⟨s.laneRestart l .hostRestart, congrArg Host.Outcome.next (State.tickStart_restart hrun hre), s.laneRestart_spec l .hostRestart⟩

end Sys2Proof.Machine

end

section
/-! ### COMMIT_POINT (02 R69-R73)

The tick of a lane ends with its snapshot gone; a failed lane's release of the grant, which may follow, leaves that. -/

namespace Sys2Proof.Machine

open Sys2Proof

section

variable {s o : State} {l : LaneId} {x : CommitIn}

/-! #### The queue -/

@[simp] theorem State.pending_onLock (f : InterlockSt → InterlockSt) : (s.onLock f).pending = s.pending := rfl
@[simp] theorem State.pending_onBin (f : BinnacleSt → BinnacleSt) : (s.onBin f).pending = s.pending := rfl
@[simp] theorem State.pending_binEval : s.binEval.pending = s.pending := by
  unfold State.binEval
  rw [State.pending_onBin]

@[simp] theorem State.pending_sfGrantLost : (s.sfGrantLost l).pending = s.pending := by
  unfold State.sfGrantLost
  extract_lets t w b u
  have hb : b.pending = s.pending := by rw [State.pending_onBin, State.pending_upd]
  rw [State.pending_binEval]
  unfold u
  split_ifs
  · rwa [State.pending_upd]
  · exact hb

theorem State.pending_grantFromAt : (s.grantFromAt o l).pending = s.pending := by
  unfold State.grantFromAt
  split_ifs <;> simp [State.grantLost, State.grantGained]

theorem State.pending_moving (s : State) (f : State → State) : (s.moving f).pending = (f s).pending := by
  unfold State.moving
  rw [State.grantFrom_eq, State.pending_grantFromAt, State.pending_grantFromAt]
  unfold State.lockPower
  split_ifs <;> rfl

/-! #### The end of the tick -/

/-- The lane's tick has ended: it has not latched, nothing is to be discarded, and it has no state to return to. -/
def Lane.tickEnded (L : Lane) : Prop := L.tk.inTick = false ∧ L.tk.discard = false ∧ L.work = none

theorem Lane.tickEnded_commitEnd (L : Lane) (fault : Bool) : (L.commitEnd fault).tickEnded := ⟨rfl, rfl, rfl⟩

theorem Lane.keepsRun.tickEnded {L M : Lane} (h : L.keepsRun M) (hL : L.tickEnded) : M.tickEnded := by
  obtain ⟨-, htk, -, hwork⟩ := h
  unfold Lane.tickEnded
  rwa [htk, hwork]

theorem State.pending_armRefresh : (s.armRefresh l).pending = s.pending := by simp [State.armRefresh]

/-- The module after the commit's end in a lane. -/
def State.committed (s : State) (l : LaneId) (x : CommitIn) : State :=
  let t := s.setLane l ((s.lane l).commitWork x).1
  (if (t.lane l).role = 5 then t else t.armRefresh l).upd l fun L => L.commitEnd ((s.lane l).commitWork x).2

/-- A failed lane releases the grant at the end of its commit. -/
def State.failedOut (s : State) (l : LaneId) : State := if (s.lane l).hw.failed.isSome then s.moving fun s => s.failRelease l else s

theorem State.commit_run (hrun : (s.lane l).running = true) (hin : (s.lane l).tk.inTick = true) :
    s.commit l x = (s.committed l x).failedOut l := by
  unfold State.commit
  exact if_neg (by rw [hrun, hin]; decide)

theorem State.commit_idle (h : (s.lane l).running = false ∨ (s.lane l).tk.inTick = false) : s.commit l x = s := by
  unfold State.commit
  exact if_pos (by rcases h with h | h <;> simp [h])

theorem State.tickEnded_committed : ((s.committed l x).lane l).tickEnded := by
  unfold State.committed
  rw [State.lane_upd]
  exact Lane.tickEnded_commitEnd _ _

theorem State.pending_committed : (s.committed l x).pending = s.pending := by
  have hwork : (s.setLane l ((s.lane l).commitWork x).1).pending = s.pending := State.pending_setLane _ _ _
  unfold State.committed
  rw [State.pending_upd]
  split_ifs
  · exact hwork
  · rw [State.pending_armRefresh, hwork]

theorem State.lane_failRelease (s : State) (l m : LaneId) : (s.failRelease l).lane m = s.lane m := by
  unfold State.failRelease
  split_ifs
  · exact State.lane_onLock _ _ _
  · rfl

theorem State.pending_failRelease (s : State) (l : LaneId) : (s.failRelease l).pending = s.pending := by
  unfold State.failRelease
  split_ifs <;> rfl

theorem State.keepsRun_failedOut : (s.lane l).keepsRun ((s.failedOut l).lane l) := by
  unfold State.failedOut
  split_ifs
  · refine State.keepsRun_moving ?_
    rw [State.lane_failRelease]
    exact Lane.keepsRun_refl _
  · exact Lane.keepsRun_refl _

theorem State.pending_failedOut : (s.failedOut l).pending = s.pending := by
  unfold State.failedOut
  split_ifs
  · rw [State.pending_moving, State.pending_failRelease]
  · rfl

end

/-- Settles O15: the commit's end closes the tick, and nothing after it opens it again. -/
theorem commitEndsTick : Obligations.CommitEndsTick := by
  unfold Obligations.CommitEndsTick
  refine fun s l x => ⟨fun hrun hin => ?_, fun h => congrArg Host.Outcome.next (State.commit_idle h)⟩
  refine ⟨(s.committed l x).failedOut l, congrArg Host.Outcome.next (State.commit_run hrun hin), ?_⟩
  obtain ⟨hin, hdis, hwork⟩ := State.keepsRun_failedOut.tickEnded (State.tickEnded_committed (s := s) (l := l) (x := x))
  exact ⟨hin, hdis, hwork, State.pending_failedOut.trans State.pending_committed⟩

end Sys2Proof.Machine

end

section
/-! ### A frame fault (02 R72-R74)

The registers go back address by address; the state the tick's work changed goes back whole; then the fault is counted. -/

namespace Sys2Proof.Machine

open Sys2Proof

section

variable {L M : Lane} {a : Nat}

/-! #### The registers taken back -/

theorem word_and_not_zero (v : Word) : v &&& ~~~(0 : Word) = v := BitVec.and_allOnes

theorem sparseGet_of_not_mem (m : List (Nat × Word)) (d : Word) (h : a ∉ m.map Prod.fst) : sparseGet m a d = d := by
  induction m with
  | nil => rfl
  | cons e m ih =>
    obtain ⟨hne, hm⟩ := not_or.1 (List.mem_cons.not.1 h)
    exact (if_neg (Ne.symm hne)).trans (ih hm)

theorem Lane.word_takeBackReg_other (old : List (Nat × Word)) {b : Nat} (h : a ≠ b) : (L.takeBackReg old b).word a = L.word a :=
  L.word_setWord_other _ h

theorem Lane.word_takeBackReg_same (old : List (Nat × Word)) (h : hostMask a = 0) : (L.takeBackReg old a).word a = sparseGet old a (resetWord a) := by
  unfold Lane.takeBackReg
  rw [Lane.word_setWord_same, h, word_and_not_zero]
  exact (congrArg (· ||| _) BitVec.and_zero).trans BitVec.zero_or

/-- The addresses of `l` taken back one after another. -/
def Lane.regsBack (L : Lane) (old : List (Nat × Word)) (l : List Nat) : Lane := l.foldl (fun L a => L.takeBackReg old a) L

theorem Lane.word_regsBack_other (old : List (Nat × Word)) (l : List Nat) : ∀ {L : Lane}, a ∉ l → (L.regsBack old l).word a = L.word a := by
  induction l with
  | nil => exact fun _ => rfl
  | cons b l ih =>
    intro L h
    obtain ⟨hne, hl⟩ := not_or.1 (List.mem_cons.not.1 h)
    exact (ih hl).trans (Lane.word_takeBackReg_other old hne)

theorem Lane.word_regsBack_same (old : List (Nat × Word)) (hm : hostMask a = 0) (l : List Nat) : ∀ {L : Lane}, a ∈ l →
    (L.regsBack old l).word a = sparseGet old a (resetWord a) := by
  induction l with
  | nil => exact fun h => absurd h List.not_mem_nil
  | cons b l ih =>
    intro L h
    by_cases hl : a ∈ l
    · exact ih hl
    · obtain rfl : a = b := (List.mem_cons.1 h).resolve_right hl
      exact (Lane.word_regsBack_other old l hl).trans (Lane.word_takeBackReg_same old hm)

theorem Lane.onlyRegs_regsBack (old : List (Nat × Word)) (l : List Nat) : ∀ {M : Lane}, L.onlyRegs M → L.onlyRegs (M.regsBack old l) := by
  induction l with
  | nil => exact fun h => h
  | cons b l ih => exact fun h => ih (Lane.onlyRegs_setWord _ _ h)

/-- The scheduled writes of the discarded tick taken back. -/
def Lane.schedBack (L : Lane) (l : List (Nat × Word × Word)) : Lane := l.foldl Lane.takeBackSched L

theorem Lane.word_takeBackSched (w : Nat × Word × Word) (h : hostMask a = 0) : (L.takeBackSched w).word a = L.word a := by
  unfold Lane.takeBackSched
  by_cases hw : a = w.1
  · subst hw
    have hmask : (0 : Word) &&& (w.2.1 ^^^ w.2.2) &&& ~~~(L.word w.1 ^^^ w.2.2) = 0 :=
      (congrArg (· &&& _) BitVec.zero_and).trans BitVec.zero_and
    rw [Lane.word_setWord_same, h, hmask, word_and_not_zero]
    exact (congrArg (_ ||| ·) BitVec.and_zero).trans BitVec.or_zero
  · exact L.word_setWord_other _ hw

theorem Lane.word_schedBack (h : hostMask a = 0) (l : List (Nat × Word × Word)) : ∀ {L : Lane}, (L.schedBack l).word a = L.word a := by
  induction l with
  | nil => exact fun {_} => rfl
  | cons w l ih => exact fun {_} => ih.trans (Lane.word_takeBackSched w h)

theorem Lane.onlyRegs_schedBack (l : List (Nat × Word × Word)) : ∀ {M : Lane}, L.onlyRegs M → L.onlyRegs (M.schedBack l) := by
  induction l with
  | nil => exact fun h => h
  | cons w l ih => exact fun h => ih (Lane.onlyRegs_setWord _ _ h)

/-- The registers of the tick's work that either state holds off their reset value. -/
def Lane.workAddrs (L : Lane) (w : WorkSnap) : List Nat := ((L.regs.map Prod.fst ++ w.regs.map Prod.fst).eraseDups.filter workReg)

theorem Lane.mem_workAddrs {w : WorkSnap} : a ∈ L.workAddrs w ↔ (a ∈ L.regs.map Prod.fst ∨ a ∈ w.regs.map Prod.fst) ∧ workReg a = true := by
  unfold Lane.workAddrs
  rw [List.mem_filter, List.mem_eraseDups, List.mem_append]

/-- The registers as a frame fault leaves them. -/
def Lane.wordsBack (L : Lane) (w : WorkSnap) : Lane :=
  (L.schedBack L.tk.schedWrote.reverse).regsBack w.regs ((L.schedBack L.tk.schedWrote.reverse).workAddrs w)

theorem Lane.onlyRegs_wordsBack (w : WorkSnap) : L.onlyRegs (L.wordsBack w) :=
  Lane.onlyRegs_regsBack _ _ (Lane.onlyRegs_schedBack _ L.onlyRegs_refl)

/-- A register of the work that the host does not write stands where the work began. -/
theorem Lane.word_wordsBack_work {w : WorkSnap} (hw : workReg a = true) (hm : hostMask a = 0) :
    (L.wordsBack w).word a = sparseGet w.regs a (resetWord a) := by
  by_cases ha : a ∈ (L.schedBack L.tk.schedWrote.reverse).workAddrs w
  · exact Lane.word_regsBack_same _ hm _ ha
  · have hnone : ¬(a ∈ (L.schedBack L.tk.schedWrote.reverse).regs.map Prod.fst ∨ a ∈ w.regs.map Prod.fst) :=
      fun h => ha (Lane.mem_workAddrs.2 ⟨h, hw⟩)
    obtain ⟨hnow, hthen⟩ := not_or.1 hnone
    calc (L.wordsBack w).word a = (L.schedBack L.tk.schedWrote.reverse).word a := Lane.word_regsBack_other _ _ ha
      _ = resetWord a := sparseGet_of_not_mem _ _ hnow
      _ = sparseGet w.regs a (resetWord a) := (sparseGet_of_not_mem _ _ hthen).symm

theorem Lane.word_wordsBack_other {w : WorkSnap} (hw : workReg a = false) (h : hostMask a = 0 ∨ L.tk.schedWrote = []) :
    (L.wordsBack w).word a = L.word a := by
  have hout : a ∉ (L.schedBack L.tk.schedWrote.reverse).workAddrs w := fun ha => by
    obtain ⟨-, h⟩ := Lane.mem_workAddrs.1 ha
    rw [hw] at h
    exact Bool.false_ne_true h
  refine (Lane.word_regsBack_other _ _ hout).trans ?_
  rcases h with hm | hs
  · exact Lane.word_schedBack hm _
  · rw [hs]
    rfl

/-! #### The state taken back -/

/-- The record of the allocation that returns, with the channel commands that came since. -/
def AllocSt.takenBack (a old : AllocSt) : AllocSt :=
  { old with chans := (old.chans.zip a.chans).map fun q => { q.1 with cmds := keepCmds q.1.cmds q.2.cmds } }

/-- An event that a discarded tick keeps: none of the work's own pages, and none of the modes'. -/
def Found.outsideWork (f : Found) : Bool := !(workReg (f.page * 0x400 + 0x20) || (decide (f.page = 2) && decide (f.bit ≠ 2 ∧ f.bit ≠ 3 ∧ f.bit ≠ 7)))

/-- Plotter, control, allocation and intake go back, with the events of their work. -/
def Lane.workBack (L : Lane) (w : WorkSnap) : Lane :=
  let L := (((L.onFound fun l => l.take w.found ++ (l.drop w.found).filter Found.outsideWork).onPlt fun _ => w.plt).onAlc fun a => a.takenBack w.alc).onNtk
    fun k => { w.ntk with fresh := k.fresh }
  let sched := L.tk.schedPend
  L.onCtl fun c =>
    { w.ctl with pend := if c.pend.isSome && !sched then c.pend else w.ctl.pend, joyX := c.joyX, joyY := c.joyY, joyN := c.joyN, joyAge := c.joyAge,
                 joyGiven := c.joyGiven }

/-- The plan of a handover to LUBBER goes back. -/
def Lane.planBack (L : Lane) (w : WorkSnap) : Lane :=
  if L.tk.lubberAfter && !w.lubberAfter then L.onRed fun r => { r with plan := w.plan } else L

/-- Mode requests and scheduled actions wait again; `due` tells that an evaluation of the mode was due. -/
def Lane.actsBack (L : Lane) (w : WorkSnap) (due : Bool) : Lane :=
  (L.onTk fun k =>
    { k with pendMode := if k.pendMode.isSome then k.pendMode else w.pendMode, sched := w.sched ++ k.sched.filter (fun a => !w.sched.contains a),
             lateMode := k.lateMode || (k.posTick && due), lubberAfter := w.lubberAfter && (L.red.plan.isSome || L.red.outgoing.isSome),
             goLubber := none, schedWrote := [], schedPend := false }).onSer fun l => l.map fun p => { p with staged := [] }

/-- The state of the tick's work goes back. -/
def Lane.stateBack (L : Lane) (w : WorkSnap) (due : Bool) : Lane := ((L.workBack w).planBack w).actsBack w due

/-- An evaluation of the mode was due in the discarded tick. -/
def Lane.modeDue (L : Lane) (w : WorkSnap) : Bool :=
  w.pendMode.isSome || decide (w.mode ≠ L.mode) || L.tk.goLubber.isSome || (L.tk.lubberAfter && !w.lubberAfter)

theorem Lane.discardWork_eq (w : WorkSnap) : L.discardWork w = ((L.wordsBack w).stateBack w (L.modeDue w)).schedShow := (rfl)

/-- The count of the tick and of its frame faults. -/
def TickSt.sameFaults (k j : TickSt) : Prop := j.count = k.count ∧ j.lost = k.lost ∧ j.faults = k.faults ∧ j.escalated = k.escalated

theorem Lane.planBack_eq (w : WorkSnap) : ∃ r, L.planBack w = L.onRed fun _ => r := by
  unfold Lane.planBack
  split_ifs
  · exact ⟨_, rfl⟩
  · exact ⟨L.red, rfl⟩

/-- The fields of the lane that the plan and the actions leave alone. -/
theorem Lane.actsBack_spec (w : WorkSnap) (due : Bool) :
    (L.actsBack w due).plt = L.plt ∧ (L.actsBack w due).ntk = L.ntk ∧ (L.actsBack w due).alc = L.alc ∧ (L.actsBack w due).chr = L.chr ∧
      (L.actsBack w due).log = L.log ∧ (L.actsBack w due).regs = L.regs ∧ L.tk.sameFaults (L.actsBack w due).tk := by
  unfold Lane.actsBack
  exact ⟨rfl, rfl, rfl, rfl, rfl, rfl, rfl, rfl, rfl, rfl⟩

theorem Lane.workBack_spec (w : WorkSnap) :
    (L.workBack w).plt = w.plt ∧ (L.workBack w).ntk = { w.ntk with fresh := L.ntk.fresh } ∧ (L.workBack w).alc = L.alc.takenBack w.alc ∧
      (L.workBack w).chr = L.chr ∧ (L.workBack w).log = L.log ∧ (L.workBack w).regs = L.regs ∧ L.tk.sameFaults (L.workBack w).tk := by
  unfold Lane.workBack
  exact ⟨rfl, rfl, rfl, rfl, rfl, rfl, rfl, rfl, rfl, rfl⟩

theorem TickSt.sameFaults.trans {k j i : TickSt} (h : k.sameFaults j) (h' : j.sameFaults i) : k.sameFaults i := by
  obtain ⟨hc, hl, hf, he⟩ := h
  obtain ⟨hc', hl', hf', he'⟩ := h'
  exact ⟨hc'.trans hc, hl'.trans hl, hf'.trans hf, he'.trans he⟩

theorem Lane.stateBack_spec (L : Lane) (w : WorkSnap) (due : Bool) :
    (L.stateBack w due).plt = w.plt ∧ (L.stateBack w due).ntk = { w.ntk with fresh := L.ntk.fresh } ∧
      (L.stateBack w due).alc = L.alc.takenBack w.alc ∧ (L.stateBack w due).chr = L.chr ∧ (L.stateBack w due).log = L.log ∧
      (L.stateBack w due).regs = L.regs ∧ L.tk.sameFaults (L.stateBack w due).tk := by
  obtain ⟨r, hr⟩ := (L.workBack w).planBack_eq w
  obtain ⟨hplt, hntk, halc, hchr, hlog, hregs, htk⟩ := L.workBack_spec w
  obtain ⟨hplt', hntk', halc', hchr', hlog', hregs', htk'⟩ := ((L.workBack w).onRed fun _ => r).actsBack_spec w due
  unfold Lane.stateBack
  rw [hr]
  exact ⟨hplt'.trans hplt, hntk'.trans hntk, halc'.trans halc, hchr'.trans hchr, hlog'.trans hlog, hregs'.trans hregs, htk.trans htk'⟩

theorem Lane.word_of_regs {L M : Lane} (h : M.regs = L.regs) (a : Nat) : M.word a = L.word a := by
  unfold Lane.word
  rw [h]

theorem Lane.word_schedShow (L : Lane) (hs : a ≠ Reg.SCHED_STAT_w.addr) (ht : a ≠ Reg.TICK_STAT_w.addr) : L.schedShow.word a = L.word a := by
  rw [Lane.schedShow_eq, Lane.queueShown, Lane.setb, Lane.word_set_other (f := Reg.TICK_STAT_SCHED_FULL) _ _ ht,
    Lane.word_set_other (f := Reg.SCHED_STAT_QUEUED) _ _ hs]

/-- The words of a discarded tick are those that went back. -/
theorem Lane.word_discardWork (w : WorkSnap) (hs : a ≠ Reg.SCHED_STAT_w.addr) (ht : a ≠ Reg.TICK_STAT_w.addr) :
    (L.discardWork w).word a = (L.wordsBack w).word a := by
  obtain ⟨-, -, -, -, -, hregs, -⟩ := (L.wordsBack w).stateBack_spec w (L.modeDue w)
  rw [Lane.discardWork_eq, Lane.word_schedShow _ hs ht, Lane.word_of_regs hregs]

theorem Lane.discardWork_spec (L : Lane) (w : WorkSnap) :
    (L.discardWork w).plt = w.plt ∧ (L.discardWork w).ntk = { w.ntk with fresh := L.ntk.fresh } ∧ (L.discardWork w).alc = L.alc.takenBack w.alc ∧
      (L.discardWork w).chr = L.chr ∧ (L.discardWork w).log = L.log ∧ L.tk.sameFaults (L.discardWork w).tk := by
  have ho := L.onlyRegs_wordsBack w
  have hntk0 : (L.wordsBack w).ntk = L.ntk := Lane.read_of_onlyRegs Lane.ntk (fun _ _ _ => rfl) ho
  have halc0 : (L.wordsBack w).alc = L.alc := Lane.read_of_onlyRegs Lane.alc (fun _ _ _ => rfl) ho
  have hchr0 : (L.wordsBack w).chr = L.chr := Lane.read_of_onlyRegs Lane.chr (fun _ _ _ => rfl) ho
  have hlog0 : (L.wordsBack w).log = L.log := Lane.read_of_onlyRegs Lane.log (fun _ _ _ => rfl) ho
  have htk0 : (L.wordsBack w).tk = L.tk := Lane.read_of_onlyRegs Lane.tk (fun _ _ _ => rfl) ho
  obtain ⟨hplt, hntk, halc, hchr, hlog, -, htk⟩ := (L.wordsBack w).stateBack_spec w (L.modeDue w)
  rw [hntk0] at hntk
  rw [halc0] at halc
  rw [htk0] at htk
  have hshow (N : Lane) : N.schedShow.plt = N.plt ∧ N.schedShow.ntk = N.ntk ∧ N.schedShow.alc = N.alc ∧ N.schedShow.chr = N.chr ∧
      N.schedShow.log = N.log ∧ N.schedShow.tk = N.tk := ⟨rfl, rfl, rfl, rfl, rfl, rfl⟩
  obtain ⟨hplt', hntk', halc', hchr', hlog', htk'⟩ := hshow ((L.wordsBack w).stateBack w (L.modeDue w))
  rw [Lane.discardWork_eq, hplt', hntk', halc', hchr', hlog', htk']
  exact ⟨hplt, hntk, halc, hchr.trans hchr0, hlog.trans hlog0, htk⟩

/-! #### The fault counted -/

/-- The faults of the last 1000 ticks, by the tick's count, with this one's. -/
def Lane.faultsNow (L : Lane) (fault : Bool) : List Nat := (if fault then L.tk.count :: L.tk.faults else L.tk.faults).filter fun t => decide (L.tk.count < t + 1000)

def Lane.windowCounted (L : Lane) (fault : Bool) : Lane :=
  (L.onTk fun k => { k with faults := L.faultsNow fault }).setSat Reg.FRAME_CNT_WINDOW (L.faultsNow fault).length

theorem Lane.faultCount_true : L.faultCount true = ((L.windowCounted true).incSat Reg.FRAME_CNT_TOTAL).incSat Reg.FRAME_CNT_CONSEC := (rfl)

theorem Lane.faultCount_false : L.faultCount false = (L.windowCounted false).set Reg.FRAME_CNT_CONSEC 0 := (rfl)

theorem Lane.get_windowCounted (fault : Bool) {g : Fld} (hg : g.lo + g.w ≤ 32) (ha : g.apart Reg.FRAME_CNT_WINDOW) :
    (L.windowCounted fault).get g = L.get g := (Lane.get_set_apart _ _ (by decide) hg ha).trans (L.onTk_get _ g)

/-- A tick without a fault restarts the consecutive count. -/
theorem Lane.get_faultCount_false : (L.faultCount false).get Reg.FRAME_CNT_CONSEC = 0 ∧
    (L.faultCount false).get Reg.FRAME_CNT_TOTAL = L.get Reg.FRAME_CNT_TOTAL := by
  rw [Lane.faultCount_false]
  exact ⟨Lane.get_set_fit _ _ (by decide) (by decide),
    (Lane.get_set_apart _ _ (by decide) (by decide) (by decide)).trans (Lane.get_windowCounted _ (by decide) (by decide))⟩

theorem Lane.get_faultCount_true : (L.faultCount true).get Reg.FRAME_CNT_TOTAL = min (L.get Reg.FRAME_CNT_TOTAL + 1) 65535 ∧
    (L.faultCount true).get Reg.FRAME_CNT_CONSEC = min (L.get Reg.FRAME_CNT_CONSEC + 1) 255 := by
  have htotal := (L.windowCounted true).get_incSat Reg.FRAME_CNT_TOTAL 1 (by decide)
  rw [Lane.get_windowCounted _ (by decide) (by decide)] at htotal
  have hconsec : ((L.windowCounted true).incSat Reg.FRAME_CNT_TOTAL).get Reg.FRAME_CNT_CONSEC = L.get Reg.FRAME_CNT_CONSEC :=
    (Lane.get_set_apart _ _ (by decide) (by decide) (by decide)).trans (Lane.get_windowCounted _ (by decide) (by decide))
  rw [Lane.faultCount_true]
  refine ⟨(Lane.get_set_apart _ _ (by decide) (by decide) (by decide)).trans htotal, ?_⟩
  rw [Lane.get_incSat _ _ _ (by decide), hconsec]
  norm_num

theorem Lane.get_incSat_addr {f g : Fld} (n : Nat) (h : g.addr ≠ f.addr) : (L.incSat f n).get g = L.get g := by
  rw [Lane.incSat, Lane.setSat, Lane.get_set_addr _ _ h]

theorem Lane.get_faultCount_addr (fault : Bool) {g : Fld} (ha : g.addr ≠ Reg.FRAME_CNT_w.addr) : (L.faultCount fault).get g = L.get g := by
  have hwin : (L.windowCounted fault).get g = L.get g := by
    rw [Lane.windowCounted, Lane.setSat, Lane.get_set_addr (g := Reg.FRAME_CNT_WINDOW) _ _ ha, Lane.onTk_get]
  cases fault
  · rw [Lane.faultCount_false, Lane.get_set_addr (g := Reg.FRAME_CNT_CONSEC) _ _ ha, hwin]
  · rw [Lane.faultCount_true, Lane.get_incSat_addr (f := Reg.FRAME_CNT_CONSEC) _ ha, Lane.get_incSat_addr (f := Reg.FRAME_CNT_TOTAL) _ ha, hwin]

theorem Lane.found_faultCount (fault : Bool) : (L.faultCount fault).found = L.found := by cases fault <;> rfl

theorem Lane.tk_faultCount (fault : Bool) : (L.faultCount fault).tk = { L.tk with faults := L.faultsNow fault } := by cases fault <;> rfl

theorem Lane.now_faultCount (fault : Bool) : (L.faultCount fault).now = L.now := by cases fault <;> rfl

/-! #### Escalation -/

/-- The escalation's conditions hold (R74). -/
def Lane.escalates (L : Lane) : Bool := decide (3 ≤ L.get Reg.FRAME_CNT_CONSEC) || decide (20 ≤ L.tk.faults.length)

/-- The lane with its escalation noted. -/
def Lane.escalationNoted (L : Lane) : Lane := L.onTk fun k => { k with escalated := L.escalates }

/-- The lane with its escalation shown. -/
def Lane.escalationShown (L : Lane) : Lane := (L.degrade.setb Reg.TICK_FAULT_FRAME_ESCALATED true).find 0x02 3

theorem Lane.escalate_eq : L.escalate = if L.escalates && !L.tk.escalated then L.escalationNoted.escalationShown else L.escalationNoted := (rfl)

theorem Lane.get_escalate {g : Fld} (hd : g.addr ≠ Reg.LANE_STAT_DEGRADED.addr) (hf : g.addr ≠ Reg.TICK_FAULT_FRAME_ESCALATED.addr) :
    L.escalate.get g = L.get g := by
  rw [Lane.escalate_eq]
  split_ifs
  · exact (Lane.get_set_addr _ _ hf).trans (Lane.get_set_addr _ _ hd)
  · rfl

theorem Lane.tk_escalate : L.escalate.tk = { L.tk with escalated := L.escalates } := by
  rw [Lane.escalate_eq]
  split_ifs <;> rfl

theorem Lane.mem_found_escalate {e : Found} (h : e ∈ L.found) : e ∈ L.escalate.found := by
  rw [Lane.escalate_eq]
  split_ifs
  · exact List.mem_append_left _ h
  · exact h

theorem Lane.escalate_rise (h : L.escalates = true) (hn : L.tk.escalated = false) :
    L.escalate.get Reg.TICK_FAULT_FRAME_ESCALATED = 1 ∧ L.escalate.get Reg.LANE_STAT_DEGRADED = 1 ∧ L.ev 0x02 3 ∈ L.escalate.found := by
  rw [Lane.escalate_eq, if_pos (by rw [h, hn]; rfl), Lane.escalationShown]
  refine ⟨?_, ?_, List.mem_append_right _ (List.mem_singleton_self _)⟩
  · rw [Lane.find_get, Lane.get_setb _ _ _ (by decide) (by decide)]
    rfl
  · rw [Lane.find_get, Lane.setb, Lane.get_set_addr _ _ (by decide), Lane.degrade_degraded]

/-! #### The fault -/

/-- The lane without the tick's work, which a lane that has just entered mode 2 keeps. -/
def Lane.workDropped (L : Lane) : Lane := match L.work with
  | some w => if L.mode = 2 ∧ w.mode ≠ 2 then L else L.discardWork w
  | none => L

/-- The lane with the lost tick shown: a margin of 0, named after engine `n`. -/
def Lane.tickLost (L : Lane) (n : Nat) : Lane :=
  ((L.setAll [(Reg.TICK_MARGIN_MARGIN, 0), (Reg.TICK_MARGIN_ENGINE, if n = 16 then 0xF else engCode n)]).onTk fun k => { k with lost := k.lost + 1000000 }).find
    0x02 2

theorem Lane.frameFault_eq (n : Nat) : L.frameFault n = ((L.workDropped.tickLost (lowestEngine n)).faultCount true).escalate := (rfl)

theorem Lane.workDropped_cases (L : Lane) : L.workDropped = L ∨ ∃ w, L.workDropped = L.discardWork w := by
  unfold Lane.workDropped
  cases L.work with
  | none => exact .inl rfl
  | some w =>
    dsimp only
    split_ifs
    · exact .inl rfl
    · exact .inr ⟨w, rfl⟩

/-- Dropping the work leaves the counts of faults and the time. -/
theorem Lane.workDropped_spec (L : Lane) :
    L.tk.sameFaults L.workDropped.tk ∧ L.workDropped.word Reg.FRAME_CNT_w.addr = L.word Reg.FRAME_CNT_w.addr ∧ L.workDropped.now = L.now := by
  obtain h | ⟨w, h⟩ := L.workDropped_cases
  · rw [h]
    exact ⟨⟨rfl, rfl, rfl, rfl⟩, rfl, rfl⟩
  · obtain ⟨-, -, -, hchr, -, htk⟩ := L.discardWork_spec w
    rw [h]
    refine ⟨htk, (Lane.word_discardWork w (by decide) (by decide)).trans (Lane.word_wordsBack_other (by decide) (.inl (by decide))), ?_⟩
    unfold Lane.now
    rw [hchr]

theorem Lane.tickLost_spec (L : Lane) (n : Nat) :
    (L.tickLost n).get Reg.TICK_MARGIN_MARGIN = 0 ∧ (∀ g : Fld, g.addr ≠ Reg.TICK_MARGIN_w.addr → (L.tickLost n).get g = L.get g) ∧
      L.ev 0x02 2 ∈ (L.tickLost n).found ∧ (L.tickLost n).tk = { L.tk with lost := L.tk.lost + 1000000 } ∧ (L.tickLost n).now = L.now := by
  unfold Lane.tickLost
  rw [Lane.setAll_cons, Lane.setAll_cons, Lane.setAll_nil]
  refine ⟨?_, fun g hg => ?_, List.mem_append_right _ (List.mem_singleton_self _), rfl, rfl⟩
  · rw [Lane.find_get, Lane.onTk_get, Lane.get_set_apart _ _ (by decide) (by decide) (by decide), Lane.get_set_fit _ _ (by decide) (by decide)]
  · rw [Lane.find_get, Lane.onTk_get, Lane.get_set_addr (g := Reg.TICK_MARGIN_ENGINE) _ _ hg, Lane.get_set_addr (g := Reg.TICK_MARGIN_MARGIN) _ _ hg]

/-- The lane as a frame fault finds it, without the work and with the lost tick shown. -/
def Lane.faulted (L : Lane) (n : Nat) : Lane := L.workDropped.tickLost (lowestEngine n)

theorem Lane.faulted_spec (L : Lane) (n : Nat) :
    (∀ g : Fld, g.addr = Reg.FRAME_CNT_w.addr → (L.faulted n).get g = L.get g) ∧ (L.faulted n).get Reg.TICK_MARGIN_MARGIN = 0 ∧
      L.ev 0x02 2 ∈ (L.faulted n).found ∧ (L.faulted n).tk.lost = L.tk.lost + 1000000 ∧ (L.faulted n).tk.escalated = L.tk.escalated ∧
      (L.faulted n).now = L.now := by
  obtain ⟨⟨-, hlost, -, hesc⟩, hword, hnow⟩ := L.workDropped_spec
  obtain ⟨hmargin, hother, hfound, htk, hnow'⟩ := L.workDropped.tickLost_spec (lowestEngine n)
  have hev : L.workDropped.ev 0x02 2 = L.ev 0x02 2 := congrArg (Found.mk 0x02 2) hnow
  refine ⟨fun g hg => ?_, hmargin, hev ▸ hfound, ?_, ?_, hnow'.trans hnow⟩
  · refine (hother g (by rw [hg]; decide)).trans ?_
    unfold Lane.get
    rw [hg, hword]
  · unfold Lane.faulted
    rw [htk, hlost]
  · unfold Lane.faulted
    rw [htk, hesc]

/-- The counts and the escalation of a frame fault. -/
theorem Lane.frameFault_spec (L : Lane) (n : Nat) :
    (L.frameFault n).get Reg.FRAME_CNT_TOTAL = min (L.get Reg.FRAME_CNT_TOTAL + 1) 65535 ∧
      (L.frameFault n).get Reg.FRAME_CNT_CONSEC = min (L.get Reg.FRAME_CNT_CONSEC + 1) 255 ∧
      (L.frameFault n).get Reg.TICK_MARGIN_MARGIN = 0 ∧ L.ev 0x02 2 ∈ (L.frameFault n).found ∧ (L.frameFault n).tk.lost = L.tk.lost + 1000000 ∧
      (2 ≤ L.get Reg.FRAME_CNT_CONSEC → L.tk.escalated = false →
        (L.frameFault n).get Reg.TICK_FAULT_FRAME_ESCALATED = 1 ∧ (L.frameFault n).get Reg.LANE_STAT_DEGRADED = 1 ∧
          L.ev 0x02 3 ∈ (L.frameFault n).found ∧ (L.frameFault n).tk.escalated = true) := by
  obtain ⟨hcnt, hmargin, hfound, hlost, hesc, hnow⟩ := L.faulted_spec n
  obtain ⟨htotal, hconsec⟩ := (L.faulted n).get_faultCount_true
  rw [hcnt Reg.FRAME_CNT_TOTAL rfl] at htotal
  rw [hcnt Reg.FRAME_CNT_CONSEC rfl] at hconsec
  have htk := (L.faulted n).tk_faultCount true
  have heq : L.frameFault n = ((L.faulted n).faultCount true).escalate := L.frameFault_eq n
  rw [heq]
  refine ⟨(Lane.get_escalate (by decide) (by decide)).trans htotal, (Lane.get_escalate (by decide) (by decide)).trans hconsec,
    (Lane.get_escalate (by decide) (by decide)).trans ((Lane.get_faultCount_addr true (by decide)).trans hmargin),
    Lane.mem_found_escalate (by rwa [Lane.found_faultCount]), ?_, fun h2 hn => ?_⟩
  · rw [Lane.tk_escalate, htk]
    exact hlost
  · have hon : ((L.faulted n).faultCount true).escalates = true := by
      unfold Lane.escalates
      rw [hconsec, decide_eq_true (show 3 ≤ min (L.get Reg.FRAME_CNT_CONSEC + 1) 255 by omega), Bool.true_or]
    obtain ⟨hshown, hdeg, hev⟩ := Lane.escalate_rise hon (by rw [htk]; exact hesc.trans hn)
    have hat : ((L.faulted n).faultCount true).ev 0x02 3 = L.ev 0x02 3 := congrArg (Found.mk 0x02 3) ((Lane.now_faultCount true).trans hnow)
    refine ⟨hshown, hdeg, hat ▸ hev, ?_⟩
    rw [Lane.tk_escalate]
    exact hon

end

/-- Settles O16: the count and the escalation, and the discarded work register by register. -/
theorem frameFault : Obligations.FrameFault := by
  unfold Obligations.FrameFault
  intro L n
  obtain ⟨htotal, hconsec, hmargin, hfound, hlost, hesc⟩ := L.frameFault_spec n
  obtain ⟨hzero, hkept⟩ := Lane.get_faultCount_false (L := L)
  refine ⟨htotal, hconsec, hmargin, hfound, hlost, hesc, hzero, hkept, fun w => ?_⟩
  obtain ⟨hplt, hntk, halc, hchr, hlog, -⟩ := L.discardWork_spec w
  have hne {a : Nat} {v : Bool} (h : workReg a = v) {b : Nat} (hb : workReg b = !v) : a ≠ b := fun hab => by
    rw [hab, hb] at h
    cases v <;> exact Bool.noConfusion h
  refine ⟨hplt, hntk, halc, hchr, hlog, fun a hw hm hs => ?_, fun a hw ht h => ?_⟩
  · exact (Lane.word_discardWork w hs (hne hw (by decide))).trans (Lane.word_wordsBack_work hw hm)
  · exact (Lane.word_discardWork w (hne hw (by decide)) ht).trans (Lane.word_wordsBack_other hw h)

end Sys2Proof.Machine

end

section
/-! ### Start-up (02 R88-R92, R95, R98) -/

namespace Sys2Proof.Machine

open Sys2Proof

/-! #### The release of reset: what the clocks and the supplies show -/

/-- Nothing of the lane differs but the words of the clock and supply pages, the events found, and its clock and supply records. -/
def Lane.keepsOffPower (L M : Lane) : Prop :=
  (∀ a, a / 0x400 ≠ 4 → a / 0x400 ≠ 5 → M.word a = L.word a) ∧ { M with regs := L.regs, found := L.found, clk := L.clk, pwr := L.pwr } = L

section

variable {L M N : Lane}

theorem Lane.keepsOffPower_refl (L : Lane) : L.keepsOffPower L := ⟨fun _ _ _ => rfl, rfl⟩

theorem Lane.keepsOffPower.get_eq (h : L.keepsOffPower M) {g : Fld} (h4 : g.addr / 0x400 ≠ 4) (h5 : g.addr / 0x400 ≠ 5) : M.get g = L.get g :=
  congrArg g.of (h.1 g.addr h4 h5)

/-- What is read of a lane without those reads the same. -/
theorem Lane.keepsOffPower.read {α : Type} (h : L.keepsOffPower M) (g : Lane → α)
    (hg : ∀ (N : Lane) r e c p, g { N with regs := r, found := e, clk := c, pwr := p } = g N) : g M = g L :=
  (hg M L.regs L.found L.clk L.pwr).symm.trans (congrArg g h.2)

theorem Lane.keepsOffPower_set {f : Fld} (v : Nat) (hf : f.addr / 0x400 = 4 ∨ f.addr / 0x400 = 5) (h : L.keepsOffPower M) :
    L.keepsOffPower (M.set f v) := by
  obtain ⟨hw, hrest⟩ := h
  refine ⟨fun a h4 h5 => (M.word_set_other v fun ha => ?_).trans (hw a h4 h5), hrest⟩
  rw [← ha] at hf
  exact hf.elim h4 h5

theorem Lane.keepsOffPower_ite {p : Prop} [Decidable p] (hM : L.keepsOffPower M) (hN : L.keepsOffPower N) : L.keepsOffPower (if p then M else N) := by
  split_ifs <;> assumption

theorem Lane.keepsOffPower_setAll (r : List (Fld × Nat)) : ∀ {M : Lane}, (∀ p ∈ r, p.1.addr / 0x400 = 4 ∨ p.1.addr / 0x400 = 5) →
    L.keepsOffPower M → L.keepsOffPower (M.setAll r) := by
  induction r with
  | nil => exact fun _ h => h
  | cons p r ih =>
    intro M hr h
    obtain ⟨hp, hr⟩ := List.forall_mem_cons.1 hr
    exact ih hr (Lane.keepsOffPower_set p.2 hp h)

theorem Lane.keepsOffPower_find (p b : Nat) (h : L.keepsOffPower M) : L.keepsOffPower (M.find p b) := h

theorem Lane.keepsOffPower_findIf (c : Bool) (p b : Nat) (h : L.keepsOffPower M) : L.keepsOffPower (M.findIf c p b) := by cases c <;> exact h

theorem Lane.keepsOffPower_onClk (f : ClockSt → ClockSt) (h : L.keepsOffPower M) : L.keepsOffPower (M.onClk f) := h

theorem Lane.keepsOffPower_onPwr (f : PowerSt → PowerSt) (h : L.keepsOffPower M) : L.keepsOffPower (M.onPwr f) := h

theorem Lane.keepsOffPower_gatesAtReset (h : L.keepsOffPower M) : L.keepsOffPower M.gatesAtReset := by
  have h0 := Lane.keepsOffPower_set (f := Reg.CLK_GATE0_MASK) (0xFFFF - M.variant.engines) (.inl (by decide)) h
  exact Lane.keepsOffPower_ite h0 (Lane.keepsOffPower_set _ (.inl (by decide)) (Lane.keepsOffPower_set _ (.inl (by decide)) h0))

theorem Lane.keepsOffPower_orderViolation (code : Nat) (h : L.keepsOffPower M) : L.keepsOffPower (M.orderViolation code) :=
  Lane.keepsOffPower_find _ _ (Lane.keepsOffPower_set _ (.inr (by decide)) (Lane.keepsOffPower_set _ (.inr (by decide))
    (Lane.keepsOffPower_set _ (.inr (by decide)) h)))

theorem Lane.keepsOffPower_pwrStat (h : L.keepsOffPower M) : L.keepsOffPower M.pwrStat :=
  Lane.keepsOffPower_set _ (.inr (by decide)) (Lane.keepsOffPower_set _ (.inr (by decide)) (Lane.keepsOffPower_set _ (.inr (by decide))
    (Lane.keepsOffPower_set _ (.inr (by decide)) h)))

theorem Lane.keepsOffPower_supplyAtStart (f : StartFindings) (h : L.keepsOffPower M) : L.keepsOffPower (M.supplyAtStart f) := by
  unfold Lane.supplyAtStart
  extract_lets L1 lost gone L2 L3 L4 L5
  have h1 : L.keepsOffPower L1 := Lane.keepsOffPower_setAll _ (by simp) h
  have h2 : L.keepsOffPower L2 := Lane.keepsOffPower_ite (Lane.keepsOffPower_orderViolation _ h1) h1
  have h3 : L.keepsOffPower L3 := Lane.keepsOffPower_ite (Lane.keepsOffPower_orderViolation _ h2) h2
  have h4 : L.keepsOffPower L4 :=
    Lane.keepsOffPower_ite h3 (Lane.keepsOffPower_orderViolation _ (Lane.keepsOffPower_set _ (.inr (by decide)) h3))
  have h5 : L.keepsOffPower L5 := Lane.keepsOffPower_ite (Lane.keepsOffPower_find _ _ (Lane.keepsOffPower_set _ (.inr (by decide)) h4)) h4
  exact Lane.keepsOffPower_pwrStat (Lane.keepsOffPower_set _ (.inr (by decide)) (Lane.keepsOffPower_onPwr _ h5))

theorem Lane.keepsOffPower_clkStat (h : L.keepsOffPower M) : L.keepsOffPower M.clkStat :=
  Lane.keepsOffPower_findIf _ _ _ (Lane.keepsOffPower_setAll _ (by simp) (Lane.keepsOffPower_set _ (.inl (by decide))
    (Lane.keepsOffPower_set _ (.inl (by decide)) (Lane.keepsOffPower_set _ (.inl (by decide)) (Lane.keepsOffPower_onClk _ h)))))

theorem Lane.keepsOffPower_showPending (h : L.keepsOffPower M) : L.keepsOffPower M.showPending := Lane.keepsOffPower_set _ (.inr (by decide)) h

theorem Lane.keepsOffPower_lifeShow (h : L.keepsOffPower M) : L.keepsOffPower M.lifeShow :=
  Lane.keepsOffPower_set _ (.inr (by decide)) (Lane.keepsOffPower_set _ (.inr (by decide)) h)

/-! #### The release of reset: the lane -/

/-- The start-up state that a lane leaves reset with. -/
def Lane.startBoot (L : Lane) (f : StartFindings) : BootSt :=
  { L.bootAtStart f with beganMs := if f.bootAreaOk then L.pwr.poweredMs else (L.bootAtStart f).snapPowered }

/-- The lane at the release of reset, before its first registers. -/
def Lane.startBase (L : Lane) (f : StartFindings) : Lane :=
  { id := L.id, variant := L.variant, regs := keepWords f.bootAreaOk L.regs, boot := L.startBoot f,
    chart := { bank0 := L.chart.bank0, bank1 := L.chart.bank1, cur := L.chart.cur }, log := L.log.start f.bootAreaOk,
    chr := { f := (L.bootAtStart f).snapF },
    pwr := L.pwr.start (if f.bootAreaOk then L.pwr.lifeMean else (L.bootAtStart f).snapMean)
      (if f.bootAreaOk then L.pwr.poweredMs else (L.bootAtStart f).snapPowered),
    sf := { password := L.sf.password, initial := L.sf.initial, log := L.sf.log }, free := L.free }

/-- The registers that a start sets. -/
def Lane.startRegs (L : Lane) (b : BootSt) : List (Fld × Nat) :=
  [(Reg.BOOT_CAUSE_CAUSE, b.cause.code), (Reg.BOOT_CAUSE_LAST_FAIL, b.mem.lastFail), (Reg.BOOT_CAUSE_COUNT, b.mem.failCount),
    (Reg.TICK_FAULT_START_FAILED, if b.mem.failCount = 0 then 0 else 1), (Reg.RED_ROLE_ROLE, Role.boot.code), (Reg.LOG_STAT_INDEXING, 1),
    (Reg.LOG_SICK_CNT_LOST, 0), (Reg.LOG_STAT_RECORDING, 1), (Reg.RED_FW_STAT_STATE, if b.trial.isSome then 4 else if b.rejected then 3 else 0),
    (Reg.LANE_ENG_PRESENT_w, L.variant.engines), (Reg.RED_ABLE_NOT_ABLE, 1)]

/-- The lane with those registers. -/
def Lane.startShown (L : Lane) (f : StartFindings) : Lane := (L.startBase f).setAll (L.startRegs (L.startBoot f))

theorem Lane.start_eq (f : StartFindings) : L.start f = ((((L.startShown f).gatesAtReset).supplyAtStart f).clkStat.showPending).lifeShow := (rfl)

theorem Lane.keepsOffPower_start (f : StartFindings) : (L.startShown f).keepsOffPower (L.start f) := by
  rw [Lane.start_eq]
  exact Lane.keepsOffPower_lifeShow (Lane.keepsOffPower_showPending (Lane.keepsOffPower_clkStat (Lane.keepsOffPower_supplyAtStart f
    (Lane.keepsOffPower_gatesAtReset (Lane.keepsOffPower_refl _)))))

/-- The fields of those registers. -/
def startFlds : List Fld :=
  [Reg.BOOT_CAUSE_CAUSE, Reg.BOOT_CAUSE_LAST_FAIL, Reg.BOOT_CAUSE_COUNT, Reg.TICK_FAULT_START_FAILED, Reg.RED_ROLE_ROLE, Reg.LOG_STAT_INDEXING,
    Reg.LOG_SICK_CNT_LOST, Reg.LOG_STAT_RECORDING, Reg.RED_FW_STAT_STATE, Reg.LANE_ENG_PRESENT_w, Reg.RED_ABLE_NOT_ABLE]

theorem startRegs_flds (b : BootSt) : (L.startRegs b).map Prod.fst = startFlds := rfl

theorem startRegs_fit (b : BootSt) : ∀ p ∈ L.startRegs b, p.1 ∈ startFlds ∧ p.1.lo + p.1.w ≤ 32 := fun p hp => by
  have hmem : p.1 ∈ startFlds := startRegs_flds (L := L) b ▸ List.mem_map_of_mem hp
  exact ⟨hmem, (show ∀ f ∈ startFlds, f.lo + f.w ≤ 32 by decide) _ hmem⟩

/-- A register that a start sets reads as set. -/
theorem Lane.get_startShown (f : StartFindings) {g : Fld} {v : Nat} (hp : (g, v) ∈ L.startRegs (L.startBoot f)) :
    (L.startShown f).get g = v % 2 ^ g.w :=
  Lane.get_setAll _ _ (fun p hp => (startRegs_fit _ p hp).2) (by rw [startRegs_flds]; decide) (g, v) hp

/-- The words that a start may leave. -/
def keptAddrs : List Nat := [(Reg.PWR_IN_w 1).addr, (Reg.PWR_IN_w 2).addr, Reg.LANE_LOCKSTEP_CNT_w.addr, Reg.LOG_SICK_CNT_w.addr]

theorem mem_keptAddrs_of_keepWords {kept : Bool} {m : List (Nat × Word)} {a : Nat} (h : a ∈ (keepWords kept m).map Prod.fst) : a ∈ keptAddrs := by
  obtain ⟨e, he, rfl⟩ := List.mem_map.1 h
  have hkeep := (List.mem_filter.1 he).2
  simp only [Bool.or_eq_true, Bool.and_eq_true, decide_eq_true_eq] at hkeep
  unfold keptAddrs
  grind

/-- Any other register than those set and those left reads its reset value. -/
theorem Lane.get_startShown_reset (f : StartFindings) {g : Fld} (hg : g.lo + g.w ≤ 32 ∧ ∀ h ∈ startFlds, g.apart h) (hkeep : g.addr ∉ keptAddrs) :
    (L.startShown f).get g = g.reset := by
  have hset : (L.startShown f).get g = (L.startBase f).get g :=
    (Lane.framed_setAll _ (startRegs_fit _) (Lane.framed_refl _ startFlds)).1.get_eq hg
  have hword : (L.startBase f).word g.addr = resetWord g.addr := sparseGet_of_not_mem _ _ fun h => hkeep (mem_keptAddrs_of_keepWords h)
  rw [hset]
  exact congrArg g.of hword

/-- What is read without registers, events, clocks and supplies reads as the start found it. -/
theorem Lane.start_read {α : Type} (L : Lane) (f : StartFindings) (g : Lane → α)
    (hg : ∀ (N : Lane) r e c p, g { N with regs := r, found := e, clk := c, pwr := p } = g N) : g (L.start f) = g (L.startBase f) := by
  obtain ⟨-, -, honly⟩ := Lane.framed_setAll (es := []) _ (startRegs_fit (L.startBoot f)) (Lane.framed_refl (L.startBase f) startFlds)
  exact ((L.keepsOffPower_start f).read g hg).trans (Lane.read_of_onlyRegs g (fun N r e => hg N r e N.clk N.pwr) honly)

/-- The lane that leaves reset. -/
theorem Lane.start_spec (L : Lane) (f : StartFindings) :
    (L.start f).boot = L.startBoot f ∧ (L.start f).get Reg.BOOT_CAUSE_CAUSE = L.boot.cause.code % 256 ∧ (L.start f).role = 1 ∧
      (L.start f).active = false ∧ (L.start f).get Reg.TICK_CNT_COUNT = 0 ∧ (L.start f).get Reg.LOG_STAT_INDEXING = 1 ∧
      (L.start f).chart = { bank0 := L.chart.bank0, bank1 := L.chart.bank1, cur := L.chart.cur } ∧ (L.start f).rap = {} ∧ (L.start f).tk = {} ∧
      (L.start f).id = L.id ∧ (L.start f).variant = L.variant := by
  have hp := L.keepsOffPower_start f
  have hcause : (L.startBoot f).cause = L.boot.cause := by
    unfold Lane.startBoot Lane.bootAtStart
    dsimp only
    split_ifs <;> rfl
  refine ⟨?_, ?_, ?_, ?_, ?_, ?_, ?_, ?_, ?_, ?_, ?_⟩
  · exact L.start_read f Lane.boot fun _ _ _ _ _ => rfl
  · rw [hp.get_eq (by decide) (by decide), L.get_startShown f (v := (L.startBoot f).cause.code) (by simp [Lane.startRegs]), hcause]
    rfl
  · exact (hp.get_eq (by decide) (by decide)).trans (L.get_startShown f (v := Role.boot.code) (by simp [Lane.startRegs]))
  · have h0 : (L.start f).get Reg.LANE_STAT_ACTIVE = 0 :=
      (hp.get_eq (by decide) (by decide)).trans ((L.get_startShown_reset f (by decide) (by decide)).trans (by decide))
    unfold Lane.active Lane.flag
    rw [h0]
    rfl
  · exact (hp.get_eq (by decide) (by decide)).trans ((L.get_startShown_reset f (by decide) (by decide)).trans (by decide))
  · exact (hp.get_eq (by decide) (by decide)).trans (L.get_startShown f (v := 1) (by simp [Lane.startRegs]))
  · exact L.start_read f Lane.chart fun _ _ _ _ _ => rfl
  · exact L.start_read f Lane.rap fun _ _ _ _ _ => rfl
  · exact L.start_read f Lane.tk fun _ _ _ _ _ => rfl
  · exact L.start_read f Lane.id fun _ _ _ _ _ => rfl
  · exact L.start_read f Lane.variant fun _ _ _ _ _ => rfl

end

/-! #### DRIVE asked for, and withdrawn without the grant -/

section

variable {s : State} {l : LaneId}

/-- The interlock after a request that found it free: the lane's window is open. -/
def InterlockSt.asked (k : InterlockSt) (l : LaneId) : InterlockSt := (k.request l).setGrant (.window l)

theorem InterlockSt.drive_asked (k : InterlockSt) (l : LaneId) : (k.asked l).drive l = true := by simp [InterlockSt.asked]

/-- A request on a free interlock opens the lane's window, and does nothing else. -/
theorem State.moving_driveUp_free (hp : s.sharedPower = true) (hg : s.sh.lock.grant = .free) (hd : s.sh.lock.drive l = false) :
    (s.moving fun s => s.driveUp l) = s.onLock fun _ => s.sh.lock.asked l := by
  have hask := InterlockSt.assertDrive_free hd hg
  rw [State.moving_same (by simpa using hp), State.driveUp_quiet hask]
  · rfl
  · intro m
    rw [State.lock_driveUp, hask, InterlockSt.holds_of_noHolder (by simp), InterlockSt.holds_of_noHolder (by simp [hg])]

/-- A lane that asked for the grant with a change of its own state: its window is open, and the other lane as it was. -/
theorem State.asked_spec (f : Lane → Lane) :
    let t := (s.onLock fun _ => s.sh.lock.asked l).upd l f
    t.sh.lock.grant = .window l ∧ t.sh.lock.drive l = true ∧ t.lane l = f (s.lane l) ∧ t.lane l.other = s.lane l.other := by
  dsimp only
  rw [State.lock_upd, State.lock_onLock, State.lane_upd, State.lane_upd_other, State.lane_onLock, State.lane_onLock]
  exact ⟨rfl, InterlockSt.drive_asked _ _, rfl, rfl⟩

/-- A lane without the grant that withdraws DRIVE changes nobody's hold of it. -/
theorem InterlockSt.holds_release {k : InterlockSt} (h : k.grant ≠ .held l) (c : Option TakeCause) (m : LaneId) :
    (k.release l c).holds m = k.holds m := by
  have hdrop : (k.dropGrant l c).holds m = k.holds m := by
    unfold InterlockSt.dropGrant
    rw [if_neg (by simpa [InterlockSt.holds] using h)]
    split_ifs with hw
    · simp [InterlockSt.holds, hw]
    · rfl
  rw [← hdrop]
  exact InterlockSt.holds_congr (k.grant_release l c) m

theorem State.moving_driveDown_unheld (hp : s.sharedPower = true) (hg : s.sh.lock.grant ≠ .held l) (c : Option TakeCause) :
    (s.moving fun s => s.driveDown l c) = s.driveDown l c :=
  State.moving_same (by simpa [State.driveDown] using hp) fun m => by
    rw [State.lock_driveDown]
    exact InterlockSt.holds_release hg c m

end

/-! #### Step 7 -/

section

variable {L : Lane}

/-- Step 7 before the chronometer's status is shown. -/
def Lane.tickBase (L : Lane) (t : Rat) (ok : Bool) : Lane :=
  (((L.onChr fun c => { c with ns := t, slewT := t }).set Reg.CHR_SYNC_STATE (if ok then 1 else 0)).onBoot fun b => { b with phase := .running }).set
    Reg.TICK_POS_TICK (nsOf t / 1000000)

theorem Lane.tickBegins_eq (time : Option (Rat × Bool)) :
    L.tickBegins time = (L.tickBase ((time.map Prod.fst).getD 0) ((time.map Prod.snd).getD false)).chrStat := (rfl)

/-- The fields that the beginning of the tick writes. -/
def tickFlds : List Fld := Reg.CHR_SYNC_STATE :: Reg.TICK_POS_TICK :: chrStatFlds

theorem Lane.get_tickBegins (time : Option (Rat × Bool)) {g : Fld} (hg : g.lo + g.w ≤ 32 ∧ ∀ f ∈ tickFlds, g.apart f) :
    (L.tickBegins time).get g = L.get g := by
  obtain ⟨hfit, ha⟩ := hg
  obtain ⟨hsync, ha⟩ := List.forall_mem_cons.1 ha
  obtain ⟨hpos, hstat⟩ := List.forall_mem_cons.1 ha
  rw [Lane.tickBegins_eq, (Lane.writesOnly_chrStat _).1.get_eq ⟨hfit, hstat⟩, Lane.tickBase, Lane.get_set_apart _ _ (by decide) hfit hpos,
    Lane.onBoot_get, Lane.get_set_apart _ _ (by decide) hfit hsync, Lane.onChr_get]

/-- What is read without registers, events and status reads as the tick's first time gives it. -/
theorem Lane.tickBegins_read {α : Type} (time : Option (Rat × Bool)) (g : Lane → α) (hg : ∀ (N : Lane) r e, g { N with regs := r, found := e } = g N) :
    g (L.tickBegins time) = g (L.tickBase ((time.map Prod.fst).getD 0) ((time.map Prod.snd).getD false)) := by
  rw [Lane.tickBegins_eq]
  exact Lane.read_of_onlyRegs g hg (Lane.writesOnly_chrStat _).2

/-- The lane whose tick begins and which is to find its role. -/
def Lane.deciding (L : Lane) (time : Option (Rat × Bool)) : Lane :=
  ((L.tickBegins time).onBoot fun b => { b with deciding := some 0 }).set Reg.LANE_ENG_HEALTHY_w (L.tickBegins time).variant.engines

theorem Lane.boot_deciding (time : Option (Rat × Bool)) : (L.deciding time).boot = { L.boot with phase := .running, deciding := some 0 } := by
  have hboot := L.tickBegins_read time Lane.boot fun _ _ _ => rfl
  exact congrArg (fun b : BootSt => { b with deciding := some 0 }) hboot

theorem Variant.engines_lt (v : Variant) : v.engines < 2 ^ 32 := by cases v <;> decide

/-- A lane that has waited in vain for the other's reply begins its tick alone. -/
theorem Lane.soleStart_spec (L : Lane) :
    let M := (L.set Reg.RAP_EPOCH_EPOCH 1).deciding none
    M.running = true ∧ M.get Reg.RAP_EPOCH_EPOCH = 1 ∧ M.get Reg.LANE_ENG_HEALTHY_w = L.variant.engines ∧ M.boot.deciding = some 0 ∧ M.chr.ns = 0 := by
  have hboot := (L.set Reg.RAP_EPOCH_EPOCH 1).boot_deciding none
  have hvar : ((L.set Reg.RAP_EPOCH_EPOCH 1).tickBegins none).variant = L.variant := Lane.tickBegins_read none Lane.variant fun _ _ _ => rfl
  refine ⟨?_, ?_, ?_, ?_, Lane.tickBegins_read none (fun N => N.chr.ns) fun _ _ _ => rfl⟩
  · unfold Lane.running
    rw [hboot]
    rfl
  · rw [Lane.deciding, Lane.get_set_addr _ _ (by decide), Lane.onBoot_get, Lane.get_tickBegins _ (by decide)]
    exact Lane.get_set_fit _ _ (by decide) (by decide)
  · rw [Lane.deciding, hvar]
    exact Lane.get_set_fit _ _ (by decide) L.variant.engines_lt
  · rw [hboot]

end

section

variable {s : State} {l : LaneId}

theorem onLane_exchangeTimeout (hp : (s.lane l).boot.phase = .exchange) (hok : (s.lane l).boot.findings.selfTestOk = true) :
    exec (.capabilityExchangeTimeout l) s = onLane l (fun L => (L.set Reg.RAP_EPOCH_EPOCH 1).deciding none) s := by
  have hupd : (s.upd l fun L => L.set Reg.RAP_EPOCH_EPOCH 1).upd l (fun L => L.deciding none) =
      s.upd l fun L => (L.set Reg.RAP_EPOCH_EPOCH 1).deciding none := State.upd_upd _ _ _ _
  have htest : ((s.upd l fun L => (L.set Reg.RAP_EPOCH_EPOCH 1).deciding none).lane l).boot.findings.selfTestOk = true := by
    rw [State.lane_upd, Lane.boot_deciding]
    exact hok
  have hstep : (s.upd l fun L => L.set Reg.RAP_EPOCH_EPOCH 1).stepSeven l none = s.upd l fun L => (L.set Reg.RAP_EPOCH_EPOCH 1).deciding none := by
    rw [← hupd] at htest ⊢
    exact if_pos htest
  exact (if_pos hp).trans (congrArg Host.Outcome.next hstep)

end

/-! #### Step 9 -/

section

variable {L M : Lane}

/-- Fields that step 9 writes beside the mode and the failed-start count. -/
def nineFlds : List Fld := [Reg.BOOT_TIME_MS, Reg.RED_FW_STAT_STATE, Reg.THERM_WINDOW_PENDING] ++ postFlds

/-- The lane with the mode and the failed-start count of step 9. -/
def Lane.nineShown (L : Lane) : Lane :=
  L.setAll [(Reg.MODE_CUR_PREV, L.mode), (Reg.MODE_CUR_MODE, if L.chart.ok then 4 else 3), (Reg.BOOT_CAUSE_COUNT, 0)]

/-- The rest of step 9 leaves the other fields, and what the lane knows of the other. -/
def Lane.keepsNine (L M : Lane) : Prop := L.keepsBut M nineFlds ∧ M.red = L.red

theorem Lane.keepsNine_refl (L : Lane) : L.keepsNine L := ⟨L.keepsBut_refl _, rfl⟩

theorem Lane.keepsNine_set {f : Fld} (v : Nat) (hm : f ∈ nineFlds) (hf : f.lo + f.w ≤ 32) (h : L.keepsNine M) : L.keepsNine (M.set f v) :=
  ⟨Lane.keepsBut_set v hf hm h.1, h.2⟩

theorem Lane.keepsNine_ite {N : Lane} {p : Prop} [Decidable p] (hM : L.keepsNine M) (hN : L.keepsNine N) : L.keepsNine (if p then M else N) := by
  split_ifs <;> assumption

theorem Lane.keepsNine_onBoot (f : BootSt → BootSt) (h : L.keepsNine M) : L.keepsNine (M.onBoot f) := h

theorem Lane.keepsNine_onPwr (f : PowerSt → PowerSt) (h : L.keepsNine M) : L.keepsNine (M.onPwr f) := h

theorem Lane.keepsNine_bootRecWrite (h : L.keepsNine M) : L.keepsNine M.bootRecWrite :=
  Lane.keepsNine_ite (Lane.keepsNine_onBoot _ h) (Lane.keepsNine_set _ (by simp [nineFlds]) (by decide) (Lane.keepsNine_onPwr _ h))

theorem Lane.keepsNine_post (sev code : Nat) (payload : List Nat) (h : L.keepsNine M) : L.keepsNine (M.post sev code payload) := by
  have hlog := M.logOnly_post sev code payload
  refine ⟨fun g hg ha => ?_, (hlog.read Lane.red fun _ _ _ _ => rfl).trans h.2⟩
  exact (hlog.get_eq ⟨hg, fun f hf => ha f (List.mem_append_right _ hf)⟩).trans (h.1 g hg ha)

/-- The start-up state that has come to its end. -/
def BootSt.done (b : BootSt) : BootSt :=
  { b with mem := { b.mem with failCount := 0, digestFails := 0 }, trial := none, deciding := none, roleWait := none, contestWait := none,
           driveWait := none }

theorem Lane.keepsNine_stepNine (L : Lane) : L.nineShown.keepsNine L.stepNine := by
  have hnine : L.nineShown.keepsNine ((L.nineShown.setSat Reg.BOOT_TIME_MS L.boot.findings.ms).onBoot BootSt.done) :=
    Lane.keepsNine_onBoot _ (Lane.keepsNine_set _ (by simp [nineFlds]) (by decide) (Lane.keepsNine_refl _))
  exact Lane.keepsNine_post _ _ _ (Lane.keepsNine_bootRecWrite (Lane.keepsNine_ite (Lane.keepsNine_set _ (by simp [nineFlds]) (by decide) hnine) hnine))

theorem Lane.stepNine_spec (L : Lane) :
    L.stepNine.mode = (if L.chart.ok then 4 else 3) ∧ L.stepNine.get Reg.BOOT_CAUSE_COUNT = 0 ∧ L.stepNine.red = L.red := by
  obtain ⟨hkeep, hred⟩ := L.keepsNine_stepNine
  have hset : ∀ p ∈ [(Reg.MODE_CUR_PREV, L.mode), (Reg.MODE_CUR_MODE, if L.chart.ok then 4 else 3), (Reg.BOOT_CAUSE_COUNT, 0)],
      L.nineShown.get p.1 = p.2 % 2 ^ p.1.w := Lane.get_setAll _ _ (by simp) (by
      have hflds : [Reg.MODE_CUR_PREV, Reg.MODE_CUR_MODE, Reg.BOOT_CAUSE_COUNT].Pairwise Fld.apart := by decide
      exact hflds)
  refine ⟨(hkeep.get_eq (by decide)).trans ((hset (Reg.MODE_CUR_MODE, if L.chart.ok then 4 else 3) (by simp)).trans ?_),
    (hkeep.get_eq (by decide)).trans (hset (Reg.BOOT_CAUSE_COUNT, 0) (by simp)), hred⟩
  dsimp only
  split_ifs <;> rfl

/-- A standby tells a link that is down; `up` tells that a link passes frames. -/
def Lane.tellsLink (L : Lane) (up : Bool) : Lane := if up ∨ L.red.lost then L else (L.onRed fun r => { r with lost := true }).find 0x01 6

theorem Lane.get_tellsLink (up : Bool) (g : Fld) : (L.tellsLink up).get g = L.get g := by
  unfold Lane.tellsLink
  split_ifs
  · rfl
  · rw [Lane.find_get, Lane.onRed_get]

/-- A lane that was not granted re-synchronises with an active lane, or stands by. -/
def Lane.ungranted (L : Lane) : Lane :=
  if L.stepNine.peerIs .active then L.stepNine.resyncStart else (L.stepNine.setRole .standby).tellsLink L.linkUp

/-- The role taken leaves the mode and the failed-start count. -/
theorem Lane.ungranted_spec (L : Lane) :
    L.ungranted.role = (if L.peerIs .active then 4 else 3) ∧ L.ungranted.mode = (if L.chart.ok then 4 else 3) ∧
      L.ungranted.get Reg.BOOT_CAUSE_COUNT = 0 := by
  obtain ⟨hmode, hcount, hred⟩ := L.stepNine_spec
  have hpeer : L.stepNine.peerIs .active = L.peerIs .active := by
    unfold Lane.peerIs
    rw [hred]
  have hresync := Lane.keepsBut_resyncStart (List.Subset.refl _) (L.stepNine.keepsBut_refl resyncFlds)
  obtain ⟨hrole, -⟩ := L.stepNine.resyncStart_spec
  unfold Lane.ungranted
  rw [hpeer]
  cases L.peerIs .active with
  | true => exact ⟨hrole, (hresync.get_eq (by decide)).trans hmode, (hresync.get_eq (by decide)).trans hcount⟩
  | false =>
    exact ⟨(Lane.get_tellsLink _ _).trans (Lane.get_set_fit _ _ (by decide) (by decide)),
      (Lane.get_tellsLink _ _).trans ((Lane.get_set_addr _ _ (by decide)).trans hmode),
      (Lane.get_tellsLink _ _).trans ((Lane.get_set_addr _ _ (by decide)).trans hcount)⟩

end

section

variable {s : State} {l : LaneId}

theorem exec_roleWaitExpiry {n : Nat} (hw : (s.lane l).boot.roleWait = some n) (hn : 2000 ≤ n) (hm : (s.lane l).mode = 1)
    (hpeer : (s.lane l).peerIs .active = false) : exec (.roleWaitExpiry l) s =
      .next ((s.moving fun s => s.driveUp l).upd l fun L => L.onBoot fun b => { b with roleWait := none, driveWait := some 1 }) := by
  show execRoleWaitExpiry l s = _
  unfold execRoleWaitExpiry
  extract_lets L
  have hw : L.boot.roleWait = some n := hw
  rw [hw]
  exact if_pos ⟨hn, hm, by rw [hpeer]; rfl⟩

theorem exec_contestReassert {n : Nat} (hw : (s.lane l).boot.contestWait = some n) (hn : 10 ≤ n) (hm : (s.lane l).mode = 1) :
    exec (.contestReassert l) s =
      .next ((s.moving fun s => s.driveUp l).upd l fun L => L.onBoot fun b => { b with contestWait := none, driveWait := some 1 }) := by
  show execContestReassert l s = _
  unfold execContestReassert
  extract_lets L
  have hw : L.boot.contestWait = some n := hw
  rw [hw]
  exact if_pos ⟨hn, hm⟩

theorem exec_driveNotGranted {n : Nat} (hw : (s.lane l).boot.driveWait = some n) (hn : 10 < n) (hm : (s.lane l).mode = 1)
    (hg : s.sh.lock.grant ≠ .held l) :
    exec (.driveNotGranted l) s = .next ((s.moving fun s => s.driveDown l).upd l Lane.ungranted) := by
  have hfree : s.sh.lock.holds l = false := by simpa [InterlockSt.holds] using hg
  show execDriveNotGranted l s = _
  unfold execDriveNotGranted
  extract_lets L
  have hw : L.boot.driveWait = some n := hw
  rw [hw]
  exact if_pos ⟨hn, hm, by rw [hfree]; rfl⟩

end

/-- Settles O50: the lane at the release of reset, the tick of a sole lane, and the request for the grant with its two ends. -/
theorem startUp : Obligations.StartUp := by
  unfold Obligations.StartUp
  intro s l
  refine ⟨fun f hf => ?_, fun f hf => ?_, fun hp hok => ?_, fun n hp hw hn hm hpeer hg hd => ?_, fun n hp hw hn hm hg hd => ?_,
    fun n hp hw hn hm hg => ?_⟩
  · refine ⟨(s.upd l fun L => L.start f).binEval, if_pos hf, ?_⟩
    obtain ⟨hboot, hcause, hrole, hact, htick, hidx, hchart, hrap, htk, hid, hvar⟩ := (s.lane l).start_spec f
    dsimp only
    rw [State.lane_binEval, State.lane_binEval, State.lane_upd, State.lane_upd_other, State.lock_binEval, State.lock_upd, hboot, hchart]
    exact ⟨rfl, rfl, hcause, hrole, hact, htick, hidx, rfl, hrap, htk, hid, hvar, rfl, rfl⟩
  · exact if_neg hf
  · exact onLane_of_exec (onLane_exchangeTimeout hp hok) (s.lane l).soleStart_spec
  · refine ⟨(s.onLock fun _ => s.sh.lock.asked l).upd l fun L => L.onBoot fun b => { b with roleWait := none, driveWait := some 1 }, ?_, s.asked_spec _⟩
    rw [exec_roleWaitExpiry hw hn hm hpeer, State.moving_driveUp_free hp hg hd]
  · refine ⟨(s.onLock fun _ => s.sh.lock.asked l).upd l fun L => L.onBoot fun b => { b with contestWait := none, driveWait := some 1 }, ?_, s.asked_spec _⟩
    rw [exec_contestReassert hw hn hm, State.moving_driveUp_free hp hg hd]
  · refine ⟨(s.driveDown l).upd l Lane.ungranted, ?_, ?_⟩
    · rw [exec_driveNotGranted hw hn hm hg, State.moving_driveDown_unheld hp hg]
    · obtain ⟨hrole, hmode, hcount⟩ := (s.lane l).ungranted_spec
      have hlane (m : LaneId) : (s.driveDown l).lane m = s.lane m := State.lane_onLock _ _ _
      rw [State.lock_upd, State.lock_driveDown, State.lane_upd, State.lane_upd_other, hlane, hlane]
      exact ⟨InterlockSt.drive_release _ _ _, hrole, hmode, hcount, rfl⟩

end Sys2Proof.Machine

end

section
/-! ### Failed starts and LUBBER (02 R94-R101)

A failed start is counted in the boot record; at the third the lane enters LUBBER, where the check of the Chart against the reference
inputs, and a coast that it may begin, leave mode, role and start-up alone. -/

namespace Sys2Proof.Machine

open Sys2Proof

/-! #### A coast in a running lane -/

section

variable {L M : Lane}

theorem Lane.keepsRun_setb {f : Fld} (b : Bool) (hf : f.addr ∉ runWords) (h : L.keepsRun M) : L.keepsRun (M.setb f b) := Lane.keepsRun_set _ hf h

theorem Lane.keepsRun_incSat {f : Fld} (n : Nat) (hf : f.addr ∉ runWords) (h : L.keepsRun M) : L.keepsRun (M.incSat f n) := Lane.keepsRun_set _ hf h

theorem Lane.keepsRun_find (p b : Nat) (h : L.keepsRun M) : L.keepsRun (M.find p b) := h

theorem clkRef_not_mem_runWords (i : RefIn) : (Reg.CLK_REF_STATE i.idx).addr ∉ runWords := by cases i <;> decide

theorem Lane.keepsRun_clkStat (h : L.keepsRun M) : L.keepsRun M.clkStat :=
  Lane.keepsRun_findIf _ _ _ (Lane.keepsRun_setAll _ (by simp [runWords]) (Lane.keepsRun_setb _ (by decide) (Lane.keepsRun_setb _ (by decide)
    (Lane.keepsRun_setb _ (by decide) (Lane.keepsRun_onClk _ h)))))

theorem Lane.keepsRun_selectRef (i : Option RefIn) (h : L.keepsRun M) : L.keepsRun (M.selectRef i) := by
  have hsel : L.keepsRun ((M.setb (Reg.CLK_REF_SELECTED 0) (decide (i = some .refA))).setb (Reg.CLK_REF_SELECTED 1) (decide (i = some .refB))) :=
    Lane.keepsRun_setb _ (by decide) (Lane.keepsRun_setb _ (by decide) h)
  cases i with
  | none => exact hsel
  | some r => exact Lane.keepsRun_set _ (by decide) hsel

theorem Lane.keepsRun_chrStat (h : L.keepsRun M) : L.keepsRun M.chrStat :=
  Lane.keepsRun_findIf _ _ _ (Lane.keepsRun_setb _ (by decide) (Lane.keepsRun_setb _ (by decide) (Lane.keepsRun_setb _ (by decide)
    (Lane.keepsRun_setb _ (by decide) h))))

/-- A time source at the beginning of a coast: nothing of it qualifies. -/
def Lane.srcCoast (L : Lane) (k : Nat) : Lane :=
  let L := (L.onChr fun c => c.setSrc k {}).set (Reg.CHR_SRC_STAT_QUAL k) 0
  if L.srcState k = 0 then L else L.set (Reg.CHR_SRC_STAT_STATE k) 1

theorem Lane.keepsRun_srcCoast {k : Nat} (hk : k < 8) (h : L.keepsRun M) : L.keepsRun (M.srcCoast k) := by
  have hsrc : (Reg.CHR_SRC_STAT_QUAL k).addr ∉ runWords :=
    not_mem_runWords (show 0x1000 ≤ 0x10080 + 0x10 * k by omega) (show 0x10080 + 0x10 * k < 0x18020 by omega)
  have hqual := Lane.keepsRun_set (f := Reg.CHR_SRC_STAT_QUAL k) 0 hsrc (Lane.keepsRun_onChr (fun c => c.setSrc k {}) h)
  exact Lane.keepsRun_ite hqual (Lane.keepsRun_set _ hsrc hqual)

theorem Lane.keepsRun_chrCoast (h : L.keepsRun M) : L.keepsRun M.chrCoast := by
  have h0 : L.keepsRun (((M.onChr fun c => { c with pend := none, stepNext := none, setSlew := none }).setAll
      [(Reg.CHR_SYNC_STATE, 5), (Reg.CHR_SYNC_SRC, 0)]).setb Reg.CHR_FAULT_COASTED true) :=
    Lane.keepsRun_setb _ (by decide) (Lane.keepsRun_setAll _ (by simp [runWords]) (Lane.keepsRun_onChr _ h))
  exact Lane.keepsRun_chrStat (Lane.keepsRun_srcCoast (k := 4) (by decide) (Lane.keepsRun_srcCoast (k := 3) (by decide)
    (Lane.keepsRun_srcCoast (k := 2) (by decide) (Lane.keepsRun_srcCoast (k := 1) (by decide) h0))))

theorem Lane.keepsRun_anaStop (h : L.keepsRun M) : L.keepsRun M.anaStop :=
  Lane.keepsRun_forUpTo 32 (fun _ _ _ hN => Lane.keepsRun_ite hN (Lane.keepsRun_onAna _ hN)) (Lane.keepsRun_onAna _ h)

theorem Lane.keepsRun_attTo (st : Nat) (h : L.keepsRun M) : L.keepsRun (M.attTo st) := by
  unfold Lane.attTo
  extract_lets was N1 N2
  have h2 : L.keepsRun N2 := Lane.keepsRun_set _ (by decide) (Lane.keepsRun_onSx _ h)
  exact Lane.keepsRun_ite (Lane.keepsRun_set _ (by decide) (Lane.keepsRun_set _ (by decide) (Lane.keepsRun_find _ _
    (Lane.keepsRun_ite (Lane.keepsRun_incSat _ (by decide) h2) h2)))) h2

theorem Lane.keepsRun_showAcq (h : L.keepsRun M) : L.keepsRun M.showAcq := by
  unfold Lane.showAcq
  extract_lets p n N
  have hN : L.keepsRun N := Lane.keepsRun_setAll _ (by simp [runWords]) h
  split
  · exact Lane.keepsRun_setAll _ (by simp [runWords]) hN
  · exact Lane.keepsRun_setAll _ (by simp [runWords]) hN

theorem Lane.keepsRun_sxDrop (h : L.keepsRun M) : L.keepsRun M.sxDrop :=
  Lane.keepsRun_showAcq (Lane.keepsRun_find _ _ (Lane.keepsRun_incSat _ (by decide) (Lane.keepsRun_attTo _
    (Lane.keepsRun_forUpTo 3 (fun _ _ _ hN => Lane.keepsRun_findIf _ _ _ hN) (Lane.keepsRun_onSx _ h)))))

theorem Lane.keepsRun_sxCoast (h : L.keepsRun M) : L.keepsRun M.sxCoast :=
  Lane.keepsRun_ite (Lane.keepsRun_onSx _ (Lane.keepsRun_sxDrop h)) h

theorem Lane.keepsRun_canCoast (h : L.keepsRun M) : L.keepsRun M.canCoast :=
  Lane.keepsRun_forUpTo 8 (fun _ hp _ hN => Lane.keepsRun_canLeave hp (Lane.keepsRun_onPort _ _ hN)) h

theorem Lane.keepsRun_coastHooks (h : L.keepsRun M) : L.keepsRun M.coastHooks :=
  Lane.keepsRun_setb _ (by decide) (Lane.keepsRun_serStop (Lane.keepsRun_canCoast (Lane.keepsRun_sxCoast (Lane.keepsRun_anaStop
    (Lane.keepsRun_chrCoast h)))))

theorem Lane.keepsRun_enterCoast (h : L.keepsRun M) : L.keepsRun M.enterCoast := by
  unfold Lane.enterCoast
  extract_lets t v N1 N2 N3
  have h1 : L.keepsRun N1 := Lane.keepsRun_onClk _ h
  have h2 : L.keepsRun N2 := Lane.keepsRun_incSat _ (by decide) (Lane.keepsRun_set _ (by decide) (Lane.keepsRun_selectRef _ h1))
  have h3 : L.keepsRun N3 := Lane.keepsRun_setb _ (by decide) (Lane.keepsRun_setb _ (by decide) h2)
  exact Lane.keepsRun_find _ _ (Lane.keepsRun_coastHooks (Lane.keepsRun_clkStat h3))

theorem Lane.keepsRun_startSwitch (i : RefIn) (byTrip : Bool) (h : L.keepsRun M) : L.keepsRun (M.startSwitch i byTrip) :=
  Lane.keepsRun_clkStat (Lane.keepsRun_set _ (by decide) (Lane.keepsRun_onClk _ h))

theorem Lane.keepsRun_refGone (i : RefIn) (h : L.keepsRun M) : L.keepsRun (M.refGone i).1 := by
  unfold Lane.refGone
  split
  · split_ifs
    · exact Lane.keepsRun_clkStat (Lane.keepsRun_incSat _ (by decide) (Lane.keepsRun_set _ (by decide) (Lane.keepsRun_selectRef _
        (Lane.keepsRun_onClk _ h))))
    · exact Lane.keepsRun_clkStat h
  · split
    · split_ifs
      · exact Lane.keepsRun_enterCoast h
      · exact Lane.keepsRun_clkStat (Lane.keepsRun_set _ (by decide) (Lane.keepsRun_onClk _ h))
      · exact Lane.keepsRun_clkStat (Lane.keepsRun_onClk _ h)
    · split_ifs
      · exact Lane.keepsRun_startSwitch _ _ h
      · exact Lane.keepsRun_enterCoast h
      · exact Lane.keepsRun_clkStat (Lane.keepsRun_onClk _ h)
      · exact Lane.keepsRun_clkStat h

theorem Lane.keepsRun_refTrip (i : RefIn) (cause : TripCause) (det : Nat) (h : L.keepsRun M) : L.keepsRun (M.refTrip i cause det).1 := by
  have hset := clkRef_not_mem_runWords i
  unfold Lane.refTrip
  by_cases htrip : M.mayTrip i cause det = true
  · rw [if_pos htrip]
    exact Lane.keepsRun_set _ (by decide) (Lane.keepsRun_refGone i (Lane.keepsRun_find _ _ (Lane.keepsRun_incSat _ (by decide)
      (Lane.keepsRun_setAll _ (by simpa using hset) h))))
  · rw [if_neg htrip]
    exact h

end

/-! #### The Chart's check against the reference inputs -/

section

variable {s : State} {l : LaneId} {L : Lane}

/-- A lane runs on and asserts no DRIVE. -/
def State.runsUndriven (s : State) (l : LaneId) (L : Lane) : Prop := L.keepsRun (s.lane l) ∧ s.sh.lock.drive l = false

theorem State.runsUndriven_ite {t : State} {p : Prop} [Decidable p] (hs : s.runsUndriven l L) (ht : t.runsUndriven l L) :
    (if p then s else t).runsUndriven l L := by
  split_ifs <;> assumption

theorem State.runsUndriven_driveDown (c : Option TakeCause) (h : s.runsUndriven l L) : (s.driveDown l c).runsUndriven l L := by
  obtain ⟨hrun, -⟩ := h
  refine ⟨?_, ?_⟩
  · unfold State.driveDown
    rwa [State.lane_onLock]
  · rw [State.lock_driveDown]
    exact InterlockSt.drive_release _ _ _

theorem State.lane_both (f : Lane → Lane) (m : LaneId) : (s.both f).lane m = f (s.lane m) := by cases m <;> rfl

theorem State.runsUndriven_afterCoast (coast : Bool) (h : s.runsUndriven l L) : (s.afterCoast l coast).runsUndriven l L := by
  have hdown := State.runsUndriven_ite (p := (s.sh.lock.holds l && s.sh.lock.arm l.other) = true) (State.runsUndriven_driveDown (some .peerCoast) h) h
  refine State.runsUndriven_ite (State.runsUndriven_ite ?_ hdown) h
  obtain ⟨hrun, hdrive⟩ := hdown
  exact ⟨by rw [State.lane_both]; exact Lane.keepsRun_onClk _ hrun, hdrive⟩

theorem State.runsUndriven_setLane {M : Lane} (hM : L.keepsRun M) (h : s.runsUndriven l L) : (s.setLane l M).runsUndriven l L := by
  obtain ⟨-, hdrive⟩ := h
  exact ⟨by rwa [State.lane_setLane], by rwa [State.lock_setLane]⟩

/-- The check of one reference input by the Chart (R541, R542). -/
def State.refChart (s : State) (l : LaneId) (i : RefIn) : State :=
  let L := s.lane l
  if L.refOff i ∧ L.refState i ≠ 0 then
    let L := L.setAll [(Reg.CLK_REF_STATE i.idx, 0), (Reg.CLK_REF_QUAL i.idx, 0), (Reg.CLK_REF_DET i.idx, 0), (Reg.CLK_REF_REL_PPB, 0x80000000)]
    (s.setLane l (L.refGone i).1).afterCoast l (L.refGone i).2
  else (s.setLane l (L.refTrip i .expect (L.get (Reg.CLK_REF_DET i.idx))).1).afterCoast l (L.refTrip i .expect (L.get (Reg.CLK_REF_DET i.idx))).2

theorem State.clkChart_eq : s.clkChart l = (s.refChart l .refA).refChart l .refB := (rfl)

theorem State.runsUndriven_refChart (i : RefIn) (h : s.runsUndriven l L) : (s.refChart l i).runsUndriven l L := by
  have ⟨hrun, _⟩ := h
  have hset := clkRef_not_mem_runWords i
  have hoff : L.keepsRun ((s.lane l).setAll [(Reg.CLK_REF_STATE i.idx, 0), (Reg.CLK_REF_QUAL i.idx, 0), (Reg.CLK_REF_DET i.idx, 0),
      (Reg.CLK_REF_REL_PPB, 0x80000000)]) := by
    refine Lane.keepsRun_setAll _ (fun p hp => ?_) hrun
    simp only [List.mem_cons, List.not_mem_nil, or_false] at hp
    rcases hp with rfl | rfl | rfl | rfl
    · exact hset
    · exact hset
    · exact hset
    · exact (by decide : Reg.CLK_REF_REL_PPB.addr ∉ runWords)
  exact State.runsUndriven_ite (State.runsUndriven_afterCoast _ (State.runsUndriven_setLane (Lane.keepsRun_refGone i hoff) h))
    (State.runsUndriven_afterCoast _ (State.runsUndriven_setLane (Lane.keepsRun_refTrip i _ _ hrun) h))

theorem State.runsUndriven_clkChart (h : s.runsUndriven l L) : (s.clkChart l).runsUndriven l L := by
  rw [State.clkChart_eq]
  exact State.runsUndriven_refChart .refB (State.runsUndriven_refChart .refA h)

end

/-! #### LUBBER entered -/

section

variable {L : Lane}

theorem Lane.boot_sessionEnd : L.sessionEnd.boot = L.boot := by
  unfold Lane.sessionEnd Lane.sessionShow
  split_ifs
  · split <;> rfl
  · rfl

theorem Lane.boot_chartAbandon : L.chartAbandon.boot = L.boot := by
  unfold Lane.chartAbandon
  split_ifs <;> rfl

/-- The registers that show LUBBER. -/
def lubberRegs (old reason : Nat) (late : Bool) : List (Fld × Nat) :=
  [(Reg.MODE_CUR_PREV, old), (Reg.MODE_CUR_MODE, 2), (Reg.MODE_CUR_LATE, if late then 1 else 0), (Reg.MODE_CUR_BLENDING, 0),
    (Reg.BOOT_CAUSE_LUBBER, reason), (Reg.TICK_STAT_LUBBER, 1), (Reg.TICK_STAT_FUSION_VALID, 0), (Reg.LANE_STAT_ACTIVE, 0), (Reg.RED_STAT_ACTIVE, 0),
    (Reg.RED_ROLE_ROLE, Role.lubber.code), (Reg.RED_RESYNC_STAGE, 0), (Reg.RED_STAT_RESYNC, 0)]

/-- The lane with LUBBER shown, its pages and transfers reset. -/
def Lane.lubberShown (L : Lane) (reason : Nat) (late : Bool) : Lane :=
  ((L.sessionEnd.chartAbandon).resetPages lubberPage).setAll (lubberRegs L.mode reason late)

/-- A lane without mode requests, plans and the state of modes above 2. -/
def Lane.lubberBare (L : Lane) : Lane :=
  let L := L.onTk fun k => { k with pendMode := none, lateMode := false, lubberAfter := false, lubberLate := false, goLubber := none }
  let L := L.onRed fun r => { r with plan := none }
  let L := (L.onPlt fun _ => {}).onNtk fun k => { slots := List.replicate 30 {}, desWritten := k.desWritten }
  let L := L.onCtl fun _ => {}
  let L := L.onAlc fun a => { chans := a.chans, buses := a.buses }
  let L := L.onSx fun _ => {}
  L.find 0x02 0

theorem Lane.enterLubber_eq (reason : Nat) (late : Bool) : L.enterLubber reason late = (L.lubberShown reason late).lubberBare := (rfl)

theorem Lane.boot_lubberBare : L.lubberBare.boot = L.boot := by simp [Lane.lubberBare]

theorem Lane.get_lubberBare (g : Fld) : L.lubberBare.get g = L.get g := by simp [Lane.lubberBare]

/-- The fields of those registers. -/
def lubberFlds : List Fld :=
  [Reg.MODE_CUR_PREV, Reg.MODE_CUR_MODE, Reg.MODE_CUR_LATE, Reg.MODE_CUR_BLENDING, Reg.BOOT_CAUSE_LUBBER, Reg.TICK_STAT_LUBBER,
    Reg.TICK_STAT_FUSION_VALID, Reg.LANE_STAT_ACTIVE, Reg.RED_STAT_ACTIVE, Reg.RED_ROLE_ROLE, Reg.RED_RESYNC_STAGE, Reg.RED_STAT_RESYNC]

theorem lubberRegs_flds (old reason : Nat) (late : Bool) : (lubberRegs old reason late).map Prod.fst = lubberFlds := rfl

theorem Lane.get_lubberShown {reason : Nat} {late : Bool} {g : Fld} {v : Nat} (h : (g, v) ∈ lubberRegs L.mode reason late) :
    (L.lubberShown reason late).get g = v % 2 ^ g.w := by
  refine Lane.get_setAll _ _ (fun p hp => ?_) (by rw [lubberRegs_flds]; decide) (g, v) h
  have hmem : p.1 ∈ lubberFlds := lubberRegs_flds L.mode reason late ▸ List.mem_map_of_mem hp
  exact (show ∀ f ∈ lubberFlds, f.lo + f.w ≤ 32 by decide) _ hmem

theorem Lane.boot_lubberShown (reason : Nat) (late : Bool) : (L.lubberShown reason late).boot = L.boot := by
  have hset (r : List (Fld × Nat)) (N : Lane) : (N.setAll r).boot = N.boot := by
    induction r generalizing N with
    | nil => rfl
    | cons p r ih => exact ih (N.set p.1 p.2)
  rw [Lane.lubberShown, hset, Lane.resetPages, Lane.onRegs_boot, Lane.boot_chartAbandon, Lane.boot_sessionEnd]

theorem Lane.enterLubber_spec (L : Lane) {reason : Nat} (hr : reason < 256) (late : Bool) :
    (L.enterLubber reason late).boot = L.boot ∧ (L.enterLubber reason late).mode = 2 ∧ (L.enterLubber reason late).role = 6 ∧
      (L.enterLubber reason late).get Reg.BOOT_CAUSE_LUBBER = reason := by
  rw [Lane.enterLubber_eq]
  refine ⟨Lane.boot_lubberBare.trans (Lane.boot_lubberShown _ _), ?_, ?_, ?_⟩
  · exact (Lane.get_lubberBare _).trans (Lane.get_lubberShown (v := 2) (by simp [lubberRegs]))
  · exact (Lane.get_lubberBare _).trans (Lane.get_lubberShown (v := Role.lubber.code) (by simp [lubberRegs]))
  · exact (Lane.get_lubberBare _).trans ((Lane.get_lubberShown (v := reason) (by simp [lubberRegs])).trans (Nat.mod_eq_of_lt hr))

/-- What a lane that enters LUBBER at its start has loaded: its tick runs, from the boot ROMs if it did not before. -/
def Lane.lubberLoaded (L : Lane) (time : Option (Rat × Bool)) : Lane :=
  let L := if L.chart.ok then L else L.lubberChart
  if L.running then L else (L.tickBegins time).set Reg.LANE_ENG_HEALTHY_w 0xF

theorem Lane.running_lubberLoaded (L : Lane) (time : Option (Rat × Bool)) : (L.lubberLoaded time).running = true := by
  unfold Lane.lubberLoaded
  extract_lets N
  split_ifs with h
  · exact h
  · have hboot := N.tickBegins_read time Lane.boot fun _ _ _ => rfl
    unfold Lane.running
    rw [Lane.set_boot, hboot]
    rfl

end

section

variable {s : State} {l : LaneId}

/-- LUBBER entered at a start: its mode, its role and its reason stand after the Chart's check. -/
theorem State.lubberStart_spec {reason : Nat} (hr : reason < 256) (time : Option (Rat × Bool)) (hd : s.sh.lock.drive l = false) :
    let t := s.lubberStart l reason time
    (t.lane l).mode = 2 ∧ (t.lane l).role = 6 ∧ (t.lane l).get Reg.BOOT_CAUSE_LUBBER = reason ∧ (t.lane l).running = true ∧
      t.sh.lock.drive l = false := by
  obtain ⟨hboot, hmode, hrole, hreason⟩ := ((s.lane l).lubberLoaded time).enterLubber_spec hr false
  have hrunning := (s.lane l).running_lubberLoaded time
  have hlane : (s.upd l fun N => (N.lubberLoaded time).enterLubber reason).runsUndriven l (((s.lane l).lubberLoaded time).enterLubber reason) :=
    ⟨by rw [State.lane_upd]; exact Lane.keepsRun_refl _, by rwa [State.lock_upd]⟩
  have heq : s.lubberStart l reason time = (s.upd l fun N => (N.lubberLoaded time).enterLubber reason).clkChart l := (rfl)
  obtain ⟨hrun, hdrive⟩ := State.runsUndriven_clkChart hlane
  dsimp only
  rw [heq]
  refine ⟨(hrun.get_eq (by decide)).trans hmode, (hrun.get_eq (by decide)).trans hrole, (hrun.get_eq (by decide)).trans hreason, ?_, hdrive⟩
  rw [hrun.running]
  unfold Lane.running
  rw [hboot]
  exact hrunning

end

/-! #### The failure counted -/

section

variable {L M : Lane}

/-- The start-up state with this start's record made. -/
def BootSt.recordMade (b : BootSt) : BootSt :=
  if b.recorded then b else { b with recorded := true, mem := { b.mem with prevStart := b.mem.thisStart, thisStart := some ⟨b.beganMs, none⟩ } }

theorem Lane.boot_startRecord (L : Lane) : L.startRecord.boot = L.boot.recordMade := by
  unfold Lane.startRecord BootSt.recordMade
  split_ifs <;> rfl

theorem BootSt.trial_recordMade (b : BootSt) : b.recordMade.trial = b.trial := by
  unfold BootSt.recordMade
  split_ifs <;> rfl

/-- The boot record after a failure with a code (R96). -/
def BootMem.failed (m : BootMem) (code : Nat) : BootMem :=
  { m with failCount := min m.countAfter 3, lastFail := code, digestFails := if code = 2 then m.digestFails + 1 else 0 }

/-- The lane with the failure in its boot record and its registers. -/
def Lane.failShown (L : Lane) (code : Nat) : Lane :=
  (L.startRecord.onBoot fun b => { b with mem := L.startRecord.boot.mem.failed code }).setAll
    [(Reg.BOOT_CAUSE_COUNT, min L.startRecord.boot.mem.countAfter 3), (Reg.BOOT_CAUSE_LAST_FAIL, code)]

/-- After two digest failures the next start is from the other slot (R97). -/
def Lane.slotChosen (L : Lane) : Lane :=
  if 2 ≤ L.boot.mem.digestFails ∧ L.boot.findings.otherImagesOk ∧ (L.boot.slot L.otherSlot).valid then
    L.onBoot fun b => { b with bootSlot := 1 - b.bootSlot }
  else L

theorem Lane.boot_failShown (code : Nat) : (L.failShown code).boot = { L.boot.recordMade with mem := L.boot.recordMade.mem.failed code } := by
  rw [Lane.failShown, Lane.setAll_cons, Lane.setAll_cons, Lane.setAll_nil, Lane.set_boot, Lane.set_boot, Lane.onBoot_boot, Lane.boot_startRecord]

theorem Lane.startFailed_eq {code : Nat} (h : L.boot.trial = none) : L.startFailed code = ((L.failShown code).slotChosen).bootRecWrite := by
  have htrial : (L.failShown code).boot.trial = none := by
    rw [Lane.boot_failShown]
    exact L.boot.trial_recordMade.trans h
  unfold Lane.startFailed
  extract_lets N n d N1 N2 N3
  have hN2 : N2 = L.failShown code := rfl
  have hN3 : N3 = N2.slotChosen := by
    unfold N3
    split
    next p hp =>
      rw [hN2, htrial] at hp
      exact absurd hp (by simp)
    next => rfl
  rw [hN3, hN2]

/-- What the boot record and its registers show is left by the copy to MRAM and by the choice of the slot. -/
theorem Lane.failKept (L : Lane) :
    L.slotChosen.bootRecWrite.boot.mem = L.boot.mem ∧
      ∀ g : Fld, g.addr ≠ Reg.THERM_WINDOW_w.addr → L.slotChosen.bootRecWrite.get g = L.get g := by
  have hslot : L.slotChosen.boot.mem = L.boot.mem ∧ ∀ g, L.slotChosen.get g = L.get g := by
    unfold Lane.slotChosen
    split_ifs <;> exact ⟨rfl, fun _ => rfl⟩
  obtain ⟨hmem, hget⟩ := hslot
  unfold Lane.bootRecWrite
  split_ifs
  · exact ⟨hmem, fun g _ => hget g⟩
  · refine ⟨hmem, fun g hg => ?_⟩
    rw [Lane.showPending, Lane.setSat, Lane.get_set_addr (g := Reg.THERM_WINDOW_PENDING) _ _ hg, Lane.onPwr_get, hget]

/-- A failed start without a trial: the record counts it, and the registers show count and code. -/
theorem Lane.startFailed_spec {code : Nat} (h : L.boot.trial = none) (hc : code < 256) :
    (L.startFailed code).boot.mem.failCount = min L.boot.recordMade.mem.countAfter 3 ∧
      (L.startFailed code).get Reg.BOOT_CAUSE_COUNT = min L.boot.recordMade.mem.countAfter 3 ∧
      (L.startFailed code).get Reg.BOOT_CAUSE_LAST_FAIL = code := by
  obtain ⟨hmem, hget⟩ := (L.failShown code).failKept
  have hlt : min L.boot.recordMade.mem.countAfter 3 < 2 ^ 4 := by omega
  rw [Lane.startFailed_eq h, hmem, hget _ (by decide), hget _ (by decide), Lane.boot_failShown]
  rw [Lane.failShown, Lane.setAll_cons, Lane.setAll_cons, Lane.setAll_nil, Lane.boot_startRecord]
  refine ⟨rfl, ?_, Lane.get_set_fit _ _ (by decide) hc⟩
  rw [Lane.get_set_apart _ _ (by decide) (by decide) (by decide)]
  exact Lane.get_set_fit _ _ (by decide) hlt

end

section

variable {s : State} {l : LaneId} {code : Nat}

/-- The module with the lane's DRIVE withdrawn. -/
def State.undriven (s : State) (l : LaneId) : State := if s.sh.lock.drive l then s.moving fun s => s.driveDown l else s

theorem State.runsUndriven_undriven : (s.undriven l).runsUndriven l (s.lane l) := by
  unfold State.undriven
  by_cases hd : s.sh.lock.drive l = true
  · obtain ⟨-, hdrive, -⟩ := s.settlesTo_moving fun s => s.driveDown l
    rw [if_pos hd]
    refine ⟨State.keepsRun_moving ?_, ?_⟩
    · unfold State.driveDown
      rw [State.lane_onLock]
      exact Lane.keepsRun_refl _
    · rw [hdrive, State.lock_driveDown]
      exact InterlockSt.drive_release _ _ _
  · rw [if_neg hd]
    exact ⟨Lane.keepsRun_refl _, by simpa using hd⟩

/-- The module with the failure counted. -/
def State.failCounted (s : State) (l : LaneId) (code : Nat) : State := (s.undriven l).upd l fun L => L.startFailed code

theorem State.startFail_eq : s.startFail l code = if 3 ≤ ((s.failCounted l code).lane l).boot.mem.failCount then (s.failCounted l code).lubberStart l 1
    else (s.failCounted l code).upd l fun L => L.hold .failedStartRetry := (rfl)

theorem State.failCount_failCounted (ht : (s.lane l).boot.trial = none) (hc : code < 256) :
    ((s.failCounted l code).lane l).boot.mem.failCount = min (s.lane l).startRecord.boot.mem.countAfter 3 := by
  obtain ⟨⟨-, -, hboot, -⟩, -⟩ := State.runsUndriven_undriven (s := s) (l := l)
  obtain ⟨hcount, -, -⟩ := Lane.startFailed_spec (L := (s.undriven l).lane l) (by rw [hboot]; exact ht) hc
  rw [State.failCounted, State.lane_upd, hcount, hboot, Lane.boot_startRecord]

/-- The third failure: the lane enters LUBBER. -/
theorem State.startFail_third (ht : (s.lane l).boot.trial = none) (hc : code < 256) (h3 : 3 ≤ (s.lane l).startRecord.boot.mem.countAfter) :
    s.startFail l code = (s.failCounted l code).lubberStart l 1 := by
  rw [State.startFail_eq, if_pos]
  rw [State.failCount_failCounted ht hc]
  omega

/-- The failures before it: the lane restarts itself. -/
theorem State.startFail_retry (ht : (s.lane l).boot.trial = none) (hc : code < 256) (h3 : (s.lane l).startRecord.boot.mem.countAfter < 3) :
    s.startFail l code = (s.failCounted l code).upd l fun L => L.hold .failedStartRetry := by
  rw [State.startFail_eq, if_neg]
  rw [State.failCount_failCounted ht hc]
  omega

theorem State.drive_failCounted : (s.failCounted l code).sh.lock.drive l = false := by
  obtain ⟨-, hdrive⟩ := State.runsUndriven_undriven (s := s) (l := l)
  rwa [State.failCounted, State.lock_upd]

/-- The code of a window's end: CLOCK where no reference has qualified, else TIMEOUT. -/
def Lane.windowCode (L : Lane) : Nat := if L.boot.phase = .clock ∧ L.clk.stopWin.isNone then 4 else 1

theorem Lane.windowCode_lt (L : Lane) : L.windowCode < 256 := by
  unfold Lane.windowCode
  split_ifs <;> decide

theorem exec_windowTimeout (h : (s.lane l).inStart = true) :
    exec (.bootWindowTimeout l) s = .next (s.startFail l (s.lane l).windowCode) := if_pos h

/-! #### DRIVE asked for in LUBBER -/

theorem State.lubberMay_free (hrun : (s.lane l).running = true) (hm : (s.lane l).mode = 2) (hpeer : (s.lane l).peerIs .active = false)
    (hg : s.sh.lock.grant = .free) : s.lubberMay l = true := by
  have hheld : s.sh.lock.held = false := by simp [InterlockSt.held, hg]
  simp [State.lubberMay, hrun, hm, hpeer, hheld]

/-- A lane in LUBBER that asks on a free interlock: its window is open, and no wait runs. -/
theorem State.lubberDrive_free (hp : s.sharedPower = true) (hg : s.sh.lock.grant = .free) (hd : s.sh.lock.drive l = false) :
    s.lubberDrive l = (s.onLock fun _ => s.sh.lock.asked l).upd l fun L => L.onRed fun r => { r with lubberWait := none } := by
  unfold State.lubberDrive
  rw [State.moving_driveUp_free hp hg hd]

/-- A wait that is over, or none, lets the lane ask. -/
theorem Lane.lubberWaited_of_none {L : Lane} (h : L.red.lubberWait = none) : L.lubberWaited = true := by simp [Lane.lubberWaited, h]

theorem Lane.lubberWaited_of_over {L : Lane} {n : Nat} (h : L.red.lubberWait = some n) (hn : 2000 ≤ n) : L.lubberWaited = true := by
  simp [Lane.lubberWaited, h, hn]

theorem exec_peerSilence (hmay : s.lubberMay .b = true) (hd : s.sh.lock.drive .b = false) (hs : (s.lane .b).peerSilent = true)
    (hw : (s.lane .b).lubberWaited = true) : exec (.lubberPeerSilence .b) s = .next (s.lubberDrive .b) := if_pos (by simp [hmay, hd, hs, hw])

theorem exec_lubberReassert (hmay : s.lubberMay l = true) (hd : s.sh.lock.drive l = false) (hw : (s.lane l).lubberWaited = true)
    (hsome : (s.lane l).red.lubberWait.isSome = true) (hf : (s.lane l).lubberFirst = true ∨ (s.lane l).peerSilent = true) :
    exec (.lubberReassert l) s = .next (s.lubberDrive l) := if_pos (by simp [hmay, hd, hw, hsome, hf])

/-- A lane with no wait running is the lane without one. -/
theorem Lane.noWait (L : Lane) (h : L.red.lubberWait = none) : L.onRed (fun r => { r with lubberWait := none }) = L := by
  unfold Lane.onRed
  rw [← h]

end

/-- Settles O51: a failed start before the third, the third, and the two requests for the grant in LUBBER. -/
theorem failedStartAndLubber : Obligations.FailedStartAndLubber := by
  unfold Obligations.FailedStartAndLubber
  intro s l
  refine ⟨fun hin h3 ht hd => ?_, fun hin h3 ht => ?_, fun hin => ?_, fun hp hrun hm hpeer hg hd => ⟨fun hl hage hcount hw => ?_, fun n hw hn hfirst => ?_⟩⟩
  · have hc := (s.lane l).windowCode_lt
    have hstand : s.undriven l = s := if_neg (by simp [hd])
    refine ⟨(s.upd l fun L => L.startFailed (s.lane l).windowCode).upd l fun L => L.hold .failedStartRetry, ?_, ?_⟩
    · rw [exec_windowTimeout hin, State.startFail_retry ht hc h3, State.failCounted, hstand]
    · obtain ⟨hfail, hcount, hlast⟩ := Lane.startFailed_spec ht hc
      rw [← Lane.boot_startRecord, Nat.min_eq_left (by omega)] at hfail hcount
      rw [State.lane_upd, State.lane_upd, State.lane_upd_other, State.lane_upd_other, State.lock_upd, State.lock_upd]
      exact ⟨rfl, rfl, hfail, hcount, hlast, rfl, rfl⟩
  · have hc := (s.lane l).windowCode_lt
    refine ⟨(s.failCounted l (s.lane l).windowCode).lubberStart l 1, ?_, State.lubberStart_spec (by decide) none State.drive_failCounted⟩
    rw [exec_windowTimeout hin, State.startFail_third ht hc h3]
  · exact if_neg (by simp [hin])
  · have hmay := State.lubberMay_free hrun hm hpeer hg
    subst hl
    have hsilent : (s.lane .b).peerSilent = true := by
      unfold Lane.peerSilent
      rw [decide_eq_true hage, decide_eq_true hcount]
      rfl
    refine ⟨s.lubberDrive .b, exec_peerSilence hmay hd hsilent (Lane.lubberWaited_of_none hw), ?_⟩
    obtain ⟨hgrant, hdrive, hlane, hother⟩ := s.asked_spec (l := .b) fun L => L.onRed fun r => { r with lubberWait := none }
    rw [Lane.noWait _ hw] at hlane
    rw [State.lubberDrive_free hp hg hd]
    exact ⟨hgrant, hdrive, hother, hlane⟩
  · have hmay := State.lubberMay_free hrun hm hpeer hg
    refine ⟨s.lubberDrive l, exec_lubberReassert hmay hd (Lane.lubberWaited_of_over hw hn) (by rw [hw]; rfl) hfirst, ?_⟩
    rw [State.lubberDrive_free hp hg hd]
    exact s.asked_spec fun L => L.onRed fun r => { r with lubberWait := none }

end Sys2Proof.Machine

end

section
/-! The slots of the sensor intake (03 R132-R139): a slot read after a change, what a change of slots leaves, and a step made slot by
slot. -/

namespace Sys2Proof.Machine

open Sys2Proof

/-! ### A slot read after a change -/

theorem length_modAt {α : Type} (f : α → α) (l : List α) : ∀ n, (modAt l n f).length = l.length := by
  induction l with
  | nil => exact fun _ => rfl
  | cons x r ih =>
    intro n
    cases n with
    | zero => rfl
    | succ n => exact congrArg (· + 1) (ih n)

section

variable (L : Lane) {n k : Nat} (f : SlotSt → SlotSt)

theorem Lane.slotSt_onSlot : (L.onSlot n f).slotSt k = if k = n ∧ n < L.ntk.slots.length then f (L.slotSt n) else L.slotSt k :=
  getD_modAt _ _ _ _ _

theorem Lane.slotSt_onSlot_other (h : k ≠ n) : (L.onSlot n f).slotSt k = L.slotSt k := by
  rw [L.slotSt_onSlot, if_neg fun hk => h hk.1]

theorem Lane.slotSt_find (p b : Nat) : (L.find p b).slotSt n = L.slotSt n := (rfl)

theorem Lane.slotSt_onSlot_listed (h : n < L.ntk.slots.length) : (L.onSlot n f).slotSt n = f (L.slotSt n) := by
  rw [L.slotSt_onSlot, if_pos ⟨rfl, h⟩]

/-- A slot that the lane does not list reads as a slot at its start. -/
theorem Lane.slotSt_unlisted (h : L.ntk.slots.length ≤ n) : L.slotSt n = {} := List.getD_eq_default _ _ h

/-- The slot changed reads its change, if it is listed: it differs from a slot at its start, or the change leaves such a slot alone. -/
theorem Lane.slotSt_onSlot_same (h : L.slotSt n ≠ {} ∨ f {} = {}) : (L.onSlot n f).slotSt n = f (L.slotSt n) := by
  by_cases hn : n < L.ntk.slots.length
  · exact L.slotSt_onSlot_listed f hn
  · have he := L.slotSt_unlisted (not_lt.1 hn)
    rw [L.slotSt_onSlot, if_neg fun hk => hn hk.2, he]
    exact (h.resolve_left (not_not_intro he)).symm

end

/-! ### Lanes that differ in their slots only -/

/-- Nothing differs but what the slots hold. -/
def Lane.slotsOnly (L M : Lane) : Prop :=
  M.ntk.slots.length = L.ntk.slots.length ∧ (M.onNtk fun k => { k with slots := L.ntk.slots }) = L

section

variable {L M : Lane}

theorem Lane.slotsOnly_refl (L : Lane) : L.slotsOnly L := ⟨rfl, rfl⟩

theorem Lane.slotsOnly_onSlot (n : Nat) (f : SlotSt → SlotSt) (h : L.slotsOnly M) : L.slotsOnly (M.onSlot n f) :=
  ⟨(length_modAt f _ n).trans h.1, h.2⟩

/-- What is read of a lane without its slots reads the same. -/
theorem Lane.slotsOnly.read {α : Type} (h : L.slotsOnly M) (g : Lane → α)
    (hg : ∀ (K : Lane) l, g (K.onNtk fun k => { k with slots := l }) = g K) : g M = g L := (hg M _).symm.trans (congrArg g h.2)

/-- Slots changed one after another. -/
theorem Lane.slotsOnly_foldl {f : Nat → SlotSt → SlotSt} (l : List Nat) : ∀ {M : Lane}, L.slotsOnly M →
    L.slotsOnly (l.foldl (fun K n => K.onSlot n (f n)) M) := by
  induction l with
  | nil => exact fun h => h
  | cons n l ih => exact fun h => ih (Lane.slotsOnly_onSlot n (f n) h)

end

/-! ### A step made slot by slot -/

/-- A step for each slot that changes its own slot, or nothing. -/
def SlotStep (f : Nat → Lane → Lane) : Prop := ∀ n (L : Lane), f n L = L ∨ ∃ g, f n L = L.onSlot n g

section

variable {f : Nat → Lane → Lane} (hf : SlotStep f) (L : Lane)
include hf

theorem SlotStep.slotsOnly_forUpTo (n : Nat) : L.slotsOnly (forUpTo n f L) := by
  induction n with
  | zero => exact L.slotsOnly_refl
  | succ n ih =>
    show L.slotsOnly (f n (forUpTo n f L))
    rcases hf n (forUpTo n f L) with h | ⟨g, h⟩ <;> rw [h]
    · exact ih
    · exact Lane.slotsOnly_onSlot n g ih

theorem SlotStep.slotSt_other {n k : Nat} (h : k ≠ n) : (f n L).slotSt k = L.slotSt k := by
  rcases hf n L with e | ⟨g, e⟩ <;> rw [e]
  exact L.slotSt_onSlot_other g h

/-- A slot that the steps have not reached yet. -/
theorem SlotStep.slotSt_later {n k : Nat} (h : n ≤ k) : (forUpTo n f L).slotSt k = L.slotSt k := by
  induction n with
  | zero => rfl
  | succ n ih =>
    show (f n (forUpTo n f L)).slotSt k = _
    rw [hf.slotSt_other _ (by omega), ih (by omega)]

/-- A slot becomes what its own step makes of it. -/
theorem SlotStep.slotSt_forUpTo {n k : Nat} (h : k < n) : (forUpTo n f L).slotSt k = (f k (forUpTo k f L)).slotSt k := by
  induction n with
  | zero => omega
  | succ n ih =>
    show (f n (forUpTo n f L)).slotSt k = _
    rcases Nat.lt_succ_iff_lt_or_eq.1 h with h | rfl
    · rw [hf.slotSt_other _ (by omega), ih h]
    · rfl

end

/-! ### Frames of commands on the intake -/

/-- The frame of a command that changes the intake's record beside registers and events. -/
def Lane.framedNtk (L M : Lane) (fs : List Fld) (es : List (Nat × Nat)) : Prop := L.framedUpTo M fs es fun N => N.onNtk fun _ => L.ntk

section

variable {L M : Lane} {fs : List Fld} {es : List (Nat × Nat)}

theorem Lane.framedNtk_refl (L : Lane) (fs : List Fld) : L.framedNtk L fs [] := ⟨L.keepsBut_refl fs, by simp, rfl⟩

theorem Lane.framedNtk_slotsOnly {N : Lane} (h : L.framedNtk M fs es) (h' : M.slotsOnly N) : L.framedNtk N fs es := by
  obtain ⟨hk, hf, ho⟩ := h
  refine ⟨Lane.keepsBut_regs (h'.read Lane.regs fun _ _ => rfl) hk, (h'.read Lane.found fun _ _ => rfl).trans hf, ?_⟩
  have hback := congrArg (fun K : Lane => { (K.onNtk fun _ => L.ntk) with regs := L.regs, found := L.found }) h'.2
  exact hback.trans ho

theorem Lane.framedNtk_onSlot (L : Lane) (n : Nat) (f : SlotSt → SlotSt) (fs : List Fld) : L.framedNtk (L.onSlot n f) fs [] :=
  L.framedNtk_refl fs

theorem Lane.framedNtk_onNtk (g : IntakeSt → IntakeSt) (h : L.framedNtk M fs es) : L.framedNtk (M.onNtk g) fs es := h

theorem Lane.framedNtk_set {f : Fld} (v : Nat) (hm : f ∈ fs) (hf : f.lo + f.w ≤ 32) (h : L.framedNtk M fs es) : L.framedNtk (M.set f v) fs es :=
  ⟨Lane.keepsBut_set v hf hm h.1, h.2⟩

theorem Lane.framedNtk_setb {f : Fld} (b : Bool) (hm : f ∈ fs) (hf : f.lo + f.w ≤ 32) (h : L.framedNtk M fs es) :
    L.framedNtk (M.setb f b) fs es := Lane.framedNtk_set _ hm hf h

theorem Lane.framedNtk_find (p b : Nat) (h : L.framedNtk M fs es) : L.framedNtk (M.find p b) fs (es ++ [(p, b)]) := by
  obtain ⟨hk, hf, ho⟩ := h
  have hnow : M.now = L.now := Lane.now_of_onlyRegs (M := M.onNtk fun _ => L.ntk) ho
  refine ⟨Lane.keepsBut_find p b hk, ?_, ho⟩
  simp [hf, Lane.ev, hnow]

end

/-! ### A command of INT_CMD shown (R146) -/

section

variable (L : Lane) {c n r : Nat}

theorem Lane.intCmd_shows (hc : c < 256) (hn : n < 30) (hr : r < 256) :
    (L.intCmd c n r).get Reg.INT_CMD_CMD = c ∧ (L.intCmd c n r).get Reg.INT_CMD_SLOT = n ∧ (L.intCmd c n r).get Reg.INT_CMD_RESULT = r := by
  have hn' : n < 2 ^ 5 := by omega
  rw [Lane.intCmd, Lane.setAll_cons, Lane.setAll_cons, Lane.setAll_cons, Lane.setAll_nil]
  refine ⟨?_, ?_, Lane.get_set_fit _ _ (by decide) hr⟩
  · rw [Lane.get_set_apart _ _ (by decide) (by decide) (by decide), Lane.get_set_apart _ _ (by decide) (by decide) (by decide)]
    exact Lane.get_set_fit _ _ (by decide) hc
  · rw [Lane.get_set_apart _ _ (by decide) (by decide) (by decide)]
    exact Lane.get_set_fit _ _ (by decide) hn'

/-- A field of another register reads as before. -/
theorem Lane.get_intCmd_addr {g : Fld} (h : g.addr ≠ 0x2024) : (L.intCmd c n r).get g = L.get g := by
  rw [Lane.intCmd, Lane.setAll_cons, Lane.setAll_cons, Lane.setAll_cons, Lane.setAll_nil]
  rw [Lane.get_set_addr _ _ h, Lane.get_set_addr _ _ h, Lane.get_set_addr _ _ h]

/-- The fields of INT_CMD that a command shows. -/
def intCmdFlds : List Fld := [Reg.INT_CMD_CMD, Reg.INT_CMD_SLOT, Reg.INT_CMD_RESULT]

theorem Lane.framed_intCmd {M : Lane} {fs : List Fld} {es : List (Nat × Nat)} (hfs : intCmdFlds ⊆ fs) (h : L.framed M fs es) :
    L.framed (M.intCmd c n r) fs es := by
  simp only [intCmdFlds, List.cons_subset] at hfs
  obtain ⟨hcmd, hslot, hresult, -⟩ := hfs
  exact Lane.framed_set (f := Reg.INT_CMD_RESULT) _ hresult (by decide)
    (Lane.framed_set (f := Reg.INT_CMD_SLOT) _ hslot (by decide) (Lane.framed_set (f := Reg.INT_CMD_CMD) _ hcmd (by decide) h))

theorem Lane.framedNtk_intCmd {M : Lane} {fs : List Fld} {es : List (Nat × Nat)} (hfs : intCmdFlds ⊆ fs) (h : L.framedNtk M fs es) :
    L.framedNtk (M.intCmd c n r) fs es := by
  simp only [intCmdFlds, List.cons_subset] at hfs
  obtain ⟨hcmd, hslot, hresult, -⟩ := hfs
  exact Lane.framedNtk_set (f := Reg.INT_CMD_RESULT) _ hresult (by decide)
    (Lane.framedNtk_set (f := Reg.INT_CMD_SLOT) _ hslot (by decide) (Lane.framedNtk_set (f := Reg.INT_CMD_CMD) _ hcmd (by decide) h))

/-- A command that INT_CMD shows and that does nothing else. -/
theorem Lane.framed_intCmd_self : L.framed (L.intCmd c n r) intCmdFlds [] := L.framed_intCmd (List.Subset.refl _) (L.framed_refl _)

end

/-- A command that is an operation on lane `l`, and what the operation makes of the lane. -/
theorem onLane_of_eq {i : Instr} {l : LaneId} {s : State} {f : Lane → Lane} {M : Lane} {P : Lane → Lane → Prop} (he : exec i s = onLane l f s)
    (hM : f (s.lane l) = M) (h : P (s.lane l) M) : OnLane i l s P := onLane_of_exec he (hM.symm ▸ h)

end Sys2Proof.Machine
end

section
/-! The time models of the slots (03 R126-R128, R146). -/

namespace Sys2Proof.Machine

open Sys2Proof

/-! ### The update of a model (R126) -/

section

variable (m : TimeModel) (tick : Nat)

/-- The residuals of the preceding 1000 ticks. -/
def TimeModel.recent : List Rat := (m.resid.filter fun x => decide (tick ≤ x.1 + 1000)).map Prod.snd

/-- A model moved by a residual. -/
def TimeModel.movedBy (e : Rat) : TimeModel :=
  { m with ofs := m.ofs + e / 4, rate := m.rate + e / 50000000000, su := m.lastS, resid := [], updates := m.updates + 1 }

theorem TimeModel.update_none (h : m.recent tick = []) : m.update tick = { m with resid := [] } := by
  unfold TimeModel.recent at h
  unfold TimeModel.update
  rw [h]

theorem TimeModel.update_some {e : Rat} {l : List Rat} (h : m.recent tick = e :: l) : m.update tick = m.movedBy (l.foldl min e) := by
  have hrate : m.rate + (2 / 100) * l.foldl min e / 1000000000 = m.rate + l.foldl min e / 50000000000 := by ring
  unfold TimeModel.recent at h
  unfold TimeModel.update TimeModel.movedBy
  rw [h, ← hrate]

variable {m tick}

theorem TimeModel.mem_recent {e : Rat} : e ∈ m.recent tick ↔ ∃ k, (k, e) ∈ m.resid ∧ tick ≤ k + 1000 := by
  simp [TimeModel.recent]

/-- No residual is recent: the model stands. -/
theorem TimeModel.update_old (h : ∀ r ∈ m.resid, r.1 + 1000 < tick) : m.update tick = { m with resid := [] } := by
  refine m.update_none tick (List.eq_nil_iff_forall_not_mem.2 fun e he => ?_)
  obtain ⟨k, hk, htick⟩ := TimeModel.mem_recent.1 he
  exact absurd (h _ hk) (not_lt.2 htick)

/-- The least of the recent residuals moves the model. -/
theorem TimeModel.update_least {k : Nat} {e : Rat} (he : (k, e) ∈ m.resid) (hk : tick ≤ k + 1000)
    (hle : ∀ k' e', (k', e') ∈ m.resid → tick ≤ k' + 1000 → e ≤ e') : m.update tick = m.movedBy e := by
  have hmem : e ∈ m.recent tick := TimeModel.mem_recent.2 ⟨k, he, hk⟩
  have hleast : ∀ e' ∈ m.recent tick, e ≤ e' := fun e' h' => by
    obtain ⟨k', hr, htick⟩ := TimeModel.mem_recent.1 h'
    exact hle k' e' hr htick
  cases hrec : m.recent tick with
  | nil => simp [hrec] at hmem
  | cons a l =>
    have hmin : (m.recent tick).min? = some e := List.min?_eq_some_iff.2 ⟨hmem, hleast⟩
    rw [hrec, List.min?_cons', Option.some.injEq] at hmin
    rw [m.update_some tick hrec, hmin]

end

/-! ### The update of every model (R126) -/

/-- The update of one slot's model. -/
def Lane.modelUpdateAt (n : Nat) (L : Lane) : Lane :=
  match L.rc.slot n with
  | some c => if c.mode = .sensor ∧ L.timeValid then L.onSlot n fun x => { x with tm := x.tm.update L.tk.count } else L
  | none => L

theorem Lane.modelUpdate_eq (L : Lane) : L.modelUpdate = forUpTo 30 Lane.modelUpdateAt L := (rfl)

theorem Lane.modelUpdateAt_sensor {L : Lane} {n : Nat} {c : SlotChart} (hc : L.rc.slot n = some c) (hm : c.mode = .sensor) (ht : L.timeValid = true) :
    L.modelUpdateAt n = L.onSlot n fun x => { x with tm := x.tm.update L.tk.count } := by
  rw [Lane.modelUpdateAt, hc]
  exact if_pos ⟨hm, ht⟩

theorem slotStep_modelUpdateAt : SlotStep Lane.modelUpdateAt := by
  intro n L
  unfold Lane.modelUpdateAt
  split
  · split
    · exact .inr ⟨_, rfl⟩
    · exact .inl rfl
  · exact .inl rfl

/-- The model of a sensor-time slot is updated, whatever the other slots are. -/
theorem Lane.tm_modelUpdate {L : Lane} {n : Nat} {c : SlotChart} (hn : n < 30) (hc : L.rc.slot n = some c) (hm : c.mode = .sensor)
    (ht : L.timeValid = true) : (L.modelUpdate.slotSt n).tm = (L.slotSt n).tm.update L.tk.count := by
  have hso := slotStep_modelUpdateAt.slotsOnly_forUpTo L n
  have hc' := (hso.read (fun K => K.rc.slot n) fun _ _ => rfl).trans hc
  have ht' := (hso.read Lane.timeValid fun _ _ => rfl).trans ht
  rw [L.modelUpdate_eq, slotStep_modelUpdateAt.slotSt_forUpTo L hn, Lane.modelUpdateAt_sensor hc' hm ht',
    Lane.slotSt_onSlot_same _ _ (.inr rfl), slotStep_modelUpdateAt.slotSt_later L le_rfl, hso.read Lane.tk fun _ _ => rfl]

/-! ### A model's state shown (R128) -/

section

variable (L : Lane) {n : Nat} (b : Bool)

/-- A model shown degraded, or not. -/
def Lane.tdegShown (n : Nat) : Lane := (L.setBit Reg.INT_TDEG_MASK n b).setb (Reg.SLOT_STAT_TIME_DEGRADED n) b

theorem Lane.bitTo_tdegShown (hn : n < 30) : L.bitTo (L.tdegShown b n) Reg.INT_TDEG_MASK n b := by
  have hbit : ∀ k, (L.tdegShown b n).bit Reg.INT_TDEG_MASK k = if k = n then b else L.bit Reg.INT_TDEG_MASK k := fun k => by
    rw [← L.bit_setBit Reg.INT_TDEG_MASK n k b (by decide) hn]
    have haddr : Reg.INT_TDEG_MASK.addr ≠ (Reg.SLOT_STAT_TIME_DEGRADED n).addr := show 0x2030 ≠ 0x2420 + 0x10 * n by omega
    exact congrArg (testBit · k) (Lane.get_set_addr _ _ haddr)
  exact ⟨(hbit n).trans (if_pos rfl), fun k hk => (hbit k).trans (if_neg hk)⟩

theorem Lane.get_tdegShown : (L.tdegShown b n).get (Reg.SLOT_STAT_TIME_DEGRADED n) = if b then 1 else 0 :=
  Lane.get_setb _ _ b (show 16 + 1 ≤ 32 by decide) rfl

theorem Lane.framedNtk_tdegShown {L M : Lane} {fs : List Fld} {es : List (Nat × Nat)} (hm : Reg.INT_TDEG_MASK ∈ fs)
    (hs : Reg.SLOT_STAT_TIME_DEGRADED n ∈ fs) (h : L.framedNtk M fs es) : L.framedNtk (M.tdegShown b n) fs es :=
  Lane.framedNtk_setb b hs (show 16 + 1 ≤ 32 by decide) (Lane.framedNtk_set _ hm (by decide) h)

end

section

variable {L M : Lane} {n : Nat} {b : Bool}

theorem Lane.bitTo_find {f : Fld} (p e : Nat) (h : L.bitTo M f n b) : L.bitTo (M.find p e) f n b := h

/-- A command of INT_CMD shown beside it. -/
theorem Lane.bitTo_intCmd {c k r : Nat} (h : L.bitTo M Reg.INT_TDEG_MASK n b) : L.bitTo (M.intCmd c k r) Reg.INT_TDEG_MASK n b := by
  have hbit : ∀ j, (M.intCmd c k r).bit Reg.INT_TDEG_MASK j = M.bit Reg.INT_TDEG_MASK j := fun j =>
    congrArg (testBit · j) (M.get_intCmd_addr (by decide))
  exact ⟨(hbit n).trans h.1, fun j hj => (hbit j).trans (h.2 j hj)⟩

end

/-! ### A model turned degraded, and back (R128) -/

section

/-- A model turned degraded, or back. -/
def TimeModel.turned (m : TimeModel) (b : Bool) : TimeModel := { m with degraded := b, above := 0, within := 0 }

/-- The lane with a slot's model turned, and shown so. -/
def Lane.modelTurned (L : Lane) (b : Bool) (n : Nat) : Lane := (L.onSlot n fun x => { x with tm := x.tm.turned b }).tdegShown b n

theorem Lane.tm_modelTurned (L : Lane) (b : Bool) {n : Nat} (h : L.slotSt n ≠ {}) : ((L.modelTurned b n).slotSt n).tm = (L.slotSt n).tm.turned b :=
  congrArg SlotSt.tm (L.slotSt_onSlot_same _ (.inl h))

theorem Lane.slotSt_modelTurned_other (L : Lane) (b : Bool) {n k : Nat} (h : k ≠ n) : (L.modelTurned b n).slotSt k = L.slotSt k :=
  L.slotSt_onSlot_other _ h

theorem Lane.bitTo_modelTurned (L : Lane) (b : Bool) {n : Nat} (hn : n < 30) : L.bitTo (L.modelTurned b n) Reg.INT_TDEG_MASK n b :=
  (L.onSlot n fun x => { x with tm := x.tm.turned b }).bitTo_tdegShown b hn

theorem Lane.get_modelTurned (L : Lane) (b : Bool) (n : Nat) : (L.modelTurned b n).get (Reg.SLOT_STAT_TIME_DEGRADED n) = if b then 1 else 0 :=
  Lane.get_tdegShown _ b

theorem Lane.framedNtk_modelTurned (L : Lane) (b : Bool) (n : Nat) :
    L.framedNtk (L.modelTurned b n) [Reg.INT_TDEG_MASK, Reg.SLOT_STAT_TIME_DEGRADED n] [] :=
  Lane.framedNtk_tdegShown b (by simp) (by simp) (L.framedNtk_onSlot n _ _)

variable {s : State} {l : LaneId} {n : Nat}

theorem exec_timeDegraded (hl : ((s.lane l).slotSt n).tm.learning = false) (hd : ((s.lane l).slotSt n).tm.degraded = false)
    (ha : 8 ≤ ((s.lane l).slotSt n).tm.above) :
    exec (.timeDegraded l n) s = .next (s.setLane l (((s.lane l).modelTurned true n).find 0x08 2)) :=
  congrArg (fun M => Host.Outcome.next (s.setLane l M)) (if_pos ⟨by simp [hl], by simp [hd], ha⟩)

theorem exec_timeRestored (hd : ((s.lane l).slotSt n).tm.degraded = true) (hw : 8 ≤ ((s.lane l).slotSt n).tm.within) :
    exec (.timeRestored l n) s = .next (s.setLane l ((s.lane l).modelTurned false n)) :=
  congrArg (fun M => Host.Outcome.next (s.setLane l M)) (if_pos ⟨hd, hw⟩)

end

/-! ### The host's restart of a model (R146) -/

section

variable {L : Lane} {n : Nat}

theorem Lane.restartModel_unused (h : L.rc.slot n = none) : L.restartModel n = L.intCmd 2 n 1 := by rw [Lane.restartModel, h]

theorem Lane.restartModel_sensor {c : SlotChart} (h : L.rc.slot n = some c) (hm : c.mode = .sensor) :
    L.restartModel n = ((L.onSlot n fun x => { x with tm := {} }).tdegShown false n).intCmd 2 n 0 := by
  rw [Lane.restartModel, h]
  exact if_pos hm

theorem Lane.restartModel_other {c : SlotChart} (h : L.rc.slot n = some c) (hm : c.mode ≠ .sensor) : L.restartModel n = L.intCmd 2 n 2 := by
  rw [Lane.restartModel, h]
  exact if_neg hm

end

/-- Settles O18: the update by the least residual, the ends of learning and of a degradation, and the host's restart, each read off the one
slot it changes. -/
theorem timeModels : Obligations.TimeModels := by
  unfold Obligations.TimeModels
  intro s l n hn
  dsimp only
  refine ⟨fun c hc hm ht => ?update, fun hl hu => ?learnt, fun hu => ?learning, fun hl hd ha => ?degraded, fun hd hw => ?restored,
    fun c hc hm => ?restart, fun c hc hm => ?otherMode, fun hc => ?unused⟩
  case update =>
    have htm := Lane.tm_modelUpdate hn hc hm ht
    refine onLane_of_exec rfl ⟨fun k e he hk hle => htm.trans (TimeModel.update_least he hk hle), fun h => htm.trans (TimeModel.update_old h), ?_⟩
    rw [Lane.modelUpdate_eq]
    exact Lane.framedNtk_slotsOnly ((s.lane l).framedNtk_refl []) (slotStep_modelUpdateAt.slotsOnly_forUpTo _ 30)
  case learnt =>
    have hlisted : (s.lane l).slotSt n ≠ {} := ne_of_apply_ne (fun x => x.tm.updates) (by show _ ≠ 0; omega)
    exact onLane_of_eq rfl (if_pos ⟨hl, hu⟩) ⟨congrArg SlotSt.tm (Lane.slotSt_onSlot_same _ _ (.inl hlisted)),
      fun k hk => Lane.slotSt_onSlot_other _ _ hk, Lane.framedNtk_onSlot _ n _ []⟩
  case learning => exact idle_of_exec rfl (if_neg fun h => absurd h.2 (by omega))
  case degraded =>
    have hlisted : (s.lane l).slotSt n ≠ {} := ne_of_apply_ne (fun x => x.tm.above) (by show _ ≠ 0; omega)
    refine ⟨_, exec_timeDegraded hl hd ha, ?_, fun k hk => ?_, Lane.bitTo_find _ _ ((s.lane l).bitTo_modelTurned true hn),
      (Lane.find_get _ _ _ _).trans ((s.lane l).get_modelTurned true n),
      Lane.framedNtk_find _ _ ((s.lane l).framedNtk_modelTurned true n)⟩ <;> rw [Lane.slotSt_find]
    · exact (s.lane l).tm_modelTurned true hlisted
    · exact (s.lane l).slotSt_modelTurned_other true hk
  case restored =>
    have hlisted : (s.lane l).slotSt n ≠ {} := ne_of_apply_ne (fun x => x.tm.within) (by show _ ≠ 0; omega)
    exact ⟨_, exec_timeRestored hd hw, (s.lane l).tm_modelTurned false hlisted, fun k hk => (s.lane l).slotSt_modelTurned_other false hk,
      (s.lane l).bitTo_modelTurned false hn, (s.lane l).get_modelTurned false n, (s.lane l).framedNtk_modelTurned false n⟩
  case restart =>
    obtain ⟨hcmd, hslot, hresult⟩ :=
      Lane.intCmd_shows (((s.lane l).onSlot n fun x => { x with tm := {} }).tdegShown false n) (c := 2) (r := 0) (by decide) hn (by decide)
    have haddr : (Reg.SLOT_STAT_TIME_DEGRADED n).addr ≠ 0x2024 := show 0x2420 + 0x10 * n ≠ 0x2024 by omega
    refine onLane_of_eq rfl (Lane.restartModel_sensor hc hm) ⟨?_, fun k hk => Lane.slotSt_onSlot_other _ _ hk,
      Lane.bitTo_intCmd (Lane.bitTo_tdegShown _ false hn), (Lane.get_intCmd_addr _ haddr).trans (Lane.get_tdegShown _ false),
      hcmd, hslot, hresult, ?_⟩
    · exact congrArg SlotSt.tm (Lane.slotSt_onSlot_same _ _ (.inr rfl))
    · exact Lane.framedNtk_intCmd _ (List.subset_append_right _ _)
        (Lane.framedNtk_tdegShown false (by simp) (by simp) (Lane.framedNtk_onSlot _ n _ _))
  case otherMode =>
    obtain ⟨-, -, hresult⟩ := (s.lane l).intCmd_shows (c := 2) (r := 2) (by decide) hn (by decide)
    exact onLane_of_eq rfl (Lane.restartModel_other hc hm) ⟨hresult, (s.lane l).framed_intCmd_self⟩
  case unused =>
    obtain ⟨-, -, hresult⟩ := (s.lane l).intCmd_shows (c := 2) (r := 1) (by decide) hn (by decide)
    exact onLane_of_eq rfl (Lane.restartModel_unused hc) ⟨hresult, (s.lane l).framed_intCmd_self⟩

end Sys2Proof.Machine
end

section
/-! The slots' states, weights and disagreement, and the host's commands on them (03 R119, R124, R133, R137, R139, R141, R146). -/

namespace Sys2Proof.Machine

open Sys2Proof

/-! ### What the filter's acts leave (R133; 04 R158-R160) -/

/-- Nothing differs but the Plotter's record, its fault NUMERIC, and events found in addition. -/
def Lane.plotOnly (L M : Lane) : Prop :=
  L.keepsBut M [Reg.PLOT_FAULT_NUMERIC] ∧ L.found ⊆ M.found ∧ L.onlyRegs (M.onPlt fun _ => L.plt)

section

variable {L M : Lane}

theorem Lane.plotOnly_refl (L : Lane) : L.plotOnly L := ⟨L.keepsBut_refl _, List.Subset.refl _, rfl⟩

theorem Lane.plotOnly_onOwn (g : PlotSt → PlotSt) (h : L.plotOnly M) : L.plotOnly (M.onOwn g) := h

theorem Lane.plotOnly_repaired (b : Bool) (h : L.plotOnly M) : L.plotOnly (M.repaired b) := by
  cases b
  · exact h
  · obtain ⟨hk, hf, ho⟩ := h
    exact ⟨Lane.keepsBut_find _ _ (Lane.keepsBut_set _ (by decide) (List.mem_singleton_self _) hk),
      List.subset_append_of_subset_left _ hf, ho⟩

theorem Lane.plotOnly_covNow (h : L.plotOnly M) : L.plotOnly M.covNow := by
  unfold Lane.covNow
  dsimp only
  split_ifs
  · exact h
  · exact Lane.plotOnly_repaired _ (Lane.plotOnly_onOwn _ h)

theorem Lane.plotOnly_filterAct (j : Judged) (h : L.plotOnly M) : L.plotOnly (M.filterAct j) :=
  Lane.plotOnly_repaired _ (Lane.plotOnly_onOwn _ (Lane.plotOnly_covNow h))

theorem Lane.plotOnly.ntk_eq (h : L.plotOnly M) : M.ntk = L.ntk :=
  Lane.read_of_onlyRegs (M := M.onPlt fun _ => L.plt) Lane.ntk (fun _ _ _ => rfl) h.2.2

end

/-! ### The changes of a slot's state (R133, R139, R119) -/

section

variable {L : Lane} {n : Nat}

/-- A slot in a state other than that of its start is listed. -/
theorem Lane.slotSt_listed {l : List SlotState} (h : (L.slotSt n).st ∈ l) (hl : .unused ∉ l) : L.slotSt n ≠ {} :=
  ne_of_apply_ne SlotSt.st (ne_of_mem_of_not_mem h hl)

/-- What admission makes of a slot. -/
def SlotSt.admittedNow (x : SlotSt) : SlotSt := { x with st := .admitted, ramp := 100, rampTicks := 0, fails := 0, acc := 0, passes := 0 }

theorem Lane.plotOnly_admitSlot (t : Rat) : ((L.onSlot n SlotSt.admittedNow).find 0x08 1).plotOnly (L.admitSlot n t) := by
  unfold Lane.admitSlot
  dsimp only
  split_ifs
  · exact Lane.plotOnly_filterAct _ (Lane.plotOnly_refl _)
  · exact Lane.plotOnly_refl _

/-- The slots after an admission. -/
theorem Lane.slotSt_admitSlot (t : Rat) (k : Nat) : (L.admitSlot n t).slotSt k = (L.onSlot n SlotSt.admittedNow).slotSt k :=
  congrArg (fun t : IntakeSt => t.slots.getD k {}) (Lane.plotOnly_admitSlot (n := n) t).ntk_eq

/-- What an admission leaves beside the slots. -/
theorem Lane.admitSlot_leaves (t : Rat) : L.ev 0x08 1 ∈ (L.admitSlot n t).found ∧ L.keepsBut (L.admitSlot n t) [Reg.PLOT_FAULT_NUMERIC] ∧
    L.onlyRegs (((L.admitSlot n t).onNtk fun _ => L.ntk).onPlt fun _ => L.plt) := by
  obtain ⟨hkeep, hfound, honly⟩ := Lane.plotOnly_admitSlot (L := L) (n := n) t
  have hback := congrArg (fun K : Lane => { (K.onNtk fun _ => L.ntk) with regs := L.regs, found := L.found }) honly
  exact ⟨hfound (List.mem_append_right _ (List.mem_singleton_self _)), hkeep, hback⟩

theorem Lane.refAdmitted_done {t : Rat} (hst : (L.slotSt n).st = .admitting ∨ (L.slotSt n).st = .rejected) (hd : L.admissionDone n = true) :
    L.refAdmitted n t = L.admitSlot n t := if_pos ⟨hst, hd⟩

theorem Lane.refAdmitted_notYet {t : Rat} (hd : L.admissionDone n = false) : L.refAdmitted n t = L := if_neg fun h => by simp [hd] at h

variable {c : SlotChart} (hc : L.rc.slot n = some c)
include hc

theorem Lane.refRejected_due (hst : (L.slotSt n).st = .suspect) (hf : c.rejectCnt ≤ (L.slotSt n).fails) :
    L.refRejected n = (L.onSlot n fun x => { x with st := .rejected, acc := 0, passes := 0 }).find 0x08 0 := by
  rw [Lane.refRejected, hc]
  exact if_pos ⟨hst, hf⟩

theorem Lane.slotTimeout_due (hst : (L.slotSt n).st ∈ [.admitted, .suspect, .admitting])
    (hgone : ∀ t ∈ (L.slotSt n).lastValid, (c.timeout : Rat) * 1000000 ≤ L.now - t) :
    L.slotTimeout n = L.onSlot n fun x => { x with st := .waiting, acc := 0, passes := 0, fails := 0 } := by
  rw [Lane.slotTimeout, hc]
  refine if_pos ⟨?_, by simpa using hst⟩
  cases hv : (L.slotSt n).lastValid with
  | none => rfl
  | some t => exact decide_eq_true (hgone t hv)

theorem Lane.slotTimeout_fresh {t : Rat} (hv : (L.slotSt n).lastValid = some t) (ht : L.now - t < (c.timeout : Rat) * 1000000) :
    L.slotTimeout n = L := by
  rw [Lane.slotTimeout, hc]
  refine if_neg fun h => ?_
  simp only [hv, decide_eq_true_eq] at h
  exact absurd h.1 (not_le.2 ht)

end

/-! ### Two groups that disagree (R137) -/

section

/-- The comparison of two groups, of heading or of position; the field that shows a disagreement; no majority under R136. -/
def IntakeSt.two (k : IntakeSt) (heading : Bool) : TwoGroup := if heading then k.hdg2 else k.pos2
def disagreeFld (heading : Bool) : Fld := if heading then Reg.INT_STAT_HDG_DISAGREE else Reg.INT_STAT_POS_DISAGREE
def IntakeSt.tie (k : IntakeSt) (heading : Bool) : Bool := if heading then k.hdg136 else k.pos136
def IntakeSt.setTwo (k : IntakeSt) (heading : Bool) (t : TwoGroup) : IntakeSt := if heading then { k with hdg2 := t } else { k with pos2 := t }

/-- The slots of a kind take part in a disagreement, or none does. -/
def Lane.marked137 (L : Lane) (k : RefKind) (on : Bool) : Lane :=
  (kindSlots k).foldl (fun K s => K.onSlot s fun x => { x with dis137 := on && (L.voteMembers k).contains s }) L

theorem Lane.slotsOnly_marked137 (L : Lane) (k : RefKind) (on : Bool) : L.slotsOnly (L.marked137 k on) :=
  Lane.slotsOnly_foldl _ L.slotsOnly_refl

variable {L : Lane} {heading : Bool}

theorem Lane.refDisagree_short (h : (L.ntk.two heading).run < 5) : L.refDisagree heading = L := if_pos h

/-- The disagreement turned, and shown. -/
def Lane.disagreeTurned (L : Lane) (heading : Bool) : Lane :=
  let on := !(L.ntk.two heading).on
  ((L.marked137 (if heading then .heading else .position) on).onNtk fun k => k.setTwo heading ⟨on, 0⟩).setb (disagreeFld heading)
    (on || L.ntk.tie heading)

theorem Lane.refDisagree_due (h : 5 ≤ (L.ntk.two heading).run) :
    L.refDisagree heading = (L.disagreeTurned heading).findIf (!(L.ntk.two heading).on) 0x08 4 := by
  have hso := L.slotsOnly_marked137 (if heading then .heading else .position) (!(L.ntk.two heading).on)
  have htie := hso.read (fun K => K.ntk.tie heading) fun _ _ => by cases heading <;> rfl
  rw [Lane.disagreeTurned, ← htie]
  cases heading <;> exact if_neg (Nat.not_lt.2 h)

theorem Lane.two_disagreeTurned (L : Lane) (heading : Bool) :
    (L.disagreeTurned heading).ntk.two heading = ⟨!(L.ntk.two heading).on, 0⟩ := by cases heading <;> rfl

theorem disagreeFld_fits (heading : Bool) : (disagreeFld heading).lo + 1 ≤ 32 ∧ (disagreeFld heading).w = 1 := by cases heading <;> decide

theorem Lane.get_disagreeTurned (L : Lane) (heading : Bool) :
    (L.disagreeTurned heading).get (disagreeFld heading) = if !(L.ntk.two heading).on || L.ntk.tie heading then 1 else 0 :=
  Lane.get_setb _ _ _ (disagreeFld_fits heading).1 (disagreeFld_fits heading).2

theorem Lane.framedNtk_disagreeTurned (L : Lane) (heading : Bool) : L.framedNtk (L.disagreeTurned heading) [disagreeFld heading] [] := by
  obtain ⟨hlo, hw⟩ := disagreeFld_fits heading
  exact Lane.framedNtk_setb _ (List.mem_singleton_self _) (hw ▸ hlo)
    (Lane.framedNtk_onNtk _ (Lane.framedNtk_slotsOnly (L.framedNtk_refl _) (L.slotsOnly_marked137 _ _)))

theorem Lane.findIf_ntk (L : Lane) (b : Bool) (p e : Nat) : (L.findIf b p e).ntk = L.ntk := by cases b <;> rfl

/-- An event found unless a condition holds. -/
theorem Lane.framedNtk_findIf_not {M : Lane} {fs : List Fld} (b : Bool) (p e : Nat) (h : L.framedNtk M fs []) :
    L.framedNtk (M.findIf (!b) p e) fs (if b then [] else [(p, e)]) := by
  cases b
  · exact Lane.framedNtk_find p e h
  · exact h

end

/-! ### The deselection mask (R141, R146) -/

section

/-- What the mask makes of one slot. -/
def Lane.deselectAt (n : Nat) (L : Lane) : Lane :=
  if (L.rc.slot n).isNone then L
  else if L.bit Reg.INT_DESELECT_MASK n then L.onSlot n fun x => { x with st := .deselected, acc := 0, passes := 0, fails := 0 }
  else if (L.slotSt n).st = .deselected then L.onSlot n fun x => { x with st := .admitting, acc := 0, passes := 0, fails := 0 }
  else L

theorem slotStep_deselectAt : SlotStep Lane.deselectAt := by
  intro n L
  unfold Lane.deselectAt
  split_ifs
  · exact .inl rfl
  · exact .inr ⟨_, rfl⟩
  · exact .inr ⟨_, rfl⟩
  · exact .inl rfl

variable (L : Lane) {n : Nat} (mask : Nat)

theorem Lane.deselectAt_unused (h : L.rc.slot n = none) : L.deselectAt n = L := if_pos (by rw [h]; rfl)

theorem Lane.st_deselectAt (hl : n < L.ntk.slots.length) (hc : L.rc.slot n ≠ none) :
    ((L.deselectAt n).slotSt n).st = if L.bit Reg.INT_DESELECT_MASK n = true then .deselected
      else if (L.slotSt n).st = .deselected then .admitting else (L.slotSt n).st := by
  rw [Lane.deselectAt, if_neg (by simpa using hc)]
  split_ifs
  · rw [L.slotSt_onSlot_listed _ hl]
  · rw [L.slotSt_onSlot_listed _ hl]
  · rfl

/-- The mask taken: the bits of configured slots. -/
def Lane.maskTaken : Nat := maskOf 30 fun n => testBit mask n && (L.rc.slot n).isSome

/-- The mask written, before it acts. -/
def Lane.maskWritten : Lane := (L.set Reg.INT_DESELECT_MASK (L.maskTaken mask)).onNtk fun k => { k with desWritten := true }

theorem Lane.deselectWrite_eq : L.deselectWrite mask = forUpTo 30 Lane.deselectAt (L.maskWritten mask) := by
  have hmask : (List.range 30).foldl (fun m n => if testBit mask n ∧ (L.rc.slot n).isSome then m + 2 ^ n else m) 0 = L.maskTaken mask := by
    simp only [Lane.maskTaken, maskOf, Bool.and_eq_true]
  rw [Lane.maskWritten, ← hmask]
  rfl

theorem Lane.bit_maskWritten (hn : n < 30) :
    (L.maskWritten mask).bit Reg.INT_DESELECT_MASK n = (testBit mask n && (L.rc.slot n).isSome) := by
  refine (L.bit_set_same Reg.INT_DESELECT_MASK (L.maskTaken mask) n (by decide) hn).trans ?_
  rw [Lane.maskTaken, testBit_maskOf, decide_eq_true hn, Bool.true_and]

/-- The slots of a lane in which the mask acts, as far as slot `n`: they are the only change, and the slot waits for its turn. -/
theorem Lane.slotSt_deselectWrite (hn : n < 30) : ∃ K : Lane, (L.maskWritten mask).slotsOnly K ∧ K.slotSt n = L.slotSt n ∧
    (L.deselectWrite mask).slotSt n = (K.deselectAt n).slotSt n := by
  refine ⟨forUpTo n Lane.deselectAt (L.maskWritten mask), slotStep_deselectAt.slotsOnly_forUpTo _ n,
    slotStep_deselectAt.slotSt_later _ le_rfl, ?_⟩
  rw [L.deselectWrite_eq, slotStep_deselectAt.slotSt_forUpTo _ hn]

theorem Lane.slotSt_deselectWrite_unused (hn : n < 30) (hc : L.rc.slot n = none) : (L.deselectWrite mask).slotSt n = L.slotSt n := by
  obtain ⟨K, hso, hslot, hwrite⟩ := L.slotSt_deselectWrite mask hn
  rw [hwrite, K.deselectAt_unused ((hso.read (fun K => K.rc.slot n) fun _ _ => rfl).trans hc), hslot]

theorem Lane.st_deselectWrite (hn : n < 30) (hl : n < L.ntk.slots.length) (hc : L.rc.slot n ≠ none) :
    ((L.deselectWrite mask).slotSt n).st = if testBit mask n = true then .deselected
      else if (L.slotSt n).st = .deselected then .admitting else (L.slotSt n).st := by
  obtain ⟨K, hso, hslot, hwrite⟩ := L.slotSt_deselectWrite mask hn
  have hrc : K.rc.slot n = L.rc.slot n := hso.read (fun K => K.rc.slot n) fun _ _ => rfl
  have hbit : K.bit Reg.INT_DESELECT_MASK n = testBit mask n := by
    rw [hso.read (fun K => K.bit Reg.INT_DESELECT_MASK n) fun _ _ => rfl, L.bit_maskWritten mask hn, Option.isSome_iff_ne_none.2 hc, Bool.and_true]
  rw [hwrite, K.st_deselectAt (hso.1.symm ▸ hl) (hrc ▸ hc), hbit, hslot]

/-- What the write of the mask leaves, beside the slots. -/
theorem Lane.slotsOnly_deselectWrite : (L.maskWritten mask).slotsOnly (L.deselectWrite mask) := by
  rw [L.deselectWrite_eq]
  exact slotStep_deselectAt.slotsOnly_forUpTo _ 30

theorem Lane.framedNtk_deselectWrite : L.framedNtk (L.deselectWrite mask) [Reg.INT_DESELECT_MASK] [] :=
  Lane.framedNtk_slotsOnly (Lane.framedNtk_onNtk _ (Lane.framedNtk_set _ (List.mem_singleton_self _) (by decide) (L.framedNtk_refl _)))
    (L.slotsOnly_deselectWrite mask)

end

/-! ### The counts cleared, and a new anchor (R124, R146) -/

section

variable {L : Lane} {n : Nat}

theorem Lane.clearCounts_unused (h : L.rc.slot n = none) : L.clearCounts n = L.intCmd 1 n 1 := if_pos (by rw [h]; rfl)

theorem Lane.clearCounts_used {c : SlotChart} (h : L.rc.slot n = some c) : L.clearCounts n = (L.set (Reg.SLOT_CNT_w n) 0).intCmd 1 n 0 :=
  if_neg (by rw [h]; exact Bool.false_ne_true)

/-- The counts after a command to clear them, and what INT_CMD shows of it. -/
theorem Lane.clearCounts_spec (L : Lane) (hn : n < 30) :
    (L.clearCounts n).get (Reg.SLOT_CNT_w n) = (if (L.rc.slot n).isNone then L.get (Reg.SLOT_CNT_w n) else 0) ∧
      (L.clearCounts n).get Reg.INT_CMD_CMD = 1 ∧ (L.clearCounts n).get Reg.INT_CMD_SLOT = n ∧
      (L.clearCounts n).get Reg.INT_CMD_RESULT = (if (L.rc.slot n).isNone then 1 else 0) ∧
      L.framed (L.clearCounts n) (Reg.SLOT_CNT_w n :: intCmdFlds) [] := by
  have haddr : (Reg.SLOT_CNT_w n).addr ≠ 0x2024 := show 0x2428 + 0x10 * n ≠ 0x2024 by omega
  cases hc : L.rc.slot n with
  | none =>
    obtain ⟨hcmd, hslot, hresult⟩ := L.intCmd_shows (c := 1) (r := 1) (by decide) hn (by decide)
    rw [Lane.clearCounts_unused hc]
    exact ⟨L.get_intCmd_addr haddr, hcmd, hslot, hresult, L.framed_intCmd (List.subset_cons_self _ _) (L.framed_refl _)⟩
  | some c =>
    obtain ⟨hcmd, hslot, hresult⟩ := (L.set (Reg.SLOT_CNT_w n) 0).intCmd_shows (c := 1) (r := 0) (by decide) hn (by decide)
    have hcnt := L.get_set_fit (Reg.SLOT_CNT_w n) (v := 0) (show 0 + 32 ≤ 32 by decide) (show 0 < 2 ^ 32 by decide)
    rw [Lane.clearCounts_used hc]
    exact ⟨(Lane.get_intCmd_addr _ haddr).trans hcnt, hcmd, hslot, hresult, L.framed_intCmd (List.subset_cons_self _ _)
      (Lane.framed_set 0 (by simp) (show 0 + 32 ≤ 32 by decide) (L.framed_refl _))⟩

theorem Lane.reAnchor_unused (h : L.rc.slot n = none) : L.reAnchor n = L.intCmd 3 n 1 := by rw [Lane.reAnchor, h]

variable {c : SlotChart} (hc : L.rc.slot n = some c)
include hc

theorem Lane.reAnchor_taken (hst : (L.slotSt n).st ∈ [.waiting, .rejected, .deselected])
    (hf : c.form ≠ .absolute) (ho : c.origin = none) (hn : n < 12) :
    L.reAnchor n = (L.onSlot n fun x => { x with anchor := none, acc := 0, passes := 0 }).intCmd 3 n 0 := by
  rw [Lane.reAnchor, hc]
  exact if_pos ⟨by simpa using hst, hf, ho, hn⟩

theorem Lane.reAnchor_refused (hst : (L.slotSt n).st ∉ [.waiting, .rejected, .deselected]) : L.reAnchor n = L.intCmd 3 n 2 := by
  rw [Lane.reAnchor, hc]
  exact if_neg fun h => hst (by simpa using h.1)

end

/-- Settles O19: command by command, from the lane that each leaves. -/
theorem referenceSlots : Obligations.ReferenceSlots := by
  unfold Obligations.ReferenceSlots
  intro s l n hn
  dsimp only
  refine ⟨fun hst hd => ?admitted, fun hd => ?notYet, fun c hc hst hf => ?rejected, fun c hc hst hgone => ?timeout,
    fun c t hc hv ht => ?fresh, ?quality, fun hr h1 => ?ramp, fun heading => ⟨fun h5 => ?disagree, fun h5 => ?short⟩, fun mask => ?mask, ?counts,
    fun c hc h12 hf ho hst => ?anchor, fun c hc hst => ?noAnchor, fun hc => ?unused⟩
  case admitted =>
    have hlisted : (s.lane l).slotSt n ≠ {} := Lane.slotSt_listed (l := [.admitting, .rejected]) (by simpa using hst) (by decide)
    refine onLane_of_eq rfl (Lane.refAdmitted_done hst hd) ⟨?_, fun k hk => ?_, Lane.admitSlot_leaves _⟩ <;> rw [Lane.slotSt_admitSlot]
    · exact Lane.slotSt_onSlot_same _ _ (.inl hlisted)
    · exact Lane.slotSt_onSlot_other _ _ hk
  case notYet => exact idle_of_exec rfl (Lane.refAdmitted_notYet hd)
  case rejected =>
    have hlisted : (s.lane l).slotSt n ≠ {} := Lane.slotSt_listed (List.mem_singleton.2 hst) (by decide)
    have hframe := Lane.framedNtk_find 0x08 0 ((s.lane l).framedNtk_onSlot n (fun x => { x with st := .rejected, acc := 0, passes := 0 }) [])
    refine onLane_of_eq rfl (Lane.refRejected_due hc hst hf) ⟨?_, fun k hk => ?_, hframe⟩ <;> rw [Lane.slotSt_find]
    · exact Lane.slotSt_onSlot_same _ _ (.inl hlisted)
    · exact Lane.slotSt_onSlot_other _ _ hk
  case timeout =>
    have hlisted : (s.lane l).slotSt n ≠ {} := Lane.slotSt_listed hst (by decide)
    exact onLane_of_eq rfl (Lane.slotTimeout_due hc hst hgone) ⟨Lane.slotSt_onSlot_same _ _ (.inl hlisted),
      fun k hk => Lane.slotSt_onSlot_other _ _ hk, (s.lane l).framedNtk_onSlot n _ []⟩
  case fresh => exact idle_of_exec rfl (Lane.slotTimeout_fresh hc hv ht)
  case quality =>
    exact onLane_of_exec rfl ⟨congrArg SlotSt.quality (Lane.slotSt_onSlot_same _ _ (.inr rfl)), fun k hk => Lane.slotSt_onSlot_other _ _ hk,
      (s.lane l).framedNtk_onSlot n _ []⟩
  case ramp =>
    have hlisted : (s.lane l).slotSt n ≠ {} := ne_of_apply_ne SlotSt.ramp h1
    exact onLane_of_eq rfl (if_pos ⟨hr, h1⟩) ⟨Lane.slotSt_onSlot_same _ _ (.inl hlisted), fun k hk => Lane.slotSt_onSlot_other _ _ hk,
      (s.lane l).framedNtk_onSlot n _ []⟩
  case disagree =>
    have hntk := Lane.findIf_ntk ((s.lane l).disagreeTurned heading) (!((s.lane l).ntk.two heading).on) 0x08 4
    refine onLane_of_eq rfl (Lane.refDisagree_due h5) ⟨?_, ?_, ?_⟩
    · exact (congrArg (IntakeSt.two · heading) hntk).trans ((s.lane l).two_disagreeTurned heading)
    · exact (Lane.findIf_get _ _ _ _ _).trans ((s.lane l).get_disagreeTurned heading)
    · exact Lane.framedNtk_findIf_not _ _ _ ((s.lane l).framedNtk_disagreeTurned heading)
  case short => exact idle_of_exec rfl (Lane.refDisagree_short h5)
  case mask =>
    have hso := (s.lane l).slotsOnly_deselectWrite mask
    have hbit := (hso.read (fun K => K.bit Reg.INT_DESELECT_MASK n) fun _ _ => rfl).trans ((s.lane l).bit_maskWritten mask hn)
    have hwritten := hso.read (fun K => K.ntk.desWritten) fun _ _ => rfl
    exact onLane_of_exec rfl ⟨hbit, hwritten, (s.lane l).slotSt_deselectWrite_unused mask hn, (s.lane l).st_deselectWrite mask hn,
      (s.lane l).framedNtk_deselectWrite mask⟩
  case counts => exact onLane_of_exec rfl ((s.lane l).clearCounts_spec hn)
  case anchor =>
    have hlisted : (s.lane l).slotSt n ≠ {} := Lane.slotSt_listed hst (by decide)
    obtain ⟨hcmd, -, hresult⟩ := Lane.intCmd_shows ((s.lane l).onSlot n fun x => { x with anchor := none, acc := 0, passes := 0 })
      (c := 3) (r := 0) (by decide) hn (by decide)
    exact onLane_of_eq rfl (Lane.reAnchor_taken hc hst hf ho h12) ⟨Lane.slotSt_onSlot_same _ _ (.inl hlisted),
      fun k hk => Lane.slotSt_onSlot_other _ _ hk, hcmd, hresult,
      (s.lane l).framedNtk_intCmd (List.Subset.refl _) ((s.lane l).framedNtk_onSlot n _ _)⟩
  case noAnchor =>
    have hapart : ∀ x ∈ [SlotState.admitted, .suspect, .admitting], x ∉ [SlotState.waiting, .rejected, .deselected] := by decide
    obtain ⟨hcmd, -, hresult⟩ := (s.lane l).intCmd_shows (c := 3) (r := 2) (by decide) hn (by decide)
    exact onLane_of_eq rfl (Lane.reAnchor_refused hc (hapart _ hst)) ⟨hcmd, hresult, (s.lane l).framed_intCmd_self⟩
  case unused =>
    obtain ⟨-, -, hresult⟩ := (s.lane l).intCmd_shows (c := 3) (r := 1) (by decide) hn (by decide)
    exact onLane_of_eq rfl (Lane.reAnchor_unused hc) ⟨hresult, (s.lane l).framed_intCmd_self⟩

end Sys2Proof.Machine
end

section
/-! Targets and the own-vessel estimate (04 R164, R165, R167, R175, R176): the lane after each of their commands. -/

namespace Sys2Proof.Machine

open Sys2Proof

/-! ### The Plotter's record changed -/

/-- A change of the Plotter's record on top of a frame. -/
theorem Lane.framedUpTo_onPlt {L M : Lane} {fs : List Fld} {es : List (Nat × Nat)} (g : PlotterSt → PlotterSt) (h : L.framed M fs es) :
    L.framedUpTo (M.onPlt g) fs es fun N => N.onPlt fun _ => L.plt := by
  obtain ⟨hk, hf, ho⟩ := h
  have hback := congrArg (fun N : Lane => N.onPlt fun _ => L.plt) (show { M with regs := L.regs, found := L.found } = L from ho)
  exact ⟨Lane.keepsBut_regs (M.onPlt_regs g) hk, hf, hback⟩

/-- A change of the filter on top of a frame. -/
theorem Lane.framedUpTo_onOwn {L M : Lane} {fs : List Fld} {es : List (Nat × Nat)} (g : PlotSt → PlotSt) (h : L.framed M fs es) :
    L.framedUpTo (M.onOwn g) fs es fun N => N.onPlt fun _ => L.plt := Lane.framedUpTo_onPlt _ h

theorem Lane.onOwn_get (L : Lane) (g : PlotSt → PlotSt) (f : Fld) : (L.onOwn g).get f = L.get f := (rfl)

/-! ### A track coasts, and is lost (R175) -/

section

variable (L : Lane) {k j : Nat} (f : TrackSt → TrackSt)

theorem Lane.trk_onTrk : (L.onTrk k f).trk j = if j = k ∧ k < L.plt.tracks.length then f (L.trk k) else L.trk j := getD_modAt _ _ _ _ _

theorem Lane.trk_onTrk_other (h : j ≠ k) : (L.onTrk k f).trk j = L.trk j := by rw [L.trk_onTrk, if_neg fun hk => h hk.1]

/-- A track in a state other than that of its start is one that the lane lists. -/
theorem Lane.trk_listed (h : (L.trk k).st ≠ 0) : k < L.plt.tracks.length := by
  by_contra hk
  exact h (congrArg TrackSt.st (List.getD_eq_default _ _ (not_lt.1 hk)))

theorem Lane.trk_onTrk_same (h : (L.trk k).st ≠ 0) : (L.onTrk k f).trk k = f (L.trk k) := by
  rw [L.trk_onTrk, if_pos ⟨rfl, L.trk_listed h⟩]

/-- A track takes state `st`, with its event. -/
def Lane.turnTrack (L : Lane) (k st b : Nat) : Lane := (L.find 0x0B b).onTrk k fun t => { t with st := st }

/-- A track that has left its first state is turned; the other tracks, and the lane beside them, are as they were. -/
theorem Lane.turnTrack_spec (h : (L.trk k).st ≠ 0) (st b : Nat) :
    ((L.turnTrack k st b).trk k).st = st ∧ (∀ j, j ≠ k → (L.turnTrack k st b).trk j = L.trk j) ∧
    L.framedUpTo (L.turnTrack k st b) [] [(0x0B, b)] fun N => N.onPlt fun _ => L.plt :=
  ⟨congrArg TrackSt.st (Lane.trk_onTrk_same (L.find 0x0B b) _ h), fun _ hj => Lane.trk_onTrk_other (L.find 0x0B b) _ hj,
    Lane.framedUpTo_onPlt _ (Lane.framed_find 0x0B b (L.framed_refl []))⟩

end

section

variable {L : Lane} {k : Nat} {c : TrackChart} (hc : L.trkCfg k = some c)
include hc

theorem Lane.tgtCoasting_due (hst : (L.trk k).st = 2) (ht : c.coast * 1000000000 ≤ (L.trk k).idle) :
    L.tgtCoasting k = L.turnTrack k 3 1 := by
  rw [Lane.tgtCoasting, hc]
  exact if_pos ⟨hst, ht⟩

theorem Lane.tgtCoasting_early (ht : (L.trk k).idle < c.coast * 1000000000) : L.tgtCoasting k = L := by
  rw [Lane.tgtCoasting, hc]
  exact if_neg fun h => not_le.2 ht h.2

theorem Lane.tgtLost_due (hst : (L.trk k).st ∈ [1, 2, 3]) (ht : c.lost * 1000000000 ≤ (L.trk k).idle) :
    L.tgtLost k = L.turnTrack k 4 2 := by
  rw [Lane.tgtLost, hc]
  exact if_pos ⟨by simpa using hst, ht⟩

theorem Lane.tgtLost_early (ht : (L.trk k).idle < c.lost * 1000000000) : L.tgtLost k = L := by
  rw [Lane.tgtLost, hc]
  exact if_neg fun h => not_le.2 ht h.2

end

/-! ### The selector of the target page (R176; 00 R11) -/

section

variable {L : Lane} {v : Nat}

/-- A track that a KX922 does not have is counted, and refused. -/
theorem Lane.tgtSelWrite_absent (h8 : 8 ≤ v) (h16 : v < 16) (hv : L.variant = .kx922) (hc : L.trkCfg v = none) :
    L.tgtSelWrite v = (L.absentWrite Reg.TGT_SEL_TRACK.addr).find 0x0B 4 := by
  have habsent : L.variant = .kx922 ∧ 8 ≤ v ∧ v < 16 := ⟨hv, h8, h16⟩
  have hunused : (L.absentWrite Reg.TGT_SEL_TRACK.addr).trkCfg v = none := hc
  rw [Lane.tgtSelWrite, if_pos habsent, if_pos (.inr ⟨by omega, Option.isNone_iff_eq_none.2 hunused⟩)]

variable (hv : L.variant ≠ .kx922 ∨ v < 8 ∨ 16 ≤ v)
include hv

theorem Lane.tgtSelWrite_present :
    L.tgtSelWrite v = if L.mode = 10 ∨ (v ≠ 0x1F ∧ (L.trkCfg v).isNone) then L.find 0x0B 4 else L.set Reg.TGT_SEL_TRACK v := by
  have hpresent : ¬(L.variant = .kx922 ∧ 8 ≤ v ∧ v < 16) := fun h => by
    obtain ⟨hkx, h8, h16⟩ := h
    have := hv.resolve_left (not_not_intro hkx)
    omega
  rw [Lane.tgtSelWrite, if_neg hpresent]

theorem Lane.tgtSelWrite_refused (h : L.mode = 10 ∨ (v ≠ 31 ∧ L.trkCfg v = none)) : L.tgtSelWrite v = L.find 0x0B 4 := by
  rw [Lane.tgtSelWrite_present hv, if_pos (by simpa using h)]

theorem Lane.tgtSelWrite_taken (hm : L.mode ≠ 10) (h : v = 31 ∨ L.trkCfg v ≠ none) : L.tgtSelWrite v = L.set Reg.TGT_SEL_TRACK v := by
  have hused : ¬(v ≠ 31 ∧ L.trkCfg v = none) := fun hn => h.elim hn.1 (· hn.2)
  rw [Lane.tgtSelWrite_present hv, if_neg (by simpa [hm] using hused)]

end

/-! ### The environment estimate becomes valid (R164) -/

theorem Lane.envValid_settled {L : Lane} (hst : L.plt.own.st = 1) (ht : L.vc.envSettle ≤ L.plt.own.envTime) :
    L.envValid = (L.setb Reg.PLOT_STAT_ENV_VALID true).onOwn fun q => { q with envOk := true } := if_pos ⟨hst, ht⟩

theorem Lane.envValid_unsettled {L : Lane} (h : L.plt.own.st ≠ 1 ∨ L.plt.own.envTime < L.vc.envSettle) : L.envValid = L :=
  if_neg fun he => h.elim (· he.1) (not_le.2 · he.2)

/-! ### REINIT (R162, R165) -/

/-- The registers of page 0x0A as the estimate enters INIT. -/
def Lane.initShown (L : Lane) : Lane := (L.setb Reg.PLOT_STAT_ENV_VALID false).set Reg.PLOT_STAT_STATE 0

theorem Lane.initShown_state (L : Lane) : L.initShown.get Reg.PLOT_STAT_STATE = 0 := Lane.get_set_fit _ _ (by decide) (by decide)

theorem Lane.initShown_envValid (L : Lane) : L.initShown.get Reg.PLOT_STAT_ENV_VALID = 0 :=
  (Lane.get_set_apart _ _ (by decide) (by decide) (by decide)).trans (L.get_setb _ false (by decide) rfl)

theorem Lane.framed_initShown (L : Lane) : L.framed L.initShown [Reg.PLOT_STAT_STATE, Reg.PLOT_STAT_ENV_VALID] [] :=
  Lane.framed_set _ (by decide) (by decide) (Lane.framed_setb _ (by decide) (by decide) (L.framed_refl _))

/-- The estimate in INIT: its state and the environment's shown, the state zero, the Chart's covariance, no history, no re-run. -/
theorem Lane.plotInit_eq (L : Lane) (t : Rat) : ∃ q : PlotSt,
    L.plotInit t = L.initShown.onOwn (fun _ => q) ∧
    q.p = L.vc.p0 ∧ q.x = List.replicate 42 0 ∧ q.hist = [] ∧ q.rerun = none := ⟨_, rfl, rfl, rfl, rfl, rfl⟩

theorem Lane.reinit_taken {L : Lane} (h3 : 3 ≤ L.mode) (h6 : L.mode ≤ 6) : L.reinit = L.plotInit L.now := if_pos ⟨h3, h6⟩

theorem Lane.reinit_refused {L : Lane} (h : L.mode < 3 ∨ 6 < L.mode) : L.reinit = L.post 3 0x05 [L.mode] := if_neg (by omega)

/-! ### A re-run that has caught up (R167, R168) -/

theorem Lane.get_setSat (L : Lane) (f : Fld) (v : Nat) (h : f.lo + f.w ≤ 32) : (L.setSat f v).get f = min v (2 ^ f.w - 1) :=
  L.get_set_fit f h (by have := Nat.two_pow_pos f.w; omega)

/-- The registers that a re-run's end shows: it is counted, and the longest one kept. -/
def Lane.rerunShown (L : Lane) (age : Nat) : Lane :=
  if (L.incWrap Reg.PLOT_HIST_REVISED).get Reg.PLOT_RERUN_LONGEST < age then (L.incWrap Reg.PLOT_HIST_REVISED).setSat Reg.PLOT_RERUN_LONGEST age
  else L.incWrap Reg.PLOT_HIST_REVISED

section

variable (L : Lane) (age : Nat)

theorem Lane.rerunShown_plt : (L.rerunShown age).plt = L.plt := by
  unfold Lane.rerunShown
  split <;> rfl

theorem Lane.rerunShown_onOwn (g : PlotSt → PlotSt) : (L.onOwn g).rerunShown age = (L.rerunShown age).onOwn g := by
  have hcounted : (L.onOwn g).incWrap Reg.PLOT_HIST_REVISED = (L.incWrap Reg.PLOT_HIST_REVISED).onOwn g := rfl
  unfold Lane.rerunShown
  rw [hcounted, Lane.onOwn_get]
  split <;> rfl

theorem Lane.rerunShown_revised : (L.rerunShown age).get Reg.PLOT_HIST_REVISED = (L.get Reg.PLOT_HIST_REVISED + 1) % 65536 := by
  have hcounted : (L.incWrap Reg.PLOT_HIST_REVISED).get Reg.PLOT_HIST_REVISED = (L.get Reg.PLOT_HIST_REVISED + 1) % 65536 :=
    L.get_set_same _ _ (by decide)
  unfold Lane.rerunShown
  split
  · exact (Lane.get_set_addr _ _ (by decide)).trans hcounted
  · exact hcounted

theorem Lane.rerunShown_longest : (L.rerunShown age).get Reg.PLOT_RERUN_LONGEST =
    if L.get Reg.PLOT_RERUN_LONGEST < age then min age (2 ^ Reg.PLOT_RERUN_LONGEST.w - 1) else L.get Reg.PLOT_RERUN_LONGEST := by
  have hkept : (L.incWrap Reg.PLOT_HIST_REVISED).get Reg.PLOT_RERUN_LONGEST = L.get Reg.PLOT_RERUN_LONGEST := L.get_set_addr _ (by decide)
  unfold Lane.rerunShown
  rw [hkept]
  split
  · exact Lane.get_setSat _ _ _ (by decide)
  · exact hkept

theorem Lane.framed_rerunShown : L.framed (L.rerunShown age) [Reg.PLOT_HIST_REVISED, Reg.PLOT_RERUN_LONGEST] [] := by
  have hcounted : L.framed (L.incWrap Reg.PLOT_HIST_REVISED) [Reg.PLOT_HIST_REVISED, Reg.PLOT_RERUN_LONGEST] [] :=
    Lane.framed_set _ (by decide) (by decide) (L.framed_refl _)
  unfold Lane.rerunShown
  split
  · exact Lane.framed_set _ (by decide) (by decide) hcounted
  · exact hcounted

end

/-- An entry of the history as the re-run has found it anew, where it has passed it (R167 step 5). -/
def Rerun.renewed (r : Rerun) (h : HistEntry) : HistEntry :=
  match r.redo.find? fun d => decide (d.1 = h.time) with
  | some d => { h with x := d.2.1, p := d.2.2 }
  | none => h

/-- The filter with the state and covariance of a re-run (R167 step 5). -/
def PlotSt.takeRerun (q : PlotSt) (r : Rerun) : PlotSt :=
  { q with x := r.x, p := r.p, pTime := r.pT, hist := q.hist.map r.renewed, cur := r.renewed q.cur, rerun := none, revised := true }

/-- Samples that waited start the next re-run (R168). -/
def Lane.waitingTaken (L : Lane) : Lane :=
  match L.plt.own.wait with
  | [] => L
  | w :: ws => L.onOwn fun q => { q.startRerun (ws.foldl (fun m j => min m j.s.time) w.s.time) q.waitAge with wait := [], waitAge := 0 }

/-- The start of a re-run leaves the estimate as it is. -/
theorem PlotSt.startRerun_keeps (q : PlotSt) (t : Rat) (age : Nat) :
    (q.startRerun t age).x = q.x ∧ (q.startRerun t age).p = q.p ∧ (q.startRerun t age).revised = q.revised := by
  unfold PlotSt.startRerun
  split <;> exact ⟨rfl, rfl, rfl⟩

/-- Samples taken up change the filter alone, and not its estimate; without one nothing changes. -/
theorem Lane.waitingTaken_eq (L : Lane) : ∃ q : PlotSt, L.waitingTaken = L.onOwn (fun _ => q) ∧
    q.x = L.plt.own.x ∧ q.p = L.plt.own.p ∧ q.revised = L.plt.own.revised ∧ (L.plt.own.wait = [] → q.rerun = L.plt.own.rerun) := by
  unfold Lane.waitingTaken
  split
  next => exact ⟨L.plt.own, rfl, rfl, rfl, rfl, fun _ => rfl⟩
  next w ws hw =>
    obtain ⟨hx, hp, hrev⟩ := L.plt.own.startRerun_keeps (ws.foldl (fun m j => min m j.s.time) w.s.time) L.plt.own.waitAge
    exact ⟨_, rfl, hx, hp, hrev, fun h => absurd (hw.symm.trans h) (List.cons_ne_nil _ _)⟩

section

variable {L : Lane} {r : Rerun} (hr : L.plt.own.rerun = some r)
include hr

/-- The steps of an adoption (R167 step 5, R168). -/
theorem Lane.rerunAdopt_steps (hl : r.live = true) :
    L.rerunAdopt = ((L.onOwn fun q => q.takeRerun r).rerunShown r.age).waitingTaken := by
  rw [Lane.rerunAdopt, hr]
  exact if_neg (by simp [hl])

/-- A re-run that has caught up: its registers, and its state taken as the live one. -/
theorem Lane.rerunAdopt_live (hl : r.live = true) : ∃ q : PlotSt, L.rerunAdopt = (L.rerunShown r.age).onOwn (fun _ => q) ∧
    q.x = r.x ∧ q.p = r.p ∧ q.revised = true ∧ (L.plt.own.wait = [] → q.rerun = none) := by
  obtain ⟨q, htaken, hx, hp, hrev, hrerun⟩ := ((L.rerunShown r.age).onOwn fun q => q.takeRerun r).waitingTaken_eq
  have hwait : ((L.rerunShown r.age).onOwn fun q => q.takeRerun r).plt.own.wait = L.plt.own.wait := congrArg (·.own.wait) (L.rerunShown_plt r.age)
  rw [Lane.rerunAdopt_steps hr hl, Lane.rerunShown_onOwn]
  exact ⟨q, htaken, hx, hp, hrev, fun h => hrerun (hwait.trans h)⟩

theorem Lane.rerunAdopt_behind (hl : r.live = false) : L.rerunAdopt = L := by
  rw [Lane.rerunAdopt, hr]
  exact if_pos (by rw [hl]; rfl)

end

/-- Settles O25: command by command, from the lane that each leaves. -/
theorem targetsAndEstimate : Obligations.TargetsAndEstimate := by
  unfold Obligations.TargetsAndEstimate
  intro s l
  dsimp only
  refine ⟨fun k c hc => ⟨fun hst ht => ?coasts, fun hst ht => ?lost, fun ht => ?notCoasting, fun ht => ?notLost⟩,
    fun v h8 h16 hv hc => ?absent, fun v h32 hv => ⟨fun h => ?refused, fun hm h => ?taken⟩, fun hst ht => ?settled, fun h => ?unsettled,
    fun h3 h6 => ?reinit, fun h => ?noReinit, fun r hr => ⟨fun hl => ?adopted, fun hl => ?behind⟩⟩
  case coasts => exact onLane_of_eq rfl (Lane.tgtCoasting_due hc hst ht) (Lane.turnTrack_spec _ (by omega) 3 1)
  case lost =>
    have hleft : ((s.lane l).trk k).st ≠ 0 := ne_of_mem_of_not_mem hst (by decide)
    exact onLane_of_eq rfl (Lane.tgtLost_due hc hst ht) (Lane.turnTrack_spec _ hleft 4 2)
  case notCoasting => exact idle_of_exec rfl (Lane.tgtCoasting_early hc ht)
  case notLost => exact idle_of_exec rfl (Lane.tgtLost_early hc ht)
  case absent =>
    obtain ⟨hcnt, haddr, hframe⟩ := (s.lane l).countsAbsent_absentWrite (a := Reg.TGT_SEL_TRACK.addr) (by decide)
    exact onLane_of_eq rfl (Lane.tgtSelWrite_absent h8 h16 hv hc) ⟨hcnt, haddr, Lane.framed_find 0x0B 4 hframe⟩
  case refused => exact onLane_of_eq rfl (Lane.tgtSelWrite_refused hv h) (Lane.framed_find 0x0B 4 (Lane.framed_refl _ []))
  case taken =>
    exact onLane_of_eq rfl (Lane.tgtSelWrite_taken hv hm h) ⟨Lane.get_set_fit _ _ (by decide) h32,
      Lane.framed_set v (by decide) (by decide) (Lane.framed_refl _ _)⟩
  case settled =>
    exact onLane_of_eq rfl (Lane.envValid_settled hst ht) ⟨Lane.get_setb _ _ true (by decide) rfl, rfl,
      Lane.framedUpTo_onOwn _ (Lane.framed_setb true (by decide) (by decide) (Lane.framed_refl _ _))⟩
  case unsettled => exact idle_of_exec rfl (Lane.envValid_unsettled h)
  case reinit =>
    obtain ⟨q, hinit, hp, hx, hhist, hrerun⟩ := (s.lane l).plotInit_eq (s.lane l).now
    have hzero : ∀ k, q.x.getD k 0 = 0 := fun k => by
      rw [hx, List.getD_eq_getElem?_getD, List.getElem?_getD_replicate_default_eq]
    exact onLane_of_eq rfl ((Lane.reinit_taken h3 h6).trans hinit) ⟨Lane.initShown_state _, Lane.initShown_envValid _, hp, hzero, hhist, hrerun,
      Lane.framedUpTo_onOwn _ (Lane.framed_initShown _)⟩
  case noReinit =>
    have hpost := (s.lane l).logOnly_post 3 0x05 [(s.lane l).mode]
    exact onLane_of_eq rfl (Lane.reinit_refused h) ⟨hpost.read Lane.plt fun _ _ _ _ => rfl,
      Lane.framedPost_logOnly (Lane.framedPost_of_framed (by simp) (Lane.framed_refl _ [])) hpost⟩
  case adopted =>
    obtain ⟨q, hadopt, hx, hp, hrev, hdone⟩ := Lane.rerunAdopt_live hr hl
    exact onLane_of_eq rfl hadopt ⟨hx, hp, hrev, Lane.rerunShown_revised _ _, Lane.rerunShown_longest _ _, hdone,
      Lane.framedUpTo_onOwn _ (Lane.framed_rerunShown _ _)⟩
  case behind => exact idle_of_exec rfl (Lane.rerunAdopt_behind hr hl)

end Sys2Proof.Machine
end

section
/-! Position control (05 R195, R198, R199, R207, R212): the lane after a set-point command, a joystick write and the ends of a blend, of a
plausibility hold and of the time in DEAD RECKONING. -/

namespace Sys2Proof.Machine

open Sys2Proof

/-! ### The control record changed -/

theorem Lane.onCtl_onCtl (L : Lane) (g h : CtlSt → CtlSt) : (L.onCtl g).onCtl h = L.onCtl fun c => h (g c) := (rfl)

theorem Lane.setAll_onCtl (g : CtlSt → CtlSt) (r : List (Fld × Nat)) : ∀ L : Lane, (L.onCtl g).setAll r = (L.setAll r).onCtl g := by
  induction r with
  | nil => exact fun _ => rfl
  | cons p r ih => exact fun L => ih (L.set p.1 p.2)

theorem Lane.findIf_onCtl (L : Lane) (g : CtlSt → CtlSt) (c : Bool) (p b : Nat) : (L.onCtl g).findIf c p b = (L.findIf c p b).onCtl g := by
  cases c <;> rfl

/-- Register writes leave the control record as it is. -/
theorem Lane.framed.ctl_eq {L M : Lane} {fs : List Fld} {es : List (Nat × Nat)} (h : L.framed M fs es) : M.ctl = L.ctl :=
  Lane.read_of_onlyRegs Lane.ctl (fun _ _ _ => rfl) h.2.2

/-- Registers and events after a change of the control record. -/
theorem Lane.framedUpTo_ctl {L M : Lane} {fs : List Fld} {es : List (Nat × Nat)} {g : CtlSt → CtlSt} (h : (L.onCtl g).framed M fs es) :
    L.framedUpTo M fs es fun N => N.onCtl fun _ => L.ctl := by
  obtain ⟨hk, hf, ho⟩ := h
  exact ⟨hk, hf, congrArg (fun N : Lane => N.onCtl fun _ => L.ctl) (show { M with regs := L.regs, found := L.found } = L.onCtl g from ho)⟩

/-! ### DEAD RECKONING at its limit (R198) -/

section

variable {L : Lane}

theorem Lane.drExpired_due (hm : L.mode = 11) (ht : L.kc.drLimit ≤ L.ctl.drTime) : L.drExpired = L.setBit Reg.MODE_COND_COND 13 true :=
  if_pos ⟨hm, ht⟩

theorem Lane.drExpired_early (h : L.mode ≠ 11 ∨ L.ctl.drTime < L.kc.drLimit) : L.drExpired = L :=
  if_neg fun hd => h.elim (· hd.1) (not_le.2 · hd.2)

/-- A bit of a mask field set or cleared is that bit alone. -/
theorem Lane.bitTo_setBit (L : Lane) {f : Fld} {n : Nat} (b : Bool) (hf : f.lo + f.w ≤ 32) (hn : n < f.w) : L.bitTo (L.setBit f n b) f n b :=
  ⟨(L.bit_setBit f n n b hf hn).trans (if_pos rfl), fun k hk => (L.bit_setBit f n k b hf hn).trans (if_neg hk)⟩

end

/-- Settles O11: the condition's bit is set where the mode and its time say so, and nothing changes elsewhere. -/
theorem deadReckoningExpires : Obligations.DeadReckoningExpires := by
  unfold Obligations.DeadReckoningExpires
  intro s l
  refine ⟨fun hm ht => ?due, fun h => ?early⟩
  case due =>
    exact onLane_of_eq rfl (Lane.drExpired_due hm ht) ⟨Lane.bitTo_setBit _ true (by decide) (by decide),
      Lane.framed_set _ (by decide) (by decide) (Lane.framed_refl _ _)⟩
  case early => exact idle_of_exec rfl (Lane.drExpired_early h)

/-! ### Set-point commands (R199) -/

/-- The set-point commands with their codes. -/
def setPointCmds (l : LaneId) (tag dir : Nat) : List (Instr × Nat) :=
  [(.setPos l tag dir, 1), (.setHdg l tag dir, 2), (.setPosHdg l tag dir, 3), (.capture l tag dir, 4), (.setSpeed l tag dir, 5),
    (.setLeg l tag dir, 6), (.setCourse l tag dir, 7), (.setFtOfs l tag dir, 8), (.stopRamp l tag dir, 9)]

/-- A set-point command submits its code, which is 1 to 9. -/
theorem exec_setPointCmd {l : LaneId} {tag dir : Nat} (s : State) {i : Instr} {cmd : Nat} (h : (i, cmd) ∈ setPointCmds l tag dir) :
    exec i s = onLane l (fun L => L.spSubmit cmd tag dir) s ∧ 1 ≤ cmd ∧ cmd ≤ 9 := by
  simp only [setPointCmds, List.mem_cons, List.not_mem_nil, or_false, Prod.mk.injEq] at h
  rcases h with ⟨rfl, rfl⟩ | ⟨rfl, rfl⟩ | ⟨rfl, rfl⟩ | ⟨rfl, rfl⟩ | ⟨rfl, rfl⟩ | ⟨rfl, rfl⟩ | ⟨rfl, rfl⟩ | ⟨rfl, rfl⟩ | ⟨rfl, rfl⟩ <;>
    exact ⟨rfl, by decide⟩

def spCmdFlds : List Fld := [Reg.CTRL_SP_CMD_CMD, Reg.CTRL_SP_CMD_TAG, Reg.CTRL_SP_CMD_DIR]

def spResultFlds : List Fld := [Reg.CTRL_SP_RESULT_TAG, Reg.CTRL_SP_RESULT_CODE]

/-- CTRL_SP_CMD with a command. -/
def Lane.spShown (L : Lane) (cmd tag dir : Nat) : Lane :=
  L.setAll [(Reg.CTRL_SP_CMD_CMD, cmd), (Reg.CTRL_SP_CMD_TAG, tag), (Reg.CTRL_SP_CMD_DIR, dir)]

/-- CTRL_SP_CMD reads a command. -/
def Lane.spGiven (M : Lane) (cmd tag dir : Nat) : Prop :=
  M.get Reg.CTRL_SP_CMD_CMD = cmd ∧ M.get Reg.CTRL_SP_CMD_TAG = tag ∧ M.get Reg.CTRL_SP_CMD_DIR = dir

section

variable {L M : Lane} {fs : List Fld} {es : List (Nat × Nat)} {cmd tag dir code : Nat}

theorem Lane.spGiven_spShown (L : Lane) (hc : cmd ≤ 9) (ht : tag < 256) (hd : dir < 4) : (L.spShown cmd tag dir).spGiven cmd tag dir := by
  have hset := Lane.get_setAll [(Reg.CTRL_SP_CMD_CMD, cmd), (Reg.CTRL_SP_CMD_TAG, tag), (Reg.CTRL_SP_CMD_DIR, dir)] L (by simp)
    (show spCmdFlds.Pairwise Fld.apart by decide)
  simp only [List.forall_mem_cons] at hset
  obtain ⟨hcmd, htag, hdir, -⟩ := hset
  exact ⟨hcmd.trans (Nat.mod_eq_of_lt (show cmd < 16 by omega)), htag.trans (Nat.mod_eq_of_lt ht), hdir.trans (Nat.mod_eq_of_lt hd)⟩

theorem Lane.framed_spShown (L : Lane) (cmd tag dir : Nat) : L.framed (L.spShown cmd tag dir) spCmdFlds [] :=
  Lane.framed_setAll _ (by simp [spCmdFlds]) (L.framed_refl _)

theorem Lane.active_spShown (L : Lane) (cmd tag dir : Nat) : (L.spShown cmd tag dir).active = L.active :=
  congrArg (· != 0) ((L.framed_spShown cmd tag dir).1 Reg.LANE_STAT_ACTIVE (by decide) (by decide))

/-- What the outcome of a command leaves in CTRL_SP_RESULT. -/
theorem Lane.get_spResult (M : Lane) (ht : tag < 256) (hc : code < 256) :
    (M.spResult tag code).get Reg.CTRL_SP_RESULT_TAG = tag ∧ (M.spResult tag code).get Reg.CTRL_SP_RESULT_CODE = code := by
  have hset := Lane.get_setAll [(Reg.CTRL_SP_RESULT_TAG, tag), (Reg.CTRL_SP_RESULT_CODE, code)] M (by simp)
    (show spResultFlds.Pairwise Fld.apart by decide)
  simp only [List.forall_mem_cons] at hset
  obtain ⟨htag, hcode, -⟩ := hset
  simp only [Lane.spResult, Lane.findIf_get]
  exact ⟨htag.trans (Nat.mod_eq_of_lt ht), hcode.trans (Nat.mod_eq_of_lt hc)⟩

/-- The outcome of a command is an event where the command was refused (R218). -/
theorem Lane.framed_spResult (M : Lane) (tag code : Nat) :
    M.framed (M.spResult tag code) spResultFlds (if decide (1 ≤ code) && decide (code ≤ 5) then [(0x10, 2)] else []) :=
  Lane.framed_findIf _ _ _ (Lane.framed_setAll _ (by simp [spResultFlds]) (M.framed_refl _))

/-- The outcome of a command leaves the command shown as it is. -/
theorem Lane.spGiven_spResult (h : M.spGiven cmd tag dir) (t c : Nat) : (M.spResult t c).spGiven cmd tag dir := by
  obtain ⟨hcmd, htag, hdir⟩ := h
  have hap : ∀ f ∈ spCmdFlds, f.lo + f.w ≤ 32 ∧ ∀ g ∈ spResultFlds, f.apart g := by decide
  have hread (f : Fld) (hf : f ∈ spCmdFlds) : (M.spResult t c).get f = M.get f := (M.framed_spResult t c).1.get_eq (hap f hf)
  exact ⟨(hread _ (by decide)).trans hcmd, (hread _ (by decide)).trans htag, (hread _ (by decide)).trans hdir⟩

/-- A command shown, and an outcome. -/
theorem Lane.framed_spAnswered (L : Lane) (cmd tag dir t code : Nat) :
    L.framed ((L.spShown cmd tag dir).spResult t code) (spCmdFlds ++ spResultFlds)
      (if decide (1 ≤ code) && decide (code ≤ 5) then [(0x10, 2)] else []) :=
  Lane.framed_findIf _ _ _ (Lane.framed_setAll _ (by simp [spCmdFlds, spResultFlds])
    (Lane.framed_setAll _ (by simp [spCmdFlds]) (L.framed_refl _)))

theorem Lane.spShown_onCtl (L : Lane) (g : CtlSt → CtlSt) (cmd tag dir : Nat) : (L.onCtl g).spShown cmd tag dir = (L.spShown cmd tag dir).onCtl g :=
  Lane.setAll_onCtl g _ L

theorem Lane.spResult_onCtl (L : Lane) (g : CtlSt → CtlSt) (tag code : Nat) : (L.onCtl g).spResult tag code = (L.spResult tag code).onCtl g := by
  unfold Lane.spResult
  rw [Lane.setAll_onCtl, Lane.findIf_onCtl]

/-- The command held for the next position-cycle tick. -/
def CtlSt.holdCmd (c : CtlSt) (cmd tag dir : Nat) : CtlSt := { c with pend := some ⟨cmd, tag, dir⟩ }

/-- The lane answers a command held before. -/
def Lane.supersede (L : Lane) : Option SpCmd → Lane
  | some p => L.spResult p.tag 6
  | none => L

theorem Lane.supersede_some (L : Lane) (p : SpCmd) : L.supersede (some p) = L.spResult p.tag 6 := (rfl)

theorem Lane.supersede_none (L : Lane) : L.supersede none = L := (rfl)

/-- A lane that is not active refuses; an active one holds the command, and answers what it held before. -/
theorem Lane.spSubmit_eq (L : Lane) (h1 : 1 ≤ cmd) (h9 : cmd ≤ 9) (ht : tag < 256) (hd : dir < 4) :
    L.spSubmit cmd tag dir =
      if L.active then ((L.spShown cmd tag dir).supersede L.ctl.pend).onCtl fun c => c.holdCmd cmd tag dir
      else (L.spShown cmd tag dir).spResult tag 5 := by
  have hcmd : ¬(cmd < 1 ∨ 9 < cmd) := by omega
  unfold Lane.spSubmit
  dsimp only
  generalize hM : L.setAll [(Reg.CTRL_SP_CMD_CMD, cmd), (Reg.CTRL_SP_CMD_TAG, tag), (Reg.CTRL_SP_CMD_DIR, dir)] = M
  obtain rfl : L.spShown cmd tag dir = M := hM
  rw [L.active_spShown, (L.framed_spShown cmd tag dir).ctl_eq, if_neg hcmd, Nat.mod_eq_of_lt ht, Nat.mod_eq_of_lt hd]
  cases L.active
  · exact (if_pos rfl).trans (if_neg Bool.false_ne_true).symm
  · refine (if_neg Bool.false_ne_true).trans ((if_pos rfl).trans ?_).symm
    cases L.ctl.pend <;> rfl

variable (h1 : 1 ≤ cmd) (h9 : cmd ≤ 9) (ht : tag < 256) (hd : dir < 4)
include h1 h9 ht hd

theorem Lane.spSubmit_first (ha : L.active = true) (hp : L.ctl.pend = none) :
    L.spSubmit cmd tag dir = (L.onCtl fun c => c.holdCmd cmd tag dir).spShown cmd tag dir := by
  rw [L.spSubmit_eq h1 h9 ht hd, if_pos ha, hp, Lane.supersede_none, Lane.spShown_onCtl]

theorem Lane.spSubmit_superseding {p : SpCmd} (ha : L.active = true) (hp : L.ctl.pend = some p) :
    L.spSubmit cmd tag dir = ((L.onCtl fun c => c.holdCmd cmd tag dir).spShown cmd tag dir).spResult p.tag 6 := by
  rw [L.spSubmit_eq h1 h9 ht hd, if_pos ha, hp, Lane.supersede_some, Lane.spShown_onCtl, Lane.spResult_onCtl]

theorem Lane.spSubmit_inactive (ha : L.active = false) : L.spSubmit cmd tag dir = (L.spShown cmd tag dir).spResult tag 5 := by
  rw [L.spSubmit_eq h1 h9 ht hd, if_neg (by simp [ha])]

end

/-- Settles O26: the command is held where the lane is active, the one held before is answered, and another lane refuses. -/
theorem setPoints : Obligations.SetPoints := by
  unfold Obligations.SetPoints
  intro s l tag dir ht hd i cmd hi
  obtain ⟨hexec, h1, h9⟩ := exec_setPointCmd s hi
  have hgiven (L : Lane) : (L.spShown cmd tag dir).spGiven cmd tag dir := L.spGiven_spShown h9 ht hd
  refine ⟨fun ha hp => ?first, fun p ha hp hpt => ?superseding, fun ha => ?inactive⟩
  case first =>
    have hframe := ((s.lane l).onCtl fun c => c.holdCmd cmd tag dir).framed_spShown cmd tag dir
    exact onLane_of_eq hexec (Lane.spSubmit_first h1 h9 ht hd ha hp) ⟨hgiven _, congrArg CtlSt.pend hframe.ctl_eq, Lane.framedUpTo_ctl hframe⟩
  case superseding =>
    have hframe := ((s.lane l).onCtl fun c => c.holdCmd cmd tag dir).framed_spAnswered cmd tag dir p.tag 6
    obtain ⟨htag, hcode⟩ := (((s.lane l).onCtl fun c => c.holdCmd cmd tag dir).spShown cmd tag dir).get_spResult hpt (show 6 < 256 by decide)
    exact onLane_of_eq hexec (Lane.spSubmit_superseding h1 h9 ht hd ha hp) ⟨Lane.spGiven_spResult (hgiven _) _ _,
      congrArg CtlSt.pend hframe.ctl_eq, htag, hcode, Lane.framedUpTo_ctl hframe⟩
  case inactive =>
    obtain ⟨htag, hcode⟩ := ((s.lane l).spShown cmd tag dir).get_spResult ht (show 5 < 256 by decide)
    exact onLane_of_eq hexec (Lane.spSubmit_inactive h1 h9 ht hd ha) ⟨Lane.spGiven_spResult (hgiven _) _ _, htag, hcode,
      (s.lane l).framed_spAnswered cmd tag dir tag 5⟩

/-! ### The joystick (R195) -/

/-- A deflection as CTRL_JOY gives it: ten bits in two's complement, full scale 511. -/
def joyValue (v : Nat) : Rat := (if v < 512 then (v : Rat) else v - 1024) / 511

theorem joyValue_mul (v : Nat) : joyValue v * 511 = if v < 512 then (v : Rat) else v - 1024 := div_mul_cancel₀ _ (by norm_num)

theorem joyField_fit {v : Nat} (h : v < 1024) (hv : v ≠ 512) : joyField v = v := by
  rw [joyField, Nat.mod_eq_of_lt h, if_neg hv]

theorem Lane.geti_joyValue {L : Lane} {f : Fld} {v : Nat} (hw : f.w = 10) (h : L.get f = v) : (L.geti f : Rat) / 511 = joyValue v := by
  unfold Lane.geti joyValue
  rw [h, hw]
  dsimp only
  split <;> simp_all

/-- The control record with the deflections of a write. -/
def CtlSt.joyTaken (c : CtlSt) (x y n : Nat) : CtlSt :=
  { c with joyX := joyValue x, joyY := joyValue y, joyN := joyValue n, joyAge := 0, joyGiven := true }

/-- The joystick fresh, or as it was. -/
def CtlSt.staleCleared (c : CtlSt) (fresh : Bool) : CtlSt := { c with joyStale := !fresh && c.joyStale }

/-- Whether CTRL_JOY is the joystick's source. -/
def Lane.joyOwn (L : Lane) : Bool := decide (L.kc.joySrc = none)

theorem Lane.onCtl_joyOwn (L : Lane) (g : CtlSt → CtlSt) : (L.onCtl g).joyOwn = L.joyOwn := (rfl)

theorem Lane.joyOwn_iff {L : Lane} : L.joyOwn = true ↔ L.kc.joySrc = none := decide_eq_true_iff

def joyFlds : List Fld := [Reg.CTRL_JOY_X, Reg.CTRL_JOY_Y, Reg.CTRL_JOY_N]

/-- CTRL_JOY with three deflections. -/
def Lane.joyShown (L : Lane) (x y n : Nat) : Lane := L.setAll [(Reg.CTRL_JOY_X, x), (Reg.CTRL_JOY_Y, y), (Reg.CTRL_JOY_N, n)]

/-- CTRL_JOY reads three deflections. -/
def Lane.joyReads (M : Lane) (x y n : Nat) : Prop := M.get Reg.CTRL_JOY_X = x ∧ M.get Reg.CTRL_JOY_Y = y ∧ M.get Reg.CTRL_JOY_N = n

/-- The joystick shown fresh, or as it was. -/
def Lane.staleCleared (L : Lane) (fresh : Bool) : Lane := if fresh then L.setb Reg.CTRL_STAT_JOY_STALE false else L

section

variable {L M : Lane} {x y n : Nat}

theorem Lane.framed_joyShown (L : Lane) (x y n : Nat) : L.framed (L.joyShown x y n) (joyFlds ++ [Reg.CTRL_STAT_JOY_STALE]) [] :=
  Lane.framed_setAll _ (by simp [joyFlds]) (L.framed_refl _)

theorem Lane.framed_staleCleared {fs : List Fld} (fresh : Bool) (hm : Reg.CTRL_STAT_JOY_STALE ∈ fs) (h : L.framed M fs []) :
    L.framed (M.staleCleared fresh) fs [] := by
  cases fresh
  · exact h
  · exact Lane.framed_setb false hm (by decide) h

theorem Lane.joyReads_joyShown (L : Lane) (hx : x < 1024) (hy : y < 1024) (hn : n < 1024) : (L.joyShown x y n).joyReads x y n := by
  have hset := Lane.get_setAll [(Reg.CTRL_JOY_X, x), (Reg.CTRL_JOY_Y, y), (Reg.CTRL_JOY_N, n)] L (by simp)
    (show joyFlds.Pairwise Fld.apart by decide)
  simp only [List.forall_mem_cons] at hset
  obtain ⟨rx, ry, rn, -⟩ := hset
  exact ⟨rx.trans (Nat.mod_eq_of_lt hx), ry.trans (Nat.mod_eq_of_lt hy), rn.trans (Nat.mod_eq_of_lt hn)⟩

theorem Lane.joyReads_staleCleared (fresh : Bool) (h : M.joyReads x y n) : (M.staleCleared fresh).joyReads x y n := by
  obtain ⟨rx, ry, rn⟩ := h
  have hread (f : Fld) (hf : f.addr ≠ Reg.CTRL_STAT_JOY_STALE.addr) : (M.staleCleared fresh).get f = M.get f := by
    cases fresh
    · rfl
    · exact M.get_set_addr _ hf
  exact ⟨(hread _ (by decide)).trans rx, (hread _ (by decide)).trans ry, (hread _ (by decide)).trans rn⟩

theorem Lane.staleCleared_stale (M : Lane) : (M.staleCleared true).get Reg.CTRL_STAT_JOY_STALE = 0 := M.get_setb _ false (by decide) rfl

theorem Lane.joyWrite_inactive (ha : L.active = false) : L.joyWrite x y n = L := if_pos (by simp [ha])

/-- The deflections that CTRL_JOY reads, taken. -/
def Lane.joyTake (M : Lane) : Lane :=
  M.onCtl fun c => { c with joyX := (M.geti Reg.CTRL_JOY_X : Rat) / 511, joyY := (M.geti Reg.CTRL_JOY_Y : Rat) / 511,
                            joyN := (M.geti Reg.CTRL_JOY_N : Rat) / 511, joyAge := 0, joyGiven := true }

theorem Lane.joyTake_eq (h : M.joyReads x y n) : M.joyTake = M.onCtl fun c => c.joyTaken x y n := by
  obtain ⟨rx, ry, rn⟩ := h
  unfold Lane.joyTake
  rw [Lane.geti_joyValue rfl rx, Lane.geti_joyValue rfl ry, Lane.geti_joyValue rfl rn]
  rfl

/-- A write ends a stale joystick where CTRL_JOY is its source. -/
def Lane.joyFresh (M : Lane) : Lane :=
  if M.kc.joySrc = none then (M.onCtl fun c => { c with joyStale := false }).setb Reg.CTRL_STAT_JOY_STALE false else M

theorem Lane.joyFresh_eq (M : Lane) : M.joyFresh = (M.onCtl fun c => c.staleCleared M.joyOwn).staleCleared M.joyOwn := by
  unfold Lane.joyFresh Lane.joyOwn
  by_cases hs : M.kc.joySrc = none
  · rw [if_pos hs, decide_eq_true hs]
    rfl
  · rw [if_neg hs, decide_eq_false hs]
    rfl

/-- The steps of a joystick write on the active lane. -/
theorem Lane.joyWrite_steps (ha : L.active = true) :
    L.joyWrite x y n = (L.joyShown (joyField x) (joyField y) (joyField n)).joyTake.joyFresh := if_neg (by simp [ha])

/-- A joystick write on the active lane: the deflections taken and shown, and the joystick fresh where CTRL_JOY is its source. -/
theorem Lane.joyWrite_active (ha : L.active = true) (hx : x < 1024 ∧ x ≠ 512) (hy : y < 1024 ∧ y ≠ 512) (hn : n < 1024 ∧ n ≠ 512) :
    L.joyWrite x y n = ((L.onCtl fun c => (c.joyTaken x y n).staleCleared L.joyOwn).joyShown x y n).staleCleared L.joyOwn := by
  have hreads := L.joyReads_joyShown hx.1 hy.1 hn.1
  have hown : (L.joyShown x y n).joyOwn = L.joyOwn := Lane.read_of_onlyRegs Lane.joyOwn (fun _ _ _ => rfl) (L.framed_joyShown x y n).2.2
  have hcomm (g : CtlSt → CtlSt) : (L.onCtl g).joyShown x y n = (L.joyShown x y n).onCtl g := Lane.setAll_onCtl g _ L
  rw [Lane.joyWrite_steps ha, joyField_fit hx.1 hx.2, joyField_fit hy.1 hy.2, joyField_fit hn.1 hn.2, Lane.joyTake_eq hreads, Lane.joyFresh_eq,
    Lane.onCtl_onCtl, Lane.onCtl_joyOwn, hown, hcomm]

/-- The joystick of CTRL_JOY is stale without a write, or after its timeout. -/
theorem Lane.joy_stale (hs : L.kc.joySrc = none) (h : L.ctl.joyGiven = false ∨ (L.kc.joyTimeout : Rat) * 1000000 < L.ctl.joyAge) :
    L.joy.2.2.2 = true := by
  unfold Lane.joy
  rw [hs]
  dsimp only
  rw [if_pos (by simpa using h)]

theorem Lane.joyStaleCmd_due (hj : L.joy.2.2.2 = true) (hf : L.ctl.joyStale = false) :
    L.joyStaleCmd = ((L.onCtl fun c => { c with joyStale := true }).setb Reg.CTRL_STAT_JOY_STALE true).find 0x10 6 :=
  if_pos ⟨hj, by rw [hf]; rfl⟩

end

/-! ### The end of a blend (R207) -/

theorem Lane.blendDone_due {L : Lane} (hb : L.flag Reg.CTRL_STAT_BLENDING = true) (hx : L.ctl.rx.left = 0) (hy : L.ctl.ry.left = 0)
    (hn : L.ctl.rn.left = 0) :
    L.blendDone = ((L.setb Reg.CTRL_STAT_BLENDING false).setb Reg.MODE_CUR_BLENDING false).find 0x10 1 := if_pos ⟨hb, hx, hy, hn⟩

/-! ### The end of a plausibility hold (R212) -/

/-- The plausibility group of the heading, or of the position. -/
def CtlSt.plaus (c : CtlSt) (heading : Bool) : PlausGrp := if heading then c.ph else c.pp

/-- The field that shows a plausibility group on hold. -/
def plausFld (heading : Bool) : Fld := if heading then Reg.CTRL_STAT_PLAUS_HDG else Reg.CTRL_STAT_PLAUS_POS

def blendFlds : List Fld := [Reg.CTRL_STAT_BLENDING, Reg.MODE_CUR_BLENDING]

def rebaseFlds (heading : Bool) : List Fld := [plausFld heading, Reg.CTRL_PLAUS_CNT_REBASES, Reg.CTRL_FAULT_PLAUS_PERSIST] ++ blendFlds

/-- A rebase counted, with its event, and its group shown free. -/
def Lane.rebaseCounted (L : Lane) (heading : Bool) : Lane := ((L.incSat Reg.CTRL_PLAUS_CNT_REBASES).find 0x10 4).setb (plausFld heading) false

/-- The fault of a rebase while records still fail. -/
def Lane.persistShown (L : Lane) (byOk : Bool) : Lane := if byOk then L else L.setb Reg.CTRL_FAULT_PLAUS_PERSIST true

/-- The registers and the event of a rebase; `byOk` where the measurement has agreed long enough. -/
def Lane.rebaseShown (L : Lane) (heading byOk : Bool) : Lane := ((L.rebaseCounted heading).persistShown byOk).blendShow

/-- The control record with a plausibility group as given. -/
def CtlSt.withPlaus (c : CtlSt) (heading : Bool) (g : PlausGrp) : CtlSt := if heading then { c with ph := g } else { c with pp := g }

/-- The remainders of a group's axes take the difference of two results of the law. -/
def Lane.blendFrom (M : Lane) (heading : Bool) (rate : Axes) (a b : LawOut) (c : CtlSt) : CtlSt :=
  if heading then { c with rn := M.remainder (a.n.base - b.n.base + c.rn.h) rate.n }
  else { c with rx := M.remainder (a.x.base - b.x.base + c.rx.h) rate.x, ry := M.remainder (a.y.base - b.y.base + c.ry.h) rate.y }

/-- The law in the lane's mode and on its state, the groups on hold as they are. -/
def Lane.lawNow (L : Lane) : LawOut := L.law L.mode L.lawState L.ctl.pp.hold L.ctl.ph.hold

/-- Whether a group's measurement has agreed long enough. -/
def Lane.agrees (L : Lane) (heading : Bool) : Bool := decide (L.kc.plausOk ≤ (L.ctl.plaus heading).okRun)

/-- The control record with a group freed; deaf to trips where its records still fail. -/
def Lane.freed (L : Lane) (heading : Bool) (c : CtlSt) : CtlSt :=
  c.withPlaus heading { deaf := !L.agrees heading, okRun := (L.ctl.plaus heading).okRun }

/-- The control record after a rebase: the group freed, and the law's difference between the held and the fused state blended. -/
def Lane.rebased (L : Lane) (heading : Bool) (c : CtlSt) : CtlSt :=
  (L.onCtl (L.freed heading)).blendFrom heading L.kc.axisRate L.lawNow (L.onCtl (L.freed heading)).lawNow (L.freed heading c)

section

variable {L M : Lane} {fs : List Fld} {es : List (Nat × Nat)} (heading byOk : Bool)

theorem CtlSt.plaus_withPlaus_same (c : CtlSt) (g : PlausGrp) : (c.withPlaus heading g).plaus heading = g := by cases heading <;> rfl

theorem CtlSt.plaus_withPlaus_other (c : CtlSt) (g : PlausGrp) : (c.withPlaus heading g).plaus (!heading) = c.plaus (!heading) := by
  cases heading <;> rfl

/-- A blend leaves both plausibility groups as they are. -/
theorem Lane.plaus_blendFrom (M : Lane) (rate : Axes) (a b : LawOut) (c : CtlSt) (k : Bool) : (M.blendFrom heading rate a b c).plaus k = c.plaus k := by
  cases heading <;> rfl

theorem plausFld_fits : (plausFld heading).lo + 1 ≤ 32 ∧ (plausFld heading).w = 1 := by cases heading <;> decide

theorem Lane.framed_persistShown (hm : Reg.CTRL_FAULT_PLAUS_PERSIST ∈ fs) (h : L.framed M fs es) : L.framed (M.persistShown byOk) fs es := by
  cases byOk
  · exact Lane.framed_setb true hm (by decide) h
  · exact h

theorem Lane.framed_blendShow (hm : blendFlds ⊆ fs) (h : L.framed M fs es) : L.framed M.blendShow fs es := by
  unfold Lane.blendShow
  split
  · exact h
  · exact Lane.framed_setb true (hm (by decide)) (by decide) (Lane.framed_setb true (hm (by decide)) (by decide) h)

theorem Lane.framed_rebaseCounted (L : Lane) : L.framed (L.rebaseCounted heading) (rebaseFlds heading) [(0x10, 4)] :=
  Lane.framed_setb false (by simp [rebaseFlds]) (by cases heading <;> decide)
    (Lane.framed_find 0x10 4 (Lane.framed_incSat 1 (by simp [rebaseFlds]) (by decide) (L.framed_refl _)))

theorem Lane.framed_rebaseShown (L : Lane) : L.framed (L.rebaseShown heading byOk) (rebaseFlds heading) [(0x10, 4)] :=
  Lane.framed_blendShow (List.subset_append_right _ _) (Lane.framed_persistShown byOk (by simp [rebaseFlds]) (L.framed_rebaseCounted heading))

/-- A field apart from those of a blend reads as before. -/
theorem Lane.get_blendShow (M : Lane) {f : Fld} (hf : f.lo + f.w ≤ 32 ∧ ∀ g ∈ blendFlds, f.apart g) : M.blendShow.get f = M.get f :=
  (Lane.framed_blendShow (List.Subset.refl _) (M.framed_refl blendFlds)).1.get_eq hf

theorem Lane.get_persistShown (M : Lane) {f : Fld} (hf : f.addr ≠ Reg.CTRL_FAULT_PLAUS_PERSIST.addr) : (M.persistShown byOk).get f = M.get f := by
  cases byOk
  · exact M.get_set_addr _ hf
  · rfl

/-- A rebase shows its group free. -/
theorem Lane.rebaseShown_free (L : Lane) : (L.rebaseShown heading byOk).get (plausFld heading) = 0 := by
  obtain ⟨hlo, hw⟩ := plausFld_fits heading
  have hfree : (L.rebaseCounted heading).get (plausFld heading) = 0 := Lane.get_setb _ _ false hlo hw
  exact (Lane.get_blendShow _ (by cases heading <;> decide)).trans ((Lane.get_persistShown _ _ (by cases heading <;> decide)).trans hfree)

/-- A rebase is counted. -/
theorem Lane.rebaseShown_count (L : Lane) : (L.rebaseShown heading byOk).get Reg.CTRL_PLAUS_CNT_REBASES =
    min (L.get Reg.CTRL_PLAUS_CNT_REBASES + 1) (2 ^ Reg.CTRL_PLAUS_CNT_REBASES.w - 1) := by
  have hcount : (L.rebaseCounted heading).get Reg.CTRL_PLAUS_CNT_REBASES = (L.incSat Reg.CTRL_PLAUS_CNT_REBASES).get Reg.CTRL_PLAUS_CNT_REBASES :=
    Lane.get_set_addr _ _ (by cases heading <;> decide)
  exact (Lane.get_blendShow _ (by decide)).trans ((Lane.get_persistShown _ _ (by decide)).trans (hcount.trans (L.get_incSat _ 1 (by decide))))

/-- A rebase while records still fail shows its fault. -/
theorem Lane.rebaseShown_persist (L : Lane) : (L.rebaseShown heading false).get Reg.CTRL_FAULT_PLAUS_PERSIST = 1 :=
  (Lane.get_blendShow _ (by decide)).trans (Lane.get_setb _ _ true (by decide) rfl)

theorem Lane.rebase_free (h : (L.ctl.plaus heading).hold = false) : L.rebase heading = L :=
  if_pos (.inl (show (!(L.ctl.plaus heading).hold) = true by rw [h]; rfl))

/-- A hold that ends: the control record changes by the rebase, and the rebase is shown. -/
theorem Lane.rebase_held (hh : (L.ctl.plaus heading).hold = true)
    (he : L.kc.plausOk ≤ (L.ctl.plaus heading).okRun ∨ L.kc.plausHold ≤ (L.ctl.plaus heading).time) :
    L.rebase heading = (L.onCtl (L.rebased heading)).rebaseShown heading (L.agrees heading) := by
  have hend : ¬((!(L.ctl.plaus heading).hold) = true ∨ (!(L.agrees heading || decide (L.kc.plausHold ≤ (L.ctl.plaus heading).time))) = true) := by
    simp only [hh, Lane.agrees, Bool.not_eq_true', Bool.or_eq_false_iff, decide_eq_false_iff_not]
    tauto
  exact if_neg hend

/-- A rebase frees its group, and leaves the other. -/
theorem Lane.rebased_plaus (L : Lane) (c : CtlSt) :
    ((L.rebased heading c).plaus heading).hold = false ∧ (L.rebased heading c).plaus (!heading) = c.plaus (!heading) := by
  unfold Lane.rebased Lane.freed
  rw [Lane.plaus_blendFrom, Lane.plaus_blendFrom, CtlSt.plaus_withPlaus_same, CtlSt.plaus_withPlaus_other]
  exact ⟨rfl, rfl⟩

end

/-- Settles O27: command by command, from the lane that each leaves. -/
theorem controlInputs : Obligations.ControlInputs := by
  unfold Obligations.ControlInputs
  intro s l
  dsimp only
  refine ⟨fun x y n hx hy hn hx' hy' hn' ha => ?taken, fun x y n ha => ?refused, fun hs hage hf => ?stale, fun hb hx hy hn => ?blended,
    fun heading => ⟨fun hh he => ?rebased, fun hh => ?free⟩⟩
  case taken =>
    have hframe := Lane.framed_staleCleared (s.lane l).joyOwn (by decide)
      (((s.lane l).onCtl fun c => (c.joyTaken x y n).staleCleared (s.lane l).joyOwn).framed_joyShown x y n)
    obtain ⟨rx, ry, rn⟩ := Lane.joyReads_staleCleared (s.lane l).joyOwn
      (((s.lane l).onCtl fun c => (c.joyTaken x y n).staleCleared (s.lane l).joyOwn).joyReads_joyShown hx hy hn)
    refine onLane_of_eq rfl (Lane.joyWrite_active ha ⟨hx, hx'⟩ ⟨hy, hy'⟩ ⟨hn, hn'⟩) ?_
    rw [hframe.ctl_eq]
    refine ⟨rx, ry, rn, rfl, rfl, joyValue_mul x, joyValue_mul y, joyValue_mul n, fun hs => ?_, Lane.framedUpTo_ctl hframe⟩
    rw [Lane.joyOwn_iff.2 hs]
    exact ⟨rfl, Lane.staleCleared_stale _⟩
  case refused => exact idle_of_exec rfl (Lane.joyWrite_inactive ha)
  case stale =>
    exact onLane_of_eq rfl (Lane.joyStaleCmd_due (Lane.joy_stale hs hage) hf) ⟨rfl, Lane.get_setb _ _ true (by decide) rfl,
      Lane.framedUpTo_ctl (Lane.framed_find 0x10 6 (Lane.framed_setb true (by decide) (by decide) (Lane.framed_refl _ _)))⟩
  case blended =>
    have hstat : (((s.lane l).setb Reg.CTRL_STAT_BLENDING false).setb Reg.MODE_CUR_BLENDING false).get Reg.CTRL_STAT_BLENDING = 0 :=
      (Lane.get_set_addr _ _ (by decide)).trans (Lane.get_setb _ _ false (by decide) rfl)
    exact onLane_of_eq rfl (Lane.blendDone_due hb hx hy hn) ⟨hstat, Lane.get_setb _ _ false (by decide) rfl,
      Lane.framed_find 0x10 1 (Lane.framed_setb false (by decide) (by decide) (Lane.framed_setb false (by decide) (by decide) (Lane.framed_refl _ _)))⟩
  case rebased =>
    obtain ⟨hfree, hother⟩ := (s.lane l).rebased_plaus heading (s.lane l).ctl
    have hframe := ((s.lane l).onCtl ((s.lane l).rebased heading)).framed_rebaseShown heading ((s.lane l).agrees heading)
    refine onLane_of_eq rfl (Lane.rebase_held heading hh he) ?_
    rw [hframe.ctl_eq]
    refine ⟨hfree, ?_, Lane.rebaseShown_free _ _ _, Lane.rebaseShown_count _ _ _, fun hok => ?_, Lane.framedUpTo_ctl hframe⟩
    · cases heading <;> exact hother
    · have hfail : (s.lane l).agrees heading = false := decide_eq_false (not_le.2 hok)
      rw [hfail]
      exact Lane.rebaseShown_persist _ _
  case free => exact idle_of_exec rfl (Lane.rebase_free heading hh)

end Sys2Proof.Machine
end

section
/-! Thrust allocation and channel commands (06 R223, R230, R236, R238, R243, R251): the lane after each of their commands. -/

namespace Sys2Proof.Machine

open Sys2Proof

/-! ### The allocation record changed -/

/-- Nothing differs but the allocation record. -/
def Lane.allocOnly (L M : Lane) : Prop := (M.onAlc fun _ => L.alc) = L

section

variable {L M N : Lane} {fs : List Fld} {es : List (Nat × Nat)}

theorem Lane.allocOnly_onAlc (L : Lane) (g : AllocSt → AllocSt) : L.allocOnly (L.onAlc g) := rfl

theorem Lane.allocOnly_trans (h : L.allocOnly M) (h' : M.allocOnly N) : L.allocOnly N :=
  (congrArg (fun K : Lane => K.onAlc fun _ => L.alc) (show (N.onAlc fun _ => M.alc) = M from h')).trans h

/-- What is read of a lane without its allocation record reads the same. -/
theorem Lane.allocOnly.read {α : Type} (h : L.allocOnly M) (g : Lane → α) (hg : ∀ (K : Lane) a, g (K.onAlc fun _ => a) = g K) : g M = g L :=
  (hg M _).symm.trans (congrArg g h)

theorem Lane.setAll_onAlc (g : AllocSt → AllocSt) (r : List (Fld × Nat)) : ∀ L : Lane, (L.onAlc g).setAll r = (L.setAll r).onAlc g := by
  induction r with
  | nil => exact fun _ => rfl
  | cons p r ih => exact fun L => ih (L.set p.1 p.2)

/-- Register writes leave the allocation record as it is. -/
theorem Lane.framed.alc_eq (h : L.framed M fs es) : M.alc = L.alc := Lane.read_of_onlyRegs Lane.alc (fun _ _ _ => rfl) h.2.2

/-- Register writes leave the channels as they are. -/
theorem Lane.framed.ch_eq (h : L.framed M fs es) (n : Nat) : M.ch n = L.ch n := congrArg (fun a => a.chans.getD n {}) h.alc_eq

/-- Registers and events after a change of the allocation record. -/
theorem Lane.framedUpTo_alc (hM : L.allocOnly M) (h : M.framed N fs es) : L.framedUpTo N fs es fun K => K.onAlc fun _ => L.alc := by
  obtain ⟨hk, hf, ho⟩ := h
  have hregs : M.regs = L.regs := hM.read Lane.regs fun _ _ => rfl
  have hfound : M.found = L.found := hM.read Lane.found fun _ _ => rfl
  have hnow : M.now = L.now := hM.read Lane.now fun _ _ => rfl
  refine ⟨fun g hg ha => (hk g hg ha).trans (hM.read (fun K => K.get g) fun _ _ => rfl), ?_, ?_⟩
  · simpa only [hfound, Lane.ev, hnow] using hf
  · unfold Lane.onlyRegs at ho ⊢
    rw [hregs, hfound] at ho
    exact (congrArg (fun K : Lane => K.onAlc fun _ => L.alc) ho).trans hM

end

/-! ### A channel read after a change -/

theorem modAt_eq_modify {α : Type} (f : α → α) (l : List α) : ∀ n, modAt l n f = l.modify n f := by
  induction l with
  | nil => exact fun n => (List.modify_nil f n).symm
  | cons x r ih =>
    intro n
    cases n with
    | zero => rfl
    | succ n => exact congrArg (x :: ·) (ih n)

section

variable (L : Lane) {n : Nat} (f : ChanSt → ChanSt)

theorem Lane.chans_onCh (k : Nat) : (L.onCh n f).alc.chans[k]? = (L.alc.chans[k]?).map fun x => if k = n then f x else x := by
  show (modAt L.alc.chans n f)[k]? = _
  rw [modAt_eq_modify, List.getElem?_modify]
  simp only [Option.map_eq_map, eq_comm]

/-- A channel in a state other than that of its start is one that the lane lists. -/
theorem Lane.ch_listed {L : Lane} (h : L.ch n ≠ {}) : n < L.alc.chans.length := by
  by_contra hn
  exact h (List.getD_eq_default _ _ (not_lt.1 hn))

/-- A channel in service is one that the lane lists. -/
theorem Lane.ch_listed_of_delivers {L : Lane} (h : (L.ch n).st.delivers = true) : n < L.alc.chans.length :=
  Lane.ch_listed fun he => absurd h (by rw [he]; decide)

theorem Lane.ch_onCh (h : n < L.alc.chans.length) : (L.onCh n f).ch n = f (L.ch n) :=
  (getD_modAt _ _ _ _ _).trans (if_pos ⟨rfl, h⟩)

end

/-! ### The aim stage not converged (R230) -/

def ncFlds : List Fld := [Reg.ALLOC_NC_TOTAL, Reg.ALLOC_NC_CONSEC, Reg.ALLOC_STAT_NOT_CONVERGED]

/-- A tick not converged, counted and shown. -/
def Lane.ncShown (L : Lane) : Lane := ((L.incSat Reg.ALLOC_NC_TOTAL).incSat Reg.ALLOC_NC_CONSEC).setb Reg.ALLOC_STAT_NOT_CONVERGED true

section

variable {L : Lane}

theorem Lane.allocNotConverged_due (h : L.alc.ncPend = true) : L.allocNotConverged = (L.onAlc fun a => { a with ncPend := false }).ncShown :=
  if_pos h

/-- A tick not converged raises both counts. -/
theorem Lane.ncShown_counts (L : Lane) :
    L.ncShown.get Reg.ALLOC_NC_TOTAL = min (L.get Reg.ALLOC_NC_TOTAL + 1) 65535 ∧
    L.ncShown.get Reg.ALLOC_NC_CONSEC = min (L.get Reg.ALLOC_NC_CONSEC + 1) 65535 := by
  have hstat (f : Fld) (hf : f.addr = Reg.ALLOC_NC_TOTAL.addr) :
      L.ncShown.get f = ((L.incSat Reg.ALLOC_NC_TOTAL).incSat Reg.ALLOC_NC_CONSEC).get f := Lane.get_set_addr _ _ (by rw [hf]; decide)
  refine ⟨(hstat Reg.ALLOC_NC_TOTAL rfl).trans ?_, (hstat Reg.ALLOC_NC_CONSEC rfl).trans ?_⟩
  · exact (Lane.get_set_apart _ _ (by decide) (by decide) (by decide)).trans (L.get_incSat _ 1 (by decide))
  · have hconsec : (L.incSat Reg.ALLOC_NC_TOTAL).get Reg.ALLOC_NC_CONSEC = L.get Reg.ALLOC_NC_CONSEC :=
      L.get_set_apart _ (by decide) (by decide) (by decide)
    rw [Lane.get_incSat _ _ 1 (by decide), hconsec]
    rfl

theorem Lane.framed_ncShown (L : Lane) : L.framed L.ncShown ncFlds [] :=
  Lane.framed_setb true (by decide) (by decide) (Lane.framed_incSat 1 (by decide) (by decide) (Lane.framed_incSat 1 (by decide) (by decide)
    (L.framed_refl _)))

theorem Lane.allocNcEvt_due (h : 10 ≤ L.get Reg.ALLOC_NC_CONSEC) (hr : L.alc.ncRaised = false) :
    L.allocNcEvt = (L.onAlc fun a => { a with ncRaised := true }).find 0x11 0 := if_pos ⟨h, by rw [hr]; rfl⟩

/-! ### Late data of a bus, and load reduction (R223, R236) -/

variable {b : Nat}

theorem Lane.pmStale_due (hb : b < 4) (hl : L.pmLate b = true) (hs : (L.bus b).stale = false) :
    L.pmStale b = ((L.onBus b fun x => { x with stale := true }).setBit Reg.ALLOC_STAT_PM_STALE b true).find 0x11 3 :=
  if_pos ⟨hb, hl, by rw [hs]; rfl⟩

/-- Channel `n` draws on bus `b`. -/
def Lane.drawsOn (L : Lane) (b n : Nat) : Bool := (L.chCfg n).any fun c => decide (c.bus = b)

/-- A channel under a ceiling of its demand at the edge. -/
def ChanSt.capped (x : ChanSt) (frac : Rat) : ChanSt := { x with lrCap := some (frac * qAbs x.loop.y) }

/-- A channel takes the ceiling of bus `b` where it draws on it. -/
def Lane.capChan (b : Nat) (L : Lane) (n : Nat) : Lane := if L.drawsOn b n then L.onCh n fun x => x.capped (L.busCfg b).lrFrac else L

theorem Lane.allocOnly_capChan (L : Lane) (b n : Nat) : L.allocOnly (L.capChan b n) := by
  unfold Lane.capChan
  split <;> rfl

theorem Lane.chans_capChan (L : Lane) (b n k : Nat) :
    (L.capChan b n).alc.chans[k]? = (L.alc.chans[k]?).map fun x => if k = n ∧ L.drawsOn b n = true then x.capped (L.busCfg b).lrFrac else x := by
  unfold Lane.capChan
  split
  · rename_i h
    simp only [Lane.chans_onCh, h, and_true]
  · rename_i h
    simp [h]

/-- The channels listed that draw on the bus take its ceiling; nothing else changes. -/
theorem Lane.capChans_spec (b : Nat) (r : List Nat) : ∀ L : Lane,
    L.allocOnly (r.foldl (Lane.capChan b) L) ∧ ∀ k, (r.foldl (Lane.capChan b) L).alc.chans[k]? =
      (L.alc.chans[k]?).map fun x => if k ∈ r ∧ L.drawsOn b k = true then x.capped (L.busCfg b).lrFrac else x := by
  induction r with
  | nil => exact fun L => ⟨rfl, by simp⟩
  | cons n r ih =>
    intro L
    have hn := L.allocOnly_capChan b n
    have hdraws (k : Nat) : (L.capChan b n).drawsOn b k = L.drawsOn b k := hn.read (fun K => K.drawsOn b k) fun _ _ => rfl
    have hbus : (L.capChan b n).busCfg b = L.busCfg b := hn.read (fun K => K.busCfg b) fun _ _ => rfl
    obtain ⟨hr, hchans⟩ := ih (L.capChan b n)
    refine ⟨Lane.allocOnly_trans hn hr, fun k => ?_⟩
    rw [List.foldl_cons, hchans, L.chans_capChan, Option.map_map, hdraws, hbus]
    congr 1
    funext x
    by_cases hk : k = n
    · subst hk
      by_cases hd : L.drawsOn b k = true <;> simp [hd, ChanSt.capped]
    · simp [hk]

/-- A bus that asks for load reduction. -/
def Lane.reducing (L : Lane) (b : Nat) : Lane := L.chList.foldl (Lane.capChan b) (L.onBus b fun x => { x with loadRed := true })

theorem Lane.loadReduction_due (hb : b < 4) (hr : (L.bus b).lrRaw = true) (hl : (L.bus b).loadRed = false) :
    L.loadReduction b = ((L.reducing b).setBit Reg.ALLOC_STAT_LOAD_RED b true).find 0x11 4 := if_pos ⟨hb, hr, by rw [hl]; rfl⟩

/-- A channel that draws on a bus is one of the Chart. -/
theorem Lane.mem_chList_of_drawsOn {n : Nat} (hn : n < 16) (h : L.drawsOn b n = true) : n ∈ L.chList := by
  unfold Lane.drawsOn at h
  obtain ⟨c, hc, -⟩ := (Option.any_eq_true _ _).1 h
  exact List.mem_filter.2 ⟨List.mem_range.2 hn, by rw [hc]; rfl⟩

/-- Load reduction caps the channels of the bus, and changes the allocation record alone. -/
theorem Lane.reducing_spec (L : Lane) (b : Nat) :
    L.allocOnly (L.reducing b) ∧ ∀ n, n < 16 → (L.reducing b).alc.chans[n]? =
      (L.alc.chans[n]?).map fun x => if L.drawsOn b n = true then x.capped (L.busCfg b).lrFrac else x := by
  obtain ⟨honly, hchans⟩ := Lane.capChans_spec b L.chList (L.onBus b fun x => { x with loadRed := true })
  refine ⟨Lane.allocOnly_trans (L.allocOnly_onAlc _) honly, fun n hn => (hchans n).trans ?_⟩
  congr 1
  funext x
  exact if_congr ⟨And.right, fun h => ⟨Lane.mem_chList_of_drawsOn hn h, h⟩⟩ rfl rfl

end

/-- Settles O20: command by command, from the lane that each leaves. -/
theorem allocationSupervision : Obligations.AllocationSupervision := by
  unfold Obligations.AllocationSupervision
  intro s l
  refine ⟨fun hp => ?notConverged, fun h10 hr => ?ten, fun b hb => ⟨fun hl hs => ?late, fun hr hl => ?reduction⟩⟩
  case notConverged =>
    obtain ⟨htotal, hconsec⟩ := ((s.lane l).onAlc fun a => { a with ncPend := false }).ncShown_counts
    exact onLane_of_eq rfl (Lane.allocNotConverged_due hp) ⟨htotal, hconsec, Lane.get_setb _ _ true (by decide) rfl,
      Lane.framedUpTo_alc (Lane.allocOnly_onAlc _ _) (Lane.framed_ncShown _)⟩
  case ten =>
    exact onLane_of_eq rfl (Lane.allocNcEvt_due h10 hr) ⟨rfl,
      Lane.framedUpTo_alc (Lane.allocOnly_onAlc _ _) (Lane.framed_find 0x11 0 (Lane.framed_refl _ []))⟩
  case late =>
    exact onLane_of_eq rfl (Lane.pmStale_due hb hl hs) ⟨Lane.bitTo_find 0x11 3 (Lane.bitTo_setBit ((s.lane l).onBus b _) true (by decide) hb),
      Lane.framedUpTo_alc (Lane.allocOnly_onAlc _ _)
        (Lane.framed_find 0x11 3 (Lane.framed_set _ (by decide) (by decide) (Lane.framed_refl _ _)))⟩
  case reduction =>
    obtain ⟨honly, hchans⟩ := (s.lane l).reducing_spec b
    have hbit := Lane.bitTo_setBit ((s.lane l).reducing b) (f := Reg.ALLOC_STAT_LOAD_RED) true (by decide) hb
    have hstat (k : Nat) : ((s.lane l).reducing b).bit Reg.ALLOC_STAT_LOAD_RED k = (s.lane l).bit Reg.ALLOC_STAT_LOAD_RED k :=
      honly.read (fun K => K.bit Reg.ALLOC_STAT_LOAD_RED k) fun _ _ => rfl
    exact onLane_of_eq rfl (Lane.loadReduction_due hb hr hl)
      ⟨Lane.bitTo_find 0x11 4 ⟨hbit.1, fun k hk => (hbit.2 k hk).trans (hstat k)⟩, hchans,
      Lane.framedUpTo_alc honly (Lane.framed_find 0x11 4 (Lane.framed_set _ (by decide) (by decide) (Lane.framed_refl _ _)))⟩

/-! ### CH_CMD (R251) -/

/-- The commands of CH_CMD with their codes. -/
def chanCmds (l : LaneId) (n tag : Nat) : List (Instr × Nat) := [(.online l n tag, 1), (.offline l n tag, 2), (.reset l n tag, 3)]

/-- A command of CH_CMD writes its code, which is 1 to 3, in the channel's page. -/
theorem exec_chanCmd {l : LaneId} {n tag : Nat} (s : State) {i : Instr} {cmd : Nat} (h : (i, cmd) ∈ chanCmds l n tag) :
    exec i s = onLane l (fun L => L.atReg (Reg.CH_CMD_CMD n).addr fun L => L.chCmd n tag cmd) s ∧ 1 ≤ cmd ∧ cmd ≤ 3 := by
  simp only [chanCmds, List.mem_cons, List.not_mem_nil, or_false, Prod.mk.injEq] at h
  rcases h with ⟨rfl, rfl⟩ | ⟨rfl, rfl⟩ | ⟨rfl, rfl⟩ <;> exact ⟨rfl, by decide⟩

def chCmdFlds (n : Nat) : List Fld := [Reg.CH_CMD_TAG n, Reg.CH_CMD_CMD n]

/-- CH_CMD with a command. -/
def Lane.chCmdShown (L : Lane) (n tag cmd : Nat) : Lane := L.setAll [(Reg.CH_CMD_TAG n, tag), (Reg.CH_CMD_CMD n, cmd)]

/-- The channel's page is that of CH_CMD. -/
theorem chCmd_page (n : Nat) : (Reg.CH_CMD_CMD n).addr / 0x400 = 0x20 + n := show (0x8024 + 0x400 * n) / 0x400 = 0x20 + n by omega

section

variable {L : Lane} {n tag cmd : Nat}

theorem Lane.framed_chCmdShown {fs : List Fld} (L : Lane) (h : chCmdFlds n ⊆ fs) : L.framed (L.chCmdShown n tag cmd) fs [] :=
  Lane.framed_setAll _ (List.forall_mem_cons.2 ⟨⟨h (by simp [chCmdFlds]), show 8 + 8 ≤ 32 by decide⟩,
    List.forall_mem_singleton.2 ⟨h (by simp [chCmdFlds]), show 0 + 4 ≤ 32 by decide⟩⟩) (L.framed_refl _)

theorem Lane.chCmdShown_reads (L : Lane) (ht : tag < 256) (hc : cmd ≤ 3) :
    (L.chCmdShown n tag cmd).get (Reg.CH_CMD_TAG n) = tag ∧ (L.chCmdShown n tag cmd).get (Reg.CH_CMD_CMD n) = cmd := by
  have hset := Lane.get_setAll [(Reg.CH_CMD_TAG n, tag), (Reg.CH_CMD_CMD n, cmd)] L (by simp)
    (List.pairwise_pair.2 (.inr (.inr (show 0 + 4 ≤ 8 by decide))))
  simp only [List.forall_mem_cons] at hset
  obtain ⟨htag, hcmd, -⟩ := hset
  exact ⟨htag.trans (Nat.mod_eq_of_lt ht), hcmd.trans (Nat.mod_eq_of_lt (show cmd < 16 by omega))⟩

theorem Lane.chCmdShown_onCh (L : Lane) (f : ChanSt → ChanSt) : (L.onCh n f).chCmdShown n tag cmd = (L.chCmdShown n tag cmd).onCh n f :=
  Lane.setAll_onAlc _ _ L

theorem Lane.active_chCmdShown (L : Lane) : (L.chCmdShown n tag cmd).active = L.active := by
  have haddr : Reg.LANE_STAT_ACTIVE.addr ≠ (Reg.CH_CMD_CMD n).addr := show 0x40c ≠ 0x8024 + 0x400 * n by omega
  have hap : ∀ f ∈ chCmdFlds n, Reg.LANE_STAT_ACTIVE.apart f :=
    List.forall_mem_cons.2 ⟨.inl haddr, List.forall_mem_singleton.2 (.inl haddr)⟩
  exact congrArg (· != 0) ((L.framed_chCmdShown (List.Subset.refl _)).1 Reg.LANE_STAT_ACTIVE (by decide) hap)

/-- A command is refused by a lane that is not active and by an unused channel; else it waits for step 2. -/
theorem Lane.chCmd_eq (L : Lane) (h1 : 1 ≤ cmd) (h3 : cmd ≤ 3) :
    L.chCmd n tag cmd =
      if L.active = false then (L.chCmdShown n tag cmd).chRefuse n 3
      else if L.chCfg n = none then (L.chCmdShown n tag cmd).chRefuse n 4
      else (L.onCh n fun x => { x with cmds := x.cmds ++ [cmd] }).chCmdShown n tag cmd := by
  have hcmd : ¬(cmd = 0 ∨ 3 < cmd) := by omega
  unfold Lane.chCmd
  dsimp only
  generalize hM : L.setAll [(Reg.CH_CMD_TAG n, tag), (Reg.CH_CMD_CMD n, cmd)] = M
  obtain rfl : L.chCmdShown n tag cmd = M := hM
  have hcfg : (L.chCmdShown n tag cmd).chCfg n = L.chCfg n :=
    Lane.read_of_onlyRegs (fun K => K.chCfg n) (fun _ _ _ => rfl) (L.framed_chCmdShown (List.Subset.refl _)).2.2
  rw [if_neg hcmd, L.active_chCmdShown, hcfg, Lane.chCmdShown_onCh]
  exact if_congr (by rw [Bool.not_eq_true']) rfl (if_congr Option.isNone_iff_eq_none rfl rfl)

theorem Lane.chCmd_kept (h1 : 1 ≤ cmd) (h3 : cmd ≤ 3) (ha : L.active = true) (hc : L.chCfg n ≠ none) :
    L.chCmd n tag cmd = (L.onCh n fun x => { x with cmds := x.cmds ++ [cmd] }).chCmdShown n tag cmd := by
  rw [L.chCmd_eq h1 h3, if_neg (by simp [ha]), if_neg hc]

theorem Lane.chCmd_refused (h1 : 1 ≤ cmd) (h3 : cmd ≤ 3) (h : L.active = false ∨ L.chCfg n = none) :
    L.chCmd n tag cmd = (L.chCmdShown n tag cmd).chRefuse n (if L.active then 4 else 3) := by
  rw [L.chCmd_eq h1 h3]
  cases ha : L.active
  · rfl
  · exact if_pos (h.resolve_left (by simp [ha]))

theorem Lane.chRefuse_result (M : Lane) {code : Nat} (hc : code < 256) : (M.chRefuse n code).get (Reg.CH_CMD_RESULT n) = code :=
  M.get_set_fit _ (show 16 + 8 ≤ 32 by decide) hc

/-- A refusal writes the result beside the command, with its event. -/
theorem Lane.framed_chRefuse (L : Lane) (code : Nat) :
    L.framed ((L.chCmdShown n tag cmd).chRefuse n code) [Reg.CH_CMD_TAG n, Reg.CH_CMD_CMD n, Reg.CH_CMD_RESULT n] [(0x20 + n, 7)] :=
  Lane.framed_find (0x20 + n) 7 (Lane.framed_set _ (by simp) (show 16 + 8 ≤ 32 by decide) (L.framed_chCmdShown (by simp [chCmdFlds])))

/-! ### A stale lever, and the end of LIMIT_HOLD (R243, R238) -/

theorem Lane.leverStaleCmd_due (hc : L.chCfg n ≠ none)
    (h : (L.ch n).leverOk = false ∧ (L.ch n).leverStale = false ∨ (L.ch n).leverAngOk = false ∧ (L.ch n).leverAngStale = false) :
    L.leverStaleCmd n = ((L.onCh n fun x => { x with leverStale := !x.leverOk, leverAngStale := !x.leverAngOk }).setb
      (Reg.CH_STATE_LEVER_STALE n) true).find (0x20 + n) 4 :=
  if_pos ⟨Option.isSome_iff_ne_none.2 hc, by simpa using h⟩

/-- A channel's loop out of its limit. -/
def ChanSt.unlimited (x : ChanSt) : ChanSt := { x with loop := { x.loop with limited := false, limCnt := 0 } }

/-- A channel out of its limit is shown so in both pages. -/
def Lane.unlimitedShown (L : Lane) (n : Nat) : Lane := (L.setb (Reg.CH_STATE_LIMITED n) false).setBit Reg.ALLOC_AVAIL_LIMITED n false

theorem Lane.limitHoldExpiry_due (hl : (L.ch n).loop.limited = true) (ht : L.ac.limitHold ≤ (L.ch n).loop.limCnt) :
    L.limitHoldExpiry n = (L.onCh n ChanSt.unlimited).unlimitedShown n := if_pos ⟨hl, ht⟩

theorem Lane.unlimitedShown_reads (L : Lane) (hn : n < 16) :
    (L.unlimitedShown n).get (Reg.CH_STATE_LIMITED n) = 0 ∧ L.bitTo (L.unlimitedShown n) Reg.ALLOC_AVAIL_LIMITED n false := by
  have haddr : (Reg.CH_STATE_LIMITED n).addr ≠ Reg.ALLOC_AVAIL_LIMITED.addr := show 0x8028 + 0x400 * n ≠ 0x4420 by omega
  have hstate : (L.setb (Reg.CH_STATE_LIMITED n) false).get (Reg.CH_STATE_LIMITED n) = 0 := L.get_setb _ false (show 8 + 1 ≤ 32 by decide) rfl
  obtain ⟨hbit, hothers⟩ := (L.setb (Reg.CH_STATE_LIMITED n) false).bitTo_setBit (f := Reg.ALLOC_AVAIL_LIMITED) false (by decide) hn
  have hkeep (k : Nat) : (L.setb (Reg.CH_STATE_LIMITED n) false).bit Reg.ALLOC_AVAIL_LIMITED k = L.bit Reg.ALLOC_AVAIL_LIMITED k :=
    congrArg (testBit · k) (L.get_set_addr _ haddr.symm)
  exact ⟨(Lane.get_set_addr _ _ haddr).trans hstate, hbit, fun k hk => (hothers k hk).trans (hkeep k)⟩

theorem Lane.framed_unlimitedShown (L : Lane) : L.framed (L.unlimitedShown n) [Reg.CH_STATE_LIMITED n, Reg.ALLOC_AVAIL_LIMITED] [] :=
  Lane.framed_set _ (by simp) (by decide) (Lane.framed_setb false (by simp) (show 8 + 1 ≤ 32 by decide) (L.framed_refl _))

end

/-- Settles O23: each code of CH_CMD by the page, the lane and the channel that it meets, then the lever and the end of LIMIT_HOLD. -/
theorem channelCommands : Obligations.ChannelCommands := by
  unfold Obligations.ChannelCommands
  intro s l n tag hn ht
  refine ⟨fun i cmd hi => ?commands, fun hc h => ?lever, fun hl hh => ?limit⟩
  case commands =>
    obtain ⟨hexec, h1, h3⟩ := exec_chanCmd s hi
    have hpage := chCmd_page n
    refine ⟨fun hp => ?absent, fun hp ha hc => ?kept, fun hp h => ?refused⟩
    case absent =>
      exact onLane_of_eq hexec (Lane.atReg_absent _ (by rwa [hpage])) ((s.lane l).countsAbsent_absentWrite
        (show 0x8024 + 0x400 * n < 2 ^ 32 by omega))
    case kept =>
      obtain ⟨htag, hcmd⟩ := ((s.lane l).onCh n fun x => { x with cmds := x.cmds ++ [cmd] }).chCmdShown_reads (n := n) ht h3
      have hframe := ((s.lane l).onCh n fun x => { x with cmds := x.cmds ++ [cmd] }).framed_chCmdShown (n := n) (tag := tag) (cmd := cmd)
        (List.Subset.refl _)
      exact onLane_of_eq hexec ((Lane.atReg_present _ (by rwa [hpage])).trans (Lane.chCmd_kept h1 h3 ha hc))
        ⟨htag, hcmd, congrArg AllocSt.chans hframe.alc_eq, Lane.framedUpTo_alc (Lane.allocOnly_onAlc _ _) hframe⟩
    case refused =>
      exact onLane_of_eq hexec ((Lane.atReg_present _ (by rwa [hpage])).trans (Lane.chCmd_refused h1 h3 h))
        ⟨Lane.chRefuse_result _ (by split <;> decide), Lane.framed_chRefuse _ _⟩
  case lever =>
    exact onLane_of_eq rfl (Lane.leverStaleCmd_due hc h) ⟨(Lane.find_get _ _ _ _).trans (Lane.get_setb _ _ true (show 13 + 1 ≤ 32 by decide) rfl),
      Lane.framedUpTo_alc (Lane.allocOnly_onAlc _ _)
        (Lane.framed_find (0x20 + n) 4 (Lane.framed_setb true (by simp) (show 13 + 1 ≤ 32 by decide) (Lane.framed_refl _ _)))⟩
  case limit =>
    have hlisted : n < (s.lane l).alc.chans.length := Lane.ch_listed (ne_of_apply_ne (fun x => x.loop.limited) (by simp [hl]))
    have hframe := ((s.lane l).onCh n ChanSt.unlimited).framed_unlimitedShown (n := n)
    have hch : (((s.lane l).onCh n ChanSt.unlimited).unlimitedShown n).ch n = ((s.lane l).ch n).unlimited :=
      Lane.ch_onCh (s.lane l) _ hlisted
    obtain ⟨hstate, hbit⟩ := ((s.lane l).onCh n ChanSt.unlimited).unlimitedShown_reads hn
    exact onLane_of_eq rfl (Lane.limitHoldExpiry_due hl hh) ⟨congrArg (fun x => x.loop.limited) hch, hstate, hbit,
      Lane.framedUpTo_alc (Lane.allocOnly_onAlc _ _) hframe⟩

end Sys2Proof.Machine
end

section
/-! A channel takes a state (06 R224, R225, R244-R246, R255): what it shows, and what THRUSTERS makes of it. -/

namespace Sys2Proof.Machine

open Sys2Proof

/-! ### One frame after another -/

section

variable {L M N : Lane} {fs gs : List Fld} {es ds : List (Nat × Nat)}

theorem Lane.keepsBut_trans (h : L.keepsBut M fs) (h' : M.keepsBut N gs) : L.keepsBut N (fs ++ gs) := fun g hg ha =>
  (h' g hg fun f hf => ha f (List.mem_append_right _ hf)).trans (h g hg fun f hf => ha f (List.mem_append_left _ hf))

theorem Lane.framed_mono (hs : fs ⊆ gs) (h : L.framed M fs es) : L.framed M gs es :=
  ⟨fun g hg ha => h.1 g hg fun f hf => ha f (hs hf), h.2⟩

/-- Two changes of the allocation record, registers and events, one after the other. -/
theorem Lane.framedUpTo_alc_trans (h : L.framedUpTo M fs es fun K => K.onAlc fun _ => L.alc)
    (h' : M.framedUpTo N gs ds fun K => K.onAlc fun _ => M.alc) : L.framedUpTo N (fs ++ gs) (es ++ ds) fun K => K.onAlc fun _ => L.alc := by
  obtain ⟨hk, hf, ho⟩ := h
  obtain ⟨hk', hf', ho'⟩ := h'
  have hnow : M.now = L.now := Lane.now_of_onlyRegs (M := M.onAlc fun _ => L.alc) ho
  refine ⟨Lane.keepsBut_trans hk hk', ?_, ?_⟩
  · simp [hf', hf, Lane.ev, hnow]
  · have hback : { M with regs := L.regs, found := L.found, alc := L.alc } = L := ho
    have hback' : { N with regs := M.regs, found := M.found, alc := M.alc } = M := ho'
    exact (congrArg (fun K : Lane => { K with regs := L.regs, found := L.found, alc := L.alc }) hback').trans hback

end

/-! ### THRUSTERS evaluated anew (R225) -/

def thrusterFlds : List Fld := [Reg.ALLOC_STAT_THRUSTERS, Reg.MODE_COND_COND]

/-- Enough channels are ONLINE. -/
def Lane.enoughOnline (L : Lane) : Bool :=
  decide (L.ac.minThrusters ≤ (L.chList.filter fun n => decide ((L.ch n).st = .online)).length)

/-- The condition shown, but by a lane that takes the mirrored ones. -/
def Lane.thrustersShown (L : Lane) (t : Bool) : Lane :=
  if L.role = 3 ∨ L.role = 4 then L else (L.setBit Reg.MODE_COND_COND 4 t).setb Reg.ALLOC_STAT_THRUSTERS t

section

variable {L M : Lane}

/-- The condition as the lane holds it. -/
def Lane.thrustersHeld (L : Lane) (t : Bool) : Lane := L.onAlc fun a => { a with thrusters := t }

/-- The condition held by the lane, shown, and its event where it falls. -/
def Lane.thrustersTaken (L : Lane) : Lane :=
  ((L.thrustersHeld L.enoughOnline).thrustersShown L.enoughOnline).findIf (L.alc.thrusters && !L.enoughOnline) 0x11 5

theorem Lane.thrustersEval_lubber (h : L.mode = 2) : L.thrustersEval = L := if_pos h

theorem Lane.thrustersEval_taken (h : L.mode ≠ 2) : L.thrustersEval = L.thrustersTaken := if_neg h

theorem Lane.framed_thrustersShown (L : Lane) (t : Bool) : L.framed (L.thrustersShown t) thrusterFlds [] := by
  unfold Lane.thrustersShown
  split
  · exact L.framed_refl _
  · exact Lane.framed_setb t (by decide) (by decide) (Lane.framed_set _ (by decide) (by decide) (L.framed_refl _))

/-- The lane shows the condition, but one that takes the mirrored ones keeps what it shows. -/
theorem Lane.thrustersShown_reads (L : Lane) (t : Bool) :
    if L.role = 3 ∨ L.role = 4 then
      (L.thrustersShown t).get Reg.ALLOC_STAT_THRUSTERS = L.get Reg.ALLOC_STAT_THRUSTERS ∧
      (L.thrustersShown t).get Reg.MODE_COND_COND = L.get Reg.MODE_COND_COND
    else (L.thrustersShown t).get Reg.ALLOC_STAT_THRUSTERS = (if t then 1 else 0) ∧ L.bitTo (L.thrustersShown t) Reg.MODE_COND_COND 4 t := by
  unfold Lane.thrustersShown
  split
  · exact ⟨rfl, rfl⟩
  · obtain ⟨hbit, hothers⟩ := L.bitTo_setBit (f := Reg.MODE_COND_COND) (n := 4) t (by decide) (by decide)
    have hcond (k : Nat) : ((L.setBit Reg.MODE_COND_COND 4 t).setb Reg.ALLOC_STAT_THRUSTERS t).bit Reg.MODE_COND_COND k =
        (L.setBit Reg.MODE_COND_COND 4 t).bit Reg.MODE_COND_COND k := congrArg (testBit · k) (Lane.get_set_addr _ _ (by decide))
    exact ⟨Lane.get_setb _ _ t (by decide) rfl, (hcond 4).trans hbit, fun k hk => (hcond k).trans (hothers k hk)⟩

theorem Lane.framed_thrustersTaken (L : Lane) :
    (L.thrustersHeld L.enoughOnline).framed L.thrustersTaken thrusterFlds
      (if L.alc.thrusters && !L.enoughOnline then [(0x11, 5)] else []) :=
  Lane.framed_findIf _ 0x11 5 (Lane.framed_thrustersShown _ _)

theorem Lane.alc_thrustersTaken (L : Lane) : L.thrustersTaken.alc = { L.alc with thrusters := L.enoughOnline } := L.framed_thrustersTaken.alc_eq

/-- The channels that are ONLINE are counted again after the evaluation: their number is the same. -/
theorem Lane.enoughOnline_thrustersTaken (L : Lane) : L.thrustersTaken.enoughOnline = L.enoughOnline :=
  Lane.read_of_onlyRegs (L := L.thrustersHeld L.enoughOnline) Lane.enoughOnline (fun _ _ _ => rfl) L.framed_thrustersTaken.2.2

/-- The condition in LUBBER, and evaluated anew. -/
theorem Lane.thrusters_thrustersEval (L : Lane) :
    L.thrustersEval.alc.thrusters = if L.mode = 2 then L.alc.thrusters else L.thrustersEval.enoughOnline := by
  by_cases h : L.mode = 2
  · rw [Lane.thrustersEval_lubber h, if_pos h]
  · rw [Lane.thrustersEval_taken h, if_neg h, L.enoughOnline_thrustersTaken, L.alc_thrustersTaken]

theorem Lane.ch_thrustersEval (L : Lane) (n : Nat) : L.thrustersEval.ch n = L.ch n := by
  by_cases h : L.mode = 2
  · rw [Lane.thrustersEval_lubber h]
  · rw [Lane.thrustersEval_taken h]
    exact L.framed_thrustersTaken.ch_eq n

/-- The evaluation changes the condition, what shows it, and its event where it falls. -/
theorem Lane.framed_thrustersEval (L : Lane) :
    L.framedUpTo L.thrustersEval thrusterFlds (if L.alc.thrusters && !L.thrustersEval.alc.thrusters then [(0x11, 5)] else [])
      fun K => K.onAlc fun _ => L.alc := by
  by_cases h : L.mode = 2
  · rw [Lane.thrustersEval_lubber h, Bool.and_not_self]
    exact Lane.framedUpTo_alc (M := L) rfl (L.framed_refl _)
  · rw [Lane.thrustersEval_taken h, L.alc_thrustersTaken]
    exact Lane.framedUpTo_alc (L.allocOnly_onAlc _) L.framed_thrustersTaken

/-- What shows the condition after the evaluation. -/
theorem Lane.thrustersEval_reads (L : Lane) :
    if L.mode = 2 ∨ L.role = 3 ∨ L.role = 4 then
      L.thrustersEval.get Reg.ALLOC_STAT_THRUSTERS = L.get Reg.ALLOC_STAT_THRUSTERS ∧
      L.thrustersEval.get Reg.MODE_COND_COND = L.get Reg.MODE_COND_COND
    else L.thrustersEval.get Reg.ALLOC_STAT_THRUSTERS = (if L.thrustersEval.alc.thrusters then 1 else 0) ∧
      L.bitTo L.thrustersEval Reg.MODE_COND_COND 4 L.thrustersEval.alc.thrusters := by
  by_cases h : L.mode = 2
  · rw [Lane.thrustersEval_lubber h, if_pos (.inl h)]
    exact ⟨rfl, rfl⟩
  · have hget (f : Fld) : L.thrustersTaken.get f = ((L.thrustersHeld L.enoughOnline).thrustersShown L.enoughOnline).get f :=
      Lane.findIf_get _ _ _ _ _
    rw [Lane.thrustersEval_taken h, L.alc_thrustersTaken]
    simp only [h, false_or, hget, Lane.bitTo, Lane.bit]
    exact (L.thrustersHeld L.enoughOnline).thrustersShown_reads L.enoughOnline

end

/-! ### A state entered, and what it shows (R224, R255) -/

def chStateFlds (n : Nat) : List Fld := [Reg.CH_STATE_STATE n, Reg.CH_STATE_CAUSE n, Reg.CH_STAT_ONLINE n, Reg.ALLOC_AVAIL_ONLINE]

/-- Lane `M` shows channel `n` in a state, with its cause; the other channels as lane `L` does. -/
def Lane.showsEntry (L M : Lane) (n : Nat) (st : ChState) (cause : Nat) : Prop :=
  M.get (Reg.CH_STATE_STATE n) = st.code ∧ M.get (Reg.CH_STATE_CAUSE n) = cause ∧
  M.get (Reg.CH_STAT_ONLINE n) = (if st = .online then 1 else 0) ∧ L.bitTo M Reg.ALLOC_AVAIL_ONLINE n (decide (st = .online))

/-- A field of channel `n`'s page, or the mask of the channels that are ONLINE. -/
def Fld.ofChannel (n : Nat) (f : Fld) : Prop := f.addr / 0x400 = 0x20 + n ∨ f = Reg.ALLOC_AVAIL_ONLINE

section

variable {L K M : Lane} {n cause : Nat} {st : ChState} {fs : List Fld}

theorem chStateFlds_ofChannel (n : Nat) : ∀ f ∈ chStateFlds n, f.ofChannel n := by
  have hstate : (0x8028 + 0x400 * n) / 0x400 = 0x20 + n := by omega
  have hstat : (0x800c + 0x400 * n) / 0x400 = 0x20 + n := by omega
  simp [chStateFlds, Fld.ofChannel, hstate, hstat]

/-- A field outside the channels' pages that is not in the register of that mask shares no bit with a channel's fields. -/
theorem Fld.apart_ofChannel {f g : Fld} (hn : n < 16) (hg : g.addr / 0x400 < 0x20 ∨ 0x30 ≤ g.addr / 0x400)
    (ha : g.addr ≠ Reg.ALLOC_AVAIL_ONLINE.addr) (hf : f.ofChannel n) : g.apart f := by
  rcases hf with hf | rfl
  · exact .inl fun he => by rw [he] at hg; omega
  · exact .inl ha

/-- A register off the channels' pages, but for that of the mask, reads as before. -/
theorem Lane.get_off_channel (hn : n < 16) (hfs : ∀ f ∈ fs, f.ofChannel n) (h : L.keepsBut M fs) {g : Fld} (hfit : g.lo + g.w ≤ 32)
    (hg : g.addr / 0x400 < 0x20 ∨ 0x30 ≤ g.addr / 0x400) (ha : g.addr ≠ Reg.ALLOC_AVAIL_ONLINE.addr) : M.get g = L.get g :=
  h g hfit fun f hf => Fld.apart_ofChannel hn hg ha (hfs f hf)

/-- The channels' registers and their mask read as before after the evaluation. -/
theorem Lane.get_thrustersEval (M : Lane) {f : Fld} (hfit : f.lo + f.w ≤ 32) (hf : Reg.ALLOC_STAT_THRUSTERS.addr < f.addr) :
    M.thrustersEval.get f = M.get f := by
  have hcond : Reg.MODE_COND_COND.addr < f.addr := lt_trans (by decide) hf
  exact M.framed_thrustersEval.1 f hfit (List.forall_mem_cons.2 ⟨.inl hf.ne', List.forall_mem_singleton.2 (.inl hcond.ne')⟩)

/-- An entry stays shown where its four fields read as before. -/
theorem Lane.showsEntry_of_reads {N : Lane} (h : L.showsEntry M n st cause) (hr : ∀ f ∈ chStateFlds n, N.get f = M.get f) :
    L.showsEntry N n st cause := by
  simp only [chStateFlds, List.forall_mem_cons] at hr
  obtain ⟨rstate, rcause, rstat, ravail, -⟩ := hr
  obtain ⟨hstate, hcause, hstat, hbit, hothers⟩ := h
  have hmask (k : Nat) : N.bit Reg.ALLOC_AVAIL_ONLINE k = M.bit Reg.ALLOC_AVAIL_ONLINE k := congrArg (testBit · k) ravail
  exact ⟨rstate.trans hstate, rcause.trans hcause, rstat.trans hstat, (hmask n).trans hbit, fun k hk => (hmask k).trans (hothers k hk)⟩

theorem chStateFlds_fit (n : Nat) : ∀ f ∈ chStateFlds n, f.lo + f.w ≤ 32 := by simp [chStateFlds]

theorem Lane.showsEntry_thrustersEval (h : L.showsEntry M n st cause) : L.showsEntry M.thrustersEval n st cause := by
  have haddr : ∀ f ∈ chStateFlds n, Reg.ALLOC_STAT_THRUSTERS.addr < f.addr := by
    have hpage (k : Nat) : 0x440c < 0x8000 + k + 0x400 * n := by omega
    simp [chStateFlds, hpage 0x28, hpage 0xc]
  exact Lane.showsEntry_of_reads h fun f hf => M.get_thrustersEval (chStateFlds_fit n f hf) (haddr f hf)

theorem Lane.showsEntry_find (p b : Nat) (h : L.showsEntry M n st cause) : L.showsEntry (M.find p b) n st cause := h

/-- A lane before that has the mask as this one. -/
theorem Lane.showsEntry_of_mask (hm : ∀ k, K.bit Reg.ALLOC_AVAIL_ONLINE k = L.bit Reg.ALLOC_AVAIL_ONLINE k) (h : K.showsEntry M n st cause) :
    L.showsEntry M n st cause := by
  obtain ⟨hstate, hcause, hstat, hbit, hothers⟩ := h
  exact ⟨hstate, hcause, hstat, hbit, fun k hk => (hothers k hk).trans (hm k)⟩

/-- A register of another place set. -/
theorem Lane.showsEntry_set {f : Fld} (v : Nat) (hf : f.addr ∉ (chStateFlds n).map Fld.addr) (h : L.showsEntry M n st cause) :
    L.showsEntry (M.set f v) n st cause :=
  Lane.showsEntry_of_reads h fun _ hg => M.get_set_addr v fun he => hf (he ▸ List.mem_map_of_mem hg)

/-- A channel's entry, with THRUSTERS evaluated after it, is a change of its state. -/
theorem Lane.showsState_of_entry {more : List (Nat × Nat)} (hn : n < 16) (hfs : ∀ f ∈ fs, f.ofChannel n) (hK : L.allocOnly K)
    (hthr : K.alc.thrusters = L.alc.thrusters) (hframe : K.framed M fs ((0x20 + n, 0) :: more)) (hentry : L.showsEntry M n st cause) :
    L.showsState M.thrustersEval n st cause more ∧ L.keepsBut M.thrustersEval (fs ++ thrusterFlds) := by
  have hup := Lane.framedUpTo_alc hK hframe
  obtain ⟨hkeep, hfound, honly⟩ := Lane.framedUpTo_alc_trans hup M.framed_thrustersEval
  have hread := @Lane.get_off_channel L M n fs hn hfs hup.1
  have hmode : M.mode = L.mode := hread (by decide) (by decide) (by decide)
  have hrole : M.role = L.role := hread (by decide) (by decide) (by decide)
  have hstat : M.get Reg.ALLOC_STAT_THRUSTERS = L.get Reg.ALLOC_STAT_THRUSTERS := hread (by decide) (by decide) (by decide)
  have hcond : M.get Reg.MODE_COND_COND = L.get Reg.MODE_COND_COND := hread (by decide) (by decide) (by decide)
  have hM : M.alc.thrusters = L.alc.thrusters := (congrArg AllocSt.thrusters hframe.alc_eq).trans hthr
  have hac : M.thrustersEval.ac = L.ac :=
    Lane.read_of_onlyRegs (M := M.thrustersEval.onAlc fun _ => L.alc) Lane.ac (fun _ _ _ => rfl) honly
  obtain ⟨hst, hcause, honl, havail⟩ := Lane.showsEntry_thrustersEval hentry
  refine ⟨⟨hst, hcause, honl, havail, ?thrusters, ?shown, ?events, honly⟩, hkeep⟩
  case thrusters =>
    rw [M.thrusters_thrustersEval, hmode, hM, Lane.enoughOnline, hac]
  case shown =>
    have hreads := M.thrustersEval_reads
    rw [hmode, hrole, hstat, hcond] at hreads
    simpa only [Lane.bitTo, Lane.bit, hcond] using hreads
  case events =>
    rw [hfound, hM]
    simp [apply_ite]

/-! ### The step that takes a state (R224, R225) -/

theorem Lane.onCh_onCh (L : Lane) (n : Nat) (f g : ChanSt → ChanSt) : (L.onCh n f).onCh n g = L.onCh n fun x => g (f x) := by
  have hmod : modAt (modAt L.alc.chans n f) n g = modAt L.alc.chans n fun x => g (f x) := by
    rw [modAt_eq_modify, modAt_eq_modify, modAt_eq_modify, List.modify_modify_eq]
    rfl
  exact congrArg (fun c => L.onAlc fun a => { a with chans := c }) hmod

theorem Lane.setAll_onCh (L : Lane) (n : Nat) (f : ChanSt → ChanSt) (r : List (Fld × Nat)) : (L.onCh n f).setAll r = (L.setAll r).onCh n f :=
  Lane.setAll_onAlc _ r L

/-- A channel's demand and thrust dropped; the angle holds. -/
def ChanSt.dropped (x : ChanSt) (drop : Bool) : ChanSt :=
  if drop then { x with loop := { x.loop with y := 0 }, aimX := 0, aimY := 0, thrust := 0 } else x

/-- A channel with its state, and the cause that only FAULT has. -/
def ChanSt.entering (x : ChanSt) (st : ChState) (drop : Bool) : ChanSt :=
  if st = .fault then ChanSt.dropped { x with st := st } drop else { ChanSt.dropped { x with st := st } drop with cause := 0 }

/-- A channel in service that leaves it otherwise than to OFFLINE drops its demand. -/
def ChState.drops (was st : ChState) : Bool := was.delivers && !st.delivers && decide (st ≠ .offline)

def dropRegs (n : Nat) (drop : Bool) : List (Fld × Nat) := if drop then [(Reg.CH_DEMAND_DEMAND n, 0), (Reg.CH_ALLOC_THRUST n, 0)] else []

/-- What the channel's page shows of a state. -/
def entryRegs (n : Nat) (st : ChState) (cause : Nat) : List (Fld × Nat) :=
  [(Reg.CH_STATE_STATE n, st.code), (Reg.CH_STATE_CAUSE n, cause), (Reg.CH_STAT_ONLINE n, if st = .online then 1 else 0)]

/-- A state entered, shown with its event. -/
def Lane.entryShown (L : Lane) (n : Nat) (st : ChState) (cause : Nat) : Lane :=
  ((L.setAll (entryRegs n st cause)).setBit Reg.ALLOC_AVAIL_ONLINE n (decide (st = .online))).find (0x20 + n) 0

theorem Lane.ch_setAll (r : List (Fld × Nat)) (n : Nat) : ∀ L : Lane, (L.setAll r).ch n = L.ch n := by
  induction r with
  | nil => exact fun _ => rfl
  | cons p r ih => exact fun L => ih (L.set p.1 p.2)

/-- The steps by which a channel takes a state that is neither STOPPED nor NO_ENGINE, before it is shown. -/
def Lane.chEntering (L : Lane) (n : Nat) (st : ChState) (drop : Bool) : Lane :=
  let M := L.onCh n fun x => { x with st := st }
  let M := if drop then
      (M.onCh n fun x => { x with loop := { x.loop with y := 0 }, aimX := 0, aimY := 0, thrust := 0 }).setAll
        [(Reg.CH_DEMAND_DEMAND n, 0), (Reg.CH_ALLOC_THRUST n, 0)]
    else M
  if st = .fault then M else M.onCh n fun x => { x with cause := 0 }

theorem Lane.chGoto_steps (hst : (L.ch n).st ≠ st) (hs : st ≠ .stopped) (he : st ≠ .noEngine) :
    L.chGoto n st = (L.chEntering n st ((L.ch n).st.drops st)).entryShown n st ((L.chEntering n st ((L.ch n).st.drops st)).ch n).cause := by
  unfold Lane.chGoto
  dsimp only
  rw [if_neg hst, if_neg hs, if_neg he]
  rfl

/-- The steps are one change of the channel's record and the registers of a dropped demand. -/
theorem Lane.chEntering_eq (L : Lane) (n : Nat) (st : ChState) (drop : Bool) :
    L.chEntering n st drop = (L.onCh n fun x => x.entering st drop).setAll (dropRegs n drop) := by
  unfold Lane.chEntering ChanSt.entering
  by_cases hf : st = .fault <;> cases drop <;> simp only [hf, if_true, if_false, Bool.false_eq_true, Lane.setAll_onCh, Lane.onCh_onCh] <;> rfl

theorem Lane.ch_chEntering (hn : n < L.alc.chans.length) (drop : Bool) : (L.chEntering n st drop).ch n = (L.ch n).entering st drop := by
  rw [L.chEntering_eq, Lane.ch_setAll, L.ch_onCh _ hn]

theorem Lane.framed_chEntering {drop : Bool} (hm : ∀ f ∈ (dropRegs n drop).map Prod.fst, f ∈ fs) :
    (L.onCh n fun x => x.entering st drop).framed (L.chEntering n st drop) fs [] := by
  have hfit : ∀ p ∈ dropRegs n drop, p.1.lo + p.1.w ≤ 32 := by cases drop <;> simp [dropRegs]
  rw [L.chEntering_eq]
  exact Lane.framed_setAll _ (fun p hp => ⟨hm _ (List.mem_map_of_mem hp), hfit p hp⟩) (Lane.framed_refl _ _)

theorem Lane.framed_entryShown (hm : chStateFlds n ⊆ fs) (h : L.framed M fs []) : L.framed (M.entryShown n st cause) fs [(0x20 + n, 0)] := by
  have hregs : ∀ p ∈ entryRegs n st cause, p.1 ∈ chStateFlds n ∧ p.1.lo + p.1.w ≤ 32 := by simp [entryRegs, chStateFlds]
  exact Lane.framed_find (0x20 + n) 0 (Lane.framed_set _ (hm (by simp [chStateFlds])) (by decide)
    (Lane.framed_setAll _ (fun p hp => (hregs p hp).imp_left (hm ·)) h))

/-- A state shown: its code, its cause, ONLINE in both pages. -/
theorem Lane.showsEntry_entryShown (M : Lane) (hn : n < 16) (hc : cause < 16) : M.showsEntry (M.entryShown n st cause) n st cause := by
  have hset := Lane.get_setAll (entryRegs n st cause) M (by simp [entryRegs]) (by simp [entryRegs, Fld.apart])
  have hframe := Lane.framed_setAll (fs := (entryRegs n st cause).map Prod.fst) (entryRegs n st cause)
    (fun p hp => ⟨List.mem_map_of_mem hp, by revert p; simp [entryRegs]⟩) (M.framed_refl _)
  unfold Lane.entryShown
  generalize M.setAll _ = N at hset hframe ⊢
  simp only [entryRegs, List.forall_mem_cons] at hset
  obtain ⟨hstate, hcause, hstat, -⟩ := hset
  have hcode : st.code < 16 := by cases st <;> decide
  have honline : (if st = .online then 1 else 0) < 2 := by split <;> decide
  have hread (f : Fld) (hf : Reg.ALLOC_AVAIL_ONLINE.addr ≠ f.addr) :
      (N.setBit Reg.ALLOC_AVAIL_ONLINE n (decide (st = .online))).get f = N.get f := N.get_set_addr _ hf.symm
  have hpage : Reg.ALLOC_AVAIL_ONLINE.addr ≠ (Reg.CH_STATE_STATE n).addr := show 0x4420 ≠ 0x8028 + 0x400 * n by omega
  have hpage' : Reg.ALLOC_AVAIL_ONLINE.addr ≠ (Reg.CH_STAT_ONLINE n).addr := show 0x4420 ≠ 0x800c + 0x400 * n by omega
  have hmask (k : Nat) : N.bit Reg.ALLOC_AVAIL_ONLINE k = M.bit Reg.ALLOC_AVAIL_ONLINE k :=
    congrArg (testBit · k) (hframe.1 _ (by decide) (List.forall_mem_cons.2 ⟨.inl hpage, List.forall_mem_cons.2
      ⟨.inl hpage, List.forall_mem_singleton.2 (.inl hpage')⟩⟩))
  obtain ⟨hbit, hothers⟩ := N.bitTo_setBit (f := Reg.ALLOC_AVAIL_ONLINE) (decide (st = .online)) (by decide) hn
  exact Lane.showsEntry_find (0x20 + n) 0 ⟨(hread (Reg.CH_STATE_STATE n) hpage).trans (hstate.trans (Nat.mod_eq_of_lt hcode)),
    (hread (Reg.CH_STATE_CAUSE n) hpage).trans (hcause.trans (Nat.mod_eq_of_lt hc)), (hread (Reg.CH_STAT_ONLINE n) hpage').trans
      (hstat.trans (Nat.mod_eq_of_lt honline)), hbit, fun k hk => (hothers k hk).trans (hmask k)⟩

/-- Registers of a dropped demand and of the state entered. -/
def gotoFlds (n : Nat) (drop : Bool) : List Fld := (dropRegs n drop).map Prod.fst ++ chStateFlds n

/-- The fields of a dropped demand share no bit with the mask. -/
theorem avail_apart_drop (n : Nat) (drop : Bool) : ∀ f ∈ (dropRegs n drop).map Prod.fst, Reg.ALLOC_AVAIL_ONLINE.apart f := by
  have hdemand : 0x4420 ≠ 0x8030 + 0x400 * n := by omega
  have hthrust : 0x4420 ≠ 0x802c + 0x400 * n := by omega
  cases drop
  · exact List.forall_mem_nil _
  · exact List.forall_mem_cons.2 ⟨.inl hdemand, List.forall_mem_singleton.2 (.inl hthrust)⟩

theorem gotoFlds_ofChannel (n : Nat) (drop : Bool) : ∀ f ∈ gotoFlds n drop, f.ofChannel n := by
  have hdemand : (0x8030 + 0x400 * n) / 0x400 = 0x20 + n := by omega
  have hthrust : (0x802c + 0x400 * n) / 0x400 = 0x20 + n := by omega
  refine List.forall_mem_append.2 ⟨?_, chStateFlds_ofChannel n⟩
  cases drop <;> simp [dropRegs, Fld.ofChannel, hdemand, hthrust]

/-- A new state that is neither STOPPED nor NO_ENGINE: the channel's record changes, and the state is shown with its event. -/
theorem Lane.chGoto_spec (hn : n < 16) (hl : n < L.alc.chans.length) (hst : (L.ch n).st ≠ st) (hs : st ≠ .stopped) (he : st ≠ .noEngine)
    {drop : Bool} (hd : (L.ch n).st.drops st = drop) (hc : ((L.ch n).entering st drop).cause < 16) :
    (L.onCh n fun x => x.entering st drop).framed (L.chGoto n st) (gotoFlds n drop) [(0x20 + n, 0)] ∧
    L.showsEntry (L.chGoto n st) n st ((L.ch n).entering st drop).cause ∧ (L.chGoto n st).ch n = (L.ch n).entering st drop := by
  have hdrop := Lane.framed_chEntering (L := L) (n := n) (st := st) (drop := drop) fun _ hf => hf
  have hframe := Lane.framed_chEntering (L := L) (n := n) (st := st) (drop := drop) (fs := gotoFlds n drop) fun _ hf => List.mem_append_left _ hf
  rw [Lane.chGoto_steps hst hs he, hd, Lane.ch_chEntering hl]
  generalize L.chEntering n st drop = M at hdrop hframe ⊢
  have hall := Lane.framed_entryShown (st := st) (cause := ((L.ch n).entering st drop).cause) (List.subset_append_right _ _) hframe
  have hmask (k : Nat) : M.bit Reg.ALLOC_AVAIL_ONLINE k = L.bit Reg.ALLOC_AVAIL_ONLINE k :=
    congrArg (testBit · k) (hdrop.1 Reg.ALLOC_AVAIL_ONLINE (by decide) (avail_apart_drop n drop))
  exact ⟨hall, Lane.showsEntry_of_mask hmask (M.showsEntry_entryShown hn hc),
    (hall.ch_eq n).trans (L.ch_onCh _ hl)⟩

end

/-! ### Ready and not ready (R225) -/

section

variable {L : Lane} {n : Nat}

theorem Lane.channelReady_due (hst : (L.ch n).st = .notReady) (hs : (L.ch n).stepped = false) (hr : 100 ≤ (L.ch n).readyRun) (hm : L.mode ≠ 2) :
    L.channelReady n = (L.chGoto n .online).thrustersEval := if_pos ⟨hst, by rw [hs]; rfl, hr, hm⟩

theorem Lane.channelNotReady_due (hst : (L.ch n).st.delivers = true) (hs : (L.ch n).stepped = false) (hf : L.followDue n = none)
    (hg : L.graceDue n = false) (hb : 10 ≤ (L.ch n).badRun) (hm : L.mode ≠ 2) :
    L.channelNotReady n = (L.chGoto n .notReady).thrustersEval :=
  if_pos ⟨hst, by rw [hs]; rfl, by rw [hf]; rfl, by rw [hg]; rfl, hb, hm⟩

end

/-- Settles O21: the state is entered, and THRUSTERS evaluated after it. -/
theorem channelReadiness : Obligations.ChannelReadiness := by
  unfold Obligations.ChannelReadiness
  intro s l n hn hm hs
  refine ⟨fun hst hr => ?ready, fun hst hb hf hg => ?notReady⟩
  case ready =>
    have hlisted : n < (s.lane l).alc.chans.length := Lane.ch_listed (ne_of_apply_ne ChanSt.st (by rw [hst]; decide))
    obtain ⟨hframe, hentry, hch⟩ := Lane.chGoto_spec (st := .online) (drop := false) hn hlisted (by rw [hst]; decide) (by decide) (by decide)
      (by rw [hst]; rfl) (show 0 < 16 by decide)
    obtain ⟨hshows, hkeep⟩ := Lane.showsState_of_entry hn (gotoFlds_ofChannel n false) (Lane.allocOnly_onAlc _ _) rfl hframe hentry
    exact onLane_of_eq rfl (Lane.channelReady_due hst hs hr hm)
      ⟨congrArg ChanSt.st ((Lane.ch_thrustersEval _ _).trans hch), hshows, hkeep⟩
  case notReady =>
    have hlisted : n < (s.lane l).alc.chans.length := Lane.ch_listed_of_delivers hst
    obtain ⟨hframe, hentry, hch⟩ := Lane.chGoto_spec (st := .notReady) (drop := true) hn hlisted
      (ne_of_apply_ne ChState.delivers (by rw [hst]; decide)) (by decide) (by decide) (by rw [ChState.drops, hst]; rfl) (show 0 < 16 by decide)
    obtain ⟨hshows, hkeep⟩ := Lane.showsState_of_entry hn (gotoFlds_ofChannel n true) (Lane.allocOnly_onAlc _ _) rfl hframe hentry
    have hch' := (Lane.ch_thrustersEval _ _).trans hch
    exact onLane_of_eq rfl (Lane.channelNotReady_due hst hs hf hg hb hm)
      ⟨congrArg ChanSt.st hch', congrArg (fun x => x.loop.y) hch', congrArg ChanSt.thrust hch', hshows, hkeep⟩

/-! ### Faults (R244-R246) -/

section

variable {L M : Lane} {n cause : Nat} {c : ChanChart}

/-- Which following-error timer of a channel in service has reached FE_TIME; the demand's goes first. -/
theorem Lane.followDue_of_timer (hc : L.chCfg n = some c) (hd : (L.ch n).st.delivers = true) (hs : L.chStopped c = false)
    (h : cause = 1 ∧ c.feTime * 1000 ≤ ((L.ch n).loop.feDem : Rat) ∨
      cause = 2 ∧ ((L.ch n).loop.feDem : Rat) < c.feTime * 1000 ∧ c.feTime * 1000 ≤ ((L.ch n).loop.feAng : Rat)) :
    L.followDue n = some cause := by
  unfold Lane.followDue
  rcases h with ⟨rfl, hdem⟩ | ⟨rfl, hdem, hang⟩
  · simp [hc, hd, hs, hdem]
  · simp [hc, hd, hs, not_le.2 hdem, hang]

theorem Lane.followFault_due (h : L.followDue n = some cause) : L.followFault n = L.chFault n cause := by
  unfold Lane.followFault
  rw [h]

theorem Lane.graceDue_of_lost (hc : L.chCfg n = some c) (hd : (L.ch n).st.delivers = true) (hs : L.chStopped c = false)
    (hv : (L.ch n).fbValid = false) (hl : c.fbGrace * 1000 ≤ ((L.ch n).fbLost : Rat)) (hk : c.fbKeep = false) : L.graceDue n = true := by
  unfold Lane.graceDue
  simp [hc, hd, hs, hv, hl, hk]

theorem Lane.fbGraceExpiry_due (h : L.graceDue n = true) : L.fbGraceExpiry n = L.chFault n 3 := if_pos h

/-- A channel's record with a cause. -/
def ChanSt.withCause (x : ChanSt) (cause : Nat) : ChanSt := { x with cause := cause }

/-- A channel in FAULT with its cause, before the fault's own registers. -/
def Lane.faultEntered (L : Lane) (n cause : Nat) : Lane :=
  ((L.onCh n fun x => x.withCause cause).chGoto n .fault).set (Reg.CH_STATE_CAUSE n) cause

/-- A following error's fault and count, with their event. -/
def Lane.followShown (L : Lane) (n : Nat) : Lane := ((L.setb (Reg.CH_FAULT_FOLLOW n) true).incSat (Reg.CH_CNT_FOLLOW n)).find (0x20 + n) 1

theorem Lane.chFault_follow (L : Lane) (n : Nat) (h : cause ≠ 3) : L.chFault n cause = ((L.faultEntered n cause).followShown n).thrustersEval :=
  congrArg Lane.thrustersEval (if_neg h)

theorem Lane.chFault_lost (L : Lane) (n : Nat) : L.chFault n 3 = ((L.faultEntered n 3).setb (Reg.CH_FAULT_FB_LOST n) true).thrustersEval :=
  congrArg Lane.thrustersEval (if_pos rfl)

/-- A channel's record in FAULT. -/
def ChanSt.faulted (x : ChanSt) (cause : Nat) : ChanSt := (x.withCause cause).entering .fault true

/-- The lane with a channel's record in FAULT. -/
def Lane.chFaulted (L : Lane) (n cause : Nat) : Lane :=
  (L.onCh n fun x => x.withCause cause).onCh n fun x => x.entering .fault true

theorem Lane.allocOnly_chFaulted (L : Lane) (n cause : Nat) : L.allocOnly (L.chFaulted n cause) := rfl

/-- The cause of an entry set again. -/
theorem Lane.showsEntry_setCause {st : ChState} (hc : cause < 16) (h : L.showsEntry M n st cause) :
    L.showsEntry (M.set (Reg.CH_STATE_CAUSE n) cause) n st cause := by
  obtain ⟨hstate, -, hstat, hbit, hothers⟩ := h
  have hpage : Reg.ALLOC_AVAIL_ONLINE.addr ≠ (Reg.CH_STATE_CAUSE n).addr := show 0x4420 ≠ 0x8028 + 0x400 * n by omega
  have hpage' : (Reg.CH_STAT_ONLINE n).addr ≠ (Reg.CH_STATE_CAUSE n).addr := show 0x800c + 0x400 * n ≠ 0x8028 + 0x400 * n by omega
  have hmask (k : Nat) : (M.set (Reg.CH_STATE_CAUSE n) cause).bit Reg.ALLOC_AVAIL_ONLINE k = M.bit Reg.ALLOC_AVAIL_ONLINE k :=
    congrArg (testBit · k) (M.get_set_addr _ hpage)
  have hcode : (M.set (Reg.CH_STATE_CAUSE n) cause).get (Reg.CH_STATE_STATE n) = M.get (Reg.CH_STATE_STATE n) :=
    M.get_set_bits _ rfl (show 0 + 4 ≤ 32 by decide) (show 16 + 4 ≤ 32 by decide) (.inl (show 0 + 4 ≤ 16 by decide))
  exact ⟨hcode.trans hstate, M.get_set_fit _ (show 16 + 4 ≤ 32 by decide) hc, (M.get_set_addr _ hpage').trans hstat, (hmask n).trans hbit,
    fun k hk => (hmask k).trans (hothers k hk)⟩

/-- A channel in service enters FAULT: its record changes, and the state is shown with the cause given. -/
theorem Lane.faultEntered_spec (hn : n < 16) (hd : (L.ch n).st.delivers = true) (hc : cause < 16) :
    (L.chFaulted n cause).framed (L.faultEntered n cause) (gotoFlds n true) [(0x20 + n, 0)] ∧
    L.showsEntry (L.faultEntered n cause) n .fault cause ∧ (L.chFaulted n cause).ch n = (L.ch n).faulted cause := by
  have hlisted : n < L.alc.chans.length := Lane.ch_listed_of_delivers hd
  have hlisted' : n < (L.onCh n fun x => x.withCause cause).alc.chans.length := (length_modAt _ _ n).symm ▸ hlisted
  have hch := L.ch_onCh (fun x => x.withCause cause) hlisted
  have hst : ((L.onCh n fun x => x.withCause cause).ch n).st = (L.ch n).st := by rw [hch]; rfl
  obtain ⟨hframe, hentry, -⟩ := Lane.chGoto_spec (st := .fault) (drop := true) hn hlisted'
    (by rw [hst]; exact ne_of_apply_ne ChState.delivers (by rw [hd]; decide)) (by decide) (by decide) (by rw [hst, ChState.drops, hd]; rfl)
    (by rw [hch]; exact hc)
  have hcause : (((L.onCh n fun x => x.withCause cause).ch n).entering .fault true).cause = cause := by rw [hch]; rfl
  rw [hcause] at hentry
  refine ⟨Lane.framed_set _ (by simp [gotoFlds, chStateFlds]) (show 16 + 4 ≤ 32 by decide) hframe, ?_, ?_⟩
  · exact Lane.showsEntry_setCause hc (Lane.showsEntry_of_mask (fun _ => rfl) hentry)
  · exact (Lane.ch_onCh _ _ hlisted').trans (congrArg (fun x : ChanSt => x.entering .fault true) hch)

/-- A fault's own register is not one that shows the state. -/
theorem faultAddr_off_state (n : Nat) :
    (Reg.CH_FAULT_FOLLOW n).addr ∉ (chStateFlds n).map Fld.addr ∧ (Reg.CH_CNT_FOLLOW n).addr ∉ (chStateFlds n).map Fld.addr := by
  have hfault : 0x801c + 0x400 * n ≠ 0x4420 := by omega
  have hcnt : 0x8050 + 0x400 * n ≠ 0x4420 := by omega
  simp [chStateFlds, hfault, hcnt]

/-- The registers of a following error's fault, before those of THRUSTERS. -/
def followFaultFlds (n : Nat) : List Fld := Reg.CH_FAULT_FOLLOW n :: Reg.CH_CNT_FOLLOW n :: gotoFlds n true

/-- The registers of lost feedback's fault, before those of THRUSTERS. -/
def lostFlds (n : Nat) : List Fld := Reg.CH_FAULT_FB_LOST n :: gotoFlds n true

theorem faultFlds_ofChannel (n : Nat) : (∀ f ∈ followFaultFlds n, f.ofChannel n) ∧ ∀ f ∈ lostFlds n, f.ofChannel n := by
  have hfault : (0x801c + 0x400 * n) / 0x400 = 0x20 + n := by omega
  have hcnt : (0x8050 + 0x400 * n) / 0x400 = 0x20 + n := by omega
  have hgoto := gotoFlds_ofChannel n true
  exact ⟨List.forall_mem_cons.2 ⟨.inl hfault, List.forall_mem_cons.2 ⟨.inl hcnt, hgoto⟩⟩, List.forall_mem_cons.2 ⟨.inl hfault, hgoto⟩⟩

theorem Lane.framed_followShown {es : List (Nat × Nat)} (h : L.framed M (gotoFlds n true) es) :
    L.framed (M.followShown n) (followFaultFlds n) (es ++ [(0x20 + n, 1)]) :=
  Lane.framed_find (0x20 + n) 1 (Lane.framed_incSat 1 (by simp [followFaultFlds]) (show 24 + 8 ≤ 32 by decide)
    (Lane.framed_setb true (by simp [followFaultFlds]) (show 0 + 1 ≤ 32 by decide) (Lane.framed_mono (by simp [followFaultFlds]) h)))

theorem Lane.framed_lostShown {es : List (Nat × Nat)} (h : L.framed M (gotoFlds n true) es) :
    L.framed (M.setb (Reg.CH_FAULT_FB_LOST n) true) (lostFlds n) es :=
  Lane.framed_setb true (by simp [lostFlds]) (show 1 + 1 ≤ 32 by decide) (Lane.framed_mono (by simp [lostFlds]) h)

theorem Lane.showsEntry_followShown {st : ChState} (h : L.showsEntry M n st cause) : L.showsEntry (M.followShown n) n st cause :=
  Lane.showsEntry_find _ _ (Lane.showsEntry_set _ (faultAddr_off_state n).2 (Lane.showsEntry_set _ (faultAddr_off_state n).1 h))

/-- A state entered leaves the count of following errors as it is. -/
theorem Lane.followCount_kept {es : List (Nat × Nat)} (h : L.framed M (gotoFlds n true) es) :
    M.get (Reg.CH_CNT_FOLLOW n) = L.get (Reg.CH_CNT_FOLLOW n) := by
  have hne : ∀ f ∈ gotoFlds n true, (Reg.CH_CNT_FOLLOW n).addr ≠ f.addr := by
    have hmask : 0x8050 + 0x400 * n ≠ 0x4420 := by omega
    simp [gotoFlds, dropRegs, chStateFlds, hmask]
  exact h.1 _ (show 24 + 8 ≤ 32 by decide) fun f hf => .inl (hne f hf)

/-- A following error is counted beside its fault. -/
theorem Lane.followShown_reads (M : Lane) (n : Nat) :
    (M.followShown n).get (Reg.CH_FAULT_FOLLOW n) = 1 ∧
    (M.followShown n).get (Reg.CH_CNT_FOLLOW n) = min (M.get (Reg.CH_CNT_FOLLOW n) + 1) 255 := by
  have haddr : (Reg.CH_FAULT_FOLLOW n).addr ≠ (Reg.CH_CNT_FOLLOW n).addr := show 0x801c + 0x400 * n ≠ 0x8050 + 0x400 * n by omega
  have hfault : (M.setb (Reg.CH_FAULT_FOLLOW n) true).get (Reg.CH_FAULT_FOLLOW n) = 1 := M.get_setb _ true (show 0 + 1 ≤ 32 by decide) rfl
  have hcnt : (M.setb (Reg.CH_FAULT_FOLLOW n) true).get (Reg.CH_CNT_FOLLOW n) = M.get (Reg.CH_CNT_FOLLOW n) := M.get_set_addr _ haddr.symm
  have hinc := (M.setb (Reg.CH_FAULT_FOLLOW n) true).get_incSat (Reg.CH_CNT_FOLLOW n) 1 (show 24 + 8 ≤ 32 by decide)
  rw [hcnt] at hinc
  have hkept : ((M.setb (Reg.CH_FAULT_FOLLOW n) true).incSat (Reg.CH_CNT_FOLLOW n)).get (Reg.CH_FAULT_FOLLOW n) = 1 :=
    (Lane.get_set_addr _ _ haddr).trans hfault
  unfold Lane.followShown
  rw [Lane.find_get, Lane.find_get]
  exact ⟨hkept, hinc⟩

end

/-- Settles O22: the channel enters FAULT, the fault's own registers are set, and THRUSTERS is evaluated after them. -/
theorem channelFaults : Obligations.ChannelFaults := by
  unfold Obligations.ChannelFaults
  intro s l n c hn hc hd hs
  refine ⟨fun cause h => ?follow, fun hv hl hk => ?lost⟩
  case follow =>
    have hcause : cause < 16 ∧ cause ≠ 3 := by omega
    obtain ⟨hframe, hentry, hch⟩ := Lane.faultEntered_spec hn hd hcause.1
    have hframe' := Lane.framed_followShown hframe
    obtain ⟨hfault, hcnt⟩ := ((s.lane l).faultEntered n cause).followShown_reads n
    have hcnt' : ((s.lane l).faultEntered n cause).get (Reg.CH_CNT_FOLLOW n) = (s.lane l).get (Reg.CH_CNT_FOLLOW n) :=
      (Lane.followCount_kept hframe).trans rfl
    rw [hcnt'] at hcnt
    obtain ⟨hshows, hkeep⟩ := Lane.showsState_of_entry hn (faultFlds_ofChannel n).1 (Lane.allocOnly_chFaulted _ n cause) rfl hframe'
      (Lane.showsEntry_followShown hentry)
    have hrec := (Lane.ch_thrustersEval _ n).trans ((hframe'.ch_eq n).trans hch)
    refine onLane_of_eq rfl ((Lane.followFault_due (Lane.followDue_of_timer hc hd hs h)).trans (Lane.chFault_follow _ n hcause.2)) ?_
    rw [hrec]
    exact ⟨rfl, rfl, rfl, (Lane.get_thrustersEval _ (show 0 + 1 ≤ 32 by decide) (show 0x440c < 0x801c + 0x400 * n by omega)).trans hfault,
      (Lane.get_thrustersEval _ (show 24 + 8 ≤ 32 by decide) (show 0x440c < 0x8050 + 0x400 * n by omega)).trans hcnt, hshows, hkeep⟩
  case lost =>
    obtain ⟨hframe, hentry, hch⟩ := Lane.faultEntered_spec hn hd (show 3 < 16 by decide)
    have hframe' := Lane.framed_lostShown hframe
    have hfault : (((s.lane l).faultEntered n 3).setb (Reg.CH_FAULT_FB_LOST n) true).get (Reg.CH_FAULT_FB_LOST n) = 1 :=
      Lane.get_setb _ _ true (show 1 + 1 ≤ 32 by decide) rfl
    obtain ⟨hshows, hkeep⟩ := Lane.showsState_of_entry hn (faultFlds_ofChannel n).2 (Lane.allocOnly_chFaulted _ n 3) rfl hframe'
      (Lane.showsEntry_set _ (faultAddr_off_state n).1 hentry)
    have hrec := (Lane.ch_thrustersEval _ n).trans ((hframe'.ch_eq n).trans hch)
    refine onLane_of_eq rfl ((Lane.fbGraceExpiry_due (Lane.graceDue_of_lost hc hd hs hv hl hk)).trans (Lane.chFault_lost _ n)) ?_
    rw [hrec]
    exact ⟨rfl, rfl, rfl, (Lane.get_thrustersEval _ (show 1 + 1 ≤ 32 by decide) (show 0x440c < 0x801c + 0x400 * n by omega)).trans hfault,
      hshows, hkeep⟩

end Sys2Proof.Machine
end

section
/-! The Sextant's record, its channels and its satellites: what each operation on them makes of them, and what it leaves (07 R266-R276). -/

namespace Sys2Proof.Machine

open Sys2Proof

/-! ### Folds -/

/-- What every step of a fold over numbers keeps, the fold keeps. -/
theorem forUpTo_keeps {σ : Type} {P : σ → Prop} {f : Nat → σ → σ} (n : Nat) (hf : ∀ k, k < n → ∀ s, P s → P (f k s)) {s : σ} (h : P s) :
    P (forUpTo n f s) := by
  induction n with
  | zero => exact h
  | succ n ih => exact hf n (Nat.lt_succ_self n) _ (ih fun k hk => hf k (Nat.lt_succ_of_lt hk))

/-- A choice made along a list is of the list, or the one it began with. -/
theorem foldl_choice {α : Type} {f : Option α → α → Option α} (hf : ∀ b c, f b c = b ∨ f b c = some c) {d : α} (l : List α) :
    ∀ b, l.foldl f b = some d → b = some d ∨ d ∈ l := by
  induction l with
  | nil => exact fun _ h => .inl h
  | cons c l ih =>
    intro b h
    rcases ih _ h with h | h
    · rcases hf b c with hb | hc
      · exact .inl (hb.symm.trans h)
      · exact .inr (List.mem_cons.2 (.inl (Option.some.inj (h.symm.trans hc))))
    · exact .inr (List.mem_cons_of_mem c h)

/-- Changes of a list's element that agree on it are one. -/
theorem modAt_congr {α : Type} {f g : α → α} {d : α} (l : List α) : ∀ n, f (l.getD n d) = g (l.getD n d) → modAt l n f = modAt l n g := by
  induction l with
  | nil => exact fun _ _ => rfl
  | cons x l ih =>
    intro n h
    cases n with
    | zero => exact congrArg (· :: l) h
    | succ n => exact congrArg (x :: ·) (ih n h)

theorem modAt_modAt {α : Type} (f g : α → α) (l : List α) : ∀ n, modAt (modAt l n f) n g = modAt l n fun x => g (f x) := by
  induction l with
  | nil => exact fun _ => rfl
  | cons x l ih =>
    intro n
    cases n with
    | zero => rfl
    | succ n => exact congrArg (f := fun r => x :: r) (ih n)

/-! ### The Sextant's record changed beside registers and events -/

/-- Nothing differs but the Sextant's record and the events found. -/
def Lane.sextantEvents (L M : Lane) : Prop := M.regs = L.regs ∧ L.onlyRegs (M.onSx fun _ => L.sx)

/-- Nothing differs but the Sextant's channels and the events found. -/
def Lane.chansOnly (L M : Lane) : Prop := ((M.onSx fun x => { x with chans := L.sx.chans }).onFound fun _ => L.found) = L

section

variable {L M N : Lane} {fs : List Fld} {es : List (Nat × Nat)}

/-- Register writes leave the Sextant's record as it is. -/
theorem Lane.framed.sx_eq (h : L.framed M fs es) : M.sx = L.sx := Lane.read_of_onlyRegs Lane.sx (fun _ _ _ => rfl) h.2.2

/-- Registers and events after a change of the Sextant's record. -/
theorem Lane.framedUpTo_sx {g : SextantSt → SextantSt} (h : (L.onSx g).framed M fs es) :
    L.framedUpTo M fs es fun N => N.onSx fun _ => L.sx := by
  obtain ⟨hk, hf, ho⟩ := h
  exact ⟨hk, hf, congrArg (fun N : Lane => N.onSx fun _ => L.sx) (show { M with regs := L.regs, found := L.found } = L.onSx g from ho)⟩

theorem Lane.sx_setAll (r : List (Fld × Nat)) : ∀ L : Lane, (L.setAll r).sx = L.sx := by
  induction r with
  | nil => exact fun _ => rfl
  | cons p r ih => exact fun L => ih (L.set p.1 p.2)

theorem Lane.chansOnly_refl (L : Lane) : L.chansOnly L := rfl

theorem Lane.chansOnly_onSxc (c : Nat) (f : SxChan → SxChan) (h : L.chansOnly M) : L.chansOnly (M.onSxc c f) := h

theorem Lane.chansOnly_findIf (b : Bool) (p e : Nat) (h : L.chansOnly M) : L.chansOnly (M.findIf b p e) := by cases b <;> exact h

theorem Lane.chansOnly_trans (h : L.chansOnly M) (h' : M.chansOnly N) : L.chansOnly N :=
  (congrArg (fun K : Lane => (K.onSx fun x => { x with chans := L.sx.chans }).onFound fun _ => L.found)
    (show ((N.onSx fun x => { x with chans := M.sx.chans }).onFound fun _ => M.found) = M from h')).trans h

/-- What is read of a lane without its channels and events reads the same. -/
theorem Lane.chansOnly.read {α : Type} (h : L.chansOnly M) (g : Lane → α)
    (hg : ∀ (K : Lane) cs e, g ((K.onSx fun x => { x with chans := cs }).onFound fun _ => e) = g K) : g M = g L :=
  (hg M _ _).symm.trans (congrArg g h)

theorem Lane.sextantEvents_onSx (L : Lane) (g : SextantSt → SextantSt) : L.sextantEvents (L.onSx g) := ⟨rfl, rfl⟩

theorem Lane.sextantEvents_chansOnly (h : L.sextantEvents M) (h' : M.chansOnly N) : L.sextantEvents N := by
  obtain ⟨hr, ho⟩ := h
  have hregs : N.regs = M.regs := h'.read Lane.regs fun _ _ _ => rfl
  have hback : { M with regs := L.regs, found := L.found, sx := L.sx } = L := ho
  have hback' : ((N.onSx fun x => { x with chans := M.sx.chans }).onFound fun _ => M.found) = M := h'
  refine ⟨hregs.trans hr, ?_⟩
  exact (congrArg (fun K : Lane => { K with regs := L.regs, found := L.found, sx := L.sx }) hback').trans hback

end

/-! ### A channel changed -/

section

variable (L : Lane) {c k : Nat} (f g : SxChan → SxChan)

theorem Lane.sxc_onSxc : (L.onSxc c f).sxc k = if k = c ∧ c < L.sx.chans.length then f (L.sxc c) else L.sxc k := getD_modAt _ _ _ _ _

theorem Lane.sxc_onSxc_other (h : k ≠ c) : (L.onSxc c f).sxc k = L.sxc k := (L.sxc_onSxc f).trans (if_neg fun hk => h hk.1)

/-- A channel that is not IDLE is one that the Sextant has. -/
theorem Lane.sxc_listed {L : Lane} (h : (L.sxc c).st ≠ .idle) : c < L.sx.chans.length := by
  by_contra hc
  exact h (congrArg SxChan.st (List.getD_eq_default _ _ (not_lt.1 hc)))

theorem Lane.sxc_onSxc_same (h : (L.sxc c).st ≠ .idle) : (L.onSxc c f).sxc c = f (L.sxc c) :=
  (L.sxc_onSxc f).trans (if_pos ⟨rfl, Lane.sxc_listed h⟩)

theorem Lane.onSxc_congr (h : f (L.sxc c) = g (L.sxc c)) : L.onSxc c f = L.onSxc c g :=
  congrArg (fun cs => L.onSx fun x => { x with chans := cs }) (modAt_congr L.sx.chans c h)

theorem Lane.onSxc_onSxc : (L.onSxc c f).onSxc c g = L.onSxc c fun x => g (f x) :=
  congrArg (fun cs => L.onSx fun x => { x with chans := cs }) (modAt_modAt f g L.sx.chans c)

end

/-- A locked channel is in CODE_LOCK or PHASE_LOCK. -/
theorem SxChan.locked_iff {x : SxChan} : x.locked = true ↔ x.st = .codeLock ∨ x.st = .phaseLock := by simp [SxChan.locked]

theorem SxChan.not_idle_of_locked {x : SxChan} (h : x.locked = true) : x.st ≠ .idle := by
  intro hi
  rcases SxChan.locked_iff.1 h with hl | hl <;> simp [hi] at hl

/-! ### A cycle slip, a channel given up (R276) -/

/-- A channel after a cycle slip. -/
def SxChan.slipped (x : SxChan) : SxChan := { x with slip := true, slips := min 255 (x.slips + 1), smooth := none }

/-- A channel given up: leaving PHASE_LOCK counts a slip. -/
def SxChan.givenUp (x : SxChan) : SxChan := { slips := if x.st = .phaseLock then min 255 (x.slips + 1) else x.slips }

section

variable (L : Lane) (c : Nat)

theorem Lane.cycleSlip_eq : L.cycleSlip c = (L.findIf (L.sxc c).usedAtt (0x31 + antOf c) 2).onSxc c SxChan.slipped := Lane.findIf_onSx _ _ _ _ _

theorem Lane.freeChannel_eq :
    L.freeChannel c = (L.findIf (decide ((L.sxc c).st = .phaseLock) && (L.sxc c).usedAtt) (0x31 + antOf c) 2).onSxc c SxChan.givenUp := by
  unfold Lane.freeChannel
  by_cases h : (L.sxc c).st = .phaseLock
  · have hslip : (L.findIf (L.sxc c).usedAtt (0x31 + antOf c) 2).sxc c = L.sxc c := by rw [Lane.sxc, Lane.findIf_sx]; rfl
    rw [if_pos h, Lane.cycleSlip_eq, Lane.onSxc_onSxc, decide_eq_true h, Bool.true_and]
    exact Lane.onSxc_congr _ _ _ (by rw [hslip, SxChan.givenUp, if_pos h]; rfl)
  · rw [if_neg h, decide_eq_false h]
    exact Lane.onSxc_congr _ _ _ (by rw [SxChan.givenUp, if_neg h]; rfl)

theorem Lane.chansOnly_freeChannel : L.chansOnly (L.freeChannel c) := by
  rw [Lane.freeChannel_eq]
  exact Lane.chansOnly_onSxc _ _ (Lane.chansOnly_findIf _ _ _ L.chansOnly_refl)

theorem Lane.sxc_findIf (b : Bool) (p e : Nat) : (L.findIf b p e).sxc c = L.sxc c := by cases b <;> rfl

theorem Lane.sxc_freeChannel_other {k : Nat} (h : k ≠ c) : (L.freeChannel c).sxc k = L.sxc k := by
  rw [Lane.freeChannel_eq, Lane.sxc_onSxc_other _ _ h, Lane.sxc_findIf]

theorem Lane.length_freeChannel : (L.freeChannel c).sx.chans.length = L.sx.chans.length := by
  rw [Lane.freeChannel_eq]
  exact (length_modAt _ _ _).trans (congrArg (fun x => x.chans.length) (Lane.findIf_sx _ _ _ _))

theorem Lane.sxc_freeChannel_same (h : c < L.sx.chans.length) : (L.freeChannel c).sxc c = (L.sxc c).givenUp := by
  rw [Lane.freeChannel_eq, Lane.sxc_onSxc, Lane.findIf_sx, if_pos ⟨rfl, h⟩, Lane.sxc_findIf]

end

/-! ### The bank's work shown (R300) -/

/-- The fields that show the bank's work. -/
def acqFlds : List Fld :=
  [Reg.SX_ACQ_TRACKED, Reg.SX_ACQ_PAUSED, Reg.SX_STAT_ACQ_PAUSED, Reg.SX_ACQ_PRN, Reg.SX_ACQ_SYS, Reg.SX_ACQ_ANT, Reg.SX_ACQ_AIDED]

/-- The writes name fields of the list, each within its word. -/
theorem acqFlds_fit : ∀ f ∈ acqFlds, f ∈ acqFlds ∧ f.lo + f.w ≤ 32 := by decide

theorem Lane.framed_showAcq (L : Lane) : L.framed L.showAcq acqFlds [] := by
  have hset (M : Lane) (r : List (Fld × Nat)) (hr : ∀ p ∈ r, p.1 ∈ acqFlds) (h : L.framed M acqFlds []) : L.framed (M.setAll r) acqFlds [] :=
    Lane.framed_setAll r (fun p hp => acqFlds_fit p.1 (hr p hp)) h
  unfold Lane.showAcq
  dsimp only
  split
  · exact hset _ _ (by simp [acqFlds]) (hset _ _ (by simp [acqFlds]) (L.framed_refl _))
  · exact hset _ _ (by simp [acqFlds]) (hset _ _ (by simp [acqFlds]) (L.framed_refl _))

section

variable (L : Lane)

theorem Lane.showAcq_sx : L.showAcq.sx = L.sx := L.framed_showAcq.sx_eq
theorem Lane.showAcq_sxc (c : Nat) : L.showAcq.sxc c = L.sxc c := congrArg (fun x => x.chans.getD c {}) L.showAcq_sx
theorem Lane.showAcq_satData (t : Sat) : L.showAcq.satData t = L.satData t :=
  congrArg (fun x => x.sats.find? fun d => decide (d.sat = t)) L.showAcq_sx
theorem Lane.showAcq_found : L.showAcq.found = L.found := L.framed_showAcq.2.1.trans (List.append_nil _)

/-- The bank's next work changes neither the satellite searched last nor the channels. -/
theorem Lane.nextSearch_leaves : L.nextSearch.sx.last = L.sx.last ∧ L.nextSearch.sx.chans = L.sx.chans := by
  unfold Lane.nextSearch
  split <;> simp only [Lane.showAcq_sx, Lane.onSx_sx, and_self]

end

end Sys2Proof.Machine
end

section
/-! Acquisition and tracking (07 R266-R269, R272, R273, R275, R276): the lane after each of the commands. -/

namespace Sys2Proof.Machine

open Sys2Proof

/-! ### A channel for one more signal (R272) -/

section

variable {L : Lane} {k c : Nat} {s : Sat} {lower placed : Bool} {code dop elev : Rat}

/-- The channel taken is one of the antenna: an IDLE one, or one of a lower band. -/
theorem Lane.freeChan_spec {d : Nat} (h : L.freeChan k lower elev = some d) : antOf d = k ∧ ((L.sxc d).st = .idle ∨ (L.sxc d).lower = true) := by
  have hant : ∀ d ∈ (List.range 72).map (72 * k + ·), antOf d = k := fun d hd => by
    obtain ⟨i, hi, rfl⟩ := List.mem_map.1 hd
    have hi := List.mem_range.1 hi
    show (72 * k + i) / 72 = k
    omega
  unfold Lane.freeChan at h
  dsimp only at h
  split at h
  · next c hc =>
    obtain rfl := Option.some.inj h
    exact ⟨hant c (List.mem_of_find?_eq_some hc), .inl (by simpa using List.find?_some hc)⟩
  · have hmem := (foldl_choice (fun b c => by cases b with
      | none => exact .inr rfl
      | some b => dsimp only; split <;> simp) _ _ h).resolve_left (by simp)
    obtain ⟨hd, hp⟩ := List.mem_filter.1 hmem
    exact ⟨hant d hd, .inr (Bool.and_eq_true_iff.1 hp).1⟩

/-- A channel to which a signal is handed for pull-in. -/
def SxChan.given (s : Sat) (lower : Bool) (code dop : Rat) (placed : Bool) (elev : Rat) (x : SxChan) : SxChan :=
  { x with st := .pullIn, sat := some s, lower := lower, loop := { code := code, freq := dop }, placed := placed, elev := elev }

/-- The elevation predicted of a satellite, 0 where none is. -/
def Lane.elevOf (L : Lane) (s : Sat) : Rat := ((L.satData s).bind SatData.elev).getD 0

theorem Lane.handOver_cases (L : Lane) (k : Nat) (s : Sat) (lower : Bool) (code dop : Rat) (placed : Bool) :
    L.handOver k s lower code dop placed = L ∨ ∃ d, L.freeChan k lower (L.elevOf s) = some d ∧
      L.handOver k s lower code dop placed = (L.freeChannel d).onSxc d (SxChan.given s lower code dop placed (L.elevOf s)) := by
  unfold Lane.handOver
  dsimp only
  split
  · exact .inl rfl
  · split
    · next d hd => exact .inr ⟨d, hd, rfl⟩
    · exact .inl rfl

/-- A signal of a satellite that no channel has goes to the channel found for it. -/
theorem Lane.handOver_taken {d : Nat} (hown : ∀ y ∈ L.sx.chans, y.sat ≠ some s) (he : L.xc.enabled s.sys = true) (ht : s.trackable = true)
    (hd : L.freeChan k lower (L.elevOf s) = some d) :
    L.handOver k s lower code dop placed = (L.freeChannel d).onSxc d (SxChan.given s lower code dop placed (L.elevOf s)) := by
  have hd' : L.freeChan k lower (((L.satData s).bind SatData.elev).getD 0) = some d := hd
  unfold Lane.handOver
  dsimp only
  rw [hd']
  refine if_neg fun h => ?_
  rcases h with h | h | h
  · obtain ⟨y, hy, hp⟩ := List.any_eq_true.1 h
    simp [hown y (List.mem_of_mem_drop (List.mem_of_mem_take hy))] at hp
  · simp [he] at h
  · simp [ht] at h

theorem Lane.chansOnly_handOver (L : Lane) (k : Nat) (s : Sat) (lower : Bool) (code dop : Rat) (placed : Bool) :
    L.chansOnly (L.handOver k s lower code dop placed) := by
  rcases L.handOver_cases k s lower code dop placed with h | ⟨d, -, h⟩ <;> rw [h]
  · exact L.chansOnly_refl
  · exact Lane.chansOnly_onSxc _ _ (L.chansOnly_freeChannel d)

/-- A channel at work on an upper band, or on another antenna, stays as it is. -/
theorem Lane.sxc_handOver_kept (hc : (L.sxc c).st ≠ .idle) (hl : antOf c = k → (L.sxc c).lower = false) :
    (L.handOver k s lower code dop placed).sxc c = L.sxc c := by
  rcases L.handOver_cases k s lower code dop placed with h | ⟨d, hd, h⟩ <;> rw [h]
  have hcd : c ≠ d := by
    rintro rfl
    obtain ⟨hant, hidle | hlow⟩ := Lane.freeChan_spec hd
    · exact hc hidle
    · rw [hl hant] at hlow
      cases hlow
  rw [Lane.sxc_onSxc_other _ _ hcd, Lane.sxc_freeChannel_other _ _ hcd]

end

/-! ### A pass of the bank (R266-R268) -/

section

variable {L : Lane} {r : AcqPeak} {s : Sat} {n : Nat} {a : Bool}

theorem Lane.acqPass_off (h : L.sxOn = false ∨ L.bankPaused = true) : L.acqPass r = L :=
  if_pos (by rcases h with h | h <;> simp [h])

/-- The Doppler of a pass's strongest bin. -/
def Lane.peakDoppler (L : Lane) (s : Sat) (n : Nat) (a : Bool) (r : AcqPeak) : Rat :=
  (gridOf s.sys).doppler (if a then Config.predictedDoppler s.sys.code s.prn L.now else 0) ((gridOf s.sys).passes a)
    ((gridOf s.sys).passes a - n) r.dop

/-- The search of a satellite has ended: the bank goes on. -/
def Lane.searchEnded (L : Lane) (s : Sat) : Lane := (L.onSx fun x => { x with last := some s }).nextSearch

theorem Lane.searchEnded_leaves (L : Lane) (s : Sat) : (L.searchEnded s).sx.last = some s ∧ (L.searchEnded s).sx.chans = L.sx.chans :=
  Lane.nextSearch_leaves _

variable (hon : L.sxOn = true) (hp : L.bankPaused = false) (hs : L.sx.search = some (s, n, a))
include hon hp hs

theorem Lane.acqPass_running (h : L.sx.passNs < (gridOf s.sys).passNs) : L.acqPass r = L := by
  unfold Lane.acqPass
  rw [if_neg (by simp [hon, hp]), hs]
  exact if_pos h

/-- A pass that has run its time. -/
theorem Lane.acqPass_run (h : (gridOf s.sys).passNs ≤ L.sx.passNs) :
    L.acqPass r = if (gridOf s.sys).detects r then (L.handOver L.searchAnt s false (r.code / 2) (L.peakDoppler s n a r) false).searchEnded s
      else if n ≤ 1 then L.searchEnded s else (L.onSx fun x => { x with search := some (s, n - 1, a), passNs := 0 }).showAcq := by
  unfold Lane.acqPass
  rw [if_neg (by simp [hon, hp]), hs]
  exact if_neg (not_lt.2 h)

/-- A detection hands the signal to the channel found for it. -/
theorem Lane.acqPass_detected {k : Nat} (hk : L.freeChan L.searchAnt false (L.elevOf s) = some k) (hlen : k < L.sx.chans.length)
    (hidle : (L.sxc k).st = .idle) (hown : ∀ y ∈ L.sx.chans, y.sat ≠ some s) (he : L.xc.enabled s.sys = true) (ht : s.trackable = true)
    (hrun : (gridOf s.sys).passNs ≤ L.sx.passNs) (hdet : (gridOf s.sys).detects r = true) :
    (L.acqPass r).sx.last = some s ∧ (∀ j, j ≠ k → (L.acqPass r).sxc j = L.sxc j) ∧
    (L.acqPass r).sxc k = { st := .pullIn, sat := some s, loop := { code := r.code / 2, freq := L.peakDoppler s n a r }, elev := L.elevOf s,
                            slips := (L.sxc k).slips } := by
  rw [Lane.acqPass_run hon hp hs hrun, if_pos hdet, Lane.handOver_taken hown he ht hk]
  obtain ⟨hlast, hchans⟩ := Lane.searchEnded_leaves
    ((L.freeChannel k).onSxc k (SxChan.given s false (r.code / 2) (L.peakDoppler s n a r) false (L.elevOf s))) s
  refine ⟨hlast, fun j hj => ?_, ?_⟩
  · rw [Lane.sxc, hchans, ← Lane.sxc, Lane.sxc_onSxc_other _ _ hj, Lane.sxc_freeChannel_other _ _ hj]
  · have hlen' : k < (L.freeChannel k).sx.chans.length := by
      rw [Lane.length_freeChannel]
      exact hlen
    rw [Lane.sxc, hchans, ← Lane.sxc, Lane.sxc_onSxc, if_pos ⟨rfl, hlen'⟩, Lane.sxc_freeChannel_same _ _ hlen, SxChan.givenUp, hidle]
    rfl

end

/-! ### Pull-in and code lock (R266, R269, R275) -/

/-- The data of a satellite changed, where there is one. -/
def Lane.onSatOf (L : Lane) (o : Option Sat) (f : SatData → SatData) : Lane :=
  match o with
  | some s => L.onSat s f
  | none => L

section

variable (L : Lane) (o : Option Sat) (f : SatData → SatData)

theorem Lane.sxc_onSatOf (c : Nat) : (L.onSatOf o f).sxc c = L.sxc c := by cases o <;> rfl

theorem Lane.found_onSatOf : (L.onSatOf o f).found = L.found := by cases o <;> rfl

theorem Lane.chans_onSatOf : (L.onSatOf o f).sx.chans = L.sx.chans := by cases o <;> rfl

/-- A satellite's data stand in the Sextant's record. -/
theorem Lane.framedUpTo_onSatOf {L M : Lane} {fs : List Fld} {es : List (Nat × Nat)} (h : L.framedUpTo M fs es fun N => N.onSx fun _ => L.sx) :
    L.framedUpTo (M.onSatOf o f) fs es fun N => N.onSx fun _ => L.sx := by cases o <;> exact h

variable {L f}

/-- What is changed of a satellite's data is seen in them. -/
theorem Lane.any_onSatOf {s : Sat} {p : SatData → Bool} {b : Bool} (hf : ∀ d, (f d).sat = d.sat) (hp : ∀ d, p (f d) = b) :
    ((L.onSatOf (some s) f).satData s).any p = b := by
  show ((L.onSat s f).satData s).any p = b
  rw [L.satData_onSat hf, if_pos rfl]
  exact hp _

end

/-- A channel whose code locks `ofs` chips from where it was set. -/
def SxChan.codeLocked (ofs : Rat) (x : SxChan) : SxChan := { x with st := .codeLock, lockNs := 0, loop := { x.loop with code := x.loop.code + ofs } }

/-- A satellite marked single-band. -/
def SatData.markedSingle (d : SatData) : SatData := { d with singleBand := true, singleNs := 0 }

/-- A satellite whose re-search is over. -/
def SatData.found (d : SatData) : SatData := { d with research := false }

/-- A satellite lost, with its re-search begun. -/
def SatData.lost (d : SatData) : SatData := { d with research := true, researchNs := 0 }

section

variable {L : Lane} {c : Nat}

/-- A pull-in that has run its time fails; on a lower band its satellite is marked. -/
theorem Lane.pullInTimeout_due (hs : (L.sxc c).st = .pullIn) (ht : 1000000000 ≤ (L.sxc c).pullNs) :
    L.pullInTimeout c = (L.onSxc c SxChan.freed).onSatOf (if (L.sxc c).lower then (L.sxc c).sat else none) SatData.markedSingle := by
  unfold Lane.pullInTimeout
  rw [if_pos ⟨hs, ht⟩]
  cases (L.sxc c).sat <;> cases (L.sxc c).lower <;> rfl

theorem Lane.pullInTimeout_early (h : (L.sxc c).st ≠ .pullIn ∨ (L.sxc c).pullNs < 1000000000) : L.pullInTimeout c = L :=
  if_neg fun hd => h.elim (· hd.1) (not_lt.2 hd.2)

variable {ofs : Rat}

theorem Lane.codeLock_due (hs : (L.sxc c).st = .pullIn) (hon : L.sxOn = true) (hofs : (L.sxc c).placed = false ∨ absQ ofs ≤ 3) :
    L.codeLock c ofs = ((L.onSxc c (SxChan.codeLocked ofs)).onSatOf (L.sxc c).sat SatData.found).showAcq := by
  have hsat : ((L.onSxc c (SxChan.codeLocked ofs)).sxc c).sat = (L.sxc c).sat := by
    rw [Lane.sxc_onSxc_same _ _ (by rw [hs]; decide)]
    rfl
  unfold Lane.codeLock
  rw [if_pos ⟨hs, hon, hofs⟩, ← hsat]
  rfl

theorem Lane.codeLock_refused (h : (L.sxc c).st ≠ .pullIn ∨ ((L.sxc c).placed = true ∧ 3 < absQ ofs)) : L.codeLock c ofs = L := by
  refine if_neg fun ⟨hs, _, hofs⟩ => ?_
  rcases h with h | ⟨hp, hlt⟩
  · exact h hs
  · rcases hofs with hofs | hofs
    · rw [hp] at hofs
      cases hofs
    · exact not_lt.2 hofs hlt

end

/-! ### Placements (R269) -/

section

variable {L M : Lane} {c : Nat}

/-- Signals were handed to other channels only: nothing differs but channels and events, and channel `c` is as it was. -/
def Lane.placesBeside (L M : Lane) (c : Nat) : Prop := L.chansOnly M ∧ M.sxc c = L.sxc c

theorem Lane.placesBeside_handOver {k : Nat} {s : Sat} {lower placed : Bool} {code dop : Rat} (hc : (L.sxc c).st ≠ .idle)
    (hl : antOf c = k → (L.sxc c).lower = false) (h : L.placesBeside M c) : L.placesBeside (M.handOver k s lower code dop placed) c := by
  obtain ⟨ho, he⟩ := h
  exact ⟨Lane.chansOnly_trans ho (M.chansOnly_handOver _ _ _ _ _ _), (Lane.sxc_handOver_kept (he ▸ hc) (he ▸ hl)).trans he⟩

theorem Lane.chansOnly_placeLower (k : Nat) (s : Sat) (x : SxChan) : L.chansOnly (L.placeLower k s x) := by
  unfold Lane.placeLower
  dsimp only
  split
  · exact L.chansOnly_refl
  · exact L.chansOnly_handOver _ _ _ _ _ _

/-- A channel in PHASE_LOCK places its satellite on other channels. -/
theorem Lane.placesBeside_placements (hc : (L.sxc c).st ≠ .idle) : L.placesBeside (L.placements c) c := by
  have hself : L.placesBeside L c := ⟨L.chansOnly_refl, rfl⟩
  unfold Lane.placements
  dsimp only
  split
  · next s hs =>
    split
    · exact hself
    · next hlow =>
      have hlow : (L.sxc c).lower = false := by simpa using hlow
      refine forUpTo_keeps (P := fun M => L.placesBeside M c) 3 (fun j _ M hM => ?_) ?_
      · split
        · exact hM
        · next hj => exact Lane.placesBeside_handOver hc (fun h => absurd h.symm hj) hM
      · unfold Lane.placeLower
        dsimp only
        split
        · exact hself
        · exact Lane.placesBeside_handOver hc (fun _ => hlow) hself
  · exact hself

end

/-! ### The lock of a channel (R275, R276) -/

/-- A channel whose phase locks. -/
def SxChan.phaseLocked (x : SxChan) : SxChan :=
  { x with st := .phaseLock, phaseNs := 0, half := decide (x.sat.map Sat.sys = some .gps) && !x.lower }

/-- A channel that loses its phase. -/
def SxChan.phaseLost (x : SxChan) : SxChan :=
  { x with st := .codeLock, phaseNs := 0, half := false, slip := true, slips := min 255 (x.slips + 1), smooth := none }

section

variable {L : Lane} {c ms : Nat} {ind cn0 : Rat}

theorem Lane.lockChange_locks (hs : (L.sxc c).st = .codeLock) (hon : L.sxOn = true) (hi : 8 / 10 ≤ ind) (hm : 200 ≤ ms) :
    L.lockChange c ind ms = (L.onSxc c SxChan.phaseLocked).placements c := if_pos ⟨hs, hon, hi, hm⟩

theorem Lane.lockChange_loses (hs : (L.sxc c).st = .phaseLock) (hi : ind < 6 / 10) (hm : 100 ≤ ms) :
    L.lockChange c ind ms = (L.findIf (L.sxc c).usedAtt (0x31 + antOf c) 2).onSxc c SxChan.phaseLost := by
  unfold Lane.lockChange
  dsimp only
  rw [if_neg (by simp [hs]), if_pos ⟨hs, hi, hm⟩, Lane.cycleSlip_eq, Lane.onSxc_onSxc]
  rfl

theorem Lane.lockChange_stays (h : (L.sxc c).locked = false ∨ ((L.sxc c).st = .codeLock ∧ (ind < 8 / 10 ∨ ms < 200)) ∨
    ((L.sxc c).st = .phaseLock ∧ (6 / 10 ≤ ind ∨ ms < 100))) : L.lockChange c ind ms = L := by
  have hcode : ¬((L.sxc c).st = .codeLock ∧ L.sxOn = true ∧ 8 / 10 ≤ ind ∧ 200 ≤ ms) := by
    rintro ⟨hs, -, hi, hm⟩
    rcases h with h | ⟨-, h | h⟩ | ⟨h, -⟩
    · simp [SxChan.locked, hs] at h
    · exact not_lt.2 hi h
    · omega
    · simp [hs] at h
  have hphase : ¬((L.sxc c).st = .phaseLock ∧ ind < 6 / 10 ∧ 100 ≤ ms) := by
    rintro ⟨hs, hi, hm⟩
    rcases h with h | ⟨h, -⟩ | ⟨-, h | h⟩
    · simp [SxChan.locked, hs] at h
    · simp [hs] at h
    · exact not_lt.2 h hi
    · omega
  unfold Lane.lockChange
  dsimp only
  rw [if_neg hcode, if_neg hphase]

/-- The channel whose phase locks, and what else that leaves. -/
theorem Lane.phaseLock_spec (hs : (L.sxc c).st = .codeLock) :
    ((L.onSxc c SxChan.phaseLocked).placements c).sxc c = (L.sxc c).phaseLocked ∧
    L.sextantEvents ((L.onSxc c SxChan.phaseLocked).placements c) := by
  have hx : (L.onSxc c SxChan.phaseLocked).sxc c = (L.sxc c).phaseLocked := Lane.sxc_onSxc_same _ _ (by rw [hs]; decide)
  obtain ⟨ho, he⟩ := Lane.placesBeside_placements (L := L.onSxc c SxChan.phaseLocked) (c := c) (by rw [hx]; exact TrkState.noConfusion)
  exact ⟨he.trans hx, Lane.sextantEvents_chansOnly (L.sextantEvents_onSx _) ho⟩

/-- A channel that loses the signal is given up; its satellite, tracked nowhere else, is searched anew. -/
theorem Lane.trackingLost_due {s : Sat} (hl : (L.sxc c).locked = true) (hc : cn0 < L.xc.cn0Track) (hm : 2000 ≤ ms) (hs : (L.sxc c).sat = some s) :
    L.trackingLost c cn0 ms =
      ((L.freeChannel c).onSatOf (if (L.freeChannel c).tracked s then none else some s) SatData.lost).showAcq := by
  unfold Lane.trackingLost
  rw [if_pos ⟨hl, hc, hm⟩, hs]
  cases h : (L.freeChannel c).tracked s <;> simp only [h] <;> rfl

theorem Lane.trackingLost_noSat (hl : (L.sxc c).locked = true) (hc : cn0 < L.xc.cn0Track) (hm : 2000 ≤ ms) (hs : (L.sxc c).sat = none) :
    L.trackingLost c cn0 ms = L.freeChannel c := by
  unfold Lane.trackingLost
  rw [if_pos ⟨hl, hc, hm⟩, hs]

theorem Lane.trackingLost_stays (h : (L.sxc c).locked = false ∨ (L.xc.cn0Track : Rat) ≤ cn0 ∨ ms < 2000) : L.trackingLost c cn0 ms = L := by
  refine if_neg fun ⟨hl, hc, hm⟩ => ?_
  rcases h with h | h | h
  · rw [h] at hl
    cases hl
  · exact not_lt.2 h hc
  · omega

theorem Lane.trackingLost_spec (hl : (L.sxc c).locked = true) (hc : cn0 < L.xc.cn0Track) (hm : 2000 ≤ ms) :
    let M := L.trackingLost c cn0 ms
    M.sxc c = (L.sxc c).givenUp ∧
    (∀ s, (L.sxc c).sat = some s → M.tracked s = false → (M.satData s).any SatData.research = true) ∧
    M.found = L.found ++ (if (L.sxc c).st = .phaseLock ∧ (L.sxc c).usedAtt = true then [L.ev (0x31 + antOf c) 2] else []) := by
  intro M
  have hx : (L.freeChannel c).sxc c = (L.sxc c).givenUp := L.sxc_freeChannel_same c (Lane.sxc_listed (SxChan.not_idle_of_locked hl))
  have hfound : (L.freeChannel c).found =
      L.found ++ (if (L.sxc c).st = .phaseLock ∧ (L.sxc c).usedAtt = true then [L.ev (0x31 + antOf c) 2] else []) := by
    rw [Lane.freeChannel_eq]
    refine (Lane.found_findIf _ _ _ _).trans ?_
    simp
  cases hsat : (L.sxc c).sat with
  | none =>
    rw [show M = _ from Lane.trackingLost_noSat hl hc hm hsat]
    exact ⟨hx, fun _ h => by simp at h, hfound⟩
  | some s =>
    rw [show M = _ from Lane.trackingLost_due hl hc hm hsat, Lane.showAcq_sxc, Lane.showAcq_found, Lane.sxc_onSatOf, Lane.found_onSatOf]
    refine ⟨hx, fun t ht hno => ?_, hfound⟩
    obtain rfl := Option.some.inj ht
    have htr : (L.freeChannel c).tracked s = false := by
      rw [← hno]
      unfold Lane.tracked
      rw [Lane.showAcq_sx, Lane.chans_onSatOf]
    rw [Lane.showAcq_satData, htr]
    exact Lane.any_onSatOf (fun _ => rfl) fun _ => rfl

end

/-! ### What a satellite's data remember (R269, R275) -/

/-- A satellite whose lower band is tried again. -/
def SatData.retried (d : SatData) : SatData := { d with singleBand := false }

section

variable {L : Lane} {s : Sat} {d : SatData}

/-- A flag cleared in a satellite's data, and in no other's. -/
theorem Lane.onSat_clears {f : SatData → SatData} {p : SatData → Bool} (hf : ∀ d, (f d).sat = d.sat) (hp : ∀ d, p (f d) = false) :
    ((L.onSat s f).satData s).any p = false ∧ ∀ t, t ≠ s → (L.onSat s f).satData t = L.satData t :=
  ⟨Lane.any_onSatOf hf hp, fun _ ht => (L.satData_onSat hf _ _).trans (if_neg ht)⟩

theorem Lane.lowerRetry_due (hd : L.satData s = some d) (hb : d.singleBand = true) (ht : 60000000000 ≤ d.singleNs) (hon : L.sxOn = true) :
    (L.onSat s SatData.retried).chansOnly (L.lowerRetry s) := by
  unfold Lane.lowerRetry
  rw [if_pos ⟨by rw [hd]; simp [hb, ht], hon⟩]
  refine forUpTo_keeps (P := fun M => (L.onSat s SatData.retried).chansOnly M) 216 (fun c _ M hM => ?_) (Lane.chansOnly_refl _)
  dsimp only
  split
  · exact Lane.chansOnly_trans hM (M.chansOnly_placeLower _ _ _)
  · exact hM

theorem Lane.lowerRetry_early (hd : L.satData s = some d) (h : d.singleBand = false ∨ d.singleNs < 60000000000 ∨ L.sxOn = false) :
    L.lowerRetry s = L := by
  refine if_neg fun ⟨hany, hon⟩ => ?_
  rw [hd] at hany
  obtain ⟨hb, ht⟩ := Bool.and_eq_true_iff.1 hany
  rcases h with h | h | h
  · exact absurd (h.symm.trans hb) (by decide)
  · exact not_lt.2 (of_decide_eq_true ht) h
  · exact absurd (h.symm.trans hon) (by decide)

end

/-! ### A satellite's message (R276, R268) -/

/-- What a message holds of its own satellite. -/
def SatData.heard (m : NavMsg) (d : SatData) : SatData :=
  { d with eph := d.eph || m.eph, healthy := if m.eph then m.healthy else d.healthy, elev := if m.elev.isSome then m.elev else d.elev }

/-- A preamble of GPS resolves the half cycle, with a slip where it stood the wrong way. -/
def Lane.navPreamble (L : Lane) (c : Nat) (m : NavMsg) (s : Sat) : Lane :=
  if m.preamble ∧ s.sys = .gps then
    (if m.wrongHalf ∧ (L.sxc c).half then L.cycleSlip c else L).onSxc c fun x => { x with half := false }
  else L

/-- A satellite's almanac taken in, with the elevation it predicts. -/
def SatData.withAlmanac (e : Rat) (d : SatData) : SatData := { d with almanac := true, elev := some e }

/-- Almanacs taken in. -/
def Lane.navAlmanacs (L : Lane) (l : List (Sat × Rat)) : Lane := l.foldl (fun L a => L.onSat a.1 (SatData.withAlmanac a.2)) L

/-- ALMANAC shown once an almanac is held of every satellite enabled. -/
def Lane.almanacShown (L : Lane) : Lane :=
  let full := allSats.all fun s => !L.xc.enabled s.sys || (L.satData s).any SatData.almanac
  if full then L.setb Reg.SX_STAT_ALMANAC true else L

/-- UTC parameters taken in. -/
def Lane.navUtc (L : Lane) (utc : Option Nat) : Lane :=
  match utc with
  | some u => (L.onChr fun c => { c with utcGnss := some (u + 19) }).utcUpdate
  | none => L

/-- A leap second taken in. -/
def Lane.navLeap (L : Lane) (m : NavMsg) : Lane :=
  match m.utc, m.leap with
  | some u, some q => L.gnssLeap u q.1 q.2
  | _, _ => L

/-- What a message does beyond the Sextant's record. -/
def Lane.navShown (L : Lane) (m : NavMsg) : Lane := (L.almanacShown.navUtc m.utc).navLeap m

section

variable {L : Lane} {c : Nat} {m : NavMsg}

theorem Lane.navMessage_ignored (h : (L.sxc c).locked = false ∨ (L.sxc c).lower = true) : L.navMessage c m = L :=
  if_pos (by rcases h with h | h <;> simp [h])

theorem Lane.navMessage_taken {s : Sat} (hl : (L.sxc c).locked = true) (hu : (L.sxc c).lower = false) (hs : (L.sxc c).sat = some s) :
    L.navMessage c m = ((((L.navPreamble c m s).onSat s (SatData.heard m)).navAlmanacs m.almanacs).onSx fun y =>
      { y with gpsTime := y.gpsTime || m.gpsTime }).navShown m := by
  unfold Lane.navMessage
  dsimp only
  rw [if_neg (by simp [hl, hu]), hs]
  rfl

/-- UTC and a leap second leave the Sextant's record as it is. -/
theorem Lane.utcUpdate_sx (L : Lane) : L.utcUpdate.sx = L.sx := by
  unfold Lane.utcUpdate
  rw [Lane.findIf_sx, Lane.sx_setAll]

theorem Lane.gnssLeap_sx (L : Lane) (ls lsf day : Nat) : (L.gnssLeap ls lsf day).sx = L.sx := by
  have hleap (p : Option LeapPend) : (L.setLeap p).sx = L.sx := by
    unfold Lane.setLeap
    rw [Lane.findIf_sx]
    rfl
  simp only [Lane.gnssLeap, apply_ite Lane.sx, hleap, ite_self]

theorem Lane.navShown_sx (L : Lane) (m : NavMsg) : (L.navShown m).sx = L.sx := by
  have halm : L.almanacShown.sx = L.sx := by
    unfold Lane.almanacShown
    dsimp only
    split <;> rfl
  have hutc : (L.almanacShown.navUtc m.utc).sx = L.almanacShown.sx := by
    cases m.utc
    · rfl
    · exact Lane.utcUpdate_sx _
  have hleap : (L.navShown m).sx = (L.almanacShown.navUtc m.utc).sx := by
    unfold Lane.navShown Lane.navLeap
    split
    · exact Lane.gnssLeap_sx _ _ _ _
    · rfl
  exact hleap.trans (hutc.trans halm)

/-- Without UTC no event is found. -/
theorem Lane.navShown_found (L : Lane) (h : m.utc = none) : (L.navShown m).found = L.found := by
  unfold Lane.navShown Lane.navLeap Lane.navUtc Lane.almanacShown
  rw [h]
  dsimp only
  split <;> rfl

theorem Lane.navPreamble_sats (L : Lane) (s : Sat) : (L.navPreamble c m s).satData = L.satData ∧ (L.navPreamble c m s).sx.gpsTime = L.sx.gpsTime := by
  have hchans : L.chansOnly (L.navPreamble c m s) := by
    unfold Lane.navPreamble
    rw [Lane.cycleSlip_eq]
    split_ifs
    · exact Lane.chansOnly_onSxc _ _ (Lane.chansOnly_onSxc _ _ (Lane.chansOnly_findIf _ _ _ L.chansOnly_refl))
    · exact Lane.chansOnly_onSxc _ _ L.chansOnly_refl
    · exact L.chansOnly_refl
  exact ⟨hchans.read Lane.satData fun _ _ _ => rfl, hchans.read (fun K => K.sx.gpsTime) fun _ _ _ => rfl⟩

/-- A preamble that stands the right way finds nothing. -/
theorem Lane.navPreamble_found (L : Lane) (s : Sat) (h : m.wrongHalf = false) : (L.navPreamble c m s).found = L.found := by
  unfold Lane.navPreamble
  simp only [h, Bool.false_eq_true, false_and, if_false]
  split_ifs <;> rfl

theorem Lane.navPreamble_half {s : Sat} (hl : (L.sxc c).locked = true) (hp : m.preamble = true) (hs : s.sys = .gps) :
    ((L.navPreamble c m s).sxc c).half = false := by
  have hne := SxChan.not_idle_of_locked hl
  unfold Lane.navPreamble
  rw [if_pos ⟨hp, hs⟩, Lane.cycleSlip_eq]
  split_ifs
  · have hslip : ((L.findIf (L.sxc c).usedAtt (0x31 + antOf c) 2).onSxc c SxChan.slipped).sxc c = (L.sxc c).slipped := by
      rw [Lane.sxc_onSxc_same _ _ (by rwa [Lane.sxc_findIf]), Lane.sxc_findIf]
    rw [Lane.sxc_onSxc_same _ _ (by rw [hslip]; exact hne)]
  · rw [Lane.sxc_onSxc_same _ _ hne]

/-- Almanacs change the satellites' data alone. -/
theorem Lane.navAlmanacs_leaves (l : List (Sat × Rat)) : ∀ L : Lane, (L.navAlmanacs l).sx.chans = L.sx.chans ∧
    (L.navAlmanacs l).sx.gpsTime = L.sx.gpsTime ∧ (L.navAlmanacs l).found = L.found := by
  induction l with
  | nil => exact fun _ => ⟨rfl, rfl, rfl⟩
  | cons a l ih => exact fun L => ih (L.onSat a.1 _)

/-- What almanacs do not tell of a satellite is held as before. -/
theorem Lane.any_navAlmanacs {p : SatData → Bool} (hp : ∀ d e, p (SatData.withAlmanac e d) = p d) (hp0 : ∀ s, p { sat := s } = false)
    (t : Sat) (l : List (Sat × Rat)) : ∀ L : Lane, ((L.navAlmanacs l).satData t).any p = (L.satData t).any p := by
  induction l with
  | nil => exact fun _ => rfl
  | cons a l ih =>
    intro L
    refine (ih (L.onSat a.1 (SatData.withAlmanac a.2))).trans ?_
    rw [Lane.satData_onSat (f := SatData.withAlmanac a.2) fun _ => rfl]
    split
    · next h =>
      subst h
      cases L.satData a.1 <;> simp [hp, hp0]
    · rfl

/-- An almanac is held of every satellite of which it was held or came. -/
theorem Lane.almanac_navAlmanacs (t : Sat) (l : List (Sat × Rat)) : ∀ L : Lane,
    ((L.navAlmanacs l).satData t).any SatData.almanac = ((L.satData t).any SatData.almanac || l.any fun a => decide (a.1 = t)) := by
  induction l with
  | nil => exact fun _ => (Bool.or_false _).symm
  | cons a l ih =>
    intro L
    refine (ih (L.onSat a.1 (SatData.withAlmanac a.2))).trans ?_
    rw [Lane.satData_onSat (f := SatData.withAlmanac a.2) fun _ => rfl]
    by_cases h : t = a.1
    · simp [h, SatData.withAlmanac]
    · simp [h, Ne.symm h]

theorem Lane.navMessage_spec {s : Sat} (hl : (L.sxc c).locked = true) (hu : (L.sxc c).lower = false) (hs : (L.sxc c).sat = some s) :
    let M := L.navMessage c m
    (M.satData s).any SatData.eph = ((L.satData s).any SatData.eph || m.eph) ∧ M.sx.gpsTime = (L.sx.gpsTime || m.gpsTime) ∧
    (m.eph = true → (M.satData s).any SatData.healthy = m.healthy) ∧ (m.preamble = true → s.sys = .gps → (M.sxc c).half = false) ∧
    (∀ a ∈ m.almanacs, (M.satData a.1).any SatData.almanac = true) ∧ (m.wrongHalf = false → m.utc = none → M.found = L.found) := by
  intro M
  let P := L.navPreamble c m s
  let Q := (P.onSat s (SatData.heard m)).navAlmanacs m.almanacs
  obtain ⟨hsats, htime⟩ := L.navPreamble_sats (c := c) (m := m) s
  obtain ⟨hchans, hgps, hfound⟩ := Lane.navAlmanacs_leaves m.almanacs (P.onSat s (SatData.heard m))
  have hM : M = (Q.onSx fun y => { y with gpsTime := y.gpsTime || m.gpsTime }).navShown m := Lane.navMessage_taken hl hu hs
  have hsx : M.sx = { Q.sx with gpsTime := Q.sx.gpsTime || m.gpsTime } := by rw [hM, Lane.navShown_sx]; rfl
  have hdata (t : Sat) : M.satData t = Q.satData t := by
    unfold Lane.satData
    rw [hsx]
  have hown : (P.onSat s (SatData.heard m)).satData s = some (SatData.heard m ((L.satData s).getD { sat := s })) := by
    rw [Lane.satData_onSat (f := SatData.heard m) fun _ => rfl, if_pos rfl, hsats]
  refine ⟨?_, ?_, fun he => ?_, fun hp hg => ?_, fun a ha => ?_, fun hw hno => ?_⟩
  · rw [hdata, Lane.any_navAlmanacs (p := SatData.eph) (fun _ _ => rfl) (fun _ => rfl), hown]
    cases L.satData s <;> rfl
  · rw [hsx]
    exact congrArg (· || m.gpsTime) (hgps.trans htime)
  · rw [hdata, Lane.any_navAlmanacs (p := SatData.healthy) (fun _ _ => rfl) (fun _ => rfl), hown]
    exact if_pos he
  · have hx : M.sxc c = P.sxc c := by
      unfold Lane.sxc
      rw [hsx]
      exact congrArg (·.getD c {}) hchans
    rw [hx]
    exact Lane.navPreamble_half hl hp hg
  · rw [hdata, Lane.almanac_navAlmanacs, Bool.or_eq_true, List.any_eq_true]
    exact .inr ⟨a, ha, decide_eq_true rfl⟩
  · rw [hM, Lane.navShown_found _ hno]
    exact hfound.trans (L.navPreamble_found s hw)

end

/-! ### A side peak (R273) -/

section

variable {s : State} {l : LaneId} {c : Nat} {ups : List Taps}

/-- Twenty updates on a side peak move the code half a chip. -/
theorem exec_sidePeak_due {u : Taps} {st : Sat} (hl : ((s.lane l).sxc c).locked = true) (hu : ((s.lane l).sxc c).lower = false)
    (hs : ((s.lane l).sxc c).sat = some st) (hg : st.sys ≠ .gps) (hlen : ups.length = 20) (hall : ups.all Taps.sidePeak = true)
    (hlast : ups.getLast? = some u) :
    exec (.sidePeakCorrection l c ups) s = .next (s.setLane l ((s.lane l).onSxc c (SxChan.halfChip u))) := by
  show execSidePeakCorrection l c ups s = _
  unfold execSidePeakCorrection onLane State.upd
  dsimp only
  rw [hlast]
  exact congrArg (fun M => Host.Outcome.next (s.setLane l M)) (if_pos ⟨hl, by simp [hu], by simp [hs, hg], hlen, hall⟩)

theorem idle_sidePeak (h : ((s.lane l).sxc c).locked = false ∨ ((s.lane l).sxc c).lower = true ∨ ups.length ≠ 20 ∨ ups.all Taps.sidePeak = false) :
    Idle (.sidePeakCorrection l c ups) s := by
  refine idle_of_exec rfl ?_
  dsimp only
  split
  · refine if_neg fun ⟨hl, hu, _, hlen, hall⟩ => ?_
    rcases h with h | h | h | h
    · exact absurd (h.symm.trans hl) (by decide)
    · simp [h] at hu
    · exact h hlen
    · exact absurd (h.symm.trans hall) (by decide)
  · rfl

end

/-- Settles O29: each command's effect on the lane is named, and the channel, the satellite's data and the frame are read off it. -/
theorem sextantTracking : Obligations.SextantTracking := by
  unfold Obligations.SextantTracking
  intro s l c
  dsimp only
  refine ⟨fun r h => ?off, fun st n a r hon hp hs => ⟨fun h => ?running, fun ht hno h1 => ?nextPass, fun ht hno h1 => ?ended,
      fun k hk hlen hidle hown he htr ht hdet => ?detected⟩,
    fun hs ht => ?pullInEnds, fun h => ?pullIn, fun ofs hs hon hofs => ?codeLocks, fun ofs h => ?codeKeeps,
    fun ind ms hs hon hi hm => ?phaseLocks, fun ind ms hs hi hm => ?phaseLost, fun ind ms h => ?lockKeeps,
    fun cn0 ms hl hc hm => ?signalLost, fun cn0 ms h => ?signalKeeps,
    fun st d hd => ⟨fun hr ht => ?expires, fun h => ?researched, fun hb ht hon => ?retried, fun h => ?marked⟩,
    fun st ups u hl hu hs hg hlen hall hlast => ?sidePeak, fun ups h => idle_sidePeak h, fun st m hl hu hs => ?message, fun m h => ?noMessage⟩
  case off => exact idle_of_exec rfl (Lane.acqPass_off h)
  case running => exact idle_of_exec rfl (Lane.acqPass_running hon hp hs h)
  case nextPass =>
    refine onLane_of_eq rfl ((Lane.acqPass_run hon hp hs ht).trans ((if_neg (by simp [hno])).trans (if_neg (by omega)))) ?_
    exact Lane.showAcq_sx _
  case ended =>
    exact onLane_of_eq rfl ((Lane.acqPass_run hon hp hs ht).trans ((if_neg (by simp [hno])).trans (if_pos h1))) (Lane.searchEnded_leaves _ _)
  case detected => exact onLane_of_exec rfl (Lane.acqPass_detected hon hp hs hk hlen hidle hown he htr ht hdet)
  case pullInEnds =>
    refine onLane_of_eq rfl (Lane.pullInTimeout_due hs ht) ⟨?_, fun st hst hlow => ?_, fun hup => ?_, ?_⟩
    · exact (Lane.sxc_onSatOf _ _ _ _).trans (Lane.sxc_onSxc_same _ _ (by rw [hs]; decide))
    · rw [hlow, if_pos rfl, hst]
      exact Lane.any_onSatOf (fun _ => rfl) fun _ => rfl
    · rw [hup]
      rfl
    · exact Lane.framedUpTo_onSatOf _ _ (Lane.framedUpTo_onSx _ (Lane.framed_refl _ _))
  case pullIn => exact idle_of_exec rfl (Lane.pullInTimeout_early h)
  case codeLocks =>
    refine onLane_of_eq rfl (Lane.codeLock_due hs hon hofs) ⟨?_, fun st hst => ?_, ?_⟩
    · rw [Lane.showAcq_sxc, Lane.sxc_onSatOf]
      exact Lane.sxc_onSxc_same _ _ (by rw [hs]; decide)
    · rw [Lane.showAcq_satData, hst]
      exact Lane.any_onSatOf (fun _ => rfl) fun _ => rfl
    · rw [Lane.showAcq_found, Lane.found_onSatOf]
      rfl
  case codeKeeps => exact idle_of_exec rfl (Lane.codeLock_refused h)
  case phaseLocks =>
    obtain ⟨hx, hout⟩ := Lane.phaseLock_spec hs
    refine onLane_of_eq rfl (Lane.lockChange_locks hs hon hi hm) ⟨?_, ?_, ?_, hout⟩ <;> rw [hx]
    · rfl
    · rfl
    · simp [SxChan.phaseLocked]
  case phaseLost =>
    refine onLane_of_eq rfl (Lane.lockChange_loses hs hi hm) ⟨?_, ?_⟩
    · rw [Lane.sxc_onSxc_same _ _ (by rw [Lane.sxc_findIf, hs]; decide), Lane.sxc_findIf]
      rfl
    · exact Lane.framedUpTo_onSx _ (Lane.framed_findIf _ _ _ (Lane.framed_refl _ _))
  case lockKeeps => exact idle_of_exec rfl (Lane.lockChange_stays h)
  case signalLost => exact onLane_of_exec rfl (Lane.trackingLost_spec hl (Nat.cast_lt.2 hc) hm)
  case signalKeeps => exact idle_of_exec rfl (Lane.trackingLost_stays (h.imp_right (Or.imp_left Nat.cast_le.2)))
  case expires =>
    obtain ⟨hown, hother⟩ := Lane.onSat_clears (L := s.lane l) (s := st) (f := SatData.found) (p := SatData.research) (fun _ => rfl) fun _ => rfl
    refine onLane_of_eq rfl (if_pos ?_) ⟨hown, hother, Lane.framedUpTo_onSx _ (Lane.framed_refl _ _)⟩
    rw [hd]
    simp [hr, ht]
  case researched =>
    refine idle_of_exec rfl (if_neg ?_)
    rw [hd]
    rcases h with h | h <;> simp [h]
  case retried =>
    obtain ⟨hown, hother⟩ := Lane.onSat_clears (L := s.lane l) (s := st) (f := SatData.retried) (p := SatData.singleBand) (fun _ => rfl) fun _ => rfl
    have hchans := Lane.lowerRetry_due hd hb ht hon
    have hdata : ((s.lane l).lowerRetry st).satData = _ := hchans.read Lane.satData fun _ _ _ => rfl
    refine onLane_of_exec rfl ⟨?_, fun t htst => ?_, Lane.sextantEvents_chansOnly (Lane.sextantEvents_onSx _ _) hchans⟩
    · rw [hdata]
      exact hown
    · rw [hdata]
      exact hother t htst
  case marked => exact idle_of_exec rfl (Lane.lowerRetry_early hd h)
  case sidePeak =>
    exact ⟨_, exec_sidePeak_due hl hu hs hg hlen hall hlast, Lane.sxc_onSxc_same _ _ (SxChan.not_idle_of_locked hl),
      fun j hj => Lane.sxc_onSxc_other _ _ hj, Lane.framedUpTo_onSx _ (Lane.framed_refl _ _)⟩
  case message => exact onLane_of_exec rfl (Lane.navMessage_spec hl hu hs)
  case noMessage => exact idle_of_exec rfl (Lane.navMessage_ignored h)

end Sys2Proof.Machine
end

section
/-! Epochs (07 R277-R281, R288, R290, R291, R300): the lane after a strobe, a skip, a solution, and a change of the attitude's state. -/

namespace Sys2Proof.Machine

open Sys2Proof

/-! ### Lists mapped with their indices -/

section

variable {α β : Type} {f : Nat → α → β}

theorem getElem?_mapIdxFrom (f : Nat → α → β) (l : List α) : ∀ n k : Nat, (mapIdxFrom n f l)[k]? = l[k]?.map (f (n + k)) := by
  induction l with
  | nil => exact fun _ _ => rfl
  | cons x l ih =>
    intro n k
    cases k with
    | zero => rfl
    | succ k => exact (ih (n + 1) k).trans (by rw [Nat.add_right_comm]; rfl)

/-- What the map keeps of every element is read as before. -/
theorem getD_mapIdxFrom_keeps {γ : Type} {f : Nat → α → α} {p : α → γ} (hp : ∀ i x, p (f i x) = p x) (n k : Nat) (l : List α) (d : α) :
    p ((mapIdxFrom n f l).getD k d) = p (l.getD k d) := by
  rw [List.getD_eq_getElem?_getD, List.getD_eq_getElem?_getD, getElem?_mapIdxFrom]
  cases l[k]?
  · rfl
  · exact hp _ _

theorem getD_mapIdxFrom {l : List α} {k : Nat} (h : k < l.length) (f : Nat → α → α) (d : α) : (mapIdxFrom 0 f l).getD k d = f k (l.getD k d) := by
  rw [List.getD_eq_getElem?_getD, List.getD_eq_getElem?_getD, getElem?_mapIdxFrom, List.getElem?_eq_getElem h, Nat.zero_add]
  rfl

/-- A map that keeps every element of a list keeps the list. -/
theorem mapIdxFrom_id {f : Nat → α → α} (l : List α) : ∀ n, (∀ i, ∀ x ∈ l, f i x = x) → mapIdxFrom n f l = l := by
  induction l with
  | nil => exact fun _ _ => rfl
  | cons x l ih =>
    intro n h
    obtain ⟨hx, hl⟩ := forall_and.1 fun i => List.forall_mem_cons.1 (h i)
    exact congrArg₂ List.cons (hx n) (ih (n + 1) hl)

end

/-! ### An epoch that gives no samples (R280) -/

section

variable {L : Lane}

theorem Lane.framed_epochLost (L : Lane) : L.framed L.epochLost [Reg.SX_CNT_SKIPPED] [(0x30, 4)] :=
  Lane.framed_find 0x30 4 (Lane.framed_incSat 1 (List.mem_singleton_self _) (by decide) (L.framed_refl _))

theorem Lane.epochLost_count (L : Lane) : L.epochLost.get Reg.SX_CNT_SKIPPED = min (L.get Reg.SX_CNT_SKIPPED + 1) 255 :=
  L.get_incSat Reg.SX_CNT_SKIPPED 1 (by decide)

theorem Lane.epochSkipped_withheld (h : L.sx.withheld = true) : L.epochSkipped = L.epochLost.onSx fun x => { x with withheld := false } := by
  unfold Lane.epochSkipped
  rw [if_pos h]
  rfl

theorem Lane.epochSkipped_open (hw : L.sx.withheld = false) (h : L.sx.open_ = true ∧ L.sx.strobeDue = true) :
    L.epochSkipped = L.epochLost.onSx fun x => { x with open_ := false } := by
  unfold Lane.epochSkipped
  rw [if_neg (by simp [hw]), if_pos h]
  rfl

theorem Lane.epochSkipped_none (hw : L.sx.withheld = false) (h : L.sx.open_ = false ∨ L.sx.strobeDue = false) : L.epochSkipped = L := by
  unfold Lane.epochSkipped
  rw [if_neg (by simp [hw]), if_neg (by rcases h with h | h <;> simp [h])]

/-- A skip counted, with the Sextant's record changed. -/
theorem Lane.epochLost_spec (L : Lane) (g : SextantSt → SextantSt) :
    (L.epochLost.onSx g).get Reg.SX_CNT_SKIPPED = min (L.get Reg.SX_CNT_SKIPPED + 1) 255 ∧
    L.framedUpTo (L.epochLost.onSx g) [Reg.SX_CNT_SKIPPED] [(0x30, 4)] fun N => N.onSx fun _ => L.sx :=
  ⟨L.epochLost_count, Lane.framedUpTo_onSx g L.framed_epochLost⟩

end

/-! ### The state of the attitude (R290, R291) -/

/-- The Sextant with its attitude in state `st`, without integers. -/
def SextantSt.attAt (st : Nat) (x : SextantSt) : SextantSt :=
  { x with att := st, run12 := 0, run13 := 0, ints12 := [], ints13 := [], bad12 := 0, bad13 := 0, ref := none }

/-- The fields that a change of the attitude's state writes. -/
def attFlds : List Fld := [Reg.SX_STAT_ATT, Reg.SX_CNT_REFIX, Reg.SX_ATT_SIG_HDG, Reg.SX_ATT_SIG_RP]

/-- FIXED left: an event, the sigmas without a value; a return to FLOAT is counted. -/
def Lane.fixLeft (L : Lane) (st : Nat) : Lane :=
  (((if st = 1 then L.incSat Reg.SX_CNT_REFIX else L).find 0x30 3).set Reg.SX_ATT_SIG_HDG 0xFFFF).set Reg.SX_ATT_SIG_RP 0xFFFF

section

variable (L : Lane) {st : Nat}

theorem Lane.attTo_eq : L.attTo st =
    if L.sx.att = 2 then ((L.onSx (SextantSt.attAt st)).set Reg.SX_STAT_ATT st).fixLeft st
    else (L.onSx (SextantSt.attAt st)).set Reg.SX_STAT_ATT st := rfl

theorem Lane.framed_fixLeft {M : Lane} {fs : List Fld} {es : List (Nat × Nat)} (hfs : attFlds ⊆ fs) (h : L.framed M fs es) :
    L.framed (M.fixLeft st) fs (es ++ [(0x30, 3)]) := by
  simp only [attFlds, List.cons_subset] at hfs
  obtain ⟨-, hcount, hhdg, hrp, -⟩ := hfs
  refine Lane.framed_set (f := Reg.SX_ATT_SIG_RP) _ hrp (by decide) (Lane.framed_set (f := Reg.SX_ATT_SIG_HDG) _ hhdg (by decide)
    (Lane.framed_find 0x30 3 ?_))
  split
  · exact Lane.framed_incSat 1 hcount (by decide) h
  · exact h

theorem Lane.framed_attTo : (L.onSx (SextantSt.attAt st)).framed (L.attTo st) attFlds (if L.sx.att = 2 then [(0x30, 3)] else []) := by
  have hset : (L.onSx (SextantSt.attAt st)).framed ((L.onSx (SextantSt.attAt st)).set Reg.SX_STAT_ATT st) attFlds [] :=
    Lane.framed_set _ (by decide) (by decide) (Lane.framed_refl _ _)
  rw [Lane.attTo_eq]
  split
  · exact Lane.framed_fixLeft _ (List.Subset.refl _) hset
  · exact hset

theorem Lane.attTo_sx : (L.attTo st).sx = L.sx.attAt st := L.framed_attTo.sx_eq

/-- The state is shown. -/
theorem Lane.attTo_shown (h : st < 4) : (L.attTo st).get Reg.SX_STAT_ATT = st := by
  have hset : ((L.onSx (SextantSt.attAt st)).set Reg.SX_STAT_ATT st).get Reg.SX_STAT_ATT = st := Lane.get_set_fit _ _ (by decide) h
  rw [Lane.attTo_eq]
  split
  · unfold Lane.fixLeft
    rw [Lane.get_set_addr _ _ (by decide), Lane.get_set_addr _ _ (by decide), Lane.find_get]
    split
    · exact (Lane.get_set_addr _ _ (by decide)).trans hset
    · exact hset
  · exact hset

end

theorem Lane.attFall_eq {L : Lane} (h : L.sx.att ≠ 0) : L.attFall = L.attTo 1 := by rw [Lane.attFall, if_neg h]

theorem Lane.fixLeft_shown (L : Lane) : (L.fixLeft 1).get Reg.SX_CNT_REFIX = min (L.get Reg.SX_CNT_REFIX + 1) 255 ∧
    (L.fixLeft 1).get Reg.SX_ATT_SIG_HDG = 0xFFFF ∧ (L.fixLeft 1).get Reg.SX_ATT_SIG_RP = 0xFFFF := by
  unfold Lane.fixLeft
  rw [if_pos rfl]
  refine ⟨?_, ?_, Lane.get_set_fit _ _ (by decide) (by decide)⟩
  · rw [Lane.get_set_addr _ _ (by decide), Lane.get_set_addr _ _ (by decide), Lane.find_get]
    exact Lane.get_incSat _ _ 1 (by decide)
  · rw [Lane.get_set_apart _ _ (by decide) (by decide) (by decide)]
    exact Lane.get_set_fit _ _ (by decide) (by decide)

/-- A baseline out of tolerance: the lane with attitude fallen from FIXED to FLOAT, and the fault shown. -/
def Lane.baselineFaulted (L : Lane) : Lane := ((L.attTo 1).setb Reg.SX_FAULT_BASELINE true).find 0x30 6

/-- A field of another register than the fault's reads as attitude's fall leaves it. -/
theorem Lane.baselineFaulted_get (L : Lane) {f : Fld} (hf : f.addr ≠ 0xc01c) : L.baselineFaulted.get f = (L.attTo 1).get f := by
  rw [Lane.baselineFaulted, Lane.find_get, Lane.setb, Lane.get_set_addr _ _ hf]

theorem Lane.baselineFaulted_sx (L : Lane) : L.baselineFaulted.sx = L.sx.attAt 1 := L.attTo_sx

/-- FLOAT and the fault are shown. -/
theorem Lane.baselineFaulted_shown (L : Lane) : L.baselineFaulted.get Reg.SX_STAT_ATT = 1 ∧ L.baselineFaulted.get Reg.SX_FAULT_BASELINE = 1 := by
  refine ⟨(L.baselineFaulted_get (by decide)).trans (L.attTo_shown (by decide)), ?_⟩
  rw [Lane.baselineFaulted, Lane.find_get]
  exact Lane.get_setb _ _ true (by decide) rfl

section

variable {L : Lane} (h : L.sx.att = 2)
include h

theorem Lane.baselineFaulted_left :
    L.baselineFaulted.get Reg.SX_CNT_REFIX = min (L.get Reg.SX_CNT_REFIX + 1) 255 ∧
    L.baselineFaulted.get Reg.SX_ATT_SIG_HDG = 0xFFFF ∧ L.baselineFaulted.get Reg.SX_ATT_SIG_RP = 0xFFFF := by
  have hleft : L.attTo 1 = ((L.onSx (SextantSt.attAt 1)).set Reg.SX_STAT_ATT 1).fixLeft 1 := if_pos h
  obtain ⟨hcount, hhdg, hrp⟩ := Lane.fixLeft_shown ((L.onSx (SextantSt.attAt 1)).set Reg.SX_STAT_ATT 1)
  rw [Lane.baselineFaulted_get _ (by decide), Lane.baselineFaulted_get _ (by decide), Lane.baselineFaulted_get _ (by decide), hleft]
  refine ⟨hcount.trans ?_, hhdg, hrp⟩
  rw [Lane.get_set_addr _ _ (by decide), Lane.onSx_get]

theorem Lane.framedUpTo_baselineFaulted :
    L.framedUpTo L.baselineFaulted [Reg.SX_STAT_ATT, Reg.SX_FAULT_BASELINE, Reg.SX_CNT_REFIX, Reg.SX_ATT_SIG_HDG, Reg.SX_ATT_SIG_RP]
      [(0x30, 3), (0x30, 6)] fun N => N.onSx fun _ => L.sx := by
  have hframe := L.framed_attTo (st := 1)
  rw [if_pos h] at hframe
  exact Lane.framedUpTo_sx (Lane.framed_find 0x30 6 (Lane.framed_setb true (by decide) (by decide) (Lane.framed_mono (by decide) hframe)))

end

/-! ### Every channel dropped (R281, R300) -/

/-- The Sextant with every channel given up and no work in progress. -/
def SextantSt.dropped (x : SextantSt) : SextantSt :=
  { x with chans := x.chans.map SxChan.givenUp, search := none, open_ := false, caps := [], strobeDue := false }

/-- Attitude, count, event and acquisition after a drop. -/
def Lane.dropShown (L : Lane) : Lane := (((L.attTo 0).incSat Reg.SX_CNT_RESTARTS).find 0x30 5).showAcq

theorem Lane.dropShown_spec (L : Lane) :
    L.dropShown.sx = L.sx.attAt 0 ∧ L.dropShown.get Reg.SX_STAT_ATT = 0 ∧
    L.dropShown.get Reg.SX_CNT_RESTARTS = min (L.get Reg.SX_CNT_RESTARTS + 1) 255 ∧ L.ev 0x30 5 ∈ L.dropShown.found := by
  have hatt := L.framed_attTo (st := 0)
  have hnow : (L.attTo 0).now = L.now := (Lane.now_of_onlyRegs hatt.2.2).trans rfl
  have hshow := (((L.attTo 0).incSat Reg.SX_CNT_RESTARTS).find 0x30 5).framed_showAcq
  refine ⟨(Lane.showAcq_sx _).trans L.attTo_sx, ?_, ?_, ?_⟩
  · rw [Lane.dropShown, hshow.1.get_eq (by decide), Lane.find_get, Lane.get_incSat_addr _ (by decide)]
    exact L.attTo_shown (by decide)
  · rw [Lane.dropShown, hshow.1.get_eq (by decide), Lane.find_get, Lane.get_incSat _ _ 1 (by decide), hatt.1.get_eq (by decide)]
    rfl
  · rw [Lane.dropShown, Lane.showAcq_found, Lane.find_found]
    exact List.mem_append_right _ (List.mem_singleton.2 (by rw [Lane.ev, ← hnow]; rfl))

theorem Lane.sxDrop_spec (L : Lane) :
    L.sxDrop.sx = L.sx.dropped.attAt 0 ∧ L.sxDrop.get Reg.SX_STAT_ATT = 0 ∧
    L.sxDrop.get Reg.SX_CNT_RESTARTS = min (L.get Reg.SX_CNT_RESTARTS + 1) 255 ∧ L.ev 0x30 5 ∈ L.sxDrop.found := by
  let slips (k : Nat) : Bool := ((L.sx.chans.drop (72 * k)).take 72).any fun c => decide (c.st = .phaseLock) && c.usedAtt
  let F := forUpTo 3 (fun k (M : Lane) => M.findIf (slips k) (0x31 + k) 2) (L.onSx SextantSt.dropped)
  obtain ⟨hsx, hget, hnow⟩ : F.sx = L.sx.dropped ∧ F.get = L.get ∧ F.now = L.now :=
    forUpTo_keeps (P := fun M : Lane => M.sx = L.sx.dropped ∧ M.get = L.get ∧ M.now = L.now) 3
      (fun k _ M h => by unfold Lane.findIf; split <;> exact h) ⟨rfl, rfl, rfl⟩
  have hdrop : L.sxDrop = F.dropShown := rfl
  obtain ⟨hx, hatt, hcount, hev⟩ := F.dropShown_spec
  rw [hdrop]
  refine ⟨hx.trans (by rw [hsx]), hatt, hcount.trans (by rw [hget]), ?_⟩
  rw [Lane.ev, ← hnow]
  exact hev

/-! ### The captures of a strobe (R278) -/

section

variable {L : Lane} {lag : Rat} {caps : List StrobeCap}

/-- The capture of a channel at work. -/
def capFor (caps : List StrobeCap) (i : Nat) (x : SxChan) : Option StrobeCap :=
  if x.st = .idle then none else caps.find? fun m => decide (m.chan = i)

/-- A channel whose loop runs on over its capture, if there is one. -/
def SxChan.ranOn (c : SextantChart) (o : Option StrobeCap) (x : SxChan) : SxChan :=
  match o with
  | some m => x.track c m
  | none => x

/-- The channels with their loops run on to a strobe. -/
def Lane.ranOn (L : Lane) (caps : List StrobeCap) : List SxChan := mapIdxFrom 0 (fun i x => x.ranOn L.xc (capFor caps i x)) L.sx.chans

/-- The measurements of the locked channels at a strobe. -/
def Lane.measured (L : Lane) (lag : Rat) (caps : List StrobeCap) : List Capture :=
  (caps.filter fun m => ((L.ranOn caps).getD m.chan {}).locked).map fun m => ((L.ranOn caps).getD m.chan {}).measure m lag

/-- A channel with the code and phase of its measurement, for the strobe after. -/
def SxChan.remembers (ms : List Capture) (i : Nat) (x : SxChan) : SxChan :=
  { x with last := (ms.find? fun m => decide (m.chan = i)).map fun m => (m.code, m.carr) }

theorem Lane.capture_eq (L : Lane) (lag : Rat) (caps : List StrobeCap) : L.capture lag caps =
    L.onSx fun x => { x with caps := L.measured lag caps, chans := mapIdxFrom 0 (SxChan.remembers (L.measured lag caps)) (L.ranOn caps) } := rfl

/-- A loop that runs on leaves the channel's state and satellite. -/
theorem SxChan.ranOn_keeps (c : SextantChart) (o : Option StrobeCap) (x : SxChan) : (x.ranOn c o).st = x.st ∧ (x.ranOn c o).sat = x.sat := by
  cases o with
  | none => exact ⟨rfl, rfl⟩
  | some m =>
    show (x.track c m).st = x.st ∧ (x.track c m).sat = x.sat
    unfold SxChan.track
    split <;> exact ⟨rfl, rfl⟩

theorem SxChan.ranOn_locked (c : SextantChart) (o : Option StrobeCap) (x : SxChan) : (x.ranOn c o).locked = x.locked := by
  rw [SxChan.locked, (x.ranOn_keeps c o).1]
  rfl

theorem Lane.ranOn_locked (c : Nat) : ((L.ranOn caps).getD c {}).locked = (L.sxc c).locked :=
  getD_mapIdxFrom_keeps (fun _ x => x.ranOn_locked _ _) 0 c L.sx.chans {}

theorem Lane.capture_keeps (c : Nat) : ((L.capture lag caps).sxc c).st = (L.sxc c).st ∧ ((L.capture lag caps).sxc c).sat = (L.sxc c).sat := by
  rw [Lane.capture_eq]
  unfold Lane.sxc
  rw [Lane.onSx_sx]
  dsimp only
  constructor
  · rw [getD_mapIdxFrom_keeps (f := SxChan.remembers _) (p := SxChan.st) fun _ _ => rfl]
    exact getD_mapIdxFrom_keeps (fun _ x => (x.ranOn_keeps _ _).1) 0 c L.sx.chans {}
  · rw [getD_mapIdxFrom_keeps (f := SxChan.remembers _) (p := SxChan.sat) fun _ _ => rfl]
    exact getD_mapIdxFrom_keeps (fun _ x => (x.ranOn_keeps _ _).2) 0 c L.sx.chans {}

/-- A locked channel that was captured runs on over its capture, and is measured. -/
theorem Lane.capture_taken {m : StrobeCap} (hm : caps.find? (fun k => decide (k.chan = m.chan)) = some m) (hl : (L.sxc m.chan).locked = true) :
    ((L.capture lag caps).sxc m.chan).loop = ((L.sxc m.chan).track L.xc m).loop ∧
    ((L.sxc m.chan).track L.xc m).measure m lag ∈ (L.capture lag caps).sx.caps := by
  have hidle := SxChan.not_idle_of_locked hl
  have hran : (L.ranOn caps).getD m.chan {} = (L.sxc m.chan).track L.xc m := by
    have hcap : capFor caps m.chan (L.sxc m.chan) = some m := (if_neg hidle).trans hm
    have hat := getD_mapIdxFrom (Lane.sxc_listed hidle) (fun i x => x.ranOn L.xc (capFor caps i x)) {}
    refine hat.trans ?_
    show (L.sxc m.chan).ranOn L.xc (capFor caps m.chan (L.sxc m.chan)) = _
    rw [hcap]
    rfl
  rw [Lane.capture_eq, ← hran]
  constructor
  · exact getD_mapIdxFrom_keeps (f := SxChan.remembers _) (p := SxChan.loop) (fun _ _ => rfl) 0 m.chan (L.ranOn caps) {}
  · exact List.mem_map.2 ⟨m, List.mem_filter.2 ⟨List.mem_of_find?_eq_some hm, by rw [L.ranOn_locked, hl]⟩, rfl⟩

theorem Lane.framedUpTo_capture {M : Lane} {fs : List Fld} {es : List (Nat × Nat)} (h : L.framedUpTo M fs es fun N => N.onSx fun _ => L.sx) :
    L.framedUpTo (M.capture lag caps) fs es fun N => N.onSx fun _ => L.sx := h

/-- Locked channels only are measured. -/
theorem Lane.capture_locked : ∀ c ∈ (L.capture lag caps).sx.caps, (L.sxc c.chan).locked = true := by
  intro c hc
  obtain ⟨m, hm, rfl⟩ := List.mem_map.1 (show c ∈ L.measured lag caps from hc)
  exact (L.ranOn_locked m.chan).symm.trans (List.mem_filter.1 hm).2

/-- Where every channel is IDLE a strobe captures nothing. -/
theorem Lane.capture_idle (h : ∀ x ∈ L.sx.chans, x.st = .idle ∧ x.last = none) :
    (L.capture lag caps).sx.chans = L.sx.chans ∧ (L.capture lag caps).sx.caps = [] := by
  have hran : L.ranOn caps = L.sx.chans := mapIdxFrom_id _ _ fun i x hx => by rw [capFor, if_pos (h x hx).1]; rfl
  have hnone : L.measured lag caps = [] := by
    unfold Lane.measured
    rw [List.filter_eq_nil_iff.2 fun m _ => ?_, List.map_nil]
    rw [L.ranOn_locked, Bool.not_eq_true, Bool.eq_false_iff]
    intro hl
    have hidle := SxChan.not_idle_of_locked hl
    have hmem : L.sxc m.chan ∈ L.sx.chans := by
      rw [Lane.sxc, List.getD_eq_getElem _ _ (Lane.sxc_listed hidle)]
      exact List.getElem_mem _
    exact hidle (h _ hmem).1
  rw [Lane.capture_eq, hnone, hran]
  refine ⟨mapIdxFrom_id _ _ fun i x hx => ?_, rfl⟩
  rw [SxChan.remembers, List.find?_nil, Option.map_none, ← (h x hx).2]

end

/-! ### A strobe (R277, R280, R288, R300) -/

/-- An epoch not finished is skipped at the next strobe. -/
def Lane.skipOpen (L : Lane) : Lane := if L.sx.open_ then L.epochLost else L

/-- The Sextant after a cold restart, without data. -/
def SextantSt.forgotten (x : SextantSt) : SextantSt :=
  { x with sats := [], posKnown := false, freqKnown := false, fixed := false, gpsTime := false, last := none }

/-- The Sextant after command `n`, a restart: a cold one leaves no data. -/
def SextantSt.restarted (n : Nat) (x : SextantSt) : SextantSt := if n = 2 then x.forgotten else x

/-- The accepted command carried out. -/
def Lane.cmdTaken (L : Lane) : Lane :=
  match L.sx.pendCmd with
  | some 1 => L.sxDrop
  | some 2 => (L.sxDrop.onSx SextantSt.forgotten).setb Reg.SX_STAT_ALMANAC false
  | some _ => L.attFall
  | none => L

/-- The exclusion masks as written. -/
def Lane.masks (L : Lane) : List Nat := (List.range 5).map fun i => L.get (exclReg i)

/-- The antennas' delays as written. -/
def Lane.delays (L : Lane) : List Nat := (List.range 3).map fun k => L.get (Reg.ANT_DELAY_DELAY (antPage k))

/-- An epoch opened. -/
def Lane.epochOpened (L : Lane) : Lane :=
  L.onSx fun x =>
    { x with pendCmd := none, exclNow := L.masks, delayNow := L.delays, delayNew := (x.delayNow.zip L.delays).map fun p => decide (p.1 ≠ p.2),
             strobes := (x.strobes + 1) % 2 ^ 32, strobeDue := false, open_ := true, tL := L.now, strobeTick := true }

section

variable {L : Lane} {lag : Nat} {caps : List StrobeCap}

theorem Lane.epochStrobe_none (h : L.sxOn = false ∨ L.sx.strobeDue = false) : L.epochStrobe lag caps = L :=
  if_pos (by rcases h with h | h <;> simp [h])

theorem Lane.epochStrobe_due (hon : L.sxOn = true) (hdue : L.sx.strobeDue = true) :
    L.epochStrobe lag caps = L.skipOpen.cmdTaken.epochOpened.capture (lag / 8000000000) caps := by
  unfold Lane.epochStrobe
  rw [if_neg (by simp [hon, hdue])]
  rfl

theorem Lane.framed_skipOpen (L : Lane) : L.framed L.skipOpen [Reg.SX_CNT_SKIPPED] (if L.sx.open_ then [(0x30, 4)] else []) := by
  unfold Lane.skipOpen
  split
  · exact L.framed_epochLost
  · exact L.framed_refl _

theorem Lane.skipOpen_count (L : Lane) :
    L.skipOpen.get Reg.SX_CNT_SKIPPED = if L.sx.open_ then min (L.get Reg.SX_CNT_SKIPPED + 1) 255 else L.get Reg.SX_CNT_SKIPPED := by
  unfold Lane.skipOpen
  split
  · exact L.epochLost_count
  · rfl

theorem Lane.skipOpen_sx (L : Lane) : L.skipOpen.sx = L.sx := L.framed_skipOpen.sx_eq
theorem Lane.skipOpen_sxc (L : Lane) (c : Nat) : L.skipOpen.sxc c = L.sxc c := congrArg (fun x => x.chans.getD c {}) L.skipOpen_sx
theorem Lane.skipOpen_xc (L : Lane) : L.skipOpen.xc = L.xc := Lane.read_of_onlyRegs Lane.xc (fun _ _ _ => rfl) L.framed_skipOpen.2.2
theorem Lane.skipOpen_now (L : Lane) : L.skipOpen.now = L.now := Lane.now_of_onlyRegs L.framed_skipOpen.2.2

/-- A skip leaves the masks and delays written. -/
theorem Lane.skipOpen_written (L : Lane) : L.skipOpen.masks = L.masks ∧ L.skipOpen.delays = L.delays := by
  have haddr {g : Fld} (hg : g.lo + g.w ≤ 32) (ha : g.addr ≠ 0xc050) : L.skipOpen.get g = L.get g :=
    L.framed_skipOpen.1 g hg fun f hf => by
      obtain rfl := List.mem_singleton.1 hf
      exact .inl ha
  refine ⟨List.map_congr_left fun i _ => haddr (exclReg_fits i).2 ?_, List.map_congr_left fun k _ => haddr ?_ ?_⟩
  · unfold exclReg
    split_ifs <;> decide
  · show 0 + 13 ≤ 32
    decide
  · show 0xc020 + 0x400 * (k + 1) ≠ 0xc050
    omega

/-- Beyond its channels and captures an opened epoch leaves attitude, search, data, registers and events as the command made them. -/
theorem Lane.opened_leaves (K : Lane) (lag : Rat) (caps : List StrobeCap) :
    let M := K.epochOpened.capture lag caps
    (M.sx.att = K.sx.att ∧ M.sx.ints12 = K.sx.ints12 ∧ M.sx.ints13 = K.sx.ints13) ∧ (M.sx.search = K.sx.search ∧ M.sx.sats = K.sx.sats) ∧
    M.sx.pendCmd = none ∧ M.get = K.get ∧ M.found = K.found := ⟨⟨rfl, rfl, rfl⟩, ⟨rfl, rfl⟩, rfl, rfl, rfl⟩

/-- Without a command a strobe opens the epoch, and captures. -/
theorem Lane.strobe_opens (hon : L.sxOn = true) (hdue : L.sx.strobeDue = true) (hcmd : L.sx.pendCmd = none) :
    let M := L.epochStrobe lag caps
    M.sx.open_ = true ∧ M.sx.tL = L.now ∧ M.sx.strobeDue = false ∧ M.sx.strobeTick = true ∧ M.sx.strobes = (L.sx.strobes + 1) % 2 ^ 32 ∧
    (∀ c, (M.sxc c).st = (L.sxc c).st ∧ (M.sxc c).sat = (L.sxc c).sat) ∧
    (∀ m, caps.find? (fun k => decide (k.chan = m.chan)) = some m → (L.sxc m.chan).locked = true →
      (M.sxc m.chan).loop = ((L.sxc m.chan).track L.xc m).loop ∧ ((L.sxc m.chan).track L.xc m).measure m (lag / 8000000000) ∈ M.sx.caps) ∧
    (∀ c ∈ M.sx.caps, (L.sxc c.chan).locked = true) ∧ M.sx.exclNow = L.masks ∧ M.sx.delayNow = L.delays ∧
    M.get Reg.SX_CNT_SKIPPED = (if L.sx.open_ then min (L.get Reg.SX_CNT_SKIPPED + 1) 255 else L.get Reg.SX_CNT_SKIPPED) ∧
    L.framedUpTo M [Reg.SX_CNT_SKIPPED] (if L.sx.open_ then [(0x30, 4)] else []) fun N => N.onSx fun _ => L.sx := by
  intro M
  let K := L.skipOpen.epochOpened
  have hcmd' : L.skipOpen.cmdTaken = L.skipOpen := by rw [Lane.cmdTaken, L.skipOpen_sx, hcmd]
  have hM : M = K.capture (lag / 8000000000) caps := (Lane.epochStrobe_due hon hdue).trans (by rw [hcmd'])
  have hsxc (c : Nat) : K.sxc c = L.sxc c := L.skipOpen_sxc c
  have hxc : K.xc = L.xc := L.skipOpen_xc
  obtain ⟨hmasks, hdelays⟩ := L.skipOpen_written
  rw [hM]
  refine ⟨rfl, L.skipOpen_now, rfl, rfl, congrArg (fun x => (x.strobes + 1) % 2 ^ 32) L.skipOpen_sx, fun c => ?_, fun m hm hl => ?_,
    fun c hc => ?_, hmasks, hdelays, L.skipOpen_count, Lane.framedUpTo_capture (Lane.framedUpTo_onSx _ L.framed_skipOpen)⟩
  · rw [← hsxc]
    exact Lane.capture_keeps c
  · rw [← hsxc, ← hxc]
    exact Lane.capture_taken hm (by rw [hsxc, hl])
  · rw [← hsxc]
    exact Lane.capture_locked c hc

/-- A restart carried out. -/
theorem Lane.cmdTaken_restart {n : Nat} (h : L.sx.pendCmd = some n) (hn : n = 1 ∨ n = 2) :
    L.cmdTaken.sx = (L.sx.dropped.attAt 0).restarted n ∧ L.cmdTaken.get Reg.SX_STAT_ATT = 0 ∧
    L.cmdTaken.get Reg.SX_CNT_RESTARTS = min (L.get Reg.SX_CNT_RESTARTS + 1) 255 ∧ L.ev 0x30 5 ∈ L.cmdTaken.found := by
  obtain ⟨hsx, hatt, hcount, hev⟩ := L.sxDrop_spec
  unfold Lane.cmdTaken
  rcases hn with rfl | rfl <;> rw [h]
  · exact ⟨hsx, hatt, hcount, hev⟩
  · have hget (f : Fld) (hf : f.lo + f.w ≤ 32) (ha : f.apart Reg.SX_STAT_ALMANAC) :
        ((L.sxDrop.onSx SextantSt.forgotten).setb Reg.SX_STAT_ALMANAC false).get f = L.sxDrop.get f :=
      Lane.get_set_apart (L.sxDrop.onSx SextantSt.forgotten) _ (by decide) hf ha
    exact ⟨congrArg SextantSt.forgotten hsx, (hget _ (by decide) (by decide)).trans hatt, (hget _ (by decide) (by decide)).trans hcount, hev⟩

/-- A strobe with a restart accepted drops every channel. -/
theorem Lane.strobe_restarts {n : Nat} (hon : L.sxOn = true) (hdue : L.sx.strobeDue = true) (hcmd : L.sx.pendCmd = some n) (hn : n = 1 ∨ n = 2) :
    let M := L.epochStrobe lag caps
    M.sx.chans = L.sx.chans.map SxChan.givenUp ∧ M.sx.caps = [] ∧ M.sx.att = 0 ∧ M.get Reg.SX_STAT_ATT = 0 ∧ M.sx.pendCmd = none ∧
    M.sx.search = none ∧ M.sx.sats = (if n = 2 then [] else L.sx.sats) ∧ M.get Reg.SX_CNT_RESTARTS = min (L.get Reg.SX_CNT_RESTARTS + 1) 255 ∧
    L.ev 0x30 5 ∈ M.found := by
  intro M
  obtain ⟨hsx, hatt, hcount, hev⟩ := Lane.cmdTaken_restart (L := L.skipOpen) (by rw [L.skipOpen_sx, hcmd]) hn
  have hsx : L.skipOpen.cmdTaken.sx = (L.sx.dropped.attAt 0).restarted n := by rw [hsx, L.skipOpen_sx]
  have hsx' : L.skipOpen.cmdTaken.sx.chans = L.sx.chans.map SxChan.givenUp ∧ L.skipOpen.cmdTaken.sx.att = 0 ∧
      L.skipOpen.cmdTaken.sx.search = none ∧ L.skipOpen.cmdTaken.sx.sats = if n = 2 then [] else L.sx.sats := by
    rw [hsx]
    rcases hn with rfl | rfl <;> exact ⟨rfl, rfl, rfl, rfl⟩
  obtain ⟨hchans, hatt0, hsearch, hsats⟩ := hsx'
  obtain ⟨hkept, hcaps⟩ := Lane.capture_idle (L := L.skipOpen.cmdTaken.epochOpened) (lag := lag / 8000000000) (caps := caps) fun x hx => by
    obtain ⟨y, -, rfl⟩ := List.mem_map.1 (show x ∈ L.sx.chans.map SxChan.givenUp from hchans ▸ hx)
    exact ⟨rfl, rfl⟩
  have hcnt : L.skipOpen.get Reg.SX_CNT_RESTARTS = L.get Reg.SX_CNT_RESTARTS := L.framed_skipOpen.1.get_eq (by decide)
  obtain ⟨⟨hatt', -, -⟩, ⟨hsearch', hsats'⟩, hpend, hget, hfound⟩ := L.skipOpen.cmdTaken.opened_leaves (lag / 8000000000) caps
  rw [show M = _ from Lane.epochStrobe_due hon hdue, hget, hfound]
  refine ⟨hkept.trans hchans, hcaps, hatt'.trans hatt0, hatt, hpend, hsearch'.trans hsearch, hsats'.trans hsats, hcount.trans (by rw [hcnt]), ?_⟩
  rw [Lane.ev, ← L.skipOpen_now]
  exact hev

/-- A strobe with a new fix accepted lets the attitude fall to FLOAT. -/
theorem Lane.strobe_refixes (hon : L.sxOn = true) (hdue : L.sx.strobeDue = true) (hcmd : L.sx.pendCmd = some 3) (hatt : L.sx.att ≠ 0) :
    let M := L.epochStrobe lag caps
    M.sx.att = 1 ∧ M.get Reg.SX_STAT_ATT = 1 ∧ M.sx.pendCmd = none ∧ M.sx.ints12 = [] ∧ M.sx.ints13 = [] := by
  intro M
  have hcmd' : L.skipOpen.cmdTaken = L.skipOpen.attTo 1 := by
    rw [Lane.cmdTaken, L.skipOpen_sx, hcmd]
    exact Lane.attFall_eq (by rwa [L.skipOpen_sx])
  have hsx := L.skipOpen.attTo_sx (st := 1)
  obtain ⟨⟨hatt', hints12, hints13⟩, -, hpend, hget, -⟩ := (L.skipOpen.attTo 1).opened_leaves (lag / 8000000000) caps
  rw [show M = _ from Lane.epochStrobe_due hon hdue, hcmd', hget, hatt', hints12, hints13, hsx]
  exact ⟨rfl, L.skipOpen.attTo_shown (by decide), hpend, rfl, rfl⟩

end

end Sys2Proof.Machine
end

section
/-! The solution of an epoch (07 R279-R292): what GE's work leaves of the epoch's number, its latch time and the count of late solutions, and
what the end of the work shows. -/

namespace Sys2Proof.Machine

open Sys2Proof

/-! ### What the work on an epoch leaves -/

/-- The number of an epoch, its latch time, whether its strobe came in this tick, and the count of late solutions. -/
def Lane.epochMarks (L : Lane) : Nat × Rat × Bool × Nat := (L.sx.strobes, L.sx.tL, L.sx.strobeTick, L.get Reg.SX_CNT_LATE_SOL)

section

variable (L : Lane)

theorem Lane.epochMarks_set {f : Fld} (v : Nat) (h : f.addr ≠ 0xc050) : (L.set f v).epochMarks = L.epochMarks := by
  unfold Lane.epochMarks
  rw [Lane.get_set_addr _ _ (Ne.symm h)]
  rfl

theorem Lane.epochMarks_setScaled {f : Fld} (q lsb : Rat) (h : f.addr ≠ 0xc050) : (L.setScaled f q lsb).epochMarks = L.epochMarks :=
  L.epochMarks_set _ h

theorem Lane.epochMarks_setiScaled {f : Fld} (q lsb : Rat) (h : f.addr ≠ 0xc050) : (L.setiScaled f q lsb).epochMarks = L.epochMarks :=
  L.epochMarks_set _ h

theorem Lane.epochMarks_onSx {g : SextantSt → SextantSt}
    (h : ∀ x, (g x).strobes = x.strobes ∧ (g x).tL = x.tL ∧ (g x).strobeTick = x.strobeTick) : (L.onSx g).epochMarks = L.epochMarks := by
  obtain ⟨hn, ht, htick⟩ := h L.sx
  simp only [Lane.epochMarks, Lane.onSx_sx, Lane.onSx_get, hn, ht, htick]

theorem Lane.epochMarks_findIf (b : Bool) (p e : Nat) : (L.findIf b p e).epochMarks = L.epochMarks := by cases b <;> rfl

/-- What every step of a fold leaves, the fold leaves. -/
theorem Lane.epochMarks_foldl {α : Type} {f : Lane → α → Lane} (hf : ∀ L a, (f L a).epochMarks = L.epochMarks) (l : List α) :
    ∀ L : Lane, (l.foldl f L).epochMarks = L.epochMarks := by
  induction l with
  | nil => exact fun _ => rfl
  | cons a l ih => exact fun L => (ih (f L a)).trans (hf L a)

theorem Lane.epochMarks_cycleSlip (c : Nat) : (L.cycleSlip c).epochMarks = L.epochMarks := by
  rw [Lane.cycleSlip_eq]
  exact L.epochMarks_findIf _ _ _

theorem Lane.epochMarks_intakePut (q : Bool) (r : RawSample) : (L.intakePut q r).epochMarks = L.epochMarks := by
  unfold Lane.intakePut
  split <;> rfl

/-- Attitude's state written: a return to FLOAT is counted beside the late solutions. -/
theorem Lane.epochMarks_attTo (st : Nat) : (L.attTo st).epochMarks = L.epochMarks := by
  unfold Lane.epochMarks
  rw [L.framed_attTo.1.get_eq (by decide), L.attTo_sx]
  rfl

theorem Lane.epochMarks_attFall : L.attFall.epochMarks = L.epochMarks := L.epochMarks_attTo _

end

/-! ### The captures, the positions, the clock offset, the attitude -/

/-- A capture taken into its channel; a divergence is a slip (R276). -/
def Lane.takeCapture (L : Lane) (m : Capture) : Lane :=
  let L := L.onSxc m.chan fun c => { c with code := m.code, carr := m.carr, dop := m.dop, cn0 := m.cn0, elev := m.elev, usedPos := false }
  let L := match (L.sxc m.chan).sat with
    | some s => L.onSat s fun d => { d with elev := some m.elev }
    | none => L
  if m.diverged ∧ (L.sxc m.chan).locked then L.cycleSlip m.chan else L

section

variable (L : Lane)

theorem Lane.epochMarks_takeCapture (m : Capture) : (L.takeCapture m).epochMarks = L.epochMarks := by
  unfold Lane.takeCapture
  dsimp only
  split <;> split
  · exact Lane.epochMarks_cycleSlip _ _
  · rfl
  · exact Lane.epochMarks_cycleSlip _ _
  · rfl

/-- A position is solved, shown and handed to the intake. -/
theorem Lane.epochMarks_antPosition (k : Nat) : (L.antPosition k).1.epochMarks = L.epochMarks := by
  have hfold {f g : Lane → Sat × Nat × Nat × Capture × Capture → Lane} (us : List (Sat × Nat × Nat × Capture × Capture))
      (hf : ∀ M e, (f M e).epochMarks = M.epochMarks) (hg : ∀ M e, (g M e).epochMarks = M.epochMarks) :
      (us.foldl g (us.foldl f L)).epochMarks = L.epochMarks :=
    (Lane.epochMarks_foldl hg us _).trans (Lane.epochMarks_foldl hf us L)
  unfold Lane.antPosition
  dsimp only
  split
  · simp (disch := (dsimp only; omega)) only [Lane.epochMarks_findIf, Lane.epochMarks_set, Lane.setAll_cons, Lane.setAll_nil]
    exact hfold _ (fun _ _ => rfl) fun _ _ => rfl
  · dsimp only
    refine (Lane.epochMarks_foldl (fun M n => ?_) _ _).trans ?_
    · split
      · split
        · exact M.epochMarks_intakePut _ _
        · rfl
      · rfl
    · refine (Lane.epochMarks_findIf _ _ _ _).trans ((Lane.epochMarks_onSx _ (by exact fun _ => ⟨rfl, rfl, rfl⟩)).trans ?_)
      simp (disch := (dsimp only; omega)) only [Lane.epochMarks_setScaled, Lane.epochMarks_setiScaled, Lane.epochMarks_set, Lane.setAll_cons,
        Lane.setAll_nil]
      exact hfold _ (fun _ _ => rfl) fun _ _ => rfl

theorem Lane.epochMarks_clockOffset (sols : List (Option PosSol)) : (L.clockOffset sols).epochMarks = L.epochMarks := by
  unfold Lane.clockOffset
  split
  · exact (Lane.epochMarks_set _ _ (by decide)).trans (Lane.epochMarks_set _ _ (by decide))
  · split
    · rfl
    · refine (Lane.epochMarks_onSx _ (by exact fun _ => ⟨rfl, rfl, rfl⟩)).trans ?_
      exact (Lane.epochMarks_setiScaled _ _ _ (by decide)).trans <| (Lane.epochMarks_setiScaled _ _ _ (by decide)).trans <|
        (Lane.epochMarks_set _ _ (by decide)).trans (Lane.epochMarks_set _ _ (by decide))

theorem Lane.epochMarks_holdInts (e : EpochIn) : (L.holdInts e).epochMarks = L.epochMarks :=
  L.epochMarks_onSx fun _ => ⟨rfl, rfl, rfl⟩

theorem Lane.epochMarks_markAtt : L.markAtt.epochMarks = L.epochMarks := L.epochMarks_onSx fun _ => ⟨rfl, rfl, rfl⟩

theorem Lane.epochMarks_epochAttitude (e : EpochIn) : (L.epochAttitude e).epochMarks = L.epochMarks := by
  unfold Lane.epochAttitude
  split
  · dsimp only
    split
    · split
      · simp (disch := decide) only [Lane.epochMarks_attFall, Lane.epochMarks_setiScaled]
      · split
        · simp (disch := decide) only [Lane.epochMarks_attTo, Lane.epochMarks_setiScaled]
        · refine (Lane.epochMarks_foldl (fun M n => ?_) _ _).trans ?_
          · split
            · split
              · exact M.epochMarks_intakePut _ _
              · rfl
            · rfl
          · simp (disch := decide) only [Lane.epochMarks_set, Lane.epochMarks_setiScaled]
            refine (Lane.epochMarks_onSx _ (by exact fun _ => ⟨rfl, rfl, rfl⟩)).trans ?_
            refine (Lane.epochMarks_onSx _ (by exact fun _ => ⟨rfl, rfl, rfl⟩)).trans ?_
            simp (disch := decide) only [Lane.epochMarks_holdInts, Lane.epochMarks_setiScaled]
    · refine (Lane.epochMarks_set _ _ (by decide)).trans ((Lane.epochMarks_onSx _ (by exact fun _ => ⟨rfl, rfl, rfl⟩)).trans ?_)
      simp (disch := decide) only [Lane.epochMarks_setiScaled]
  · exact L.epochMarks_attTo 0

end

/-- GE's work on an epoch: captures, positions, clock offset, attitude. -/
def Lane.epochWorked (L : Lane) (e : EpochIn) : Lane :=
  let r0 := (L.sx.caps.foldl Lane.takeCapture L).antPosition 0
  let r1 := r0.1.antPosition 1
  let r2 := r1.1.antPosition 2
  ((r2.1.clockOffset [r0.2, r1.2, r2.2]).epochAttitude e).markAtt

theorem Lane.epochMarks_epochWorked (L : Lane) (e : EpochIn) : (L.epochWorked e).epochMarks = L.epochMarks := by
  unfold Lane.epochWorked
  rw [Lane.epochMarks_markAtt, Lane.epochMarks_epochAttitude, Lane.epochMarks_clockOffset, Lane.epochMarks_antPosition,
    Lane.epochMarks_antPosition, Lane.epochMarks_antPosition, Lane.epochMarks_foldl Lane.epochMarks_takeCapture]

/-! ### What is shown of the antennas (R301, R303) -/

/-- Nothing differs but registers of the antennas' pages, 0x31 and above. -/
def Lane.showsAnts (L M : Lane) : Prop := M.sx = L.sx ∧ ∀ f : Fld, f.addr < 0xc400 → M.get f = L.get f

section

variable {L M : Lane}

theorem Lane.showsAnts_set {f : Fld} (v : Nat) (hf : 0xc400 ≤ f.addr) (h : L.showsAnts M) : L.showsAnts (M.set f v) :=
  ⟨h.1, fun g hg => (Lane.get_set_addr _ _ (by omega)).trans (h.2 g hg)⟩

theorem Lane.showsAnts_setAll (r : List (Fld × Nat)) : ∀ {M : Lane}, (∀ p ∈ r, 0xc400 ≤ p.1.addr) → L.showsAnts M → L.showsAnts (M.setAll r) := by
  induction r with
  | nil => exact fun _ h => h
  | cons p r ih =>
    intro M hr h
    obtain ⟨hp, hr⟩ := List.forall_mem_cons.1 hr
    exact ih hr (Lane.showsAnts_set p.2 hp h)

theorem Lane.showsAnts_clearAll (fs : List Fld) : ∀ {M : Lane}, (∀ f ∈ fs, 0xc400 ≤ f.addr) → L.showsAnts M → L.showsAnts (M.clearAll fs) := by
  induction fs with
  | nil => exact fun _ h => h
  | cons f fs ih =>
    intro M hfs h
    obtain ⟨hf, hfs⟩ := List.forall_mem_cons.1 hfs
    exact ih hfs (Lane.showsAnts_set _ hf h)

/-- The channels of an antenna shown. -/
theorem Lane.showsAnts_showAnt (k : Nat) (h : L.showsAnts M) : L.showsAnts (M.showAnt k) := by
  unfold Lane.showAnt
  refine forUpTo_keeps (P := L.showsAnts) 72 (fun i _ N hN => ?_) h
  dsimp only
  split
  · exact Lane.showsAnts_set _ (by simp only [antPage]; omega) hN
  · refine Lane.showsAnts_setAll _ ?_ hN
    simp only [List.forall_mem_cons, List.not_mem_nil, false_imp_iff, implies_true, and_true, antPage]
    omega

/-- The measurement window of an antenna shown. -/
theorem Lane.showsAnts_showWindow (k : Nat) (h : L.showsAnts M) : L.showsAnts (M.showWindow k) := by
  unfold Lane.showWindow
  dsimp only
  split
  · refine Lane.showsAnts_setAll _ ?_ (Lane.showsAnts_set _ ?_ (Lane.showsAnts_set _ ?_ (Lane.showsAnts_set _ ?_ (Lane.showsAnts_setAll _ ?_ h))))
    all_goals
      simp only [List.forall_mem_cons, List.not_mem_nil, false_imp_iff, implies_true, and_true, antPage]
      omega
  · refine Lane.showsAnts_clearAll _ ?_ h
    simp only [List.forall_mem_cons, List.not_mem_nil, false_imp_iff, implies_true, and_true, antPage]
    omega

end

/-! ### The solution -/

/-- The fields that show an epoch, with its number and latch time. -/
def Lane.epochFlds (L : Lane) : List (Fld × Nat) :=
  [(Reg.SX_EPOCH_COUNT, L.sx.strobes), (Reg.SX_LATCH_SEC_LO_SEC, secOf L.sx.tL), (Reg.SX_LATCH_SEC_HI_SEC, secOf L.sx.tL / 2 ^ 32),
    (Reg.SX_LATCH_NS_NS, nsOf L.sx.tL)]

/-- The epoch shown (R279). -/
def Lane.epochShown (L : Lane) : Lane := L.setAll L.epochFlds

/-- A late solution counted (R280). -/
def Lane.lateCounted (L : Lane) (intime : Bool) : Lane := if intime ∧ L.sx.strobeTick then L else L.incSat Reg.SX_CNT_LATE_SOL

/-- Channels and windows of the antennas shown. -/
def Lane.antsShown (L : Lane) : Lane := forUpTo 3 (fun k L => (L.showAnt k).showWindow k) L

/-- The epoch closed, the slips of its channels behind it. -/
def Lane.epochClosed (L : Lane) : Lane := (L.onSx fun x => { x with open_ := false, chans := x.chans.map fun c => { c with slip := false } }).showAcq

section

variable (L : Lane) {e : EpochIn}

theorem Lane.epochSolution_none (h : L.sxOn = false ∨ L.sx.open_ = false) : L.epochSolution e = L :=
  if_pos (by rcases h with h | h <;> simp [h])

theorem Lane.epochSolution_due (hon : L.sxOn = true) (ho : L.sx.open_ = true) :
    L.epochSolution e = ((L.epochWorked e).epochShown.lateCounted e.intime).antsShown.epochClosed := by
  unfold Lane.epochSolution
  rw [if_neg (by simp [hon, ho])]
  rfl

theorem Lane.antsShown_showsAnts : L.showsAnts L.antsShown := by
  unfold Lane.antsShown
  exact forUpTo_keeps (P := L.showsAnts) 3 (fun k _ _ h => Lane.showsAnts_showWindow k (Lane.showsAnts_showAnt k h)) ⟨rfl, fun _ _ => rfl⟩

theorem Lane.epochShown_spec : L.epochShown.sx = L.sx ∧ L.epochShown.get Reg.SX_EPOCH_COUNT = L.sx.strobes % 2 ^ 32 ∧
    L.epochShown.get Reg.SX_LATCH_SEC_LO_SEC = secOf L.sx.tL % 2 ^ 32 ∧ L.epochShown.get Reg.SX_LATCH_NS_NS = nsOf L.sx.tL % 2 ^ 30 ∧
    L.epochShown.get Reg.SX_CNT_LATE_SOL = L.get Reg.SX_CNT_LATE_SOL := by
  have hshown := L.get_setAll L.epochFlds (by simp [Lane.epochFlds]) (by simp [Lane.epochFlds, Fld.apart])
  have hframe : L.framed L.epochShown (L.epochFlds.map Prod.fst) [] := Lane.framed_setAll L.epochFlds (by simp [Lane.epochFlds]) (L.framed_refl _)
  exact ⟨L.sx_setAll _, hshown (Reg.SX_EPOCH_COUNT, L.sx.strobes) (by simp [Lane.epochFlds]),
    hshown (Reg.SX_LATCH_SEC_LO_SEC, secOf L.sx.tL) (by simp [Lane.epochFlds]), hshown (Reg.SX_LATCH_NS_NS, nsOf L.sx.tL) (by simp [Lane.epochFlds]),
    hframe.1.get_eq (by simp [Lane.epochFlds, Fld.apart])⟩

theorem Lane.lateCounted_spec (intime : Bool) : (L.lateCounted intime).sx = L.sx ∧
    (∀ f : Fld, f.addr ≠ 0xc050 → (L.lateCounted intime).get f = L.get f) ∧
    (L.lateCounted intime).get Reg.SX_CNT_LATE_SOL =
      if intime ∧ L.sx.strobeTick then L.get Reg.SX_CNT_LATE_SOL else min (L.get Reg.SX_CNT_LATE_SOL + 1) 255 := by
  unfold Lane.lateCounted
  split
  · exact ⟨rfl, fun _ _ => rfl, rfl⟩
  · exact ⟨rfl, fun _ hf => Lane.get_incSat_addr 1 hf, Lane.get_incSat _ _ 1 (by decide)⟩

theorem Lane.epochClosed_spec : L.epochClosed.sx.open_ = false ∧ L.epochClosed.sx.strobes = L.sx.strobes ∧
    (∀ x ∈ L.epochClosed.sx.chans, x.slip = false) ∧ L.keepsBut L.epochClosed acqFlds := by
  unfold Lane.epochClosed
  refine ⟨?_, ?_, ?_, fun g hg ha => ((Lane.framed_showAcq _).1 g hg ha).trans (Lane.onSx_get _ _ _)⟩ <;> rw [Lane.showAcq_sx]
  · rfl
  · rfl
  · intro x hx
    obtain ⟨y, -, rfl⟩ := List.mem_map.1 hx
    rfl

/-- A solution closes the epoch, shows its number and latch time, and counts a late one. -/
theorem Lane.epochSolution_spec (hon : L.sxOn = true) (ho : L.sx.open_ = true) :
    let M := L.epochSolution e
    M.sx.open_ = false ∧ M.sx.strobes = L.sx.strobes ∧ M.get Reg.SX_EPOCH_COUNT = L.sx.strobes % 2 ^ 32 ∧
    M.get Reg.SX_LATCH_SEC_LO_SEC = secOf L.sx.tL % 2 ^ 32 ∧ M.get Reg.SX_LATCH_NS_NS = nsOf L.sx.tL % 2 ^ 30 ∧
    M.get Reg.SX_CNT_LATE_SOL = (if e.intime ∧ L.sx.strobeTick then L.get Reg.SX_CNT_LATE_SOL else min (L.get Reg.SX_CNT_LATE_SOL + 1) 255) ∧
    ∀ x ∈ M.sx.chans, x.slip = false := by
  intro M
  have hmarks := L.epochMarks_epochWorked e
  simp only [Lane.epochMarks, Prod.mk.injEq] at hmarks
  obtain ⟨hn, ht, htick, hcount⟩ := hmarks
  let W := L.epochWorked e
  obtain ⟨hsx, hepoch, hsec, hns, hkept⟩ := W.epochShown_spec
  obtain ⟨hsx', hother, hlate⟩ := W.epochShown.lateCounted_spec e.intime
  obtain ⟨hsx'', hants⟩ := (W.epochShown.lateCounted e.intime).antsShown_showsAnts
  obtain ⟨hopen, hstrobes, hslip, hkeep⟩ := (W.epochShown.lateCounted e.intime).antsShown.epochClosed_spec
  have hM : M = _ := L.epochSolution_due hon ho
  have hget {f : Fld} (hf : f.lo + f.w ≤ 32) (ha : f.addr < 0xc400) (hap : ∀ g ∈ acqFlds, f.apart g) :
      M.get f = (W.epochShown.lateCounted e.intime).get f := by
    rw [hM]
    exact (hkeep f hf hap).trans (hants f ha)
  refine ⟨?_, ?_, ?_, ?_, ?_, ?_, ?_⟩
  · rw [hM]
    exact hopen
  · rw [hM, hstrobes, hsx'', hsx', hsx, hn]
  · rw [hget (by decide) (by decide) (by decide), hother _ (by decide), hepoch, hn]
  · rw [hget (by decide) (by decide) (by decide), hother _ (by decide), hsec, ht]
  · rw [hget (by decide) (by decide) (by decide), hother _ (by decide), hns, ht]
  · rw [hget (by decide) (by decide) (by decide), hlate, hkept, hsx, htick, hcount]
  · rw [hM]
    exact hslip

end

/-- Settles O28: a strobe, a skip and a change of the attitude are read off the lane each makes, and a solution off its stages. -/
theorem sextantEpochs : Obligations.SextantEpochs := by
  unfold Obligations.SextantEpochs
  intro s l
  dsimp only
  refine ⟨fun lag caps h => ?noStrobe, fun lag caps hon hdue => ⟨fun hc => ?opens, fun n hc hn => ?restarts, fun hc hatt => ?refixes⟩,
    fun h => ?skipped, fun hw h => ?noSkip, fun e hon ho => ?solution, fun e h => ?noSolution, fun ha h12 h13 => ?fixes, fun h => ?noFix,
    fun ha h => ?falls⟩
  case noStrobe => exact idle_of_exec rfl (Lane.epochStrobe_none h)
  case opens => exact onLane_of_exec rfl (Lane.strobe_opens hon hdue hc)
  case restarts => exact onLane_of_exec rfl (Lane.strobe_restarts hon hdue hc hn)
  case refixes => exact onLane_of_exec rfl (Lane.strobe_refixes hon hdue hc hatt)
  case skipped =>
    cases hw : (s.lane l).sx.withheld with
    | true =>
      obtain ⟨hcount, hframe⟩ := (s.lane l).epochLost_spec fun x => { x with withheld := false }
      exact onLane_of_eq rfl (Lane.epochSkipped_withheld hw) ⟨hcount, rfl, fun hno => absurd (hw.symm.trans hno) (by decide), hframe⟩
    | false =>
      obtain ⟨hcount, hframe⟩ := (s.lane l).epochLost_spec fun x => { x with open_ := false }
      exact onLane_of_eq rfl (Lane.epochSkipped_open hw (h.resolve_left (by simp [hw]))) ⟨hcount, hw, fun _ => rfl, hframe⟩
  case noSkip => exact idle_of_exec rfl (Lane.epochSkipped_none hw h)
  case solution => exact onLane_of_exec rfl ((s.lane l).epochSolution_spec hon ho)
  case noSolution => exact idle_of_exec rfl ((s.lane l).epochSolution_none h)
  case fixes =>
    exact onLane_of_eq rfl (if_pos ⟨ha, h12, h13⟩) ⟨rfl, (Lane.find_get _ _ _ _).trans (Lane.get_set_fit _ _ (by decide) (by decide)),
      Lane.framedUpTo_sx (Lane.framed_find 0x30 2 (Lane.framed_set _ (by decide) (by decide) (Lane.framed_refl _ _)))⟩
  case noFix => exact idle_of_exec rfl (if_neg fun ⟨ha, h12, h13⟩ => by omega)
  case falls =>
    have hfall : (s.lane l).attFall = (s.lane l).attTo 1 := Lane.attFall_eq (by omega)
    have hsx := (s.lane l).baselineFaulted_sx
    obtain ⟨hatt, hfault⟩ := (s.lane l).baselineFaulted_shown
    obtain ⟨hcount, hhdg, hrp⟩ := Lane.baselineFaulted_left ha
    refine onLane_of_eq (M := (s.lane l).baselineFaulted) rfl ((if_pos ⟨ha, h⟩).trans (by rw [hfall]; rfl))
      ⟨?_, ?_, ?_, hatt, hfault, hcount, hhdg, hrp, Lane.framedUpTo_baselineFaulted ha⟩ <;> rw [hsx] <;> rfl

end Sys2Proof.Machine
end

section
/-! The analogue inputs (08 R319-R325): an input read after a change, and the lane after each of their commands. -/

namespace Sys2Proof.Machine

open Sys2Proof

/-! ### An input read after a change -/

section

variable (L : Lane) {n k : Nat} (f g : AiSt → AiSt)

theorem Lane.ai_onAi : (L.onAi n f).ai k = if k = n ∧ n < L.ana.ins.length then f (L.ai n) else L.ai k := getD_modAt _ _ _ _ _

theorem Lane.ai_onAi_other (h : k ≠ n) : (L.onAi n f).ai k = L.ai k := (L.ai_onAi f).trans (if_neg fun hk => h hk.1)

theorem Lane.ai_onAi_listed (h : n < L.ana.ins.length) : (L.onAi n f).ai n = f (L.ai n) := (L.ai_onAi f).trans (if_pos ⟨rfl, h⟩)

theorem Lane.length_onAi : (L.onAi n f).ana.ins.length = L.ana.ins.length := length_modAt f _ n

theorem Lane.get_onAi (h : Fld) : (L.onAi n f).get h = L.get h := L.onAna_get _ h

theorem Lane.onAi_onAi : (L.onAi n f).onAi n g = L.onAi n fun a => g (f a) :=
  congrArg (fun i => L.onAna fun x => { x with ins := i }) (modAt_modAt f g L.ana.ins n)

theorem Lane.onAi_congr (h : f (L.ai n) = g (L.ai n)) : L.onAi n f = L.onAi n g :=
  congrArg (fun i => L.onAna fun x => { x with ins := i }) (modAt_congr L.ana.ins n h)

theorem Lane.ai_findIf (b : Bool) (p e : Nat) : (L.findIf b p e).ai n = L.ai n := by cases b <;> rfl

theorem Lane.findIf_ana (b : Bool) (p e : Nat) : (L.findIf b p e).ana = L.ana := by cases b <;> rfl

/-- An input that differs from one at its start is one that the lane lists. -/
theorem Lane.ai_listed {L : Lane} (h : L.ai n ≠ {}) : n < L.ana.ins.length := by
  by_contra hn
  exact h (List.getD_eq_default _ _ (not_lt.1 hn))

/-- An input that is not OFF is one that the lane lists. -/
theorem Lane.ai_listed_of_st {L : Lane} (h : (L.ai n).st ≠ .off) : n < L.ana.ins.length := Lane.ai_listed (ne_of_apply_ne AiSt.st h)

end

/-! ### Frames of commands on the analogue chain -/

/-- The frame of a command that changes the analogue record beside registers and events. -/
def Lane.framedAna (L M : Lane) (fs : List Fld) (es : List (Nat × Nat)) : Prop := L.framedUpTo M fs es fun N => N.onAna fun _ => L.ana

section

variable {L M : Lane} {fs : List Fld} {es : List (Nat × Nat)}

theorem Lane.framedAna_refl (L : Lane) (fs : List Fld) : L.framedAna L fs [] := ⟨L.keepsBut_refl fs, by simp, rfl⟩

theorem Lane.framedAna_onAna (g : AnaSt → AnaSt) (h : L.framedAna M fs es) : L.framedAna (M.onAna g) fs es := h

theorem Lane.framedAna_onAi (n : Nat) (g : AiSt → AiSt) (h : L.framedAna M fs es) : L.framedAna (M.onAi n g) fs es := h

theorem Lane.framedAna_set {f : Fld} (v : Nat) (hm : f ∈ fs) (hf : f.lo + f.w ≤ 32) (h : L.framedAna M fs es) : L.framedAna (M.set f v) fs es :=
  ⟨Lane.keepsBut_set v hf hm h.1, h.2⟩

theorem Lane.framedAna_find (p b : Nat) (h : L.framedAna M fs es) : L.framedAna (M.find p b) fs (es ++ [(p, b)]) := by
  obtain ⟨hk, hf, ho⟩ := h
  have hnow : M.now = L.now := Lane.now_of_onlyRegs (M := M.onAna fun _ => L.ana) ho
  refine ⟨Lane.keepsBut_find p b hk, ?_, ho⟩
  simp [hf, Lane.ev, hnow]

/-- A frame with one more event, unless a condition holds. -/
theorem Lane.framedAna_findUnless (c : Prop) [Decidable c] (p b : Nat) (h : L.framedAna M fs []) :
    L.framedAna (M.findIf (decide ¬c) p b) fs (if c then [] else [(p, b)]) := by
  by_cases hc : c
  · simpa [hc, Lane.findIf] using h
  · simpa [hc, Lane.findIf] using Lane.framedAna_find p b h

end

/-! ### Runs of eight samples (R323) -/

section

variable {r : Run8}

/-- While its condition does not hold, a run counts the samples beyond the limit. -/
theorem Run8.count_beyond (h : r.on = false) (beyond within : Bool) :
    (r.count beyond within).cnt = if beyond then min 8 (r.cnt + 1) else 0 := by simp [Run8.count, h]

/-- The overload indicator counts towards entry where it is set, and towards the exit where it is clear. -/
theorem Run8.count_overload (r : Run8) (ov : Bool) :
    (r.count ov (!ov)).cnt = if (if r.on then ov = false else ov = true) then min 8 (r.cnt + 1) else 0 := by
  unfold Run8.count
  cases r.on <;> cases ov <;> rfl

theorem Run8.enters_of (ho : r.on = false) (hc : 8 ≤ r.cnt) : r.enters = true := by simp [Run8.enters, ho, hc]

theorem Run8.enters_short (hc : r.cnt < 8) : r.enters = false := by simp [Run8.enters, hc]

theorem Run8.leaves_off (ho : r.on = false) : r.leaves = false := by simp [Run8.leaves, ho]

theorem Run8.leaves_short (hc : r.cnt < 8) : r.leaves = false := by simp [Run8.leaves, hc]

/-- A complete run enters or leaves. -/
theorem Run8.turns (hc : 8 ≤ r.cnt) : (r.enters || r.leaves) = true := by cases h : r.on <;> simp [Run8.enters, Run8.leaves, h, hc]

/-- A condition that does not hold, or whose run towards the exit is complete, no longer holds. -/
theorem Run8.left_off (h : r.on = false ∨ 8 ≤ r.cnt) : (r.flip r.leaves).on = false := by
  cases ho : r.on
  · rw [Run8.leaves_off ho]
    exact ho
  · simp [Run8.flip, Run8.leaves, ho, h.resolve_left (by simp [ho])]

end

/-! ### A coarse sample (R309, R320, R322, R323) -/

section

variable (a : AiSt) (mode : Nat) (lim w t : Rat) (ov : Bool)

/-- The input takes in a coarse sample: it is counted, and so is the modulator's overload indicator. -/
def AiSt.sampled : AiSt := { a with coarse := a.coarse + 1, modulator := a.modulator.count ov (!ov) }

/-- A Vernier value counts towards the limits of the input's mode. -/
def AiSt.ranged : AiSt :=
  if mode = 1 then
    { a with above := a.above.count (decide (10500000 < if w < 0 then -w else w)) (decide ((if w < 0 then -w else w) ≤ 10400000)), under := {} }
  else
    { a with above := a.above.count (decide (21000000 < w)) (decide (w ≤ 20800000)),
             under := a.under.count (decide (w < 3600000)) (decide (3800000 ≤ w)) }

/-- A Vernier value of a VALID input counts towards STEP by its distance from the fine value. -/
def AiSt.stepped : AiSt :=
  let d := if w - a.fineRaw < 0 then -(w - a.fineRaw) else w - a.fineRaw
  if a.st = .valid then { a with step := a.step.count (decide (lim < d)) (decide (d ≤ lim / 2)) } else a

/-- The input issues a Vernier value. -/
def AiSt.issued : AiSt := (({ a with vern := w, vernTime := t, vernOk := true } : AiSt).ranged mode w).stepped lim w

theorem AiSt.stepped_eq : ∃ r, a.stepped lim w = { a with step := r } := by
  by_cases hv : a.st = .valid
  · exact ⟨_, if_pos hv⟩
  · exact ⟨a.step, if_neg hv⟩

theorem AiSt.ranged_eq : ∃ r q, a.ranged mode w = { a with above := r, under := q } := by
  unfold AiSt.ranged
  split <;> exact ⟨_, _, rfl⟩

/-- What a Vernier value issued leaves of the input. -/
theorem AiSt.issued_leaves : (a.issued mode lim w t).coarse = a.coarse ∧ (a.issued mode lim w t).st = a.st ∧
    (a.issued mode lim w t).vern = w ∧ (a.issued mode lim w t).modulator = a.modulator := by
  obtain ⟨r, q, hranged⟩ := ({ a with vern := w, vernTime := t, vernOk := true } : AiSt).ranged_eq mode w
  obtain ⟨p, hstepped⟩ := AiSt.stepped_eq (({ a with vern := w, vernTime := t, vernOk := true } : AiSt).ranged mode w) lim w
  unfold AiSt.issued
  rw [hstepped, hranged]
  exact ⟨rfl, rfl, rfl, rfl⟩

/-- What a Vernier value issued counts towards the limits. -/
theorem AiSt.issued_limits : (a.issued mode lim w t).above = (a.ranged mode w).above ∧ (a.issued mode lim w t).under = (a.ranged mode w).under := by
  obtain ⟨p, hstepped⟩ := AiSt.stepped_eq (({ a with vern := w, vernTime := t, vernOk := true } : AiSt).ranged mode w) lim w
  unfold AiSt.issued
  rw [hstepped]
  unfold AiSt.ranged
  split <;> exact ⟨rfl, rfl⟩

/-- In VOLTAGE a value of more than 10.5 V of either sign counts towards ABOVE. -/
theorem AiSt.ranged_above (h : a.above.on = false) :
    (a.ranged 1 w).above.cnt = if 10500000 < w ∨ w < -10500000 then min 8 (a.above.cnt + 1) else 0 := by
  have hmag : (if w < 0 then -w else w) = |w| := by
    split
    · exact (abs_of_neg ‹_›).symm
    · exact (abs_of_nonneg (not_lt.1 ‹_›)).symm
  have habs : (10500000 < if w < 0 then -w else w) ↔ 10500000 < w ∨ w < -10500000 := by rw [hmag, lt_abs, lt_neg]
  exact (Run8.count_beyond h _ _).trans (if_congr (decide_eq_true_iff.trans habs) rfl rfl)

/-- In CURRENT a value of less than 3.6 mA counts towards UNDER. -/
theorem AiSt.ranged_under (h : a.under.on = false) : (a.ranged 2 w).under.cnt = if w < 3600000 then min 8 (a.under.cnt + 1) else 0 :=
  (Run8.count_beyond h _ _).trans (if_congr decide_eq_true_iff rfl rfl)

/-- The input takes in a coarse sample of value `v`, and issues a Vernier value where the sample gives one. -/
def AiSt.coarseTaken (v : Rat) : AiSt := (verniered (a.coarse + 1) v).elim (a.sampled ov) fun w => (a.sampled ov).issued mode lim w t

variable {a} {mode} {ov} {v : Rat}

theorem AiSt.coarseTaken_leaves : (a.coarseTaken mode lim t ov v).coarse = a.coarse + 1 ∧ (a.coarseTaken mode lim t ov v).st = a.st ∧
    (a.coarseTaken mode lim t ov v).modulator = a.modulator.count ov (!ov) := by
  unfold AiSt.coarseTaken
  cases verniered (a.coarse + 1) v with
  | none => exact ⟨rfl, rfl, rfl⟩
  | some w =>
    obtain ⟨hcoarse, hst, -, hmod⟩ := (a.sampled ov).issued_leaves mode lim w t
    exact ⟨hcoarse, hst, hmod⟩

/-- The first sample since the restart issues no value, the second one divided by 5/6, a later one its own. -/
theorem AiSt.coarseTaken_vern : (a.coarseTaken mode lim t ov v).vern = if a.coarse = 0 then a.vern else if a.coarse = 1 then v * 6 / 5 else v := by
  have hvern (w : Rat) : ((a.sampled ov).issued mode lim w t).vern = w := by
    obtain ⟨-, -, hvern, -⟩ := (a.sampled ov).issued_leaves mode lim w t
    exact hvern
  unfold AiSt.coarseTaken
  match a.coarse with
  | 0 => rfl
  | 1 => exact hvern _
  | c + 2 => exact hvern _

theorem AiSt.coarseTaken_later (h : 2 ≤ a.coarse) : a.coarseTaken mode lim t ov v = (a.sampled ov).issued mode lim v t :=
  congrArg (fun o : Option Rat => o.elim (a.sampled ov) fun w => (a.sampled ov).issued mode lim w t)
    ((if_neg (by omega)).trans (if_neg (by omega)))

end

section

variable {L : Lane} {n : Nat} {v tf : Rat} {ov : Bool}

theorem Lane.coarseSample_idle (h : L.get (Reg.AI_CFG_MODE n) = 0 ∨ L.ana.run = false) : L.coarseSample n v tf ov = L :=
  if_pos (by simpa using h)

/-- The time of a Vernier value whose modulator edge came at `tf` (R309, R312). -/
def Lane.vernTime (L : Lane) (n : Nat) (tf : Rat) : Rat :=
  tf - (Config.frontEndDelay (if L.id = .a then 0 else 1) n + vernierDelay + ((L.ai n).p : Rat) * modPeriod)

/-- The command changes its input alone. -/
theorem Lane.coarseSample_eq (hm : L.get (Reg.AI_CFG_MODE n) ≠ 0) (hr : L.ana.run = true) (hn : n < L.ana.ins.length) :
    ∃ lim t, L.coarseSample n v tf ov = L.onAi n fun a => a.coarseTaken (L.get (Reg.AI_CFG_MODE n)) lim t ov v := by
  have hcoarse : ((L.onAi n fun a => a.sampled ov).ai n).coarse = (L.ai n).coarse + 1 := congrArg AiSt.coarse (L.ai_onAi_listed _ hn)
  refine ⟨((L.aiChart n).stepLim : Int), (L.onAi n fun a => a.sampled ov).vernTime n tf, (if_neg (by simp [hm, hr])).trans ?_⟩
  show (match verniered ((L.onAi n fun a => a.sampled ov).ai n).coarse v with | none => _ | some w => _) = _
  rw [hcoarse]
  cases hv : verniered ((L.ai n).coarse + 1) v with
  | none => exact L.onAi_congr _ _ (by rw [AiSt.coarseTaken, hv]; rfl)
  | some w => exact (L.onAi_onAi _ _).trans (L.onAi_congr _ _ (by rw [AiSt.coarseTaken, hv]; rfl))

end

/-! ### A fine output (R310, R319, R321) -/

section

variable {L : Lane} {n need taken : Nat} {x tf t ofs : Rat}

/-- The chain's filters take in samples; a chain that they fill is VALID. -/
def AiSt.filled (a : AiSt) (need taken : Nat) (t : Rat) : AiSt :=
  let a := { a with fill := a.fill + taken, fineTime := t }
  if a.st = .settling ∧ need ≤ a.fill then { a with st := .valid } else a

theorem AiSt.filled_reads (a : AiSt) : (a.filled need taken t).fill = a.fill + taken ∧
    (a.filled need taken t).st = if a.st = .settling ∧ need ≤ a.fill + taken then .valid else a.st := by
  by_cases h : a.st = .settling ∧ need ≤ a.fill + taken
  · rw [show a.filled need taken t = _ from if_pos h, if_pos h]
    exact ⟨rfl, rfl⟩
  · rw [show a.filled need taken t = _ from if_neg h, if_neg h]
    exact ⟨rfl, rfl⟩

/-- The DC-blocking stage keeps an output as it came and, where it is enabled, passes it on less its offset `m`. -/
def AiSt.dcBlocked (a : AiSt) (en : Bool) (m x : Rat) : AiSt :=
  { a with m := m, mSet := a.mSet || decide (a.st = .valid), fineRaw := x, fine := if en then x - m else x }

theorem Lane.dcBlock_eq (L : Lane) (n : Nat) (x : Rat) : ∃ m, L.dcBlock n x = L.onAi n fun a => a.dcBlocked (L.flag (Reg.AI_CFG_DCB_EN n)) m x :=
  ⟨_, rfl⟩

/-- An output away from its time in the tick is counted. -/
def Lane.rephased (L : Lane) (ofs : Rat) : Lane := if ofs < 948750 ∨ 988750 < ofs then L.incSat Reg.AI_REPHASE_CNT else L

theorem Lane.ai_rephased (L : Lane) (ofs : Rat) : (L.rephased ofs).ai n = L.ai n := by
  unfold Lane.rephased
  split <;> rfl

theorem Lane.rephased_counts (L : Lane) (ofs : Rat) : (L.rephased ofs).get Reg.AI_REPHASE_CNT =
    if ofs < 948750 ∨ 988750 < ofs then min (L.get Reg.AI_REPHASE_CNT + 1) 65535 else L.get Reg.AI_REPHASE_CNT := by
  unfold Lane.rephased
  split
  · exact L.get_incSat _ 1 (by decide)
  · rfl

theorem Lane.framedAna_rephased {M : Lane} {fs : List Fld} {es : List (Nat × Nat)} (ofs : Rat) (hm : Reg.AI_REPHASE_CNT ∈ fs)
    (h : L.framedAna M fs es) : L.framedAna (M.rephased ofs) fs es := by
  unfold Lane.rephased
  split
  · exact Lane.framedAna_set _ hm (by decide) h
  · exact h

/-- The command changes its input, and counts an output away from its time. -/
theorem Lane.fineOutput_eq (hm : L.get (Reg.AI_CFG_MODE n) ≠ 0) (hr : L.ana.run = true) : ∃ t m, L.fineOutput n x tf ofs taken =
    (L.onAi n fun a => (a.filled (L.aiOrder n + firLength (L.aiDecim n)) taken t).dcBlocked (L.flag (Reg.AI_CFG_DCB_EN n)) m x).rephased ofs := by
  have hrun : L.fineOutput n x tf ofs taken = ((L.onAi n fun a => a.filled (L.aiOrder n + firLength (L.aiDecim n)) taken
    (tf - (L.aiBaseDelay n + ((L.ai n).p : Rat) * modPeriod))).dcBlock n x).rephased ofs := if_neg (by simp [hm, hr])
  obtain ⟨m, hblock⟩ := Lane.dcBlock_eq (L.onAi n fun a => a.filled (L.aiOrder n + firLength (L.aiDecim n)) taken
    (tf - (L.aiBaseDelay n + ((L.ai n).p : Rat) * modPeriod))) n x
  exact ⟨_, m, hrun.trans (by rw [hblock, Lane.onAi_onAi]; rfl)⟩

/-- The input after a fine output, and what else the output changes. -/
theorem Lane.fineOutput_spec (hm : L.get (Reg.AI_CFG_MODE n) ≠ 0) (hr : L.ana.run = true) (hn : n < L.ana.ins.length) :
    let M := L.fineOutput n x tf ofs taken
    (M.ai n).fineRaw = x ∧ (M.ai n).fill = (L.ai n).fill + taken ∧ (L.flag (Reg.AI_CFG_DCB_EN n) = false → (M.ai n).fine = x) ∧
    (M.ai n).st = (if (L.ai n).st = .settling ∧ L.aiOrder n + firLength (L.aiDecim n) ≤ (L.ai n).fill + taken then .valid else (L.ai n).st) ∧
    M.get Reg.AI_REPHASE_CNT =
      (if ofs < 948750 ∨ 988750 < ofs then min (L.get Reg.AI_REPHASE_CNT + 1) 65535 else L.get Reg.AI_REPHASE_CNT) ∧
    L.framedAna M [Reg.AI_REPHASE_CNT] [] := by
  obtain ⟨t, m, hM⟩ := Lane.fineOutput_eq (x := x) (tf := tf) (ofs := ofs) (taken := taken) hm hr
  dsimp only
  rw [hM, Lane.ai_rephased, Lane.ai_onAi_listed _ _ hn]
  obtain ⟨hfill, hst⟩ := (L.ai n).filled_reads (need := L.aiOrder n + firLength (L.aiDecim n)) (taken := taken) (t := t)
  exact ⟨rfl, hfill, fun hen => if_neg (by simp [hen]), hst, Lane.rephased_counts _ ofs,
    Lane.framedAna_rephased ofs (by decide) (Lane.framedAna_onAi n _ (L.framedAna_refl _))⟩

end

/-! ### Faults of an input (R323; 17 R598) -/

section

variable {L M : Lane} {n : Nat} {fs : List Fld} {es : List (Nat × Nat)}

/-- A cause whose entry is complete, or a terminal's finding, faults the input. -/
theorem Lane.aiFault_enters (hm : L.get (Reg.AI_CFG_MODE n) ≠ 0)
    (h : (L.ai n).above.enters ∨ (L.ai n).under.enters ∨ (L.ai n).modulator.enters ∨ (L.termBad n && !(L.ai n).terminal)) :
    ∃ g : AiSt → AiSt, L.aiFault n = (L.findIf (decide ((L.ai n).st ≠ .fault)) 0x38 0).onAi n g ∧ ∀ a, (g a).st = .fault ∧
      (g a).above = a.above.flip a.above.enters ∧ (g a).terminal = (a.terminal || L.termBad n && !(L.ai n).terminal) :=
  ⟨_, if_pos ⟨hm, h⟩, fun _ => ⟨rfl, rfl, rfl⟩⟩

theorem Lane.aiFault_idle (ha : (L.ai n).above.cnt < 8) (hu : (L.ai n).under.cnt < 8) (ho : (L.ai n).modulator.cnt < 8)
    (ht : L.termBad n = false) : L.aiFault n = L :=
  if_neg (by simp [Run8.enters_short ha, Run8.enters_short hu, Run8.enters_short ho, ht])

/-- The input faulted, and the event where it was not. -/
theorem Lane.aiFault_spec (hm : L.get (Reg.AI_CFG_MODE n) ≠ 0) (hn : n < L.ana.ins.length)
    (h : (L.ai n).above.enters ∨ (L.ai n).under.enters ∨ (L.ai n).modulator.enters ∨ (L.termBad n && !(L.ai n).terminal)) :
    let M := L.aiFault n
    (M.ai n).st = .fault ∧ (M.ai n).above = (L.ai n).above.flip (L.ai n).above.enters ∧
    (M.ai n).terminal = ((L.ai n).terminal || L.termBad n && !(L.ai n).terminal) ∧
    L.framedAna M [] (if (L.ai n).st = .fault then [] else [(0x38, 0)]) := by
  obtain ⟨g, hM, hg⟩ := Lane.aiFault_enters hm h
  have hn' : n < (L.findIf (decide ((L.ai n).st ≠ .fault)) 0x38 0).ana.ins.length := by rwa [Lane.findIf_ana]
  dsimp only
  rw [hM, Lane.ai_onAi_listed _ _ hn', Lane.ai_findIf]
  obtain ⟨hst, habove, hterm⟩ := hg (L.ai n)
  exact ⟨hst, habove, hterm, Lane.framedAna_onAi n g (Lane.framedAna_findUnless _ 0x38 0 (L.framedAna_refl _))⟩

/-- The causes that no longer hold are taken off. -/
def AiSt.causesLeft (a : AiSt) (bad : Bool) : AiSt :=
  { a with above := a.above.flip a.above.leaves, under := a.under.flip a.under.leaves, modulator := a.modulator.flip a.modulator.leaves,
           terminal := a.terminal && bad }

/-- The causes taken off, and the fault with them. -/
def AiSt.faultLeft (a : AiSt) (bad : Bool) : AiSt := { a.causesLeft bad with st := .settling }

/-- No cause of a fault holds. -/
def AiSt.sound (a : AiSt) : Prop := a.above.on = false ∧ a.under.on = false ∧ a.modulator.on = false ∧ a.terminal = false

/-- The chain of an input restarts. -/
def AiSt.restart (a : AiSt) : AiSt :=
  { a with st := if a.st = .fault then .fault else .settling, fill := 0, coarse := 0, vernOk := false, mSet := false, step := {}, restarted := true }

theorem Lane.aiRestart_eq (hm : L.get (Reg.AI_CFG_MODE n) ≠ 0) :
    L.aiRestart n = (L.onAi n AiSt.restart).findIf (decide ¬(L.ai n).restarted) 0x38 1 := by
  refine (if_neg hm).trans ?_
  cases (L.ai n).restarted <;> rfl

/-- The event of a restart is raised once in a tick. -/
theorem Lane.framedAna_aiRestart (hm : M.get (Reg.AI_CFG_MODE n) ≠ 0) (h : L.framedAna M fs []) :
    L.framedAna (M.aiRestart n) fs (if (M.ai n).restarted then [] else [(0x38, 1)]) := by
  rw [Lane.aiRestart_eq hm]
  exact Lane.framedAna_findUnless _ 0x38 1 (Lane.framedAna_onAi n _ h)

/-- The restarted input, and the others. -/
theorem Lane.ai_aiRestart (hm : L.get (Reg.AI_CFG_MODE n) ≠ 0) (hn : n < L.ana.ins.length) :
    (L.aiRestart n).ai n = (L.ai n).restart ∧ ∀ k, k ≠ n → (L.aiRestart n).ai k = L.ai k := by
  rw [Lane.aiRestart_eq hm]
  exact ⟨(Lane.ai_findIf ..).trans (L.ai_onAi_listed _ hn), fun k hk => (Lane.ai_findIf ..).trans (L.ai_onAi_other _ hk)⟩

/-- The last cause to leave restarts the chain. -/
theorem Lane.aiFaultClear_last (hn : n < L.ana.ins.length) (hst : (L.ai n).st = .fault) (hs : ((L.ai n).causesLeft (L.termBad n)).sound) :
    L.aiFaultClear n = (L.onAi n fun a => a.faultLeft (L.termBad n)).aiRestart n := by
  obtain ⟨ha, hu, ho, ht⟩ := hs
  refine (if_pos ?_).trans (congrArg (Lane.aiRestart · n) (L.onAi_onAi _ _))
  rw [show Lane.ai _ n = (L.ai n).causesLeft (L.termBad n) from L.ai_onAi_listed _ hn]
  simp [ha, hu, ho, ht, show ((L.ai n).causesLeft (L.termBad n)).st = .fault from hst]

/-- While ABOVE holds, the fault stands. -/
theorem Lane.aiFaultClear_stands (hn : n < L.ana.ins.length) (ha : ((L.ai n).causesLeft (L.termBad n)).above.on = true) :
    L.aiFaultClear n = L.onAi n fun a => a.causesLeft (L.termBad n) := by
  refine if_neg ?_
  rw [show Lane.ai _ n = (L.ai n).causesLeft (L.termBad n) from L.ai_onAi_listed _ hn]
  simp [ha]

end

/-! ### STEP and DIFF (R322, R325) -/

section

variable {L : Lane} {n : Nat}

/-- STEP turns, with its event where it sets. -/
theorem Lane.aiStep_turns (h : 8 ≤ (L.ai n).step.cnt) :
    ((L.aiStep n).ai n).step = ⟨!(L.ai n).step.on, 0⟩ ∧ L.framedAna (L.aiStep n) [] (if (L.ai n).step.on then [] else [(0x38, 2)]) := by
  have hn : n < L.ana.ins.length := Lane.ai_listed (ne_of_apply_ne (fun a => a.step.cnt) (by show _ ≠ 0; omega))
  have henters : (L.ai n).step.enters = decide ¬(L.ai n).step.on := by simp [Run8.enters, h]
  have hM : L.aiStep n = (L.findIf (decide ¬(L.ai n).step.on) 0x38 2).onAi n fun a =>
      { a with step := a.step.flip (a.step.enters || a.step.leaves) } := by
    rw [← henters]
    rfl
  rw [hM]
  refine ⟨?_, Lane.framedAna_onAi n _ (Lane.framedAna_findUnless _ 0x38 2 (L.framedAna_refl _))⟩
  rw [Lane.ai_onAi_listed _ _ (by rwa [Lane.findIf_ana]), Lane.ai_findIf]
  exact if_pos (Run8.turns h)

/-- The fields of a difference between the lanes. -/
def diffFlds (n : Nat) : List Fld := [Reg.AI_DIFF_MASK, Reg.AI_STAT_DIFF n]

/-- A difference shown, or no longer. -/
def Lane.diffShown (L : Lane) (n : Nat) (b : Bool) : Lane := (L.setBit Reg.AI_DIFF_MASK n b).setb (Reg.AI_STAT_DIFF n) b

theorem Lane.diffShown_reads (L : Lane) (b : Bool) (hn : n < 32) :
    L.bitTo (L.diffShown n b) Reg.AI_DIFF_MASK n b ∧ (L.diffShown n b).get (Reg.AI_STAT_DIFF n) = if b then 1 else 0 := by
  have haddr : Reg.AI_DIFF_MASK.addr ≠ (Reg.AI_STAT_DIFF n).addr := show 0xe030 ≠ 0xe10c + 0x10 * n by omega
  have hbit (k : Nat) : (L.diffShown n b).bit Reg.AI_DIFF_MASK k = (L.setBit Reg.AI_DIFF_MASK n b).bit Reg.AI_DIFF_MASK k :=
    congrArg (testBit · k) (Lane.get_set_addr _ _ haddr)
  obtain ⟨hset, hothers⟩ := L.bitTo_setBit (f := Reg.AI_DIFF_MASK) b (by decide) hn
  exact ⟨⟨(hbit n).trans hset, fun k hk => (hbit k).trans (hothers k hk)⟩, Lane.get_setb _ _ b (show 11 + 1 ≤ 32 by decide) rfl⟩

theorem Lane.framed_diffShown (L : Lane) (n : Nat) (b : Bool) : L.framed (L.diffShown n b) (diffFlds n) [] :=
  Lane.framed_setb b (by simp [diffFlds]) (show 11 + 1 ≤ 32 by decide) (Lane.framed_set _ (by simp [diffFlds]) (by decide) (L.framed_refl _))

theorem Lane.aiLaneDiff_sets (hb : L.bit Reg.AI_DIFF_MASK n = false) (h : 3 ≤ (L.ai n).diffOver) :
    L.aiLaneDiff n = (L.diffShown n true).find 0x38 3 := if_pos ⟨by simp [hb], h⟩

theorem Lane.aiLaneDiff_clears (hb : L.bit Reg.AI_DIFF_MASK n = true) (h : 3 ≤ (L.ai n).diffIn) : L.aiLaneDiff n = L.diffShown n false :=
  (if_neg (by simp [hb])).trans (if_pos ⟨hb, h⟩)

end

/-- Settles O31: command by command, from the input that each leaves. -/
theorem analogInputs : Obligations.AnalogInputs := by
  unfold Obligations.AnalogInputs
  intro s l n hn
  dsimp only
  refine ⟨fun v tf ov h => ?idle, fun v tf ov hm hr hst => ?coarse, fun x tf ofs taken hm hr hst => ?fine, fun hm hst ho hc => ?above,
    fun hm hst hbad ht => ?terminal, fun ha hu ho ht => ?sound, fun hm hst ha hu ho ht => ?last, fun hst ho hc => ?stands, fun h => ?step,
    fun hb h => ?diff, fun hb h => ?same⟩
  case idle => exact idle_of_exec rfl (Lane.coarseSample_idle h)
  case coarse =>
    have hlisted := Lane.ai_listed_of_st hst
    obtain ⟨lim, t, hM⟩ := Lane.coarseSample_eq (v := v) (tf := tf) (ov := ov) hm hr hlisted
    refine onLane_of_eq rfl hM ?_
    rw [Lane.ai_onAi_listed _ _ hlisted]
    obtain ⟨hcoarse, hst, hmod⟩ := AiSt.coarseTaken_leaves (a := (s.lane l).ai n) (mode := (s.lane l).get (Reg.AI_CFG_MODE n))
      (ov := ov) (v := v) lim t
    refine ⟨hcoarse, hst, AiSt.coarseTaken_vern lim t, ?_, fun h2 h1 ho => ?_, fun h2 h1 ho => ?_,
      Lane.framedAna_onAi n _ (Lane.framedAna_refl _ _)⟩
    · rw [hmod]
      exact Run8.count_overload _ ov
    · rw [AiSt.coarseTaken_later lim t h2, h1]
      obtain ⟨habove, -⟩ := (((s.lane l).ai n).sampled ov).issued_limits 1 lim v t
      rw [habove]
      exact AiSt.ranged_above _ v ho
    · rw [AiSt.coarseTaken_later lim t h2, h1]
      obtain ⟨-, hunder⟩ := (((s.lane l).ai n).sampled ov).issued_limits 2 lim v t
      rw [hunder]
      exact AiSt.ranged_under _ v ho
  case fine => exact onLane_of_exec rfl (Lane.fineOutput_spec hm hr (Lane.ai_listed_of_st hst))
  case above =>
    have henters := Run8.enters_of ho hc
    obtain ⟨hfault, habove, -, hframe⟩ := Lane.aiFault_spec hm (Lane.ai_listed_of_st hst) (.inl henters)
    exact onLane_of_exec rfl ⟨hfault, habove.trans (by simp [henters, Run8.flip, ho]), hframe⟩
  case terminal =>
    have hfinding : ((s.lane l).termBad n && !((s.lane l).ai n).terminal) = true := by simp [hbad, ht]
    obtain ⟨hfault, -, hterm, hframe⟩ := Lane.aiFault_spec hm (Lane.ai_listed_of_st hst) (.inr (.inr (.inr hfinding)))
    exact onLane_of_exec rfl ⟨hfault, hterm.trans (by simp [hfinding]), hframe⟩
  case sound => exact idle_of_exec rfl (Lane.aiFault_idle ha hu ho ht)
  case last =>
    have hlisted : n < (s.lane l).ana.ins.length := Lane.ai_listed_of_st (by simp [hst])
    have habove := Run8.left_off ha
    have hsound : (((s.lane l).ai n).causesLeft ((s.lane l).termBad n)).sound :=
      ⟨habove, Run8.left_off (.inl hu), Run8.left_off (.inl ho), by simp [AiSt.causesLeft, ht]⟩
    have hread := (s.lane l).ai_onAi_listed (fun a => a.faultLeft ((s.lane l).termBad n)) hlisted
    obtain ⟨hai, -⟩ := Lane.ai_aiRestart (L := (s.lane l).onAi n fun a => a.faultLeft ((s.lane l).termBad n)) hm (by rwa [Lane.length_onAi])
    have hframe := Lane.framedAna_aiRestart (M := (s.lane l).onAi n fun a => a.faultLeft ((s.lane l).termBad n)) hm
      (Lane.framedAna_refl (s.lane l) [])
    refine onLane_of_eq rfl (Lane.aiFaultClear_last hlisted hst hsound) ?_
    rw [hread] at hai hframe
    rw [hai]
    exact ⟨rfl, habove, by simp [AiSt.restart, AiSt.faultLeft, AiSt.causesLeft, ht], rfl, rfl, hframe⟩
  case stands =>
    have hlisted : n < (s.lane l).ana.ins.length := Lane.ai_listed_of_st (by simp [hst])
    have habove : (((s.lane l).ai n).causesLeft ((s.lane l).termBad n)).above = ((s.lane l).ai n).above := by
      simp [AiSt.causesLeft, Run8.leaves_short hc, Run8.flip]
    refine onLane_of_eq rfl (Lane.aiFaultClear_stands hlisted (by rw [habove]; exact ho)) ?_
    rw [Lane.ai_onAi_listed _ _ hlisted]
    exact ⟨hst, habove, Lane.framedAna_onAi n _ (Lane.framedAna_refl _ _)⟩
  case step => exact onLane_of_exec rfl (Lane.aiStep_turns h)
  case diff =>
    obtain ⟨hbit, hstat⟩ := (s.lane l).diffShown_reads true hn
    exact onLane_of_eq rfl (Lane.aiLaneDiff_sets hb h) ⟨Lane.bitTo_find 0x38 3 hbit, (Lane.find_get _ _ _ _).trans hstat,
      Lane.framed_find 0x38 3 (Lane.framed_diffShown _ n true)⟩
  case same =>
    obtain ⟨hbit, hstat⟩ := (s.lane l).diffShown_reads false hn
    exact onLane_of_eq rfl (Lane.aiLaneDiff_clears hb h) ⟨hbit, hstat, Lane.framed_diffShown _ n false⟩

end Sys2Proof.Machine
end

section
/-! The analogue configuration and the outputs (08 R318, R321, R326, R329, R331, R337): the lane after each write and after an output's fault. -/

namespace Sys2Proof.Machine

open Sys2Proof

/-! ### Refused writes (R326) -/

/-- The fields of a refusal. -/
def cfgResultFlds : List Fld := [Reg.AI_CFG_RESULT_CODE, Reg.AI_CFG_RESULT_CH]

section

variable {L : Lane} {n v code : Nat}

theorem Lane.aiRefuse_spec (L : Lane) (hn : n < 32) (hc : code < 256) : (L.aiRefuse n code).get Reg.AI_CFG_RESULT_CODE = code ∧
    (L.aiRefuse n code).get Reg.AI_CFG_RESULT_CH = n ∧ L.framed (L.aiRefuse n code) cfgResultFlds [(0x38, 4)] := by
  have hset := Lane.get_setAll [(Reg.AI_CFG_RESULT_CODE, code), (Reg.AI_CFG_RESULT_CH, n)] L (by simp)
    (show cfgResultFlds.Pairwise Fld.apart by decide)
  simp only [List.forall_mem_cons] at hset
  obtain ⟨hcode, hch, -⟩ := hset
  exact ⟨(Lane.find_get _ _ _ _).trans (hcode.trans (Nat.mod_eq_of_lt hc)), (Lane.find_get _ _ _ _).trans (hch.trans (Nat.mod_eq_of_lt hn)),
    Lane.framed_find 0x38 4 (Lane.framed_setAll _ (by simp [cfgResultFlds]) (L.framed_refl _))⟩

theorem Lane.aiCfgWrite_inactive (ha : L.active = false) : L.aiCfgWrite n v = L.aiRefuse n 1 := if_pos (by simp [ha])

theorem Lane.aiFreezeWrite_inactive (ha : L.active = false) : L.aiFreezeWrite v = L.aiRefuse 0 1 := if_pos (by simp [ha])

theorem Lane.aiRestartWrite_inactive (ha : L.active = false) : L.aiRestartWrite v = L.aiRefuse 0 1 := if_pos (by simp [ha])

theorem Lane.aiCfgWrite_inUse (ha : L.active = true) (hu : L.aiInUse n = true) : L.aiCfgWrite n v = L.aiRefuse n 2 :=
  (if_neg (by simp [ha])).trans (if_pos hu)

end

/-! ### AI_RESTART of one input (R318, R326) -/

section

variable {L : Lane} {n : Nat}

/-- A fold whose steps do nothing but one is that step. -/
theorem forUpTo_only {σ : Type} {f : Nat → σ → σ} {n : Nat} (h : ∀ k, k ≠ n → ∀ s, f k s = s) (s : σ) :
    ∀ m, forUpTo m f s = if n < m then f n s else s := by
  intro m
  induction m with
  | zero => rfl
  | succ m ih =>
    show f m (forUpTo m f s) = _
    rw [ih]
    by_cases hm : m = n
    · subst hm
      simp
    · rw [h m hm]
      exact if_congr (by omega) rfl rfl

theorem testBit_two_pow (n k : Nat) : testBit (2 ^ n) k = decide (n = k) := by rw [testBit_eq_natTestBit, Nat.testBit_two_pow]

/-- A write with the bit of one input acts on that input. -/
theorem Lane.aiRestartWrite_one (hn : n < 32) (ha : L.active = true) : L.aiRestartWrite (2 ^ n) =
    if L.aiInUse n then L.aiRefuse n 2 else (L.aiRestart n).onAna fun a => { a with restartBits := Machine.setBit a.restartBits n true } := by
  refine (if_neg (by simp [ha])).trans ((forUpTo_only (n := n) (fun k hk M => if_neg ?_) L 32).trans ?_)
  · simpa [testBit_two_pow] using hk.symm
  · rw [if_pos hn]
    exact if_pos (by simp [testBit_two_pow])

theorem Lane.aiRestartWrite_inUse (hn : n < 32) (ha : L.active = true) (hu : L.aiInUse n = true) :
    L.aiRestartWrite (2 ^ n) = L.aiRefuse n 2 := (Lane.aiRestartWrite_one hn ha).trans (if_pos hu)

theorem Lane.aiRestartWrite_taken (hn : n < 32) (ha : L.active = true) (hu : L.aiInUse n = false) :
    L.aiRestartWrite (2 ^ n) = (L.aiRestart n).onAna fun a => { a with restartBits := Machine.setBit a.restartBits n true } :=
  (Lane.aiRestartWrite_one hn ha).trans (if_neg (by simp [hu]))

end

/-! ### Words of AI_CFG (R337) -/

section

/-- The fields of AI_CFG, as a new word takes them in. -/
def cfgFlds (n : Nat) : List Fld :=
  [Reg.AI_CFG_PHASE n, Reg.AI_CFG_AUTO n, Reg.AI_CFG_GROUP n, Reg.AI_CFG_DCB_EN n, Reg.AI_CFG_FINE_TYPE n, Reg.AI_CFG_DECIM n,
    Reg.AI_CFG_ORDER n, Reg.AI_CFG_MODE n]

/-- A word with fields copied into it from another. -/
def copyFlds (fs : List Fld) (w v : Word) : Word := fs.foldl (fun v f => f.put v (f.of w)) v

/-- Two fields have no bit number in common. -/
abbrev Fld.besides (f g : Fld) : Prop := f.lo + f.w ≤ g.lo ∨ g.lo + g.w ≤ f.lo

variable {g : Fld} {w : Word}

theorem Fld.of_copyFlds_besides (hg : g.lo + g.w ≤ 32) (fs : List Fld) : ∀ v, (∀ f ∈ fs, f.lo + f.w ≤ 32 ∧ g.besides f) →
    g.of (copyFlds fs w v) = g.of v := by
  induction fs with
  | nil => exact fun _ _ => rfl
  | cons f fs ih =>
    intro v h
    obtain ⟨⟨hf, hap⟩, h⟩ := List.forall_mem_cons.1 h
    exact (ih _ h).trans (g.of_put_other f v _ hg hf hap)

/-- A field copied reads as in the word it is copied from. -/
theorem Fld.of_copyFlds (fs : List Fld) : ∀ v, (∀ f ∈ fs, f.lo + f.w ≤ 32) → fs.Pairwise Fld.besides → g ∈ fs →
    g.of (copyFlds fs w v) = g.of w := by
  induction fs with
  | nil => exact fun _ _ _ h => absurd h List.not_mem_nil
  | cons f fs ih =>
    intro v hfit hap hm
    obtain ⟨hf, hfits⟩ := List.forall_mem_cons.1 hfit
    obtain ⟨hapf, haps⟩ := List.pairwise_cons.1 hap
    rcases List.mem_cons.1 hm with rfl | hm'
    · have hkeep := Fld.of_copyFlds_besides (w := w) hf fs (g.put v (g.of w)) fun x hx => ⟨hfits x hx, hapf x hx⟩
      exact hkeep.trans ((g.of_put v _ hf).trans (Nat.mod_eq_of_lt (Nat.mod_lt _ (by positivity))))
    · exact ih _ hfits haps hm'

/-- The fields of AI_CFG copied into an empty word. -/
theorem Fld.of_cfgFlds {n : Nat} (hm : g ∈ cfgFlds n) : g.of (copyFlds (cfgFlds n) w 0) = g.of w :=
  Fld.of_copyFlds _ 0 (by simp [cfgFlds]) (by simp [cfgFlds, Fld.besides]) hm

/-- The fields of a word of AI_CFG that gives MODE, ORDER, DECIM and the bits above. -/
theorem cfgWord_fields (n : Nat) {mode order decim rest : Nat} (hm : mode < 4) (ho : order < 4) (hd : decim < 4) (hr : rest < 2 ^ 22) :
    let w := BitVec.ofNat 32 (mode + 64 * order + 256 * decim + 1024 * rest)
    (Reg.AI_CFG_MODE n).of w = mode ∧ (Reg.AI_CFG_ORDER n).of w = order ∧ (Reg.AI_CFG_DECIM n).of w = decim ∧
    (Reg.AI_CFG_FINE_TYPE n).of w = rest % 2 ∧ (Reg.AI_CFG_DCB_EN n).of w = rest / 2 % 2 := by
  simp only [Fld.of, BitVec.toNat_ofNat]
  omega

end

/-! ### What the alignment of the inputs leaves (R316-R318) -/

/-- The fields of AI_CFG below PHASE read as before, and so do the inputs written; the inputs listed are as many. -/
def Lane.realigned (L M : Lane) : Prop :=
  (∀ g : Fld, 0xe100 ≤ g.addr → g.lo + g.w ≤ 22 → M.get g = L.get g) ∧
    M.ana.written = L.ana.written ∧ M.ana.ins.length = L.ana.ins.length

section

variable {L M N : Lane} {n : Nat}

theorem Lane.realigned_refl (L : Lane) : L.realigned L := ⟨fun _ _ _ => rfl, rfl, rfl⟩

theorem Lane.realigned_ite {p : Prop} [Decidable p] (hM : L.realigned M) (hN : L.realigned N) : L.realigned (if p then M else N) := by
  split_ifs <;> assumption

theorem Lane.realigned_set {f : Fld} (v : Nat) (hf : f.lo + f.w ≤ 32) (h22 : f.addr < 0xe100 ∨ 22 ≤ f.lo) (h : L.realigned M) :
    L.realigned (M.set f v) := by
  obtain ⟨hk, hrest⟩ := h
  refine ⟨fun g ha hg => (M.get_set_apart v hf (by omega) ?_).trans (hk g ha hg), hrest⟩
  exact h22.imp (fun h => by omega) fun h => .inl (hg.trans h)

theorem Lane.realigned_onAi (k : Nat) (f : AiSt → AiSt) (h : L.realigned M) : L.realigned (M.onAi k f) := by
  obtain ⟨hk, hw, hl⟩ := h
  exact ⟨hk, hw, (M.length_onAi f).trans hl⟩

theorem Lane.realigned_find (p b : Nat) (h : L.realigned M) : L.realigned (M.find p b) := h

theorem Lane.realigned_aiRestart (n : Nat) (h : L.realigned M) : L.realigned (M.aiRestart n) :=
  Lane.realigned_ite h (Lane.realigned_ite (Lane.realigned_onAi n _ h) (Lane.realigned_find 0x38 1 (Lane.realigned_onAi n _ h)))

theorem Lane.realigned_aiOff (n : Nat) (h : L.realigned M) : L.realigned (M.aiOff n) :=
  Lane.realigned_onAi n _ (Lane.realigned_set _ (by decide) (by decide) h)

theorem Lane.realigned_setPhase (n : Nat) (h : L.realigned M) : L.realigned (M.setPhase n) := by
  have hset (p : Nat) : L.realigned ((M.onAi n fun a => { a with p := p }).set (Reg.AI_CFG_PHASE n) p) :=
    Lane.realigned_set _ (show 22 + 10 ≤ 32 by decide) (.inr (le_refl 22)) (Lane.realigned_onAi n _ h)
  exact Lane.realigned_ite (Lane.realigned_onAi n _ h) (Lane.realigned_ite
    (Lane.realigned_find 0x38 5 (Lane.realigned_set _ (by decide) (by decide) (hset _))) (hset _))

theorem Lane.realigned_showDelay (hn : n < 32) (h : L.realigned M) : L.realigned (M.showDelay n) := by
  have haddr : 0xe080 + 0x4 * n < 0xe100 := by omega
  exact Lane.realigned_ite (Lane.realigned_set _ (show 0 + 32 ≤ 32 by decide) (.inl haddr) h)
    (Lane.realigned_set (f := Reg.AI_DELAY_DELAY n) _ (show 0 + 24 ≤ 32 by decide) (.inl haddr)
      (Lane.realigned_set (f := Reg.AI_DELAY_MINPHASE n) _ (show 31 + 1 ≤ 32 by decide) (.inl haddr) h))

theorem Lane.realigned_align (h : L.realigned M) : L.realigned M.align :=
  forUpTo_keeps 32 (fun _ hn _ h => Lane.realigned_showDelay hn h) (forUpTo_keeps 32 (fun n _ _ h =>
    Lane.realigned_ite (Lane.realigned_setPhase n h) (Lane.realigned_aiRestart n (Lane.realigned_setPhase n h))) h)

end

/-! ### A configuration taken (R318, R326) -/

section

variable (L : Lane) (n : Nat) (v : Word)

/-- The word that a write puts into force: GROUP and AUTO stay, and so does PHASE while AUTO is set. -/
def Lane.cfgTaken : Word :=
  let old := L.word (Reg.AI_CFG_w n).addr
  let keep (f : Fld) (w : Word) : Word := f.put w (f.of old)
  let w := keep (Reg.AI_CFG_AUTO n) (keep (Reg.AI_CFG_GROUP n) v)
  if L.flag (Reg.AI_CFG_AUTO n) then keep (Reg.AI_CFG_PHASE n) w else w

/-- The lane with that word stored. -/
def Lane.cfgStored : Lane := L.setWord (Reg.AI_CFG_w n).addr (copyFlds (cfgFlds n) (L.cfgTaken n v) 0)

/-- The fields below GROUP are those written. -/
theorem Lane.of_cfgTaken {f : Fld} (hf : f.lo + f.w ≤ 16) : f.of (L.cfgTaken n v) = f.of v := by
  have hkeep {g : Fld} (w : Word) (x : Nat) (hg : g.lo + g.w ≤ 32) (h16 : 16 ≤ g.lo) : f.of (g.put w x) = f.of w :=
    f.of_put_other g w x (by omega) hg (.inl (hf.trans h16))
  unfold Lane.cfgTaken
  dsimp only
  split
  · exact (hkeep _ _ (by simp) (by simp)).trans ((hkeep _ _ (by simp) (by simp)).trans (hkeep _ _ (by simp) (by simp)))
  · exact (hkeep _ _ (by simp) (by simp)).trans (hkeep _ _ (by simp) (by simp))

/-- GROUP stays. -/
theorem Lane.group_cfgTaken : (Reg.AI_CFG_GROUP n).of (L.cfgTaken n v) = L.get (Reg.AI_CFG_GROUP n) := by
  have hkeep {g : Fld} (w : Word) (x : Nat) (hg : g.lo + g.w ≤ 32) (h20 : 20 ≤ g.lo) :
      (Reg.AI_CFG_GROUP n).of (g.put w x) = (Reg.AI_CFG_GROUP n).of w := Fld.of_put_other _ g w x (by simp) hg (.inl h20)
  have hgroup : (Reg.AI_CFG_GROUP n).of ((Reg.AI_CFG_GROUP n).put v (L.get (Reg.AI_CFG_GROUP n))) = L.get (Reg.AI_CFG_GROUP n) :=
    (Fld.of_put _ _ _ (by simp)).trans (Nat.mod_eq_of_lt (L.get_lt _))
  unfold Lane.cfgTaken
  dsimp only
  split
  · exact (hkeep _ _ (by simp) (by simp)).trans ((hkeep _ _ (by simp) (by simp)).trans hgroup)
  · exact (hkeep _ _ (by simp) (by simp)).trans hgroup

theorem Lane.ana_setWord (a : Nat) (w : Word) : (L.setWord a w).ana = L.ana := (rfl)

theorem Lane.ana_cfgStored : (L.cfgStored n v).ana = L.ana := L.ana_setWord _ _

theorem Lane.get_cfgStored {f : Fld} (hf : f ∈ cfgFlds n) : (L.cfgStored n v).get f = f.of (L.cfgTaken n v) := by
  have haddr : f.addr = (Reg.AI_CFG_w n).addr := by
    simp only [cfgFlds, List.mem_cons, List.not_mem_nil, or_false] at hf
    rcases hf with rfl | rfl | rfl | rfl | rfl | rfl | rfl | rfl <;> rfl
  unfold Lane.get Lane.cfgStored
  rw [haddr, Lane.word_setWord_same]
  exact Fld.of_cfgFlds hf

theorem Lane.realigned_aiConfigure : (L.cfgStored n v).realigned (L.aiConfigure n v) := by
  have halign := Lane.realigned_align (L.cfgStored n v).realigned_refl
  exact Lane.realigned_ite (Lane.realigned_aiOff n halign) (Lane.realigned_ite
    (Lane.realigned_aiRestart n (Lane.realigned_ite (Lane.realigned_onAi n _ halign) halign)) halign)

/-- A field of AI_CFG below PHASE reads as the word put into force gives it. -/
theorem Lane.get_aiConfigure {f : Fld} (hf : f ∈ cfgFlds n) (hlo : f.lo + f.w ≤ 22) : (L.aiConfigure n v).get f = f.of (L.cfgTaken n v) := by
  have haddr : 0xe100 ≤ f.addr := by
    simp only [cfgFlds, List.mem_cons, List.not_mem_nil, or_false] at hf
    rcases hf with rfl | rfl | rfl | rfl | rfl | rfl | rfl | rfl <;> exact Nat.le_add_right _ _
  obtain ⟨hget, -⟩ := L.realigned_aiConfigure n v
  exact (hget f haddr hlo).trans (L.get_cfgStored n v hf)

/-- What AI_CFG reads after a write: the fields written, and GROUP as it was. -/
theorem Lane.aiConfigure_reads : (L.aiConfigure n v).get (Reg.AI_CFG_MODE n) = (Reg.AI_CFG_MODE n).of v ∧
    (L.aiConfigure n v).get (Reg.AI_CFG_ORDER n) = (Reg.AI_CFG_ORDER n).of v ∧
    (L.aiConfigure n v).get (Reg.AI_CFG_DECIM n) = (Reg.AI_CFG_DECIM n).of v ∧
    (L.aiConfigure n v).get (Reg.AI_CFG_FINE_TYPE n) = (Reg.AI_CFG_FINE_TYPE n).of v ∧
    (L.aiConfigure n v).get (Reg.AI_CFG_DCB_EN n) = (Reg.AI_CFG_DCB_EN n).of v ∧
    (L.aiConfigure n v).get (Reg.AI_CFG_GROUP n) = L.get (Reg.AI_CFG_GROUP n) := by
  have hget {f : Fld} (hf : f ∈ cfgFlds n) (hlo : f.lo + f.w ≤ 16) : (L.aiConfigure n v).get f = f.of v :=
    (L.get_aiConfigure n v hf (by omega)).trans (L.of_cfgTaken n v hlo)
  exact ⟨hget (by simp [cfgFlds]) (by simp), hget (by simp [cfgFlds]) (by simp), hget (by simp [cfgFlds]) (by simp),
    hget (by simp [cfgFlds]) (by simp), hget (by simp [cfgFlds]) (by simp),
    (L.get_aiConfigure n v (by simp [cfgFlds]) (by simp)).trans (L.group_cfgTaken n v)⟩

theorem Lane.written_aiConfigure : (L.aiConfigure n v).ana.written = L.ana.written := by
  obtain ⟨-, hwritten, -⟩ := L.realigned_aiConfigure n v
  rw [hwritten, Lane.ana_cfgStored]

/-- The causes of an input cleared, and the input SETTLING, where its mode changes. -/
def AiSt.modeTaken (a : AiSt) : AiSt := { a with st := .settling, above := {}, under := {}, modulator := {}, terminal := false }

variable {L n v}

theorem Lane.aiConfigure_off (h : (Reg.AI_CFG_MODE n).of (L.cfgTaken n v) = 0) : L.aiConfigure n v = (L.cfgStored n v).align.aiOff n := if_pos h

theorem Lane.aiConfigure_mode (h : (Reg.AI_CFG_MODE n).of (L.cfgTaken n v) ≠ 0)
    (hd : (Reg.AI_CFG_MODE n).of (L.cfgTaken n v) ≠ L.get (Reg.AI_CFG_MODE n)) :
    L.aiConfigure n v = ((L.cfgStored n v).align.onAi n AiSt.modeTaken).aiRestart n := by
  have hdiff : decide (L.get (Reg.AI_CFG_MODE n) ≠ (Reg.AI_CFG_MODE n).of (L.cfgTaken n v)) = true := decide_eq_true hd.symm
  refine (if_neg h).trans ((if_pos ?_).trans (congrArg (Lane.aiRestart · n) (if_pos hd)))
  simp only [Bool.or_eq_true]
  exact .inl (.inl (.inl (.inl hdiff)))

/-- An input OFF keeps its terminal monitor. -/
theorem Lane.ai_aiOff (hn : n < L.ana.ins.length) : (L.aiOff n).ai n = { term := (L.ai n).term } :=
  Lane.ai_onAi_listed (L.setBit Reg.AI_DIFF_MASK n false) (fun a => { term := a.term }) hn

/-- A change of mode leaves the input OFF or SETTLING. -/
theorem Lane.aiConfigure_st (hn : n < L.ana.ins.length) (hd : (Reg.AI_CFG_MODE n).of v ≠ L.get (Reg.AI_CFG_MODE n)) :
    ((L.aiConfigure n v).ai n).st = if (Reg.AI_CFG_MODE n).of v = 0 then .off else .settling := by
  rw [← L.of_cfgTaken n v (by simp)] at hd ⊢
  obtain ⟨hget, -, hlen⟩ := Lane.realigned_align (L.cfgStored n v).realigned_refl
  have hlisted : n < (L.cfgStored n v).align.ana.ins.length := by rwa [hlen, L.ana_cfgStored]
  by_cases h : (Reg.AI_CFG_MODE n).of (L.cfgTaken n v) = 0
  · rw [if_pos h, Lane.aiConfigure_off h]
    exact congrArg AiSt.st (Lane.ai_aiOff hlisted)
  · have hmode : ((L.cfgStored n v).align.onAi n AiSt.modeTaken).get (Reg.AI_CFG_MODE n) ≠ 0 := by
      have hread := (hget (Reg.AI_CFG_MODE n) (Nat.le_add_right _ _) (by simp)).trans (L.get_cfgStored n v (by simp [cfgFlds]))
      rw [Lane.get_onAi, hread]
      exact h
    obtain ⟨hai, -⟩ := Lane.ai_aiRestart hmode (by rwa [Lane.length_onAi])
    rw [if_neg h, Lane.aiConfigure_mode h hd, hai, Lane.ai_onAi_listed _ _ hlisted]
    rfl

end

/-! ### AI_CFG and AI_FREEZE written (R318, R321, R326) -/

section

variable {L : Lane} {n v : Nat}

/-- An input's configuration is the host's from now on. -/
def Lane.cfgMarked (L : Lane) (n : Nat) : Lane :=
  L.onAna fun a => { a with written := if a.written.contains n then a.written else n :: a.written }

theorem Lane.mem_cfgMarked (L : Lane) (n : Nat) : n ∈ (L.cfgMarked n).ana.written := by
  show n ∈ if L.ana.written.contains n then L.ana.written else n :: L.ana.written
  split
  · exact List.contains_iff_mem.1 ‹_›
  · exact List.mem_cons_self

theorem Lane.get_cfgMarked (L : Lane) (n : Nat) (f : Fld) : (L.cfgMarked n).get f = L.get f := L.onAna_get _ f

theorem Lane.aiCfgWrite_range (ha : L.active = true) (hu : L.aiInUse n = false)
    (h : (Reg.AI_CFG_DECIM n).of (BitVec.ofNat 32 v) = 3 ∨ (Reg.AI_CFG_ORDER n).of (BitVec.ofNat 32 v) = 3 ∨
      (Reg.AI_CFG_MODE n).of (BitVec.ofNat 32 v) = 3) : L.aiCfgWrite n v = L.aiRefuse n 3 :=
  (if_neg (by simp [ha])).trans ((if_neg (by simp [hu])).trans (if_pos h))

theorem Lane.aiCfgWrite_taken (ha : L.active = true) (hu : L.aiInUse n = false)
    (h : ¬((Reg.AI_CFG_DECIM n).of (BitVec.ofNat 32 v) = 3 ∨ (Reg.AI_CFG_ORDER n).of (BitVec.ofNat 32 v) = 3 ∨
      (Reg.AI_CFG_MODE n).of (BitVec.ofNat 32 v) = 3)) : L.aiCfgWrite n v = (L.cfgMarked n).aiConfigure n (BitVec.ofNat 32 v) :=
  (if_neg (by simp [ha])).trans ((if_neg (by simp [hu])).trans (if_neg h))

theorem Lane.aiFreezeWrite_taken (ha : L.active = true) :
    L.aiFreezeWrite v = (L.set Reg.AI_FREEZE_MASK v).onAna fun a => { a with freezeWritten := true } := if_neg (by simp [ha])

end

/-! ### Outputs (R329, R331) -/

section

variable {L : Lane} {m : Nat} {v : Int}

/-- A word set to a number in two's complement reads that number. -/
theorem Lane.geti_seti_word (L : Lane) {f : Fld} (hlo : f.lo = 0) (hw : f.w = 32) (h : -(2 ^ 31) ≤ v) (h' : v < 2 ^ 31) :
    (L.seti f v).geti f = v := by
  unfold Lane.geti Lane.seti
  rw [L.get_set_same f _ (by omega), hw]
  dsimp only
  split <;> omega

theorem Lane.aoHostWrite_taken (ha : L.active = true) (hs : L.get (Reg.AO_CFG_SOURCE m) = 3) : L.aoHostWrite m v = L.seti (Reg.AO_HOST_VALUE m) v :=
  if_pos ⟨ha, hs⟩

theorem Lane.aoHostWrite_refused (h : L.active = false ∨ L.get (Reg.AO_CFG_SOURCE m) ≠ 3) : L.aoHostWrite m v = L.find 0x39 1 :=
  if_neg fun ⟨ha, hs⟩ => h.elim (by simp [ha]) (· hs)

/-- The fields that show an output's fault. -/
def aoFaultFlds (m : Nat) : List Fld := [Reg.AO_CFG_FAULT m, Reg.AO_CFG_CAUSE m, Reg.AO_FAULTED_MASK]

/-- An output's fault shown with its cause, or shown no longer. -/
def Lane.aoFaultShown (L : Lane) (m cause : Nat) (b : Bool) : Lane :=
  (L.setAll [(Reg.AO_CFG_FAULT m, if b then 1 else 0), (Reg.AO_CFG_CAUSE m, cause)]).setBit Reg.AO_FAULTED_MASK m b

variable {cause : Nat} {b : Bool}

theorem Lane.aoFaultShown_reads (L : Lane) (hm : m < 16) (hc : cause < 16) :
    (L.aoFaultShown m cause b).get (Reg.AO_CFG_FAULT m) = (if b then 1 else 0) ∧ (L.aoFaultShown m cause b).get (Reg.AO_CFG_CAUSE m) = cause ∧
    L.bitTo (L.aoFaultShown m cause b) Reg.AO_FAULTED_MASK m b := by
  have haddr : 0xe500 + 0x10 * m ≠ 0xe420 := by omega
  have hset := Lane.get_setAll [(Reg.AO_CFG_FAULT m, if b then 1 else 0), (Reg.AO_CFG_CAUSE m, cause)] L (by simp)
    (List.pairwise_pair.2 (.inr (.inl (show 19 + 1 ≤ 20 by decide))))
  simp only [List.forall_mem_cons] at hset
  obtain ⟨hfault, hcause, -⟩ := hset
  have hbit (k : Nat) : (L.setAll [(Reg.AO_CFG_FAULT m, if b then 1 else 0), (Reg.AO_CFG_CAUSE m, cause)]).bit Reg.AO_FAULTED_MASK k =
      L.bit Reg.AO_FAULTED_MASK k := congrArg (testBit · k) ((Lane.get_set_addr _ _ haddr.symm).trans (Lane.get_set_addr _ _ haddr.symm))
  obtain ⟨hthis, hothers⟩ := Lane.bitTo_setBit (L.setAll [(Reg.AO_CFG_FAULT m, if b then 1 else 0), (Reg.AO_CFG_CAUSE m, cause)])
    (f := Reg.AO_FAULTED_MASK) b (by decide) hm
  refine ⟨(Lane.get_set_addr _ _ haddr).trans (hfault.trans ?_), (Lane.get_set_addr _ _ haddr).trans (hcause.trans (Nat.mod_eq_of_lt hc)),
    hthis, fun k hk => (hothers k hk).trans (hbit k)⟩
  cases b <;> rfl

theorem Lane.framed_aoFaultShown {fs : List Fld} (L : Lane) (h : aoFaultFlds m ⊆ fs) : L.framed (L.aoFaultShown m cause b) fs [] := by
  simp only [aoFaultFlds, List.cons_subset] at h
  obtain ⟨hfault, hcause, hmask, -⟩ := h
  exact Lane.framed_set _ hmask (by decide) (Lane.framed_set (f := Reg.AO_CFG_CAUSE m) _ hcause (show 20 + 4 ≤ 32 by decide)
    (Lane.framed_set (f := Reg.AO_CFG_FAULT m) _ hfault (show 19 + 1 ≤ 32 by decide) (L.framed_refl _)))

/-- The cause of an output's fault: its compliance limit by its mode, or a difference. -/
def Lane.aoCause (L : Lane) (m : Nat) : Nat := if (L.ao m).limited then if L.get (Reg.AO_CFG_MODE m) = 2 then 1 else 2 else 3

theorem Lane.aoCause_lt (L : Lane) (m : Nat) : L.aoCause m < 16 := by
  unfold Lane.aoCause
  split_ifs <;> decide

theorem Lane.aoFault_enters (hf : L.flag (Reg.AO_CFG_FAULT m) = false) (h : 20 ≤ (L.ao m).out) :
    L.aoFault m = ((L.aoFaultShown m (L.aoCause m) true).setb Reg.AO_FAULT_AO_FAULT_SEEN true).find 0x39 0 := if_pos ⟨by simp [hf], h⟩

theorem Lane.aoFault_leaves (hf : L.flag (Reg.AO_CFG_FAULT m) = true) (h : 20 ≤ (L.ao m).back) : L.aoFault m = L.aoFaultShown m 0 false :=
  (if_neg (by simp [hf])).trans (if_pos ⟨hf, h⟩)

/-- A fault entered is also seen by the page. -/
theorem Lane.aoFaultSeen_reads (L : Lane) (hm : m < 16) (hc : cause < 16) :
    let M := ((L.aoFaultShown m cause true).setb Reg.AO_FAULT_AO_FAULT_SEEN true).find 0x39 0
    M.get (Reg.AO_CFG_FAULT m) = 1 ∧ M.get (Reg.AO_CFG_CAUSE m) = cause ∧ L.bitTo M Reg.AO_FAULTED_MASK m true ∧
    M.get Reg.AO_FAULT_AO_FAULT_SEEN = 1 ∧ L.framed M (Reg.AO_FAULT_AO_FAULT_SEEN :: aoFaultFlds m) [(0x39, 0)] := by
  have hkeep {g : Fld} (hg : g.addr ≠ 0xe41c) :
      (((L.aoFaultShown m cause true).setb Reg.AO_FAULT_AO_FAULT_SEEN true).find 0x39 0).get g = (L.aoFaultShown m cause true).get g :=
    (Lane.find_get _ _ _ _).trans (Lane.get_set_addr _ _ hg)
  have haddr : 0xe500 + 0x10 * m ≠ 0xe41c := by omega
  obtain ⟨hfault, hcause, hthis, hothers⟩ := L.aoFaultShown_reads (b := true) hm hc
  have hbit (k : Nat) := congrArg (testBit · k) (hkeep (g := Reg.AO_FAULTED_MASK) (by decide))
  exact ⟨(hkeep haddr).trans hfault, (hkeep haddr).trans hcause, ⟨(hbit m).trans hthis, fun k hk => (hbit k).trans (hothers k hk)⟩,
    (Lane.find_get _ _ _ _).trans (Lane.get_setb _ _ true (by decide) rfl),
    Lane.framed_find 0x39 0 (Lane.framed_setb true (by simp) (by decide) (L.framed_aoFaultShown (List.subset_cons_self _ _)))⟩

end

/-- Settles O32: each write by what the lane makes of it, then the values and the faults of the outputs. -/
theorem analogWrites : Obligations.AnalogWrites := by
  unfold Obligations.AnalogWrites
  intro s l n hn
  dsimp only
  refine ⟨fun ha => ⟨fun v => ?cfgInactive, fun v => ?freezeInactive, fun v => ?restartInactive⟩,
    fun ha hu => ⟨fun v => ?cfgInUse, ?restartInUse⟩,
    fun mode order decim rest ha hu hmode horder hdecim hrest => ⟨fun h => ?cfgRange, fun hm ho hd => ?cfgTaken⟩, fun v hv ha => ?freeze,
    fun ha hu hm hst => ?restart, fun m v hm => ⟨fun ha hs h h' => ?host, fun h => ?hostRefused⟩,
    fun m hm => ⟨fun hf h => ?enters, fun hf h => ?leaves⟩⟩
  case cfgInactive => exact onLane_of_eq rfl (Lane.aiCfgWrite_inactive ha) ((s.lane l).aiRefuse_spec hn (by decide))
  case freezeInactive => exact onLane_of_eq rfl (Lane.aiFreezeWrite_inactive ha) ((s.lane l).aiRefuse_spec (by decide) (by decide))
  case restartInactive => exact onLane_of_eq rfl (Lane.aiRestartWrite_inactive ha) ((s.lane l).aiRefuse_spec (by decide) (by decide))
  case cfgInUse => exact onLane_of_eq rfl (Lane.aiCfgWrite_inUse ha hu) ((s.lane l).aiRefuse_spec hn (by decide))
  case restartInUse => exact onLane_of_eq rfl (Lane.aiRestartWrite_inUse hn ha hu) ((s.lane l).aiRefuse_spec hn (by decide))
  case cfgRange =>
    obtain ⟨hwmode, hworder, hwdecim, -⟩ := cfgWord_fields n hmode horder hdecim hrest
    exact onLane_of_eq rfl (Lane.aiCfgWrite_range ha hu (by rw [hwmode, hworder, hwdecim]; tauto)) ((s.lane l).aiRefuse_spec hn (by decide))
  case cfgTaken =>
    obtain ⟨hwmode, hworder, hwdecim, hwfine, hwdcb⟩ := cfgWord_fields n hmode horder hdecim hrest
    refine onLane_of_eq rfl (Lane.aiCfgWrite_taken ha hu (by rw [hwmode, hworder, hwdecim]; tauto)) ?_
    generalize BitVec.ofNat 32 (mode + 64 * order + 256 * decim + 1024 * rest) = w at *
    subst hwmode hworder hwdecim
    obtain ⟨rmode, rorder, rdecim, rfine, rdcb, rgroup⟩ := ((s.lane l).cfgMarked n).aiConfigure_reads n w
    refine ⟨rmode, rorder, rdecim, rfine.trans hwfine, rdcb.trans hwdcb, rgroup.trans (Lane.get_cfgMarked _ _ _), ?_,
      fun hne hlisted => Lane.aiConfigure_st hlisted (by rwa [Lane.get_cfgMarked])⟩
    rw [Lane.written_aiConfigure]
    exact Lane.mem_cfgMarked _ n
  case freeze =>
    exact onLane_of_eq rfl (Lane.aiFreezeWrite_taken ha) ⟨(Lane.onAna_get ..).trans (Lane.get_set_fit _ _ (by decide) hv), rfl,
      Lane.framedAna_onAna _ (Lane.framedAna_set _ (by decide) (by decide) (Lane.framedAna_refl _ _))⟩
  case restart =>
    obtain ⟨hai, hothers⟩ := Lane.ai_aiRestart hm (Lane.ai_listed_of_st hst)
    refine onLane_of_eq rfl (Lane.aiRestartWrite_taken hn ha hu) ⟨congrArg AiSt.st hai, congrArg AiSt.fill hai, congrArg AiSt.coarse hai,
      congrArg AiSt.vernOk hai, hothers, Lane.framedAna_onAna _ (Lane.framedAna_aiRestart hm (Lane.framedAna_refl _ _))⟩
  case host =>
    exact onLane_of_eq rfl (Lane.aoHostWrite_taken ha hs) ⟨Lane.geti_seti_word _ rfl rfl h h',
      Lane.framed_set _ (by simp) (show 0 + 32 ≤ 32 by decide) (Lane.framed_refl _ _)⟩
  case hostRefused => exact onLane_of_eq rfl (Lane.aoHostWrite_refused h) (Lane.framed_find 0x39 1 (Lane.framed_refl _ _))
  case enters => exact onLane_of_eq rfl (Lane.aoFault_enters hf h) ((s.lane l).aoFaultSeen_reads hm ((s.lane l).aoCause_lt m))
  case leaves =>
    obtain ⟨hfault, hcause, hmask⟩ := (s.lane l).aoFaultShown_reads (cause := 0) (b := false) hm (by decide)
    exact onLane_of_eq rfl (Lane.aoFault_leaves hf h) ⟨hfault, hcause, hmask, Lane.framed_aoFaultShown _ (List.Subset.refl _)⟩

end Sys2Proof.Machine
end

section
/-! The chronometer's record (09 R345-R349, R364): frames of commands that change it, its sources and its domains read after a change. -/

namespace Sys2Proof.Machine

open Sys2Proof

/-! ### Frames of commands on the chronometer -/

/-- The frame of a command that changes the chronometer's record beside registers and events. -/
def Lane.framedChr (L M : Lane) (fs : List Fld) (es : List (Nat × Nat)) : Prop := L.framedUpTo M fs es fun N => N.onChr fun _ => L.chr

section

variable {L M : Lane} {fs : List Fld} {es : List (Nat × Nat)}

theorem Lane.framedChr_refl (L : Lane) (fs : List Fld) : L.framedChr L fs [] := ⟨L.keepsBut_refl fs, by simp, rfl⟩

theorem Lane.framedChr_onChr (g : ChronSt → ChronSt) (h : L.framedChr M fs es) : L.framedChr (M.onChr g) fs es := h

theorem Lane.framedChr_set {f : Fld} (v : Nat) (hm : f ∈ fs) (hf : f.lo + f.w ≤ 32) (h : L.framedChr M fs es) : L.framedChr (M.set f v) fs es :=
  ⟨Lane.keepsBut_set v hf hm h.1, h.2⟩

theorem Lane.framedChr_setb {f : Fld} (b : Bool) (hm : f ∈ fs) (hf : f.lo + f.w ≤ 32) (h : L.framedChr M fs es) :
    L.framedChr (M.setb f b) fs es := Lane.framedChr_set _ hm hf h

theorem Lane.framedChr_setAll (r : List (Fld × Nat)) : ∀ {M : Lane}, (∀ p ∈ r, p.1 ∈ fs ∧ p.1.lo + p.1.w ≤ 32) → L.framedChr M fs es →
    L.framedChr (M.setAll r) fs es := by
  induction r with
  | nil => exact fun _ h => h
  | cons p r ih =>
    intro M hr h
    obtain ⟨⟨hm, hf⟩, hr⟩ := List.forall_mem_cons.1 hr
    exact ih hr (Lane.framedChr_set p.2 hm hf h)

/-- An event found at the time of the command is one more event of the frame. -/
theorem Lane.framedChr_find (p b : Nat) (hnow : M.now = L.now) (h : L.framedChr M fs es) : L.framedChr (M.find p b) fs (es ++ [(p, b)]) := by
  obtain ⟨hk, hf, ho⟩ := h
  refine ⟨Lane.keepsBut_find p b hk, ?_, ho⟩
  simp [hf, Lane.ev, hnow]

theorem Lane.framedChr_ite {N : Lane} {p : Prop} [Decidable p] (hM : L.framedChr M fs es) (hN : L.framedChr N fs es) :
    L.framedChr (if p then M else N) fs es := by split_ifs <;> assumption

end

/-! ### Operations on registers and on the chronometer -/

/-- Nothing differs but the fields listed, the events found and the chronometer's record. -/
def Lane.chronOnly (L M : Lane) (fs : List Fld) : Prop := L.keepsBut M fs ∧ L.onlyRegs (M.onChr fun _ => L.chr)

section

variable {L M : Lane} {fs : List Fld}

theorem Lane.chronOnly_refl (L : Lane) (fs : List Fld) : L.chronOnly L fs := ⟨L.keepsBut_refl fs, rfl⟩

theorem Lane.chronOnly_set {f : Fld} (v : Nat) (hm : f ∈ fs) (hf : f.lo + f.w ≤ 32) (h : L.chronOnly M fs) : L.chronOnly (M.set f v) fs :=
  ⟨Lane.keepsBut_set v hf hm h.1, h.2⟩

theorem Lane.chronOnly_setAll (r : List (Fld × Nat)) : ∀ {M : Lane}, (∀ p ∈ r, p.1 ∈ fs ∧ p.1.lo + p.1.w ≤ 32) → L.chronOnly M fs →
    L.chronOnly (M.setAll r) fs := by
  induction r with
  | nil => exact fun _ h => h
  | cons p r ih =>
    intro M hr h
    obtain ⟨⟨hm, hf⟩, hr⟩ := List.forall_mem_cons.1 hr
    exact ih hr (Lane.chronOnly_set p.2 hm hf h)

theorem Lane.chronOnly_find (p b : Nat) (h : L.chronOnly M fs) : L.chronOnly (M.find p b) fs := h

theorem Lane.chronOnly_findIf (c : Bool) (p b : Nat) (h : L.chronOnly M fs) : L.chronOnly (M.findIf c p b) fs := by cases c <;> exact h

theorem Lane.chronOnly_onChr (g : ChronSt → ChronSt) (h : L.chronOnly M fs) : L.chronOnly (M.onChr g) fs := h

theorem Lane.chronOnly_ite {N : Lane} {p : Prop} [Decidable p] (hM : L.chronOnly M fs) (hN : L.chronOnly N fs) :
    L.chronOnly (if p then M else N) fs := by split_ifs <;> assumption

/-- A field apart from those written reads as before. -/
theorem Lane.chronOnly.get_eq (h : L.chronOnly M fs) {g : Fld} (hg : g.lo + g.w ≤ 32 ∧ ∀ f ∈ fs, g.apart f) : M.get g = L.get g := h.1.get_eq hg

/-- What is read of a lane without its registers, events and chronometer reads the same. -/
theorem Lane.chronOnly.read {α : Type} (h : L.chronOnly M fs) (g : Lane → α)
    (hg : ∀ (N : Lane) r e c, g { N with regs := r, found := e, chr := c } = g N) : g M = g L :=
  (hg M L.regs L.found L.chr).symm.trans (congrArg g h.2)

end

/-! ### The record after operations on registers -/

theorem Lane.findIf_chr (L : Lane) (c : Bool) (p b : Nat) : (L.findIf c p b).chr = L.chr := by cases c <;> rfl

theorem Lane.chrStat_chr (L : Lane) : L.chrStat.chr = L.chr := Lane.findIf_chr _ _ _ _

/-- The fields that show the offset of UTC. -/
def utcFlds : List Fld := [Reg.CHR_UTC_OFS, Reg.CHR_UTC_ORIGIN]

theorem Lane.writesOnly_utcUpdate (L : Lane) : L.writesOnly L.utcUpdate utcFlds := by
  unfold Lane.utcUpdate
  split
  exact Lane.writesOnly_findIf _ _ _ (Lane.writesOnly_setAll _ (by simp [utcFlds]) (L.writesOnly_refl _))

theorem Lane.utcUpdate_chr (L : Lane) : L.utcUpdate.chr = L.chr := Lane.read_of_onlyRegs Lane.chr (fun _ _ _ => rfl) L.writesOnly_utcUpdate.2

/-! ### Sources and domains -/

section

variable (c : ChronSt) (k : Nat)

theorem ChronSt.dom_setDom (p : PtpInst) : (c.setDom k p).dom k = p := by
  unfold ChronSt.setDom ChronSt.dom
  by_cases h : k = 0 <;> simp [h]

/-- A domain put in its own place changes nothing. -/
theorem ChronSt.setDom_dom : c.setDom k (c.dom k) = c := by
  unfold ChronSt.setDom ChronSt.dom
  split <;> rfl

/-- What is read of the record without its domains reads the same after a domain's change. -/
theorem ChronSt.read_setDom {α : Type} (p : PtpInst) (g : ChronSt → α) (hg : ∀ (c : ChronSt) p q, g { c with dom0 := p, dom1 := q } = g c) :
    g (c.setDom k p) = g c := by
  unfold ChronSt.setDom
  split
  · exact hg c p c.dom1
  · exact hg c c.dom0 p

theorem ChronSt.setSrc_setSrc (x y : ChrSrc) : (c.setSrc k x).setSrc k y = c.setSrc k y := by
  unfold ChronSt.setSrc
  split_ifs <;> rfl

theorem ChronSt.src_setSrc (x : ChrSrc) : (c.setSrc k x).src k = x := by
  unfold ChronSt.setSrc ChronSt.src
  split_ifs <;> rfl

end

end Sys2Proof.Machine
end

section
/-! The servo's state and the selected source (09 R350-R357): what taking a source, losing it and entering HOLDOVER write. -/

namespace Sys2Proof.Machine

open Sys2Proof

/-- The fields that show the servo's state and the selected source. -/
def selectFlds : List Fld :=
  chrStatFlds ++ [Reg.CHR_SYNC_STATE, Reg.CHR_SYNC_SRC, Reg.CHR_STAT_HOLD_OK, Reg.CHR_UTC_OFS, Reg.CHR_UTC_ORIGIN, Reg.CHR_CNT_SWITCHES,
    Reg.CHR_CNT_HOLDOVERS, Reg.CHR_FREQ_F]

theorem fits_selectFlds : ∀ f ∈ selectFlds, f.lo + f.w ≤ 32 := by decide

/-! ### Fields written -/

section

variable {L M : Lane} {fs : List Fld}

theorem Lane.chronOnly_chrStat (hc : chrStatFlds ⊆ fs) (h : L.chronOnly M fs) : L.chronOnly M.chrStat fs :=
  Lane.chronOnly_findIf _ _ _ (Lane.chronOnly_set _ (hc (by decide)) (by decide) (Lane.chronOnly_set _ (hc (by decide)) (by decide)
    (Lane.chronOnly_set _ (hc (by decide)) (by decide) (Lane.chronOnly_set _ (hc (by decide)) (by decide) h))))

variable (hs : selectFlds ⊆ fs)
include hs

theorem chrStatFlds_subset : chrStatFlds ⊆ fs := fun _ hf => hs (List.mem_append_left _ hf)

/-- One of these fields set. -/
theorem Lane.chronOnly_select {f : Fld} (v : Nat) (hm : f ∈ selectFlds) (h : L.chronOnly M fs) : L.chronOnly (M.set f v) fs :=
  Lane.chronOnly_set v (hs hm) (fits_selectFlds f hm) h

theorem Lane.chronOnly_enterHoldover (e u : Rat) (h : L.chronOnly M fs) : L.chronOnly (M.enterHoldover e u) fs :=
  Lane.chronOnly_chrStat (chrStatFlds_subset hs) (Lane.chronOnly_find _ _ (Lane.chronOnly_select hs _ (by decide) (Lane.chronOnly_select hs _ (by decide)
    (Lane.chronOnly_select hs _ (by decide) (Lane.chronOnly_select hs _ (by decide) (Lane.chronOnly_onChr _ (Lane.chronOnly_onChr _ h)))))))

theorem Lane.chronOnly_loseTime (x : Rat) (h : L.chronOnly M fs) : L.chronOnly (M.loseTime x) fs :=
  Lane.chronOnly_enterHoldover hs _ _ (Lane.chronOnly_select hs _ (by decide) (Lane.chronOnly_onChr _ (Lane.chronOnly_onChr _ h)))

theorem Lane.chronOnly_utcUpdate (h : L.chronOnly M fs) : L.chronOnly M.utcUpdate fs := by
  unfold Lane.utcUpdate
  split
  exact Lane.chronOnly_findIf _ _ _ (Lane.chronOnly_select hs (f := Reg.CHR_UTC_ORIGIN) _ (by decide)
    (Lane.chronOnly_select hs (f := Reg.CHR_UTC_OFS) _ (by decide) h))

theorem Lane.chronOnly_takeSource (k : Nat) (h : L.chronOnly M fs) : L.chronOnly (M.takeSource k) fs := by
  have htaken (g : ChronSt → ChronSt) :
      L.chronOnly ((((M.dropStep.onChr g).set Reg.CHR_SYNC_SRC k).setb Reg.CHR_STAT_HOLD_OK false).ptpSelected k) fs :=
    Lane.chronOnly_utcUpdate hs (Lane.chronOnly_onChr _ (Lane.chronOnly_select hs _ (by decide) (Lane.chronOnly_select hs _ (by decide)
      (Lane.chronOnly_onChr _ (Lane.chronOnly_onChr _ h)))))
  exact Lane.chronOnly_ite h (Lane.chronOnly_ite (Lane.chronOnly_find _ _ (Lane.chronOnly_select hs _ (by decide) (htaken _))) (htaken _))

theorem Lane.chronOnly_reselect (x : Rat) (h : L.chronOnly M fs) : L.chronOnly (M.reselect x) fs := by
  unfold Lane.reselect
  split
  · exact Lane.chronOnly_chrStat (chrStatFlds_subset hs) (Lane.chronOnly_takeSource hs _ h)
  · exact Lane.chronOnly_ite (Lane.chronOnly_loseTime hs x h) (Lane.chronOnly_chrStat (chrStatFlds_subset hs) (Lane.chronOnly_select hs _ (by decide) h))

/-- A source taken to ABSENT or NO_DATA writes, beside these fields, its own state and count. -/
theorem Lane.chronOnly_dropSource {k : Nat} (st : Nat) (hstate : Reg.CHR_SRC_STAT_STATE k ∈ fs) (hqual : Reg.CHR_SRC_STAT_QUAL k ∈ fs)
    (h : L.chronOnly M fs) : L.chronOnly (M.dropSource k st) fs := by
  have hshown : L.chronOnly ((M.onChr fun c => c.setSrc k {}).setAll [(Reg.CHR_SRC_STAT_STATE k, st), (Reg.CHR_SRC_STAT_QUAL k, 0)]) fs :=
    Lane.chronOnly_setAll _ (by simp [hstate, hqual]) (Lane.chronOnly_onChr _ h)
  exact Lane.chronOnly_ite (Lane.chronOnly_reselect hs _ hshown) hshown

end

/-! ### HOLDOVER entered (R356, R361) -/

theorem ppbQ_zero : ppbQ 0 = 0 := by decide +kernel

/-- HOLDOVER with no source, the slew at rest; the chronometer's time stands. -/
theorem Lane.enterHoldover_spec (L : Lane) (e u : Rat) :
    let M := L.enterHoldover e u
    M.servo = 4 ∧ M.selected = 0 ∧ M.chr.s = 0 ∧ M.chr.ns = L.chr.ns := by
  intro M
  let N := (L.setS L.now 0).onChr fun c =>
    { c with hold := some { t0 := L.now, e0 := e, u := u, afterGnss := decide (L.chr.lastSel = 1) }, setSlew := none }
  let H := (N.set Reg.CHR_SYNC_STATE 4).set Reg.CHR_SYNC_SRC 0
  have hM : M = (((H.setb Reg.CHR_STAT_HOLD_OK (decide (e ≤ N.cc.holdLimit))).incSat Reg.CHR_CNT_HOLDOVERS).find 0x40 2).chrStat := rfl
  have hchr : M.chr = N.chr := by rw [hM, Lane.chrStat_chr]; rfl
  have hshown : H.chronOnly M (Reg.CHR_CNT_HOLDOVERS :: Reg.CHR_STAT_HOLD_OK :: chrStatFlds) :=
    hM ▸ Lane.chronOnly_chrStat (by decide) (Lane.chronOnly_find _ _ (Lane.chronOnly_set _ (by decide) (by decide)
      (Lane.chronOnly_set _ (by decide) (by decide) (H.chronOnly_refl _))))
  refine ⟨(hshown.get_eq (by decide)).trans ?_, (hshown.get_eq (by decide)).trans ?_, ?_, ?_⟩
  · exact (Lane.get_set_apart _ _ (by decide) (by decide) (by decide)).trans (Lane.get_set_fit _ _ (by decide) (by decide))
  · exact Lane.get_set_fit _ _ (by decide) (by decide)
  · rw [hchr]
    exact ppbQ_zero
  · rw [hchr]
    rfl

end Sys2Proof.Machine
end

section
/-! Time set, stepped and bounded (09 R343, R354, R357, R361): the lane after a step, at the holdover's bound, at a leap second and after SET_TIME. -/

namespace Sys2Proof.Machine

open Sys2Proof

/-! ### The chronometer stepped (R354) -/

/-- A word set to a signed number in its range reads that number. -/
theorem Lane.geti_setiSat_word (L : Lane) {f : Fld} {v : Int} (hlo : f.lo = 0) (hw : f.w = 32) (h : -(2 ^ 31) ≤ v) (h' : v < 2 ^ 31) :
    (L.setiSat f v).geti f = v := by
  have hfit : max (-(2 ^ (f.w - 1) : Int)) (min v ((2 ^ (f.w - 1) : Int) - 1)) = v := by
    rw [hw]
    omega
  unfold Lane.setiSat
  rw [hfit]
  exact L.geti_seti_word hlo hw h h'

theorem absQ_nonneg (x : Rat) : 0 ≤ absQ x := by
  unfold absQ
  split <;> linarith

/-- The sign of a step. -/
def stepSign (size : Rat) : Int := if size < 0 then -1 else 1

/-- The whole seconds of a step below 2^30 s, with its sign, fit a signed word. -/
theorem stepSeconds_fit {size : Rat} (h : absQ size < 2 ^ 30 * 1000000000) :
    -(2 ^ 31) ≤ stepSign size * (absQ size / 1000000000).floor ∧ stepSign size * (absQ size / 1000000000).floor < 2 ^ 31 := by
  have hlow : 0 ≤ (absQ size / 1000000000).floor := Rat.le_floor_iff.2 (by have := absQ_nonneg size; positivity)
  have hhigh : (absQ size / 1000000000).floor < 2 ^ 30 := Rat.floor_lt_iff.2 (by rw [div_lt_iff₀ (by norm_num)]; exact_mod_cast h)
  unfold stepSign
  split <;> omega

/-- The chronometer's record stepped. -/
def ChronSt.stepped (c : ChronSt) (size : Rat) : ChronSt :=
  { c with slewInt := c.slewAt c.ns, slewT := c.ns + size, ns := c.ns + size, stepSum := c.stepSum + size, lastStep := some (c.ns + size), pend := none,
           fHist := [(c.ns + size, c.f)], stepNext := none }

section

variable (L : Lane) (size : Rat) (src : Nat)

/-- The chronometer stepped, and the step shown. -/
def Lane.stepShown : Lane :=
  ((((L.onChr fun c => c.stepped size).setiSat Reg.CHR_STEP_SEC_SEC (stepSign size * (absQ size / 1000000000).floor)).seti Reg.CHR_STEP_NS_NS
    (stepSign size * nsOf (absQ size))).incSat Reg.CHR_CNT_STEPS).find 0x40 0

/-- The step recorded in the Logbook. -/
def Lane.stepPosted : Lane :=
  (L.stepShown size).post 4 0x06 (leBytes 8 ((size.floor % (2 ^ 64 : Int)).toNat) ++ [if src = 0 then 0x0F else src, 0, 0, 0]
    ++ timeBytes L.now ++ timeBytes (L.now + size))

/-- The tick's grid to be realigned after the step. -/
def Lane.stepRealigns : Lane :=
  let P := L.stepPosted size src
  ((((P.boundStep L.now (L.now + size)).onTk fun k => { k with realign := P.gridDelay, realigning := true }).setb Reg.TICK_POS_REALIGN true).setb
    Reg.TICK_STAT_REALIGN true).find 0x02 7

theorem Lane.stepTime_eq : L.stepTime size src =
    if (L.stepRealigns size src).servo = 6 then ((L.stepRealigns size src).set Reg.CHR_SYNC_STATE 2).chrStat else (L.stepRealigns size src).chrStat := (rfl)

/-- The step's seconds and the count of steps are shown. -/
theorem Lane.stepShown_reads : (L.stepShown size).get Reg.CHR_CNT_STEPS = min (L.get Reg.CHR_CNT_STEPS + 1) 65535 ∧
    (absQ size < 2 ^ 30 * 1000000000 → (L.stepShown size).geti Reg.CHR_STEP_SEC_SEC = stepSign size * (absQ size / 1000000000).floor) := by
  let S := (L.onChr fun c => c.stepped size).setiSat Reg.CHR_STEP_SEC_SEC (stepSign size * (absQ size / 1000000000).floor)
  let T := S.seti Reg.CHR_STEP_NS_NS (stepSign size * nsOf (absQ size))
  have hT : L.stepShown size = (T.incSat Reg.CHR_CNT_STEPS).find 0x40 0 := rfl
  have hcount : T.get Reg.CHR_CNT_STEPS = L.get Reg.CHR_CNT_STEPS := (Lane.get_set_addr _ _ (by decide)).trans (Lane.get_set_addr _ _ (by decide))
  have hsec : (L.stepShown size).get Reg.CHR_STEP_SEC_SEC = S.get Reg.CHR_STEP_SEC_SEC := by
    rw [hT, Lane.find_get, Lane.get_incSat_addr 1 (by decide)]
    exact Lane.get_set_addr _ _ (by decide)
  refine ⟨?_, fun hsize => ?_⟩
  · rw [hT, Lane.find_get, Lane.get_incSat _ _ 1 (by decide), hcount]
    rfl
  · obtain ⟨hlow, hhigh⟩ := stepSeconds_fit hsize
    unfold Lane.geti
    rw [hsec]
    exact Lane.geti_setiSat_word _ rfl rfl hlow hhigh

theorem Lane.boundStep_chr (before after : Rat) : (L.boundStep before after).chr = L.chr := (rfl)

/-- Realigning the grid leaves the chronometer as it was stepped, and of the registers all but the Logbook's counts and the tick's own. -/
theorem Lane.stepRealigns_spec : (L.stepRealigns size src).chr = L.chr.stepped size ∧ (L.stepRealigns size src).tk.realigning = true ∧
    (L.stepShown size).keepsBut (L.stepRealigns size src) (Reg.TICK_POS_REALIGN :: Reg.TICK_STAT_REALIGN :: postFlds) ∧
    (L.stepRealigns size src).get Reg.TICK_POS_REALIGN = 1 := by
  have hpost : (L.stepShown size).logOnly (L.stepPosted size src) := Lane.logOnly_post _ _ _ _
  have hchr : (L.stepPosted size src).chr = (L.stepShown size).chr := hpost.read Lane.chr fun _ _ _ _ => rfl
  let T := ((L.stepPosted size src).boundStep L.now (L.now + size)).onTk fun k =>
    { k with realign := (L.stepPosted size src).gridDelay, realigning := true }
  have hT : T.chr = L.chr.stepped size := ((L.stepPosted size src).boundStep_chr L.now (L.now + size)).trans hchr
  have hR : L.stepRealigns size src = ((T.setb Reg.TICK_POS_REALIGN true).setb Reg.TICK_STAT_REALIGN true).find 0x02 7 := rfl
  rw [hR, Lane.find_get]
  refine ⟨?_, ?_, fun g hg ha => ?_, ?_⟩
  · exact hT
  · rfl
  · obtain ⟨hpos, ha⟩ := List.forall_mem_cons.1 ha
    obtain ⟨hstat, ha⟩ := List.forall_mem_cons.1 ha
    rw [Lane.find_get]
    exact (Lane.get_set_apart _ _ (by decide) hg hstat).trans ((Lane.get_set_apart _ _ (by decide) hg hpos).trans (hpost.get_eq ⟨hg, ha⟩))
  · exact (Lane.get_set_apart _ _ (by decide) (by decide) (by decide)).trans (T.get_setb _ true (by decide) rfl)

/-- After a step RECOVERING is left; nothing else changes but the status. -/
theorem Lane.stepTime_ends : (L.stepRealigns size src).chronOnly (L.stepTime size src) (Reg.CHR_SYNC_STATE :: chrStatFlds) ∧
    (L.stepTime size src).chr = (L.stepRealigns size src).chr := by
  rw [Lane.stepTime_eq]
  split
  · exact ⟨Lane.chronOnly_chrStat (by decide) (Lane.chronOnly_set _ (by decide) (by decide) (Lane.chronOnly_refl _ _)), Lane.chrStat_chr _⟩
  · exact ⟨Lane.chronOnly_chrStat (by decide) (Lane.chronOnly_refl _ _), Lane.chrStat_chr _⟩

/-- A step moves the chronometer, is counted and shown, and has the grid realigned. -/
theorem Lane.stepTime_spec :
    let M := L.stepTime size src
    M.chr = L.chr.stepped size ∧ M.get Reg.CHR_CNT_STEPS = min (L.get Reg.CHR_CNT_STEPS + 1) 65535 ∧ M.tk.realigning = true ∧
    M.get Reg.TICK_POS_REALIGN = 1 ∧
    (absQ size < 2 ^ 30 * 1000000000 → M.geti Reg.CHR_STEP_SEC_SEC = stepSign size * (absQ size / 1000000000).floor) := by
  intro M
  obtain ⟨hends, hchrEnd⟩ := L.stepTime_ends size src
  obtain ⟨hchr, hrealigning, hkeep, hpos⟩ := L.stepRealigns_spec size src
  obtain ⟨hcount, hsec⟩ := L.stepShown_reads size
  refine ⟨hchrEnd.trans hchr, ?_, ?_, (hends.get_eq (by decide)).trans hpos, fun hsize => ?_⟩
  · exact (hends.get_eq (by decide)).trans ((hkeep.get_eq (by decide)).trans hcount)
  · exact (hends.read (·.tk.realigning) fun _ _ _ _ => rfl).trans hrealigning
  · have hget : M.get Reg.CHR_STEP_SEC_SEC = (L.stepShown size).get Reg.CHR_STEP_SEC_SEC :=
      (hends.get_eq (by decide)).trans (hkeep.get_eq (by decide))
    rw [← hsec hsize]
    unfold Lane.geti
    rw [hget]

end

section

variable {L : Lane} {size : Rat} {src : Nat}

/-- The next whole second of the chronometer, ns. -/
def Lane.wholeSecond (L : Lane) : Rat := 1000000000 * ((-((-(L.now / 1000000000)).floor) : Int) : Rat)

/-- A second that has passed since the last step is no hindrance. -/
theorem Lane.timeStep_due (hp : L.chr.pend = some ⟨size, src⟩) (hl : ∀ t ∈ L.chr.lastStep, t + 1000000000 ≤ L.now) (hc : L.coasting = false) :
    L.timeStep = (L.onChr fun c => { c with ns := L.wholeSecond }).stepTime size src := by
  have hdue : L.stepDue = some (size, src) := by simp [Lane.stepDue, hp]
  unfold Lane.timeStep
  rw [hdue]
  refine if_neg ?_
  cases hlast : L.chr.lastStep with
  | none => simp [hc]
  | some t => simpa [hc] using hl t hlast

/-- The active lane without a step of its own, a lane that stepped within the second, and a coasting one do not step. -/
theorem Lane.timeStep_none (h : (L.chr.pend = none ∧ L.active = true) ∨ (∃ t ∈ L.chr.lastStep, L.now < t + 1000000000) ∨ L.coasting = true) :
    L.timeStep = L := by
  unfold Lane.timeStep
  rcases h with ⟨hp, ha⟩ | hwait
  · have hdue : L.stepDue = none := by simp [Lane.stepDue, hp, ha]
    rw [hdue]
  · cases L.stepDue with
    | none => rfl
    | some q =>
      refine if_pos ?_
      rcases hwait with ⟨t, ht, hlt⟩ | hc
      · simp [Option.mem_def.1 ht, hlt]
      · simp [hc]

end

/-! ### The bound of HOLDOVER and the leap second (R343, R357) -/

section

variable {L : Lane}

theorem Lane.holdLimit_reached {h : HoldSt} (hh : L.chr.hold = some h) (hs : L.servo = 4) (he : L.cc.holdLimit < L.holdEst h)
    (hf : L.flag Reg.CHR_STAT_HOLD_OK = true) : L.holdLimit = (L.setb Reg.CHR_STAT_HOLD_OK false).setb Reg.CHR_FAULT_HOLD_LIMIT true := by
  unfold Lane.holdLimit
  rw [hh]
  exact if_pos ⟨hs, he, hf⟩

theorem Lane.holdLimit_reads (L : Lane) :
    let M := (L.setb Reg.CHR_STAT_HOLD_OK false).setb Reg.CHR_FAULT_HOLD_LIMIT true
    M.get Reg.CHR_STAT_HOLD_OK = 0 ∧ M.get Reg.CHR_FAULT_HOLD_LIMIT = 1 ∧ L.framed M [Reg.CHR_STAT_HOLD_OK, Reg.CHR_FAULT_HOLD_LIMIT] [] :=
  ⟨(Lane.get_set_addr _ _ (by decide)).trans (L.get_setb _ false (by decide) rfl), Lane.get_setb _ _ true (by decide) rfl,
    Lane.framed_setb true (by decide) (by decide) (Lane.framed_setb false (by decide) (by decide) (L.framed_refl _))⟩

/-- The offset of UTC after a leap second. -/
def LeapPend.applied (p : LeapPend) (v : Nat) : Nat := if p.plus then v + 1 else v - 1

/-- The offsets held of the sources changed at a leap second. -/
def Lane.leapStepped (L : Lane) (p : LeapPend) : Lane :=
  L.onChr fun c => { c with utcPtp := c.utcPtp.map p.applied, utcGnss := c.utcGnss.map p.applied }

/-- A leap second withdrawn, or applied, is no longer shown. -/
theorem Lane.setLeap_none (L : Lane) : L.setLeap none =
    ((L.onChr fun c => { c with leap := none }).setb Reg.CHR_UTC_LEAP61 false).setb Reg.CHR_UTC_LEAP59 false := by
  simp [Lane.setLeap, Lane.findIf]

theorem Lane.leapSecond_due {p : LeapPend} (hp : L.chr.leap = some p) (ht : p.atSec ≤ secOf L.now) :
    L.leapSecond = (((L.leapStepped p).setLeap none).set Reg.CHR_UTC_OFS (p.applied (L.get Reg.CHR_UTC_OFS))).find 0x40 7 := by
  unfold Lane.leapSecond
  rw [hp]
  exact if_pos ht

theorem Lane.leapSecond_early {p : LeapPend} (hp : L.chr.leap = some p) (ht : secOf L.now < p.atSec) : L.leapSecond = L := by
  unfold Lane.leapSecond
  rw [hp]
  exact if_neg (Nat.not_le.2 ht)

/-- A leap second changes the offset by one, and is pending no longer. -/
theorem Lane.leapSecond_spec {p : LeapPend} (hp : L.chr.leap = some p) (ht : p.atSec ≤ secOf L.now) (h0 : 0 < L.get Reg.CHR_UTC_OFS)
    (h255 : L.get Reg.CHR_UTC_OFS < 255) :
    let M := L.leapSecond
    M.get Reg.CHR_UTC_OFS = (if p.plus then L.get Reg.CHR_UTC_OFS + 1 else L.get Reg.CHR_UTC_OFS - 1) ∧ M.chr.leap = none ∧
    M.get Reg.CHR_UTC_LEAP61 = 0 ∧ M.get Reg.CHR_UTC_LEAP59 = 0 ∧
    L.framedChr M [Reg.CHR_UTC_OFS, Reg.CHR_UTC_LEAP61, Reg.CHR_UTC_LEAP59] [(0x40, 7)] := by
  intro M
  let N := (L.leapStepped p).onChr fun c => { c with leap := none }
  let v := p.applied (L.get Reg.CHR_UTC_OFS)
  have hM : M = (((N.setb Reg.CHR_UTC_LEAP61 false).setb Reg.CHR_UTC_LEAP59 false).set Reg.CHR_UTC_OFS v).find 0x40 7 := by
    rw [← Lane.setLeap_none]
    exact Lane.leapSecond_due hp ht
  have hv : v < 256 := by
    simp only [v, LeapPend.applied]
    split <;> omega
  rw [hM, Lane.find_get, Lane.find_get, Lane.find_get]
  refine ⟨Lane.get_set_fit _ _ (by decide) hv, rfl, ?_, ?_, ?_⟩
  · exact (Lane.get_set_apart _ _ (by decide) (by decide) (by decide)).trans ((Lane.get_set_apart _ _ (by decide) (by decide) (by decide)).trans
      (N.get_setb _ false (by decide) rfl))
  · exact (Lane.get_set_apart _ _ (by decide) (by decide) (by decide)).trans (Lane.get_setb _ _ false (by decide) rfl)
  · have hN : L.framedChr N [Reg.CHR_UTC_OFS, Reg.CHR_UTC_LEAP61, Reg.CHR_UTC_LEAP59] [] := L.framedChr_refl _
    exact Lane.framedChr_find (es := []) 0x40 7 rfl (Lane.framedChr_set v (by decide) (by decide) (Lane.framedChr_setb false (by decide) (by decide)
      (Lane.framedChr_setb false (by decide) (by decide) hN)))

end

/-! ### SET_TIME (R361) -/

/-- The fields that show a command of the chronometer and its result. -/
def chrCmdFlds : List Fld := [Reg.CHR_CMD_TAG, Reg.CHR_CMD_CMD, Reg.CHR_CMD_RESULT]

/-- The time staged for SET_TIME, ns. -/
def Lane.stagedTime (L : Lane) : Rat :=
  1000000000 * ((L.get Reg.CHR_ARG_SEC_LO_SEC + 2 ^ 32 * L.get Reg.CHR_ARG_SEC_HI_SEC : Nat) : Rat) + (L.get Reg.CHR_ARG_NS_NS : Rat)

/-- No source is QUALIFIED. -/
def Lane.noneQualified (L : Lane) : Prop := L.srcState 1 ≠ 3 ∧ L.srcState 2 ≠ 3 ∧ L.srcState 3 ≠ 3 ∧ L.srcState 4 ≠ 3

/-- SET_TIME shown. -/
def Lane.timeAsked (L : Lane) (tag : Nat) : Lane := L.setAll [(Reg.CHR_CMD_TAG, tag), (Reg.CHR_CMD_CMD, 1)]

/-- SET_TIME shown with its result. -/
def Lane.timeAnswered (L : Lane) (tag r : Nat) : Lane := (L.timeAsked tag).set Reg.CHR_CMD_RESULT r

/-- SET_TIME and its result shown. -/
def Lane.showsSetTime (M : Lane) (tag r : Nat) : Prop :=
  M.get Reg.CHR_CMD_TAG = tag ∧ M.get Reg.CHR_CMD_CMD = 1 ∧ M.get Reg.CHR_CMD_RESULT = r

/-- HOLDOVER's estimate started anew at a bound of 1 ms, with drift `u`. -/
def Lane.holdRestarted (L : Lane) (u : Rat) : Lane :=
  let H := L.onChr fun c => { c with hold := some { (c.hold.getD default) with t0 := L.now, e0 := 1000000, u := u, degraded := none } }
  let ok := decide (1000000 ≤ H.cc.holdLimit)
  (if H.flag Reg.CHR_STAT_HOLD_OK && !ok then H.setb Reg.CHR_FAULT_HOLD_LIMIT true else H).setb Reg.CHR_STAT_HOLD_OK ok

section

variable {L M : Lane} {tag r : Nat}

/-- A register other than CHR_CMD reads as before the command. -/
theorem Lane.get_timeAsked (L : Lane) (tag : Nat) {g : Fld} (hg : g.addr ≠ 0x10044) : (L.timeAsked tag).get g = L.get g :=
  (Lane.get_set_addr _ _ hg).trans (Lane.get_set_addr _ _ hg)

theorem Lane.timeAnswered_spec (L : Lane) (ht : tag < 256) (hr : r < 256) :
    (L.timeAnswered tag r).showsSetTime tag r ∧ L.framed (L.timeAnswered tag r) chrCmdFlds [] := by
  have hset := L.get_setAll [(Reg.CHR_CMD_TAG, tag), (Reg.CHR_CMD_CMD, 1), (Reg.CHR_CMD_RESULT, r)] (by simp)
    (show chrCmdFlds.Pairwise Fld.apart by decide)
  simp only [List.forall_mem_cons] at hset
  obtain ⟨htag, hcmd, hres, -⟩ := hset
  exact ⟨⟨htag.trans (Nat.mod_eq_of_lt ht), hcmd, hres.trans (Nat.mod_eq_of_lt hr)⟩,
    Lane.framed_set _ (by decide) (by decide) (Lane.framed_setAll _ (by simp [chrCmdFlds]) (L.framed_refl _))⟩

/-- Operations on other fields leave the result shown. -/
theorem Lane.showsSetTime_of_keeps {N : Lane} {fs : List Fld} (h : M.chronOnly N fs) (ha : ∀ f ∈ fs, f.addr ≠ 0x10044)
    (hM : M.showsSetTime tag r) : N.showsSetTime tag r := by
  obtain ⟨htag, hcmd, hres⟩ := hM
  have hget {g : Fld} (hg : g.lo + g.w ≤ 32) (hga : g.addr = 0x10044) : N.get g = M.get g :=
    h.get_eq ⟨hg, fun f hf => .inl fun he => ha f hf (he.symm.trans hga)⟩
  exact ⟨(hget (by decide) rfl).trans htag, (hget (by decide) rfl).trans hcmd, (hget (by decide) rfl).trans hres⟩

/-- The guard of an active lane's SET_TIME (R361). -/
def Lane.refusesTime (L : Lane) : Bool :=
  !(decide (L.servo = 0) || decide (L.servo = 1) || decide (L.servo = 4) || decide (L.servo = 6)) || decide (L.srcState 1 = 3) ||
    decide (L.srcState 2 = 3) || decide (L.srcState 3 = 3) || decide (L.srcState 4 = 3)

theorem Lane.refusesTime_iff : L.refusesTime = true ↔ ¬L.noneQualified ∨ L.servo ∉ [0, 1, 4, 6] := by
  simp only [Lane.refusesTime, Lane.noneQualified, Bool.or_eq_true, Bool.not_eq_true', decide_eq_true_eq, Bool.or_eq_false_iff, decide_eq_false_iff_not,
    List.mem_cons, List.not_mem_nil, or_false]
  tauto

/-- The command shown leaves the guard and the staged time as they were. -/
theorem Lane.timeAsked_guards (L : Lane) (tag : Nat) : (L.timeAsked tag).active = L.active ∧ (L.timeAsked tag).servo = L.servo ∧
    (L.timeAsked tag).refusesTime = L.refusesTime ∧ (L.timeAsked tag).stagedTime = L.stagedTime := by
  have hservo : (L.timeAsked tag).servo = L.servo := L.get_timeAsked tag (by decide)
  have hsrc (k : Nat) (hk : 1 ≤ k ∧ k ≤ 4) : (L.timeAsked tag).srcState k = L.srcState k :=
    L.get_timeAsked tag (show 0x10080 + 0x10 * k ≠ 0x10044 by omega)
  refine ⟨congrArg (· != 0) (L.get_timeAsked tag (by decide)), hservo, ?_, ?_⟩
  · unfold Lane.refusesTime
    rw [hservo, hsrc 1 (by decide), hsrc 2 (by decide), hsrc 3 (by decide), hsrc 4 (by decide)]
  · unfold Lane.stagedTime
    rw [L.get_timeAsked tag (by decide), L.get_timeAsked tag (by decide), L.get_timeAsked tag (by decide)]

theorem Lane.setTime_inactive (ha : L.active = false) : L.setTime tag = L.timeAnswered tag 3 := by
  obtain ⟨hact, -⟩ := L.timeAsked_guards tag
  exact if_pos (show (!(L.timeAsked tag).active) = true by simp [hact, ha])

theorem Lane.setTime_refused (ha : L.active = true) (h : L.refusesTime = true) : L.setTime tag = L.timeAnswered tag 2 := by
  obtain ⟨hact, -, href, -⟩ := L.timeAsked_guards tag
  exact (if_neg (show ¬(!(L.timeAsked tag).active) = true by simp [hact, ha])).trans (if_pos (href.trans h))

/-- A command that is taken steps or slews in HOLDOVER, and enters HOLDOVER with a step in the other states. -/
theorem Lane.setTime_taken (ha : L.active = true) (h : L.refusesTime = false) : ∃ u, L.setTime tag =
    let A := L.timeAnswered tag 0
    let x := L.now - L.stagedTime
    if L.servo = 4 then
      let H := A.holdRestarted u
      if 1000000 ≤ absQ x then ((H.setS L.now 0).onChr fun c => { c with pend := some ⟨-x, 0⟩, setSlew := none }).chrStat
      else ((H.setS L.now (if x < 0 then 1000 else if 0 < x then -1000 else 0)).onChr fun c =>
        { c with pend := none, setSlew := some (c.slewAt L.now - x) }).chrStat
    else (A.enterHoldover 1000000 u).onChr fun c => { c with stepNext := some ⟨-x, 0⟩ } := by
  obtain ⟨hact, hservo, href, hstaged⟩ := L.timeAsked_guards tag
  rw [← hservo, ← hstaged]
  exact ⟨_, (if_neg (show ¬(!(L.timeAsked tag).active) = true by simp [hact, ha])).trans
    ((if_neg (show ¬(L.timeAsked tag).refusesTime = true by simp [href, h])).trans rfl)⟩

/-- SET_TIME of a clock without time, or of one that recovers: HOLDOVER, with the step at the next tick start. -/
theorem Lane.setTime_steps (ht : tag < 256) (ha : L.active = true) (hq : L.noneQualified) (h : L.servo = 0 ∨ L.servo = 1 ∨ L.servo = 6) :
    let M := L.setTime tag
    M.showsSetTime tag 0 ∧ M.servo = 4 ∧ M.selected = 0 ∧ M.chr.stepNext = some ⟨-(L.now - L.stagedTime), 0⟩ ∧ M.chr.s = 0 ∧ M.chr.ns = L.chr.ns := by
  intro M
  have href : L.refusesTime = false := by
    rw [← Bool.not_eq_true, Lane.refusesTime_iff]
    rcases h with h | h | h <;> simp [h, hq]
  obtain ⟨u, hu⟩ := Lane.setTime_taken (tag := tag) ha href
  have hM : M = _ := hu.trans (if_neg (by omega))
  obtain ⟨hshows, -⟩ := L.timeAnswered_spec ht (r := 0) (by decide)
  obtain ⟨hservo, hsel, hs, hns⟩ := (L.timeAnswered tag 0).enterHoldover_spec 1000000 u
  have hold : (L.timeAnswered tag 0).chronOnly ((L.timeAnswered tag 0).enterHoldover 1000000 u) selectFlds :=
    Lane.chronOnly_enterHoldover (List.Subset.refl _) _ _ (Lane.chronOnly_refl _ _)
  rw [hM]
  exact ⟨Lane.showsSetTime_of_keeps (Lane.chronOnly_onChr _ hold) (by decide) hshows, hservo, hsel, rfl, hs, hns⟩

/-- The estimate started anew writes the bound's two flags; the frequency stands. -/
theorem Lane.holdRestarted_spec (L : Lane) (u : Rat) : L.chronOnly (L.holdRestarted u) [Reg.CHR_STAT_HOLD_OK, Reg.CHR_FAULT_HOLD_LIMIT] ∧
    (L.holdRestarted u).chr.f = L.chr.f := by
  have honChr (g : ChronSt → ChronSt) : L.chronOnly (L.onChr g) [Reg.CHR_STAT_HOLD_OK, Reg.CHR_FAULT_HOLD_LIMIT] := L.chronOnly_refl _
  refine ⟨Lane.chronOnly_set _ (by decide) (by decide) (Lane.chronOnly_ite (Lane.chronOnly_set _ (by decide) (by decide) (honChr _)) (honChr _)), ?_⟩
  unfold Lane.holdRestarted
  dsimp only
  split <;> rfl

/-- SET_TIME in HOLDOVER by 1 ms or more: the step is pending, the slew at rest. -/
theorem Lane.setTime_pends (ht : tag < 256) (ha : L.active = true) (hq : L.noneQualified) (h4 : L.servo = 4)
    (hx : 1000000 ≤ absQ (L.now - L.stagedTime)) :
    let M := L.setTime tag
    M.showsSetTime tag 0 ∧ M.servo = 4 ∧ M.chr.pend = some ⟨-(L.now - L.stagedTime), 0⟩ ∧ M.chr.s = 0 ∧ M.chr.f = L.chr.f := by
  intro M
  have href : L.refusesTime = false := by
    rw [← Bool.not_eq_true, Lane.refusesTime_iff]
    simp [h4, hq]
  obtain ⟨u, hu⟩ := Lane.setTime_taken (tag := tag) ha href
  let N := (((L.timeAnswered tag 0).holdRestarted u).setS L.now 0).onChr fun c => { c with pend := some ⟨-(L.now - L.stagedTime), 0⟩, setSlew := none }
  have hM : M = N.chrStat := hu.trans ((if_pos h4).trans (if_pos hx))
  obtain ⟨hshows, hframe⟩ := L.timeAnswered_spec ht (r := 0) (by decide)
  obtain ⟨hrest, hfreq⟩ := (L.timeAnswered tag 0).holdRestarted_spec u
  have honly : (L.timeAnswered tag 0).chronOnly M (Reg.CHR_STAT_HOLD_OK :: Reg.CHR_FAULT_HOLD_LIMIT :: chrStatFlds) := by
    rw [hM]
    exact Lane.chronOnly_chrStat (by decide) ⟨fun g hg hap => hrest.1 g hg fun f hf => hap f (List.mem_append_left chrStatFlds hf), hrest.2⟩
  have hM' : M.chr = N.chr := by rw [hM, Lane.chrStat_chr]
  have hs : N.chr.s = ppbQ 0 := rfl
  have hf : N.chr.f = ((L.timeAnswered tag 0).holdRestarted u).chr.f := rfl
  refine ⟨Lane.showsSetTime_of_keeps honly (by decide) hshows, ?_, ?_, ?_, ?_⟩
  · exact (honly.get_eq (by decide)).trans ((hframe.1.get_eq (by decide)).trans h4)
  · rw [hM']
    rfl
  · rw [hM', hs, ppbQ_zero]
  · rw [hM', hf, hfreq]
    rfl

/-- The slew of SET_TIME ends at its target. -/
theorem Lane.setTimeSlewEnd_reached {target : Rat} (ht : L.chr.setSlew = some target) (hs : 0 ≤ L.chr.s) (h : target ≤ L.chr.slewAt L.now) :
    L.setTimeSlewEnd = L.onChr fun c => { c with slewInt := target, slewT := L.now, s := 0, setSlew := none } := by
  unfold Lane.setTimeSlewEnd
  rw [ht]
  exact if_pos (.inl ⟨hs, h⟩)

theorem Lane.setTimeSlewEnd_none (h : L.chr.setSlew = none) : L.setTimeSlewEnd = L := by
  unfold Lane.setTimeSlewEnd
  rw [h]

end

/-- Settles O35: the step, the bound, the leap second and SET_TIME by what each makes of the lane. -/
theorem timeSetting : Obligations.TimeSetting := by
  unfold Obligations.TimeSetting
  intro s l
  dsimp only
  refine ⟨fun size src hp hl hc => ?step, fun h => ?noStep, fun h hh hs he hf => ?bound, fun p hp ht h0 h255 => ?leap, fun p hp ht => ?noLeap,
    fun tag ht => ⟨fun ha => ?inactive, fun ha h => ?refused, fun ha hq h => ?steps, fun ha hq h4 hx => ?pends⟩,
    fun target ht hs h => ?slewEnds, fun h => ?noSlew⟩
  case step =>
    refine onLane_of_eq rfl (Lane.timeStep_due hp hl hc) ?_
    obtain ⟨hchr, hcount, hrealigning, hpos, hsec⟩ := ((s.lane l).onChr fun c => { c with ns := (s.lane l).wholeSecond }).stepTime_spec size src
    unfold Lane.now
    rw [hchr]
    exact ⟨rfl, rfl, rfl, rfl, rfl, rfl, hcount, hrealigning, hpos, hsec⟩
  case noStep => exact idle_of_exec rfl (Lane.timeStep_none h)
  case bound => exact onLane_of_eq rfl (Lane.holdLimit_reached hh hs he hf) (s.lane l).holdLimit_reads
  case leap => exact onLane_of_exec rfl (Lane.leapSecond_spec hp ht h0 h255)
  case noLeap => exact idle_of_exec rfl (Lane.leapSecond_early hp ht)
  case inactive => exact onLane_of_eq rfl (Lane.setTime_inactive ha) ((s.lane l).timeAnswered_spec ht (by decide))
  case refused =>
    have href : (s.lane l).refusesTime = true := Lane.refusesTime_iff.2 (h.imp id fun hs => by
      simp only [List.mem_cons, List.not_mem_nil, or_false] at hs ⊢
      omega)
    exact onLane_of_eq rfl (Lane.setTime_refused ha href) ((s.lane l).timeAnswered_spec ht (by decide))
  case steps => exact onLane_of_exec rfl (Lane.setTime_steps ht ha hq h)
  case pends => exact onLane_of_exec rfl (Lane.setTime_pends ht ha hq h4 hx)
  case slewEnds => exact onLane_of_eq rfl (Lane.setTimeSlewEnd_reached ht hs h) rfl
  case noSlew => exact idle_of_exec rfl (Lane.setTimeSlewEnd_none h)

end Sys2Proof.Machine
end

section
/-! Sources taken, lost and disabled (09 R349, R350, R355, R372): the lane after each of these commands. -/

namespace Sys2Proof.Machine

open Sys2Proof

/-! ### A source taken (R350, R354, R355) -/

/-- The pending step of SET_TIME stands, one of a source is cancelled. -/
def pendKept (p : Option StepPend) : Option StepPend :=
  match p with
  | some q => if q.src = 0 then some q else none
  | none => none

theorem src_pendKept {p : Option StepPend} : ∀ q ∈ pendKept p, q.src = 0 := by
  intro q hq
  cases p with
  | none => cases hq
  | some r =>
    simp only [pendKept] at hq
    split at hq
    · cases hq
      assumption
    · cases hq

/-- The record when source `k` is taken. -/
def ChronSt.taken (c : ChronSt) (k : Nat) : ChronSt :=
  { c with pend := pendKept c.pend, lastSel := k, hold := none, setSlew := none, lockIn := 0, lockOut := 0,
           utcPtp := if k = 2 ∨ k = 3 then (c.dom (k - 2)).best.bind PtpDs.utc else none }

/-- Source `k` taken, before a switch is counted. -/
def Lane.sourceTaken (L : Lane) (k : Nat) : Lane := (((L.onChr fun c => c.taken k).set Reg.CHR_SYNC_SRC k).setb Reg.CHR_STAT_HOLD_OK false).utcUpdate

section

variable {L : Lane} {k : Nat}

theorem Lane.takeSource_same (h : L.selected = k) : L.takeSource k = L := if_pos h

/-- Another source is taken; a switch from a source selected before is counted. -/
theorem Lane.takeSource_other (h : L.selected ≠ k) : L.takeSource k =
    if decide (L.chr.lastSel ≠ 0) && decide (L.chr.lastSel ≠ k) then ((L.sourceTaken k).incSat Reg.CHR_CNT_SWITCHES).find 0x40 3 else L.sourceTaken k :=
  if_neg h

theorem Lane.sourceTaken_chr (L : Lane) (k : Nat) : (L.sourceTaken k).chr = L.chr.taken k := Lane.utcUpdate_chr _

/-- The fields that taking a source writes. -/
theorem Lane.sourceTaken_reads (L : Lane) (hk : k < 16) : (L.sourceTaken k).selected = k ∧
    (L.sourceTaken k).get Reg.CHR_CNT_SWITCHES = L.get Reg.CHR_CNT_SWITCHES := by
  let T := (L.onChr fun c => c.taken k).set Reg.CHR_SYNC_SRC k
  have hS : L.sourceTaken k = (T.setb Reg.CHR_STAT_HOLD_OK false).utcUpdate := rfl
  have hutc := (T.setb Reg.CHR_STAT_HOLD_OK false).writesOnly_utcUpdate.1
  constructor
  · rw [Lane.selected, hS, hutc.get_eq (by decide), Lane.setb, Lane.get_set_addr _ _ (by decide), Lane.get_set_fit _ _ (by decide) hk]
  · rw [hS, hutc.get_eq (by decide), Lane.setb, Lane.get_set_addr _ _ (by decide), Lane.get_set_addr _ _ (by decide), Lane.onChr_get]

theorem Lane.sourceTaken_now (L : Lane) (k : Nat) : (L.sourceTaken k).now = L.now := by
  unfold Lane.now
  rw [Lane.sourceTaken_chr]
  rfl

theorem Lane.takeSource_chr (h : L.selected ≠ k) : (L.takeSource k).chr = L.chr.taken k := by
  rw [Lane.takeSource_other h, apply_ite Lane.chr, Lane.find_chr]
  exact (ite_self _).trans (L.sourceTaken_chr k)

theorem Lane.selected_takeSource (L : Lane) (hk : k < 16) : (L.takeSource k).selected = k := by
  by_cases h : L.selected = k
  · rwa [Lane.takeSource_same h]
  · obtain ⟨hsel, -⟩ := L.sourceTaken_reads hk
    rw [Lane.takeSource_other h]
    split
    · rw [Lane.selected, Lane.find_get, Lane.get_incSat_addr 1 (by decide)]
      exact hsel
    · exact hsel

end

/-! ### A better source taken again (R350) -/

section

variable {L : Lane} {k : Nat}

theorem Lane.sourceRevert_due {t : Rat} (hq : (L.chr.src k).qualSince = some t) (h3 : L.srcState k = 3) (h0 : L.selected ≠ 0)
    (ha : L.active = true ∨ L.srcState 4 ≠ 3) (hr : L.cc.rank k < L.cc.rank L.selected) (ht : t + L.cc.revertHold ≤ L.now) :
    L.sourceRevert k = (L.takeSource k).chrStat := by
  unfold Lane.sourceRevert
  rw [hq]
  exact if_pos ⟨h3, h0, ha, hr, ht⟩

/-- A source taken in the place of the one last selected is a switch, with its event. -/
theorem Lane.takeSource_switches (hk : k < 16) (hne : L.selected ≠ k) (h0 : L.selected ≠ 0) (hl : L.chr.lastSel = L.selected) :
    let M := (L.takeSource k).chrStat
    M.selected = k ∧ M.chr.lastSel = k ∧ (∀ q ∈ M.chr.pend, q.src = 0) ∧ M.get Reg.CHR_CNT_SWITCHES = min (L.get Reg.CHR_CNT_SWITCHES + 1) 255 ∧
    L.ev 0x40 3 ∈ M.found := by
  intro M
  have htaken : L.takeSource k = ((L.sourceTaken k).incSat Reg.CHR_CNT_SWITCHES).find 0x40 3 :=
    (Lane.takeSource_other hne).trans (if_pos (by simp [hl, h0, hne]))
  have hchr : M.chr = L.chr.taken k := (Lane.chrStat_chr _).trans (Lane.takeSource_chr hne)
  have hstat := (L.takeSource k).writesOnly_chrStat.1
  obtain ⟨-, hcount⟩ := L.sourceTaken_reads hk
  refine ⟨(hstat.get_eq (by decide)).trans (L.selected_takeSource hk), ?_, ?_, ?_, ?_⟩
  · rw [hchr]
    rfl
  · rw [hchr]
    exact src_pendKept
  · refine (hstat.get_eq (by decide)).trans ?_
    rw [htaken, Lane.find_get, Lane.get_incSat _ _ 1 (by decide), hcount]
    rfl
  · refine Lane.mem_findIf _ _ _ (show L.ev 0x40 3 ∈ (L.takeSource k).found from ?_)
    have hnow : ((L.sourceTaken k).incSat Reg.CHR_CNT_SWITCHES).now = L.now := L.sourceTaken_now k
    rw [htaken, Lane.find_found, hnow]
    exact List.mem_append_right _ (List.mem_singleton_self _)

end

/-! ### A source lost (R349) -/

section

variable {L M : Lane} {k st : Nat}

/-- A source's fields lie in another register than the status, the selection and the counts. -/
theorem srcStat_apart_select (k : Nat) {g : Fld} (hg : g.addr = 0x10080 + 0x10 * k) : ∀ f ∈ selectFlds, g.apart f := by
  have hlow : ∀ f ∈ selectFlds, f.addr < 0x10080 := by decide
  intro f hf
  have := hlow f hf
  exact .inl (by omega)

/-- The source without its history, in a state without data. -/
def Lane.srcCleared (L : Lane) (k st : Nat) : Lane :=
  (L.onChr fun c => c.setSrc k {}).setAll [(Reg.CHR_SRC_STAT_STATE k, st), (Reg.CHR_SRC_STAT_QUAL k, 0)]

theorem Lane.srcCleared_reads (L : Lane) (k : Nat) (hst : st < 4) : (L.srcCleared k st).srcState k = st ∧ (L.srcCleared k st).get (Reg.CHR_SRC_STAT_QUAL k) = 0 := by
  have hset := (L.onChr fun c => c.setSrc k {}).get_setAll [(Reg.CHR_SRC_STAT_STATE k, st), (Reg.CHR_SRC_STAT_QUAL k, 0)] (by simp)
    (List.pairwise_pair.2 (.inr (.inl (show 0 + 2 ≤ 8 by decide))))
  simp only [List.forall_mem_cons] at hset
  obtain ⟨hstate, hqual, -⟩ := hset
  exact ⟨hstate.trans (Nat.mod_eq_of_lt hst), hqual⟩

theorem Lane.dropSource_eq (L : Lane) (k st : Nat) : L.dropSource k st =
    if decide (L.selected = k) && decide (k ≠ 0) then (L.srcCleared k st).reselect (L.lastX k) else L.srcCleared k st := (rfl)

/-- A source dropped shows its new state, whether it was selected or not. -/
theorem Lane.srcState_dropSource (L : Lane) (k : Nat) (hst : st < 4) : (L.dropSource k st).srcState k = st := by
  obtain ⟨hstate, -⟩ := L.srcCleared_reads k hst
  rw [Lane.dropSource_eq]
  split
  · have hsel := Lane.chronOnly_reselect (List.Subset.refl _) (L.lastX k) ((L.srcCleared k st).chronOnly_refl _)
    exact (hsel.get_eq ⟨by simp, srcStat_apart_select k rfl⟩).trans hstate
  · exact hstate

theorem Lane.sourceLoss_due (h : L.srcState k = 2 ∨ L.srcState k = 3) (ht : L.cc.loss k ≤ 1000000 * (L.get (Reg.CHR_SRC_STAT_AGE k) : Rat))
    (hsel : L.selected ≠ k) : L.sourceLoss k = L.srcCleared k 1 := (if_pos ⟨h, ht⟩).trans (if_neg (by simp [hsel]))

theorem Lane.srcCleared_spec (L : Lane) (k : Nat) (hst : st < 4) :
    let M := L.srcCleared k st
    M.srcState k = st ∧ M.get (Reg.CHR_SRC_STAT_QUAL k) = 0 ∧ M.chr.src k = {} ∧
    L.framedChr M [Reg.CHR_SRC_STAT_STATE k, Reg.CHR_SRC_STAT_QUAL k] [] := by
  obtain ⟨hstate, hqual⟩ := L.srcCleared_reads k hst
  exact ⟨hstate, hqual, L.chr.src_setSrc k {}, Lane.framedChr_setAll _ (by simp) (Lane.framedChr_onChr _ (L.framedChr_refl _))⟩

end

/-! ### Sources disabled (R350, R372) -/

/-- One source brought into line with the mask of disabled sources. -/
def Lane.srcMasked (M : Lane) (k : Nat) : Lane :=
  if M.srcAbsent k then (if M.srcState k = 0 then M else M.dropSource k 0)
  else if M.srcState k = 0 then M.set (Reg.CHR_SRC_STAT_STATE k) 1 else M

theorem Lane.applySrcDis_eq (L : Lane) (mask : Nat) : L.applySrcDis mask = [1, 2, 3, 4].foldl Lane.srcMasked (L.set Reg.CHR_SRC_DIS_MASK mask) := (rfl)

section

variable {M : Lane} {j k : Nat}

theorem Lane.chronOnly_srcMasked (M : Lane) (j : Nat) :
    M.chronOnly (M.srcMasked j) (Reg.CHR_SRC_STAT_STATE j :: Reg.CHR_SRC_STAT_QUAL j :: selectFlds) :=
  have hrefl := M.chronOnly_refl (Reg.CHR_SRC_STAT_STATE j :: Reg.CHR_SRC_STAT_QUAL j :: selectFlds)
  Lane.chronOnly_ite (Lane.chronOnly_ite hrefl (Lane.chronOnly_dropSource (fun _ hf => by simp [hf]) 0 (by simp) (by simp) hrefl))
    (Lane.chronOnly_ite (Lane.chronOnly_set 1 (by simp) (by simp) hrefl) hrefl)

/-- The mask stands. -/
theorem Lane.disMask_srcMasked (M : Lane) (j : Nat) : (M.srcMasked j).get Reg.CHR_SRC_DIS_MASK = M.get Reg.CHR_SRC_DIS_MASK := by
  have hsel : ∀ f ∈ selectFlds, Reg.CHR_SRC_DIS_MASK.apart f := by decide
  have hj : (0x10040 : Nat) ≠ 0x10080 + 0x10 * j := by omega
  exact (M.chronOnly_srcMasked j).get_eq ⟨by decide, List.forall_mem_cons.2 ⟨.inl hj, List.forall_mem_cons.2 ⟨.inl hj, hsel⟩⟩⟩

theorem Lane.srcDisabled_srcMasked (M : Lane) (j k : Nat) : (M.srcMasked j).srcDisabled k = M.srcDisabled k :=
  congrArg (decide (k ≤ 3) && testBit · (k - 1)) (M.disMask_srcMasked j)

/-- A disabled source is ABSENT once it is brought into line, and stays so. -/
theorem Lane.srcState_srcMasked (hd : M.srcDisabled k = true) (h : j = k ∨ M.srcState k = 0) : (M.srcMasked j).srcState k = 0 := by
  by_cases hj : j = k
  · subst hj
    refine (congrArg (Lane.srcState · j) (if_pos (by simp [Lane.srcAbsent, hd]))).trans ?_
    split
    · assumption
    · exact M.srcState_dropSource j (by decide)
  · have haddr : 0x10080 + 0x10 * k ≠ 0x10080 + 0x10 * j := by omega
    exact ((M.chronOnly_srcMasked j).get_eq ⟨by simp, List.forall_mem_cons.2 ⟨.inl haddr, List.forall_mem_cons.2 ⟨.inl haddr,
      srcStat_apart_select k rfl⟩⟩⟩).trans (h.resolve_left hj)

/-- Bringing sources into line keeps the mask, and leaves each disabled one of them ABSENT. -/
theorem Lane.foldl_srcMasked (ks : List Nat) : ∀ M : Lane, (ks.foldl Lane.srcMasked M).get Reg.CHR_SRC_DIS_MASK = M.get Reg.CHR_SRC_DIS_MASK ∧
    ∀ k, M.srcDisabled k = true → k ∈ ks ∨ M.srcState k = 0 → (ks.foldl Lane.srcMasked M).srcState k = 0 := by
  induction ks with
  | nil => exact fun M => ⟨rfl, fun k _ h => h.resolve_left List.not_mem_nil⟩
  | cons j ks ih =>
    intro M
    obtain ⟨hmask, hstate⟩ := ih (M.srcMasked j)
    refine ⟨hmask.trans (M.disMask_srcMasked j), fun k hd h => hstate k ((M.srcDisabled_srcMasked j k).trans hd) ?_⟩
    by_cases hk : k ∈ ks
    · exact .inl hk
    · exact .inr (Lane.srcState_srcMasked hd (by simpa [hk, eq_comm] using h))

end

section

variable {L : Lane} {mask : Nat}

theorem Lane.writeSrcDis_inactive (ha : L.active = false) : L.writeSrcDis mask = L := if_neg (by simp [ha])

/-- The active lane takes the mask, and the sources it disables are ABSENT. -/
theorem Lane.writeSrcDis_spec (hm : mask < 8) (ha : L.active = true) :
    let M := L.writeSrcDis mask
    M.get Reg.CHR_SRC_DIS_MASK = mask ∧ M.chr.srcDisWritten = true ∧ (∀ k, 1 ≤ k → k ≤ 3 → testBit mask (k - 1) = true → M.srcState k = 0) := by
  intro M
  have hM : M = (L.applySrcDis mask).onChr fun c => { c with srcDisWritten := true } := if_pos ha
  obtain ⟨hmask, hstate⟩ := Lane.foldl_srcMasked [1, 2, 3, 4] (L.set Reg.CHR_SRC_DIS_MASK mask)
  have hget : (L.set Reg.CHR_SRC_DIS_MASK mask).get Reg.CHR_SRC_DIS_MASK = mask := L.get_set_fit _ (by decide) hm
  rw [hM]
  refine ⟨hmask.trans hget, rfl, fun k h1 h3 hb => hstate k ?_ (.inl (by simp only [List.mem_cons]; omega))⟩
  simp only [Lane.srcDisabled, h3, decide_true, Bool.true_and]
  exact (congrArg (testBit · (k - 1)) hget).trans hb

end

end Sys2Proof.Machine
end

section
/-! Offsets of the Sextant (09 R345, R347-R349, R352, R353): the lane after an offset taken in, and after SNAP. -/

namespace Sys2Proof.Machine

open Sys2Proof

/-! ### SNAP (R347) -/

/-- The chronometer's time as SNAP shows it. -/
def Lane.snapFlds (L : Lane) : List (Fld × Nat) :=
  [(Reg.CHR_SNAP_SEC_LO_SEC, secOf L.now), (Reg.CHR_SNAP_SEC_HI_SEC, secOf L.now / 2 ^ 32), (Reg.CHR_SNAP_SEC_HI_FRAC, fracOf L.now),
    (Reg.CHR_SNAP_NS_NS, nsOf L.now)]

theorem Lane.snap_spec (L : Lane) : let M := L.snap
    M.get Reg.CHR_SNAP_SEC_LO_SEC = secOf L.now % 2 ^ 32 ∧ M.get Reg.CHR_SNAP_SEC_HI_SEC = secOf L.now / 2 ^ 32 % 2 ^ 16 ∧
    M.get Reg.CHR_SNAP_SEC_HI_FRAC = fracOf L.now % 2 ^ 16 ∧ M.get Reg.CHR_SNAP_NS_NS = nsOf L.now % 2 ^ 30 ∧
    L.framed M [Reg.CHR_SNAP_SEC_LO_SEC, Reg.CHR_SNAP_SEC_HI_SEC, Reg.CHR_SNAP_SEC_HI_FRAC, Reg.CHR_SNAP_NS_NS] [] := by
  have hset := L.get_setAll L.snapFlds (by simp [Lane.snapFlds]) (by simp [Lane.snapFlds, Fld.apart])
  simp only [Lane.snapFlds, List.forall_mem_cons] at hset
  obtain ⟨hlo, hhi, hfrac, hns, -⟩ := hset
  exact ⟨hlo, hhi, hfrac, hns, Lane.framed_setAll L.snapFlds (by simp [Lane.snapFlds]) (L.framed_refl _)⟩

/-! ### What an offset makes of its source (R348, R349) -/

section

variable (L : Lane) (k : Nat) (x t : Rat)

/-- The offset lies outside the gate. -/
def Lane.outsideGate : Bool :=
  match L.deviation k x t with
  | some d => decide (L.cc.gate < d)
  | none => false

/-- The offset lies near its prediction, or is the first of its source. -/
def Lane.nearPrediction : Bool :=
  match L.deviation k x t with
  | some d => decide (d ≤ L.cc.qualTol)
  | none => true

/-- The source leaves QUALIFIED. -/
def Lane.offsetLeaves : Bool := decide (L.srcState k = 3) && L.outsideGate k x t && decide (8 ≤ (L.chr.src k).gateRun + 1)

/-- The source's record with the offset noted. -/
def Lane.srcNoted : ChrSrc :=
  let p := L.chr.src k
  { p with gateRun := if L.outsideGate k x t then p.gateRun + 1 else 0,
           run := if L.nearPrediction k x t && !L.offsetLeaves k x t then min 256 (p.run + 1) else 0,
           big := bigRun p.big x, last16 := (x :: p.last16).take 16 }

/-- The offset shown. -/
def Lane.offsetShown : Lane := L.setiSat (Reg.CHR_SRC_OFS_X k) (codeOf x 1)

/-- The offset noted, its age 0, the spread of sixteen shown. -/
def Lane.offsetAged : Lane :=
  let p := L.srcNoted k x t
  let N := (L.onChr fun c => c.setSrc k p).set (Reg.CHR_SRC_STAT_AGE k) 0
  if p.last16.length = 16 then
    let m := meanQ p.last16
    N.setScaled (Reg.CHR_SRC_SIG_SPREAD k) (Config.sqrt (meanQ (p.last16.map fun y => (y - m) * (y - m)))) 1
  else N

/-- The offset counted, and counted as outside the gate where it is. -/
def Lane.offsetCounted : Lane :=
  (if L.outsideGate k x t then (L.offsetAged k x t).incSat (Reg.CHR_SRC_SIG_GATE_FAIL k) else L.offsetAged k x t).incSat (Reg.CHR_SRC_STAT_QUAL k)

/-- The source becomes QUALIFIED. -/
def Lane.offsetGains : Bool := decide (L.srcState k ≠ 3) && decide ((L.offsetCounted k x t).cc.qualN ≤ (L.srcNoted k x t).run)

/-- The source's state after the offset. -/
def Lane.offsetState : Nat := if L.offsetLeaves k x t then 2 else if L.offsetGains k x t then 3 else if L.srcState k = 3 then 3 else 2

/-- The time since which the source is QUALIFIED after the offset. -/
def Lane.offsetSince : Option Rat :=
  if L.offsetGains k x t then some t else if L.offsetLeaves k x t then none else (L.chr.src k).qualSince

/-- The source's state shown, and the time since which it is QUALIFIED. -/
def Lane.offsetNoted : Lane :=
  ((L.offsetCounted k x t).set (Reg.CHR_SRC_STAT_STATE k) (L.offsetState k x t)).onChr fun c => c.setSrc k
    { c.src k with qualSince := L.offsetSince k x t }

/-- The clock is not set yet, or its first step waits for a source of lower rank than one with its first offset `p`. -/
def Lane.takesFirst (p : ChrSrc) : Bool :=
  decide (L.servo = 0) || decide (L.servo = 1) || match L.chr.stepNext with
    | some s => decide (p.prev = none) && decide (s.src ≠ k) && decide (s.src ≠ 0) && decide (L.cc.rank k < L.cc.rank s.src)
    | none => false

/-- The previous offset of a source as the next prediction takes it. -/
def Lane.prevNoted (p : Option (Rat × Rat × Rat × Rat)) : Lane := L.onChr fun c => c.setSrc k { c.src k with prev := p }

/-- A valid offset taken in: noted, the source selected where it is to be, the clock steered by it. -/
def Lane.offsetTaken : Lane :=
  let p := L.chr.src k
  let N := L.offsetNoted k x t
  let first := N.takesFirst k p
  let S := if first then N.firstOffset k x
    else if L.offsetLeaves k x t && decide (N.selected = k) then N.reselect x
    else if L.offsetGains k x t then N.onQualified k x
    else N
  let R := if first || L.outsideGate k x t || decide (S.selected ≠ k) then S
    else if absQ x < 1000000 then ((if S.servo = 6 then S.set Reg.CHR_SYNC_STATE 2 else S).prevNoted k p.prev).steer k x t
    else S.pendStep k
  (R.prevNoted k (some (x, t, L.chr.slewAt t, L.chr.stepSum))).chrStat

end

section

variable {L : Lane} {tL gps sigma t : Rat}

theorem Lane.offset_none (h : L.servo = 5 ∨ L.srcAbsent 1 = true) : L.offset (.gnss tL gps sigma) t = L := if_pos h

variable (hs : L.servo ≠ 5) (ha : L.srcAbsent 1 = false)
include hs ha

theorem Lane.offset_invalid (hsig : 100 < sigma) : L.offset (.gnss tL gps sigma) t =
    ((L.offsetShown 1 (gpsTimeOf tL - gps)).set (Reg.CHR_SRC_STAT_QUAL 1) 0).onChr fun c => c.setSrc 1 { c.src 1 with run := 0 } :=
  (if_neg (by simp [hs, ha])).trans (if_pos (decide_eq_false (not_le.2 hsig)))

theorem Lane.offset_valid (hsig : sigma ≤ 100) : L.offset (.gnss tL gps sigma) t =
    (L.offsetShown 1 (gpsTimeOf tL - gps)).offsetTaken 1 (gpsTimeOf tL - gps) t :=
  (if_neg (by simp [hs, ha])).trans ((if_neg (by simp [hsig])).trans rfl)

end

/-- Showing the offset writes no other register. -/
theorem Lane.offsetShown_get (L : Lane) (x : Rat) {g : Fld} (hg : g.addr ≠ 0x10094) : (L.offsetShown 1 x).get g = L.get g := L.get_set_addr _ hg

/-- An offset that is not valid is shown, and the source's counts start anew. -/
theorem Lane.invalidShown_spec (L : Lane) (x : Rat) :
    let M := ((L.offsetShown 1 x).set (Reg.CHR_SRC_STAT_QUAL 1) 0).onChr fun c => c.setSrc 1 { c.src 1 with run := 0 }
    M.get (Reg.CHR_SRC_STAT_QUAL 1) = 0 ∧ M.srcState 1 = L.srcState 1 ∧ M.chr = L.chr.setSrc 1 { L.chr.src 1 with run := 0 } ∧
    L.framedChr M [Reg.CHR_SRC_STAT_QUAL 1, Reg.CHR_SRC_OFS_X 1] [] := by
  have hshown : L.framedChr (L.offsetShown 1 x) [Reg.CHR_SRC_STAT_QUAL 1, Reg.CHR_SRC_OFS_X 1] [] :=
    Lane.framedChr_set _ (by decide) (by decide) (L.framedChr_refl _)
  refine ⟨?_, ?_, rfl, Lane.framedChr_onChr _ (Lane.framedChr_set 0 (by decide) (by decide) hshown)⟩
  · rw [Lane.onChr_get, Lane.get_set_fit _ _ (by decide) (by decide)]
  · rw [Lane.srcState, Lane.onChr_get, Lane.get_set_apart _ _ (by decide) (by decide) (by decide), L.offsetShown_get x (by decide)]
    rfl

/-! ### What noting an offset writes -/

section

variable (L : Lane) (k : Nat) (x t : Rat)

theorem Lane.chronOnly_offsetAged : L.chronOnly (L.offsetAged k x t) [Reg.CHR_SRC_STAT_AGE k, Reg.CHR_SRC_SIG_SPREAD k] := by
  have haged : L.chronOnly ((L.onChr fun c => c.setSrc k (L.srcNoted k x t)).set (Reg.CHR_SRC_STAT_AGE k) 0)
      [Reg.CHR_SRC_STAT_AGE k, Reg.CHR_SRC_SIG_SPREAD k] :=
    Lane.chronOnly_set 0 (by simp) (by simp) (Lane.chronOnly_onChr _ (L.chronOnly_refl _))
  exact Lane.chronOnly_ite (Lane.chronOnly_set _ (by simp) (by simp) haged) haged

theorem Lane.offsetAged_chr : (L.offsetAged k x t).chr = L.chr.setSrc k (L.srcNoted k x t) := by
  unfold Lane.offsetAged
  dsimp only
  split <;> rfl

theorem Lane.offsetCounted_chr : (L.offsetCounted k x t).chr = L.chr.setSrc k (L.srcNoted k x t) := by
  rw [← L.offsetAged_chr k x t]
  unfold Lane.offsetCounted
  split <;> rfl

/-- The chronometer's record with the offset noted: its source's alone has changed. -/
theorem Lane.offsetNoted_chr : (L.offsetNoted k x t).chr = L.chr.setSrc k { L.srcNoted k x t with qualSince := L.offsetSince k x t } := by
  rw [Lane.offsetNoted, Lane.onChr_chr, Lane.set_chr, L.offsetCounted_chr, ChronSt.src_setSrc, ChronSt.setSrc_setSrc]

/-- The fields of the Sextant's source that an offset writes. -/
def gnssFlds : List Fld :=
  [Reg.CHR_SRC_STAT_AGE 1, Reg.CHR_SRC_SIG_SPREAD 1, Reg.CHR_SRC_SIG_GATE_FAIL 1, Reg.CHR_SRC_STAT_QUAL 1, Reg.CHR_SRC_STAT_STATE 1]

theorem Lane.chronOnly_offsetNoted : L.chronOnly (L.offsetNoted 1 x t) gnssFlds := by
  have haged : L.chronOnly (L.offsetAged 1 x t) gnssFlds :=
    ⟨fun g hg ha => (L.chronOnly_offsetAged 1 x t).get_eq ⟨hg, fun f hf => ha f (List.mem_append_left _ hf)⟩, (L.chronOnly_offsetAged 1 x t).2⟩
  exact Lane.chronOnly_onChr _ (Lane.chronOnly_set _ (by decide) (by decide) (Lane.chronOnly_set _ (by decide) (by decide)
    (Lane.chronOnly_ite (Lane.chronOnly_set _ (by decide) (by decide) haged) haged)))

/-- The Sextant's source after an offset: its age, its count and its state. -/
theorem Lane.offsetNoted_reads : (L.offsetNoted 1 x t).get (Reg.CHR_SRC_STAT_AGE 1) = 0 ∧
    (L.offsetNoted 1 x t).get (Reg.CHR_SRC_STAT_QUAL 1) = min (L.get (Reg.CHR_SRC_STAT_QUAL 1) + 1) 255 ∧
    (L.offsetNoted 1 x t).srcState 1 = L.offsetState 1 x t := by
  let G := if L.outsideGate 1 x t then (L.offsetAged 1 x t).incSat (Reg.CHR_SRC_SIG_GATE_FAIL 1) else L.offsetAged 1 x t
  have hN (g : Fld) : (L.offsetNoted 1 x t).get g =
      ((G.incSat (Reg.CHR_SRC_STAT_QUAL 1)).set (Reg.CHR_SRC_STAT_STATE 1) (L.offsetState 1 x t)).get g := rfl
  have hG : (L.offsetAged 1 x t).chronOnly G [Reg.CHR_SRC_SIG_GATE_FAIL 1] :=
    Lane.chronOnly_ite (Lane.chronOnly_set _ (by decide) (by decide) (Lane.chronOnly_refl _ _)) (Lane.chronOnly_refl _ _)
  have hage : (L.offsetAged 1 x t).get (Reg.CHR_SRC_STAT_AGE 1) = 0 := by
    unfold Lane.offsetAged
    dsimp only
    split
    · rw [Lane.setScaled, Lane.setSat, Lane.get_set_addr _ _ (by decide), Lane.get_set_fit _ _ (by decide) (by decide)]
    · rw [Lane.get_set_fit _ _ (by decide) (by decide)]
  have hstate : L.offsetState 1 x t < 4 := by
    unfold Lane.offsetState
    split_ifs <;> decide
  refine ⟨?_, ?_, ?_⟩
  · rw [hN, Lane.get_set_apart _ _ (by decide) (by decide) (by decide), Lane.incSat, Lane.setSat,
      Lane.get_set_apart _ _ (by decide) (by decide) (by decide), hG.get_eq (by decide), hage]
  · rw [hN, Lane.get_set_apart _ _ (by decide) (by decide) (by decide), Lane.get_incSat _ _ 1 (by decide), hG.get_eq (by decide),
      (L.chronOnly_offsetAged 1 x t).get_eq (by decide)]
    rfl
  · rw [Lane.srcState, hN, Lane.get_set_fit _ _ (by decide) hstate]

/-- Noting the offset for the next prediction and showing the status leave the other fields. -/
theorem Lane.prevNoted_get (p : Option (Rat × Rat × Rat × Rat)) {g : Fld} (hg : g.lo + g.w ≤ 32 ∧ ∀ f ∈ chrStatFlds, g.apart f) :
    (L.prevNoted k p).chrStat.get g = L.get g := (Lane.writesOnly_chrStat _).1.get_eq hg

theorem Lane.prevNoted_chr (p : Option (Rat × Rat × Rat × Rat)) :
    (L.prevNoted k p).chrStat.chr = L.chr.setSrc k { L.chr.src k with prev := p } := Lane.chrStat_chr _

end

/-! ### The first offset (R352) -/

section

variable {L : Lane} {k : Nat} {x t : Rat}

theorem Lane.offsetTaken_first (h : (L.offsetNoted k x t).takesFirst k (L.chr.src k) = true) : L.offsetTaken k x t =
    (((L.offsetNoted k x t).firstOffset k x).prevNoted k (some (x, t, L.chr.slewAt t, L.chr.stepSum))).chrStat := by
  simp only [Lane.offsetTaken, h, if_true, Bool.true_or]

/-- The first offset selects its source and asks for the step, the servo LOCKING. -/
theorem Lane.firstOffset_spec (L : Lane) (hk : k < 16) (hne : L.selected ≠ k) (x : Rat) :
    let M := L.firstOffset k x
    M.servo = 2 ∧ M.selected = k ∧ M.chr = { L.chr.taken k with stepNext := some ⟨-x, k⟩ } ∧ L.chronOnly M selectFlds := by
  intro M
  let F := ((L.takeSource k).set Reg.CHR_SYNC_STATE 2).onChr fun c => { c with stepNext := some ⟨-x, k⟩ }
  have hM : M = F.chrStat := rfl
  have hstat := F.writesOnly_chrStat.1
  have hservo : F.get Reg.CHR_SYNC_STATE = 2 := (L.takeSource k).get_set_fit Reg.CHR_SYNC_STATE (by decide) (by decide)
  have hsel : F.get Reg.CHR_SYNC_SRC = k :=
    ((L.takeSource k).get_set_apart 2 (f := Reg.CHR_SYNC_STATE) (by decide) (by decide) (by decide)).trans (L.selected_takeSource hk)
  refine ⟨(hstat.get_eq (by decide)).trans hservo, (hstat.get_eq (by decide)).trans hsel, ?_, ?_⟩
  · rw [hM, Lane.chrStat_chr, ← Lane.takeSource_chr hne]
    rfl
  · exact Lane.chronOnly_chrStat (by decide) (Lane.chronOnly_onChr _ (Lane.chronOnly_select (List.Subset.refl _) 2 (by decide)
      (Lane.chronOnly_takeSource (List.Subset.refl _) k (L.chronOnly_refl _))))

/-- The first offset of a clock without time, of a source without history. -/
theorem Lane.offsetTaken_unset (hservo : L.servo = 0) (hsel : L.selected = 0) (hsrc : L.chr.src 1 = {}) (hst : L.srcState 1 = 1)
    (hq : 2 ≤ L.cc.qualN) (hn : L.get (Reg.CHR_SRC_STAT_QUAL 1) = 0) :
    let M := L.offsetTaken 1 x t
    M.servo = 2 ∧ M.selected = 1 ∧ M.chr.stepNext = some ⟨-x, 1⟩ ∧ M.srcState 1 = 2 ∧ M.get (Reg.CHR_SRC_STAT_QUAL 1) = 1 ∧
    M.chr.f = L.chr.f ∧ M.chr.s = L.chr.s ∧ M.chr.ns = L.chr.ns ∧ (M.chr.src 1).prev = some (x, t, L.chr.slewAt t, L.chr.stepSum) := by
  intro M
  let N := L.offsetNoted 1 x t
  have honly : L.chronOnly N gnssFlds := L.chronOnly_offsetNoted x t
  have hservoN : N.servo = 0 := (honly.get_eq (by decide)).trans hservo
  have hselN : N.selected = 0 := (honly.get_eq (by decide)).trans hsel
  have hstate : L.offsetState 1 x t = 2 := by
    have hcc : (L.offsetCounted 1 x t).cc = L.cc := honly.read (·.cc) fun _ _ _ _ => rfl
    have hrun : (L.srcNoted 1 x t).run ≤ 1 := by
      simp only [Lane.srcNoted, hsrc]
      split <;> decide
    have hgains : L.offsetGains 1 x t = false := by
      simp only [Lane.offsetGains, hcc, Bool.and_eq_false_iff, decide_eq_false_iff_not]
      omega
    simp [Lane.offsetState, hgains, hst]
  obtain ⟨-, hqual, hstateN⟩ := L.offsetNoted_reads x t
  have hM : M = _ := Lane.offsetTaken_first (show N.takesFirst 1 (L.chr.src 1) = true by simp [Lane.takesFirst, hservoN])
  obtain ⟨hservoF, hselF, hchrF, hkeep⟩ := N.firstOffset_spec (k := 1) (by decide) (by omega) x
  have hget {g : Fld} (hg : g.lo + g.w ≤ 32 ∧ ∀ f ∈ chrStatFlds, g.apart f) : M.get g = (N.firstOffset 1 x).get g := by
    rw [hM]
    exact Lane.prevNoted_get _ 1 _ hg
  have hchrM : M.chr = ({ N.chr.taken 1 with stepNext := some ⟨-x, 1⟩ } : ChronSt).setSrc 1
      { N.chr.src 1 with prev := some (x, t, L.chr.slewAt t, L.chr.stepSum) } := by
    rw [hM, Lane.prevNoted_chr, hchrF]
    rfl
  refine ⟨(hget (by decide)).trans hservoF, (hget (by decide)).trans hselF, ?_, ?_, ?_, ?_⟩
  · rw [hchrM]
    rfl
  · exact (hget (by decide)).trans ((hkeep.get_eq (by decide)).trans (hstateN.trans hstate))
  · rw [hget (by decide), hkeep.get_eq (by decide), hqual, hn]
    rfl
  · rw [hchrM, L.offsetNoted_chr 1 x t]
    exact ⟨rfl, rfl, rfl, rfl⟩

end

/-! ### Steering (R345, R353) -/

section

variable (L : Lane) (k : Nat) (x t : Rat)

/-- The frequency and the slew that an offset steers to. -/
def Lane.steerF : Rat :=
  let dt := match (L.chr.src k).prev with
    | some p => min (t - p.2.1) (L.cc.loss k) / 1000000000
    | none => 0
  clampQ (L.chr.f - x * dt / (4 * L.cc.tau k * L.cc.tau k)) (-200000) 200000
def Lane.steerS : Rat := clampQ (-x / L.cc.tau k) (-1000) 1000

/-- The offsets in a row within LOCK_TOL, and beyond twice it. -/
def Lane.lockIns : Nat := if absQ x ≤ L.cc.lockTol then L.chr.lockIn + 1 else 0
def Lane.lockOuts : Nat := if 2 * L.cc.lockTol < absQ x then L.chr.lockOut + 1 else 0

/-- The clock steered, before the lock is judged. -/
def Lane.steered : Lane :=
  ((((L.setF (L.steerF k x t)).setS t (L.steerS k x)).dropStep.onChr fun c => { c with fLearned := true, unmeasured := false }).onChr fun c =>
    { c with lockIn := L.lockIns x, lockOut := L.lockOuts x })

theorem Lane.steer_eq : L.steer k x t =
    if (L.steered k x t).servo = 2 ∧ 16 ≤ L.lockIns x then
      (((L.steered k x t).onChr fun c => { c with lockedSince := some t }).set Reg.CHR_SYNC_STATE 3).find 0x40 1
    else if (L.steered k x t).servo = 3 ∧ 16 ≤ L.lockOuts x then
      ((L.steered k x t).set Reg.CHR_SYNC_STATE 2).onChr fun c => { c with lockedSince := none }
    else L.steered k x t := (rfl)

/-- What is read of the record without the time of the lock is as it was steered. -/
theorem Lane.steer_read {α : Type} (g : ChronSt → α) (hg : ∀ (c : ChronSt) l, g { c with lockedSince := l } = g c) :
    g (L.steer k x t).chr = g (L.steered k x t).chr := by
  rw [Lane.steer_eq]
  split_ifs
  · rw [Lane.find_chr, Lane.set_chr, Lane.onChr_chr, hg]
  · rw [Lane.onChr_chr, Lane.set_chr, hg]
  · rfl

theorem Lane.chronOnly_steer : L.chronOnly (L.steer k x t) [Reg.CHR_FREQ_F, Reg.CHR_SYNC_STATE] := by
  have hfreq : L.chronOnly (L.setF (L.steerF k x t)) [Reg.CHR_FREQ_F, Reg.CHR_SYNC_STATE] :=
    Lane.chronOnly_set _ (by decide) (by decide) (Lane.chronOnly_onChr _ (L.chronOnly_refl _))
  have hsteered : L.chronOnly (L.steered k x t) [Reg.CHR_FREQ_F, Reg.CHR_SYNC_STATE] :=
    Lane.chronOnly_onChr _ (Lane.chronOnly_onChr _ (Lane.chronOnly_onChr _ (Lane.chronOnly_onChr _ hfreq)))
  rw [Lane.steer_eq]
  exact Lane.chronOnly_ite (Lane.chronOnly_find _ _ (Lane.chronOnly_set 3 (by decide) (by decide) (Lane.chronOnly_onChr _ hsteered)))
    (Lane.chronOnly_ite (Lane.chronOnly_onChr _ (Lane.chronOnly_set 2 (by decide) (by decide) hsteered)) hsteered)

/-- The record steered: frequency and slew at their resolution, no step of a source pending, the time as it was. -/
theorem Lane.steer_spec : (L.steer k x t).chr.s = ppbQ (L.steerS k x) ∧ (L.steer k x t).chr.f = ppbQ (L.steerF k x t) ∧
    (L.steer k x t).chr.ns = L.chr.ns ∧ ∀ q ∈ (L.steer k x t).chr.pend, q.src = 0 := by
  refine ⟨L.steer_read k x t (·.s) fun _ _ => rfl, L.steer_read k x t (·.f) fun _ _ => rfl, L.steer_read k x t (·.ns) fun _ _ => rfl, ?_⟩
  have hpend : (L.steer k x t).chr.pend = pendKept L.chr.pend := L.steer_read k x t (·.pend) fun _ _ => rfl
  rw [hpend]
  exact src_pendKept

end

section

variable {L : Lane} {k : Nat} {x t : Rat}

/-- An offset below 1 ms, within the gate, of the selected source of a clock that is set steers it. -/
theorem Lane.offsetTaken_small (hf : (L.offsetNoted k x t).takesFirst k (L.chr.src k) = false) (hl : L.offsetLeaves k x t = false)
    (hg : L.offsetGains k x t = false) (ho : L.outsideGate k x t = false) (hsel : (L.offsetNoted k x t).selected = k)
    (h6 : (L.offsetNoted k x t).servo ≠ 6) (hx : absQ x < 1000000) :
    L.offsetTaken k x t = ((((L.offsetNoted k x t).prevNoted k (L.chr.src k).prev).steer k x t).prevNoted k
      (some (x, t, L.chr.slewAt t, L.chr.stepSum))).chrStat := by
  simp only [Lane.offsetTaken, hf, hl, hg, ho, hsel, h6, hx, Bool.false_and, Bool.false_or, Bool.false_eq_true, ne_eq, not_true_eq_false,
    decide_false, if_false, if_true]

/-- An offset below 1 ms of the selected source of a locked clock steers frequency and slew, and nothing else of the clock. -/
theorem Lane.offsetTaken_locked {d x0 : Rat} {r : Rat × Rat × Rat} (hservo : L.servo = 3) (hsel : L.selected = 1) (hx : absQ x < 1000000)
    (hst : L.srcState 1 = 3) (hd : L.deviation 1 x t = some d) (hgate : d ≤ L.cc.gate) (hp : (L.chr.src 1).prev = some (x0, r))
    (hn : L.chr.stepNext = none) :
    let M := L.offsetTaken 1 x t
    M.chr.s = ppbQ (clampQ (-x / L.cc.tau 1) (-1000) 1000) ∧
    M.chr.f = ppbQ (clampQ (L.chr.f - x * (min (t - r.1) (L.cc.loss 1) / 1000000000) / (4 * L.cc.tau 1 * L.cc.tau 1)) (-200000) 200000) ∧
    M.srcState 1 = 3 ∧ M.selected = 1 ∧ M.get (Reg.CHR_SRC_STAT_AGE 1) = 0 ∧ M.chr.ns = L.chr.ns ∧ (∀ q ∈ M.chr.pend, q.src = 0) := by
  intro M
  let N := L.offsetNoted 1 x t
  let P := N.prevNoted 1 (L.chr.src 1).prev
  have honly : L.chronOnly N gnssFlds := L.chronOnly_offsetNoted x t
  have hservoN : N.servo = 3 := (honly.get_eq (by decide)).trans hservo
  have hselN : N.selected = 1 := (honly.get_eq (by decide)).trans hsel
  have hcc : P.cc = L.cc := honly.read (·.cc) fun _ _ _ _ => rfl
  have hinside : L.outsideGate 1 x t = false := by
    simp only [Lane.outsideGate, hd]
    exact decide_eq_false (not_lt.2 hgate)
  have hstays : L.offsetLeaves 1 x t = false := by simp [Lane.offsetLeaves, hinside]
  have hgains : L.offsetGains 1 x t = false := by simp [Lane.offsetGains, hst]
  have hnext : N.chr.stepNext = none := by
    rw [L.offsetNoted_chr 1 x t]
    exact hn
  have hnotFirst : N.takesFirst 1 (L.chr.src 1) = false := by simp [Lane.takesFirst, hservoN, hnext]
  have hM : M = _ := Lane.offsetTaken_small hnotFirst hstays hgains hinside hselN (by rw [hservoN]; decide) hx
  have hchrP : P.chr = L.chr.setSrc 1 { L.srcNoted 1 x t with qualSince := L.offsetSince 1 x t, prev := (L.chr.src 1).prev } := by
    show N.chr.setSrc 1 { N.chr.src 1 with prev := (L.chr.src 1).prev } = _
    rw [L.offsetNoted_chr 1 x t, ChronSt.src_setSrc, ChronSt.setSrc_setSrc]
  have hfreq : P.steerF 1 x t =
      clampQ (L.chr.f - x * (min (t - r.1) (L.cc.loss 1) / 1000000000) / (4 * L.cc.tau 1 * L.cc.tau 1)) (-200000) 200000 := by
    simp only [Lane.steerF, hchrP, ChronSt.src_setSrc, hp, hcc]
    rfl
  have hslew : P.steerS 1 x = clampQ (-x / L.cc.tau 1) (-1000) 1000 := by rw [Lane.steerS, hcc]
  obtain ⟨hs, hf, hns, hpend⟩ := P.steer_spec 1 x t
  obtain ⟨hage, -, hstateN⟩ := L.offsetNoted_reads x t
  have hget {g : Fld} (hg : g.lo + g.w ≤ 32 ∧ ∀ f ∈ Reg.CHR_FREQ_F :: Reg.CHR_SYNC_STATE :: chrStatFlds, g.apart f) : M.get g = N.get g := by
    obtain ⟨hfit, ha⟩ := hg
    rw [hM, Lane.prevNoted_get _ 1 _ ⟨hfit, fun f hf => ha f (by simp [hf])⟩]
    exact (P.chronOnly_steer 1 x t).get_eq ⟨hfit, fun f hf => ha f (List.mem_append_left chrStatFlds hf)⟩
  have hchr : M.chr = (P.steer 1 x t).chr.setSrc 1 { (P.steer 1 x t).chr.src 1 with prev := some (x, t, L.chr.slewAt t, L.chr.stepSum) } := by
    rw [hM, Lane.prevNoted_chr]
  refine ⟨?_, ?_, ?_, (hget (by decide)).trans hselN, (hget (by decide)).trans hage, ?_, ?_⟩
  · rw [hchr, ← hslew, ← hs]
    rfl
  · rw [hchr, ← hfreq, ← hf]
    rfl
  · refine (hget (by decide)).trans (hstateN.trans ?_)
    simp [Lane.offsetState, hstays, hgains, hst]
  · rw [hchr]
    refine Eq.trans ?_ (hns.trans ?_)
    · rfl
    · rw [hchrP]
      rfl
  · rw [hchr]
    exact hpend

end

/-- Settles O34: each command by the lane it leaves, an offset taken in by its stages. -/
theorem timeSources : Obligations.TimeSources := by
  unfold Obligations.TimeSources
  intro s l
  dsimp only
  have hshown (x : Rat) {g : Fld} (hg : g.addr ≠ 0x10094) := (s.lane l).offsetShown_get x hg
  refine ⟨?snap, fun tL gps sigma t h => ?noOffset, fun tL gps sigma t hs ha hsig => ?invalid,
    fun tL gps sigma t x hx hservo hsel ha hsig hsrc hst hq hn hstep => ?first,
    fun tL gps sigma t x d x0 r hx hservo hsel ha hsig hsmall hst hd hgate hp hn => ?steers,
    fun k h1 h4 h hage hsel => ?lost, fun k t h1 h4 hq h3 h0 ha hr ht hl => ?reverts, fun mask hm ha => ?disables, fun mask ha => ?noMask⟩
  case snap => exact onLane_of_exec rfl (s.lane l).snap_spec
  case noOffset => exact idle_of_exec rfl (Lane.offset_none h)
  case invalid => exact onLane_of_eq rfl (Lane.offset_invalid hs ha hsig) ((s.lane l).invalidShown_spec _)
  case first =>
    subst hx
    exact onLane_of_eq rfl (Lane.offset_valid (by omega) ha hsig) (Lane.offsetTaken_unset ((hshown _ (by decide)).trans hservo)
      ((hshown _ (by decide)).trans hsel) hsrc ((hshown _ (by decide)).trans hst) hq ((hshown _ (by decide)).trans hn))
  case steers =>
    subst hx
    exact onLane_of_eq rfl (Lane.offset_valid (by omega) ha hsig) (Lane.offsetTaken_locked ((hshown _ (by decide)).trans hservo)
      ((hshown _ (by decide)).trans hsel) hsmall ((hshown _ (by decide)).trans hst) hd hgate hp hn)
  case lost => exact onLane_of_eq rfl (Lane.sourceLoss_due h hage hsel) ((s.lane l).srcCleared_spec k (by decide))
  case reverts =>
    have hne : (s.lane l).selected ≠ k := fun he => by
      rw [he] at hr
      exact absurd hr (lt_irrefl _)
    exact onLane_of_eq rfl (Lane.sourceRevert_due hq h3 h0 ha hr ht) (Lane.takeSource_switches (by omega) hne h0 hl)
  case disables => exact onLane_of_exec rfl (Lane.writeSrcDis_spec hm ha)
  case noMask => exact idle_of_exec rfl (Lane.writeSrcDis_inactive ha)

end Sys2Proof.Machine
end

section
/-! PTP and PPS (09 R362-R368, R371, R372): the lane after each message, each write and each edge. -/

namespace Sys2Proof.Machine

open Sys2Proof

/-! ### The best master and the offset of UTC it brings (R343, R364) -/

/-- Of the chronometer's record nothing differs but what tells UTC, of the registers none below the chronometer's page. -/
def Lane.utcOnly (L M : Lane) : Prop :=
  { M.chr with utcPtp := L.chr.utcPtp, leap := L.chr.leap } = L.chr ∧ ∀ g : Fld, g.addr < 0x10000 → M.get g = L.get g

section

variable {L M N : Lane}

theorem Lane.utcOnly_refl (L : Lane) : L.utcOnly L := ⟨rfl, fun _ _ => rfl⟩

theorem Lane.utcOnly_set {f : Fld} (v : Nat) (hf : 0x10000 ≤ f.addr) (h : L.utcOnly M) : L.utcOnly (M.set f v) :=
  ⟨h.1, fun g hg => (Lane.get_set_addr _ _ (by omega)).trans (h.2 g hg)⟩

theorem Lane.utcOnly_setAll (r : List (Fld × Nat)) : ∀ {M : Lane}, (∀ p ∈ r, 0x10000 ≤ p.1.addr) → L.utcOnly M → L.utcOnly (M.setAll r) := by
  induction r with
  | nil => exact fun _ h => h
  | cons p r ih =>
    intro M hr h
    obtain ⟨hp, hr⟩ := List.forall_mem_cons.1 hr
    exact ih hr (Lane.utcOnly_set p.2 hp h)

theorem Lane.utcOnly_findIf (b : Bool) (p e : Nat) (h : L.utcOnly M) : L.utcOnly (M.findIf b p e) := by cases b <;> exact h

theorem Lane.utcOnly_ite {p : Prop} [Decidable p] (hM : L.utcOnly M) (hN : L.utcOnly N) : L.utcOnly (if p then M else N) := by
  split_ifs <;> assumption

/-- What is read of the record without UTC reads the same. -/
theorem Lane.utcOnly.read {α : Type} (h : L.utcOnly M) (g : ChronSt → α) (hg : ∀ (c : ChronSt) u p, g { c with utcPtp := u, leap := p } = g c) :
    g M.chr = g L.chr := (hg M.chr L.chr.utcPtp L.chr.leap).symm.trans (congrArg g h.1)

theorem Lane.utcOnly_utcUpdate (h : L.utcOnly M) : L.utcOnly M.utcUpdate := by
  unfold Lane.utcUpdate
  split
  exact Lane.utcOnly_findIf _ _ _ (Lane.utcOnly_setAll _ (by simp) h)

theorem Lane.utcOnly_setLeap (p : Option LeapPend) (h : L.utcOnly M) : L.utcOnly (M.setLeap p) :=
  Lane.utcOnly_findIf _ _ _ (Lane.utcOnly_set _ (by decide) (Lane.utcOnly_set _ (by decide)
    (show L.utcOnly (M.onChr fun c => { c with leap := p }) from h)))

theorem Lane.utcOnly_ptpUtc (d : Nat) (best : Option PtpDs) (h : L.utcOnly M) : L.utcOnly (M.ptpUtc d best) := by
  unfold Lane.ptpUtc
  refine Lane.utcOnly_ite ?_ h
  cases best with
  | none => exact h
  | some b =>
    have hutc : L.utcOnly (M.onChr fun c => { c with utcPtp := b.utc }).utcUpdate := Lane.utcOnly_utcUpdate h
    exact Lane.utcOnly_ite hutc (Lane.utcOnly_setLeap _ hutc)

theorem Lane.utcOnly_showGm (d : Nat) (best : Option PtpDs) (own : Bool) (st : Nat × Nat) (h : L.utcOnly M) :
    L.utcOnly (M.showGm d best own st) := by
  unfold Lane.showGm
  refine Lane.utcOnly_findIf _ _ _ ?_
  have hid (hi lo : Nat) : L.utcOnly (((M.setAll [(Reg.PTP_STAT_PORT_A d, st.1), (Reg.PTP_STAT_PORT_B d, st.2)]).setb (Reg.PTP_STAT_IS_GM d) own).setAll
      [(Reg.PTP_GM_HI_ID d, hi), (Reg.PTP_GM_LO_ID d, lo)]) :=
    Lane.utcOnly_setAll _ (by simp; omega) (Lane.utcOnly_set _ (by simp; omega) (Lane.utcOnly_setAll _ (by simp; omega) h))
  cases best with
  | none => exact Lane.utcOnly_set _ (by simp; omega) (hid _ _)
  | some b => exact Lane.utcOnly_set _ (by simp; omega) (Lane.utcOnly_setAll _ (by simp; omega) (hid _ _))

/-- The BMCA changes what the registers show and what tells UTC, nothing else of the chronometer. -/
theorem Lane.utcOnly_bmca (L : Lane) (d : Nat) : L.utcOnly (L.bmca d) :=
  Lane.utcOnly_ite L.utcOnly_refl (Lane.utcOnly_ptpUtc _ _ (Lane.utcOnly_showGm _ _ _ _ L.utcOnly_refl))

end

/-! ### Messages received (R362-R364, R371) -/

/-- A master heard on a port, or gone from it. -/
def PtpInst.hears (p : PtpInst) (port : Nat) (m : Option PtpDs) : PtpInst := if port = 0 then { p with portA := m } else { p with portB := m }

/-- A master heard on a port of a domain, or gone from it. -/
def Lane.portHears (L : Lane) (d port : Nat) (m : Option PtpDs) : Lane := L.onChr fun c => c.setDom d ((c.dom d).hears port m)

section

variable {L : Lane} {d port : Nat} {m : PtpMsg}

/-- The port's master is the one heard, and the other port's stands. -/
theorem PtpInst.hears_spec (p : PtpInst) (port : Nat) (m : Option PtpDs) :
    (if port = 0 then (p.hears port m).portA else (p.hears port m).portB) = m ∧
    (if port = 0 then (p.hears port m).portB = p.portB else (p.hears port m).portA = p.portA) := by
  unfold PtpInst.hears
  by_cases h : port = 0 <;> simp [h]

/-- A port's master before the BMCA is its master after it; frequency, slew and time stand. -/
theorem Lane.portHears_bmca (L : Lane) (d port : Nat) (m : Option PtpDs) :
    let M := (L.portHears d port m).bmca d
    (if port = 0 then (M.chr.dom d).portA else (M.chr.dom d).portB) = m ∧
    (if port = 0 then (M.chr.dom d).portB = (L.chr.dom d).portB else (M.chr.dom d).portA = (L.chr.dom d).portA) ∧
    M.chr.f = L.chr.f ∧ M.chr.s = L.chr.s ∧ M.chr.ns = L.chr.ns := by
  intro M
  have hbmca : (L.portHears d port m).utcOnly M := Lane.utcOnly_bmca _ d
  have hdom : M.chr.dom d = (L.chr.dom d).hears port m := (hbmca.read (·.dom d) fun _ _ _ => rfl).trans (ChronSt.dom_setDom _ _ _)
  have hkeep {α : Type} (g : ChronSt → α) (hu : ∀ (c : ChronSt) u p, g { c with utcPtp := u, leap := p } = g c)
      (hd : ∀ (c : ChronSt) p q, g { c with dom0 := p, dom1 := q } = g c) : g M.chr = g L.chr :=
    (hbmca.read g hu).trans (L.chr.read_setDom d _ g hd)
  obtain ⟨hport, hother⟩ := (L.chr.dom d).hears_spec port m
  rw [hdom]
  exact ⟨hport, hother, hkeep (·.f) (fun _ _ _ => rfl) fun _ _ _ => rfl, hkeep (·.s) (fun _ _ _ => rfl) fun _ _ _ => rfl,
    hkeep (·.ns) (fun _ _ _ => rfl) fun _ _ _ => rfl⟩

theorem Lane.ptpReceive_disabled (h : (L.cc.dom d).enable = false) : L.ptpReceive d port m = L := if_pos (by simp [h])

variable (he : (L.cc.dom d).enable = true)
include he

theorem Lane.ptpReceive_sync : L.ptpReceive d port .sync = L.incWrap (Reg.PTP_CNT_RX_SYNC d) := if_neg (by simp [he])

theorem Lane.ptpReceive_unsupported : L.ptpReceive d port .unsupported = L.incSat (Reg.PTP_CNT_DISCARD d) := if_neg (by simp [he])

theorem Lane.ptpReceive_announce (ds : PtpDs) : L.ptpReceive d port (.announce ds) = (L.portHears d port (some ds)).bmca d :=
  if_neg (by simp [he])

theorem Lane.ptpReceive_ignored (hm : m ∈ [PtpMsg.followUp, .delayReq, .ignored]) : L.ptpReceive d port m = L := by
  refine (if_neg (by simp [he])).trans ?_
  simp only [List.mem_cons, List.not_mem_nil, or_false] at hm
  rcases hm with rfl | rfl | rfl <;> rfl

theorem Lane.ptpReceive_delay_coasting (x : Rat) (hc : L.coasting = true) : L.ptpReceive d port (.delay x) = L :=
  (if_neg (by simp [he])).trans (if_pos hc)

/-- A delay measured is one of the domain's last eight, and their mean is shown. -/
theorem Lane.ptpReceive_delay (x : Rat) (hc : L.coasting = false) :
    let M := L.ptpReceive d port (.delay x)
    (M.chr.dom d).delays = (x :: (L.chr.dom d).delays).take 8 ∧ L.framedChr M [Reg.PTP_MPD_DELAY d] [] := by
  have hM : L.ptpReceive d port (.delay x) =
      let N := L.onChr fun c => c.setDom d { c.dom d with delays := (x :: (c.dom d).delays).take 8 }
      N.setScaled (Reg.PTP_MPD_DELAY d) (meanQ (N.chr.dom d).delays) 1 := (if_neg (by simp [he])).trans (if_neg (by simp [hc]))
  rw [hM]
  exact ⟨congrArg PtpInst.delays (ChronSt.dom_setDom L.chr d _),
    Lane.framedChr_set (f := Reg.PTP_MPD_DELAY d) _ (by simp) (by simp) (Lane.framedChr_onChr _ (L.framedChr_refl _))⟩

end

/-! ### Messages sent (R365) -/

section

variable {L : Lane} {d : Nat} {m : PtpTx}

/-- A domain's numbers after a message of a grandmaster, and of another clock. -/
def PtpInst.numbered (p : PtpInst) (gm : Bool) : PtpTx → PtpInst
  | .sync => if gm then { p with seqSync := (p.seqSync + 1) % 65536 } else p
  | .announce => if gm then { p with seqAnnounce := (p.seqAnnounce + 1) % 65536 } else p
  | .delayReq => p

/-- The numbers of what a domain sends: that of a grandmaster's own kind goes up by one. -/
theorem PtpInst.numbered_spec (p : PtpInst) (gm : Bool) (m : PtpTx) :
    (p.numbered gm m).seqSync = (if m = .sync ∧ gm = true then (p.seqSync + 1) % 65536 else p.seqSync) ∧
    (p.numbered gm m).seqAnnounce = (if m = .announce ∧ gm = true then (p.seqAnnounce + 1) % 65536 else p.seqAnnounce) := by
  cases m <;> cases gm <;> simp [PtpInst.numbered]

theorem Lane.ptpTransmit_none (h : (L.cc.dom d).enable = false ∨ (L.coasting = true ∧ m ≠ .announce)) : L.ptpTransmit d m = L :=
  if_pos (h.imp_left fun he => by simp [he])

/-- A message sent numbers its domain, beside what the BMCA makes of the lane. -/
theorem Lane.ptpTransmit_sent (he : (L.cc.dom d).enable = true) (h : L.coasting = false ∨ m = .announce) :
    L.ptpTransmit d m = (L.bmca d).onChr fun c =>
      c.setDom d ((c.dom d).numbered ((L.bmca d).active && (L.bmca d).flag (Reg.PTP_STAT_IS_GM d)) m) := by
  have hstay : L.bmca d = (L.bmca d).onChr fun c => c.setDom d (c.dom d) :=
    congrArg (fun c => (L.bmca d).onChr fun _ => c) ((L.bmca d).chr.setDom_dom d).symm
  refine (if_neg ?_).trans ?_
  · rcases h with h | h <;> simp [he, h]
  · dsimp only
    cases (L.bmca d).active && (L.bmca d).flag (Reg.PTP_STAT_IS_GM d) with
    | true => cases m with
      | sync | announce => exact if_pos rfl
      | delayReq => exact hstay
    | false => cases m with
      | sync | announce => exact (if_neg Bool.false_ne_true).trans hstay
      | delayReq => exact hstay

/-- The numbers of a domain after a message sent: those of an active grandmaster's own kind go up by one. -/
theorem Lane.ptpTransmit_numbers (he : (L.cc.dom d).enable = true) (h : L.coasting = false ∨ m = .announce) :
    let M := L.ptpTransmit d m
    (M.chr.dom d).seqSync = (if m = .sync ∧ L.active = true ∧ M.flag (Reg.PTP_STAT_IS_GM d) = true then ((L.chr.dom d).seqSync + 1) % 65536
      else (L.chr.dom d).seqSync) ∧
    (M.chr.dom d).seqAnnounce = (if m = .announce ∧ L.active = true ∧ M.flag (Reg.PTP_STAT_IS_GM d) = true then
      ((L.chr.dom d).seqAnnounce + 1) % 65536 else (L.chr.dom d).seqAnnounce) := by
  intro M
  have hM : M = _ := Lane.ptpTransmit_sent he h
  have hbmca := L.utcOnly_bmca d
  have hactive : (L.bmca d).active = L.active := congrArg (· != 0) (hbmca.2 Reg.LANE_STAT_ACTIVE (by decide))
  have hdom : (L.bmca d).chr.dom d = L.chr.dom d := hbmca.read (·.dom d) fun _ _ _ => rfl
  have hnumbers := (L.chr.dom d).numbered_spec (L.active && M.flag (Reg.PTP_STAT_IS_GM d)) m
  simp only [Bool.and_eq_true] at hnumbers
  have hdomM : M.chr.dom d = (L.chr.dom d).numbered (L.active && M.flag (Reg.PTP_STAT_IS_GM d)) m := by
    rw [hM, Lane.onChr_chr, ChronSt.dom_setDom, hdom, hactive]
    rfl
  rwa [← hdomM] at hnumbers

end

/-! ### Registers written (R367, R371, R372) -/

section

variable {L : Lane} {d v : Nat}

theorem Lane.writeAsym_inactive (ha : L.active = false) : L.writeAsym d v = L := if_neg (by simp [ha])

theorem Lane.writeAsym_taken (ha : L.active = true) : L.writeAsym d v = L.set (Reg.PTP_ASYM_ASYM d) v := if_pos ha

theorem Lane.writePps_inactive (delay : Bool) (ha : L.active = false) : L.writePps d delay v = L := if_pos (by simp [ha])

/-- New values of a PPS output change, beside registers, the output's own record. -/
theorem Lane.framedChr_ppsNew {M : Lane} {fs : List Fld} {es : List (Nat × Nat)} (h : L.framedChr M fs es) : L.framedChr (M.ppsNew d) fs es := h

theorem Lane.get_ppsNew (L : Lane) (d : Nat) (f : Fld) : (L.ppsNew d).get f = L.get f := (rfl)

/-- PPS_DELAY takes a delay of 2000 ns or less. -/
theorem Lane.writePps_delay (ha : L.active = true) :
    let M := L.writePps d true v
    M.get (Reg.PPS_DELAY_DELAY d) = (if v % 2 ^ 13 ≤ 8000 then v % 2 ^ 13 else L.get (Reg.PPS_DELAY_DELAY d)) ∧
    L.framedChr M [Reg.PPS_DELAY_DELAY d] [] := by
  have hM : L.writePps d true v = (if v % 2 ^ 13 ≤ 8000 then L.set (Reg.PPS_DELAY_DELAY d) v else L).ppsNew d := if_neg (by simp [ha])
  have hset := L.get_set_same (Reg.PPS_DELAY_DELAY d) v (by simp)
  rw [hM]
  refine ⟨?_, Lane.framedChr_ppsNew (Lane.framedChr_ite (Lane.framedChr_set _ (by simp) (by simp) (L.framedChr_refl _)) (L.framedChr_refl _))⟩
  rw [Lane.get_ppsNew, apply_ite (Lane.get · (Reg.PPS_DELAY_DELAY d)), hset]

/-- PPS_CFG takes a width of 1 to 500 ms and a mode of 0 to 2, each on its own. -/
theorem Lane.writePps_cfg (ha : L.active = true) :
    let M := L.writePps d false v
    M.get (Reg.PPS_CFG_WIDTH d) = (if 1 ≤ v % 512 ∧ v % 512 ≤ 500 then v % 512 else L.get (Reg.PPS_CFG_WIDTH d)) ∧
    M.get (Reg.PPS_CFG_MODE d) = (if v / 2 ^ 16 % 4 ≤ 2 then v / 2 ^ 16 % 4 else L.get (Reg.PPS_CFG_MODE d)) ∧
    L.framedChr M [Reg.PPS_CFG_WIDTH d, Reg.PPS_CFG_MODE d] [] := by
  let W := if 1 ≤ v % 512 ∧ v % 512 ≤ 500 then L.set (Reg.PPS_CFG_WIDTH d) (v % 512) else L
  have hM : L.writePps d false v = (if v / 2 ^ 16 % 4 ≤ 2 then W.set (Reg.PPS_CFG_MODE d) (v / 2 ^ 16 % 4) else W).ppsNew d := if_neg (by simp [ha])
  have hframe : L.framedChr W [Reg.PPS_CFG_WIDTH d, Reg.PPS_CFG_MODE d] [] :=
    Lane.framedChr_ite (Lane.framedChr_set _ (by simp) (by simp) (L.framedChr_refl _)) (L.framedChr_refl _)
  have hwidth : W.get (Reg.PPS_CFG_WIDTH d) = if 1 ≤ v % 512 ∧ v % 512 ≤ 500 then v % 512 else L.get (Reg.PPS_CFG_WIDTH d) := by
    rw [apply_ite (Lane.get · (Reg.PPS_CFG_WIDTH d)), L.get_set_fit (Reg.PPS_CFG_WIDTH d) (v := v % 512) (by simp) (show v % 512 < 512 by omega)]
  have hmode : W.get (Reg.PPS_CFG_MODE d) = L.get (Reg.PPS_CFG_MODE d) := by
    rw [apply_ite (Lane.get · (Reg.PPS_CFG_MODE d)), L.get_set_apart _ (by simp) (by simp) (.inr (.inr (show 0 + 9 ≤ 16 by decide))), ite_self]
  rw [hM]
  refine ⟨?_, ?_, Lane.framedChr_ppsNew (Lane.framedChr_ite (Lane.framedChr_set _ (by simp) (by simp) hframe) hframe)⟩
  · rw [Lane.get_ppsNew, apply_ite (Lane.get · (Reg.PPS_CFG_WIDTH d)), W.get_set_apart _ (by simp) (by simp) (.inr (.inl (show 0 + 9 ≤ 16 by decide))),
      ite_self, hwidth]
  · rw [Lane.get_ppsNew, apply_ite (Lane.get · (Reg.PPS_CFG_MODE d)), W.get_set_fit (Reg.PPS_CFG_MODE d) (v := v / 2 ^ 16 % 4) (by simp) (show v / 2 ^ 16 % 4 < 4 by omega), hmode]

end

/-! ### Edges (R367) -/

section

variable {L : Lane} {d : Nat}

/-- The width and delay in force at an edge: those of the registers, unless these apply later. -/
def Lane.ppsInForce (L : Lane) (d : Nat) (x : PpsSt) : PpsSt :=
  let y := { x with width := L.get (Reg.PPS_CFG_WIDTH d), delay := (L.get (Reg.PPS_DELAY_DELAY d) : Rat) / 4 }
  match x.newAt with
  | some n => if n < L.now then { y with newAt := none } else x
  | none => y

/-- A PPS output risen, until its width is over. -/
def Lane.ppsRisen (L : Lane) (d : Nat) (x : PpsSt) : PpsSt :=
  let y := L.ppsInForce d x
  { y with highUntil := some (L.now - y.delay + 1000000 * (y.width : Rat)) }

theorem Lane.ppsEdge_none (h : L.ppsMay d = false) : L.ppsEdge d = L := if_neg (by simp [h])

theorem Lane.ppsEdge_rises (h : L.ppsMay d = true) :
    L.ppsEdge d = L.onChr fun c => if d = 0 then { c with pps0 := L.ppsRisen d c.pps0 } else { c with pps1 := L.ppsRisen d c.pps1 } := if_pos h

/-- An output that rises is high for its width; without new values to come these are the registers'. -/
theorem Lane.ppsRisen_spec (L : Lane) (d : Nat) (x : PpsSt) :
    (L.ppsRisen d x).highUntil = some (L.now - (L.ppsRisen d x).delay + 1000000 * ((L.ppsRisen d x).width : Rat)) ∧
    (x.newAt = none → (L.ppsRisen d x).width = L.get (Reg.PPS_CFG_WIDTH d) ∧
      (L.ppsRisen d x).delay * 4 = (L.get (Reg.PPS_DELAY_DELAY d) : Rat)) := by
  refine ⟨rfl, fun h => ?_⟩
  simp only [Lane.ppsRisen, Lane.ppsInForce, h, true_and]
  exact div_mul_cancel₀ _ (by norm_num)

/-- The edge of a PPS output that may rise changes that output's record. -/
theorem Lane.ppsEdge_spec (h : L.ppsMay d = true) :
    let M := L.ppsEdge d
    let x := if d = 0 then M.chr.pps0 else M.chr.pps1
    x.highUntil = some (L.now - x.delay + 1000000 * (x.width : Rat)) ∧
    ((if d = 0 then L.chr.pps0 else L.chr.pps1).newAt = none →
      x.width = L.get (Reg.PPS_CFG_WIDTH d) ∧ x.delay * 4 = L.get (Reg.PPS_DELAY_DELAY d)) ∧ L.framedChr M [] [] := by
  intro M x
  have hM : M = _ := Lane.ppsEdge_rises h
  have hx : x = L.ppsRisen d (if d = 0 then L.chr.pps0 else L.chr.pps1) := by
    simp only [x, hM, Lane.onChr_chr]
    split <;> rfl
  obtain ⟨hhigh, hnew⟩ := L.ppsRisen_spec d (if d = 0 then L.chr.pps0 else L.chr.pps1)
  rw [← hx] at hhigh hnew
  exact ⟨hhigh, hnew, hM ▸ Lane.framedChr_onChr _ (L.framedChr_refl _)⟩

end

/-- Settles O36: messages, writes and edges by what each makes of the lane. -/
theorem ptpAndPps : Obligations.PtpAndPps := by
  unfold Obligations.PtpAndPps
  intro s l d port _ _
  dsimp only
  refine ⟨fun m he => ?disabled, fun he => ⟨?sync, ?unsupported, fun ds => ?announce, fun x hc => ?noDelay, fun x hc => ?delay, fun m hm => ?ignored⟩,
    ?timeout, fun m h => ?notSent, fun m he h => ?sent, fun v hv ha => ⟨?asym, ?delayWritten, ?cfgWritten⟩, fun v delay ha => ⟨?noAsym, ?noCfg⟩,
    fun h => ?rises, fun h => ?low⟩
  case disabled => exact idle_of_exec rfl (Lane.ptpReceive_disabled he)
  case sync =>
    exact onLane_of_eq rfl (Lane.ptpReceive_sync he) ⟨Lane.get_set_same _ _ _ (by simp),
      Lane.framed_set _ (by simp) (by simp) (Lane.framed_refl _ _)⟩
  case unsupported =>
    exact onLane_of_eq rfl (Lane.ptpReceive_unsupported he) ⟨Lane.get_incSat _ _ 1 (by simp),
      Lane.framed_incSat 1 (by simp) (by simp) (Lane.framed_refl _ _)⟩
  case announce => exact onLane_of_eq rfl (Lane.ptpReceive_announce he ds) ((s.lane l).portHears_bmca d port (some ds))
  case noDelay => exact idle_of_exec rfl (Lane.ptpReceive_delay_coasting he x hc)
  case delay => exact onLane_of_exec rfl (Lane.ptpReceive_delay he x hc)
  case ignored => exact idle_of_exec rfl (Lane.ptpReceive_ignored he hm)
  case timeout =>
    obtain ⟨hgone, hother, -, -, hns⟩ := (s.lane l).portHears_bmca d port none
    exact onLane_of_exec rfl ⟨hgone, hother, hns⟩
  case notSent => exact idle_of_exec rfl (Lane.ptpTransmit_none h)
  case sent => exact onLane_of_exec rfl (Lane.ptpTransmit_numbers he h)
  case asym =>
    exact onLane_of_eq rfl (Lane.writeAsym_taken ha) ⟨Lane.get_set_fit _ _ (by simp) hv, Lane.framed_set _ (by simp) (by simp) (Lane.framed_refl _ _)⟩
  case delayWritten => exact onLane_of_exec rfl (Lane.writePps_delay ha)
  case cfgWritten => exact onLane_of_exec rfl (Lane.writePps_cfg ha)
  case noAsym => exact idle_of_exec rfl (Lane.writeAsym_inactive ha)
  case noCfg => exact idle_of_exec rfl (Lane.writePps_inactive delay ha)
  case rises => exact onLane_of_exec rfl (Lane.ppsEdge_spec h)
  case low => exact idle_of_exec rfl (Lane.ppsEdge_none h)

end Sys2Proof.Machine
end
